-- ==== Sys2Proof/Word.lean ====
section
/-!
DEFINITION. The word type of the WG3 and its plainest arithmetic: 32-bit little-endian registers (R7),
bytes, and the two fixed-point conventions of R436.
-/

namespace Sys2Proof

/-- A register of the WG3 window is 32 bits wide (R7). -/
abbrev Word := BitVec 32

/-- A byte of an SRAM or of host memory. -/
abbrev Byte := BitVec 8

/-- `round(v) = floor(v + 1/2)`, halves toward plus infinity (R436). -/
def roundQ (v : Rat) : Int := (v + 1 / 2).floor

/-- `ceil` rounds toward plus infinity (R436). -/
def ceilQ (v : Rat) : Int := v.ceil

/-- `clamp(v, lo, hi)` as the formulas of the spec use it. -/
def clampI (v lo hi : Int) : Int := max lo (min v hi)

/-- The low `w` bits of a number: what a field of `w` bits keeps of it. -/
def lowBits (w v : Nat) : Nat := v % 2 ^ w

/-- Bits `[lo + w - 1 : lo]` of a number. -/
def bitsOf (v lo w : Nat) : Nat := v / 2 ^ lo % 2 ^ w

/-- The unsigned code of a signed value in `w` bits, two's complement. -/
def toCode (w : Nat) (v : Int) : Nat := (v % (2 ^ w : Int)).toNat

/-- The signed value of a `w`-bit two's complement code. -/
def ofCode (w c : Nat) : Int :=
  if c % 2 ^ w < 2 ^ (w - 1) then (c % 2 ^ w : Nat) else (c % 2 ^ w : Nat) - (2 ^ w : Int)

/-- Saturating addition at `hi`. -/
def satAdd (hi a b : Nat) : Nat := min hi (a + b)

end Sys2Proof
end

