-- ==== Sys2Proof/Kinds.lean ====
section
/-!
DEFINITION. The named alternatives and records that the commands carry as operands: which rail, which command
port, which access path, and the readings that the analogue world and the engine give an event.
-/

namespace Sys2Proof

/-- Field numbers run from 0 to 83 (R2). -/
abbrev FieldNo := Fin 84
/-- Local parcel slots run from 0 to 671 (R3). -/
abbrev SlotNo := Fin 672
/-- Ticket slots run from 0 to 1023 in each field (R149). -/
abbrev TSlotNo := Fin 1024
/-- The twelve parcel rings of a field, 56 slots each (R23). -/
abbrev RingNo := Fin 12
/-- Survey-cycle offset within a tick (R34). -/
abbrev ScOff := Fin 2048
/-- The 87 processors: 0 to 83 fields, 84 H0, 85 H1, 86 H2 (Table 12.1). -/
abbrev ProcNo := Fin 87
/-- The six tie-line ports (R217). -/
abbrev TieNo := Fin 6
/-- Phases of a field: 0 to 15 VCORE, 16 to 19 VSRAM (R174). -/
abbrev PhaseNo := Fin 20
/-- Fault source bits of Table 13.1. -/
abbrev SourceNo := Fin 32
/-- The 256 job power contexts (R137). -/
abbrev CtxNo := Fin 256

/-- The two rails of a field (R174). -/
inductive Rail where
  | core | sram
  deriving DecidableEq, Repr

/-- The three levels of PH_PWM (R174). -/
inductive PwmLevel where
  | high | low | mid
  deriving DecidableEq, Repr

/-- The three command ports (R373). -/
inductive CmdPort where
  | host | bmc | debug
  deriving DecidableEq, Repr

/-- The access paths to the register window, which latch a high half separately (R420). -/
inductive Path where
  | fabric | i3c | proc (p : ProcNo)
  deriving DecidableEq, Repr

/-- Kinds of thermal sensor (R151, Table 7.6 SRC_KIND). -/
inductive SensorKind where
  | parcel | spare | bench
  deriving DecidableEq, Repr

/-- Which SRAM (R321). -/
inductive MemId where
  | hub | field (f : FieldNo)
  deriving DecidableEq, Repr

/-- A page of the register window: hub page `i` or page `i` of field `f` (Table 18.1). -/
inductive PageId where
  | hub (i : Fin 25) | field (f : FieldNo) (i : Fin 16)
  deriving DecidableEq, Repr

/-- Why every SHED phase of a rail is restored (R181). -/
inductive RestoreCause where
  | predicted | committed | fast
  deriving DecidableEq, Repr

/-- Latch-off causes of Table 8.4. -/
inductive LatchCause where
  | ssShort | ssTimeout | runShort | railOv | phaseLoss
  deriving DecidableEq, Repr

/-- Causes of an immediate halt (R258), without the tie line, which has its own command. -/
inductive HaltCause where
  | command | severe | thermal | tie
  deriving DecidableEq, Repr

/-- Why a tie-line port goes DOWN (R219). -/
inductive TieDownCause where
  | alignment | silence | crc | probe
  deriving DecidableEq, Repr

/-- What was lost in a CLOCK_LOSS event (Table 13.1). -/
inductive ClockSource where
  | refclk | surveyPll | enginePll
  deriving DecidableEq, Repr

/-- A host command as captured at its submission (R374, R375). -/
structure Cmd where
  /-- Port the command was submitted on. -/
  port : CmdPort
  /-- Sequence number written to CMD_SUBMIT. -/
  seq : BitVec 16
  /-- OPTIONS, bits [15:8] of descriptor word 0. -/
  opts : Byte
  /-- ARG0 to ARG14. -/
  args : Vector Word 15
  /-- Survey-cycle offset of its execution. -/
  sc : ScOff
  deriving DecidableEq, Repr

/-- Activity of the 16 cores of one parcel in the tick that a mark ends (R47). -/
structure Latched where
  field : FieldNo
  slot : SlotNo
  /-- Events of each core, by counter. -/
  events : Vector (Vector Word 12) 16
  /-- Bit k: core k counts without the limit per cycle, as a faulty counter may. -/
  faulty : BitVec 16
  deriving DecidableEq, Repr

/-- A benchmark conversion latched at a tick mark (R153). -/
structure BenchIn where
  field : FieldNo
  bench : Fin 8
  valid : Bool
  /-- 1/8 °C, two's complement. -/
  raw : BitVec 16
  deriving DecidableEq, Repr

/-- What a tick mark samples from outside: core counters, benchmark sensors, VIN means and board pins. -/
structure TickIn where
  /-- Parcels whose counters are not all zero; every other parcel latches zeros. -/
  latched : List Latched
  /-- Benchmarks converted at this mark; one not listed keeps its reading. -/
  bench : List BenchIn
  /-- Mean VIN of the tick that ends, in mV, per field; a field not listed has no valid mean of that tick. -/
  vin : List (FieldNo × BitVec 16)
  /-- FLOW_OK as sampled (R166). -/
  flowOk : Bool
  /-- PWR_FAIL_N asserted as sampled (R318). -/
  pwrFail : Bool
  /-- Lowest margin that the armed detectors of a parcel read in the tick that ends (R102, R103); of a parcel not listed, no reading
  below 63 but those of its events. -/
  margins : List (FieldNo × SlotNo × BitVec 6) := []
  /-- Stages whose PH_FAULT_N is found high again (R174). -/
  phaseOk : List (FieldNo × PhaseNo) := []
  deriving DecidableEq, Repr

/-- A traverse word of Table 7.1. -/
structure TravWord where
  slot : SlotNo
  spare : Bool
  range : Bool
  t : BitVec 12
  deriving DecidableEq, Repr

/-- The ADC samples whose instants fall inside one tick, as signed codes (R62). -/
structure MeasIn where
  /-- IMON of phases 0 to 19. -/
  imon : Vector (List (BitVec 16)) 20
  /-- TMON of phases 0 to 19, °C. -/
  tmon : Vector Byte 20
  /-- Remote sense of VCORE and VSRAM. -/
  vCore : List (BitVec 16)
  vSram : List (BitVec 16)
  /-- Bit p: two consecutive samples of channel p sat at either end of the range (R64). -/
  ends : BitVec 20
  deriving DecidableEq, Repr

/-- What the analogue side shows at a regulator fault, for the last-fault record (Table 8.6). -/
structure LastFaultIn where
  vin : BitVec 16
  vCore : BitVec 16
  vSram : BitVec 16
  iph : Vector (BitVec 16) 20
  tph : Vector Byte 20
  /-- Bit p: phase in foldback. -/
  foldback : BitVec 20
  /-- Bit p: PH_FAULT_N asserted. -/
  faultPins : BitVec 20
  elapsed : Word
  sc : ScOff
  deriving DecidableEq, Repr

/-- A REQUEST message of the ticket port (Tables 6.1 and 17.5). -/
structure TkRequest where
  task : Word
  field : BitVec 7
  first : BitVec 10
  countM1 : BitVec 4
  cls : BitVec 3
  crit : Bool
  prio : BitVec 3
  prior : BitVec 24
  deriving DecidableEq, Repr

/-- What TICKET_REQUEST presents: a REQUEST, or a message of TK_IN_TYPE 3, which is none (Table 17.4). -/
inductive TkMessage where
  | request (m : TkRequest)
  | typeThree (data : BitVec 84)
  deriving DecidableEq, Repr

/-- Wafer time and survey-cycle offset as a tie-line frame carries them (R218). -/
structure TieTime where
  tick : BitVec 48
  off : BitVec 16
  deriving DecidableEq, Repr

/-- What one item of a self-test measured, by its code of Table 14.3 (1 to 6) and index. Items 0x1 and 0x2: `a` the mean of four
readings; 0x3: `a` the reading, in 1/8 °C. 0x4: `a` how far the move of the margin is from the expected one in mV, `b` the refitted trim.
0x5: `a` and `b` the conversions of the 0.30 V and 0.90 V references in mV. 0x6: `a` the measured current in mA. -/
structure BistItem where
  code : Fin 7
  index : BitVec 12
  a : BitVec 16
  b : BitVec 16
  deriving DecidableEq, Repr

/-- What a self-test measured in a field; an item not listed measures what it should (R342 to R344). -/
structure BistIn where
  items : List BistItem
  deriving DecidableEq, Repr

/-- A watchdog's look at its kernel: the tick of the kernel's last kick, and the offset in the tick (R270). -/
structure WatchIn where
  kick : BitVec 48
  sc : ScOff
  deriving DecidableEq, Repr

/-- What an alias write carries beside its place: the bits, the compartment that writes and the offset in the tick. -/
structure AliasIn where
  v : Word
  comp : Byte
  sc : ScOff
  deriving DecidableEq, Repr

/-- The end of a march: the memory, and the rows of it whose spare's fuse does not read back. -/
structure MarchEnd where
  m : MemId
  unread : List (Fin 64 × Fin 512)
  deriving DecidableEq, Repr

/-- A LIFECYCLE_ADVANCE: the command, and the FLAGS items of which a fuse does not read back. -/
structure AdvanceIn where
  c : Cmd
  unread : BitVec 4
  deriving DecidableEq, Repr

/-- What the flash part answers at BOOT: its SFDP (R306). -/
structure BootIn where
  /-- The flash answers. -/
  present : Bool
  /-- It has 4 KB sector and 64 KB block erase, and program and erase suspend. -/
  erases : Bool
  suspends : Bool
  flashId : BitVec 24
  /-- 256-byte page program time and suspend latency, µs, and erase cycles per block. -/
  tppMax : BitVec 16
  suspendUs : BitVec 16
  endurance : Word
  deriving DecidableEq, Repr

end Sys2Proof
end

