-- ==== Sys2Proof/Syntax.lean ====
section
/-!
DEFINITION. The commands of the block: one constructor per row of spec/opcode_table.json, in the table's order, with
the row's operands. The table gives the rows no bit fields, so the operands are those that the row's rule names.
-/

namespace Sys2Proof

/-- The steps of the WG3, each whole and indivisible (95_what_each_step_holds.md). -/
inductive Instr where
  /-- SURV_RST_N_ASSERT (R348). -/
  | survRstNAssert
  /-- SURV_RST_N_RELEASE (R349). -/
  | survRstNRelease (strap : BitVec 3)
  /-- VSURV_LOSS (R32). -/
  | vsurvLoss
  /-- TICK_MARK (R31). -/
  | tickMark (i : TickIn)
  /-- RAMP_MARK (R78). -/
  | rampMark (k : Fin 8)
  /-- ALLOWANCE_WORD_PASS (R118). -/
  | allowanceWordPass (f : FieldNo) (s : SlotNo)
  /-- ALLOWANCE_WORD_RETURN (R181). -/
  | allowanceWordReturn (f : FieldNo) (r : RingNo)
  /-- PHASE_RESTORE_ALL (R181). -/
  | phaseRestoreAll (f : FieldNo) (r : Rail) (why : RestoreCause)
  /-- UPWARD_FRAME (R23). -/
  | upwardFrame (f : FieldNo) (r : RingNo) (crcOk : Bool) (words : List TravWord)
  /-- THERMAL_SHUTDOWN (R170). -/
  | thermalShutdown (f : FieldNo) (k : SensorKind) (index : SlotNo) (sc : ScOff)
  /-- SENSOR_BROKEN (R155). -/
  | sensorBroken (f : FieldNo) (k : SensorKind) (index : SlotNo)
  /-- DOWNWARD_FRAME (R23). -/
  | downwardFrame (f : FieldNo) (r : RingNo) (crcOk : Bool)
  /-- FIELD_REPORT (R21). -/
  | fieldReport (f : FieldNo) (crcOk : Bool)
  /-- BUDGET_FRAME (R22). -/
  | budgetFrame (f : FieldNo) (crcOk : Bool)
  /-- CAP_DIVISION (R92). -/
  | capDivision
  /-- HUB_TICK_OVERRUN (R37). -/
  | hubTickOverrun
  /-- LIMIT_PLAN (R88). -/
  | limitPlan (f : FieldNo)
  /-- TICK_OVERRUN (R36). -/
  | tickOverrun (f : FieldNo)
  /-- MEASUREMENT_COMPLETE (R62). -/
  | measurementComplete (f : FieldNo) (m : MeasIn)
  /-- EST_MODE_CHANGE (R70). -/
  | estModeChange (f : FieldNo)
  /-- CHANNEL_INVALID (R64). -/
  | channelInvalid (f : FieldNo) (p : PhaseNo)
  /-- CHANNEL_RESTORED (R64). -/
  | channelRestored (f : FieldNo) (p : PhaseNo)
  /-- COUNTER_UPDATE (R238). -/
  | counterUpdate (f : FieldNo)
  /-- HUB_COUNTER_UPDATE (R238). -/
  | hubCounterUpdate
  /-- RECAL_SOLVE (R66). -/
  | recalSolve (f : FieldNo)
  /-- RECAL_INSTALL (R68). -/
  | recalInstall (f : FieldNo)
  /-- RECALIBRATE (R69). -/
  | recalibrate (c : Cmd)
  /-- MODEL_LOAD (R57). -/
  | modelLoad (c : Cmd)
  /-- MODEL_SWAP (R57). -/
  | modelSwap (port : CmdPort)
  /-- MODEL_SELECT (R59). -/
  | modelSelect (c : Cmd)
  /-- DROOP_T1_EVENT (R105). -/
  | droopT1Event (f : FieldNo) (s : SlotNo) (second : Bool) (margin : BitVec 6) (ec : BitVec 12)
  /-- DROOP_T2_EVENT (R105). -/
  | droopT2Event (f : FieldNo) (s : SlotNo) (second : Bool) (margin : BitVec 6) (ec : BitVec 12)
  /-- CLAMP_RELEASE_COUNT (R106). -/
  | clampReleaseCount (f : FieldNo) (s : SlotNo)
  /-- DROOP_EVENT_WORD (R107). -/
  | droopEventWord (f : FieldNo) (s : SlotNo)
  /-- T2_BLOCK_END (R110). -/
  | t2BlockEnd (f : FieldNo)
  /-- SHAPE_STEP (R115). -/
  | shapeStep (f : FieldNo) (s : SlotNo)
  /-- PARCEL_IDLE (R114). -/
  | parcelIdle (f : FieldNo) (s : SlotNo)
  /-- UNTICKETED_START (R121). -/
  | unticketedStart (f : FieldNo) (s : SlotNo)
  /-- TICKET_REQUEST (R130). -/
  | ticketRequest (port : FieldNo) (m : TkMessage) (ec : BitVec 12) (sc : ScOff)
  /-- REPRESENT_WINDOW_END (R132). -/
  | representWindowEnd (f : FieldNo)
  /-- TICKET_START (R138). -/
  | ticketStart (f : FieldNo) (slot : TSlotNo) (sc : ScOff)
  /-- TICKET_END (R140). -/
  | ticketEnd (f : FieldNo) (slot : TSlotNo) (sc : ScOff)
  /-- TICKET_OUT_TAKEN (R406). -/
  | ticketOutTaken (f : FieldNo)
  /-- TICKET_AGED (R134). -/
  | ticketAged (f : FieldNo) (slot : TSlotNo)
  /-- START_TIMEOUT (R142). -/
  | startTimeout (f : FieldNo) (slot : TSlotNo)
  /-- WAFER_QUEUE_MOVE (R136). -/
  | waferQueueMove
  /-- TICKET_HANG (R146). -/
  | ticketHang (f : FieldNo)
  /-- WAITFOR_BUILD (R147). -/
  | waitforBuild (c : Cmd)
  /-- WAITFOR_BUILD_DONE (R147). -/
  | waitforBuildDone
  /-- CAP_SHARE_EVAL (R137). -/
  | capShareEval
  /-- CONTEXT_ABORT (R143). -/
  | contextAbort (n : CtxNo)
  /-- POLICY_EVAL (R25). -/
  | policyEval
  /-- THERMAL_WARNING (R160). -/
  | thermalWarning (f : FieldNo)
  /-- THERMAL_THROTTLE_STEP (R161). -/
  | thermalThrottleStep (f : FieldNo)
  /-- THERMAL_RESTORE_STEP (R161). -/
  | thermalRestoreStep (f : FieldNo)
  /-- BAND_CHANGE (R165). -/
  | bandChange (f : FieldNo)
  /-- AUTO_REMAP (R157). -/
  | autoRemap (f : FieldNo) (s : SlotNo)
  /-- SPARE_VALIDATED (R157). -/
  | spareValidated (f : FieldNo) (s : SlotNo)
  /-- SENSOR_REMAP (R158). -/
  | sensorRemap (c : Cmd)
  /-- FLOW_TACH_EDGE (R166). -/
  | flowTachEdge (sc : ScOff)
  /-- FLOW_LOSS (R167). -/
  | flowLoss
  /-- FLOW_RESTORE (R167). -/
  | flowRestore
  /-- COOL_DEMAND_UPDATE (R169). -/
  | coolDemandUpdate
  /-- RUNDOWN_END (R168). -/
  | rundownEnd
  /-- SHUTDOWN_RAMPDOWN (R170). -/
  | shutdownRampdown
  /-- SHUTDOWN_ACK (R172). -/
  | shutdownAck (c : Cmd)
  /-- SHUTDOWN_EXIT (R172). -/
  | shutdownExit
  /-- MODULATOR_TRIGGER (R176). -/
  | modulatorTrigger (f : FieldNo) (r : Rail) (now : Nat) (vout : BitVec 16) (amps : Vector (BitVec 8) 20)
  /-- BRAKE_START (R182). -/
  | brakeStart (f : FieldNo) (r : Rail)
  /-- BRAKE_END (R182). -/
  | brakeEnd (f : FieldNo) (r : Rail) (now : Nat)
  /-- RAIL_OV (R183). -/
  | railOv (f : FieldNo) (r : Rail) (i : LastFaultIn)
  /-- RAIL_UV (R183). -/
  | railUv (f : FieldNo) (r : Rail)
  /-- PHASE_OC (R194). -/
  | phaseOc (f : FieldNo) (p : PhaseNo)
  /-- PHASE_OT (R195). -/
  | phaseOt (f : FieldNo) (p : PhaseNo)
  /-- PHASE_OT_CLEAR (R195). -/
  | phaseOtClear (f : FieldNo) (p : PhaseNo)
  /-- PH_FAULT_N_ASSERT (R196). -/
  | phFaultNAssert (f : FieldNo) (p : PhaseNo) (i : LastFaultIn)
  /-- BALANCE_PERIOD_END (R179). -/
  | balancePeriodEnd (f : FieldNo) (r : Rail)
  /-- REF_SLEW_STEP (R188). -/
  | refSlewStep (f : FieldNo) (r : Rail)
  /-- RAIL_ARRIVAL (R190). -/
  | railArrival (f : FieldNo) (r : Rail)
  /-- SOFT_START_END (R193). -/
  | softStartEnd (f : FieldNo)
  /-- LATCH_OFF (R197). -/
  | latchOff (f : FieldNo) (why : LatchCause) (r : Rail) (i : LastFaultIn)
  /-- VIN_STOP (R199). -/
  | vinStop (f : FieldNo) (i : LastFaultIn)
  /-- RAIL_STOP_DONE (R193). -/
  | railStopDone (f : FieldNo)
  /-- RAIL_ENABLE (R198). -/
  | railEnable (c : Cmd)
  /-- RAIL_DISABLE (R198). -/
  | railDisable (c : Cmd)
  /-- DATUM_WRITE (R187). -/
  | datumWrite (c : Cmd)
  /-- CONTOUR_TARGET_SELECT (R191). -/
  | contourTargetSelect (f : FieldNo)
  /-- PLL_LOCK (R205). -/
  | pllLock
  /-- CONTOUR_STEP_APPLY (R191). -/
  | contourStepApply
  /-- PLUMB_ENTRY (R222). -/
  | plumbEntry
  /-- SET_CONTOUR_POINT (R208). -/
  | setContourPoint (c : Cmd)
  /-- FREQ_STEP (R208). -/
  | freqStep (c : Cmd)
  /-- SET_PLUMB (R222). -/
  | setPlumb (c : Cmd)
  /-- LOCK_JOIN (R210). -/
  | lockJoin (c : Cmd)
  /-- LOCK_LEAVE (R211). -/
  | lockLeave (c : Cmd)
  /-- TIE_ALIGN (R219). -/
  | tieAlign (k : TieNo)
  /-- TIMESTAMP_SEND (R44). -/
  | timestampSend (sc : ScOff)
  /-- TIMESTAMP (R44). -/
  | timestamp (k : TieNo) (seqNo : Byte) (sent : TieTime) (sc : ScOff)
  /-- PROBE (R219). -/
  | probe (k : TieNo) (seqNo : Byte) (t1 : TieTime) (sc : ScOff)
  /-- ECHO (R219). -/
  | echo (k : TieNo) (seqNo : Byte) (t1 t2 t3 : TieTime) (sc : ScOff)
  /-- HELLO (R219). -/
  | hello (k : TieNo) (seqNo : Byte) (farId : Word) (farPort farGrade : Byte) (sc : ScOff)
  /-- JOIN (R210). -/
  | join (k : TieNo) (seqNo : Byte) (group depth : Byte) (waferId : Word) (sc : ScOff)
  /-- JOIN_ACK (R210). -/
  | joinAck (k : TieNo) (seqNo : Byte) (group result point : Byte) (plumb : Bool) (ownerId : Word) (sc : ScOff)
  /-- LEAVE (R211). -/
  | leave (k : TieNo) (seqNo : Byte) (group cause : Byte) (waferId : Word) (sc : ScOff)
  /-- STEP (R215). -/
  | step (k : TieNo) (seqNo : Byte) (group stepId point : Byte) (plumb : Bool) (plumbPower : BitVec 16) (target : TieTime) (sc : ScOff)
  /-- STEP_DONE (R216). -/
  | stepDone (k : TieNo) (seqNo : Byte) (group stepId result : Byte) (skew : Word) (waferId : Word) (sc : ScOff)
  /-- STEP_REQUEST (R212). -/
  | stepRequest (k : TieNo) (seqNo : Byte) (group point : Byte) (waferId : Word) (sc : ScOff)
  /-- FREEZE (R220). -/
  | freeze (k : TieNo) (seqNo : Byte) (group : Byte) (waferId : Word) (sc : ScOff)
  /-- THAW (R221). -/
  | thaw (k : TieNo) (seqNo : Byte) (group : Byte) (sc : ScOff)
  /-- SYNC (R221). -/
  | sync (k : TieNo) (seqNo : Byte) (group point : Byte) (plumb : Bool) (stepId : Byte) (sc : ScOff)
  /-- TIE_HALT_SET (R260). -/
  | tieHaltSet (k : TieNo) (group kind : Byte) (sc : ScOff)
  /-- TIE_PORT_DOWN (R219). -/
  | tiePortDown (k : TieNo) (why : TieDownCause)
  /-- ACCOUNT_OPEN (R228). -/
  | accountOpen (c : Cmd)
  /-- ACCOUNT_CLOSE (R233). -/
  | accountClose (c : Cmd)
  /-- ACCOUNT_READ (R227). -/
  | accountRead (c : Cmd)
  /-- JOB_RESTART_NOTE (R235). -/
  | jobRestartNote (c : Cmd)
  /-- DRAIN_PASS (R231). -/
  | drainPass (f : FieldNo)
  /-- DRAIN_FRAME (R232). -/
  | drainFrame (f : FieldNo)
  /-- DRAIN_RESEND (R231). -/
  | drainResend (f : FieldNo)
  /-- ACCOUNT_FINAL (R233). -/
  | accountFinal (n : CtxNo)
  /-- TRIG_NOW (R249). -/
  | trigNow
  /-- TRACE_STALE_SWEEP (R250). -/
  | traceStaleSweep
  /-- TRACE_DRAIN_BURST (R251). -/
  | traceDrainBurst
  /-- TAIL (R252). -/
  | tail (v : Word)
  /-- FW_POINT (R245). -/
  | fwPoint (p : ProcNo) (v : Word) (sc : ScOff)
  /-- TRACE_CONFIG (R263). -/
  | traceConfig (c : Cmd)
  /-- TRACE_START (R263). -/
  | traceStart (c : Cmd)
  /-- TRACE_STOP (R263). -/
  | traceStop (c : Cmd)
  /-- HALT (R257). -/
  | halt (c : Cmd)
  /-- HALT_CUT (R257). -/
  | haltCut
  /-- IMMEDIATE_HALT (R258). -/
  | immediateHalt (why : HaltCause) (sc : ScOff)
  /-- HALTED_ENTRY (R257). -/
  | haltedEntry (arrivals : List (FieldNo × BitVec 16 × BitVec 16))
  /-- HALT_TIMEOUT (R259). -/
  | haltTimeout (f : FieldNo) (s : SlotNo)
  /-- RESUME (R261). -/
  | resume (c : Cmd)
  /-- HALT_RELEASE (R261). -/
  | haltRelease
  /-- GATE_CALL (R267). -/
  | gateCall (p : ProcNo) (caller : Byte) (gate : Byte) (args : List Word) (violates : Bool) (sc : ScOff)
  /-- MPU_VIOLATION (R268). -/
  | mpuViolation (p : ProcNo) (comp : Byte) (sc : ScOff)
  /-- PROCESSOR_TRAP (R269). -/
  | processorTrap (p : ProcNo) (uncorrectable : Bool) (sc : ScOff)
  /-- WATCHDOG_EXPIRY (R270). -/
  | watchdogExpiry (p : ProcNo) (i : WatchIn)
  /-- IMAGE_CHECK (R272). -/
  | imageCheck (p : ProcNo) (sc : ScOff)
  /-- PROCESSOR_RUN (R272). -/
  | processorRun (p : ProcNo) (sc : ScOff)
  /-- HOLD_EXPIRED (R273). -/
  | holdExpired (p : ProcNo)
  /-- START_FAIL (R274). -/
  | startFail (p : ProcNo)
  /-- FW_STAGE (R280). -/
  | fwStage (c : Cmd)
  /-- FW_ACTIVATE (R281). -/
  | fwActivate (c : Cmd)
  /-- PROBATION_END (R281). -/
  | probationEnd (p : ProcNo)
  /-- SLOT_COPY_DONE (R283). -/
  | slotCopyDone
  /-- FW_RESTART (R284). -/
  | fwRestart (c : Cmd)
  /-- QUOTE (R288). -/
  | quote (c : Cmd)
  /-- FAULT_EVENT (R292). -/
  | faultEvent (src : SourceNo) (fld : Option FieldNo) (detail : BitVec 16) (sc : ScOff)
  /-- COLLECTOR_RECOVERING (R296). -/
  | collectorRecovering
  /-- RECOVERY_COMPLETE (R300). -/
  | recoveryComplete
  /-- FAULT_BIT_EXPIRE (R302). -/
  | faultBitExpire (src : SourceNo)
  /-- FAULT_STATUS_W1C (R302). -/
  | faultStatusW1c (v : Word)
  /-- FAULT_CLEAR (R302). -/
  | faultClear (c : Cmd)
  /-- FAULT_POLICY (R295). -/
  | faultPolicy (c : Cmd)
  /-- ENGINE_ERROR_EDGE (R401). -/
  | engineErrorEdge (sc : ScOff)
  /-- CLOCK_LOSS (R291). -/
  | clockLoss (what : ClockSource) (sc : ScOff)
  /-- TAMPER_N_ASSERT (R341). -/
  | tamperNAssert (us : BitVec 16) (sc : ScOff)
  /-- MONUMENT_PROGRAM_DONE (R316). -/
  | monumentProgramDone (ok : Bool)
  /-- MONUMENT_ERASE_DONE (R316). -/
  | monumentEraseDone (ok : Bool)
  /-- ERASE_SUSPEND (R316). -/
  | eraseSuspend
  /-- TOKEN_REFILL (R314). -/
  | tokenRefill
  /-- RECORD_READ (R319). -/
  | recordRead (c : Cmd)
  /-- FIRST_REGION_CLEAR (R312). -/
  | firstRegionClear (c : Cmd)
  /-- PWR_FAIL_N_ASSERT (R318). -/
  | pwrFailNAssert
  /-- PWR_FAIL_STOP (R370). -/
  | pwrFailStop (i : Vector LastFaultIn 84)
  /-- PWR_FAIL_N_DEASSERT (R371). -/
  | pwrFailNDeassert
  /-- SCRUB_READ (R327). -/
  | scrubRead (m : MemId) (flips : BitVec 137)
  /-- SOFT_REPAIR (R331). -/
  | softRepair (m : MemId) (bank : Fin 64) (row : Fin 512)
  /-- ALIAS_WRITE (R326). -/
  | aliasWrite (p : ProcNo) (set : Bool) (addr : BitVec 22) (i : AliasIn)
  /-- MARCH (R335). -/
  | march (c : Cmd)
  /-- MARCH_SEGMENT (R334). -/
  | marchSegment (m : MemId) (failing : List (Fin 512))
  /-- MARCH_DONE (R335); `unread` are the rows whose fuse does not read back (R332). -/
  | marchDone (i : MarchEnd)
  /-- BIST_RUN (R342). -/
  | bistRun (c : Cmd)
  /-- BIST_COMPLETE (R343). -/
  | bistComplete (f : FieldNo) (i : BistIn)
  /-- LIFECYCLE_ADVANCE (R339); `unread` marks items of the fusing record whose fuses do not read back (R340). -/
  | lifecycleAdvance (i : AdvanceIn)
  /-- BOOT_IMAGE_LOAD (R350). -/
  | bootImageLoad (i : BootIn)
  /-- BOOT_END (R351). -/
  | bootEnd
  /-- SELFTEST_END (R353). -/
  | selftestEnd
  /-- GROUP_SOFT_START (R355). -/
  | groupSoftStart
  /-- TAKEOVER (R359). -/
  | takeover
  /-- ENGINE_CLOCK_START (R359). -/
  | engineClockStart
  /-- CALIBRATION_STEP (R360). -/
  | calibrationStep (f : FieldNo)
  /-- CALIBRATION_COMPLETE (R361). -/
  | calibrationComplete (f : FieldNo)
  /-- READY_ENTRY (R362). -/
  | readyEntry
  /-- FIELD_BACK_IN_SERVICE (R434). -/
  | fieldBackInService (f : FieldNo)
  /-- FIELD_VIN_RESTART (R366). -/
  | fieldVinRestart (f : FieldNo)
  /-- PING (R381). -/
  | ping (c : Cmd)
  /-- LEASE (R391). -/
  | lease (c : Cmd)
  /-- QUERY_STATE (R381). -/
  | queryState (c : Cmd)
  /-- LEASE_EXPIRY (R392). -/
  | leaseExpiry (p : CmdPort)
  /-- JOURNAL_APPEND (R389). -/
  | journalAppend
  /-- SET_WAFER_CAP (R83). -/
  | setWaferCap (c : Cmd)
  /-- SET_FIELD_LIMITS (R80). -/
  | setFieldLimits (c : Cmd)
  /-- SET_MARGIN_MODE (R123). -/
  | setMarginMode (c : Cmd)
  /-- PAGE_COMMIT (R40). -/
  | pageCommit (path : Path) (pg : PageId) (v : Word) (sc : ScOff)
  /-- COMMIT_EFFECT (R422). -/
  | commitEffect (pg : PageId)
  /-- CANCEL (R425). -/
  | cancel (path : Path) (pg : PageId)
  /-- RELOAD (R425). -/
  | reload (path : Path) (pg : PageId)
  /-- LOW_WORD_READ (R7). -/
  | lowWordRead (path : Path) (addr : BitVec 27) (be : Byte) (sc : ScOff)
  /-- PROBE_SLOT (R74). -/
  | probeSlot (f : FieldNo) (v : Word)
  /-- REGISTER_WRITE (R8). -/
  | registerWrite (path : Path) (addr : BitVec 27) (be : Byte) (v : BitVec 64) (sc : ScOff)
  /-- WIN_DATA (R411). -/
  | winData (write : Option Word) (sc : ScOff)
  /-- FLAGS_READ (R411). -/
  | flagsRead
  /-- ENTDAA (R409). -/
  | entdaa (addr : BitVec 7)
  /-- SETDASA (R409). -/
  | setdasa (addr : BitVec 7)
  /-- RSTDAA (R409). -/
  | rstdaa
  /-- ENEC (R412). -/
  | enec (events : Byte)
  /-- DISEC (R409). -/
  | disec (events : Byte)
  /-- GETPID (R409). -/
  | getpid
  /-- GETBCR (R409). -/
  | getbcr
  /-- GETDCR (R409). -/
  | getdcr
  /-- GETSTATUS (R409). -/
  | getstatus
  /-- SETMWL (R409). -/
  | setmwl (n : BitVec 16)
  /-- GETMWL (R409). -/
  | getmwl
  /-- SETMRL (R409). -/
  | setmrl (n : BitVec 16)
  /-- GETMRL (R409). -/
  | getmrl
  /-- WAFER_QUEUE_ANSWER (R136). -/
  | waferQueueAnswer (f : FieldNo)
  /-- ENGINE_ERROR_REARM (R401). -/
  | engineErrorRearm
  /-- RAIL_UV_RETURN (R183). -/
  | railUvReturn (f : FieldNo) (r : Rail)
  /-- IBI_DELIVERY (R412). -/
  | ibiDelivery
  /-- TIE_CRC_ERROR (R218). -/
  | tieCrcError (k : TieNo)
  /-- NOR_TIMEOUT (R317). -/
  | norTimeout (erase : Bool)
  deriving DecidableEq, Repr

end Sys2Proof
end

