-- ==== Sys2Proof/Decode.lean ====
section
/-!
DEFINITION. The block has no instruction words: every row of the opcode table comes without bit fields, so no word
spells a command and the table decoder answers none.
-/

namespace Sys2Proof

/-- The command that a word spells by the table's bits: the table gives no row any bits. (DESIGN CHOICE, log entry 2.) -/
def decodeTableWord (_nbits _w : Nat) : Option Instr := none

end Sys2Proof
end

