-- ==== Sys2Proof/Config.lean ====
section
/-!
DEFINITION. What the J2 floorplan and the part fix (grid, hops, link latency), the cryptographic primitives as opaque
functions, and the free values: constants without a body that nothing can evaluate.
-/

namespace Sys2Proof.Config

/-! ### The grid (R2, R20) -/

/-- First field number of each grid row (Table 0.2), with the row after the last. -/
def rowFirst : List Nat := [0, 6, 12, 22, 32, 42, 52, 62, 72, 78, 84]

/-- First column of each grid row (Table 0.2). -/
def rowColumn : List Nat := [2, 2, 0, 0, 0, 0, 0, 0, 2, 2]

/-- Row of a field (R2). -/
def row (f : Nat) : Nat := ((rowFirst.drop 1).filter (fun s => s ≤ f)).length

/-- Column of a field (R2). -/
def column (f : Nat) : Nat := rowColumn.getD (row f) 0 + (f - rowFirst.getD (row f) 0)

/-- Distance of two numbers. -/
def dist (a b : Nat) : Nat := (a - b) + (b - a)

/-- Manhattan distance h of a field from field 41 (R20). -/
def hops (f : Nat) : Nat := dist (row f) 4 + dist (column f) 9

/-- One-way latency of the hub-to-field link, in survey cycles (R20). -/
def latency (f : Nat) : Nat := 32 + 24 * hops f

/-- Fields of the wafer. -/
def fields : Nat := 84
/-- Parcel slots of a field. -/
def slots : Nat := 672
/-- Survey cycles of a tick (R5). -/
def tickSc : Nat := 2048

/-! ### Cryptography and codes

SHA-384, ECDSA verification and signing, and key derivation are named by the spec and not spelled out there; no
statement looks inside them. -/

/-- SHA-384 of a byte string, as 48 bytes. (DESIGN CHOICE, log entry 12.) -/
opaque sha384 : List Nat → List Nat
/-- ECDSA P-384 check: public key, message, signature. (DESIGN CHOICE, log entry 12.) -/
opaque ecdsaOk : List Nat → List Nat → List Nat → Bool
/-- The attestation key pair that HKDF-SHA-384 derives from the device secret and the life-cycle state (R287).
(DESIGN CHOICE, log entry 12.) -/
opaque attKeyPair : List Nat → Nat → List Nat
/-- ECDSA P-384 signature with an attestation key pair over a message. (DESIGN CHOICE, log entry 12.) -/
opaque attSign : List Nat → List Nat → List Nat
/-- The public key of an attestation key pair. (DESIGN CHOICE, log entry 12.) -/
opaque attPublic : List Nat → List Nat

/-- The bytes whose digest MR0 takes, from the boot ROM version, the life-cycle state, the fused minimum SVN and the key hashes;
the spec names the items and lays out no record (R286). (DESIGN CHOICE, log entry 156.) -/
opaque romRecord : Nat → Nat → Nat → List (Option (List Nat)) → List Nat
/-- The bytes of a copy of the configuration store, from its out-of-service fields, datums, CEIL_ST and contour page, and of the
calibration store, from its field, slot, channel, reference, grade and repair entries; the spec lays out neither (R286, R307).
(DESIGN CHOICE, log entry 156.) -/
opaque configBytes : List Nat → List (Nat × Nat) → Nat → List (Nat × Nat) → List Nat
opaque calBytes : List (Nat × (Nat × Nat)) → List (Nat × List Nat) → List (Nat × (Nat × Int)) → List (Nat × Nat) →
  List (Nat × (Nat × Nat)) → List (Nat × Nat × Nat) → Bool → List Nat

/-! ### What a firmware image fixes -/

/-- Gate table in the section of an image: its entries, and of each the callee compartment, the argument words, the entry address and
the callee's stack limit (R267). (DESIGN CHOICE, log entry 13.) -/
opaque gateCount : List Nat → Nat
opaque gateCallee : List Nat → Nat → Nat
opaque gateArgs : List Nat → Nat → Nat
opaque gateEntry : List Nat → Nat → Nat
opaque gateStack : List Nat → Nat → Nat

/-- Where a section keeps its gate table, and region 4 + j of a compartment's set: base and bytes (R266).
(DESIGN CHOICE, log entry 13.) -/
opaque gateTable : List Nat → Nat × Nat
opaque compRegion : List Nat → Nat → Nat → Nat × Nat

/-- The default model that a field section carries (R56, R265). -/
opaque defaultModel : List Nat → List Nat

/-! ### Free values -/

/-- A value the spec leaves open, numbered by the counter `Block.free`. (DESIGN CHOICE, log entry 10.) -/
opaque freeNat : Nat → Nat

/-- A value of which the spec states none, such as a quotient whose divisor is 0 or the mean of no readings: the place where
it is formed, and an operand. (DESIGN CHOICE, log entry 127.) -/
opaque unstated : Nat → Nat → Nat

end Sys2Proof.Config
end

