-- ==== Sys2Proof/Machine/Fld.lean ====
section
/-!
DEFINITION. A register field: page class, body offset, bits, access code and reset (R7, R8, R417 to R419).
-/

namespace Sys2Proof.Machine

open Sys2Proof

/-- The access codes of Table 0.3. -/
inductive Access where
  | ro | rw | rwl | w1c | w1s | wo | rc
  deriving DecidableEq, Repr

/-- One field of a page body. `page` is the CLASS byte of the page header: 0x10 + index for a hub page,
0x40 + index for a field page (Table 18.3). -/
structure Fld where
  page : Nat
  off : Nat
  lo : Nat
  width : Nat
  access : Access
  reset : Nat
  deriving DecidableEq, Repr

/-- Sources whose class R294 fixes. -/
def severeFirst : List Nat := [0, 14, 16, 17, 26, 27, 28, 31]

/-- Sources that are never severe (R294). -/
def neverSevere : List Nat := [10, 30]

/-- A source that FAULT_POLICY cannot change (R294). -/
def fixedSource (b : Nat) : Bool := severeFirst.contains b || neverSevere.contains b

/-- Reset of the N field of source `b`: 4, or 1 or 0 when fixed (Table 13.9, R294). -/
def fixedN (b : Nat) : Nat :=
  if severeFirst.contains b then 1 else if neverSevere.contains b then 0 else 4

/-- The number under which the register file keeps field `fd` of instance `inst` (a field number, 0 for the hub). -/
def Fld.key (fd : Fld) (inst : Nat) : Nat :=
  ((inst * 256 + fd.page) * 4096 + fd.off) * 32 + fd.lo

end Sys2Proof.Machine
end

