-- ==== Sys2Proof/Machine/PagesField.lean ====
section
/-!
DEFINITION. The body registers of the field pages, field by field, as the tables of the owning chapters give them. F_VCORE and F_VSRAM share one layout: rl is 0 for VCORE, 1 for VSRAM.
-/

namespace Sys2Proof.Machine

open Sys2Proof

/-! ### F_ID: Table 18.7, R429 -/

def F_ID.FIELD : Fld := ⟨0x40, 0x040, 16, 7, .ro, 0⟩
def F_ID.COLUMN : Fld := ⟨0x40, 0x040, 12, 4, .ro, 0⟩
def F_ID.ROW : Fld := ⟨0x40, 0x040, 8, 4, .ro, 0⟩
def F_ID.HOPS : Fld := ⟨0x40, 0x040, 0, 4, .ro, 0⟩
def F_ID.LATENCY : Fld := ⟨0x40, 0x044, 0, 16, .ro, 0⟩
def F_ID.DEAD : Fld := ⟨0x40, 0x048, 20, 10, .ro, 0⟩
def F_ID.SPARE : Fld := ⟨0x40, 0x048, 10, 10, .ro, 0⟩
def F_ID.ACTIVE : Fld := ⟨0x40, 0x048, 0, 10, .ro, 0⟩
def F_ID.HUB_HOST : Fld := ⟨0x40, 0x04C, 8, 1, .ro, 0⟩
def F_ID.OUT_CAUSE : Fld := ⟨0x40, 0x04C, 1, 4, .ro, 0⟩
def F_ID.MARKED_OUT : Fld := ⟨0x40, 0x04C, 0, 1, .ro, 1⟩
def F_ID.ERR_PAGES : Fld := ⟨0x40, 0x050, 0, 16, .ro, 0⟩

/-- Every field of the body of F_ID. -/
def F_ID.flds : List Fld :=
  [F_ID.FIELD, F_ID.COLUMN, F_ID.ROW, F_ID.HOPS, F_ID.LATENCY, F_ID.DEAD, F_ID.SPARE, F_ID.ACTIVE, F_ID.HUB_HOST, F_ID.OUT_CAUSE, F_ID.MARKED_OUT, F_ID.ERR_PAGES]

/-! ### F_EST: Table 3.8, R74 -/

def F_EST.FORCE_MEASURED : Fld := ⟨0x41, 0x040, 1, 1, .rw, 0⟩
def F_EST.RECAL_EN : Fld := ⟨0x41, 0x040, 0, 1, .rw, 1⟩
def F_EST.DRIFT_CLEAR_TICKS : Fld := ⟨0x41, 0x044, 24, 8, .rw, 64⟩
def F_EST.DRIFT_CLEAR_PCT : Fld := ⟨0x41, 0x044, 16, 8, .rw, 10⟩
def F_EST.DRIFT_TICKS : Fld := ⟨0x41, 0x044, 8, 8, .rw, 16⟩
def F_EST.DRIFT_PCT : Fld := ⟨0x41, 0x044, 0, 8, .rw, 15⟩
def F_EST.DIS_TICKS : Fld := ⟨0x41, 0x048, 8, 8, .rw, 64⟩
def F_EST.DIS_PCT : Fld := ⟨0x41, 0x048, 0, 8, .rw, 40⟩
def F_EST.M_FLOOR : Fld := ⟨0x41, 0x04C, 0, 16, .rw, 160⟩
def F_EST.P0_EXP : Fld := ⟨0x41, 0x050, 16, 4, .rw, 8⟩
def F_EST.LAMBDA : Fld := ⟨0x41, 0x050, 0, 16, .rw, 64225⟩
def F_EST.RUN_COUNT : Fld := ⟨0x41, 0x060, 16, 16, .ro, 0⟩
def F_EST.DOM_SLOT : Fld := ⟨0x41, 0x060, 10, 2, .ro, 0⟩
def F_EST.TRIM_AT_BOUND : Fld := ⟨0x41, 0x060, 9, 1, .ro, 0⟩
def F_EST.MEAS_VALID_SRAM : Fld := ⟨0x41, 0x060, 8, 1, .ro, 0⟩
def F_EST.MEAS_VALID_CORE : Fld := ⟨0x41, 0x060, 7, 1, .ro, 0⟩
def F_EST.FORCED : Fld := ⟨0x41, 0x060, 3, 1, .ro, 0⟩
def F_EST.MODE : Fld := ⟨0x41, 0x060, 0, 3, .ro, 0⟩
def F_EST.SRAM_SHARE : Fld := ⟨0x41, 0x064, 16, 16, .ro, 7022⟩
def F_EST.GAIN_TRIM : Fld := ⟨0x41, 0x064, 0, 16, .ro, 16384⟩
def F_EST.E_FIELD : Fld := ⟨0x41, 0x068, 0, 32, .ro, 0⟩
def F_EST.M_FIELD : Fld := ⟨0x41, 0x06C, 0, 32, .ro, 0⟩
def F_EST.I_VSRAM : Fld := ⟨0x41, 0x070, 16, 16, .ro, 0⟩
def F_EST.I_VCORE : Fld := ⟨0x41, 0x070, 0, 16, .ro, 0⟩
def F_EST.V_VSRAM : Fld := ⟨0x41, 0x074, 16, 16, .ro, 0⟩
def F_EST.V_VCORE : Fld := ⟨0x41, 0x074, 0, 16, .ro, 0⟩
def F_EST.ERR : Fld := ⟨0x41, 0x078, 16, 16, .ro, 0⟩
def F_EST.RHO : Fld := ⟨0x41, 0x078, 0, 16, .ro, 16384⟩
def F_EST.EST_TICK : Fld := ⟨0x41, 0x07C, 0, 32, .ro, 0⟩
def F_EST.CHAN_VALID_SRAM : Fld := ⟨0x41, 0x080, 16, 4, .ro, 0⟩
def F_EST.CHAN_VALID_CORE : Fld := ⟨0x41, 0x080, 0, 16, .ro, 0⟩
def F_EST.RECAL_OK : Fld := ⟨0x41, 0x084, 0, 32, .ro, 0⟩
def F_EST.RECAL_SKIP : Fld := ⟨0x41, 0x088, 16, 16, .ro, 0⟩
def F_EST.RECAL_FAIL : Fld := ⟨0x41, 0x088, 0, 16, .ro, 0⟩
def F_EST.LAST_RECAL : Fld := ⟨0x41, 0x08C, 0, 32, .ro, 0⟩
def F_EST.DRIFT_COUNT : Fld := ⟨0x41, 0x090, 0, 32, .ro, 0⟩
def F_EST.DISAGREE_COUNT : Fld := ⟨0x41, 0x094, 0, 32, .ro, 0⟩
def F_EST.MEAS_LOSS_COUNT : Fld := ⟨0x41, 0x098, 0, 32, .ro, 0⟩
def F_EST.PROBE_DONE : Fld := ⟨0x41, 0x0A0, 31, 1, .ro, 0⟩
def F_EST.PROBE_SLOT : Fld := ⟨0x41, 0x0A0, 0, 10, .rwl, 0⟩
def F_EST.PROBE_X (k : Nat) : Fld := ⟨0x41, 0x0A4 + 4 * k, 0, 32, .ro, 0⟩
def F_EST.PROBE_H (k : Nat) : Fld := ⟨0x41, 0x0C4 + 4 * k, 0, 32, .ro, 0⟩
def F_EST.PROBE_Y2 : Fld := ⟨0x41, 0x0D4, 0, 32, .ro, 0⟩
def F_EST.PROBE_YB : Fld := ⟨0x41, 0x0D8, 0, 32, .ro, 0⟩
def F_EST.PROBE_E : Fld := ⟨0x41, 0x0DC, 16, 16, .ro, 0⟩
def F_EST.PROBE_ERAW : Fld := ⟨0x41, 0x0DC, 0, 16, .ro, 0⟩
def F_EST.PROBE_NEC : Fld := ⟨0x41, 0x0E0, 16, 16, .ro, 0⟩
def F_EST.PROBE_CLASS : Fld := ⟨0x41, 0x0E0, 8, 4, .ro, 0⟩
def F_EST.PROBE_MSLOT : Fld := ⟨0x41, 0x0E0, 0, 2, .ro, 0⟩

/-- Every field of the body of F_EST. -/
def F_EST.flds : List Fld :=
  [F_EST.FORCE_MEASURED, F_EST.RECAL_EN, F_EST.DRIFT_CLEAR_TICKS, F_EST.DRIFT_CLEAR_PCT, F_EST.DRIFT_TICKS, F_EST.DRIFT_PCT, F_EST.DIS_TICKS, F_EST.DIS_PCT, F_EST.M_FLOOR, F_EST.P0_EXP, F_EST.LAMBDA, F_EST.RUN_COUNT] ++
  [F_EST.DOM_SLOT, F_EST.TRIM_AT_BOUND, F_EST.MEAS_VALID_SRAM, F_EST.MEAS_VALID_CORE, F_EST.FORCED, F_EST.MODE, F_EST.SRAM_SHARE, F_EST.GAIN_TRIM, F_EST.E_FIELD, F_EST.M_FIELD, F_EST.I_VSRAM, F_EST.I_VCORE] ++
  [F_EST.V_VSRAM, F_EST.V_VCORE, F_EST.ERR, F_EST.RHO, F_EST.EST_TICK, F_EST.CHAN_VALID_SRAM, F_EST.CHAN_VALID_CORE, F_EST.RECAL_OK, F_EST.RECAL_SKIP, F_EST.RECAL_FAIL, F_EST.LAST_RECAL, F_EST.DRIFT_COUNT] ++
  [F_EST.DISAGREE_COUNT, F_EST.MEAS_LOSS_COUNT, F_EST.PROBE_DONE, F_EST.PROBE_SLOT] ++
  (List.range 8).map (fun j => F_EST.PROBE_X j) ++
  (List.range 4).map (fun j => F_EST.PROBE_H j) ++
  [F_EST.PROBE_Y2, F_EST.PROBE_YB, F_EST.PROBE_E, F_EST.PROBE_ERAW, F_EST.PROBE_NEC, F_EST.PROBE_CLASS, F_EST.PROBE_MSLOT]

/-! ### F_MODEL: Table 3.9, R74 -/

def F_MODEL.MAP_MOVE : Fld := ⟨0x42, 0x040, 8, 2, .rw, 0⟩
def F_MODEL.MAP_VECTOR : Fld := ⟨0x42, 0x040, 6, 2, .rw, 0⟩
def F_MODEL.MAP_SPARSE_COMPAT : Fld := ⟨0x42, 0x040, 4, 2, .rw, 0⟩
def F_MODEL.MAP_SPARSE : Fld := ⟨0x42, 0x040, 2, 2, .rw, 0⟩
def F_MODEL.MAP_DENSE : Fld := ⟨0x42, 0x040, 0, 2, .rw, 0⟩
def F_MODEL.SLOT_STATE : Fld := ⟨0x42, 0x044, 0, 16, .ro, 0⟩
def F_MODEL.LOAD_ERR : Fld := ⟨0x42, 0x048, 8, 8, .ro, 0⟩
def F_MODEL.LOAD_ERR_SLOT : Fld := ⟨0x42, 0x048, 0, 2, .ro, 0⟩
def F_MODEL.SLOT_ID (k : Nat) : Fld := ⟨0x42, 0x050 + 0x10 * k, 0, 32, .ro, 0⟩
def F_MODEL.SLOT_LEN (k : Nat) : Fld := ⟨0x42, 0x054 + 0x10 * k, 0, 16, .ro, 0⟩
def F_MODEL.SLOT_CRC (k : Nat) : Fld := ⟨0x42, 0x058 + 0x10 * k, 0, 32, .ro, 0⟩
def F_MODEL.SLOT_TICK (k : Nat) : Fld := ⟨0x42, 0x05C + 0x10 * k, 0, 32, .ro, 0⟩
def F_MODEL.BYPASS (k : Nat) (n : Nat) : Fld := ⟨0x42, 0x090 + 0x20 * k + 4 * n, 0, 32, .ro, 0⟩
def F_MODEL.CLASS_USE (k : Nat) : Fld := ⟨0x42, 0x110 + 4 * k, 0, 10, .ro, 0⟩

/-- Every field of the body of F_MODEL. -/
def F_MODEL.flds : List Fld :=
  [F_MODEL.MAP_MOVE, F_MODEL.MAP_VECTOR, F_MODEL.MAP_SPARSE_COMPAT, F_MODEL.MAP_SPARSE, F_MODEL.MAP_DENSE, F_MODEL.SLOT_STATE, F_MODEL.LOAD_ERR, F_MODEL.LOAD_ERR_SLOT] ++
  (List.range 4).map (fun j => F_MODEL.SLOT_ID j) ++
  (List.range 4).map (fun j => F_MODEL.SLOT_LEN j) ++
  (List.range 4).map (fun j => F_MODEL.SLOT_CRC j) ++
  (List.range 4).map (fun j => F_MODEL.SLOT_TICK j) ++
  (List.range 32).map (fun j => F_MODEL.BYPASS (j / 8) (j % 8)) ++
  (List.range 4).map (fun j => F_MODEL.CLASS_USE j)

/-! ### F_LIMIT: Table 4.7, R101 -/

def F_LIMIT.STL_CORE : Fld := ⟨0x43, 0x040, 16, 16, .rw, 1920⟩
def F_LIMIT.FCL_CORE : Fld := ⟨0x43, 0x040, 0, 16, .rw, 2240⟩
def F_LIMIT.SUS_CORE : Fld := ⟨0x43, 0x044, 0, 16, .rw, 1520⟩
def F_LIMIT.STL_SRAM : Fld := ⟨0x43, 0x048, 16, 16, .rw, 224⟩
def F_LIMIT.FCL_SRAM : Fld := ⟨0x43, 0x048, 0, 16, .rw, 256⟩
def F_LIMIT.SUS_SRAM : Fld := ⟨0x43, 0x04C, 0, 16, .rw, 192⟩
def F_LIMIT.FPL : Fld := ⟨0x43, 0x050, 0, 16, .rw, 3200⟩
def F_LIMIT.DYN_MAX : Fld := ⟨0x43, 0x054, 16, 16, .rw, 12800⟩
def F_LIMIT.IDLE_P : Fld := ⟨0x43, 0x054, 0, 16, .rw, 640⟩
def F_LIMIT.PP_SPARSE : Fld := ⟨0x43, 0x058, 16, 16, .rw, 4800⟩
def F_LIMIT.PP_DENSE : Fld := ⟨0x43, 0x058, 0, 16, .rw, 8960⟩
def F_LIMIT.PP_VECTOR : Fld := ⟨0x43, 0x05C, 16, 16, .rw, 2560⟩
def F_LIMIT.PP_COMPAT : Fld := ⟨0x43, 0x05C, 0, 16, .rw, 7360⟩
def F_LIMIT.PP_MOVE : Fld := ⟨0x43, 0x060, 0, 16, .rw, 1280⟩
def F_LIMIT.REFILL_HELD : Fld := ⟨0x43, 0x080, 5, 1, .ro, 0⟩
def F_LIMIT.FLOOR_OVER : Fld := ⟨0x43, 0x080, 4, 1, .ro, 0⟩
def F_LIMIT.BIND : Fld := ⟨0x43, 0x080, 0, 4, .ro, 0⟩
def F_LIMIT.BIND_RAIL : Fld := ⟨0x43, 0x084, 31, 1, .ro, 0⟩
def F_LIMIT.LAMBDA_C : Fld := ⟨0x43, 0x084, 16, 10, .ro, 0⟩
def F_LIMIT.LAMBDA_N : Fld := ⟨0x43, 0x084, 0, 10, .ro, 0⟩
def F_LIMIT.THERM_LIM : Fld := ⟨0x43, 0x088, 16, 16, .ro, 3200⟩
def F_LIMIT.BUDGET : Fld := ⟨0x43, 0x088, 0, 16, .ro, 0⟩
def F_LIMIT.FLOOR : Fld := ⟨0x43, 0x08C, 16, 16, .ro, 0⟩
def F_LIMIT.DEMAND : Fld := ⟨0x43, 0x08C, 0, 16, .ro, 0⟩
def F_LIMIT.CRIT_DEMAND : Fld := ⟨0x43, 0x090, 16, 16, .ro, 0⟩
def F_LIMIT.WAFER_REASON : Fld := ⟨0x43, 0x090, 0, 16, .ro, 0⟩
def F_LIMIT.PRED_SRAM : Fld := ⟨0x43, 0x094, 16, 16, .ro, 0⟩
def F_LIMIT.PRED_CORE : Fld := ⟨0x43, 0x094, 0, 16, .ro, 0⟩
def F_LIMIT.ALLOW_SRAM : Fld := ⟨0x43, 0x098, 16, 16, .ro, 0⟩
def F_LIMIT.ALLOW_CORE : Fld := ⟨0x43, 0x098, 0, 16, .ro, 0⟩
def F_LIMIT.AVG_SUS_CORE : Fld := ⟨0x43, 0x09C, 16, 16, .ro, 0⟩
def F_LIMIT.AVG_STL_CORE : Fld := ⟨0x43, 0x09C, 0, 16, .ro, 0⟩
def F_LIMIT.AVG_SUS_SRAM : Fld := ⟨0x43, 0x0A0, 16, 16, .ro, 0⟩
def F_LIMIT.AVG_STL_SRAM : Fld := ⟨0x43, 0x0A0, 0, 16, .ro, 0⟩
def F_LIMIT.IDLE0 : Fld := ⟨0x43, 0x0A4, 16, 16, .ro, 0⟩
def F_LIMIT.FLOOR0 : Fld := ⟨0x43, 0x0A4, 0, 16, .ro, 0⟩
def F_LIMIT.LIMIT_EXCEED : Fld := ⟨0x43, 0x0A8, 0, 32, .ro, 0⟩
def F_LIMIT.FLOOR_OVER_TICKS : Fld := ⟨0x43, 0x0AC, 0, 32, .ro, 0⟩
def F_LIMIT.PLAN_TICK : Fld := ⟨0x43, 0x0B0, 0, 32, .ro, 0⟩

/-- Every field of the body of F_LIMIT. -/
def F_LIMIT.flds : List Fld :=
  [F_LIMIT.STL_CORE, F_LIMIT.FCL_CORE, F_LIMIT.SUS_CORE, F_LIMIT.STL_SRAM, F_LIMIT.FCL_SRAM, F_LIMIT.SUS_SRAM, F_LIMIT.FPL, F_LIMIT.DYN_MAX, F_LIMIT.IDLE_P, F_LIMIT.PP_SPARSE, F_LIMIT.PP_DENSE, F_LIMIT.PP_VECTOR] ++
  [F_LIMIT.PP_COMPAT, F_LIMIT.PP_MOVE, F_LIMIT.REFILL_HELD, F_LIMIT.FLOOR_OVER, F_LIMIT.BIND, F_LIMIT.BIND_RAIL, F_LIMIT.LAMBDA_C, F_LIMIT.LAMBDA_N, F_LIMIT.THERM_LIM, F_LIMIT.BUDGET, F_LIMIT.FLOOR, F_LIMIT.DEMAND] ++
  [F_LIMIT.CRIT_DEMAND, F_LIMIT.WAFER_REASON, F_LIMIT.PRED_SRAM, F_LIMIT.PRED_CORE, F_LIMIT.ALLOW_SRAM, F_LIMIT.ALLOW_CORE, F_LIMIT.AVG_SUS_CORE, F_LIMIT.AVG_STL_CORE, F_LIMIT.AVG_SUS_SRAM, F_LIMIT.AVG_STL_SRAM, F_LIMIT.IDLE0, F_LIMIT.FLOOR0] ++
  [F_LIMIT.LIMIT_EXCEED, F_LIMIT.FLOOR_OVER_TICKS, F_LIMIT.PLAN_TICK]

/-! ### F_ISSUE: Table 4.8, R101 -/

def F_ISSUE.FIXED_Q : Fld := ⟨0x44, 0x040, 8, 7, .rw, 64⟩
def F_ISSUE.FIXED_Q_EN : Fld := ⟨0x44, 0x040, 7, 1, .rw, 0⟩
def F_ISSUE.RISE_STEP : Fld := ⟨0x44, 0x040, 0, 3, .rw, 4⟩
def F_ISSUE.THROTTLED : Fld := ⟨0x44, 0x060, 16, 16, .ro, 0⟩
def F_ISSUE.MEAN_Q : Fld := ⟨0x44, 0x060, 0, 16, .ro, 0⟩
def F_ISSUE.ISSUE_LO : Fld := ⟨0x44, 0x064, 0, 32, .ro, 0⟩
def F_ISSUE.ISSUE_HI : Fld := ⟨0x44, 0x068, 0, 32, .ro, 0⟩
def F_ISSUE.PARCEL_SEL : Fld := ⟨0x44, 0x06C, 0, 10, .rwl, 0⟩
def F_ISSUE.CRIT : Fld := ⟨0x44, 0x070, 20, 1, .ro, 0⟩
def F_ISSUE.REASON : Fld := ⟨0x44, 0x070, 16, 4, .ro, 0⟩
def F_ISSUE.CAP : Fld := ⟨0x44, 0x070, 8, 7, .ro, 0⟩
def F_ISSUE.Q_TARGET : Fld := ⟨0x44, 0x070, 0, 7, .ro, 0⟩
def F_ISSUE.DYN : Fld := ⟨0x44, 0x074, 16, 16, .ro, 0⟩
def F_ISSUE.BASE : Fld := ⟨0x44, 0x074, 0, 16, .ro, 0⟩

/-- Every field of the body of F_ISSUE. -/
def F_ISSUE.flds : List Fld :=
  [F_ISSUE.FIXED_Q, F_ISSUE.FIXED_Q_EN, F_ISSUE.RISE_STEP, F_ISSUE.THROTTLED, F_ISSUE.MEAN_Q, F_ISSUE.ISSUE_LO, F_ISSUE.ISSUE_HI, F_ISSUE.PARCEL_SEL, F_ISSUE.CRIT, F_ISSUE.REASON, F_ISSUE.CAP, F_ISSUE.Q_TARGET] ++
  [F_ISSUE.DYN, F_ISSUE.BASE]

/-! ### F_DROOP: Table 5.5, R123 -/

def F_DROOP.STAGGER_EN : Fld := ⟨0x45, 0x040, 2, 1, .rw, 1⟩
def F_DROOP.SHAPE_EN : Fld := ⟨0x45, 0x040, 1, 1, .rw, 1⟩
def F_DROOP.MODE_REQ : Fld := ⟨0x45, 0x040, 0, 1, .rw, 1⟩
def F_DROOP.RELEASE_EC : Fld := ⟨0x45, 0x044, 24, 8, .rw, 64⟩
def F_DROOP.T1_MARGIN : Fld := ⟨0x45, 0x044, 16, 8, .rw, 13⟩
def F_DROOP.T2_MARGIN : Fld := ⟨0x45, 0x044, 8, 8, .rw, 6⟩
def F_DROOP.IDLE_EC : Fld := ⟨0x45, 0x048, 16, 10, .rw, 256⟩
def F_DROOP.SHAPE_TIME : Fld := ⟨0x45, 0x048, 0, 11, .rw, 1024⟩
def F_DROOP.STEP_BUDGET : Fld := ⟨0x45, 0x04C, 16, 16, .rw, 160⟩
def F_DROOP.STAGGER_MAX : Fld := ⟨0x45, 0x04C, 0, 2, .rw, 2⟩
def F_DROOP.WIDE_HOLD : Fld := ⟨0x45, 0x050, 24, 8, .rw, 8⟩
def F_DROOP.T2_CLEAR : Fld := ⟨0x45, 0x050, 8, 8, .rw, 4⟩
def F_DROOP.T2_RATE_MAX : Fld := ⟨0x45, 0x050, 0, 8, .rw, 16⟩
def F_DROOP.NO_DETECTOR : Fld := ⟨0x45, 0x060, 12, 1, .ro, 0⟩
def F_DROOP.T2_RATE : Fld := ⟨0x45, 0x060, 11, 1, .ro, 0⟩
def F_DROOP.MEAS : Fld := ⟨0x45, 0x060, 10, 1, .ro, 0⟩
def F_DROOP.SHAPING_OFF : Fld := ⟨0x45, 0x060, 9, 1, .ro, 0⟩
def F_DROOP.REQ : Fld := ⟨0x45, 0x060, 8, 1, .ro, 1⟩
def F_DROOP.STAGGER_ON : Fld := ⟨0x45, 0x060, 3, 1, .ro, 1⟩
def F_DROOP.SHAPE_ON : Fld := ⟨0x45, 0x060, 2, 1, .ro, 1⟩
def F_DROOP.TRANSITION : Fld := ⟨0x45, 0x060, 1, 1, .ro, 0⟩
def F_DROOP.MODE_IN_FORCE : Fld := ⟨0x45, 0x060, 0, 1, .ro, 1⟩
def F_DROOP.HOLD_LEFT : Fld := ⟨0x45, 0x064, 16, 16, .ro, 0⟩
def F_DROOP.T2_BLOCK : Fld := ⟨0x45, 0x064, 0, 16, .ro, 0⟩
def F_DROOP.SHAPE_EC : Fld := ⟨0x45, 0x068, 16, 16, .ro, 0⟩
def F_DROOP.STEP_DENSE : Fld := ⟨0x45, 0x068, 0, 16, .ro, 0⟩
def F_DROOP.STEP_SPARSE : Fld := ⟨0x45, 0x06C, 16, 16, .ro, 0⟩
def F_DROOP.STEP_COMPAT : Fld := ⟨0x45, 0x06C, 0, 16, .ro, 0⟩
def F_DROOP.RING_ALLOW : Fld := ⟨0x45, 0x070, 0, 16, .ro, 0⟩
def F_DROOP.T1_EVENTS : Fld := ⟨0x45, 0x080, 0, 32, .ro, 0⟩
def F_DROOP.T2_EVENTS : Fld := ⟨0x45, 0x084, 0, 32, .ro, 0⟩
def F_DROOP.WIDE_ENTRIES : Fld := ⟨0x45, 0x088, 0, 32, .ro, 0⟩
def F_DROOP.LAST_T2_TICK : Fld := ⟨0x45, 0x08C, 0, 32, .ro, 0⟩
def F_DROOP.STAGGER_DELAYED : Fld := ⟨0x45, 0x090, 0, 32, .ro, 0⟩
def F_DROOP.STAGGER_FORCED : Fld := ⟨0x45, 0x094, 0, 32, .ro, 0⟩
def F_DROOP.PREDICT_MISS : Fld := ⟨0x45, 0x098, 0, 32, .ro, 0⟩
def F_DROOP.UNTICKETED : Fld := ⟨0x45, 0x09C, 0, 32, .ro, 0⟩
def F_DROOP.PREDICT_IDLE : Fld := ⟨0x45, 0x0A0, 0, 32, .ro, 0⟩
def F_DROOP.PARCEL_SEL : Fld := ⟨0x45, 0x0A4, 0, 10, .rwl, 0⟩
def F_DROOP.ARMED_B : Fld := ⟨0x45, 0x0A8, 25, 1, .ro, 0⟩
def F_DROOP.ARMED_A : Fld := ⟨0x45, 0x0A8, 24, 1, .ro, 0⟩
def F_DROOP.WAITING : Fld := ⟨0x45, 0x0A8, 23, 1, .ro, 0⟩
def F_DROOP.Q_SHAPE : Fld := ⟨0x45, 0x0A8, 16, 7, .ro, 0⟩
def F_DROOP.Q_DROOP : Fld := ⟨0x45, 0x0A8, 8, 7, .ro, 0⟩
def F_DROOP.MARGIN_MIN : Fld := ⟨0x45, 0x0A8, 0, 6, .ro, 0⟩

/-- Every field of the body of F_DROOP. -/
def F_DROOP.flds : List Fld :=
  [F_DROOP.STAGGER_EN, F_DROOP.SHAPE_EN, F_DROOP.MODE_REQ, F_DROOP.RELEASE_EC, F_DROOP.T1_MARGIN, F_DROOP.T2_MARGIN, F_DROOP.IDLE_EC, F_DROOP.SHAPE_TIME, F_DROOP.STEP_BUDGET, F_DROOP.STAGGER_MAX, F_DROOP.WIDE_HOLD, F_DROOP.T2_CLEAR] ++
  [F_DROOP.T2_RATE_MAX, F_DROOP.NO_DETECTOR, F_DROOP.T2_RATE, F_DROOP.MEAS, F_DROOP.SHAPING_OFF, F_DROOP.REQ, F_DROOP.STAGGER_ON, F_DROOP.SHAPE_ON, F_DROOP.TRANSITION, F_DROOP.MODE_IN_FORCE, F_DROOP.HOLD_LEFT, F_DROOP.T2_BLOCK] ++
  [F_DROOP.SHAPE_EC, F_DROOP.STEP_DENSE, F_DROOP.STEP_SPARSE, F_DROOP.STEP_COMPAT, F_DROOP.RING_ALLOW, F_DROOP.T1_EVENTS, F_DROOP.T2_EVENTS, F_DROOP.WIDE_ENTRIES, F_DROOP.LAST_T2_TICK, F_DROOP.STAGGER_DELAYED, F_DROOP.STAGGER_FORCED, F_DROOP.PREDICT_MISS] ++
  [F_DROOP.UNTICKETED, F_DROOP.PREDICT_IDLE, F_DROOP.PARCEL_SEL, F_DROOP.ARMED_B, F_DROOP.ARMED_A, F_DROOP.WAITING, F_DROOP.Q_SHAPE, F_DROOP.Q_DROOP, F_DROOP.MARGIN_MIN]

/-! ### F_THERM: Table 7.7, R173 -/

def F_THERM.AUTO_REMAP : Fld := ⟨0x46, 0x040, 0, 1, .rw, 1⟩
def F_THERM.WARN_C : Fld := ⟨0x46, 0x044, 16, 8, .rw, 95⟩
def F_THERM.THROT_C : Fld := ⟨0x46, 0x044, 8, 8, .rw, 105⟩
def F_THERM.SHUT_C : Fld := ⟨0x46, 0x044, 0, 8, .rw, 120⟩
def F_THERM.WARN_HYS : Fld := ⟨0x46, 0x048, 12, 4, .rw, 5⟩
def F_THERM.THROT_HYS : Fld := ⟨0x46, 0x048, 8, 4, .rw, 5⟩
def F_THERM.BROKEN_DEV : Fld := ⟨0x46, 0x048, 0, 8, .rw, 32⟩
def F_THERM.THETA : Fld := ⟨0x46, 0x04C, 16, 16, .rw, 160⟩
def F_THERM.STUCK_READS : Fld := ⟨0x46, 0x04C, 0, 16, .rw, 256⟩
def F_THERM.VALIDATE_READS : Fld := ⟨0x46, 0x050, 0, 8, .rw, 16⟩
def F_THERM.NO_BENCH : Fld := ⟨0x46, 0x060, 11, 1, .ro, 0⟩
def F_THERM.TRIP : Fld := ⟨0x46, 0x060, 10, 1, .ro, 0⟩
def F_THERM.THROTTLING : Fld := ⟨0x46, 0x060, 9, 1, .ro, 0⟩
def F_THERM.WARN : Fld := ⟨0x46, 0x060, 8, 1, .ro, 0⟩
def F_THERM.BAND : Fld := ⟨0x46, 0x060, 0, 3, .ro, 0⟩
def F_THERM.T_MAX : Fld := ⟨0x46, 0x064, 16, 16, .ro, 0⟩
def F_THERM.T_MEAN : Fld := ⟨0x46, 0x064, 0, 16, .ro, 0⟩
def F_THERM.T_MAX_SLOT : Fld := ⟨0x46, 0x068, 16, 16, .ro, 0⟩
def F_THERM.BENCH_VALID : Fld := ⟨0x46, 0x068, 8, 8, .ro, 0⟩
def F_THERM.FIELD_RED : Fld := ⟨0x46, 0x068, 0, 6, .ro, 0⟩
def F_THERM.REMAPPED : Fld := ⟨0x46, 0x06C, 16, 16, .ro, 0⟩
def F_THERM.BROKEN_NOW : Fld := ⟨0x46, 0x06C, 0, 16, .ro, 0⟩
def F_THERM.BROKEN_EVENTS : Fld := ⟨0x46, 0x070, 0, 32, .ro, 0⟩
def F_THERM.REMAPS : Fld := ⟨0x46, 0x074, 0, 32, .ro, 0⟩
def F_THERM.THROT_STEPS : Fld := ⟨0x46, 0x078, 0, 32, .ro, 0⟩
def F_THERM.WARN_ENTRIES : Fld := ⟨0x46, 0x07C, 0, 32, .ro, 0⟩
def F_THERM.BAND_CHANGES : Fld := ⟨0x46, 0x080, 0, 32, .ro, 0⟩
def F_THERM.BAND_TICK : Fld := ⟨0x46, 0x084, 0, 32, .ro, 0⟩
def F_THERM.PARCEL_SEL : Fld := ⟨0x46, 0x088, 0, 10, .rwl, 0⟩
def F_THERM.T_SEL : Fld := ⟨0x46, 0x08C, 16, 16, .ro, 0⟩
def F_THERM.BROKEN : Fld := ⟨0x46, 0x08C, 15, 1, .ro, 0⟩
def F_THERM.SPARE_IN_USE : Fld := ⟨0x46, 0x08C, 14, 1, .ro, 0⟩
def F_THERM.VALIDATING : Fld := ⟨0x46, 0x08C, 13, 1, .ro, 0⟩
def F_THERM.RED : Fld := ⟨0x46, 0x08C, 0, 6, .ro, 0⟩
def F_THERM.PL_BASE : Fld := ⟨0x46, 0x090, 16, 16, .ro, 0⟩
def F_THERM.PL : Fld := ⟨0x46, 0x090, 0, 16, .ro, 0⟩
def F_THERM.BENCH_ODD (k : Nat) : Fld := ⟨0x46, 0x0A0 + 4 * k, 16, 16, .ro, 0⟩
def F_THERM.BENCH_EVEN (k : Nat) : Fld := ⟨0x46, 0x0A0 + 4 * k, 0, 16, .ro, 0⟩

/-- Every field of the body of F_THERM. -/
def F_THERM.flds : List Fld :=
  [F_THERM.AUTO_REMAP, F_THERM.WARN_C, F_THERM.THROT_C, F_THERM.SHUT_C, F_THERM.WARN_HYS, F_THERM.THROT_HYS, F_THERM.BROKEN_DEV, F_THERM.THETA, F_THERM.STUCK_READS, F_THERM.VALIDATE_READS, F_THERM.NO_BENCH, F_THERM.TRIP] ++
  [F_THERM.THROTTLING, F_THERM.WARN, F_THERM.BAND, F_THERM.T_MAX, F_THERM.T_MEAN, F_THERM.T_MAX_SLOT, F_THERM.BENCH_VALID, F_THERM.FIELD_RED, F_THERM.REMAPPED, F_THERM.BROKEN_NOW, F_THERM.BROKEN_EVENTS, F_THERM.REMAPS] ++
  [F_THERM.THROT_STEPS, F_THERM.WARN_ENTRIES, F_THERM.BAND_CHANGES, F_THERM.BAND_TICK, F_THERM.PARCEL_SEL, F_THERM.T_SEL, F_THERM.BROKEN, F_THERM.SPARE_IN_USE, F_THERM.VALIDATING, F_THERM.RED, F_THERM.PL_BASE, F_THERM.PL] ++
  (List.range 4).map (fun j => F_THERM.BENCH_ODD j) ++
  (List.range 4).map (fun j => F_THERM.BENCH_EVEN j)

/-! ### F_RAIL: Table 8.7, R201 -/

def F_RAIL.BRAKE_EN (rl : Nat) : Fld := ⟨0x47 + rl, 0x040, 9, 1, .rw, 1⟩
def F_RAIL.SHED_EN (rl : Nat) : Fld := ⟨0x47 + rl, 0x040, 8, 1, .rw, 1⟩
def F_RAIL.SLEW (rl : Nat) : Fld := ⟨0x47 + rl, 0x040, 0, 5, .rw, 4⟩
def F_RAIL.FSW (rl : Nat) : Fld := ⟨0x47 + rl, 0x044, 16, 16, .rw, 600⟩
def F_RAIL.KTRIM (rl : Nat) : Fld := ⟨0x47 + rl, 0x044, 0, 16, .rw, 16384⟩
def F_RAIL.RAMP_MV (rl : Nat) : Fld := ⟨0x47 + rl, 0x048, 24, 8, .rw, 12⟩
def F_RAIL.OV_MV (rl : Nat) : Fld := ⟨0x47 + rl, 0x048, 16, 8, .rw, 100⟩
def F_RAIL.UV_MV (rl : Nat) : Fld := ⟨0x47 + rl, 0x048, 8, 8, .rw, 75⟩
def F_RAIL.PG_MV (rl : Nat) : Fld := ⟨0x47 + rl, 0x048, 0, 8, .rw, 30⟩
def F_RAIL.BRAKE_ON_MV (rl : Nat) : Fld := ⟨0x47 + rl, 0x04C, 24, 8, .rw, 30⟩
def F_RAIL.BRAKE_OFF_MV (rl : Nat) : Fld := ⟨0x47 + rl, 0x04C, 16, 8, .rw, 10⟩
def F_RAIL.SHED_A (rl : Nat) : Fld := ⟨0x47 + rl, 0x04C, 8, 8, .rw, 14⟩
def F_RAIL.ADD_A (rl : Nat) : Fld := ⟨0x47 + rl, 0x04C, 0, 8, .rw, 28⟩
def F_RAIL.SS_TIME (rl : Nat) : Fld := ⟨0x47 + rl, 0x050, 16, 16, .rw, 500⟩
def F_RAIL.DWELL (rl : Nat) : Fld := ⟨0x47 + rl, 0x050, 8, 8, .rw, 64⟩
def F_RAIL.MIN_PHASES (rl : Nat) : Fld := ⟨0x47 + rl, 0x050, 0, 8, .rw, (if rl = 0 then 4 else 1)⟩
def F_RAIL.OC_LIMIT (rl : Nat) : Fld := ⟨0x47 + rl, 0x054, 8, 8, .rw, 60⟩
def F_RAIL.OC_FOLD (rl : Nat) : Fld := ⟨0x47 + rl, 0x054, 0, 8, .rw, 20⟩
def F_RAIL.TRACK_MODE (rl : Nat) : Fld := ⟨0x47 + rl, 0x058, 0, 1, .rw, 0⟩
def F_RAIL.DATUM (rl : Nat) (k : Nat) : Fld := ⟨0x47 + rl, 0x060 + 4 * k, 0, 9, (if k < 2 then .ro else .rw), (10 * (k + 1) + 10 * rl)⟩
def F_RAIL.REF (rl : Nat) : Fld := ⟨0x47 + rl, 0x080, 16, 16, .ro, 0⟩
def F_RAIL.ARRIVED (rl : Nat) : Fld := ⟨0x47 + rl, 0x080, 15, 1, .ro, 0⟩
def F_RAIL.SLEWING (rl : Nat) : Fld := ⟨0x47 + rl, 0x080, 14, 1, .ro, 0⟩
def F_RAIL.BRAKING (rl : Nat) : Fld := ⟨0x47 + rl, 0x080, 13, 1, .ro, 0⟩
def F_RAIL.PGOOD (rl : Nat) : Fld := ⟨0x47 + rl, 0x080, 12, 1, .ro, 0⟩
def F_RAIL.LATCHED_OFF (rl : Nat) : Fld := ⟨0x47 + rl, 0x080, 11, 1, .ro, 0⟩
def F_RAIL.SOFTSTART (rl : Nat) : Fld := ⟨0x47 + rl, 0x080, 10, 1, .ro, 0⟩
def F_RAIL.ON (rl : Nat) : Fld := ⟨0x47 + rl, 0x080, 9, 1, .ro, 0⟩
def F_RAIL.VSEL (rl : Nat) : Fld := ⟨0x47 + rl, 0x080, 6, 3, .ro, 0⟩
def F_RAIL.TARGET (rl : Nat) : Fld := ⟨0x47 + rl, 0x084, 16, 16, .ro, 0⟩
def F_RAIL.VIN (rl : Nat) : Fld := ⟨0x47 + rl, 0x084, 0, 16, .ro, 0⟩
def F_RAIL.VOUT (rl : Nat) : Fld := ⟨0x47 + rl, 0x088, 16, 16, .ro, 0⟩
def F_RAIL.N_ACTIVE (rl : Nat) : Fld := ⟨0x47 + rl, 0x088, 0, 5, .ro, 0⟩
def F_RAIL.FAILED_MASK (rl : Nat) : Fld := ⟨0x47 + rl, 0x08C, 16, 16, .ro, 0⟩
def F_RAIL.ACTIVE_MASK (rl : Nat) : Fld := ⟨0x47 + rl, 0x08C, 0, 16, .ro, 0⟩
def F_RAIL.HELD_OT_MASK (rl : Nat) : Fld := ⟨0x47 + rl, 0x090, 16, 16, .ro, 0⟩
def F_RAIL.FOLDBACK_MASK (rl : Nat) : Fld := ⟨0x47 + rl, 0x090, 0, 16, .ro, 0⟩
def F_RAIL.SHED_EVENTS (rl : Nat) : Fld := ⟨0x47 + rl, 0x094, 0, 32, .ro, 0⟩
def F_RAIL.ADD_EVENTS (rl : Nat) : Fld := ⟨0x47 + rl, 0x098, 0, 32, .ro, 0⟩
def F_RAIL.RESTORE_ALL (rl : Nat) : Fld := ⟨0x47 + rl, 0x09C, 0, 32, .ro, 0⟩
def F_RAIL.BRAKE_EVENTS (rl : Nat) : Fld := ⟨0x47 + rl, 0x0A0, 0, 32, .ro, 0⟩
def F_RAIL.RETARGETS (rl : Nat) : Fld := ⟨0x47 + rl, 0x0A4, 0, 32, .ro, 0⟩
def F_RAIL.ARRIVALS (rl : Nat) : Fld := ⟨0x47 + rl, 0x0A8, 0, 32, .ro, 0⟩
def F_RAIL.ARRIVAL_TICK (rl : Nat) : Fld := ⟨0x47 + rl, 0x0AC, 0, 32, .ro, 0⟩
def F_RAIL.OV_EVENTS (rl : Nat) : Fld := ⟨0x47 + rl, 0x0B0, 0, 32, .ro, 0⟩
def F_RAIL.UV_EVENTS (rl : Nat) : Fld := ⟨0x47 + rl, 0x0B4, 0, 32, .ro, 0⟩

/-- Every field of the body of F_RAIL. -/
def F_RAIL.flds (rl : Nat) : List Fld :=
  [F_RAIL.BRAKE_EN rl, F_RAIL.SHED_EN rl, F_RAIL.SLEW rl, F_RAIL.FSW rl, F_RAIL.KTRIM rl, F_RAIL.RAMP_MV rl, F_RAIL.OV_MV rl, F_RAIL.UV_MV rl, F_RAIL.PG_MV rl, F_RAIL.BRAKE_ON_MV rl, F_RAIL.BRAKE_OFF_MV rl, F_RAIL.SHED_A rl] ++
  [F_RAIL.ADD_A rl, F_RAIL.SS_TIME rl, F_RAIL.DWELL rl, F_RAIL.MIN_PHASES rl, F_RAIL.OC_LIMIT rl, F_RAIL.OC_FOLD rl] ++ (if rl = 0 then [F_RAIL.TRACK_MODE rl] else []) ++
  (List.range 8).map (fun j => F_RAIL.DATUM rl j) ++
  [F_RAIL.REF rl, F_RAIL.ARRIVED rl, F_RAIL.SLEWING rl, F_RAIL.BRAKING rl, F_RAIL.PGOOD rl, F_RAIL.LATCHED_OFF rl, F_RAIL.SOFTSTART rl, F_RAIL.ON rl, F_RAIL.VSEL rl, F_RAIL.TARGET rl, F_RAIL.VIN rl, F_RAIL.VOUT rl] ++
  [F_RAIL.N_ACTIVE rl, F_RAIL.FAILED_MASK rl, F_RAIL.ACTIVE_MASK rl, F_RAIL.HELD_OT_MASK rl, F_RAIL.FOLDBACK_MASK rl, F_RAIL.SHED_EVENTS rl, F_RAIL.ADD_EVENTS rl, F_RAIL.RESTORE_ALL rl, F_RAIL.BRAKE_EVENTS rl, F_RAIL.RETARGETS rl, F_RAIL.ARRIVALS rl, F_RAIL.ARRIVAL_TICK rl] ++
  [F_RAIL.OV_EVENTS rl, F_RAIL.UV_EVENTS rl]

/-! ### F_PHASE: Table 8.8, R201 -/

def F_PHASE.PHASE_DISABLE : Fld := ⟨0x49, 0x040, 0, 20, .rw, 0⟩
def F_PHASE.OT_C : Fld := ⟨0x49, 0x044, 24, 8, .rw, 125⟩
def F_PHASE.OT_HYS : Fld := ⟨0x49, 0x044, 16, 8, .rw, 10⟩
def F_PHASE.BAL_STEP : Fld := ⟨0x49, 0x044, 8, 8, .rw, 1⟩
def F_PHASE.OC_CYCLES : Fld := ⟨0x49, 0x048, 0, 16, .rw, 32⟩
def F_PHASE.IMON (p : Nat) : Fld := ⟨0x49, 0x060 + 4 * p, 16, 16, .ro, 0⟩
def F_PHASE.TMON (p : Nat) : Fld := ⟨0x49, 0x060 + 4 * p, 8, 8, .ro, 0⟩
def F_PHASE.STATE (p : Nat) : Fld := ⟨0x49, 0x060 + 4 * p, 5, 3, .ro, 0⟩
def F_PHASE.FOLDBACK (p : Nat) : Fld := ⟨0x49, 0x060 + 4 * p, 4, 1, .ro, 0⟩
def F_PHASE.FAULT_PIN (p : Nat) : Fld := ⟨0x49, 0x060 + 4 * p, 3, 1, .ro, 0⟩
def F_PHASE.CHAN_INVALID (p : Nat) : Fld := ⟨0x49, 0x060 + 4 * p, 2, 1, .ro, 0⟩
def F_PHASE.HELD_OT (p : Nat) : Fld := ⟨0x49, 0x060 + 4 * p, 1, 1, .ro, 0⟩
def F_PHASE.BAL_TRIM (p : Nat) : Fld := ⟨0x49, 0x0B0 + 4 * p, 0, 8, .ro, 0⟩
def F_PHASE.OC_EVENTS : Fld := ⟨0x49, 0x100, 0, 32, .ro, 0⟩
def F_PHASE.OT_EVENTS : Fld := ⟨0x49, 0x104, 0, 32, .ro, 0⟩
def F_PHASE.STAGE_FAULTS : Fld := ⟨0x49, 0x108, 0, 32, .ro, 0⟩
def F_PHASE.LF_COUNT : Fld := ⟨0x49, 0x10C, 0, 32, .ro, 0⟩
def F_PHASE.LF_TICK : Fld := ⟨0x49, 0x110, 0, 32, .ro, 0⟩
def F_PHASE.LF_CAUSE : Fld := ⟨0x49, 0x114, 0, 8, .ro, 0⟩

/-- Every field of the body of F_PHASE. -/
def F_PHASE.flds : List Fld :=
  [F_PHASE.PHASE_DISABLE, F_PHASE.OT_C, F_PHASE.OT_HYS, F_PHASE.BAL_STEP, F_PHASE.OC_CYCLES] ++
  (List.range 20).map (fun j => F_PHASE.IMON j) ++
  (List.range 20).map (fun j => F_PHASE.TMON j) ++
  (List.range 20).map (fun j => F_PHASE.STATE j) ++
  (List.range 20).map (fun j => F_PHASE.FOLDBACK j) ++
  (List.range 20).map (fun j => F_PHASE.FAULT_PIN j) ++
  (List.range 20).map (fun j => F_PHASE.CHAN_INVALID j) ++
  (List.range 20).map (fun j => F_PHASE.HELD_OT j) ++
  (List.range 20).map (fun j => F_PHASE.BAL_TRIM j) ++
  [F_PHASE.OC_EVENTS, F_PHASE.OT_EVENTS, F_PHASE.STAGE_FAULTS, F_PHASE.LF_COUNT, F_PHASE.LF_TICK, F_PHASE.LF_CAUSE]

/-! ### F_TICKET: Table 6.10, R150 -/

def F_TICKET.FORCE_FIXED : Fld := ⟨0x4A, 0x040, 2, 1, .rw, 0⟩
def F_TICKET.CRIT_FREE : Fld := ⟨0x4A, 0x040, 1, 1, .rw, 1⟩
def F_TICKET.POOL_MAX : Fld := ⟨0x4A, 0x044, 16, 16, .rw, 256⟩
def F_TICKET.CHARGE_MAX : Fld := ⟨0x4A, 0x044, 0, 16, .rw, 64⟩
def F_TICKET.AGE_LIMIT : Fld := ⟨0x4A, 0x048, 16, 16, .rw, 512⟩
def F_TICKET.FIXED_REFILL : Fld := ⟨0x4A, 0x048, 0, 16, .rw, 8⟩
def F_TICKET.START_TIMEOUT : Fld := ⟨0x4A, 0x04C, 16, 16, .rw, 256⟩
def F_TICKET.REPRESENT_MAX : Fld := ⟨0x4A, 0x04C, 0, 7, .rw, 64⟩
def F_TICKET.FIXED_ON : Fld := ⟨0x4A, 0x060, 7, 1, .ro, 0⟩
def F_TICKET.FIX_PLUMB : Fld := ⟨0x4A, 0x060, 6, 1, .ro, 0⟩
def F_TICKET.FIX_SAFE : Fld := ⟨0x4A, 0x060, 5, 1, .ro, 0⟩
def F_TICKET.FIX_HOLD : Fld := ⟨0x4A, 0x060, 4, 1, .ro, 0⟩
def F_TICKET.HANG : Fld := ⟨0x4A, 0x060, 3, 1, .ro, 0⟩
def F_TICKET.HELD_QUIESCE : Fld := ⟨0x4A, 0x060, 2, 1, .ro, 0⟩
def F_TICKET.HELD_FLOOR : Fld := ⟨0x4A, 0x060, 1, 1, .ro, 0⟩
def F_TICKET.MARKED_OUT : Fld := ⟨0x4A, 0x060, 0, 1, .ro, 0⟩
def F_TICKET.WAITING : Fld := ⟨0x4A, 0x064, 16, 16, .ro, 0⟩
def F_TICKET.IN_USE : Fld := ⟨0x4A, 0x064, 0, 16, .ro, 0⟩
def F_TICKET.GRANTED : Fld := ⟨0x4A, 0x068, 16, 16, .ro, 0⟩
def F_TICKET.RUNNING : Fld := ⟨0x4A, 0x068, 0, 16, .ro, 0⟩
def F_TICKET.HANG_AGE : Fld := ⟨0x4A, 0x06C, 0, 32, .ro, 0⟩
def F_TICKET.REQUESTS : Fld := ⟨0x4A, 0x070, 0, 32, .ro, 0⟩
def F_TICKET.GRANT_FAST : Fld := ⟨0x4A, 0x074, 0, 32, .ro, 0⟩
def F_TICKET.GRANT_LATER : Fld := ⟨0x4A, 0x078, 0, 32, .ro, 0⟩
def F_TICKET.AGED : Fld := ⟨0x4A, 0x07C, 0, 32, .ro, 0⟩
def F_TICKET.PROTO_ERR : Fld := ⟨0x4A, 0x080, 0, 32, .ro, 0⟩
def F_TICKET.CANCELLED : Fld := ⟨0x4A, 0x084, 0, 32, .ro, 0⟩
def F_TICKET.RETIRED : Fld := ⟨0x4A, 0x088, 0, 32, .ro, 0⟩
def F_TICKET.ABORTED : Fld := ⟨0x4A, 0x08C, 0, 32, .ro, 0⟩
def F_TICKET.FIELD_CREDIT : Fld := ⟨0x4A, 0x090, 0, 32, .ro, 0⟩
def F_TICKET.RET_COUNT (c : Nat) : Fld := ⟨0x4A, 0x0A0 + 0x10 * (c - 1), 0, 32, .ro, 0⟩
def F_TICKET.PRIOR_SUM (c : Nat) : Fld := ⟨0x4A, 0x0A4 + 0x10 * (c - 1), 0, 32, .ro, 0⟩
def F_TICKET.ACTUAL_SUM (c : Nat) : Fld := ⟨0x4A, 0x0A8 + 0x10 * (c - 1), 0, 32, .ro, 0⟩
def F_TICKET.ERR_SUM (c : Nat) : Fld := ⟨0x4A, 0x0AC + 0x10 * (c - 1), 0, 32, .ro, 0⟩
def F_TICKET.QUEUE_ORDER (k : Nat) : Fld := ⟨0x4A, 0x0F0 + 4 * k, 0, 32, .ro, 0⟩
def F_TICKET.PARCEL_SEL : Fld := ⟨0x4A, 0x118, 0, 10, .rwl, 0⟩
def F_TICKET.POOL : Fld := ⟨0x4A, 0x11C, 16, 16, .ro, 0⟩
def F_TICKET.IN_FORCE : Fld := ⟨0x4A, 0x11C, 0, 3, .ro, 0⟩

/-- Every field of the body of F_TICKET. -/
def F_TICKET.flds : List Fld :=
  [F_TICKET.FORCE_FIXED, F_TICKET.CRIT_FREE, F_TICKET.POOL_MAX, F_TICKET.CHARGE_MAX, F_TICKET.AGE_LIMIT, F_TICKET.FIXED_REFILL, F_TICKET.START_TIMEOUT, F_TICKET.REPRESENT_MAX, F_TICKET.FIXED_ON, F_TICKET.FIX_PLUMB, F_TICKET.FIX_SAFE, F_TICKET.FIX_HOLD] ++
  [F_TICKET.HANG, F_TICKET.HELD_QUIESCE, F_TICKET.HELD_FLOOR, F_TICKET.MARKED_OUT, F_TICKET.WAITING, F_TICKET.IN_USE, F_TICKET.GRANTED, F_TICKET.RUNNING, F_TICKET.HANG_AGE, F_TICKET.REQUESTS, F_TICKET.GRANT_FAST, F_TICKET.GRANT_LATER] ++
  [F_TICKET.AGED, F_TICKET.PROTO_ERR, F_TICKET.CANCELLED, F_TICKET.RETIRED, F_TICKET.ABORTED, F_TICKET.FIELD_CREDIT] ++
  (List.range 5).map (fun j => F_TICKET.RET_COUNT (j + 1)) ++
  (List.range 5).map (fun j => F_TICKET.PRIOR_SUM (j + 1)) ++
  (List.range 5).map (fun j => F_TICKET.ACTUAL_SUM (j + 1)) ++
  (List.range 5).map (fun j => F_TICKET.ERR_SUM (j + 1)) ++
  (List.range 10).map (fun j => F_TICKET.QUEUE_ORDER j) ++
  [F_TICKET.PARCEL_SEL, F_TICKET.POOL, F_TICKET.IN_FORCE]

/-! ### F_TRACE: Table 11.6, R263 -/

def F_TRACE.GROUP_EN : Fld := ⟨0x4B, 0x040, 16, 16, .rw, 1919⟩
def F_TRACE.TRIG_SEND : Fld := ⟨0x4B, 0x040, 5, 1, .rw, 0⟩
def F_TRACE.TRIG_FOLLOW : Fld := ⟨0x4B, 0x040, 4, 1, .rw, 1⟩
def F_TRACE.CAPTURE : Fld := ⟨0x4B, 0x040, 2, 1, .rw, 0⟩
def F_TRACE.POLICY : Fld := ⟨0x4B, 0x040, 0, 2, .rw, 0⟩
def F_TRACE.TRIG_CODE : Fld := ⟨0x4B, 0x044, 24, 8, .rw, 0⟩
def F_TRACE.TRIG_MASK : Fld := ⟨0x4B, 0x044, 16, 8, .rw, 0⟩
def F_TRACE.TRIG_SLOT : Fld := ⟨0x4B, 0x044, 0, 10, .rw, 1023⟩
def F_TRACE.STATE : Fld := ⟨0x4B, 0x060, 0, 2, .ro, 0⟩
def F_TRACE.FILL : Fld := ⟨0x4B, 0x064, 16, 16, .ro, 0⟩
def F_TRACE.HIGH_WATER : Fld := ⟨0x4B, 0x064, 0, 16, .ro, 0⟩
def F_TRACE.WR_INDEX : Fld := ⟨0x4B, 0x068, 16, 11, .ro, 0⟩
def F_TRACE.RD_INDEX : Fld := ⟨0x4B, 0x068, 0, 11, .ro, 0⟩
def F_TRACE.WRITTEN : Fld := ⟨0x4B, 0x06C, 0, 32, .ro, 0⟩
def F_TRACE.LOST : Fld := ⟨0x4B, 0x070, 0, 32, .ro, 0⟩
def F_TRACE.STALE : Fld := ⟨0x4B, 0x074, 0, 32, .ro, 0⟩
def F_TRACE.MERGED : Fld := ⟨0x4B, 0x078, 0, 32, .ro, 0⟩
def F_TRACE.TRIG_TICK : Fld := ⟨0x4B, 0x07C, 0, 32, .ro, 0⟩
def F_TRACE.POST_LEFT : Fld := ⟨0x4B, 0x080, 0, 10, .ro, 0⟩
def F_TRACE.ACK_EC : Fld := ⟨0x4B, 0x084, 16, 16, .ro, 0⟩
def F_TRACE.ARRIVE_EC : Fld := ⟨0x4B, 0x084, 0, 16, .ro, 0⟩
def F_TRACE.ARRIVE_TICK : Fld := ⟨0x4B, 0x088, 0, 32, .ro, 0⟩
def F_TRACE.RESUME_LATE : Fld := ⟨0x4B, 0x08C, 0, 32, .ro, 0⟩
def F_TRACE.FW_DATA : Fld := ⟨0x4B, 0x090, 0, 32, .rwl, 0⟩
def F_TRACE.FW_POINT : Fld := ⟨0x4B, 0x094, 0, 32, .wo, 0⟩

/-- Every field of the body of F_TRACE. -/
def F_TRACE.flds : List Fld :=
  [F_TRACE.GROUP_EN, F_TRACE.TRIG_SEND, F_TRACE.TRIG_FOLLOW, F_TRACE.CAPTURE, F_TRACE.POLICY, F_TRACE.TRIG_CODE, F_TRACE.TRIG_MASK, F_TRACE.TRIG_SLOT, F_TRACE.STATE, F_TRACE.FILL, F_TRACE.HIGH_WATER, F_TRACE.WR_INDEX] ++
  [F_TRACE.RD_INDEX, F_TRACE.WRITTEN, F_TRACE.LOST, F_TRACE.STALE, F_TRACE.MERGED, F_TRACE.TRIG_TICK, F_TRACE.POST_LEFT, F_TRACE.ACK_EC, F_TRACE.ARRIVE_EC, F_TRACE.ARRIVE_TICK, F_TRACE.RESUME_LATE, F_TRACE.FW_DATA] ++
  [F_TRACE.FW_POINT]

/-! ### F_FW: Table 12.10, R289 -/

def F_FW.LOG_LEVEL : Fld := ⟨0x4C, 0x040, 0, 3, .rw, 2⟩
def F_FW.STATE : Fld := ⟨0x4C, 0x060, 28, 4, .ro, 0⟩
def F_FW.IMAGE : Fld := ⟨0x4C, 0x060, 27, 1, .ro, 0⟩
def F_FW.SAFE_SET : Fld := ⟨0x4C, 0x060, 26, 1, .ro, 0⟩
def F_FW.HOLD : Fld := ⟨0x4C, 0x060, 25, 1, .ro, 0⟩
def F_FW.LAST_COMP : Fld := ⟨0x4C, 0x060, 8, 8, .ro, 0⟩
def F_FW.LAST_CAUSE : Fld := ⟨0x4C, 0x060, 0, 8, .ro, 0⟩
def F_FW.LAST_RESTART_US : Fld := ⟨0x4C, 0x064, 16, 16, .ro, 0⟩
def F_FW.HOLD_LEFT : Fld := ⟨0x4C, 0x064, 0, 16, .ro, 0⟩
def F_FW.RESTART_COUNT : Fld := ⟨0x4C, 0x068, 0, 32, .ro, 0⟩
def F_FW.COMP_FAULTS : Fld := ⟨0x4C, 0x06C, 0, 32, .ro, 0⟩
def F_FW.RESTART_TICK : Fld := ⟨0x4C, 0x070, 0, 32, .ro, 0⟩
def F_FW.LOG_WR : Fld := ⟨0x4C, 0x074, 0, 32, .ro, 0⟩

/-- Every field of the body of F_FW. -/
def F_FW.flds : List Fld :=
  [F_FW.LOG_LEVEL, F_FW.STATE, F_FW.IMAGE, F_FW.SAFE_SET, F_FW.HOLD, F_FW.LAST_COMP, F_FW.LAST_CAUSE, F_FW.LAST_RESTART_US, F_FW.HOLD_LEFT, F_FW.RESTART_COUNT, F_FW.COMP_FAULTS, F_FW.RESTART_TICK] ++
  [F_FW.LOG_WR]

/-! ### F_BIST: Table 14.7, R345 -/

def F_BIST.REMAP_ON_FAIL : Fld := ⟨0x4E, 0x040, 0, 1, .rw, 1⟩
def F_BIST.SENSOR_TOL : Fld := ⟨0x4E, 0x044, 16, 16, .rw, 16⟩
def F_BIST.ADC_TOL : Fld := ⟨0x4E, 0x044, 8, 8, .rw, 3⟩
def F_BIST.IMON_TOL : Fld := ⟨0x4E, 0x044, 0, 8, .rw, 3⟩
def F_BIST.STATE : Fld := ⟨0x4E, 0x060, 30, 2, .ro, 0⟩
def F_BIST.SIG_MATCH : Fld := ⟨0x4E, 0x060, 29, 1, .ro, 0⟩
def F_BIST.UNTESTED : Fld := ⟨0x4E, 0x060, 12, 12, .ro, 0⟩
def F_BIST.FAILED : Fld := ⟨0x4E, 0x060, 0, 12, .ro, 0⟩
def F_BIST.SIG_LO : Fld := ⟨0x4E, 0x064, 0, 32, .ro, 0⟩
def F_BIST.SIG_HI : Fld := ⟨0x4E, 0x068, 0, 32, .ro, 0⟩
def F_BIST.REF_LO : Fld := ⟨0x4E, 0x06C, 0, 32, .ro, 0⟩
def F_BIST.REF_HI : Fld := ⟨0x4E, 0x070, 0, 32, .ro, 0⟩
def F_BIST.RUN_TICK : Fld := ⟨0x4E, 0x074, 0, 32, .ro, 0⟩
def F_BIST.RUNS : Fld := ⟨0x4E, 0x078, 0, 32, .ro, 0⟩
def F_BIST.FIRST_FAIL : Fld := ⟨0x4E, 0x07C, 0, 16, .ro, 0⟩
def F_BIST.VEC (k : Nat) : Fld := ⟨0x4E, 0x100 + 4 * k, 0, 32, .ro, 0⟩

/-- Every field of the body of F_BIST. -/
def F_BIST.flds : List Fld :=
  [F_BIST.REMAP_ON_FAIL, F_BIST.SENSOR_TOL, F_BIST.ADC_TOL, F_BIST.IMON_TOL, F_BIST.STATE, F_BIST.SIG_MATCH, F_BIST.UNTESTED, F_BIST.FAILED, F_BIST.SIG_LO, F_BIST.SIG_HI, F_BIST.REF_LO, F_BIST.REF_HI] ++
  [F_BIST.RUN_TICK, F_BIST.RUNS, F_BIST.FIRST_FAIL] ++
  (List.range 72).map (fun j => F_BIST.VEC j)

/-! ### F_COUNTERS: Table 10.7, R239 -/

def F_COUNTERS.CNT_TICK : Fld := ⟨0x4F, 0x040, 0, 32, .ro, 0⟩
def F_COUNTERS.ACTIVE_PT_LO : Fld := ⟨0x4F, 0x044, 0, 32, .ro, 0⟩
def F_COUNTERS.ACTIVE_PT_HI : Fld := ⟨0x4F, 0x048, 0, 32, .ro, 0⟩
def F_COUNTERS.Q_SUM_LO : Fld := ⟨0x4F, 0x04C, 0, 32, .ro, 0⟩
def F_COUNTERS.Q_SUM_HI : Fld := ⟨0x4F, 0x050, 0, 32, .ro, 0⟩
def F_COUNTERS.HOLD_PT_LO : Fld := ⟨0x4F, 0x054, 0, 32, .ro, 0⟩
def F_COUNTERS.HOLD_PT_HI : Fld := ⟨0x4F, 0x058, 0, 32, .ro, 0⟩
def F_COUNTERS.THR_PT_LO (r : Nat) : Fld := ⟨0x4F, 0x060 + 8 * (r - 1), 0, 32, .ro, 0⟩
def F_COUNTERS.THR_PT_HI (r : Nat) : Fld := ⟨0x4F, 0x064 + 8 * (r - 1), 0, 32, .ro, 0⟩
def F_COUNTERS.E_FIELD_LO : Fld := ⟨0x4F, 0x0C0, 0, 32, .ro, 0⟩
def F_COUNTERS.E_FIELD_HI : Fld := ⟨0x4F, 0x0C4, 0, 32, .ro, 0⟩
def F_COUNTERS.T_SUM_LO : Fld := ⟨0x4F, 0x0C8, 0, 32, .ro, 0⟩
def F_COUNTERS.T_SUM_HI : Fld := ⟨0x4F, 0x0CC, 0, 32, .ro, 0⟩
def F_COUNTERS.T_PEAK : Fld := ⟨0x4F, 0x0D0, 16, 16, .ro, 0⟩
def F_COUNTERS.PEAK_SLOT : Fld := ⟨0x4F, 0x0D0, 0, 10, .ro, 0⟩
def F_COUNTERS.T_PEAK_TICK : Fld := ⟨0x4F, 0x0D4, 0, 32, .ro, 0⟩
def F_COUNTERS.ECC_CE : Fld := ⟨0x4F, 0x0D8, 0, 32, .ro, 0⟩
def F_COUNTERS.FAULT_CNT_ODD (k : Nat) : Fld := ⟨0x4F, 0x0E0 + 4 * k, 16, 16, .ro, 0⟩
def F_COUNTERS.FAULT_CNT_EVEN (k : Nat) : Fld := ⟨0x4F, 0x0E0 + 4 * k, 0, 16, .ro, 0⟩
def F_COUNTERS.SAFE_PT_LO : Fld := ⟨0x4F, 0x120, 0, 32, .ro, 0⟩
def F_COUNTERS.SAFE_PT_HI : Fld := ⟨0x4F, 0x124, 0, 32, .ro, 0⟩

/-- Every field of the body of F_COUNTERS. -/
def F_COUNTERS.flds : List Fld :=
  [F_COUNTERS.CNT_TICK, F_COUNTERS.ACTIVE_PT_LO, F_COUNTERS.ACTIVE_PT_HI, F_COUNTERS.Q_SUM_LO, F_COUNTERS.Q_SUM_HI, F_COUNTERS.HOLD_PT_LO, F_COUNTERS.HOLD_PT_HI] ++
  (List.range 12).map (fun j => F_COUNTERS.THR_PT_LO (j + 1)) ++
  (List.range 12).map (fun j => F_COUNTERS.THR_PT_HI (j + 1)) ++
  [F_COUNTERS.E_FIELD_LO, F_COUNTERS.E_FIELD_HI, F_COUNTERS.T_SUM_LO, F_COUNTERS.T_SUM_HI, F_COUNTERS.T_PEAK, F_COUNTERS.PEAK_SLOT, F_COUNTERS.T_PEAK_TICK, F_COUNTERS.ECC_CE] ++
  (List.range 16).map (fun j => F_COUNTERS.FAULT_CNT_ODD j) ++
  (List.range 16).map (fun j => F_COUNTERS.FAULT_CNT_EVEN j) ++
  [F_COUNTERS.SAFE_PT_LO, F_COUNTERS.SAFE_PT_HI]

/-! ### F_MEM: Table 14.5, R345 -/

def F_MEM.AUTO_REPAIR : Fld := ⟨0x4D, 0x040, 1, 1, .rw, 1⟩
def F_MEM.REPAIR_EN : Fld := ⟨0x4D, 0x040, 0, 1, .rw, 1⟩
def F_MEM.CE_LIMIT : Fld := ⟨0x4D, 0x044, 16, 16, .rw, 32⟩
def F_MEM.MARCH_PERIOD : Fld := ⟨0x4D, 0x044, 0, 16, .rw, 64⟩
def F_MEM.MARCH_STATE : Fld := ⟨0x4D, 0x060, 0, 3, .ro, 0⟩
def F_MEM.UE_ADDR : Fld := ⟨0x4D, 0x064, 0, 15, .ro, 0⟩
def F_MEM.UE_COUNT : Fld := ⟨0x4D, 0x068, 0, 32, .ro, 0⟩
def F_MEM.CE_BLOCK : Fld := ⟨0x4D, 0x06C, 0, 32, .ro, 0⟩
def F_MEM.SCRUB_POS : Fld := ⟨0x4D, 0x070, 0, 15, .ro, 0⟩
def F_MEM.SCRUB_SWEEPS : Fld := ⟨0x4D, 0x074, 0, 32, .ro, 0⟩
def F_MEM.MARCH_FAILS : Fld := ⟨0x4D, 0x078, 16, 16, .ro, 0⟩
def F_MEM.MARCH_SEG : Fld := ⟨0x4D, 0x078, 0, 7, .ro, 0⟩
def F_MEM.SPARES_FREE : Fld := ⟨0x4D, 0x07C, 16, 16, .ro, 32⟩
def F_MEM.SOFT_REPAIRS : Fld := ⟨0x4D, 0x07C, 0, 16, .ro, 0⟩
def F_MEM.REPAIR_BANK : Fld := ⟨0x4D, 0x080, 0, 3, .rwl, 0⟩
def F_MEM.VALID (e : Nat) : Fld := ⟨0x4D, 0x084 + 4 * e, 31, 1, .ro, 0⟩
def F_MEM.FUSED (e : Nat) : Fld := ⟨0x4D, 0x084 + 4 * e, 30, 1, .ro, 0⟩
def F_MEM.ROW (e : Nat) : Fld := ⟨0x4D, 0x084 + 4 * e, 0, 9, .ro, 0⟩

/-- Every field of the body of F_MEM. -/
def F_MEM.flds : List Fld :=
  [F_MEM.AUTO_REPAIR, F_MEM.REPAIR_EN, F_MEM.CE_LIMIT, F_MEM.MARCH_PERIOD, F_MEM.MARCH_STATE, F_MEM.UE_ADDR, F_MEM.UE_COUNT, F_MEM.CE_BLOCK, F_MEM.SCRUB_POS, F_MEM.SCRUB_SWEEPS, F_MEM.MARCH_FAILS, F_MEM.MARCH_SEG] ++
  [F_MEM.SPARES_FREE, F_MEM.SOFT_REPAIRS, F_MEM.REPAIR_BANK] ++
  (List.range 4).map (fun j => F_MEM.VALID j) ++
  (List.range 4).map (fun j => F_MEM.FUSED j) ++
  (List.range 4).map (fun j => F_MEM.ROW j)

end Sys2Proof.Machine
end

