-- ==== Sys2Proof/Machine/PagesHub.lean ====
section
/-!
DEFINITION. The body registers of the hub pages, field by field, with offset, bits, access code and reset as the tables of the owning chapters give them. Reset words that the spec calls fused, fixed or calibration stand as 0 here; see the assumption log.
-/

namespace Sys2Proof.Machine

open Sys2Proof

/-! ### HUB_ID: Table 18.6, R428 -/

def HUB_ID.WAFER_ID : Fld := ⟨0x10, 0x040, 0, 32, .ro, 0⟩
def HUB_ID.DEVICE_CODE : Fld := ⟨0x10, 0x044, 16, 16, .ro, 2611⟩
def HUB_ID.FIELDS : Fld := ⟨0x10, 0x044, 0, 7, .ro, 84⟩
def HUB_ID.ROM_VER : Fld := ⟨0x10, 0x048, 0, 32, .ro, 0⟩
def HUB_ID.OUT_MAP0 : Fld := ⟨0x10, 0x060, 0, 32, .ro, 4294967295⟩
def HUB_ID.OUT_MAP1 : Fld := ⟨0x10, 0x064, 0, 32, .ro, 4294967295⟩
def HUB_ID.OUT_MAP2 : Fld := ⟨0x10, 0x068, 0, 20, .ro, 1048575⟩
def HUB_ID.ERR_HUB : Fld := ⟨0x10, 0x06C, 0, 25, .ro, 0⟩
def HUB_ID.ERR_FIELD0 : Fld := ⟨0x10, 0x070, 0, 32, .ro, 0⟩
def HUB_ID.ERR_FIELD1 : Fld := ⟨0x10, 0x074, 0, 32, .ro, 0⟩
def HUB_ID.ERR_FIELD2 : Fld := ⟨0x10, 0x078, 0, 20, .ro, 0⟩
def HUB_ID.HOST_TAG : Fld := ⟨0x10, 0x07C, 0, 32, .rwl, 0⟩

/-- Every field of the body of HUB_ID. -/
def HUB_ID.flds : List Fld :=
  [HUB_ID.WAFER_ID, HUB_ID.DEVICE_CODE, HUB_ID.FIELDS, HUB_ID.ROM_VER, HUB_ID.OUT_MAP0, HUB_ID.OUT_MAP1, HUB_ID.OUT_MAP2, HUB_ID.ERR_HUB, HUB_ID.ERR_FIELD0, HUB_ID.ERR_FIELD1, HUB_ID.ERR_FIELD2, HUB_ID.HOST_TAG]

/-! ### HUB_TICK: Table 2.1, R32 -/

def HUB_TICK.TICK_LO : Fld := ⟨0x11, 0x040, 0, 32, .ro, 0⟩
def HUB_TICK.TICK_HI : Fld := ⟨0x11, 0x044, 0, 16, .ro, 0⟩
def HUB_TICK.TICK_OFFSET : Fld := ⟨0x11, 0x048, 0, 11, .ro, 0⟩
def HUB_TICK.OVR_MAP0 : Fld := ⟨0x11, 0x050, 0, 32, .w1c, 0⟩
def HUB_TICK.OVR_MAP1 : Fld := ⟨0x11, 0x054, 0, 32, .w1c, 0⟩
def HUB_TICK.OVR_HUB : Fld := ⟨0x11, 0x058, 31, 1, .w1c, 0⟩
def HUB_TICK.OVR_MAP2 : Fld := ⟨0x11, 0x058, 0, 20, .w1c, 0⟩
def HUB_TICK.OVR_LAST_SRC : Fld := ⟨0x11, 0x05C, 24, 8, .ro, 0⟩
def HUB_TICK.OVR_LAST_TICK : Fld := ⟨0x11, 0x05C, 0, 24, .ro, 0⟩

/-- Every field of the body of HUB_TICK. -/
def HUB_TICK.flds : List Fld :=
  [HUB_TICK.TICK_LO, HUB_TICK.TICK_HI, HUB_TICK.TICK_OFFSET, HUB_TICK.OVR_MAP0, HUB_TICK.OVR_MAP1, HUB_TICK.OVR_HUB, HUB_TICK.OVR_MAP2, HUB_TICK.OVR_LAST_SRC, HUB_TICK.OVR_LAST_TICK]

/-! ### HUB_STATE: Table 16.11, R394 -/

def HUB_STATE.IRQ_EN_CMP : Fld := ⟨0x12, 0x040, 4, 3, .rwl, 7⟩
def HUB_STATE.IRQ_EN : Fld := ⟨0x12, 0x040, 1, 3, .rwl, 7⟩
def HUB_STATE.PREV_STATE : Fld := ⟨0x12, 0x060, 4, 4, .ro, 0⟩
def HUB_STATE.MGR_STATE : Fld := ⟨0x12, 0x060, 0, 4, .ro, 1⟩
def HUB_STATE.CMP : Fld := ⟨0x12, 0x064, 4, 3, .w1c, 0⟩
def HUB_STATE.DRAIN : Fld := ⟨0x12, 0x064, 3, 1, .w1c, 0⟩
def HUB_STATE.THERMAL : Fld := ⟨0x12, 0x064, 2, 1, .w1c, 0⟩
def HUB_STATE.FAULT : Fld := ⟨0x12, 0x064, 1, 1, .w1c, 0⟩
def HUB_STATE.STATE_TICK : Fld := ⟨0x12, 0x068, 0, 32, .ro, 0⟩
def HUB_STATE.START_PHASE : Fld := ⟨0x12, 0x06C, 0, 4, .ro, 1⟩
def HUB_STATE.STATE_CHANGES : Fld := ⟨0x12, 0x070, 0, 32, .ro, 0⟩

/-- Every field of the body of HUB_STATE. -/
def HUB_STATE.flds : List Fld :=
  [HUB_STATE.IRQ_EN_CMP, HUB_STATE.IRQ_EN, HUB_STATE.PREV_STATE, HUB_STATE.MGR_STATE, HUB_STATE.CMP, HUB_STATE.DRAIN, HUB_STATE.THERMAL, HUB_STATE.FAULT, HUB_STATE.STATE_TICK, HUB_STATE.START_PHASE, HUB_STATE.STATE_CHANGES]

/-! ### HUB_CMD: Table 16.12, R394 -/

def HUB_CMD.DESC (pt : Nat) (k : Nat) : Fld := ⟨0x13 + pt, 0x040 + 4 * k, 0, 32, .rwl, 0⟩
def HUB_CMD.CMD_SUBMIT (pt : Nat) : Fld := ⟨0x13 + pt, 0x080, 0, 16, .wo, 0⟩
def HUB_CMD.RSP_SEQ (pt : Nat) : Fld := ⟨0x13 + pt, 0x084, 16, 16, .ro, 0⟩
def HUB_CMD.RSP_OPCODE (pt : Nat) : Fld := ⟨0x13 + pt, 0x084, 8, 8, .ro, 0⟩
def HUB_CMD.RSP_STATUS (pt : Nat) : Fld := ⟨0x13 + pt, 0x084, 0, 8, .ro, 0⟩
def HUB_CMD.RSP_DETAIL (pt : Nat) : Fld := ⟨0x13 + pt, 0x088, 0, 32, .ro, 0⟩
def HUB_CMD.RSP_DATA (pt : Nat) (k : Nat) : Fld := ⟨0x13 + pt, 0x08C + 4 * k, 0, 32, .ro, 0⟩
def HUB_CMD.HELD (pt : Nat) : Fld := ⟨0x13 + pt, 0x0AC, 2, 1, .ro, 0⟩
def HUB_CMD.PORT_STATE (pt : Nat) : Fld := ⟨0x13 + pt, 0x0AC, 0, 2, .ro, 0⟩
def HUB_CMD.SUBMITS (pt : Nat) : Fld := ⟨0x13 + pt, 0x0B0, 0, 32, .ro, 0⟩
def HUB_CMD.DROPPED (pt : Nat) : Fld := ⟨0x13 + pt, 0x0B4, 0, 32, .ro, 0⟩
def HUB_CMD.SUBMIT_TICK (pt : Nat) : Fld := ⟨0x13 + pt, 0x0B8, 0, 32, .ro, 0⟩
def HUB_CMD.FINAL_TICK (pt : Nat) : Fld := ⟨0x13 + pt, 0x0BC, 0, 32, .ro, 0⟩
def HUB_CMD.DATA (pt : Nat) (k : Nat) : Fld := ⟨0x13 + pt, 0x400 + 4 * k, 0, 32, .rwl, 0⟩

/-- Every field of the body of HUB_CMD. -/
def HUB_CMD.flds (pt : Nat) : List Fld :=
  (List.range 16).map (fun j => HUB_CMD.DESC pt j) ++
  [HUB_CMD.CMD_SUBMIT pt, HUB_CMD.RSP_SEQ pt, HUB_CMD.RSP_OPCODE pt, HUB_CMD.RSP_STATUS pt, HUB_CMD.RSP_DETAIL pt] ++
  (List.range 8).map (fun j => HUB_CMD.RSP_DATA pt j) ++
  [HUB_CMD.HELD pt, HUB_CMD.PORT_STATE pt, HUB_CMD.SUBMITS pt, HUB_CMD.DROPPED pt, HUB_CMD.SUBMIT_TICK pt, HUB_CMD.FINAL_TICK pt] ++
  (List.range 256).map (fun j => HUB_CMD.DATA pt j)

/-! ### HUB_JOURNAL: Table 16.13, R394 -/

def HUB_JOURNAL.JOURNAL_WR : Fld := ⟨0x16, 0x060, 0, 32, .ro, 0⟩
def HUB_JOURNAL.STAGED : Fld := ⟨0x16, 0x064, 0, 5, .ro, 0⟩
def HUB_JOURNAL.MIRROR_WR : Fld := ⟨0x16, 0x068, 0, 32, .ro, 0⟩
def HUB_JOURNAL.LAST_MIRRORED : Fld := ⟨0x16, 0x06C, 0, 32, .ro, 0⟩
def HUB_JOURNAL.OLDEST : Fld := ⟨0x16, 0x070, 0, 32, .ro, 0⟩

/-- Every field of the body of HUB_JOURNAL. -/
def HUB_JOURNAL.flds : List Fld :=
  [HUB_JOURNAL.JOURNAL_WR, HUB_JOURNAL.STAGED, HUB_JOURNAL.MIRROR_WR, HUB_JOURNAL.LAST_MIRRORED, HUB_JOURNAL.OLDEST]

/-! ### HUB_LEASE: Table 16.14, R394 -/

def HUB_LEASE.LEASE_TIMEOUT : Fld := ⟨0x17, 0x040, 0, 16, .rw, 1000⟩
def HUB_LEASE.UNATTENDED : Fld := ⟨0x17, 0x060, 3, 1, .ro, 1⟩
def HUB_LEASE.HELD : Fld := ⟨0x17, 0x060, 0, 3, .ro, 0⟩
def HUB_LEASE.UNATT_TICK : Fld := ⟨0x17, 0x064, 0, 32, .ro, 0⟩
def HUB_LEASE.LEASE_EPOCH (p : Nat) : Fld := ⟨0x17, 0x070 + 0x10 * p, 0, 32, .ro, 0⟩
def HUB_LEASE.RENEW_TICK (p : Nat) : Fld := ⟨0x17, 0x074 + 0x10 * p, 0, 32, .ro, 0⟩
def HUB_LEASE.EXPIRY_TICK (p : Nat) : Fld := ⟨0x17, 0x078 + 0x10 * p, 0, 32, .ro, 0⟩
def HUB_LEASE.EXPIRIES (p : Nat) : Fld := ⟨0x17, 0x07C + 0x10 * p, 0, 32, .ro, 0⟩

/-- Every field of the body of HUB_LEASE. -/
def HUB_LEASE.flds : List Fld :=
  [HUB_LEASE.LEASE_TIMEOUT, HUB_LEASE.UNATTENDED, HUB_LEASE.HELD, HUB_LEASE.UNATT_TICK] ++
  (List.range 3).map (fun j => HUB_LEASE.LEASE_EPOCH j) ++
  (List.range 3).map (fun j => HUB_LEASE.RENEW_TICK j) ++
  (List.range 3).map (fun j => HUB_LEASE.EXPIRY_TICK j) ++
  (List.range 3).map (fun j => HUB_LEASE.EXPIRIES j)

/-! ### HUB_FAULT: Table 13.9, R320 -/

def HUB_FAULT.IRQ_MINOR_EN : Fld := ⟨0x18, 0x040, 0, 1, .rw, 1⟩
def HUB_FAULT.FAULT_STATUS : Fld := ⟨0x18, 0x060, 0, 32, .w1c, 0⟩
def HUB_FAULT.SEVERE_SRC : Fld := ⟨0x18, 0x064, 0, 32, .ro, 0⟩
def HUB_FAULT.RESTART_PENDING : Fld := ⟨0x18, 0x068, 7, 1, .ro, 0⟩
def HUB_FAULT.FAULT_N_ON : Fld := ⟨0x18, 0x068, 6, 1, .ro, 0⟩
def HUB_FAULT.STATE : Fld := ⟨0x18, 0x068, 0, 3, .ro, 0⟩
def HUB_FAULT.QUIET_LEFT : Fld := ⟨0x18, 0x06C, 0, 32, .ro, 0⟩
def HUB_FAULT.RECOVERY_COUNT : Fld := ⟨0x18, 0x070, 0, 32, .ro, 0⟩
def HUB_FAULT.RECOVERY_HOUR : Fld := ⟨0x18, 0x074, 0, 4, .ro, 0⟩
def HUB_FAULT.SEVERE_COUNT : Fld := ⟨0x18, 0x078, 0, 32, .ro, 0⟩
def HUB_FAULT.SEVERE_TICK : Fld := ⟨0x18, 0x07C, 0, 32, .ro, 0⟩
def HUB_FAULT.SEVERE_FIELD : Fld := ⟨0x18, 0x080, 24, 8, .ro, 0⟩
def HUB_FAULT.SEVERE_SOURCE : Fld := ⟨0x18, 0x080, 0, 5, .ro, 0⟩
def HUB_FAULT.HIST_SEQ : Fld := ⟨0x18, 0x084, 0, 32, .ro, 0⟩
def HUB_FAULT.N (b : Nat) : Fld := ⟨0x18, 0x100 + 4 * b, 16, 4, (if fixedSource b then .ro else .rw), (fixedN b)⟩
def HUB_FAULT.WINDOW (b : Nat) : Fld := ⟨0x18, 0x100 + 4 * b, 0, 16, .rw, 256⟩
def HUB_FAULT.EVT_COUNT (b : Nat) : Fld := ⟨0x18, 0x180 + 4 * b, 0, 32, .ro, 0⟩

/-- Every field of the body of HUB_FAULT. -/
def HUB_FAULT.flds : List Fld :=
  [HUB_FAULT.IRQ_MINOR_EN, HUB_FAULT.FAULT_STATUS, HUB_FAULT.SEVERE_SRC, HUB_FAULT.RESTART_PENDING, HUB_FAULT.FAULT_N_ON, HUB_FAULT.STATE, HUB_FAULT.QUIET_LEFT, HUB_FAULT.RECOVERY_COUNT, HUB_FAULT.RECOVERY_HOUR, HUB_FAULT.SEVERE_COUNT, HUB_FAULT.SEVERE_TICK, HUB_FAULT.SEVERE_FIELD] ++
  [HUB_FAULT.SEVERE_SOURCE, HUB_FAULT.HIST_SEQ] ++
  (List.range 32).map (fun j => HUB_FAULT.N j) ++
  (List.range 32).map (fun j => HUB_FAULT.WINDOW j) ++
  (List.range 32).map (fun j => HUB_FAULT.EVT_COUNT j)

/-! ### HUB_MONUMENT: Table 13.10, R320 -/

def HUB_MONUMENT.MIRROR_EN : Fld := ⟨0x19, 0x040, 0, 1, .rw, 1⟩
def HUB_MONUMENT.SLOW_PART : Fld := ⟨0x19, 0x060, 7, 1, .ro, 0⟩
def HUB_MONUMENT.HOLDUP : Fld := ⟨0x19, 0x060, 6, 1, .ro, 0⟩
def HUB_MONUMENT.ERASING : Fld := ⟨0x19, 0x060, 5, 1, .ro, 0⟩
def HUB_MONUMENT.SUSPENDED : Fld := ⟨0x19, 0x060, 4, 1, .ro, 0⟩
def HUB_MONUMENT.HDR_VALID_B : Fld := ⟨0x19, 0x060, 3, 1, .ro, 0⟩
def HUB_MONUMENT.HDR_VALID_A : Fld := ⟨0x19, 0x060, 2, 1, .ro, 0⟩
def HUB_MONUMENT.READY : Fld := ⟨0x19, 0x060, 1, 1, .ro, 0⟩
def HUB_MONUMENT.PRESENT : Fld := ⟨0x19, 0x060, 0, 1, .ro, 0⟩
def HUB_MONUMENT.FLASH_ID : Fld := ⟨0x19, 0x064, 0, 24, .ro, 0⟩
def HUB_MONUMENT.SEQ : Fld := ⟨0x19, 0x068, 0, 32, .ro, 0⟩
def HUB_MONUMENT.FIRST_USED : Fld := ⟨0x19, 0x06C, 0, 11, .ro, 0⟩
def HUB_MONUMENT.LAST_WR : Fld := ⟨0x19, 0x070, 0, 18, .ro, 0⟩
def HUB_MONUMENT.BAD_BLOCKS : Fld := ⟨0x19, 0x074, 16, 16, .ro, 0⟩
def HUB_MONUMENT.ERASED_AHEAD : Fld := ⟨0x19, 0x074, 0, 16, .ro, 0⟩
def HUB_MONUMENT.EVT_WRITTEN : Fld := ⟨0x19, 0x078, 0, 32, .ro, 0⟩
def HUB_MONUMENT.EVT_SUPPRESSED : Fld := ⟨0x19, 0x07C, 0, 32, .ro, 0⟩
def HUB_MONUMENT.EVT_LOST : Fld := ⟨0x19, 0x080, 0, 32, .ro, 0⟩
def HUB_MONUMENT.CRC_SKIPPED : Fld := ⟨0x19, 0x084, 0, 32, .ro, 0⟩
def HUB_MONUMENT.NOR_ERRS : Fld := ⟨0x19, 0x088, 0, 32, .ro, 0⟩
def HUB_MONUMENT.ERASES : Fld := ⟨0x19, 0x08C, 0, 32, .ro, 0⟩
def HUB_MONUMENT.MAX_BLOCK_ERASES : Fld := ⟨0x19, 0x090, 0, 32, .ro, 0⟩
def HUB_MONUMENT.BOOT_COUNT : Fld := ⟨0x19, 0x094, 0, 32, .ro, 0⟩
def HUB_MONUMENT.BUF_FILL : Fld := ⟨0x19, 0x098, 16, 16, .ro, 0⟩
def HUB_MONUMENT.HOLDUP_TICK : Fld := ⟨0x19, 0x09C, 0, 32, .ro, 0⟩
def HUB_MONUMENT.TPP_MAX_US : Fld := ⟨0x19, 0x0A0, 16, 16, .ro, 0⟩
def HUB_MONUMENT.SUSPEND_US : Fld := ⟨0x19, 0x0A0, 0, 16, .ro, 0⟩
def HUB_MONUMENT.CODE_SEL : Fld := ⟨0x19, 0x100, 0, 8, .rwl, 0⟩
def HUB_MONUMENT.SUPP_PENDING : Fld := ⟨0x19, 0x104, 16, 16, .ro, 0⟩
def HUB_MONUMENT.TOKENS : Fld := ⟨0x19, 0x104, 0, 4, .ro, 8⟩

/-- Every field of the body of HUB_MONUMENT. -/
def HUB_MONUMENT.flds : List Fld :=
  [HUB_MONUMENT.MIRROR_EN, HUB_MONUMENT.SLOW_PART, HUB_MONUMENT.HOLDUP, HUB_MONUMENT.ERASING, HUB_MONUMENT.SUSPENDED, HUB_MONUMENT.HDR_VALID_B, HUB_MONUMENT.HDR_VALID_A, HUB_MONUMENT.READY, HUB_MONUMENT.PRESENT, HUB_MONUMENT.FLASH_ID, HUB_MONUMENT.SEQ, HUB_MONUMENT.FIRST_USED] ++
  [HUB_MONUMENT.LAST_WR, HUB_MONUMENT.BAD_BLOCKS, HUB_MONUMENT.ERASED_AHEAD, HUB_MONUMENT.EVT_WRITTEN, HUB_MONUMENT.EVT_SUPPRESSED, HUB_MONUMENT.EVT_LOST, HUB_MONUMENT.CRC_SKIPPED, HUB_MONUMENT.NOR_ERRS, HUB_MONUMENT.ERASES, HUB_MONUMENT.MAX_BLOCK_ERASES, HUB_MONUMENT.BOOT_COUNT, HUB_MONUMENT.BUF_FILL] ++
  [HUB_MONUMENT.HOLDUP_TICK, HUB_MONUMENT.TPP_MAX_US, HUB_MONUMENT.SUSPEND_US, HUB_MONUMENT.CODE_SEL, HUB_MONUMENT.SUPP_PENDING, HUB_MONUMENT.TOKENS]

/-! ### HUB_ACCOUNT: Table 10.5, R239 -/

def HUB_ACCOUNT.ACC_SEL : Fld := ⟨0x1A, 0x040, 0, 8, .rwl, 0⟩
def HUB_ACCOUNT.ACC_W (k : Nat) : Fld := ⟨0x1A, 0x044 + 4 * k, 0, 32, .ro, 0⟩
def HUB_ACCOUNT.OPEN_COUNT : Fld := ⟨0x1A, 0x104, 0, 9, .ro, 0⟩
def HUB_ACCOUNT.ABORT_COUNT : Fld := ⟨0x1A, 0x108, 0, 32, .ro, 0⟩
def HUB_ACCOUNT.DRAIN_TICK : Fld := ⟨0x1A, 0x10C, 0, 32, .ro, 0⟩
def HUB_ACCOUNT.DRAIN_RESEND : Fld := ⟨0x1A, 0x110, 0, 32, .ro, 0⟩

/-- Every field of the body of HUB_ACCOUNT. -/
def HUB_ACCOUNT.flds : List Fld :=
  [HUB_ACCOUNT.ACC_SEL] ++
  (List.range 48).map (fun j => HUB_ACCOUNT.ACC_W j) ++
  [HUB_ACCOUNT.OPEN_COUNT, HUB_ACCOUNT.ABORT_COUNT, HUB_ACCOUNT.DRAIN_TICK, HUB_ACCOUNT.DRAIN_RESEND]

/-! ### HUB_COUNTERS: Table 10.6, R239 -/

def HUB_COUNTERS.CNT_TICK : Fld := ⟨0x1B, 0x040, 0, 32, .ro, 0⟩
def HUB_COUNTERS.W_ENERGY_LO : Fld := ⟨0x1B, 0x044, 0, 32, .ro, 0⟩
def HUB_COUNTERS.W_ENERGY_HI : Fld := ⟨0x1B, 0x048, 0, 32, .ro, 0⟩
def HUB_COUNTERS.BILLED_MJ_LO : Fld := ⟨0x1B, 0x04C, 0, 32, .ro, 0⟩
def HUB_COUNTERS.BILLED_MJ_HI : Fld := ⟨0x1B, 0x050, 0, 32, .ro, 0⟩
def HUB_COUNTERS.W_TPEAK : Fld := ⟨0x1B, 0x054, 16, 16, .ro, 0⟩
def HUB_COUNTERS.TPEAK_FIELD : Fld := ⟨0x1B, 0x054, 0, 7, .ro, 0⟩
def HUB_COUNTERS.TPEAK_TICK : Fld := ⟨0x1B, 0x058, 0, 32, .ro, 0⟩
def HUB_COUNTERS.W_TMEAN : Fld := ⟨0x1B, 0x05C, 16, 16, .ro, 0⟩
def HUB_COUNTERS.THR_WT (r : Nat) : Fld := ⟨0x1B, 0x060 + 4 * (r - 1), 0, 32, .ro, 0⟩
def HUB_COUNTERS.ECC_CE : Fld := ⟨0x1B, 0x090, 0, 32, .ro, 0⟩
def HUB_COUNTERS.P_PEAK : Fld := ⟨0x1B, 0x094, 0, 32, .ro, 0⟩
def HUB_COUNTERS.P_PEAK_TICK : Fld := ⟨0x1B, 0x098, 0, 32, .ro, 0⟩

/-- Every field of the body of HUB_COUNTERS. -/
def HUB_COUNTERS.flds : List Fld :=
  [HUB_COUNTERS.CNT_TICK, HUB_COUNTERS.W_ENERGY_LO, HUB_COUNTERS.W_ENERGY_HI, HUB_COUNTERS.BILLED_MJ_LO, HUB_COUNTERS.BILLED_MJ_HI, HUB_COUNTERS.W_TPEAK, HUB_COUNTERS.TPEAK_FIELD, HUB_COUNTERS.TPEAK_TICK, HUB_COUNTERS.W_TMEAN] ++
  (List.range 12).map (fun j => HUB_COUNTERS.THR_WT (j + 1)) ++
  [HUB_COUNTERS.ECC_CE, HUB_COUNTERS.P_PEAK, HUB_COUNTERS.P_PEAK_TICK]

/-! ### HUB_CAP: Table 4.6, R101 -/

def HUB_CAP.PCAP_S : Fld := ⟨0x1C, 0x040, 16, 16, .rw, 2200⟩
def HUB_CAP.PCAP_MS : Fld := ⟨0x1C, 0x040, 0, 16, .rw, 2400⟩
def HUB_CAP.CEIL_ST : Fld := ⟨0x1C, 0x044, 0, 16, .rw, 2800⟩
def HUB_CAP.QUIESCE : Fld := ⟨0x1C, 0x048, 2, 1, .rw, 0⟩
def HUB_CAP.HEAD_MODE : Fld := ⟨0x1C, 0x048, 0, 2, .rw, 0⟩
def HUB_CAP.WAFER_OVH : Fld := ⟨0x1C, 0x04C, 0, 16, .rw, 50⟩
def HUB_CAP.BINDING : Fld := ⟨0x1C, 0x060, 4, 4, .ro, 0⟩
def HUB_CAP.FLOW_CUT : Fld := ⟨0x1C, 0x060, 3, 1, .ro, 0⟩
def HUB_CAP.QUIESCED : Fld := ⟨0x1C, 0x060, 2, 1, .ro, 0⟩
def HUB_CAP.S_UNMET : Fld := ⟨0x1C, 0x060, 1, 1, .ro, 0⟩
def HUB_CAP.MS_UNMET : Fld := ⟨0x1C, 0x060, 0, 1, .ro, 0⟩
def HUB_CAP.IDLE_W : Fld := ⟨0x1C, 0x064, 16, 16, .ro, 0⟩
def HUB_CAP.FLOOR_W : Fld := ⟨0x1C, 0x064, 0, 16, .ro, 0⟩
def HUB_CAP.P_TICK : Fld := ⟨0x1C, 0x068, 0, 32, .ro, 0⟩
def HUB_CAP.AVG_MS : Fld := ⟨0x1C, 0x06C, 0, 32, .ro, 0⟩
def HUB_CAP.AVG_S : Fld := ⟨0x1C, 0x070, 0, 32, .ro, 0⟩
def HUB_CAP.AVG_ST : Fld := ⟨0x1C, 0x074, 0, 32, .ro, 0⟩
def HUB_CAP.BUDGET_W : Fld := ⟨0x1C, 0x078, 0, 32, .ro, 0⟩
def HUB_CAP.UNMET_TICKS_LO : Fld := ⟨0x1C, 0x07C, 0, 32, .ro, 0⟩
def HUB_CAP.UNMET_TICKS_HI : Fld := ⟨0x1C, 0x080, 0, 32, .ro, 0⟩
def HUB_CAP.DIV_TICK : Fld := ⟨0x1C, 0x084, 0, 32, .ro, 0⟩
def HUB_CAP.DIV_OVR : Fld := ⟨0x1C, 0x088, 0, 32, .ro, 0⟩

/-- Every field of the body of HUB_CAP. -/
def HUB_CAP.flds : List Fld :=
  [HUB_CAP.PCAP_S, HUB_CAP.PCAP_MS, HUB_CAP.CEIL_ST, HUB_CAP.QUIESCE, HUB_CAP.HEAD_MODE, HUB_CAP.WAFER_OVH, HUB_CAP.BINDING, HUB_CAP.FLOW_CUT, HUB_CAP.QUIESCED, HUB_CAP.S_UNMET, HUB_CAP.MS_UNMET, HUB_CAP.IDLE_W] ++
  [HUB_CAP.FLOOR_W, HUB_CAP.P_TICK, HUB_CAP.AVG_MS, HUB_CAP.AVG_S, HUB_CAP.AVG_ST, HUB_CAP.BUDGET_W, HUB_CAP.UNMET_TICKS_LO, HUB_CAP.UNMET_TICKS_HI, HUB_CAP.DIV_TICK, HUB_CAP.DIV_OVR]

/-! ### HUB_LOCK: Table 9.4, R226 -/

def HUB_LOCK.ANNOUNCE_LEAD : Fld := ⟨0x1D, 0x040, 16, 16, .rw, 256⟩
def HUB_LOCK.LOCAL_LEAD : Fld := ⟨0x1D, 0x040, 0, 16, .rw, 32⟩
def HUB_LOCK.GROUP : Fld := ⟨0x1D, 0x060, 24, 8, .ro, 0⟩
def HUB_LOCK.ROLE : Fld := ⟨0x1D, 0x060, 22, 2, .ro, 0⟩
def HUB_LOCK.FROZEN : Fld := ⟨0x1D, 0x060, 21, 1, .ro, 0⟩
def HUB_LOCK.JOINING : Fld := ⟨0x1D, 0x060, 20, 1, .ro, 0⟩
def HUB_LOCK.UP_PORT : Fld := ⟨0x1D, 0x060, 17, 3, .ro, 7⟩
def HUB_LOCK.DEPTH : Fld := ⟨0x1D, 0x060, 14, 3, .ro, 0⟩
def HUB_LOCK.DOWN_PORTS : Fld := ⟨0x1D, 0x060, 8, 6, .ro, 0⟩
def HUB_LOCK.PENDING : Fld := ⟨0x1D, 0x060, 6, 2, .ro, 0⟩
def HUB_LOCK.POINT : Fld := ⟨0x1D, 0x060, 0, 5, .ro, 20⟩
def HUB_LOCK.OWNER_ID : Fld := ⟨0x1D, 0x064, 0, 32, .ro, 0⟩
def HUB_LOCK.STEP_ID : Fld := ⟨0x1D, 0x068, 8, 8, .ro, 0⟩
def HUB_LOCK.NEXT_POINT : Fld := ⟨0x1D, 0x068, 0, 5, .ro, 0⟩
def HUB_LOCK.NEXT_TICK : Fld := ⟨0x1D, 0x06C, 0, 32, .ro, 0⟩
def HUB_LOCK.LAST_SKEW : Fld := ⟨0x1D, 0x070, 0, 32, .ro, 0⟩
def HUB_LOCK.STEPS : Fld := ⟨0x1D, 0x074, 0, 32, .ro, 0⟩
def HUB_LOCK.LATE_STEPS : Fld := ⟨0x1D, 0x078, 0, 32, .ro, 0⟩
def HUB_LOCK.SKEW_EVENTS : Fld := ⟨0x1D, 0x07C, 0, 32, .ro, 0⟩
def HUB_LOCK.FREEZES : Fld := ⟨0x1D, 0x080, 0, 32, .ro, 0⟩
def HUB_LOCK.MEMBERS : Fld := ⟨0x1D, 0x084, 0, 6, .ro, 0⟩

/-- Every field of the body of HUB_LOCK. -/
def HUB_LOCK.flds : List Fld :=
  [HUB_LOCK.ANNOUNCE_LEAD, HUB_LOCK.LOCAL_LEAD, HUB_LOCK.GROUP, HUB_LOCK.ROLE, HUB_LOCK.FROZEN, HUB_LOCK.JOINING, HUB_LOCK.UP_PORT, HUB_LOCK.DEPTH, HUB_LOCK.DOWN_PORTS, HUB_LOCK.PENDING, HUB_LOCK.POINT, HUB_LOCK.OWNER_ID] ++
  [HUB_LOCK.STEP_ID, HUB_LOCK.NEXT_POINT, HUB_LOCK.NEXT_TICK, HUB_LOCK.LAST_SKEW, HUB_LOCK.STEPS, HUB_LOCK.LATE_STEPS, HUB_LOCK.SKEW_EVENTS, HUB_LOCK.FREEZES, HUB_LOCK.MEMBERS]

/-! ### HUB_TIE: Table 9.5, R226 -/

def HUB_TIE.PORT_EN : Fld := ⟨0x1E, 0x040, 0, 6, .rw, 63⟩
def HUB_TIE.SILENCE_TICKS : Fld := ⟨0x1E, 0x044, 0, 16, .rw, 2048⟩
def HUB_TIE.D_VALID (k : Nat) : Fld := ⟨0x1E, 0x060 + 0x20 * k, 3, 1, .ro, 0⟩
def HUB_TIE.STATE (k : Nat) : Fld := ⟨0x1E, 0x060 + 0x20 * k, 0, 3, .ro, 0⟩
def HUB_TIE.FAR_ID (k : Nat) : Fld := ⟨0x1E, 0x064 + 0x20 * k, 0, 32, .ro, 0⟩
def HUB_TIE.FAR_PORT (k : Nat) : Fld := ⟨0x1E, 0x068 + 0x20 * k, 24, 8, .ro, 0⟩
def HUB_TIE.FAR_GRADE (k : Nat) : Fld := ⟨0x1E, 0x068 + 0x20 * k, 16, 8, .ro, 0⟩
def HUB_TIE.LATENCY (k : Nat) : Fld := ⟨0x1E, 0x068 + 0x20 * k, 0, 16, .ro, 0⟩
def HUB_TIE.D_LO (k : Nat) : Fld := ⟨0x1E, 0x06C + 0x20 * k, 0, 32, .ro, 0⟩
def HUB_TIE.D_HI (k : Nat) : Fld := ⟨0x1E, 0x070 + 0x20 * k, 0, 32, .ro, 0⟩
def HUB_TIE.CRC_ERRS (k : Nat) : Fld := ⟨0x1E, 0x074 + 0x20 * k, 0, 32, .ro, 0⟩
def HUB_TIE.DOWN_EVENTS (k : Nat) : Fld := ⟨0x1E, 0x078 + 0x20 * k, 0, 32, .ro, 0⟩
def HUB_TIE.UP_TICK (k : Nat) : Fld := ⟨0x1E, 0x07C + 0x20 * k, 0, 32, .ro, 0⟩

/-- Every field of the body of HUB_TIE. -/
def HUB_TIE.flds : List Fld :=
  [HUB_TIE.PORT_EN, HUB_TIE.SILENCE_TICKS] ++
  (List.range 6).map (fun j => HUB_TIE.D_VALID j) ++
  (List.range 6).map (fun j => HUB_TIE.STATE j) ++
  (List.range 6).map (fun j => HUB_TIE.FAR_ID j) ++
  (List.range 6).map (fun j => HUB_TIE.FAR_PORT j) ++
  (List.range 6).map (fun j => HUB_TIE.FAR_GRADE j) ++
  (List.range 6).map (fun j => HUB_TIE.LATENCY j) ++
  (List.range 6).map (fun j => HUB_TIE.D_LO j) ++
  (List.range 6).map (fun j => HUB_TIE.D_HI j) ++
  (List.range 6).map (fun j => HUB_TIE.CRC_ERRS j) ++
  (List.range 6).map (fun j => HUB_TIE.DOWN_EVENTS j) ++
  (List.range 6).map (fun j => HUB_TIE.UP_TICK j)

/-! ### HUB_TRACE: Table 11.5, R263 -/

def HUB_TRACE.RING_BASE_LO : Fld := ⟨0x1F, 0x040, 12, 20, .rw, 0⟩
def HUB_TRACE.RING_BASE_HI : Fld := ⟨0x1F, 0x044, 0, 32, .rw, 0⟩
def HUB_TRACE.DRAIN_RATE : Fld := ⟨0x1F, 0x048, 16, 16, .rw, 400⟩
def HUB_TRACE.RING_LOG2 : Fld := ⟨0x1F, 0x048, 8, 5, .rw, 16⟩
def HUB_TRACE.IRQ_FILL : Fld := ⟨0x1F, 0x048, 4, 4, .rw, 8⟩
def HUB_TRACE.TRIG_ON_SEVERE : Fld := ⟨0x1F, 0x048, 3, 1, .rw, 0⟩
def HUB_TRACE.HUB_POLICY : Fld := ⟨0x1F, 0x048, 0, 2, .rw, 0⟩
def HUB_TRACE.GROUP_EN : Fld := ⟨0x1F, 0x04C, 16, 16, .rw, 1919⟩
def HUB_TRACE.HUB_CAPTURE : Fld := ⟨0x1F, 0x04C, 1, 1, .rw, 0⟩
def HUB_TRACE.DRAIN_EN : Fld := ⟨0x1F, 0x04C, 0, 1, .rw, 0⟩
def HUB_TRACE.WB_ADDR_LO : Fld := ⟨0x1F, 0x050, 3, 29, .rw, 0⟩
def HUB_TRACE.WB_ADDR_HI : Fld := ⟨0x1F, 0x054, 0, 32, .rw, 0⟩
def HUB_TRACE.HTRIG_CODE : Fld := ⟨0x1F, 0x058, 24, 8, .rw, 0⟩
def HUB_TRACE.HTRIG_MASK : Fld := ⟨0x1F, 0x058, 16, 8, .rw, 0⟩
def HUB_TRACE.RING_FULL : Fld := ⟨0x1F, 0x060, 3, 1, .ro, 0⟩
def HUB_TRACE.DRAINING : Fld := ⟨0x1F, 0x060, 2, 1, .ro, 0⟩
def HUB_TRACE.HUB_STATE : Fld := ⟨0x1F, 0x060, 0, 2, .ro, 0⟩
def HUB_TRACE.HEAD : Fld := ⟨0x1F, 0x064, 0, 32, .ro, 0⟩
def HUB_TRACE.TAIL : Fld := ⟨0x1F, 0x068, 0, 32, .rwl, 0⟩
def HUB_TRACE.HUB_FILL : Fld := ⟨0x1F, 0x06C, 16, 16, .ro, 0⟩
def HUB_TRACE.STALL_TICKS : Fld := ⟨0x1F, 0x070, 0, 32, .ro, 0⟩
def HUB_TRACE.HUB_LOST : Fld := ⟨0x1F, 0x074, 0, 32, .ro, 0⟩
def HUB_TRACE.HUB_STALE : Fld := ⟨0x1F, 0x078, 0, 32, .ro, 0⟩
def HUB_TRACE.TRIG_TICK : Fld := ⟨0x1F, 0x07C, 0, 32, .ro, 0⟩
def HUB_TRACE.TRIG_FIELD : Fld := ⟨0x1F, 0x080, 0, 7, .ro, 0⟩
def HUB_TRACE.TRIG_NOW : Fld := ⟨0x1F, 0x084, 0, 1, .wo, 0⟩
def HUB_TRACE.FW_DATA : Fld := ⟨0x1F, 0x088, 0, 32, .rwl, 0⟩
def HUB_TRACE.FW_POINT : Fld := ⟨0x1F, 0x08C, 0, 32, .wo, 0⟩

/-- Every field of the body of HUB_TRACE. -/
def HUB_TRACE.flds : List Fld :=
  [HUB_TRACE.RING_BASE_LO, HUB_TRACE.RING_BASE_HI, HUB_TRACE.DRAIN_RATE, HUB_TRACE.RING_LOG2, HUB_TRACE.IRQ_FILL, HUB_TRACE.TRIG_ON_SEVERE, HUB_TRACE.HUB_POLICY, HUB_TRACE.GROUP_EN, HUB_TRACE.HUB_CAPTURE, HUB_TRACE.DRAIN_EN, HUB_TRACE.WB_ADDR_LO, HUB_TRACE.WB_ADDR_HI] ++
  [HUB_TRACE.HTRIG_CODE, HUB_TRACE.HTRIG_MASK, HUB_TRACE.RING_FULL, HUB_TRACE.DRAINING, HUB_TRACE.HUB_STATE, HUB_TRACE.HEAD, HUB_TRACE.TAIL, HUB_TRACE.HUB_FILL, HUB_TRACE.STALL_TICKS, HUB_TRACE.HUB_LOST, HUB_TRACE.HUB_STALE, HUB_TRACE.TRIG_TICK] ++
  [HUB_TRACE.TRIG_FIELD, HUB_TRACE.TRIG_NOW, HUB_TRACE.FW_DATA, HUB_TRACE.FW_POINT]

/-! ### HUB_HALT: Table 11.7, R263 -/

def HUB_HALT.ACK_EC_MAX : Fld := ⟨0x20, 0x040, 16, 16, .rw, 256⟩
def HUB_HALT.HALT_LEAD : Fld := ⟨0x20, 0x040, 0, 16, .rw, 4⟩
def HUB_HALT.GROUP_HALT_EN : Fld := ⟨0x20, 0x044, 0, 1, .rw, 1⟩
def HUB_HALT.CONSISTENT : Fld := ⟨0x20, 0x060, 11, 1, .ro, 0⟩
def HUB_HALT.SOURCE : Fld := ⟨0x20, 0x060, 8, 3, .ro, 0⟩
def HUB_HALT.STATE : Fld := ⟨0x20, 0x060, 0, 3, .ro, 0⟩
def HUB_HALT.SCHED_TICK : Fld := ⟨0x20, 0x064, 0, 32, .ro, 0⟩
def HUB_HALT.CUT_TICK : Fld := ⟨0x20, 0x068, 0, 32, .ro, 0⟩
def HUB_HALT.CUT_OFFSET : Fld := ⟨0x20, 0x06C, 16, 11, .ro, 0⟩
def HUB_HALT.SMEAR_EC : Fld := ⟨0x20, 0x06C, 0, 16, .ro, 0⟩
def HUB_HALT.SMEAR_FIELD : Fld := ⟨0x20, 0x070, 0, 7, .ro, 0⟩
def HUB_HALT.HALTS : Fld := ⟨0x20, 0x074, 0, 32, .ro, 0⟩
def HUB_HALT.RESUMES : Fld := ⟨0x20, 0x078, 0, 32, .ro, 0⟩
def HUB_HALT.CANCELLED : Fld := ⟨0x20, 0x07C, 0, 32, .ro, 0⟩
def HUB_HALT.TIMEOUTS : Fld := ⟨0x20, 0x080, 0, 32, .ro, 0⟩
def HUB_HALT.TIE_RX : Fld := ⟨0x20, 0x084, 0, 32, .ro, 0⟩
def HUB_HALT.RELEASE_TICK : Fld := ⟨0x20, 0x088, 0, 32, .ro, 0⟩

/-- Every field of the body of HUB_HALT. -/
def HUB_HALT.flds : List Fld :=
  [HUB_HALT.ACK_EC_MAX, HUB_HALT.HALT_LEAD, HUB_HALT.GROUP_HALT_EN, HUB_HALT.CONSISTENT, HUB_HALT.SOURCE, HUB_HALT.STATE, HUB_HALT.SCHED_TICK, HUB_HALT.CUT_TICK, HUB_HALT.CUT_OFFSET, HUB_HALT.SMEAR_EC, HUB_HALT.SMEAR_FIELD, HUB_HALT.HALTS] ++
  [HUB_HALT.RESUMES, HUB_HALT.CANCELLED, HUB_HALT.TIMEOUTS, HUB_HALT.TIE_RX, HUB_HALT.RELEASE_TICK]

/-! ### HUB_FW: Table 12.9, R289 -/

def HUB_FW.HOLD_TICKS : Fld := ⟨0x21, 0x040, 16, 16, .rw, 4096⟩
def HUB_FW.PROBATION : Fld := ⟨0x21, 0x040, 0, 16, .rw, 4096⟩
def HUB_FW.WDT_TICKS : Fld := ⟨0x21, 0x044, 16, 16, .rw, 1024⟩
def HUB_FW.COMP_LIMIT : Fld := ⟨0x21, 0x044, 8, 8, .rw, 3⟩
def HUB_FW.LOG_LEVEL : Fld := ⟨0x21, 0x044, 0, 3, .rw, 2⟩
def HUB_FW.ROLLOUT : Fld := ⟨0x21, 0x060, 29, 3, .ro, 0⟩
def HUB_FW.BOOT_SLOT : Fld := ⟨0x21, 0x060, 28, 1, .ro, 0⟩
def HUB_FW.SLOT_B_VALID : Fld := ⟨0x21, 0x060, 27, 1, .ro, 0⟩
def HUB_FW.ROLL_NEXT : Fld := ⟨0x21, 0x060, 16, 7, .ro, 0⟩
def HUB_FW.ACTIVE_VER : Fld := ⟨0x21, 0x064, 0, 32, .ro, 0⟩
def HUB_FW.STAGED_VER : Fld := ⟨0x21, 0x068, 0, 32, .ro, 0⟩
def HUB_FW.ACTIVE_SVN : Fld := ⟨0x21, 0x06C, 16, 16, .ro, 0⟩
def HUB_FW.STAGED_SVN : Fld := ⟨0x21, 0x06C, 0, 16, .ro, 0⟩
def HUB_FW.FUSED_SVN : Fld := ⟨0x21, 0x070, 16, 16, .ro, 0⟩
def HUB_FW.ATT_KEY_ID : Fld := ⟨0x21, 0x074, 0, 32, .ro, 0⟩
def HUB_FW.STATE (k : Nat) : Fld := ⟨0x21, 0x080 + 0x10 * k, 28, 4, .ro, 0⟩
def HUB_FW.IMAGE (k : Nat) : Fld := ⟨0x21, 0x080 + 0x10 * k, 27, 1, .ro, 0⟩
def HUB_FW.LAST_CAUSE (k : Nat) : Fld := ⟨0x21, 0x080 + 0x10 * k, 0, 8, .ro, 0⟩
def HUB_FW.RESTART_COUNT (k : Nat) : Fld := ⟨0x21, 0x084 + 0x10 * k, 0, 32, .ro, 0⟩
def HUB_FW.COMP_FAULTS (k : Nat) : Fld := ⟨0x21, 0x088 + 0x10 * k, 0, 32, .ro, 0⟩
def HUB_FW.RESTART_TICK (k : Nat) : Fld := ⟨0x21, 0x08C + 0x10 * k, 0, 32, .ro, 0⟩
def HUB_FW.LOG_WR (k : Nat) : Fld := ⟨0x21, 0x0B0 + 4 * k, 0, 32, .ro, 0⟩
def HUB_FW.DOWN_MAP (k : Nat) : Fld := ⟨0x21, 0x0C0 + 4 * k, 0, 32, .ro, 0⟩
def HUB_FW.EXPIRED : Fld := ⟨0x21, 0x0CC, 0, 32, .ro, 0⟩

/-- Every field of the body of HUB_FW. -/
def HUB_FW.flds : List Fld :=
  [HUB_FW.HOLD_TICKS, HUB_FW.PROBATION, HUB_FW.WDT_TICKS, HUB_FW.COMP_LIMIT, HUB_FW.LOG_LEVEL, HUB_FW.ROLLOUT, HUB_FW.BOOT_SLOT, HUB_FW.SLOT_B_VALID, HUB_FW.ROLL_NEXT, HUB_FW.ACTIVE_VER, HUB_FW.STAGED_VER, HUB_FW.ACTIVE_SVN] ++
  [HUB_FW.STAGED_SVN, HUB_FW.FUSED_SVN, HUB_FW.ATT_KEY_ID] ++
  (List.range 3).map (fun j => HUB_FW.STATE j) ++
  (List.range 3).map (fun j => HUB_FW.IMAGE j) ++
  (List.range 3).map (fun j => HUB_FW.LAST_CAUSE j) ++
  (List.range 3).map (fun j => HUB_FW.RESTART_COUNT j) ++
  (List.range 3).map (fun j => HUB_FW.COMP_FAULTS j) ++
  (List.range 3).map (fun j => HUB_FW.RESTART_TICK j) ++
  (List.range 3).map (fun j => HUB_FW.LOG_WR j) ++
  (List.range 3).map (fun j => HUB_FW.DOWN_MAP j) ++
  [HUB_FW.EXPIRED]

/-! ### HUB_SEC: Table 14.6, R345 -/

def HUB_SEC.LIFECYCLE : Fld := ⟨0x22, 0x060, 30, 2, .ro, 0⟩
def HUB_SEC.KEY_VALID : Fld := ⟨0x22, 0x060, 29, 1, .ro, 0⟩
def HUB_SEC.TAMPER_SEEN : Fld := ⟨0x22, 0x060, 28, 1, .ro, 0⟩
def HUB_SEC.LC_PENDING : Fld := ⟨0x22, 0x060, 27, 1, .ro, 0⟩
def HUB_SEC.KEYS_FUSED : Fld := ⟨0x22, 0x060, 26, 1, .ro, 0⟩
def HUB_SEC.VMIN_FUSED : Fld := ⟨0x22, 0x060, 25, 1, .ro, 0⟩
def HUB_SEC.WIPES : Fld := ⟨0x22, 0x064, 0, 32, .ro, 0⟩
def HUB_SEC.WIPE_TICK : Fld := ⟨0x22, 0x068, 0, 32, .ro, 0⟩
def HUB_SEC.WIPE_US : Fld := ⟨0x22, 0x06C, 16, 16, .ro, 0⟩
def HUB_SEC.TAMPER_COUNT : Fld := ⟨0x22, 0x06C, 0, 16, .ro, 0⟩
def HUB_SEC.MLOG_ENTRIES : Fld := ⟨0x22, 0x070, 0, 32, .ro, 0⟩

/-- Every field of the body of HUB_SEC. -/
def HUB_SEC.flds : List Fld :=
  [HUB_SEC.LIFECYCLE, HUB_SEC.KEY_VALID, HUB_SEC.TAMPER_SEEN, HUB_SEC.LC_PENDING, HUB_SEC.KEYS_FUSED, HUB_SEC.VMIN_FUSED, HUB_SEC.WIPES, HUB_SEC.WIPE_TICK, HUB_SEC.WIPE_US, HUB_SEC.TAMPER_COUNT, HUB_SEC.MLOG_ENTRIES]

/-! ### HUB_MEM: Table 14.4, R345 -/

def HUB_MEM.AUTO_REPAIR : Fld := ⟨0x23, 0x040, 1, 1, .rw, 1⟩
def HUB_MEM.REPAIR_EN : Fld := ⟨0x23, 0x040, 0, 1, .rw, 1⟩
def HUB_MEM.CE_LIMIT : Fld := ⟨0x23, 0x044, 16, 16, .rw, 32⟩
def HUB_MEM.MARCH_PERIOD : Fld := ⟨0x23, 0x044, 0, 16, .rw, 64⟩
def HUB_MEM.WIPING : Fld := ⟨0x23, 0x060, 3, 1, .ro, 0⟩
def HUB_MEM.MARCH_STATE : Fld := ⟨0x23, 0x060, 0, 3, .ro, 0⟩
def HUB_MEM.UE_ADDR : Fld := ⟨0x23, 0x064, 0, 18, .ro, 0⟩
def HUB_MEM.UE_COUNT : Fld := ⟨0x23, 0x068, 0, 32, .ro, 0⟩
def HUB_MEM.CE_BLOCK : Fld := ⟨0x23, 0x06C, 0, 32, .ro, 0⟩
def HUB_MEM.SCRUB_POS : Fld := ⟨0x23, 0x070, 0, 18, .ro, 0⟩
def HUB_MEM.SCRUB_SWEEPS : Fld := ⟨0x23, 0x074, 0, 32, .ro, 0⟩
def HUB_MEM.MARCH_FAILS : Fld := ⟨0x23, 0x078, 16, 16, .ro, 0⟩
def HUB_MEM.MARCH_SEG : Fld := ⟨0x23, 0x078, 0, 10, .ro, 0⟩
def HUB_MEM.SPARES_FREE : Fld := ⟨0x23, 0x07C, 16, 16, .ro, 256⟩
def HUB_MEM.SOFT_REPAIRS : Fld := ⟨0x23, 0x07C, 0, 16, .ro, 0⟩
def HUB_MEM.REPAIR_BANK : Fld := ⟨0x23, 0x080, 0, 6, .rwl, 0⟩
def HUB_MEM.VALID (e : Nat) : Fld := ⟨0x23, 0x084 + 4 * e, 31, 1, .ro, 0⟩
def HUB_MEM.FUSED (e : Nat) : Fld := ⟨0x23, 0x084 + 4 * e, 30, 1, .ro, 0⟩
def HUB_MEM.ROW (e : Nat) : Fld := ⟨0x23, 0x084 + 4 * e, 0, 9, .ro, 0⟩

/-- Every field of the body of HUB_MEM. -/
def HUB_MEM.flds : List Fld :=
  [HUB_MEM.AUTO_REPAIR, HUB_MEM.REPAIR_EN, HUB_MEM.CE_LIMIT, HUB_MEM.MARCH_PERIOD, HUB_MEM.WIPING, HUB_MEM.MARCH_STATE, HUB_MEM.UE_ADDR, HUB_MEM.UE_COUNT, HUB_MEM.CE_BLOCK, HUB_MEM.SCRUB_POS, HUB_MEM.SCRUB_SWEEPS, HUB_MEM.MARCH_FAILS] ++
  [HUB_MEM.MARCH_SEG, HUB_MEM.SPARES_FREE, HUB_MEM.SOFT_REPAIRS, HUB_MEM.REPAIR_BANK] ++
  (List.range 4).map (fun j => HUB_MEM.VALID j) ++
  (List.range 4).map (fun j => HUB_MEM.FUSED j) ++
  (List.range 4).map (fun j => HUB_MEM.ROW j)

/-! ### HUB_THERM: Table 7.8, R173 -/

def HUB_THERM.THROT_IRQ_EN : Fld := ⟨0x24, 0x040, 1, 1, .rw, 1⟩
def HUB_THERM.WARN_IRQ_EN : Fld := ⟨0x24, 0x040, 0, 1, .rw, 1⟩
def HUB_THERM.ACK_PENDING : Fld := ⟨0x24, 0x060, 4, 1, .ro, 0⟩
def HUB_THERM.COOL_WAIT : Fld := ⟨0x24, 0x060, 3, 1, .ro, 0⟩
def HUB_THERM.TRIP : Fld := ⟨0x24, 0x060, 2, 1, .ro, 0⟩
def HUB_THERM.ANY_THROTTLE : Fld := ⟨0x24, 0x060, 1, 1, .ro, 0⟩
def HUB_THERM.ANY_WARN : Fld := ⟨0x24, 0x060, 0, 1, .ro, 0⟩
def HUB_THERM.W_TMAX : Fld := ⟨0x24, 0x064, 16, 16, .ro, 0⟩
def HUB_THERM.TMAX_FIELD : Fld := ⟨0x24, 0x064, 0, 7, .ro, 0⟩
def HUB_THERM.WARN_MAP (k : Nat) : Fld := ⟨0x24, 0x068 + 4 * k, 0, 32, .ro, 0⟩
def HUB_THERM.THROT_MAP (k : Nat) : Fld := ⟨0x24, 0x074 + 4 * k, 0, 32, .ro, 0⟩
def HUB_THERM.SHUT_COUNT : Fld := ⟨0x24, 0x080, 0, 32, .ro, 0⟩
def HUB_THERM.SHUT_TICK_LO : Fld := ⟨0x24, 0x084, 0, 32, .ro, 0⟩
def HUB_THERM.SHUT_TICK_HI : Fld := ⟨0x24, 0x088, 0, 16, .ro, 0⟩
def HUB_THERM.SHUT_READING : Fld := ⟨0x24, 0x08C, 16, 16, .ro, 0⟩
def HUB_THERM.SHUT_FIELD : Fld := ⟨0x24, 0x08C, 2, 7, .ro, 0⟩
def HUB_THERM.SHUT_KIND : Fld := ⟨0x24, 0x08C, 0, 2, .ro, 0⟩

/-- Every field of the body of HUB_THERM. -/
def HUB_THERM.flds : List Fld :=
  [HUB_THERM.THROT_IRQ_EN, HUB_THERM.WARN_IRQ_EN, HUB_THERM.ACK_PENDING, HUB_THERM.COOL_WAIT, HUB_THERM.TRIP, HUB_THERM.ANY_THROTTLE, HUB_THERM.ANY_WARN, HUB_THERM.W_TMAX, HUB_THERM.TMAX_FIELD] ++
  (List.range 3).map (fun j => HUB_THERM.WARN_MAP j) ++
  (List.range 3).map (fun j => HUB_THERM.THROT_MAP j) ++
  [HUB_THERM.SHUT_COUNT, HUB_THERM.SHUT_TICK_LO, HUB_THERM.SHUT_TICK_HI, HUB_THERM.SHUT_READING, HUB_THERM.SHUT_FIELD, HUB_THERM.SHUT_KIND]

/-! ### HUB_COOL: Table 7.9, R173 -/

def HUB_COOL.TACH_MIN : Fld := ⟨0x25, 0x040, 16, 16, .rw, 40⟩
def HUB_COOL.FLOW_PCT : Fld := ⟨0x25, 0x040, 8, 8, .rw, 20⟩
def HUB_COOL.RUNDOWN_S : Fld := ⟨0x25, 0x044, 16, 16, .rw, 30⟩
def HUB_COOL.FLOW_RESTORE : Fld := ⟨0x25, 0x044, 0, 16, .rw, 1000⟩
def HUB_COOL.RUNDOWN : Fld := ⟨0x25, 0x060, 3, 1, .ro, 1⟩
def HUB_COOL.FLOW_CUT : Fld := ⟨0x25, 0x060, 2, 1, .ro, 0⟩
def HUB_COOL.TACH_LOW : Fld := ⟨0x25, 0x060, 1, 1, .ro, 0⟩
def HUB_COOL.FLOW_OK_PIN : Fld := ⟨0x25, 0x060, 0, 1, .ro, 0⟩
def HUB_COOL.TACH_HZ : Fld := ⟨0x25, 0x064, 16, 16, .ro, 0⟩
def HUB_COOL.DEMAND_LEVEL : Fld := ⟨0x25, 0x064, 0, 2, .ro, 0⟩
def HUB_COOL.RUNDOWN_LEFT : Fld := ⟨0x25, 0x068, 16, 16, .ro, 0⟩
def HUB_COOL.COOL_DEMAND : Fld := ⟨0x25, 0x068, 0, 16, .ro, 0⟩
def HUB_COOL.FLOW_LOSSES : Fld := ⟨0x25, 0x06C, 0, 32, .ro, 0⟩
def HUB_COOL.FLOW_LOSS_TICK : Fld := ⟨0x25, 0x070, 0, 32, .ro, 0⟩

/-- Every field of the body of HUB_COOL. -/
def HUB_COOL.flds : List Fld :=
  [HUB_COOL.TACH_MIN, HUB_COOL.FLOW_PCT, HUB_COOL.RUNDOWN_S, HUB_COOL.FLOW_RESTORE, HUB_COOL.RUNDOWN, HUB_COOL.FLOW_CUT, HUB_COOL.TACH_LOW, HUB_COOL.FLOW_OK_PIN, HUB_COOL.TACH_HZ, HUB_COOL.DEMAND_LEVEL, HUB_COOL.RUNDOWN_LEFT, HUB_COOL.COOL_DEMAND] ++
  [HUB_COOL.FLOW_LOSSES, HUB_COOL.FLOW_LOSS_TICK]

/-! ### HUB_WAITFOR: Table 6.12, R150 -/

def HUB_WAITFOR.HANG_TICKS : Fld := ⟨0x26, 0x040, 16, 16, .rw, 4096⟩
def HUB_WAITFOR.REBUILD_MIN : Fld := ⟨0x26, 0x044, 0, 32, .rw, 65536⟩
def HUB_WAITFOR.TRUNCATED : Fld := ⟨0x26, 0x060, 2, 1, .ro, 0⟩
def HUB_WAITFOR.VALID : Fld := ⟨0x26, 0x060, 1, 1, .ro, 0⟩
def HUB_WAITFOR.BUILDING : Fld := ⟨0x26, 0x060, 0, 1, .ro, 0⟩
def HUB_WAITFOR.BUILD_ID : Fld := ⟨0x26, 0x064, 16, 16, .ro, 0⟩
def HUB_WAITFOR.TRIGGER : Fld := ⟨0x26, 0x064, 8, 8, .ro, 0⟩
def HUB_WAITFOR.TRIG_FIELD : Fld := ⟨0x26, 0x064, 0, 7, .ro, 0⟩
def HUB_WAITFOR.START_TICK : Fld := ⟨0x26, 0x068, 0, 32, .ro, 0⟩
def HUB_WAITFOR.DONE_TICK : Fld := ⟨0x26, 0x06C, 0, 32, .ro, 0⟩
def HUB_WAITFOR.EDGE_COUNT : Fld := ⟨0x26, 0x070, 0, 32, .ro, 0⟩
def HUB_WAITFOR.HANG_COUNT : Fld := ⟨0x26, 0x074, 0, 32, .ro, 0⟩
def HUB_WAITFOR.LAST_HANG_FIELD : Fld := ⟨0x26, 0x078, 0, 7, .ro, 0⟩
def HUB_WAITFOR.LAST_HANG_TICK : Fld := ⟨0x26, 0x07C, 0, 32, .ro, 0⟩

/-- Every field of the body of HUB_WAITFOR. -/
def HUB_WAITFOR.flds : List Fld :=
  [HUB_WAITFOR.HANG_TICKS, HUB_WAITFOR.REBUILD_MIN, HUB_WAITFOR.TRUNCATED, HUB_WAITFOR.VALID, HUB_WAITFOR.BUILDING, HUB_WAITFOR.BUILD_ID, HUB_WAITFOR.TRIGGER, HUB_WAITFOR.TRIG_FIELD, HUB_WAITFOR.START_TICK, HUB_WAITFOR.DONE_TICK, HUB_WAITFOR.EDGE_COUNT, HUB_WAITFOR.HANG_COUNT] ++
  [HUB_WAITFOR.LAST_HANG_FIELD, HUB_WAITFOR.LAST_HANG_TICK]

/-! ### HUB_TICKET: Table 6.11, R150 -/

def HUB_TICKET.SHARE_PERIOD : Fld := ⟨0x27, 0x040, 0, 16, .rw, 512⟩
def HUB_TICKET.WQ_DEPTH : Fld := ⟨0x27, 0x060, 0, 13, .ro, 0⟩
def HUB_TICKET.WQ_REFUSED : Fld := ⟨0x27, 0x064, 0, 32, .ro, 0⟩
def HUB_TICKET.WQ_MOVED : Fld := ⟨0x27, 0x068, 0, 32, .ro, 0⟩
def HUB_TICKET.PROTO_ERR : Fld := ⟨0x27, 0x06C, 0, 32, .ro, 0⟩
def HUB_TICKET.LAST_DETAIL : Fld := ⟨0x27, 0x070, 16, 8, .ro, 0⟩
def HUB_TICKET.LAST_FIELD : Fld := ⟨0x27, 0x070, 0, 7, .ro, 0⟩
def HUB_TICKET.LAST_TASK : Fld := ⟨0x27, 0x074, 0, 32, .ro, 0⟩
def HUB_TICKET.LAST_TICK : Fld := ⟨0x27, 0x078, 0, 32, .ro, 0⟩
def HUB_TICKET.W_WAITING : Fld := ⟨0x27, 0x07C, 0, 32, .ro, 0⟩
def HUB_TICKET.W_GRANTED : Fld := ⟨0x27, 0x080, 0, 32, .ro, 0⟩
def HUB_TICKET.W_RUNNING : Fld := ⟨0x27, 0x084, 0, 32, .ro, 0⟩
def HUB_TICKET.JOBS_HELD : Fld := ⟨0x27, 0x088, 0, 9, .ro, 0⟩
def HUB_TICKET.CTX_SEL : Fld := ⟨0x27, 0x090, 0, 8, .rwl, 0⟩
def HUB_TICKET.CTX_W (k : Nat) : Fld := ⟨0x27, 0x094 + 4 * k, 0, 32, .ro, 0⟩

/-- Every field of the body of HUB_TICKET. -/
def HUB_TICKET.flds : List Fld :=
  [HUB_TICKET.SHARE_PERIOD, HUB_TICKET.WQ_DEPTH, HUB_TICKET.WQ_REFUSED, HUB_TICKET.WQ_MOVED, HUB_TICKET.PROTO_ERR, HUB_TICKET.LAST_DETAIL, HUB_TICKET.LAST_FIELD, HUB_TICKET.LAST_TASK, HUB_TICKET.LAST_TICK, HUB_TICKET.W_WAITING, HUB_TICKET.W_GRANTED, HUB_TICKET.W_RUNNING] ++
  [HUB_TICKET.JOBS_HELD, HUB_TICKET.CTX_SEL] ++
  (List.range 8).map (fun j => HUB_TICKET.CTX_W j)

/-! ### HUB_CONTOUR: Table 9.6, R226 -/

def HUB_CONTOUR.PLUMB_POWER : Fld := ⟨0x28, 0x040, 16, 16, .rw, 2200⟩
def HUB_CONTOUR.PLUMB_POINT : Fld := ⟨0x28, 0x040, 8, 5, .rw, 20⟩
def HUB_CONTOUR.PLUMB_EN : Fld := ⟨0x28, 0x040, 5, 1, .rw, 0⟩
def HUB_CONTOUR.BOOT_POINT : Fld := ⟨0x28, 0x040, 0, 5, .rw, 20⟩
def HUB_CONTOUR.PLUMB_REFILL : Fld := ⟨0x28, 0x060, 16, 16, .ro, 0⟩
def HUB_CONTOUR.PLUMB_ON : Fld := ⟨0x28, 0x060, 15, 1, .ro, 0⟩
def HUB_CONTOUR.PLUMB_Q : Fld := ⟨0x28, 0x060, 8, 7, .ro, 64⟩
def HUB_CONTOUR.GRADE : Fld := ⟨0x28, 0x060, 0, 8, .ro, 0⟩
def HUB_CONTOUR.PLUMB_BREACH : Fld := ⟨0x28, 0x064, 0, 32, .ro, 0⟩
def HUB_CONTOUR.VALID (k : Nat) : Fld := ⟨0x28, 0x100 + 8 * k, 31, 1, .ro, 0⟩
def HUB_CONTOUR.VSRAM_CODE (k : Nat) : Fld := ⟨0x28, 0x100 + 8 * k, 22, 9, .rw, 60⟩
def HUB_CONTOUR.VMIN_FUSED (k : Nat) : Fld := ⟨0x28, 0x100 + 8 * k, 13, 9, .ro, 0⟩
def HUB_CONTOUR.VMIN_ADJ (k : Nat) : Fld := ⟨0x28, 0x100 + 8 * k, 8, 5, .rw, 0⟩
def HUB_CONTOUR.FREQ_CODE (k : Nat) : Fld := ⟨0x28, 0x100 + 8 * k, 0, 6, .ro, (24 + k)⟩
def HUB_CONTOUR.GRADE_DYN (k : Nat) : Fld := ⟨0x28, 0x104 + 8 * k, 16, 16, .ro, 0⟩
def HUB_CONTOUR.GRADE_IDLE (k : Nat) : Fld := ⟨0x28, 0x104 + 8 * k, 0, 16, .ro, 0⟩

/-- Every field of the body of HUB_CONTOUR. -/
def HUB_CONTOUR.flds : List Fld :=
  [HUB_CONTOUR.PLUMB_POWER, HUB_CONTOUR.PLUMB_POINT, HUB_CONTOUR.PLUMB_EN, HUB_CONTOUR.BOOT_POINT, HUB_CONTOUR.PLUMB_REFILL, HUB_CONTOUR.PLUMB_ON, HUB_CONTOUR.PLUMB_Q, HUB_CONTOUR.GRADE, HUB_CONTOUR.PLUMB_BREACH] ++
  (List.range 32).map (fun j => HUB_CONTOUR.VALID j) ++
  (List.range 32).map (fun j => HUB_CONTOUR.VSRAM_CODE j) ++
  (List.range 32).map (fun j => HUB_CONTOUR.VMIN_FUSED j) ++
  (List.range 32).map (fun j => HUB_CONTOUR.VMIN_ADJ j) ++
  (List.range 32).map (fun j => HUB_CONTOUR.FREQ_CODE j) ++
  (List.range 32).map (fun j => HUB_CONTOUR.GRADE_DYN j) ++
  (List.range 32).map (fun j => HUB_CONTOUR.GRADE_IDLE j)

end Sys2Proof.Machine
end

