-- ==== Sys2Proof/Machine/Map.lean ====
section
/-!
DEFINITION. Sparse finite maps: a list of (key, value) pairs with keys strictly rising and no entry equal to what an
unlisted key reads as. The SRAM bytes (Host.Cell) and every numbered collection of the block are held in this form.
-/

namespace Sys2Proof.Machine

/-- The value at key `k`; `d` is what an unlisted key reads as. (DESIGN CHOICE, log entry 7.) -/
def mget {α : Type} (d : α) : List (Nat × α) → Nat → α
  | [], _ => d
  | (a, v) :: r, k => if a = k then v else mget d r k

/-- Remove every entry of key `k`. -/
def merase {α : Type} (m : List (Nat × α)) (k : Nat) : List (Nat × α) :=
  m.filter (fun e => e.1 != k)

/-- Insert an entry before the first greater key. -/
def mins {α : Type} (k : Nat) (v : α) : List (Nat × α) → List (Nat × α)
  | [] => [(k, v)]
  | (a, w) :: r => if k < a then (k, v) :: (a, w) :: r else (a, w) :: mins k v r

/-- Write `v` at key `k`: writing what an unlisted key reads as removes the entry. (DESIGN CHOICE, log entry 7.) -/
def mput {α : Type} [DecidableEq α] (d : α) (m : List (Nat × α)) (k : Nat) (v : α) : List (Nat × α) :=
  if v = d then merase m k else mins k v (merase m k)

/-- Change the value at key `k`. -/
def mmod {α : Type} [DecidableEq α] (d : α) (m : List (Nat × α)) (k : Nat) (f : α → α) : List (Nat × α) :=
  mput d m k (f (mget d m k))

/-- The keys rise strictly. -/
def keysRise {α : Type} : List (Nat × α) → Bool
  | [] => true
  | [_] => true
  | (a, _) :: (b, w) :: r => a < b && keysRise ((b, w) :: r)

/-- The canonical form: keys rise strictly and no entry is what an unlisted key reads as. -/
def mwf {α : Type} [DecidableEq α] (d : α) (m : List (Nat × α)) : Bool :=
  keysRise m && m.all (fun e => e.2 != d)

end Sys2Proof.Machine
end

