-- ==== Sys2Proof/Machine/State.lean ====
section
/-!
DEFINITION. Everything the spec gives the block, as plain data. Register fields stand in `regs` (present value or
value in force) and `shadow` (shadow value of RW fields), numbered by `Fld.key`; every other collection is a sparse map
by number. Numbered by: parcel = field * 672 + slot (R3); ticket slot = field * 1024 + slot; rail = 2 * field + rail;
phase = 20 * field + phase; ring = 12 * field + ring; model buffer = (4 * field + slot) * 2 + buffer.
-/

namespace Sys2Proof.Machine

open Sys2Proof

/-- Why a step stops the machine. No meaning of this model faults: every command of the table has an effect, and the
operands' types admit no unit that does not exist. Kept for the interface; safe. -/
inductive Fault where
  /-- Raised by nobody: a unit number outside the floorplan. Safe. -/
  | noSuchUnit
  deriving DecidableEq, Repr

/-- Why a command has no meaning. -/
inductive Refusal where
  /-- Raised by exec for a row that is not modelled yet. Safe. -/
  | notModelled (mnemonic : String)
  deriving DecidableEq, Repr

/-! ### Parcel agents -/

/-- A parcel start that waits for release (R119). -/
structure Waiting where
  /-- Class whose start step it is (R117). -/
  cls : Nat
  crit : Bool
  /-- Ramp marks passed since the start event. -/
  marks : Nat
  /-- The word has passed without letting it draw. -/
  delayed : Bool
  /-- The climb of an earlier start was running at this one (R115). -/
  climbing : Bool
  deriving DecidableEq, Repr

/-- A droop event word queued in an agent for its ring (R107, R244). -/
structure DroopWord where
  t2 : Bool
  ec : Nat
  second : Bool
  margin : Nat
  qSet : Nat
  qApp : Nat
  repeats : Nat
  tick : Nat
  deriving DecidableEq, Repr

/-- A parcel agent (R11, R19, R48, R75, R77, R103 to R121, R128, R257). -/
structure Agent where
  released : Bool
  /-- Halt asserted into the 16 cores. -/
  halted : Bool
  armed : Bool
  releaseWord : Bool
  qTarget : Nat
  /-- Target of the last downward frame, in force from the next boundary. -/
  qNext : Nat
  qRamp : Nat
  qDroop : Nat
  /-- Value that the climb has reached, 64 when none runs (R115); a waiting parcel applies 1 in its place. -/
  climb : Nat
  shaping : Bool
  waiting : Option Waiting
  /-- Start steps still to be debited at the word's next pass (R119): class and criticality of each. -/
  debit : List (Nat × Bool)
  idle : Bool
  unticketed : Bool
  unticketedInTick : Bool
  /-- 0 none, 1 T1 clamp, 2 T2 clamp in force. -/
  clamp : Nat
  /-- Margin clear long enough: q_droop rises at ramp marks (R106). -/
  releasing : Bool
  /-- Droop reason seen in this tick: 0 none, 8 T1, 9 T2 (R108). -/
  droopReason : Nat
  marginMin : Nat
  /-- Loads of q_droop that the gates may not follow yet: tick, first engine cycle that does, and the value before (R105). -/
  loads : List (Nat × Nat × Nat)
  words : List DroopWord
  pool : Nat
  /-- Refill that the last downward frame brought, due at the next boundary, and the one applied at the last. -/
  refill : Nat
  lastRefill : Nat
  /-- The cores were halted in a part of this tick and run again (R98). -/
  haltedInTick : Bool
  /-- Re-grant of a cancelled charge, due at the next boundary (R141). -/
  giveBack : Nat
  /-- Gate accumulators acc[0..15] and open[0..15], and the engine cycles of this tick that they have run (R75). -/
  acc : List Nat
  gates : List Bool
  gateEc : Nat
  /-- Latched activity of the last tick: C_0 to C_11 and M_0 to M_11 (R48). -/
  actC : List Nat
  actM : List Nat
  /-- q_shape, q_droop, the lowest margin of the tick and the pool, as the last tick boundary found them. -/
  shapeSnap : Nat
  droopSnap : Nat
  marginSnap : Nat
  poolSnap : Nat
  deriving DecidableEq, Repr

/-- An agent in its reset state (R11). acc[k] is 4k (R75). -/
def Agent.reset : Agent :=
  { released := false, halted := true, armed := false, releaseWord := false
    qTarget := 1, qNext := 1, qRamp := 1, qDroop := 64, climb := 64, shaping := false
    waiting := none, debit := [], idle := true, unticketed := false, unticketedInTick := false
    clamp := 0, releasing := false, droopReason := 0, marginMin := 63, loads := [], words := [], pool := 0, refill := 0
    lastRefill := 0, haltedInTick := false, giveBack := 0, acc := (List.range 16).map (fun k => 4 * k), gates := List.replicate 16 false, gateEc := 0
    actC := List.replicate 12 0, actM := List.replicate 12 0, shapeSnap := 0, droopSnap := 0, marginSnap := 0, poolSnap := 0 }

/-! ### Field-unit side of a parcel -/

/-- The plan of one parcel for one tick (R87, R88). -/
structure Plan where
  q : Nat
  /-- Sum of the planned q_ramp over the eight ramp intervals, and q_ramp at the end of the tick (R87). -/
  qs : Nat
  ramp : Nat
  base : Nat
  dyn : Nat
  cap : Nat
  crit : Bool
  reason : Nat
  /-- Credit units that the plan refills (R129). -/
  refill : Nat
  deriving DecidableEq, Repr

/-- A parcel before any plan: target 1 (R79). -/
def Plan.reset : Plan := { q := 1, qs := 8, ramp := 1, base := 0, dyn := 0, cap := 64, crit := false, reason := 0, refill := 0 }

/-- What the field unit holds of one parcel: estimate, plan, temperatures and reductions. -/
structure Parcel where
  /-- Activity record as received in the last upward frame (R23, R49). -/
  recC : List Nat
  recM : List Nat
  /-- Features x_0 to x_31 of the last estimator run (R50), and its results: slot used, e_raw, e, rshift(yb, sb) (R53). -/
  feat : List Int
  mslot : Nat
  eRaw : Nat
  e : Nat
  ybOut : Int
  /-- The estimator has run. -/
  ran : Bool
  /-- Reported power of the last measured tick and of the four before the present one, newest first (R73, R154). -/
  reported : Nat
  reportedHist : List Nat
  /-- Class in force at the end of the last tick (R51). -/
  cls : Nat
  /-- What the agent said of the last tick: unticketed flag (R122), droop reason (R108), cores halted and safe setpoint
  below the target (R98). -/
  unt : Bool
  tickDroop : Nat
  tickHalted : Bool
  tickSafe : Bool
  /-- The plans made last, the time before, and before that. -/
  plan : Plan
  plan1 : Plan
  plan2 : Plan
  /-- Classes of the START and END events for the next plan, and of those that came at or after offset 1,520 (R87). -/
  starts : List Nat
  ends : List Nat
  startsLate : List Nat
  endsLate : List Nat
  /-- r_p and the value saved at a declaration (R161, R163); a lift that waits for the field processor (R164). -/
  red : Nat
  redSaved : Nat
  liftDue : Bool
  /-- Every reading since the last boundary that is a multiple of 256 was below THROT_C - THROT_HYS (R161). -/
  cool : Bool
  deriving DecidableEq, Repr

/-- A parcel before any tick: no estimate and no plan. -/
def Parcel.reset : Parcel :=
  { recC := List.replicate 12 0, recM := List.replicate 12 0, feat := List.replicate 32 0, mslot := 0, eRaw := 0, e := 0
    ybOut := 0, ran := false, reported := 0, reportedHist := [], cls := 0, unt := false, tickDroop := 0, tickHalted := true
    tickSafe := false, plan := Plan.reset, plan1 := Plan.reset, plan2 := Plan.reset, starts := [], ends := []
    startsLate := [], endsLate := [], red := 0, redSaved := 0, liftDue := false, cool := true }

/-- A cadastre entry (Table 18.8). -/
structure Cad where
  flag : Nat
  detAFail : Bool
  detBFail : Bool
  spareBroken : Bool
  useSpare : Bool
  fused : Bool
  defaultSlot : Nat
  /-- Sixteen 6-bit trims: detector d, band b at 8d + b. -/
  trims : List Nat
  sensorOfs : List Int
  spareOfs : List Int
  localLimit : Nat
  safeQ : Nat
  updateTick : Nat
  /-- Written since the agent last loaded it (R432). -/
  dirty : Bool
  deriving DecidableEq, Repr

/-- An entry as firmware fills it from an empty calibration store (R432). -/
def Cad.reset : Cad :=
  { flag := 0, detAFail := false, detBFail := false, spareBroken := false, useSpare := false, fused := false
    defaultSlot := 0, trims := List.replicate 16 0, sensorOfs := List.replicate 8 0, spareOfs := List.replicate 8 0
    localLimit := 14400, safeQ := 16, updateTick := 0, dirty := false }

/-- A thermal sensor as its field unit follows it (R151 to R158). Parcel sensor of slot s at 1024 f + s, spare of
group g at 1024 f + 700 + g, benchmark k at 1024 f + 900 + k. -/
structure Sensor where
  /-- A reading is in force; of a benchmark: its last conversion was valid. -/
  valid : Bool
  /-- Corrected reading in force, 1/8 °C; of a parcel slot, whichever sensor it reads. -/
  temp : Int
  /-- Reading in force when the tick began, which the estimator uses (R51). -/
  held : Int
  /-- Newest reading while a validation holds back its use (R157, R158). -/
  newTemp : Int
  /-- Raw code of the newest reading of this sensor and the counts of Table 7.2. -/
  raw : Nat
  rangeCount : Nat
  devCount : Nat
  /-- Readings (parcel and spare) or ticks (benchmark) in the run of equal raw codes, with the lowest and highest reading
  of each benchmark at every tick mark of the run. -/
  stuckCount : Nat
  lows : List Int
  highs : List Int
  /-- A Table 7.2 test is met; the declaration takes effect at the next boundary. -/
  decided : Bool
  broken : Bool
  /-- The slot's reading is under validation, and its passing readings so far (R157, R158). -/
  validating : Bool
  passCount : Nat
  /-- Consecutive readings above SHUT_C (R170). -/
  shutCount : Nat
  /-- A BIST_RUN has passed the sensor since the declaration (R158). -/
  bistPass : Bool
  /-- A remap of the slot is committed and not yet in force: 0 none, 1 to the spare, 2 to own sensor, 3 release. -/
  action : Nat
  /-- Tick at whose boundary the latest declaration took effect (R157). -/
  declaredAt : Nat
  /-- Tick in which the declaration was decided or the newest passing reading came: what follows waits for a later boundary (R155,
  R157). -/
  eventAt : Nat
  deriving DecidableEq, Repr

/-- A sensor before its first reading. (DESIGN CHOICE, log entry 8.) -/
def Sensor.reset : Sensor :=
  { valid := false, temp := 0, held := 0, newTemp := 0, raw := 0, rangeCount := 0, devCount := 0, stuckCount := 0, lows := [], highs := []
    decided := false, broken := false, validating := false, passCount := 0, shutCount := 0, bistPass := false
    action := 0, declaredAt := 0, eventAt := 0 }

/-! ### Tickets, contexts, accounts -/

/-- A ticket slot (Table 6.8), with the fields that the words do not show. -/
structure Slot where
  task : Nat
  /-- 0 FREE, 1 WAITING, 2 GRANTED, 3 RUNNING, 4 RETIRED. -/
  st : Nat
  crit : Bool
  prio : Nat
  cls : Nat
  aged : Bool
  countM1 : Nat
  wq : Bool
  aborted : Bool
  cancelled : Bool
  effPrio : Nat
  first : Nat
  prior : Nat
  charge : Nat
  reqTick : Nat
  startTick : Nat
  energy : Nat
  grantDelta : Nat
  /-- A START has been taken (R138). -/
  ran : Bool
  /-- An END has been taken (R140, R141), or the ticket was aborted (R143); `endTick` is its tick. -/
  ended : Bool
  endTick : Nat
  grantTick : Nat
  /-- Order of grants on the wafer, for "granted last" and "granted first" (R51, R139). -/
  grantSeq : Nat
  /-- Ticks waited without being held (R134). -/
  waited : Nat
  /-- AGE_LIMIT reached (R134). -/
  ageDue : Bool
  /-- Tick at whose boundary the slot becomes RETIRED or enters the free list; 0 none (R140, R141, R143). -/
  retireAt : Nat
  /-- Billing is due at offset 1,900 of this tick; 0 none. -/
  billAt : Nat
  deriving DecidableEq, Repr

/-- A FREE slot (R149). -/
def Slot.reset : Slot :=
  { task := 0, st := 0, crit := false, prio := 0, cls := 0, aged := false, countM1 := 0, wq := false, aborted := false
    cancelled := false, effPrio := 0, first := 0, prior := 0, charge := 0, reqTick := 0, startTick := 0, energy := 0
    grantDelta := 0, ran := false, ended := false, endTick := 0, grantTick := 0, grantSeq := 0, waited := 0, ageDue := false
    retireAt := 0, billAt := 0 }

/-- A message waiting in a field's outbound ticket queue (Table 6.1, R406). -/
inductive TkOut where
  /-- `ready` is false while the hub's wafer-queue answer is on its way (R136). -/
  | response (task field first result : Nat) (wq : Bool) (handle cause : Nat) (ready : Bool)
  | grant (task first slot : Nat)
  deriving DecidableEq, Repr

/-- An inbound ticket message that waits for the end of the re-presentation window, in the order taken (R132, R406). -/
inductive TkIn where
  | request (m : TkRequest) (tick : Nat)
  | start (slot : Nat)
  | finish (slot : Nat)
  deriving DecidableEq, Repr

/-- An entry of the wafer queue (R136). -/
structure WqEntry where
  field : Nat
  req : TkRequest
  reqTick : Nat
  index : Nat
  deriving DecidableEq, Repr

/-- A job power context (Table 6.4). -/
structure Ctx where
  /-- 0 CLOSED, 1 OPEN, 2 ABORTING. -/
  st : Nat
  held : Bool
  prioBoost : Nat
  capShare : Nat
  lockGroup : Nat
  openTick : Nat
  jobPower : Nat
  heldTicks : Nat
  /-- Energy billed to the job since the last cap-share evaluation, credit units (R137). -/
  shareEnergy : Nat
  /-- State and HELD that the fields and the hub take at the next boundary; none when nothing is due. -/
  due : Option Nat
  dueHeld : Option Bool
  /-- LOCK_GROUP, CAP_SHARE and PRIO_BOOST of an opening that waits for its boundary (R137). -/
  opening : Nat × Nat × Nat
  /-- Tick at which the context entered ABORTING, and the boundary B at which the tickets of its job were aborted (R143). -/
  abortFrom : Nat
  abortAt : Option Nat
  /-- Tick at which the context became CLOSED (R233). -/
  closedAt : Nat
  deriving DecidableEq, Repr

def Ctx.reset : Ctx :=
  { st := 0, held := false, prioBoost := 0, capShare := 0, lockGroup := 0, openTick := 0, jobPower := 0, heldTicks := 0
    shareEnergy := 0, due := none, dueHeld := none, opening := (0, 0, 0), abortFrom := 0, abortAt := none, closedAt := 0 }

/-- A job account (Table 10.1). -/
structure Account where
  /-- 0 UNUSED, 1 OPEN, 2 CLOSING, 3 CLOSED, 4 ABORTED. -/
  st : Nat
  abortCause : Nat
  estOnly : Bool
  prevCtx : Nat
  restarts : Nat
  updateSeq : Nat
  openTick : Nat
  closeTick : Nat
  energyMj : Nat
  energyFrac : Nat
  retired : Nat
  cancelled : Nat
  abortedT : Nat
  busyPt : Nat
  /-- THR_PT1 to THR_PT12. -/
  thr : List Nat
  lastDrain : Nat
  deriving DecidableEq, Repr

def Account.reset : Account :=
  { st := 0, abortCause := 0, estOnly := false, prevCtx := 0, restarts := 0, updateSeq := 0, openTick := 0, closeTick := 0
    energyMj := 0, energyFrac := 0, retired := 0, cancelled := 0, abortedT := 0, busyPt := 0
    thr := List.replicate 12 0, lastDrain := 0 }

/-- A field collection record (Table 10.2). -/
structure Coll where
  energy : Nat
  thr : List Nat
  busy : Nat
  retired : Nat
  cancelled : Nat
  aborted : Nat
  estOnly : Bool
  deriving DecidableEq, Repr

def Coll.reset : Coll :=
  { energy := 0, thr := List.replicate 12 0, busy := 0, retired := 0, cancelled := 0, aborted := 0, estOnly := false }

/-- A drain frame kept until the hub acknowledges it (R231). -/
structure DrainFrame where
  seqNo : Nat
  ctx : Nat
  cells : Coll
  sentAt : Nat
  /-- On its way to the hub. -/
  inFlight : Bool
  deriving DecidableEq, Repr

/-! ### Estimator and recalibration -/

/-- A model buffer: an image in the layout of Table 3.3, and whether it is valid. -/
structure Model where
  valid : Bool
  bytes : List Nat
  deriving DecidableEq, Repr

def Model.reset : Model := { valid := false, bytes := [] }

/-- Sums of one sub-window (R65). -/
structure SubWin where
  z : List Int
  r : Int
  m : Int
  n : Nat
  deriving DecidableEq, Repr

def SubWin.zero : SubWin := { z := List.replicate 32 0, r := 0, m := 0, n := 0 }

/-- A recalibration result that waits for its boundary (R68). -/
structure RecalResult where
  slot : Nat
  wb : List Int
  gain : Nat
  share : Nat
  success : Bool
  atBound : Bool
  /-- RECALIBRATE asked for it (R69). -/
  byCmd : Bool
  /-- The recalibration was skipped: nothing changes (R66). -/
  skipped : Bool
  /-- A restart has broken the solve: it counts in RECAL_SKIP when it would have been installed (R275). -/
  lost : Bool
  /-- Tick at whose start it is installed. -/
  due : Nat
  deriving DecidableEq, Repr

/-! ### The field unit -/

/-- Figures of a field report (R20, R90, R153). -/
structure Report where
  floor : Nat
  demand : Nat
  critDemand : Nat
  tmax : Int
  band : Nat
  mValid : Bool
  /-- Measured power M, or the power of the control figure when M is not valid, 1/16 mW (R84). -/
  power : Nat
  arrived : Bool
  haltArrived : Bool
  repeated : Bool
  triggered : Bool
  deriving DecidableEq, Repr

def Report.zero : Report :=
  { floor := 0, demand := 0, critDemand := 0, tmax := 0, band := 0, mValid := false, power := 0, arrived := false
    haltArrived := false, repeated := false, triggered := false }

/-- What a field unit holds beside its registers. -/
structure FieldUnit where
  /-- The field's copy of wafer time, and whether the next frame's 48 bits are to be taken (R33). -/
  copy : Nat
  resync : Bool
  /-- Engine cycles, engine frequency in MHz and VCORE reference in 0.125 mV of the last tick (R50). -/
  nEc : Nat
  fEnd : Nat
  vEnd : Nat
  /-- Which buffer of each model slot is active (R57). -/
  bufSel : List Nat
  /-- Budget and reason of the budget frame received in this tick (R22). -/
  budgetNext : Option (Nat × Nat)
  /-- Window entries, newest first, 1/64 A (R81); the newest is of tick `winTick`. -/
  winTick : Nat
  winCore : List Nat
  winSram : List Nat
  /-- Planned current of the next tick per rail, 1/64 A. -/
  planCore : Nat
  planSram : Nat
  /-- p_max of the last plan, 1/8 W (R88). -/
  pMax : Nat
  /-- Report as last sent, and E_f, M of the last two ticks. -/
  report : Report
  /-- Report of the tick before, which an overrun repeats (R36). -/
  reportPrev : Report
  /-- Credit accumulator of R129, 1/16 mW ticks × 64. -/
  creditAcc : Nat
  /-- Overrun in this tick, and in the last (R36). -/
  overran : Bool
  overranLast : Bool
  /-- M of the last complete tick is valid. -/
  mValid : Bool
  /-- Rail currents of the last 16 ticks, newest first (R180). -/
  hist16Core : List Nat
  hist16Sram : List Nat
  /-- Consecutive counts of Table 3.5. -/
  driftCount : Nat
  clearCount : Nat
  disCount : Nat
  safeCount : Nat
  /-- The trim hit its bound, or a recalibration succeeded, and the mode has not answered yet (R67, R70). -/
  boundHit : Bool
  recalOk : Bool
  /-- SENSOR_DISAGREE of the bound has been counted (R70). -/
  disagreeCounted : Bool
  /-- Sub-windows of the window in progress and of the last complete one (R65). -/
  subs : List SubWin
  lastSubs : List SubWin
  /-- Sums of V_VSRAM × I_VSRAM and M over contributing ticks (R68). -/
  shareNum : Nat
  shareDen : Nat
  lastShareNum : Nat
  lastShareDen : Nat
  /-- Active parcel-ticks served by each slot in the window. -/
  use : List Nat
  /-- Dominant slot of the last complete window (R65); DOM_SLOT is that of the window in progress. -/
  lastDom : Nat
  /-- Covariance of each slot; empty stands for 2^e × I, with e the P0_EXP in force when the slot's state was reset (R66). -/
  cov : List (List (List Rat))
  p0 : List Nat
  recal : Option RecalResult
  /-- The last complete window, and the one in progress, lack sums from a tick, or the solve was cut off (R275). -/
  windowBroken : Bool
  brokenNow : Bool
  /-- Cause with which the field is marked out from the next boundary (R197, R199, R198). -/
  outNext : Option Nat
  /-- Cause under which a stop in progress marks the field out (Table 15.4). -/
  stopCause : Nat
  /-- The agents' loads are complete: they are released at the next boundary (R11). -/
  releaseDue : Bool
  /-- Armed probe slot (R74). -/
  probe : Option Nat
  /-- PARCEL_SEL of F_ISSUE as the last plan found it, and of F_DROOP, F_THERM and F_TICKET as the last tick mark did: the slots
  that the pages show (Tables 4.8, 5.5, 6.10, 7.11). -/
  selIssue : Nat
  selDroop : Nat
  selTherm : Nat
  selTicket : Nat
  /-- Ticket queues by number: 0 critical, 1 + 8 class + priority (R131). -/
  queues : List (Nat × List Nat)
  /-- Slots never used start here; retired slots, least recently retired first (R132). -/
  fresh : Nat
  retiredQ : List Nat
  /-- Messages taken in the re-presentation window, and the outbound queue (R132, R406). -/
  windowIn : List TkIn
  outQ : List TkOut
  /-- TK_OUT_TYPE and TK_OUT_DATA of the message last taken (Tables 17.4 and 17.5). -/
  tkOut : Nat × Nat
  hangReported : Bool
  /-- Committed rise of this tick, 1/64 A (R181). -/
  committedRise : Nat
  /-- Band code decided for the next boundary (R165). -/
  bandNext : Nat
  /-- Some valid reading above WARN_C; some valid reading at or above WARN_C - WARN_HYS, in this tick (R160). -/
  sawWarn : Bool
  sawAboveClear : Bool
  /-- Readings in force at offset 0 of the last tick before a multiple of 64: active slots, benchmarks, and what the field limit
  follows (R161, R162). -/
  snapTemps : List (Nat × Int)
  snapBench : List (Nat × Int)
  snapField : Int
  /-- Readings of this tick whose comparison with T_exp waits for the reported power of the tick before: slot, spare or own sensor,
  corrected reading (R154). -/
  devDue : List (Nat × Bool × Int)
  /-- Every valid benchmark reading since the last multiple of 256 below THROT_C - THROT_HYS, and whether that held over the
  256 ticks before it (R161). -/
  benchCool : Bool
  benchCoolDone : Bool
  /-- Consecutive ticks with VIN at or above 10.8 V; VIN_UV counted and not re-armed (R199, R366). -/
  vinGood : Nat
  vinUvSeen : Bool
  /-- VIN of the last tick is valid (R177). -/
  vinValid : Bool
  /-- Tick of step 1 of a latch-off whose step 2 is still to come (R197). -/
  latchAt : Option Nat
  vin : Nat
  /-- Calibration step of Table 15.2, 0 when none; its start tick; sum and count of M; whether M was ever invalid. -/
  calStep : Nat
  calFrom : Nat
  calSum : Nat
  calTicks : Nat
  calBad : Bool
  /-- IDLE0 as step 3 gave it. -/
  calIdle : Nat
  calibrated : Bool
  /-- Soft start: group number while waiting or starting, and the tick of the start (R355). -/
  started : Bool
  startDone : Bool
  /-- The soft start had ended at the latest tick mark (R355, R359). -/
  startOver : Bool
  startTick : Nat
  /-- Waiting for a start after RAIL_ENABLE or R366. -/
  startQueued : Bool
  /-- Back in service at the boundary after calibration step 1 (R365). -/
  serviceDue : Bool
  /-- Drain bookkeeping (R231): next sequence number, kept frames, last pass start. -/
  drainSeq : Nat
  drainKept : List DrainFrame
  drainStart : Nat
  /-- The hub's last applied sequence number of this field. -/
  drainApplied : Nat
  /-- Wafer trigger received, to act at the next boundary (R249); own trigger to report. -/
  wtrig : Bool
  trigReport : Bool
  /-- Margin mode whose datum is selected: true WIDE (R112). -/
  wide : Bool
  /-- Boundary at which T2_RATE was entered (R111). -/
  t2From : Nat
  /-- Tick of the latest band change (R104). -/
  bandTick : Option Nat
  /-- Phases of the field under BIST item 0x6 (R386). -/
  bistPhases : Nat
  bistRunning : Bool
  /-- Item codes that the running self-test runs (R342, Tables 15.1 and 15.2). -/
  bistItems : List Nat
  /-- ADC channels, in the order of Table 14.3, that failed the last self-test (R64, R344). -/
  bistChan : Nat
  /-- Window in which RECALIBRATE was carried out while its solve is due (R69). -/
  recalAsk : Option Nat
  /-- RECALIBRATE with RESET, due at the next boundary (R69). -/
  recalReset : Bool
  /-- Peak temperature has been recorded. -/
  peakSeen : Bool
  /-- Field tripped (R170). -/
  tripped : Bool
  /-- What COUNTER_UPDATE takes for the tick that has ended (R238): fault events per source and corrected errors of the tick
  in progress and of the last one; T_MAX, T_MEAN and the slot of the maximum (0x3FF a benchmark) of both. -/
  faultNow : List (Nat × Nat)
  faultPrev : List (Nat × Nat)
  ceNow : Nat
  cePrev : Nat
  tNow : Int × Int × Nat
  tLast : Int × Int × Nat
  /-- Bit r: reason code r was attributed in the tick last counted. -/
  thrMask : Nat
  /-- The tick from which the field's link has carried no trace record yet (R251). -/
  linkFrom : Nat
  deriving DecidableEq, Repr

/-- A field unit after SURV_RST_N. (DESIGN CHOICE, log entry 8.) -/
def FieldUnit.reset : FieldUnit :=
  { copy := 0, resync := false, nEc := 0, fEnd := 0, vEnd := 0, bufSel := [0, 0, 0, 0], budgetNext := none, winTick := 0, winCore := [], winSram := [], planCore := 0, planSram := 0, pMax := 0
    report := Report.zero, reportPrev := Report.zero, creditAcc := 0, overran := false, overranLast := false, mValid := false
    hist16Core := [], hist16Sram := [], driftCount := 0, clearCount := 0, disCount := 0, safeCount := 0
    boundHit := false, recalOk := false, disagreeCounted := false, subs := List.replicate 8 SubWin.zero
    lastSubs := [], shareNum := 0, shareDen := 0, lastShareNum := 0, lastShareDen := 0, use := List.replicate 4 0, lastDom := 0
    cov := List.replicate 4 [], p0 := List.replicate 4 8, recal := none, windowBroken := false, brokenNow := false, outNext := none, stopCause := 8, releaseDue := false, probe := none, selIssue := 0, selDroop := 0, selTherm := 0, selTicket := 0, queues := [], fresh := 0
    retiredQ := [], windowIn := [], outQ := [], tkOut := (0, 0), hangReported := false
    committedRise := 0, bandNext := 0, sawWarn := false, sawAboveClear := false, snapTemps := [], snapBench := [], snapField := 0, devDue := [], benchCool := true, benchCoolDone := false, vinGood := 0, vinValid := false, latchAt := none
    vinUvSeen := false, vin := 0, calStep := 0, calFrom := 0, calSum := 0, calTicks := 0, calBad := false, calIdle := 0
    calibrated := false, started := false, startDone := false, startOver := false, startTick := 0, startQueued := false
    serviceDue := false, drainSeq := 0, drainKept := [], drainStart := 0, drainApplied := 0, wtrig := false
    trigReport := false, wide := true, t2From := 0, bandTick := none
    bistPhases := 0, bistRunning := false, bistItems := [], bistChan := 0, recalAsk := none, recalReset := false, peakSeen := false, tripped := false
    faultNow := [], faultPrev := [], ceNow := 0, cePrev := 0, tNow := (0, 0, 0), tLast := (0, 0, 0), thrMask := 0, linkFrom := 0 }

/-- A parcel ring's allowance word (R118). -/
structure Ring where
  allow : Nat
  resv : Nat
  nextCrit : Nat
  /-- Start step drawn on the revolution in progress (R181). -/
  drawn : Nat
  deriving DecidableEq, Repr

def Ring.reset : Ring := { allow := 0, resv := 0, nextCrit := 0, drawn := 0 }

/-- A rail's regulator beside its registers (R174 to R200). The slewed reference moves in steps of 0.625 mV (R188), so it
is kept in units of 0.125 mV; the register REF shows it in 0.25 mV. -/
structure RailSt where
  /-- Slewed reference, 0.125 mV units. -/
  refv : Nat
  /-- Next phase of the rotation (R176). -/
  nextPhase : Nat
  /-- 0 off, 1 soft start, 2 regulating, 3 stopping, 4 latched off with the phases not yet at the mid level (step 2 of R197). -/
  run : Nat
  /-- Tick and reference at which the soft start or the stop began (R193). -/
  runFrom : Nat × Nat
  /-- Tick of the last change of the ACTIVE set (R180). -/
  dwellFrom : Nat
  /-- RAIL_UV is counted and not re-armed (R183). -/
  uvCounted : Bool
  /-- Survey cycle at which the injected ramp was last 0 (R178). -/
  rampFrom : Nat
  /-- The field processor has not been in RUN for the whole balance period (R275). -/
  balBroken : Bool
  /-- Tick at which the last balance period ended (R179). -/
  balAt : Option Nat
  deriving DecidableEq, Repr

def RailSt.reset : RailSt :=
  { refv := 0, nextPhase := 0, run := 0, runFrom := (0, 0), dwellFrom := 0, uvCounted := false, rampFrom := 0, balBroken := false
    balAt := none }

/-- A phase beside its registers. -/
structure PhaseSt where
  /-- End of its last on-pulse, in steps of 0.125 ns. -/
  pulseEnd : Nat
  /-- Consecutive switching periods in foldback, the latest of them, and whether PHASE_OC has been counted and not
  re-armed by 256 periods without foldback (R194). -/
  foldRun : Nat
  foldPeriod : Nat
  ocHeld : Bool
  /-- In foldback in this tick. -/
  foldTick : Bool
  /-- Sum of IMON over the balance period, its ticks, and whether the phase was ACTIVE throughout (R179). -/
  balSum : Int
  balTicks : Nat
  balWhole : Bool
  /-- Balance trim that takes effect at the next boundary. -/
  trimNext : Option Int
  /-- Consecutive ticks in which no cause of R64 has held on the invalid channel. -/
  goodTicks : Nat
  /-- TMON has exceeded OT_C and not yet fallen below OT_C - OT_HYS (R195). -/
  hot : Bool
  deriving DecidableEq, Repr

def PhaseSt.reset : PhaseSt :=
  { pulseEnd := 0, foldRun := 0, foldPeriod := 0, ocHeld := false, foldTick := false, balSum := 0, balTicks := 0
    balWhole := true, trimNext := none, goodTicks := 0, hot := false }

/-! ### Pages, commands and the journal -/

/-- A commit captured at arrival (R39, R40). -/
structure Pending where
  /-- Wafer time of the tick at whose start it takes effect. -/
  due : Nat
  /-- Captured RW values, by `Fld.key`. -/
  vals : List (Nat × Nat)
  /-- The command port that made it, if any. -/
  byCmd : Option Nat
  deriving DecidableEq, Repr

/-- What an access from elsewhere than the field itself brings to a field page behind a commit that is on its way (R38). -/
inductive TransitAct where
  /-- PAGE_COMMIT with its value, and the command port that made it, if any. -/
  | commit (v : Nat) (byCmd : Option Nat)
  /-- A write of a shadow value. -/
  | write (fld : Fld) (v : Nat)
  | cancel
  | reload
  deriving DecidableEq, Repr

/-- An access on its way to its page: tick and offset of its arrival (R38). -/
structure Transit where
  tick : Nat
  off : Nat
  act : TransitAct
  deriving DecidableEq, Repr

/-- The common header state of a page (Table 18.3) and its access latches (R420). -/
structure Page where
  pending : Option Pending
  /-- Accesses that have left and not arrived, in the order they left (R38, R39). -/
  transit : List Transit
  /-- Held by the command of this port (R385). -/
  heldBy : Option Nat
  err : Nat
  errEn : Nat
  stamp : Nat
  /-- Latched high half per access path: path number, low offset last read, high half. -/
  latches : List (Nat × Nat × Nat)
  deriving DecidableEq, Repr

def Page.reset : Page := { pending := none, transit := [], heldBy := none, err := 0, errEn := 0x3F, stamp := 0, latches := [] }

/-- What a command that has not had its final status waits for. -/
inductive Wait where
  | none
  /-- Pages still to take effect, and pages written. -/
  | commits (left done : Nat)
  | modelSwap (slot : Nat) (fields : List Nat) (due : Nat)
  | recal (left : List Nat)
  | remap (field slot action : Nat)
  | account (n : Nat)
  | halt
  | resume
  | graph
  /-- A step of the engine clock: `byTick` for SET_CONTOUR_POINT, which answers the step's tick. -/
  | step (byTick : Bool) (stepId : Nat)
  | plumb
  | join
  | bist (left : List Nat) (passed failed untested differ : Nat)
  | march (left : List Nat) (failing repaired unrepaired : Nat)
  | enable (left : List Nat) (back again : Nat)
  | disable (left : List Nat) (persist : Bool)
  | activation
  | restarts (left : List Nat)
  | opening (n : Nat)
  deriving DecidableEq, Repr

/-- A status that waits for room in the staged journal entries (R276). -/
structure Owed where
  status : Nat
  detail : Nat
  data : List Nat
  deriving DecidableEq, Repr

/-- A command as its port captured it (R375). -/
structure Flight where
  seqNo : Nat
  opts : Nat
  op : Nat
  /-- ARG0 to ARG14. -/
  args : List Nat
  /-- Bits [31:16] of descriptor word 0, which are 0 in a legal command. -/
  res : Nat
  submitTick : Nat
  /-- The owner has carried the command out, or begun to. -/
  begun : Bool
  /-- First status ACCEPTED written. -/
  accepted : Bool
  wait : Wait
  owed : List Owed
  deriving DecidableEq, Repr

/-- A command port beside its page registers (R373 to R377): the command in flight, if any. -/
structure PortSt where
  flight : Option Flight
  deriving DecidableEq, Repr

def PortSt.reset : PortSt := { flight := none }

/-- The pieces of an image staged by a port (R380). -/
structure Staging where
  port : Nat
  op : Nat
  /-- Model slot; 0 for FW_STAGE. -/
  slot : Nat
  fset : List Nat
  bytes : List Nat
  deriving DecidableEq, Repr

/-- A journal entry (Table 16.9). -/
structure JEntry where
  tick : Nat
  cmdSeq : Nat
  opcode : Nat
  options : Nat
  status : Nat
  flags : Nat
  detail : Nat
  arg0 : Nat
  digest : Nat
  submitTick : Nat
  jseq : Nat
  deriving DecidableEq, Repr

/-! ### Trace -/

/-- A trace record (Table 11.1). -/
structure TraceRec where
  code : Nat
  tick : Nat
  parcel : Nat
  offset : Nat
  aux : Nat
  dataA : Nat
  dataB : Nat
  deriving DecidableEq, Repr

/-- A trace buffer (R246 to R250). Buffer f for field f, 84 for the hub. -/
structure TraceBuf where
  /-- Records not yet drained, oldest first. -/
  recs : List TraceRec
  /-- The buffer as its SRAM region shows it, by index. -/
  cells : List (Nat × TraceRec)
  /-- Index of the next record written. -/
  wrIdx : Nat
  /-- 0 OFF, 1 RUNNING, 2 POST, 3 FROZEN. -/
  st : Nat
  /-- Post-trigger records still to write. -/
  post : Nat
  lossCount : Nat
  /-- AUX bits of the losses counted, and TICK of the newest lost record. -/
  lossAux : Nat
  lossTick : Nat
  deriving DecidableEq, Repr

def TraceBuf.reset : TraceBuf :=
  { recs := [], cells := [], wrIdx := 0, st := 0, post := 0, lossCount := 0, lossAux := 0, lossTick := 0 }

/-! ### Lock groups and tie lines -/

/-- A pending contour step (R205 to R208, R214, R215). -/
structure Step where
  point : Nat
  stepId : Nat
  /-- Own boundary at which it falls due, and the exact target in survey cycles. -/
  due : Nat
  target : Int
  plumb : Bool
  plumbPower : Nat
  /-- The idle PLL has locked at the new frequency. -/
  pllLocked : Bool
  /-- The step has already missed a boundary. -/
  late : Bool
  /-- 0 an announced step, 1 a step missed in a freeze, 2 the step of a join (R210, R216, R221). -/
  kind : Nat
  /-- The step carries the end of plumb mode (R222, R225). -/
  off : Bool
  deriving DecidableEq, Repr

/-- A received frame that waits for H0 (R276). -/
inductive HeldFrame where
  | join (group depth waferId : Nat)
  | leave (group cause waferId : Nat)
  | sync (group point : Nat) (plumb : Bool) (stepId : Nat)
  | request (group point waferId : Nat)
  deriving DecidableEq, Repr

/-- A tie-line port beside its registers (R219). -/
structure Tie where
  /-- Twice the latency of each probe round of the attempt in progress, in survey cycles. -/
  rounds : List Int
  /-- Failed probe attempts. -/
  failures : Nat
  txSeq : Nat
  crcInPeriod : Nat
  /-- Receipt of the last valid frame, tick. -/
  heard : Nat
  /-- This port of the group's tree is DOWN, and the freeze it caused has not ended here (R220, R221). -/
  lost : Bool
  /-- Frames that wait for H0, oldest first, at most 16. -/
  rx : List HeldFrame
  /-- The newest frames and halt sets sent, newest first, each as its characters: a data character is its byte, a control
  character 256 more (R217). -/
  sent : List (List Nat)
  deriving DecidableEq, Repr

def Tie.reset : Tie :=
  { rounds := [], failures := 0, txSeq := 0, crcInPeriod := 0, heard := 0, lost := false, rx := [], sent := [] }

/-! ### Firmware -/

/-- An entry of a log ring (Table 12.6). -/
structure LogEntry where
  tick : Nat
  off : Nat
  level : Nat
  comp : Nat
  seqNo : Nat
  code : Nat
  /-- The four argument words, as one 128-bit number. -/
  args : Nat
  deriving DecidableEq, Repr

/-- A processor (R264 to R288). -/
structure Proc where
  /-- 0 RUN, 1 RESTARTING, 2 EXPIRED, 3 STOPPED. -/
  st : Nat
  imageB : Bool
  /-- Ticks left on the hold timer, and whether the hold is in force. -/
  hold : Nat
  holdOn : Bool
  /-- Safe setpoints and fixed credit of R273 in force. -/
  safe : Bool
  failedStarts : Nat
  /-- Cause of the latest restart, and its moment. -/
  cause : Nat
  causeTick : Nat
  causeSc : Nat
  lastUs : Nat
  restarts : Nat
  compFaults : Nat
  lastComp : Nat
  /-- The restart runs another image than before; the loader has done its part of the restart (R56, R272). -/
  newImage : Bool
  loaded : Bool
  /-- Tick of the last known kick of the watchdog (R270). -/
  kick : Nat
  /-- Compartment that runs, and the 16 MPU regions: base and bytes (R264, R266). -/
  comp : Nat
  mpu : List (Nat × Nat)
  /-- Callee, entry address, argument words and stack limit of the last gate call (R267). -/
  call : Nat × Nat × List Nat × Nat
  /-- Ticks of the compartment restarts within the last 4,096 ticks. -/
  compTicks : List Nat
  /-- Compartments that are restarting, and the tick by which each runs again (R268). -/
  compDown : List (Nat × Nat)
  /-- Outcome of the last gate call: 0 none, 1 GATE_DOWN, 2 GATE_FAULT, 3 returned (R267). -/
  gate : Nat
  /-- Tick of RUN; the processor writes again at the next boundary. -/
  runTick : Option Nat
  /-- Entries written to the log ring, and the newest 256 of them, newest first. -/
  logWr : Nat
  log : List LogEntry
  deriving DecidableEq, Repr

def Proc.reset : Proc :=
  { st := 0, imageB := false, hold := 0, holdOn := false, safe := false, failedStarts := 0, cause := 0, causeTick := 0
    causeSc := 0, lastUs := 0, restarts := 0, compFaults := 0, lastComp := 0, newImage := false, loaded := false, kick := 0, comp := 0
    mpu := [], call := (0, 0, [], 0), compTicks := [], compDown := [], gate := 0
    runTick := none, logWr := 0, log := [] }

/-! ### The monument -/

/-- A monument record: shutdown, last-fault, event or mirror entry, as (code, data), with what orders and reads it. -/
structure MonRec where
  /-- 1 shutdown, 2 last fault, 3 event, 4 journal mirror, 5 store or header. -/
  tier : Nat
  code : Nat
  tick : Nat
  offset : Nat
  source : Nat
  suppressed : Nat
  flags : Nat
  seqNo : Nat
  data : List Nat
  /-- The CRC of the stored record passes. -/
  whole : Bool
  /-- Boot count at the event (BOOT of Table 13.6). -/
  boot : Nat := 0
  /-- Byte address in the flash where it was programmed (Table 13.5). -/
  addr : Nat := 0
  deriving DecidableEq, Repr

/-- What a copy of the configuration store holds: out-of-service fields, datums, CEIL_ST, the HUB_CONTOUR page. -/
structure ConfigStore where
  outMap : List Nat
  datums : List (Nat × Nat)
  ceilSt : Nat
  contour : List (Nat × Nat)
  deriving DecidableEq, Repr

/-- What a copy of the calibration store holds: FLOOR0 and IDLE0 per field, cadastre entries, channel gains and offsets, BIST
references, grade figures per point, soft repair entries. -/
structure CalStore where
  cal : List (Nat × (Nat × Nat))
  cad : List (Nat × Cad)
  chanCal : List (Nat × (Nat × Int))
  bistRef : List (Nat × Nat)
  gradeTab : List (Nat × (Nat × Nat))
  softRows : List (Nat × Nat × Nat)
  /-- Every slot has a cadastre entry; one not listed holds the defaults (R432). -/
  cadFull : Bool
  deriving DecidableEq, Repr

/-- Empty stores; CEIL_ST 28.0 kW (Table 4.2). -/
def ConfigStore.blank : ConfigStore := { outMap := [], datums := [], ceilSt := 2800, contour := [] }
def CalStore.blank : CalStore := { cal := [], cad := [], chanCal := [], bistRef := [], gradeTab := [], softRows := [], cadFull := false }

/-- The flash and its controller (R306 to R319, R369). Non-volatile parts survive a reset. -/
structure Monument where
  /-- Write queues, all tiers, oldest first. -/
  queue : List MonRec
  /-- Program in progress and whether it is a retry. -/
  busy : Option MonRec
  retry : Bool
  /-- Erase in progress: 0 none, 1 the next pool block, 2 the next shutdown sector, 4 the next mirror sector, 6 header copy A,
  7 header copy B, 100 + f the oldest last-fault slot of field f; suspended. -/
  erasing : Nat
  suspended : Bool
  /-- An erase that hold-up suspended is not resumed until it is started again (R318, R371). -/
  noErase : Bool
  /-- Pool, first-N, shutdown, last-fault and mirror regions, newest first. -/
  pool : List MonRec
  firstN : List MonRec
  shutdowns : List MonRec
  lastFaults : List (Nat × MonRec)
  /-- Last-fault records written by each field since manufacture (R315). -/
  lfPos : List (Nat × Nat)
  mirror : List MonRec
  /-- Shutdown records and mirror entries written since manufacture, and erased pool blocks ahead of the write position. -/
  shutPos : Nat
  mirrorPos : Nat
  ahead : Nat
  /-- ACK of the newest shutdown record written (R171, R172). -/
  acked : Bool
  writePos : Nat
  bootCount : Nat
  bootSlotB : Bool
  /-- The images in firmware slots A and B, no byte when erased, and whether the image in force is that of slot B
  (R280, R283, R307). -/
  imgA : List Nat
  imgB : List Nat
  forceB : Bool
  /-- The two copies of each store, with whether its CRC passes, and the copy that is the valid one: true for B (R307, R308). -/
  configs : List (ConfigStore × Bool)
  cals : List (CalStore × Bool)
  configB : Bool
  calB : Bool
  badBlocks : List Nat
  blockErases : List (Nat × Nat)
  /-- The next pool block has been checked blank (R369). -/
  notBlank : Bool
  /-- Tokens per event code (unlisted: 8) and of the wafer bucket (R314). -/
  tokens : List (Nat × Nat)
  waferTokens : Nat
  /-- Tick of the latest refill (R314). -/
  refillTick : Nat
  suppressed : List (Nat × Nat)
  /-- Erases waiting, by the codes of `erasing`. -/
  eraseQueue : List Nat
  /-- Header records of copies A and B, newest first, and the next header's sequence number (R308). -/
  hdrA : List MonRec
  hdrB : List MonRec
  hdrSeq : Nat
  deriving DecidableEq, Repr

def Monument.reset : Monument :=
  { queue := [], busy := none, retry := false, erasing := 0, suspended := false, noErase := false, pool := [], firstN := []
    shutdowns := [], lastFaults := [], lfPos := [], mirror := [], shutPos := 0, mirrorPos := 0, ahead := 256, acked := true, writePos := 0, bootCount := 0, bootSlotB := false
    imgA := [], imgB := [], forceB := false, configs := [(ConfigStore.blank, true), (ConfigStore.blank, false)]
    cals := [(CalStore.blank, true), (CalStore.blank, false)], configB := false, calB := false, badBlocks := [], blockErases := []
    notBlank := false, tokens := [], waferTokens := 64, refillTick := 0, suppressed := [], eraseQueue := [], hdrA := [], hdrB := [], hdrSeq := 0 }

/-- Fuses and the two stores: what a reset does not change. -/
structure Nonvol where
  /-- 0 BLANK, 1 MANUFACTURE, 2 DEPLOY, 3 RETURN (R338). -/
  lifecycle : Nat
  waferId : Nat
  grade : Nat
  stepping : Nat
  romVer : Nat
  fusedSvn : Nat
  /-- The fused device secret (R287). -/
  deviceSecret : List Nat
  /-- Fused Vmin code of points 0 to 26; unlisted: not programmed. -/
  vmin : List (Nat × Nat)
  fwKey : Option (List Nat)
  debugKey : Option (List Nat)
  returnKey : Option (List Nat)
  /-- Fused repair entries: memory number, bank, row (R330, R332). -/
  fusedRows : List (Nat × Nat × Nat)
  softRows : List (Nat × Nat × Nat)
  /-- Configuration store: out-of-service fields, datums, CEIL_ST, contour page. -/
  outMap : List Nat
  datums : List (Nat × Nat)
  ceilSt : Nat
  contour : List (Nat × Nat)
  /-- Calibration store: FLOOR0 and IDLE0 per field, cadastre entries, BIST references, grade figures per point. -/
  cal : List (Nat × (Nat × Nat))
  cad : List (Nat × Cad)
  /-- Gain (Q2.14) and offset of each ADC channel (R62): phases 0 to 19, VCORE and VSRAM of field f at 22 f. -/
  chanCal : List (Nat × (Nat × Int))
  bistRef : List (Nat × Nat)
  gradeTab : List (Nat × (Nat × Nat))
  /-- The calibration store has an entry for every slot; one not listed holds the defaults (R432). -/
  cadFull : Bool
  deriving DecidableEq, Repr

/-- An unprogrammed part with empty stores; CEIL_ST 28.0 kW (Table 4.2). (DESIGN CHOICE, log entry 6.) -/
def Nonvol.blank : Nonvol :=
  { lifecycle := 0, waferId := 0, grade := 0, stepping := 0, romVer := 0, fusedSvn := 0, deviceSecret := [], vmin := [], fwKey := none, debugKey := none
    returnKey := none, fusedRows := [], softRows := [], outMap := [], datums := [], ceilSt := 2800, contour := [], cal := []
    cad := [], chanCal := [], bistRef := [], gradeTab := [], cadFull := false }

/-! ### The hub -/

/-- One entry of the fault history queue (R304). -/
structure HistEntry where
  tick : Nat
  offset : Nat
  source : Nat
  field : Nat
  cls : Nat
  after : Nat
  detail : Nat
  seqNo : Nat
  deriving DecidableEq, Repr

/-- An edge of the wait-for graph (Table 6.7). -/
structure Edge where
  src : Nat
  dst : Nat
  kind : Nat
  detailA : Nat
  detailB : Nat
  deriving DecidableEq, Repr

/-- The wait-for graph at hub SRAM 0x20_0000 (Table 6.5). -/
structure Graph where
  /-- Capture tick per field. -/
  captures : List (Nat × Nat)
  /-- Edges of each field as captured, while a build runs. -/
  sections : List (Nat × List Edge)
  edges : List Edge
  deriving DecidableEq, Repr

/-- A page image of SRAM under march or repair (R330 to R336). -/
structure MemSt where
  /-- Repair entries: bank, row, fused. -/
  repairs : List (Nat × Nat × Bool)
  /-- Scrub: word of the last correction per sweep, and words with an uncorrectable error already raised. -/
  fixedWords : List Nat
  fixedBefore : List Nat
  ueWords : List Nat
  /-- Rows that the owner is to repair (R329): bank, row. -/
  repairDue : List (Nat × Nat)
  ceRaised : Bool
  marching : Bool
  destructive : Bool
  failing : List (Nat × Nat)
  repaired : Nat
  unrepaired : Nat
  /-- Segments tested in this pass, the shadow's first (R334), and the tick before which the next one is not tested (R335). -/
  seg : Nat
  segDue : Nat
  deriving DecidableEq, Repr

def MemSt.reset : MemSt :=
  { repairs := [], fixedWords := [], fixedBefore := [], ueWords := [], repairDue := [], ceRaised := false, marching := false, destructive := false
    failing := [], repaired := 0, unrepaired := 0, seg := 0, segDue := 0 }

/-- What the hub holds beside its registers and the collections above. -/
structure Hub where
  /-- Latest field reports, and which arrived in this tick. -/
  reports : List (Nat × Report)
  arrived : List Nat
  /-- Fields whose report of this tick failed its CRC, which is counted (R21, R37). -/
  reportBad : List Nat
  /-- Budgets of the last division and whether its frames were sent: give per field, reason. -/
  gives : List (Nat × Nat)
  reason : Nat
  framesSent : Bool
  /-- p_w entries, newest first, mW, and the tick of the newest (R84, R85). -/
  pw : List Nat
  pwTick : Nat
  /-- Planned p_w of the last division, mW. -/
  planned : Nat
  /-- Flow supervision (R166, R167). -/
  flowLow : Nat
  tachLowTicks : Nat
  tachEdges : List Nat
  tachLast : Nat
  /-- Mark at which flow was last found lost, with the detail of Table 13.1; consecutive good samples, and the mark at which
  a good span reached FLOW_RESTORE (R167). -/
  flowLost : Option (Nat × Nat)
  goodSpan : Nat
  restoreAt : Option Nat
  rundownFrom : Option Nat
  /-- Fault collector: ticks of recent events per source, ticks of the last eight recoveries, quiet period start. -/
  events : List (Nat × List Nat)
  latest : List (Nat × Nat)
  recoveries : List Nat
  quietFrom : Nat
  severeAt : Option Nat
  hist : List HistEntry
  engErrHigh : Bool
  /-- Lease: tick of the last LEASE per port, and whether the last lease had expired. -/
  leaseTick : List (Nat × Nat)
  leaseExpired : List Nat
  /-- Journal: appended (newest last), staged. -/
  journal : List JEntry
  staged : List JEntry
  /-- Contour: pending steps, selected datums' owner taken over. -/
  steps : List Step
  /-- Steps received while two were pending, oldest first (R207). -/
  waitSteps : List Step
  stepIdNext : Nat
  takenOver : Bool
  clockOn : Bool
  /-- Tick of the latest contour step (R104). -/
  stepTick : Option Nat
  /-- The point in force before that step (R191). -/
  stepOld : Nat
  /-- Boundaries at which plumb mode is due to begin and to end (R222). -/
  plumbDue : Option Nat
  plumbOffAt : Option Nat
  /-- Plumb mode was on in the tick before (R224). -/
  plumbLast : Bool
  /-- Points that members have asked for, and the tick of the last policy evaluation (R25, R212). -/
  requests : List Nat
  policyTick : Option Nat
  /-- The group's point that a joining member steps to (R210). -/
  joinPoint : Option Nat
  /-- Identifiers of the group's other wafers that frames have named here (R209). -/
  known : List Nat
  /-- On the owner: the STEP_DONEs received for the last step and the pending ones: STEP_ID, skew, wafer (R216). -/
  dones : List (Nat × Int × Nat)
  /-- On the owner: ports known to be DOWN in a freeze, and THAWs received (R221). -/
  lostLinks : Nat
  thaws : Nat
  /-- Halt: scheduled tick, release tick, wires, source of the pending port. -/
  sched : Option Nat
  release : Option Nat
  wires : Bool
  haltWanted : Option Nat
  forcedQ : Bool
  /-- Tickets. -/
  wq : List WqEntry
  wqNext : Nat
  grantSeq : Nat
  graph : Graph
  lastBuild : Nat
  built : Bool
  /-- Counters: fields whose report of the tick before arrived, the peaks have been recorded, the tick last counted in
  PLUMB_BREACH. -/
  arrivedLast : List Nat
  /-- Field reports held at the tick mark, and the tick that HUB_COUNTERS counted last (R238). -/
  reportsLast : List (Nat × Report)
  counted : Option Nat
  peakSeen : Bool
  powerSeen : Bool
  breachTick : Option Nat
  /-- Start-up (R349). -/
  bootDone : Bool
  bootFailed : Bool
  /-- A tick mark has come since reset: computed RO fields read their reset values until then. -/
  marked : Bool
  group : Nat
  groupTick : Nat
  rampTick : Nat
  shutHold : Bool
  tripped : Bool
  /-- Snapshot of the shutdown record that the ramp-down writes (R170, R171). -/
  tripRec : Option MonRec
  /-- Firmware: measurement registers, extension counts, activation. -/
  mr : List Nat
  extends_ : List Nat
  mlog : List (Nat × Nat × Nat)
  order : List Nat
  rollback : List Nat
  /-- Processor whose failure started the rollback (R282). -/
  rollFail : Nat
  /-- The rollback has extended MR4 (R286). -/
  rollField : Bool
  ratchet : Bool
  staging : List Staging
  /-- The attestation key pair that the secure region keeps, derived at BOOT; none before that and after a wipe (R287, R341). -/
  attKey : Option (List Nat)
  /-- Hold-up (R318, R370, R371). -/
  pfSince : Option Nat
  pfClear : Nat
  /-- PWR_FAIL_N as last sampled, true when asserted. -/
  pfPin : Bool
  /-- PWR_FAIL_N was sampled asserted again while the sequence runs (R371). -/
  pfAgain : Bool
  /-- Trace DMA: next buffer, byte bucket; wafer trigger reported in this tick, and the one that this tick's budget
  frames broadcast (R249). -/
  nextBuf : Nat
  bucket : Nat
  wtrig : Bool
  wtrigCast : Bool
  wtrigField : Nat
  /-- I3C target (R409 to R412). -/
  dynAddr : Option Nat
  ibiOn : Bool
  ibiPending : Nat
  winErr : Bool
  winAddr : Nat
  ibiEn : Nat
  i3cIndex : Nat
  mwl : Nat
  mrl : Nat
  /-- What the target last drove on the bus, and the last register response: data and error code. -/
  i3cOut : List Nat
  rfData : Nat
  rfErr : Nat
  deriving DecidableEq, Repr

def Hub.reset : Hub :=
  { reports := [], arrived := [], reportBad := [], gives := [], reason := 0, framesSent := false, pw := [], pwTick := 0, planned := 0
    flowLow := 0, tachLowTicks := 0, tachEdges := [], tachLast := 0, flowLost := none, goodSpan := 0, restoreAt := none
    rundownFrom := some 0
    events := [], latest := [], recoveries := [], quietFrom := 0, severeAt := none, hist := []
    engErrHigh := false, leaseTick := [], leaseExpired := [], journal := [], staged := []
    steps := [], waitSteps := [], stepIdNext := 1, takenOver := false, clockOn := false, stepTick := none, stepOld := 0, plumbDue := none, plumbOffAt := none, plumbLast := false
    requests := [], policyTick := none, joinPoint := none, known := [], dones := [], lostLinks := 0, thaws := 0
    sched := none, release := none, wires := true, haltWanted := none, forcedQ := false
    wq := [], wqNext := 0, grantSeq := 0, graph := { captures := [], sections := [], edges := [] }, lastBuild := 0, built := false
    arrivedLast := [], reportsLast := [], counted := none, peakSeen := false, powerSeen := false, breachTick := none
    bootDone := false, bootFailed := false, marked := false, group := 0, groupTick := 0, rampTick := 0
    shutHold := false, tripped := false, tripRec := none
    mr := List.replicate 8 0, extends_ := List.replicate 8 0, mlog := [], order := [], rollback := [], rollFail := 0xFF, rollField := false, ratchet := false
    staging := [], attKey := none, pfSince := none, pfClear := 0, pfPin := false, pfAgain := false
    nextBuf := 84, bucket := 4096, wtrig := false, wtrigCast := false, wtrigField := 0
    dynAddr := none, ibiOn := false, ibiPending := 0, winErr := false, winAddr := 0, ibiEn := 7, i3cIndex := 0
    mwl := 64, mrl := 64, i3cOut := [], rfData := 0, rfErr := 0 }

/-- A fault word on its way to the collector. -/
structure FaultWord where
  src : Nat
  /-- 0 to 83, 255 for the hub. -/
  field : Nat
  detail : Nat
  off : Nat
  deriving DecidableEq, Repr

/-- Levels that the block drives on its pins and lines. True means asserted. -/
structure Pins where
  faultN : Bool
  thermTripN : Bool
  coolRundownN : Bool
  jobRestartReq : Bool
  xspiHighZ : Bool
  /-- SURV_RST_N low. -/
  inReset : Bool
  /-- BAND[2:0] per field; unlisted 0. -/
  band : List (Nat × Nat)
  deriving DecidableEq, Repr

def Pins.reset : Pins :=
  { faultN := false, thermTripN := false, coolRundownN := true, jobRestartReq := false, xspiHighZ := false
    inReset := false, band := [] }

/-- Everything the block holds but wafer time, the SRAM bytes, host memory and the queue. -/
structure Block where
  /-- Register fields: present values and values in force; an unlisted field holds its reset value. -/
  regs : List (Nat × Nat)
  /-- Shadow values of RW fields; an unlisted field holds its reset value (R8). -/
  shadow : List (Nat × Nat)
  /-- Common headers, by 256 * instance + page class. -/
  pages : List (Nat × Page)
  agents : List (Nat × Agent)
  parcels : List (Nat × Parcel)
  cad : List (Nat × Cad)
  sensors : List (Nat × Sensor)
  slots : List (Nat × Slot)
  ctxs : List (Nat × Ctx)
  accounts : List (Nat × Account)
  colls : List (Nat × Coll)
  models : List (Nat × Model)
  fields : List (Nat × FieldUnit)
  rings : List (Nat × Ring)
  rails : List (Nat × RailSt)
  phases : List (Nat × PhaseSt)
  ports : List (Nat × PortSt)
  traces : List (Nat × TraceBuf)
  ties : List (Nat × Tie)
  procs : List (Nat × Proc)
  mems : List (Nat × MemSt)
  mon : Monument
  nv : Nonvol
  hub : Hub
  pins : Pins
  /-- Fault words on their way to the collector, oldest first (R291). -/
  faults : List FaultWord
  /-- The model's own: index of the next free value. No statement rests on it. -/
  free : Nat
  deriving DecidableEq, Repr

/-- The block as SURV_RST_N leaves it: manager state BOOT, every field marked out, halt wires asserted.
(DESIGN CHOICE, log entry 6.) -/
def Block.reset : Block :=
  { regs := [], shadow := [], pages := [], agents := [], parcels := [], cad := []
    sensors := [], slots := [], ctxs := [], accounts := [], colls := [], models := [], fields := [], rings := [], rails := []
    phases := [], ports := [], traces := [], ties := [], procs := [], mems := [], mon := Monument.reset
    nv := Nonvol.blank, hub := Hub.reset, pins := Pins.reset, faults := [], free := 0 }

/-- The WG3. -/
structure State where
  /-- Wafer time: the 48-bit tick counter (R32). -/
  tick : Nat
  /-- SRAM bytes that no collection of the block holds, by window offset; unlisted bytes read 0. -/
  mem : List Host.Cell
  /-- Host memory as the WG3 reads and writes it, by host address; unlisted bytes read 0. -/
  host : List Host.Cell
  b : Block
  /-- Commands that wait, first in, first out. -/
  pending : List Instr
  deriving DecidableEq, Repr

/-- The machine right after SURV_RST_N is released with no strap fitted (BOOT_VSEL pulls down to 0), before the first
tick mark, on an unprogrammed part. -/
def State.reset : State := { tick := 0, mem := [], host := [], b := Block.reset, pending := [] }

end Sys2Proof.Machine
end

