-- ==== Sys2Proof/Machine/Ops.lean ====
section
/-!
DEFINITION. The named operations over the block: its numbered records, register fields (R8), counters, and the
numbering of the collections.
-/

namespace Sys2Proof.Machine

open Sys2Proof

/-! ### Numbered records -/

/-- Agent number `k`. -/
def Block.agent (b : Block) (k : Nat) : Agent := mget Agent.reset b.agents k
/-- Write agent number `k`. -/
def Block.setAgent (b : Block) (k : Nat) (v : Agent) : Block := { b with agents := mput Agent.reset b.agents k v }
/-- Change agent number `k`. -/
def Block.modAgent (b : Block) (k : Nat) (g : Agent → Agent) : Block := b.setAgent k (g (b.agent k))

/-- Parcel number `k`. -/
def Block.parcel (b : Block) (k : Nat) : Parcel := mget Parcel.reset b.parcels k
/-- Write parcel number `k`. -/
def Block.setParcel (b : Block) (k : Nat) (v : Parcel) : Block := { b with parcels := mput Parcel.reset b.parcels k v }
/-- Change parcel number `k`. -/
def Block.modParcel (b : Block) (k : Nat) (g : Parcel → Parcel) : Block := b.setParcel k (g (b.parcel k))

/-- Cadastre entry number `k`. -/
def Block.cadE (b : Block) (k : Nat) : Cad := mget Cad.reset b.cad k
/-- Write cadastre entry number `k`. -/
def Block.setCadE (b : Block) (k : Nat) (v : Cad) : Block := { b with cad := mput Cad.reset b.cad k v }
/-- Change cadastre entry number `k`. -/
def Block.modCadE (b : Block) (k : Nat) (g : Cad → Cad) : Block := b.setCadE k (g (b.cadE k))

/-- Sensor number `k`. -/
def Block.sensor (b : Block) (k : Nat) : Sensor := mget Sensor.reset b.sensors k
/-- Write sensor number `k`. -/
def Block.setSensor (b : Block) (k : Nat) (v : Sensor) : Block := { b with sensors := mput Sensor.reset b.sensors k v }
/-- Change sensor number `k`. -/
def Block.modSensor (b : Block) (k : Nat) (g : Sensor → Sensor) : Block := b.setSensor k (g (b.sensor k))

/-- Ticket slot number `k`. -/
def Block.slot (b : Block) (k : Nat) : Slot := mget Slot.reset b.slots k
/-- Write ticket slot number `k`. -/
def Block.setSlot (b : Block) (k : Nat) (v : Slot) : Block := { b with slots := mput Slot.reset b.slots k v }
/-- Change ticket slot number `k`. -/
def Block.modSlot (b : Block) (k : Nat) (g : Slot → Slot) : Block := b.setSlot k (g (b.slot k))

/-- Job power context number `k`. -/
def Block.ctx (b : Block) (k : Nat) : Ctx := mget Ctx.reset b.ctxs k
/-- Write job power context number `k`. -/
def Block.setCtx (b : Block) (k : Nat) (v : Ctx) : Block := { b with ctxs := mput Ctx.reset b.ctxs k v }
/-- Change job power context number `k`. -/
def Block.modCtx (b : Block) (k : Nat) (g : Ctx → Ctx) : Block := b.setCtx k (g (b.ctx k))

/-- Job account number `k`. -/
def Block.acct (b : Block) (k : Nat) : Account := mget Account.reset b.accounts k
/-- Write job account number `k`. -/
def Block.setAcct (b : Block) (k : Nat) (v : Account) : Block := { b with accounts := mput Account.reset b.accounts k v }
/-- Change job account number `k`. -/
def Block.modAcct (b : Block) (k : Nat) (g : Account → Account) : Block := b.setAcct k (g (b.acct k))

/-- Collection record number `k`. -/
def Block.coll (b : Block) (k : Nat) : Coll := mget Coll.reset b.colls k
/-- Write collection record number `k`. -/
def Block.setColl (b : Block) (k : Nat) (v : Coll) : Block := { b with colls := mput Coll.reset b.colls k v }
/-- Change collection record number `k`. -/
def Block.modColl (b : Block) (k : Nat) (g : Coll → Coll) : Block := b.setColl k (g (b.coll k))

/-- Model buffer number `k`. -/
def Block.model (b : Block) (k : Nat) : Model := mget Model.reset b.models k
/-- Write model buffer number `k`. -/
def Block.setModel (b : Block) (k : Nat) (v : Model) : Block := { b with models := mput Model.reset b.models k v }
/-- Change model buffer number `k`. -/
def Block.modModel (b : Block) (k : Nat) (g : Model → Model) : Block := b.setModel k (g (b.model k))

/-- Field unit number `k`. -/
def Block.fu (b : Block) (k : Nat) : FieldUnit := mget FieldUnit.reset b.fields k
/-- Write field unit number `k`. -/
def Block.setFu (b : Block) (k : Nat) (v : FieldUnit) : Block := { b with fields := mput FieldUnit.reset b.fields k v }
/-- Change field unit number `k`. -/
def Block.modFu (b : Block) (k : Nat) (g : FieldUnit → FieldUnit) : Block := b.setFu k (g (b.fu k))

/-- Parcel ring number `k`. -/
def Block.ring (b : Block) (k : Nat) : Ring := mget Ring.reset b.rings k
/-- Write parcel ring number `k`. -/
def Block.setRing (b : Block) (k : Nat) (v : Ring) : Block := { b with rings := mput Ring.reset b.rings k v }
/-- Change parcel ring number `k`. -/
def Block.modRing (b : Block) (k : Nat) (g : Ring → Ring) : Block := b.setRing k (g (b.ring k))

/-- Rail number `k`. -/
def Block.rail (b : Block) (k : Nat) : RailSt := mget RailSt.reset b.rails k
/-- Write rail number `k`. -/
def Block.setRail (b : Block) (k : Nat) (v : RailSt) : Block := { b with rails := mput RailSt.reset b.rails k v }
/-- Change rail number `k`. -/
def Block.modRail (b : Block) (k : Nat) (g : RailSt → RailSt) : Block := b.setRail k (g (b.rail k))

/-- Phase number `k`. -/
def Block.phase (b : Block) (k : Nat) : PhaseSt := mget PhaseSt.reset b.phases k
/-- Write phase number `k`. -/
def Block.setPhase (b : Block) (k : Nat) (v : PhaseSt) : Block := { b with phases := mput PhaseSt.reset b.phases k v }
/-- Change phase number `k`. -/
def Block.modPhase (b : Block) (k : Nat) (g : PhaseSt → PhaseSt) : Block := b.setPhase k (g (b.phase k))

/-- Command port number `k`. -/
def Block.port (b : Block) (k : Nat) : PortSt := mget PortSt.reset b.ports k
/-- Write command port number `k`. -/
def Block.setPort (b : Block) (k : Nat) (v : PortSt) : Block := { b with ports := mput PortSt.reset b.ports k v }
/-- Change command port number `k`. -/
def Block.modPort (b : Block) (k : Nat) (g : PortSt → PortSt) : Block := b.setPort k (g (b.port k))

/-- Trace buffer number `k`. -/
def Block.trace (b : Block) (k : Nat) : TraceBuf := mget TraceBuf.reset b.traces k
/-- Write trace buffer number `k`. -/
def Block.setTrace (b : Block) (k : Nat) (v : TraceBuf) : Block := { b with traces := mput TraceBuf.reset b.traces k v }
/-- Change trace buffer number `k`. -/
def Block.modTrace (b : Block) (k : Nat) (g : TraceBuf → TraceBuf) : Block := b.setTrace k (g (b.trace k))

/-- Tie-line port number `k`. -/
def Block.tie (b : Block) (k : Nat) : Tie := mget Tie.reset b.ties k
/-- Write tie-line port number `k`. -/
def Block.setTie (b : Block) (k : Nat) (v : Tie) : Block := { b with ties := mput Tie.reset b.ties k v }
/-- Change tie-line port number `k`. -/
def Block.modTie (b : Block) (k : Nat) (g : Tie → Tie) : Block := b.setTie k (g (b.tie k))

/-- Processor number `k`. -/
def Block.proc (b : Block) (k : Nat) : Proc := mget Proc.reset b.procs k
/-- Write processor number `k`. -/
def Block.setProc (b : Block) (k : Nat) (v : Proc) : Block := { b with procs := mput Proc.reset b.procs k v }
/-- Change processor number `k`. -/
def Block.modProc (b : Block) (k : Nat) (g : Proc → Proc) : Block := b.setProc k (g (b.proc k))

/-- SRAM service state number `k`. -/
def Block.memSt (b : Block) (k : Nat) : MemSt := mget MemSt.reset b.mems k
/-- Write sRAM service state number `k`. -/
def Block.setMemSt (b : Block) (k : Nat) (v : MemSt) : Block := { b with mems := mput MemSt.reset b.mems k v }
/-- Change sRAM service state number `k`. -/
def Block.modMemSt (b : Block) (k : Nat) (g : MemSt → MemSt) : Block := b.setMemSt k (g (b.memSt k))

/-- Page header number `k`. -/
def Block.page (b : Block) (k : Nat) : Page := mget Page.reset b.pages k
/-- Write page header number `k`. -/
def Block.setPage (b : Block) (k : Nat) (v : Page) : Block := { b with pages := mput Page.reset b.pages k v }
/-- Change page header number `k`. -/
def Block.modPage (b : Block) (k : Nat) (g : Page → Page) : Block := b.setPage k (g (b.page k))

/-- Change what the hub holds beside its registers. -/
def Block.modHub (b : Block) (g : Hub → Hub) : Block := { b with hub := g b.hub }
/-- Change the monument. -/
def Block.modMon (b : Block) (g : Monument → Monument) : Block := { b with mon := g b.mon }
/-- Change the non-volatile state. -/
def Block.modNv (b : Block) (g : Nonvol → Nonvol) : Block := { b with nv := g b.nv }
/-- Change the pins. -/
def Block.modPins (b : Block) (g : Pins → Pins) : Block := { b with pins := g b.pins }

/-! ### Register fields (R7, R8) -/

/-- The present value of a field, or for an RW field the value in force. -/
def Block.rd (b : Block) (fd : Fld) (i : Nat) : Nat := lowBits fd.width (mget fd.reset b.regs (fd.key i))
/-- Set the present value: the field keeps its own bits of `v`. -/
def Block.wr (b : Block) (fd : Fld) (i v : Nat) : Block :=
  { b with regs := mput fd.reset b.regs (fd.key i) (lowBits fd.width v) }
/-- The shadow value of an RW field (R8). -/
def Block.rdS (b : Block) (fd : Fld) (i : Nat) : Nat := lowBits fd.width (mget fd.reset b.shadow (fd.key i))
/-- Write the shadow value. -/
def Block.wrS (b : Block) (fd : Fld) (i v : Nat) : Block :=
  { b with shadow := mput fd.reset b.shadow (fd.key i) (lowBits fd.width v) }
/-- Read a one-bit field. -/
def Block.bit (b : Block) (fd : Fld) (i : Nat) : Bool := b.rd fd i == 1
/-- Set or clear a one-bit field. -/
def Block.wrB (b : Block) (fd : Fld) (i : Nat) (v : Bool) : Block := b.wr fd i v.toNat
/-- Count `n` events; the counter wraps at its width. (PRESUMED, log entry 14.) -/
def Block.add (b : Block) (fd : Fld) (i n : Nat) : Block := b.wr fd i (b.rd fd i + n)
/-- Count one event. -/
def Block.inc (b : Block) (fd : Fld) (i : Nat) : Block := b.add fd i 1
/-- Count `n` events; the counter stops at its greatest value. -/
def Block.addSat (b : Block) (fd : Fld) (i n : Nat) : Block :=
  b.wr fd i (min (2 ^ fd.width - 1) (b.rd fd i + n))
/-- Read a signed field. -/
def Block.rdZ (b : Block) (fd : Fld) (i : Nat) : Int := ofCode fd.width (b.rd fd i)
/-- Write a signed field. -/
def Block.wrZ (b : Block) (fd : Fld) (i : Nat) (v : Int) : Block := b.wr fd i (toCode fd.width v)
/-- Raise a field to `v` when `v` is greater. -/
def Block.raise (b : Block) (fd : Fld) (i v : Nat) : Block := if b.rd fd i < v then b.wr fd i v else b
/-- Read bit `k` of a field. -/
def Block.flag (b : Block) (fd : Fld) (i k : Nat) : Bool := (b.rd fd i).testBit k
/-- Set or clear bit `k` of a field. -/
def Block.setFlag (b : Block) (fd : Fld) (i k : Nat) (v : Bool) : Block :=
  b.wr fd i (if v then b.rd fd i ||| 2 ^ k else b.rd fd i &&& (2 ^ fd.width - 1 - 2 ^ k))
/-- Read a 64-bit value held as two registers, low word first (R7). -/
def Block.rd2 (b : Block) (lo hi : Fld) (i : Nat) : Nat := b.rd lo i + 2 ^ lo.width * b.rd hi i
/-- Write a 64-bit value held as two registers. -/
def Block.wr2 (b : Block) (lo hi : Fld) (i v : Nat) : Block := (b.wr lo i v).wr hi i (v / 2 ^ lo.width)
/-- Add to a 64-bit value held as two registers. -/
def Block.add2 (b : Block) (lo hi : Fld) (i v : Nat) : Block := b.wr2 lo hi i (b.rd2 lo hi i + v)

/-- The next state of a command whose effect stays within the block: `g` is given wafer time. -/
def onB (s : State) (g : Nat → Block → Block) : Host.Outcome State Fault Refusal := .next { s with b := g s.tick s.b }

/-- Carry `g` out only when `c` holds. -/
def Block.cond (b : Block) (c : Bool) (g : Block → Block) : Block := if c then g b else b

/-- A quotient, floored; free where the divisor is 0 and the spec states no value (log entry 127). -/
def quot (site a d : Nat) : Nat := if d = 0 then Config.unstated site a else a / d

/-- Carry `g` out for each element in turn. -/
def Block.each {α : Type} (b : Block) (l : List α) (g : Block → α → Block) : Block := l.foldl g b

/-- Keys of the listed entries of a collection: every other entry is as at reset. -/
def keysOf {α : Type} (m : List (Nat × α)) : List Nat := m.map Prod.fst

/-- Keys listed within `[lo, lo + n)`. -/
def keysIn {α : Type} (m : List (Nat × α)) (lo n : Nat) : List Nat :=
  (keysOf m).filter (fun k => decide (lo ≤ k) && decide (k < lo + n))

/-- The 84 fields. -/
def allFields : List Nat := List.range 84
/-- The 672 slots of a field. -/
def allSlots : List Nat := List.range 672

/-- A field is marked out (R29). -/
def Block.isOut (b : Block) (f : Nat) : Bool := b.bit F_ID.MARKED_OUT f
/-- Fields in service, ascending. -/
def Block.inService (b : Block) : List Nat := allFields.filter (fun f => !b.isOut f)
/-- The manager state of Table 16.5. -/
def Block.mgr (b : Block) : Nat := b.rd HUB_STATE.MGR_STATE 0

/-- A halt in force (R257, R258): HALTED, or RELEASING until its release tick. -/
def Block.haltInForce (b : Block) : Bool := b.rd HUB_HALT.STATE 0 == 3 || b.rd HUB_HALT.STATE 0 == 4
/-- The manager state whose condition holds first in the order of Table 16.5 (R383). START_PHASE is the phase of Table 15.1. -/
def Block.mgrNow (b : Block) : Nat :=
  let ph := b.rd HUB_STATE.START_PHASE 0
  if 1 ≤ ph ∧ ph ≤ 4 then 1
  else if ph = 5 then 2
  else if b.hub.tripped || b.hub.shutHold then 8
  else if 6 ≤ ph then 3
  else if b.rd HUB_FAULT.STATE 0 = 2 then 7
  else if b.haltInForce then 6
  else if b.ctxs.any (fun e => e.2.st != 0) then 5
  else 4
/-- Enter the manager state that the conditions give (Tables 16.5 and 16.11). -/
def Block.evalMgr (b : Block) (now : Nat) : Block :=
  let st := b.mgrNow
  if b.mgr = st then b
  else (((b.wr HUB_STATE.PREV_STATE 0 b.mgr).wr HUB_STATE.MGR_STATE 0 st).wr HUB_STATE.STATE_TICK 0 now).inc HUB_STATE.STATE_CHANGES 0

/-- The next free value (one per use). (DESIGN CHOICE, log entry 10.) -/
def Block.fresh (b : Block) : Nat × Block := (Config.freeNat b.free, { b with free := b.free + 1 })

/-- Slot flagged ACTIVE in the cadastre (Table 18.8). -/
def Block.active (b : Block) (f s : Nat) : Bool := (b.cadE (f * 672 + s)).flag == 0
/-- Slot flagged DEAD; flag 3 is treated as DEAD (Table 18.8). -/
def Block.dead (b : Block) (k : Nat) : Bool := decide (2 ≤ (b.cadE k).flag)
/-- Active slots of a field, ascending. -/
def Block.actives (b : Block) (f : Nat) : List Nat := allSlots.filter (fun s => b.active f s)

/-- Engine frequency of the contour point in force, in MHz (R202); the point stands in HUB_LOCK.POINT. -/
def Block.point (b : Block) : Nat := b.rd HUB_LOCK.POINT 0
def Block.mhz (b : Block) : Nat := 600 + 25 * b.point
/-- Engine cycles of a tick: engine edges at or after its start and before its end (R34). -/
def Block.ecOfTick (b : Block) : Nat := if b.hub.clockOn then (2048 * b.mhz + 999) / 1000 else 0

/-- Voltage of the datum selected on a rail, 0.25 mV (R184). -/
def Block.datumV (b : Block) (f rl : Nat) : Nat := 2000 + 20 * b.rd (F_RAIL.DATUM rl (b.rd (F_RAIL.VSEL rl) f)) f
/-- The rail pair of a field is on. -/
def Block.railsOn (b : Block) (f : Nat) : Bool := b.bit (F_RAIL.ON 1) f

/-! ### Numbering -/

/-- Global parcel index (R3). -/
def pid (f s : Nat) : Nat := f * 672 + s
/-- Ticket slot number over the wafer. -/
def tid (f s : Nat) : Nat := f * 1024 + s
/-- Ring of the parcel (R23). -/
def ringOf (f s : Nat) : Nat := 12 * f + s / 56
/-- Rail number. -/
def railOf (f r : Nat) : Nat := 2 * f + r
/-- Phase number. -/
def phOf (f p : Nat) : Nat := 20 * f + p
/-- Sensor numbers: parcel sensors, group spares, benchmarks. -/
def senParcel (f s : Nat) : Nat := 1024 * f + s
def senSpare (f g : Nat) : Nat := 1024 * f + 700 + g
def senBench (f k : Nat) : Nat := 1024 * f + 900 + k

/-! ### Fault words (R291) -/

/-- Send one event of a source toward the collector; `field` is 255 for the hub. -/
def Block.fault (b : Block) (src field detail off : Nat) : Block :=
  let b := if field < 84 then b.modFu field (fun u => { u with faultNow := mmod 0 u.faultNow src (· + 1) }) else b
  { b with faults := b.faults ++ [{ src := src, field := field, detail := lowBits 16 detail, off := off }] }

/-! ### Page errors (R421) -/

/-- Set bit `k` of PAGE_ERR of a page. (DEDUCED, log entry 36.) -/
def Block.pageErr (b : Block) (key k : Nat) : Block :=
  b.modPage key (fun p => { p with err := p.err ||| 2 ^ k })

/-- The key of a page: 256 times the instance and the class byte. -/
def pageKey (cls inst : Nat) : Nat := 256 * inst + cls

/-- Class byte and instance of a page (Table 18.3). -/
def pageCls : PageId → Nat
  | .hub i => 0x10 + i.val
  | .field _ i => 0x40 + i.val
def pageInst : PageId → Nat
  | .hub _ => 0
  | .field f _ => f.val

end Sys2Proof.Machine
end

