-- ==== Sys2Proof/Machine/Flags.lean ====
section
/-!
DEFINITION. The interrupt levels that follow register bits: MGR_IRQ[3:0] (R377, R403).
-/

namespace Sys2Proof.Machine

open Sys2Proof

/-- The levels of MGR_IRQ[3:0] (R377, R403). -/
def Block.irqPins (b : Block) : Nat :=
  (if b.rd HUB_STATE.CMP 0 &&& b.rd HUB_STATE.IRQ_EN_CMP 0 ≠ 0 then 1 else 0) +
  (if b.bit HUB_STATE.FAULT 0 && b.flag HUB_STATE.IRQ_EN 0 0 then 2 else 0) +
  (if b.bit HUB_STATE.THERMAL 0 && b.flag HUB_STATE.IRQ_EN 0 1 then 4 else 0) +
  (if b.bit HUB_STATE.DRAIN 0 && b.flag HUB_STATE.IRQ_EN 0 2 then 8 else 0)

end Sys2Proof.Machine
end

