-- ==== Sys2Proof/Machine/Ranges.lean ====
section
/-!
DEFINITION. The ranges and orders that a commit must keep, page by page (R58 to R320): the check of R422 at arrival.
`g` gives the value that the commit would put in force.
-/

namespace Sys2Proof.Machine

open Sys2Proof

/-- `lo ≤ v ≤ hi`. -/
def within (lo hi v : Nat) : Bool := decide (lo ≤ v) && decide (v ≤ hi)

/-- Contour points 0 to 26 are valid (R202). (DEDUCED, log entry 16.) -/
def validPoint (p : Nat) : Bool := decide (p ≤ 26)

/-- HUB_CAP (R83, Table 4.2, Table 4.6). -/
def rangeCap (b : Block) (g : Fld → Nat) : Bool :=
  g HUB_CAP.CEIL_ST == b.rd HUB_CAP.CEIL_ST 0 && within 100 (g HUB_CAP.CEIL_ST) (g HUB_CAP.PCAP_S) &&
  within 100 (g HUB_CAP.CEIL_ST) (g HUB_CAP.PCAP_MS) && g HUB_CAP.HEAD_MODE != 3 && within 0 200 (g HUB_CAP.WAFER_OVH)

/-- F_EST (R74). -/
def rangeEst (g : Fld → Nat) : Bool :=
  within 1 255 (g F_EST.DRIFT_CLEAR_TICKS) && within 1 (g F_EST.DRIFT_PCT) (g F_EST.DRIFT_CLEAR_PCT) &&
  within 1 255 (g F_EST.DRIFT_TICKS) && within 5 100 (g F_EST.DRIFT_PCT) && within 16 255 (g F_EST.DIS_TICKS) &&
  within 20 100 (g F_EST.DIS_PCT) && decide (g F_EST.DRIFT_PCT < g F_EST.DIS_PCT) && within 40 800 (g F_EST.M_FLOOR) &&
  within 58982 65535 (g F_EST.LAMBDA)

/-- F_LIMIT (R80, Tables 4.1 and 4.3): ranges in 1/4 A and 1/16 mW, and FCL at least STL at least SUS on each rail. -/
def rangeLimit (g : Fld → Nat) : Bool :=
  within 160 2560 (g F_LIMIT.FCL_CORE) && within 160 (g F_LIMIT.FCL_CORE) (g F_LIMIT.STL_CORE) &&
  within 160 (g F_LIMIT.STL_CORE) (g F_LIMIT.SUS_CORE) && within 16 640 (g F_LIMIT.FCL_SRAM) &&
  within 16 (g F_LIMIT.FCL_SRAM) (g F_LIMIT.STL_SRAM) && within 16 (g F_LIMIT.STL_SRAM) (g F_LIMIT.SUS_SRAM) &&
  within 400 6400 (g F_LIMIT.FPL) && decide (g F_LIMIT.IDLE_P ≤ 8000) && decide (1600 ≤ g F_LIMIT.DYN_MAX) &&
  decide (g F_LIMIT.PP_DENSE ≤ 32000) && decide (g F_LIMIT.PP_SPARSE ≤ 32000) && decide (g F_LIMIT.PP_COMPAT ≤ 32000) &&
  decide (g F_LIMIT.PP_VECTOR ≤ 32000) && decide (g F_LIMIT.PP_MOVE ≤ 32000)

/-- F_ISSUE (Table 4.8). -/
def rangeIssue (g : Fld → Nat) : Bool := within 1 64 (g F_ISSUE.FIXED_Q) && within 1 4 (g F_ISSUE.RISE_STEP)

/-- F_DROOP (R123). -/
def rangeDroop (g : Fld → Nat) : Bool :=
  within 16 255 (g F_DROOP.RELEASE_EC) && within 4 40 (g F_DROOP.T1_MARGIN) && decide (2 ≤ g F_DROOP.T2_MARGIN) &&
  decide (g F_DROOP.T2_MARGIN + 2 ≤ g F_DROOP.T1_MARGIN) && within 32 1023 (g F_DROOP.IDLE_EC) &&
  within 256 1536 (g F_DROOP.SHAPE_TIME) && g F_DROOP.SHAPE_TIME % 32 == 0 && within 32 640 (g F_DROOP.STEP_BUDGET) &&
  within 1 2 (g F_DROOP.STAGGER_MAX) && within 1 255 (g F_DROOP.WIDE_HOLD) &&
  decide (g F_DROOP.T2_CLEAR ≤ g F_DROOP.T2_RATE_MAX) && within 1 255 (g F_DROOP.T2_RATE_MAX)

/-- F_THERM (R159, Table 7.3, Table 7.7). -/
def rangeTherm (g : Fld → Nat) : Bool :=
  decide (g F_THERM.WARN_C + 5 ≤ g F_THERM.THROT_C) && decide (g F_THERM.THROT_C + 5 ≤ g F_THERM.SHUT_C) &&
  within 60 120 (g F_THERM.WARN_C) && within 70 125 (g F_THERM.THROT_C) && within 90 130 (g F_THERM.SHUT_C) &&
  within 1 15 (g F_THERM.WARN_HYS) && within 1 15 (g F_THERM.THROT_HYS) && within 16 128 (g F_THERM.BROKEN_DEV) &&
  within 0 1024 (g F_THERM.THETA) && within 16 65535 (g F_THERM.STUCK_READS) &&
  within 4 255 (g F_THERM.VALIDATE_READS)

/-- Greatest datum code of a rail (R184). -/
def codeMax (rl : Nat) : Nat := if rl = 0 then 90 else 100

/-- F_VCORE and F_VSRAM (R201, R184). -/
def rangeRail (rl : Nat) (g : Fld → Nat) : Bool :=
  within 1 16 (g (F_RAIL.SLEW rl)) && within 300 1000 (g (F_RAIL.FSW rl)) &&
  within 12288 20480 (g (F_RAIL.KTRIM rl)) && within 4 40 (g (F_RAIL.RAMP_MV rl)) && within 50 200 (g (F_RAIL.OV_MV rl)) &&
  within 25 150 (g (F_RAIL.UV_MV rl)) && within 10 60 (g (F_RAIL.PG_MV rl)) && within 10 60 (g (F_RAIL.BRAKE_ON_MV rl)) &&
  decide (2 ≤ g (F_RAIL.BRAKE_OFF_MV rl)) && decide (g (F_RAIL.BRAKE_OFF_MV rl) + 4 ≤ g (F_RAIL.BRAKE_ON_MV rl)) &&
  decide (2 ≤ g (F_RAIL.SHED_A rl)) && decide (2 * g (F_RAIL.SHED_A rl) ≤ g (F_RAIL.ADD_A rl)) &&
  within 8 50 (g (F_RAIL.ADD_A rl)) && within 100 4000 (g (F_RAIL.SS_TIME rl)) && within 16 255 (g (F_RAIL.DWELL rl)) &&
  (if rl = 0 then within 2 16 (g (F_RAIL.MIN_PHASES rl)) else within 1 4 (g (F_RAIL.MIN_PHASES rl))) &&
  within 20 60 (g (F_RAIL.OC_LIMIT rl)) && within 10 (g (F_RAIL.OC_LIMIT rl)) (g (F_RAIL.OC_FOLD rl)) &&
  (List.range 6).all (fun k => decide (g (F_RAIL.DATUM rl (k + 2)) ≤ codeMax rl))

/-- Phases of a rail: its first phase number and its count. -/
def railPhases (rl : Nat) : List Nat := if rl = 0 then List.range 16 else (List.range 4).map (· + 16)

/-- F_PHASE (R201): ranges, and at least MIN_PHASES phases of each rail left enabled. -/
def rangePhase (b : Block) (f : Nat) (g : Fld → Nat) : Bool :=
  within 90 150 (g F_PHASE.OT_C) && within 2 30 (g F_PHASE.OT_HYS) && within 1 8 (g F_PHASE.BAL_STEP) &&
  within 4 1024 (g F_PHASE.OC_CYCLES) &&
  [0, 1].all (fun rl => decide (b.rd (F_RAIL.MIN_PHASES rl) f ≤
    ((railPhases rl).filter (fun p => !(g F_PHASE.PHASE_DISABLE).testBit p)).length))

/-- F_TICKET (R150). -/
def rangeTicket (g : Fld → Nat) : Bool :=
  within 1 65535 (g F_TICKET.POOL_MAX) && within 1 4096 (g F_TICKET.CHARGE_MAX) && within 16 65535 (g F_TICKET.AGE_LIMIT) &&
  within 1 4096 (g F_TICKET.FIXED_REFILL) && within 1 65535 (g F_TICKET.START_TIMEOUT) &&
  within 1 96 (g F_TICKET.REPRESENT_MAX)

/-- HUB_TRACE and F_TRACE (R263). -/
def rangeHubTrace (g : Fld → Nat) : Bool :=
  within 16 800 (g HUB_TRACE.DRAIN_RATE) && within 16 30 (g HUB_TRACE.RING_LOG2) && within 1 15 (g HUB_TRACE.IRQ_FILL) &&
  g HUB_TRACE.HUB_POLICY != 3
def rangeTrace (g : Fld → Nat) : Bool := g F_TRACE.POLICY != 3

/-- HUB_CONTOUR (R226, R222): valid points, plumb power within CEIL_ST. -/
def rangeContour (b : Block) (g : Fld → Nat) : Bool :=
  within 100 (b.rd HUB_CAP.CEIL_ST 0) (g HUB_CONTOUR.PLUMB_POWER) && validPoint (g HUB_CONTOUR.PLUMB_POINT) &&
  validPoint (g HUB_CONTOUR.BOOT_POINT) && (List.range 32).all (fun k => decide (g (HUB_CONTOUR.VSRAM_CODE k) ≤ 100))

/-- HUB_FAULT (R320): windows at least 1; a fixed policy cannot change (R294), and a free N lies within 1 to 15. -/
def rangeFault (b : Block) (g : Fld → Nat) : Bool :=
  (List.range 32).all (fun k =>
    decide (1 ≤ g (HUB_FAULT.WINDOW k)) &&
    (if fixedSource k then g (HUB_FAULT.WINDOW k) == b.rd (HUB_FAULT.WINDOW k) 0 else decide (1 ≤ g (HUB_FAULT.N k))))

/-- HUB_FW, HUB_MEM, F_MEM, F_BIST. -/
def rangeFw (g : Fld → Nat) : Bool :=
  within 4096 65535 (g HUB_FW.HOLD_TICKS) && within 1024 65535 (g HUB_FW.PROBATION) && within 256 8192 (g HUB_FW.WDT_TICKS) &&
  within 1 15 (g HUB_FW.COMP_LIMIT)
def rangeHubMem (g : Fld → Nat) : Bool := decide (1 ≤ g HUB_MEM.CE_LIMIT) && within 4 1024 (g HUB_MEM.MARCH_PERIOD)
def rangeMem (g : Fld → Nat) : Bool := decide (1 ≤ g F_MEM.CE_LIMIT) && within 4 1024 (g F_MEM.MARCH_PERIOD)
def rangeBist (g : Fld → Nat) : Bool :=
  within 8 64 (g F_BIST.SENSOR_TOL) && within 1 20 (g F_BIST.ADC_TOL) && within 1 10 (g F_BIST.IMON_TOL)

/-- Does a commit of page `(cls, inst)` keep every range and order of its chapter? -/
def rangeOk (b : Block) (cls inst : Nat) (g : Fld → Nat) : Bool :=
  match cls with
  | 0x17 => within 100 10000 (g HUB_LEASE.LEASE_TIMEOUT)
  | 0x18 => rangeFault b g
  | 0x1C => rangeCap b g
  | 0x1D => within 64 4096 (g HUB_LOCK.ANNOUNCE_LEAD) && within 32 4096 (g HUB_LOCK.LOCAL_LEAD)
  | 0x1E => within 1100 65535 (g HUB_TIE.SILENCE_TICKS)
  | 0x1F => rangeHubTrace g
  | 0x20 => within 64 4095 (g HUB_HALT.ACK_EC_MAX) && within 4 4096 (g HUB_HALT.HALT_LEAD)
  | 0x21 => rangeFw g
  | 0x23 => rangeHubMem g
  | 0x25 => within 0 1000 (g HUB_COOL.TACH_MIN) && within 5 100 (g HUB_COOL.FLOW_PCT) &&
      within 30 600 (g HUB_COOL.RUNDOWN_S) && within 100 60000 (g HUB_COOL.FLOW_RESTORE)
  | 0x26 => within 256 65535 (g HUB_WAITFOR.HANG_TICKS) && decide (4096 ≤ g HUB_WAITFOR.REBUILD_MIN)
  | 0x27 => within 64 65535 (g HUB_TICKET.SHARE_PERIOD)
  | 0x28 => rangeContour b g
  | 0x41 => rangeEst g
  | 0x43 => rangeLimit g
  | 0x44 => rangeIssue g
  | 0x45 => rangeDroop g
  | 0x46 => rangeTherm g
  | 0x47 => rangeRail 0 g
  | 0x48 => rangeRail 1 g
  | 0x49 => rangePhase b inst g
  | 0x4A => rangeTicket g
  | 0x4B => rangeTrace g
  | 0x4D => rangeMem g
  | 0x4E => rangeBist g
  | _ => true

/-- The fields of a page body, by class byte. -/
def pageFlds (cls : Nat) : List Fld :=
  match cls with
  | 0x10 => HUB_ID.flds | 0x11 => HUB_TICK.flds | 0x12 => HUB_STATE.flds
  | 0x13 => HUB_CMD.flds 0 | 0x14 => HUB_CMD.flds 1 | 0x15 => HUB_CMD.flds 2
  | 0x16 => HUB_JOURNAL.flds | 0x17 => HUB_LEASE.flds | 0x18 => HUB_FAULT.flds | 0x19 => HUB_MONUMENT.flds
  | 0x1A => HUB_ACCOUNT.flds | 0x1B => HUB_COUNTERS.flds | 0x1C => HUB_CAP.flds | 0x1D => HUB_LOCK.flds
  | 0x1E => HUB_TIE.flds | 0x1F => HUB_TRACE.flds | 0x20 => HUB_HALT.flds | 0x21 => HUB_FW.flds
  | 0x22 => HUB_SEC.flds | 0x23 => HUB_MEM.flds | 0x24 => HUB_THERM.flds | 0x25 => HUB_COOL.flds
  | 0x26 => HUB_WAITFOR.flds | 0x27 => HUB_TICKET.flds | 0x28 => HUB_CONTOUR.flds
  | 0x40 => F_ID.flds | 0x41 => F_EST.flds | 0x42 => F_MODEL.flds | 0x43 => F_LIMIT.flds | 0x44 => F_ISSUE.flds
  | 0x45 => F_DROOP.flds | 0x46 => F_THERM.flds | 0x47 => F_RAIL.flds 0 | 0x48 => F_RAIL.flds 1 | 0x49 => F_PHASE.flds
  | 0x4A => F_TICKET.flds | 0x4B => F_TRACE.flds | 0x4C => F_FW.flds | 0x4D => F_MEM.flds | 0x4E => F_BIST.flds
  | 0x4F => F_COUNTERS.flds
  | _ => []

/-- The RW fields of a page: what a commit captures (R39). Empty on the pages of R423. -/
def pageRw (cls : Nat) : List Fld := (pageFlds cls).filter (fun x => x.access = .rw)

end Sys2Proof.Machine
end

