-- ==== Sys2Proof/Machine/Codes.lean ====
section
/-!
DEFINITION. Byte order and checksums: little-endian fields of a record, CRC-32C (event records, journal digests, model
images) and CRC-64 over ECMA-182 (self-test signatures).
-/

namespace Sys2Proof.Machine

open Sys2Proof

/-- `n` bytes of `v`, least significant first. -/
def leBytes : Nat → Nat → List Nat
  | 0, _ => []
  | n + 1, v => v % 256 :: leBytes n (v / 256)

/-- The number that bytes spell, least significant first. -/
def leNat : List Nat → Nat
  | [] => 0
  | x :: r => x + 256 * leNat r

/-- Bytes `[at, at + n)` of a list, zeros past its end. -/
def sliceAt (l : List Nat) (off n : Nat) : List Nat := (List.range n).map (fun k => l.getD (off + k) 0)

/-- The little-endian number of `n` bytes at `off`. -/
def fieldAt (l : List Nat) (off n : Nat) : Nat := leNat (sliceAt l off n)

/-- One bit step of a reflected 32-bit CRC over polynomial `poly`. -/
def crc32Bit (poly c : Nat) : Nat := if c % 2 = 1 then (c / 2) ^^^ poly else c / 2

/-- One byte step. -/
def crc32Byte (poly c x : Nat) : Nat := (List.range 8).foldl (fun a _ => crc32Bit poly a) (c ^^^ (x % 256))

/-- CRC-32C (PRESUMED: Castagnoli polynomial reflected, ones in, ones out). (PRESUMED, log entry 11.) -/
def crc32c (bytes : List Nat) : Nat :=
  (bytes.foldl (crc32Byte 0x82F63B78) 0xFFFFFFFF) ^^^ 0xFFFFFFFF

/-- One bit step of the CRC-64 over ECMA-182, most significant bit first. -/
def crc64Bit (c : Nat) : Nat :=
  let d := lowBits 64 (2 * c)
  if c.testBit 63 then d ^^^ 0x42F0E1EBA9EA3693 else d

/-- One byte step. -/
def crc64Byte (c x : Nat) : Nat := (List.range 8).foldl (fun a _ => crc64Bit a) (c ^^^ ((x % 256) * 2 ^ 56))

/-- CRC-64 of a byte string with initial value `init`. -/
def crc64 (init : Nat) (bytes : List Nat) : Nat := bytes.foldl crc64Byte init

end Sys2Proof.Machine
end

