-- ==== Sys2Proof/Machine/Records.lean ====
section
/-!
DEFINITION. Writing a record: trace records under the full policy of a buffer (R240 to R249), monument event records
under the token buckets (R309, R314), and log-ring entries (R278).
-/

namespace Sys2Proof.Machine

open Sys2Proof

/-! ### Trace -/

/-- Sources of R241. -/
def srcField (f : Nat) : Nat := 0xFF00 + f
def srcHub : Nat := 0xFFF0

/-- Group bit of an event code (Table 11.2); none for a record that is always written. -/
def traceGroup (code : Nat) : Option Nat :=
  if code ≤ 0x04 then some 0
  else if code = 0x08 ∨ code = 0x09 then some 1
  else if code = 0x10 then some 2
  else if code = 0x11 then some 3
  else if code = 0x12 then some 8
  else if code = 0x13 then some 4
  else if code = 0x14 then some 9
  else if code = 0x20 ∨ code = 0x21 then some 10
  else if code = 0x28 ∨ code = 0x29 ∨ code = 0x2A then some 5
  else if 0x80 ≤ code then some 6
  else none

/-- Capacity, pre-trigger limit and post-trigger count of a buffer (R246, R248). -/
def bufCap (k : Nat) : Nat := if k = 84 then 4096 else 2048
def bufPre (k : Nat) : Nat := if k = 84 then 3071 else 1535
def bufPost (k : Nat) : Nat := if k = 84 then 1024 else 512

/-- CAPTURE, GROUP_EN and POLICY of buffer `k` (84 is the hub buffer). -/
def Block.bufOn (b : Block) (k : Nat) : Bool :=
  if k = 84 then b.bit HUB_TRACE.HUB_CAPTURE 0 else b.bit F_TRACE.CAPTURE k
def Block.bufGroups (b : Block) (k : Nat) : Nat :=
  if k = 84 then b.rd HUB_TRACE.GROUP_EN 0 else b.rd F_TRACE.GROUP_EN k
def Block.bufPolicy (b : Block) (k : Nat) : Nat :=
  if k = 84 then b.rd HUB_TRACE.HUB_POLICY 0 else b.rd F_TRACE.POLICY k

/-- FILL of a buffer (R246). -/
def TraceBuf.fill (t : TraceBuf) : Nat := t.recs.length

/-- Count `n` lost records with AUX bit `x` (R247). -/
def TraceBuf.lose (t : TraceBuf) (n x : Nat) (newest : TraceRec) : TraceBuf :=
  if n = 0 then t else { t with lossCount := t.lossCount + n, lossAux := t.lossAux ||| 2 ^ x, lossTick := newest.tick }

/-- Store a record at the write index. -/
def TraceBuf.store (t : TraceBuf) (cap : Nat) (r : TraceRec) : TraceBuf :=
  { t with
    recs := t.recs ++ [r]
    cells := mput ⟨0, 0, 0, 0, 0, 0, 0⟩ t.cells t.wrIdx r
    wrIdx := (t.wrIdx + 1) % cap }

/-- Store under keep-newest: a full buffer overwrites its oldest undrained record. -/
def TraceBuf.storeNewest (t : TraceBuf) (cap : Nat) (r : TraceRec) : TraceBuf :=
  match t.recs with
  | o :: rest => if cap ≤ t.recs.length then ({ t with recs := rest }.lose 1 0 o).store cap r else t.store cap r
  | [] => t.store cap r

/-- Write one record under the full policy; the second component is whether it was written (R247, R248). -/
def TraceBuf.put (t : TraceBuf) (cap policy : Nat) (r : TraceRec) : TraceBuf × Bool :=
  if policy = 1 then
    if cap ≤ t.recs.length then (t.lose 1 1 r, false) else (t.store cap r, true)
  else if policy = 2 ∧ t.st = 3 then (t.lose 1 1 r, false)
  else if policy = 2 ∧ t.st = 2 then
    let t := t.storeNewest cap r
    ({ t with post := t.post - 1, st := if t.post ≤ 1 then 3 else 2 }, true)
  else (t.storeNewest cap r, true)

/-- Put a buffer back with its counters of lost and written records. -/
def Block.putTrace (b : Block) (k : Nat) (t : TraceBuf) (written : Bool) : Block :=
  let lost := t.lossCount - (b.trace k).lossCount
  let b := b.setTrace k t
  if k = 84 then b.add HUB_TRACE.HUB_LOST 0 lost
  else ((b.add F_TRACE.LOST k lost).add F_TRACE.WRITTEN k written.toNat).raise F_TRACE.HIGH_WATER k t.fill

/-- A trigger of a buffer that captures (R248 steps 2 and 3): kind 0 own match, 1 wafer trigger, 2 command, 3 severe fault.
(DEDUCED, log entry 75.) -/
def Block.triggerOn (b : Block) (now off k kind code parcel first : Nat) : Block :=
  let t := b.trace k
  if t.st = 2 ∨ t.st = 3 then b
  else
    let b := if k = 84 then b else b.wr F_TRACE.TRIG_TICK k now
    if b.bufPolicy k ≠ 2 then b
    else
      let drop := t.fill - bufPre k
      let newest := t.recs.getD (drop - 1) ⟨0, 0, 0, 0, 0, 0, 0⟩
      let t := { t with recs := t.recs.drop drop }.lose drop 2 newest
      let r : TraceRec :=
        { code := 0x39, tick := lowBits 24 now, parcel := if k = 84 then srcHub else srcField k, offset := off
          aux := kind, dataA := code * 2 ^ 24 + parcel, dataB := first }
      let t := t.store (bufCap k) r
      b.putTrace k { t with st := 2, post := bufPost k } true

/-- A trigger of buffer `k`, which nothing triggers while its capture is off. -/
def Block.trigger (b : Block) (now off k kind code parcel first : Nat) : Block :=
  b.cond (b.bufOn k) (fun b => b.triggerOn now off k kind code parcel first)

/-- Does a record written by buffer `k` match its trigger condition (R249)? -/
def Block.trigMatch (b : Block) (k : Nat) (r : TraceRec) : Bool :=
  if k = 84 then
    let m := b.rd HUB_TRACE.HTRIG_MASK 0
    m != 0 && (r.code &&& m) == (b.rd HUB_TRACE.HTRIG_CODE 0 &&& m)
  else
    let m := b.rd F_TRACE.TRIG_MASK k
    let s := b.rd F_TRACE.TRIG_SLOT k
    m != 0 && (r.code &&& m) == (b.rd F_TRACE.TRIG_CODE k &&& m) && (s == 0x3FF || r.parcel == pid k s)

/-- Write a record into buffer `k`; one that was written and matches triggers the buffer, which a field reports when TRIG_SEND is
set (R247, R249). -/
def Block.writeRec (b : Block) (now off k : Nat) (r : TraceRec) : Block :=
  let p := (b.trace k).put (bufCap k) (b.bufPolicy k) r
  let b := b.putTrace k p.1 p.2
  if p.2 && b.trigMatch k r then
    let own := if k = 84 then 0x7F else k
    let running := (b.trace k).st = 1
    let b := b.triggerOn now off k 0 r.code r.parcel own
    if k ≠ 84 ∧ running ∧ b.bit F_TRACE.TRIG_SEND k then b.modFu k (fun u => { u with trigReport := true }) else b
  else b

/-- Write a trace record of an event that took place at `(now, off)`, when capture and its group allow (R243). -/
def Block.record (b : Block) (k now off code parcel aux dataA dataB : Nat) : Block :=
  let allowed := match traceGroup code with
    | some g => (b.bufGroups k).testBit g
    | none => true
  if b.bufOn k = false ∨ allowed = false then b
  else b.writeRec now off k { code := code, tick := lowBits 24 now, parcel := parcel, offset := off, aux := aux
                              dataA := lowBits 32 dataA, dataB := lowBits 32 dataB }

/-- The latest wafer trigger is the hub's own: TRIG_NOW, or a severe fault under TRIG_ON_SEVERE (R249, Table 11.5).
(DEDUCED, log entry 151.) -/
def Block.hubTrigger (b : Block) (now : Nat) : Block := (b.wr HUB_TRACE.TRIG_TICK 0 now).wr HUB_TRACE.TRIG_FIELD 0 0x7F

/-! ### The monument's write queues (R313, R314, R316) -/

/-- The sequence of R318 is running. -/
def Block.holdup (b : Block) : Bool := b.hub.pfSince.isSome

/-- An erase waits, once for each code. (DEDUCED, log entry 94.) -/
def Monument.wantErase (m : Monument) (k : Nat) : Monument :=
  if m.eraseQueue.contains k || m.erasing == k then m else { m with eraseQueue := m.eraseQueue ++ [k] }

/-- Last-fault records of a field that stand in its four slots (R315). -/
def Monument.faultsOf (m : Monument) (f : Nat) : List (Nat × MonRec) := m.lastFaults.filter (fun e => e.1 == f)

/-- The next header goes into copy B: copy A holds the newest one (R308). (DESIGN CHOICE, log entry 92.) -/
def Monument.headerToB (m : Monument) : Bool :=
  let at_ (l : List MonRec) : Nat := ((l.find? (fun r => r.whole)).map (fun r => r.seqNo + 1)).getD 0
  decide (at_ m.hdrB < at_ m.hdrA)

/-- A record of tier 2 or a header has an erased position in its slots or its copy; the others are asked elsewhere. -/
def Monument.hasSlot (m : Monument) (r : MonRec) : Bool :=
  if r.tier = 2 then decide ((m.faultsOf r.source).length < 4)
  else if r.tier = 5 ∧ r.code = 0 then decide ((if m.headerToB then m.hdrB else m.hdrA).length < 256)
  else true

/-- The next event record has an erased position: within a block, or at the first position of an erased one. -/
def Monument.room (m : Monument) : Bool := m.writePos % 1024 != 0 || (decide (1 ≤ m.ahead) && !m.notBlank)

/-- A queued record may be programmed now: tiers 1 and 2 pass a suspended erase, the others wait for its end but for one that
hold-up keeps suspended, and for H1 while it is not in RUN (R276); tiers 4 and 5 stop during hold-up (R316, R318).
(DEDUCED, log entry 112.) -/
def Block.programmable (b : Block) (r : MonRec) : Bool :=
  b.mon.hasSlot r && (decide (r.tier ≤ 2) ||
  ((b.proc 85).st == 0 &&
    ((r.tier == 3 && b.mon.room && (b.mon.erasing == 0 || b.mon.noErase)) ||
     (decide (3 < r.tier) && b.mon.erasing == 0 && !b.holdup))))

/-- The record that the controller serves next: tiers in order, each in order of arrival. (DEDUCED, log entry 112.) -/
def Block.nextProgram (b : Block) : Option MonRec :=
  [1, 2, 3, 4, 5].findSome? (fun t => b.mon.queue.find? (fun r => r.tier == t && b.programmable r))

/-- Give the idle controller its next work: a program, and without one an erase that waits. -/
def Block.monStart (b : Block) : Block :=
  let m := b.mon
  if m.busy.isSome || (m.erasing != 0 && !m.suspended) || !b.bit HUB_MONUMENT.READY 0 then b
  else match b.nextProgram with
    | some r => b.modMon (fun m => { m with
        busy := some { r with flags := if b.holdup && r.tier == 3 then r.flags ||| 2 else r.flags }, queue := m.queue.erase r })
    | none => match m.eraseQueue with
      | [] => b
      | k :: rest => if m.erasing != 0 || b.holdup || (b.proc 85).st != 0 then b else b.modMon (fun m => { m with erasing := k, eraseQueue := rest })

/-- Queue a record at its tier's end, or before every other when `front`. -/
def Block.monQueue (b : Block) (front : Bool) (r : MonRec) : Block :=
  (b.modMon (fun m => { m with queue := if front then r :: m.queue else m.queue ++ [r] })).monStart

/-- Queue an event record when both buckets hold a token; otherwise the occurrence is suppressed (R314). -/
def Block.monEventAt (b : Block) (front : Bool) (now off e source : Nat) (data : List Nat) : Block :=
  let m := b.mon
  let t := mget 8 m.tokens e
  if t = 0 ∨ m.waferTokens = 0 then
    (b.modMon (fun m => { m with suppressed := mput 0 m.suppressed e (min 65535 (mget 0 m.suppressed e + 1)) })).inc
      HUB_MONUMENT.EVT_SUPPRESSED 0
  else if 4096 ≤ m.queue.length then b.inc HUB_MONUMENT.EVT_LOST 0
  else
    let r : MonRec :=
      { tier := 3, code := 0x100 + e, tick := now, offset := off, source := source
        suppressed := mget 0 m.suppressed e, flags := 0, seqNo := b.rd HUB_MONUMENT.SEQ 0, data := data, whole := true, boot := m.bootCount }
    ((b.modMon (fun m => { m with
      tokens := mput 8 m.tokens e (t - 1), waferTokens := m.waferTokens - 1
      suppressed := mput 0 m.suppressed e 0 })).inc HUB_MONUMENT.SEQ 0).monQueue front r

/-- Queue an event record behind those that wait. -/
def Block.monEvent (b : Block) (now off e source : Nat) (data : List Nat) : Block := b.monEventAt false now off e source data

/-- Queue a shutdown (tier 1) or last-fault (tier 2) record: no bucket, and never limited (R314, R316). A field whose four slots are
full needs the erase of its oldest (R315, R317). -/
def Block.monRecord (b : Block) (r : MonRec) : Block :=
  (b.cond (r.tier == 2 && !b.mon.hasSlot r) (fun b => b.modMon (fun m => m.wantErase (100 + r.source)))).monQueue false r

/-- The pool's bad-block map as a 256-bit number. -/
def Monument.badMap (m : Monument) : Nat := m.badBlocks.foldl (fun a k => a ||| 2 ^ k) 0

/-- The 256 bytes of a header record: MAGIC, the sequence number, boot slot and boot count, first-N count, last-N write position, the
bad-block map, the valid copy of each store, zeros, and the CRC-32C of what stands before it (R308).
(DESIGN CHOICE, log entry 92.) -/
def Monument.headerBytes (m : Monument) (seqNo : Nat) : List Nat :=
  let body := leBytes 4 0x4D574757 ++ leBytes 4 seqNo ++ [m.bootSlotB.toNat] ++ leBytes 4 m.bootCount ++ leBytes 4 m.firstN.length ++
    leBytes 4 m.writePos ++ leBytes 32 m.badMap ++ [m.configB.toNat, m.calB.toNat] ++ List.replicate 197 0
  body ++ leBytes 4 (crc32c body)

/-- A record of tier 5, written by H1: code 0 a header, 1 the configuration store, 2 the calibration store. -/
def storeRec (now code seqNo : Nat) (data : List Nat) : MonRec :=
  { tier := 5, code := code, tick := now, offset := 0, source := srcHub + 2, suppressed := 0, flags := 0, seqNo := seqNo
    data := data, whole := true }

/-- Queue a header record: at a boot, at a change of boot slot or store copy, and after every 1,024 last-N records (R308).
(DESIGN CHOICE, log entry 92.) -/
def Block.headerWrite (b : Block) (now : Nat) : Block :=
  let n := b.mon.hdrSeq
  (b.modMon (fun m => { m with hdrSeq := n + 1 })).monQueue false (storeRec now 0 n (b.mon.headerBytes n))

/-- H1 writes a store that has changed: its write waits in tier 5, once (R307, R316). -/
def Block.saveStore (b : Block) (now : Nat) (cal : Bool) : Block :=
  let code := if cal then 2 else 1
  b.cond (!b.mon.queue.any (fun r => r.tier == 5 && r.code == code)) (fun b => b.monQueue false (storeRec now code 0 []))

/-! ### The two stores (R307, R350) -/

/-- What the stores are to hold, from the values that H1 keeps. -/
def Nonvol.config (n : Nonvol) : ConfigStore := { outMap := n.outMap, datums := n.datums, ceilSt := n.ceilSt, contour := n.contour }
def Nonvol.calStore (n : Nonvol) : CalStore :=
  { cal := n.cal, cad := n.cad, chanCal := n.chanCal, bistRef := n.bistRef, gradeTab := n.gradeTab, softRows := n.softRows
    cadFull := n.cadFull }

/-- The values that a copy holds. -/
def Nonvol.withConfig (n : Nonvol) (c : ConfigStore) : Nonvol :=
  { n with outMap := c.outMap, datums := c.datums, ceilSt := c.ceilSt, contour := c.contour }
def Nonvol.withCal (n : Nonvol) (c : CalStore) : Nonvol :=
  { n with cal := c.cal, cad := c.cad, chanCal := c.chanCal, bistRef := c.bistRef, gradeTab := c.gradeTab, softRows := c.softRows, cadFull := c.cadFull }

/-! ### Log rings -/

/-- LOG_LEVEL of a processor (R278). -/
def Block.logLevel (b : Block) (p : Nat) : Nat := if p < 84 then b.rd F_FW.LOG_LEVEL p else b.rd HUB_FW.LOG_LEVEL 0

/-- Write one entry to the log ring of processor `p`, unless its level is above LOG_LEVEL (R278). The four argument words are the
firmware's: a free value. (DEDUCED, log entry 113.) -/
def Block.logEntry (b : Block) (p now off level comp code : Nat) : Block :=
  let fr := b.fresh
  b.cond (decide (level ≤ b.logLevel p)) fun _ => fr.2.modProc p (fun q => { q with
    logWr := lowBits 32 (q.logWr + 1)
    log := ({ tick := now, off := off, level := level, comp := comp, seqNo := lowBits 16 q.logWr, code := code
              args := lowBits 128 fr.1 } :: q.log).take 256 })

end Sys2Proof.Machine
end

