-- ==== Sys2Proof/Machine/Commit.lean ====
section
/-!
DEFINITION. Commits: arrival and its checks (R38 to R40, R422), the pending copy, CANCEL and RELOAD (R425), and the
shadow writes and commits that a command makes (R379, R385).
-/

namespace Sys2Proof.Machine

open Sys2Proof

/-- Wafer time `now` has reached `t`, over the 48 bits of the tick counter (R32). (DESIGN CHOICE, log entry 161.) -/
def tickReached (now t : Nat) : Bool := decide ((now + 2 ^ 48 - t % 2 ^ 48) % 2 ^ 48 < 2 ^ 47)

/-- Tick at whose start a PAGE_COMMIT value takes effect when it arrives in tick `arr`; none: COMMIT_LATE (R40). -/
def atDue (arr v : Nat) : Option Nat :=
  if v.testBit 31 then
    let d := (v % 2 ^ 24 + 2 ^ 24 - arr % 2 ^ 24) % 2 ^ 24
    if d = 0 ∨ 8388607 < d then none else some ((arr + d) % 2 ^ 48)
  else some ((arr + 1) % 2 ^ 48)

/-- Tick in which a commit that leaves the hub at offset `sc` of tick `now` reaches its owner (R38).
(DESIGN CHOICE, log entry 125.) -/
def arrivalTick (now sc cls inst : Nat) : Nat :=
  if 0x40 ≤ cls then (now + (sc + Config.latency inst) / 2048) % 2 ^ 48 else now
/-- Offset at which it arrives there. -/
def arrivalOff (sc cls inst : Nat) : Nat := if 0x40 ≤ cls then (sc + Config.latency inst) % 2048 else sc

/-- What a commit of a page would put in force: the shadow half over the present values. -/
def Block.shadowGet (b : Block) (inst : Nat) (x : Fld) : Nat :=
  if x.access = .rw then b.rdS x inst else b.rd x inst

/-- The copy that a commit captures at arrival (R39). -/
def Block.capture (b : Block) (cls inst : Nat) : List (Nat × Nat) :=
  (pageRw cls).map (fun x => (x.key inst, b.rdS x inst))

/-- PAGE_ERR bit of the first arrival check that a commit arriving in tick `arr` fails (R40, R385, R422). -/
def Block.arrivalErr (b : Block) (arr cls inst v : Nat) (byCmd : Option Nat) : Option Nat :=
  if byCmd.isNone && (b.page (pageKey cls inst)).heldBy.isSome then some 5
  else if (atDue arr v).isNone then some 0
  else if rangeOk b cls inst (b.shadowGet inst) then none
  else some 1

/-- A commit arrives in tick `arr`: the shadow half is captured, and replaces the capture of a commit that is pending; a commit that
fails a check replaces nothing (R39, R40, R385, R422, R423). (DEDUCED, log entry 36.) -/
def Block.commitArrive (b : Block) (arr cls inst v : Nat) (byCmd : Option Nat) : Block :=
  let key := pageKey cls inst
  if (pageRw cls).isEmpty then b
  else match b.arrivalErr arr cls inst v byCmd with
    | some k => b.pageErr key k
    | none => b.modPage key (fun p => { p with
        pending := some { due := (atDue arr v).getD 0, vals := b.capture cls inst, byCmd := byCmd } })

/-- A commit leaves at `(now, sc)`: one that arrives in the same tick does so in this step; another is on its way until it is landed,
and so is one behind it (R38, R39). (DESIGN CHOICE, log entry 125.) -/
def Block.commitSend (b : Block) (now sc cls inst v : Nat) (byCmd : Option Nat) : Block :=
  if arrivalTick now sc cls inst = now ∧ (b.page (pageKey cls inst)).transit = [] then b.commitArrive now cls inst v byCmd
  else b.modPage (pageKey cls inst) (fun p => { p with transit := p.transit ++
    [{ tick := arrivalTick now sc cls inst, off := arrivalOff sc cls inst, act := .commit v byCmd }] })

/-- CANCEL (R425). -/
def Block.cancelCommit (b : Block) (cls inst : Nat) : Block :=
  let key := pageKey cls inst
  if (b.page key).heldBy.isSome then b.pageErr key 5 else b.modPage key (fun p => { p with pending := none })

/-- RELOAD (R425): every RW field of the shadow half takes the value in force. -/
def Block.reloadShadow (b : Block) (cls inst : Nat) : Block :=
  let key := pageKey cls inst
  if (b.page key).heldBy.isSome then b.pageErr key 5
  else b.each (pageRw cls) (fun b x => b.wrS x inst (b.rd x inst))

/-- SHADOW_DIFFERS of Table 18.3. -/
def Block.shadowDiffers (b : Block) (cls inst : Nat) : Bool :=
  (pageRw cls).any (fun x => b.rdS x inst != b.rd x inst)

/-- A page that a command writes. -/
structure PageNo where
  cls : Nat
  inst : Nat
  deriving DecidableEq, Repr

/-- A shadow write that a command makes. -/
structure ShadowWrite where
  fld : Fld
  inst : Nat
  val : Nat
  deriving DecidableEq, Repr

/-- Why a command's pages cannot be written. -/
inductive PageStop where
  | busy | badAt | badRange
  deriving DecidableEq, Repr

/-- The AT word that a command applies to its pages: with AT = 0 and more than one page, TARGET is 64 ticks ahead (R379). -/
def atWord (now n v : Nat) : Nat :=
  if v.testBit 31 then v else if 1 < n then 2 ^ 31 + (now + 64) % 2 ^ 24 else v

/-- The shadow writes and commits of a command on port `pt` at `(now, sc)`: nothing is written when a
TARGET is rejected, a range or order fails, or a page is held (R378, R379, R385). (DEDUCED, log entry 33.) -/
def Block.commitByCmd (b : Block) (now sc pt at_ : Nat) (pages : List PageNo) (ws : List ShadowWrite) :
    Except PageStop Block :=
  let v := atWord now pages.length at_
  let b' := b.each ws (fun b w => b.wrS w.fld w.inst w.val)
  if pages.any (fun p => (atDue (arrivalTick now sc p.cls p.inst) v).isNone) then .error .badAt
  else if pages.any (fun p => !rangeOk b' p.cls p.inst (b'.shadowGet p.inst)) then .error .badRange
  else if pages.any (fun p => (b.page (pageKey p.cls p.inst)).heldBy.isSome) then .error .busy
  else .ok (b'.each pages (fun b p =>
    (b.modPage (pageKey p.cls p.inst) (fun h => { h with heldBy := some pt })).commitSend now sc p.cls p.inst v (some pt)))

end Sys2Proof.Machine
end

