-- ==== Sys2Proof/Machine/Operands.lean ====
section
/-!
DEFINITION. The operand forms of the commands (Tables 16.1 to 16.3): field sets, TICK48, buffers, the bits each word may
use, owners, and the legality of Table 16.6.
-/

namespace Sys2Proof

/-- ARG word `k` of a command. -/
def Cmd.arg (c : Cmd) (k : Nat) : Nat := (c.args.toList.map (·.toNat)).getD k 0
/-- ARG words. -/
def Cmd.words (c : Cmd) : List Nat := c.args.toList.map (·.toNat)
/-- Bit `k` of OPTIONS. -/
def Cmd.opt (c : Cmd) (k : Nat) : Bool := c.opts.toNat.testBit k
/-- AREA: the data area stands in for host memory (R379). -/
def Cmd.area (c : Cmd) : Bool := c.opt 7

/-- The fields that three words name (FSET of Table 16.2), ascending. -/
def Cmd.fset (c : Cmd) (k : Nat) : List Nat := Machine.allFields.filter (fun f => (c.arg (k + f / 32)).testBit (f % 32))

/-- TICK48: two words (Table 16.2). -/
def Cmd.tick48 (c : Cmd) (k : Nat) : Nat := c.arg k + 2 ^ 32 * (c.arg (k + 1) % 65536)

/-- Host address and length of a BUF (Table 16.2). -/
def Cmd.bufAddr (c : Cmd) (k : Nat) : Nat := c.arg k + 2 ^ 32 * c.arg (k + 1)
def Cmd.bufLen (c : Cmd) (k : Nat) : Nat := c.arg (k + 2)

/-- A BUF is well formed for its port: aligned host address on HOST, or AREA with at most 1,024 bytes (R379). -/
def Cmd.bufOk (c : Cmd) (k : Nat) : Bool :=
  if c.area then decide (c.bufLen k ≤ 1024) else decide (c.port = CmdPort.host) && c.bufAddr k % 64 == 0

end Sys2Proof

namespace Sys2Proof.Machine

open Sys2Proof

/-- Port numbers (R373). -/
def portNo : CmdPort → Nat
  | .host => 0
  | .bmc => 1
  | .debug => 2

/-- OPTIONS bits that an opcode names (Table 16.3); bit 7, AREA, is named for every opcode (Table 16.1). -/
def optMask (op : Nat) : Nat :=
  match op with
  | 0x02 => 0x81 | 0x10 => 0x83 | 0x50 => 0x83 | 0x51 => 0x83 | 0x52 => 0x87 | 0x60 => 0xC0 | 0x62 => 0x81 | 0x70 => 0xC1
  | 0x71 => 0x81 | 0x80 => 0x83 | 0xA1 => 0x81
  | _ => 0x80

/-- All bits of a word. -/
def allOnes : Nat := 0xFFFFFFFF
/-- Bits that the AT word uses. -/
def atMask : Nat := 0x80FFFFFF
/-- Masks of an FSET and of a BUF. -/
def fsetMask : List Nat := [allOnes, allOnes, 0xFFFFF]
def bufMask : List Nat := [allOnes, allOnes, allOnes]

/-- Bits that each ARG word of an opcode may use (Table 16.3); words past the list are unnamed and must be 0. -/
def argMask (op : Nat) : List Nat :=
  match op with
  | 0x10 => [allOnes, 0x7, atMask]
  | 0x11 => fsetMask ++ [allOnes, 0xFFFF, allOnes, 0xFFFF, 0xFFFF, atMask]
  | 0x12 => [0x1F]
  | 0x13 => fsetMask ++ [0x1, atMask]
  | 0x14 => [0xFFFF1F01]
  | 0x20 => [0x07FFFFFF]
  | 0x21 => [0xFF]
  | 0x22 => 0xFF :: bufMask
  | 0x28 => [0xFFFF]
  | 0x30 => [0xFFF]
  | 0x32 => [0x1F, allOnes, 0xFFFF]
  | 0x40 => [0x1, allOnes, 0xFFFF]
  | 0x41 => [allOnes, 0xFFFF]
  | 0x50 => fsetMask ++ [0xFFFF0037, 0xFFFF03FF, 0xFFFFF000, allOnes, 0xFFFF1FFB, 0xFFFF0003, 0xFFFFFFF8, allOnes,
      0xFFFF0000, atMask]
  | 0x51 => fsetMask
  | 0x52 => fsetMask
  | 0x60 => 0x3 :: fsetMask ++ bufMask ++ [allOnes, 0xFFFF, allOnes]
  | 0x61 => fsetMask ++ [0x3FF, atMask]
  | 0x62 => fsetMask
  | 0x68 => [0x33FF007F]
  | 0x70 => bufMask ++ [allOnes]
  | 0x72 => [0xFF]
  | 0x78 => 0x3F :: List.replicate 8 allOnes ++ bufMask
  | 0x79 => 0x3 :: bufMask
  | 0x80 => 0x1 :: fsetMask
  | 0x81 => fsetMask ++ bufMask
  | 0x88 => [0x7, allOnes, allOnes] ++ bufMask
  | 0x91 => [0xFFFF0F1F]
  | 0xA0 => fsetMask
  | 0xA1 => fsetMask
  | 0xA2 => fsetMask ++ [0x1] ++ List.replicate 6 0x1FF ++ [atMask]
  | _ => []

/-- First descriptor word with a bit outside its mask: word 0 for OPTIONS, else 1 + the ARG number (R378 step 4). -/
def badWord (op : Nat) (c : Cmd) : Option Nat :=
  if c.opts.toNat &&& (0xFF - optMask op) ≠ 0 then some 0
  else ((List.range 15).find? (fun k => c.arg k &&& (allOnes - (argMask op).getD k 0) ≠ 0)).map (· + 1)

/-- First ARG word of the BUF of an opcode (Table 16.3). -/
def bufArg (op : Nat) : Option Nat :=
  match op with
  | 0x22 => some 1 | 0x60 => some 4 | 0x70 => some 0 | 0x78 => some 9 | 0x79 => some 1 | 0x81 => some 3 | 0x88 => some 3
  | _ => none

/-- Descriptor word of a BUF that is outside its encoding: OPTIONS where AREA must be 1, the length of a data area, or the address
of a host buffer (Table 16.2). -/
def badBuf (op : Nat) (c : Cmd) : Option Nat :=
  match bufArg op with
  | none => none
  | some k =>
    if c.bufOk k then none
    else if c.area then some (k + 3)
    else if c.port ≠ CmdPort.host then some 0
    else some (k + 1)

/-- First ARG word of the FSET of an opcode, where it has one that must not be empty. -/
def fsetAt (op : Nat) : Option Nat :=
  match op with
  | 0x11 | 0x13 | 0x61 | 0x62 | 0x81 | 0xA0 | 0xA1 | 0xA2 => some 0
  | 0x60 => some 1
  | _ => none

/-- Opcodes of Table 16.3. -/
def opcodes : List Nat :=
  [0x01, 0x02, 0x03, 0x10, 0x11, 0x12, 0x13, 0x14, 0x20, 0x21, 0x22, 0x28, 0x30, 0x31, 0x32, 0x40, 0x41, 0x48, 0x50,
   0x51, 0x52, 0x60, 0x61, 0x62, 0x68, 0x70, 0x71, 0x72, 0x78, 0x79, 0x80, 0x81, 0x88, 0x89, 0x8A, 0x90, 0x91, 0xA0,
   0xA1, 0xA2]

/-- Legality in a manager state (Table 16.6); `pendingHalt` is a scheduled halt that waits. -/
def legal (op opts mgr : Nat) (pendingHalt : Bool) : Bool :=
  let st (l : List Nat) : Bool := l.contains mgr
  match op with
  | 0x01 | 0x02 | 0x03 => true
  | 0x10 | 0x11 | 0x13 => st [4, 5, 6, 7]
  | 0x12 | 0x32 | 0x14 | 0x30 | 0x31 => st [4, 5, 6]
  | 0x20 | 0x28 => st [4, 5, 6]
  | 0x21 | 0x22 | 0x88 | 0x78 | 0x70 | 0x91 | 0x50 | 0x51 | 0x52 => st [4, 5, 6, 7, 8]
  | 0x40 => st [4, 5]
  | 0x41 => st [6] || (st [4, 5] && pendingHalt)
  | 0x48 => st [4, 5, 6, 7]
  | 0x80 => if opts.testBit 0 then st [4] else st [4, 5, 6, 7]
  | 0x60 | 0x61 | 0x62 | 0x68 | 0x81 | 0x71 | 0x72 | 0xA0 | 0xA1 | 0xA2 => st [4, 5, 6]
  | 0x79 | 0x89 => st [4]
  | 0x90 => st [4, 5, 6, 8]
  | 0x8A => st [8]
  | _ => false

/-- The hub processor that executes an opcode, or owns its coordination (Table 16.3, R14); none: the window itself. -/
def ownerProc (op : Nat) : Option Nat :=
  match op with
  | 0x01 | 0x02 | 0x03 => none
  | 0x50 | 0x51 | 0x52 | 0x70 | 0x71 | 0x72 | 0x88 | 0x89 => some 85
  | 0x78 | 0x79 | 0x80 | 0x8A | 0x90 | 0x91 => some 86
  | _ => some 84

/-- The field processors that a command needs (owner F of Table 16.3). -/
def fieldProcs (op : Nat) (c : Cmd) : List Nat :=
  match op with
  | 0x68 => [c.arg 0 % 128].filter (· < 84)
  | _ => match fsetAt op with
    | some k => c.fset k
    | none => []

end Sys2Proof.Machine
end

