-- ==== Sys2Proof/Machine/Command.lean ====
section
/-!
DEFINITION. The command window (R373 to R389): submission, the checks of R378, statuses and their order, the journal's
staged entries, host buffers, and the completion of a command that waited for an event.
-/

namespace Sys2Proof.Machine

open Sys2Proof

/-! ### Status codes (Table 16.4) -/

def stDone : Nat := 0x00
def stAccepted : Nat := 0x01
def stBadOpcode : Nat := 0x10
def stBadArg : Nat := 0x11
def stStateReject : Nat := 0x12
def stConflict : Nat := 0x13
def stBusy : Nat := 0x14
def stDenied : Nat := 0x15
def stUnmet : Nat := 0x16

/-- RSP_DETAIL of BAD_ARG: the descriptor word at fault and the code of the owning rule. -/
def badArgDetail (word code : Nat) : Nat := word * 2 ^ 24 + code

/-! ### Interrupts toward the BMC -/

/-- Raise IBI cause `k` (R412): causes merge while an IBI is pending. -/
def Block.ibi (b : Block) (k : Nat) : Block :=
  if b.hub.ibiOn && b.hub.ibiEn.testBit k then b.modHub (fun h => { h with ibiPending := h.ibiPending ||| 2 ^ k }) else b

/-! ### Journal entries (R388, R389) -/

/-- CRC-32C of descriptor bytes 0x04 to 0x3F. -/
def cmdDigest (args : List Nat) : Nat := crc32c (args.flatMap (leBytes 4))

/-- The journal entry of one status. -/
def journalOf (now pt : Nat) (fl : Flight) (status detail : Nat) : JEntry :=
  { tick := now, cmdSeq := fl.seqNo, opcode := fl.op, options := fl.opts, status := status
    flags := pt + (if status = stAccepted then 4 else 0), detail := detail, arg0 := fl.args.getD 0 0
    digest := cmdDigest fl.args, submitTick := lowBits 32 fl.submitTick, jseq := 0 }

/-- PING, LEASE and QUERY_STATE that complete DONE leave no entry (R389). -/
def journaled (op status : Nat) : Bool := !(status == stDone && (op == 0x01 || op == 0x02 || op == 0x03))

/-! ### Statuses (R377) -/

/-- RSP registers, completion bit, port state and journal entry of one status. -/
def Block.status (b : Block) (now pt : Nat) (fl : Flight) (status detail : Nat) (data : List Nat) : Block :=
  let b := b.wr (HUB_CMD.RSP_DETAIL pt) 0 detail
  let b := b.each (List.range 8) (fun b k => b.wr (HUB_CMD.RSP_DATA pt k) 0 (data.getD k 0))
  let b := ((b.wr (HUB_CMD.RSP_SEQ pt) 0 fl.seqNo).wr (HUB_CMD.RSP_OPCODE pt) 0 fl.op).wr (HUB_CMD.RSP_STATUS pt) 0 status
  let b := b.setFlag HUB_STATE.CMP 0 pt true
  let b := b.cond (journaled fl.op status)
    (fun b => b.modHub (fun h => { h with staged := h.staged ++ [journalOf now pt fl status detail] }))
  let b := b.cond (pt == 1) (fun b => b.ibi 1)
  if status = stAccepted then
    (b.wr (HUB_CMD.PORT_STATE pt) 0 2).modPort pt (fun p => { p with
      flight := p.flight.map (fun x => { x with accepted := true }) })
  else
    (((b.wr (HUB_CMD.PORT_STATE pt) 0 0).wrB (HUB_CMD.HELD pt) 0 false).wr (HUB_CMD.FINAL_TICK pt) 0 now).setPort pt
      { flight := none }

/-- Write a status of the command in flight on `pt`; it waits while 16 journal entries are staged (R276). -/
def Block.answer (b : Block) (now pt status detail : Nat) (data : List Nat) : Block :=
  match (b.port pt).flight with
  | none => b
  | some fl =>
    if journaled fl.op status && (16 ≤ b.hub.staged.length || !fl.owed.isEmpty) then
      b.setPort pt { flight := some { fl with owed := fl.owed ++ [{ status := status, detail := detail, data := data }] } }
    else b.status now pt fl status detail data

/-- Final DONE with response data. -/
def Block.done (b : Block) (now pt : Nat) (data : List Nat) : Block := b.answer now pt stDone 0 data
/-- A final status with its detail. -/
def Block.stop (b : Block) (now pt status detail : Nat) : Block := b.answer now pt status detail []
/-- The first status of a command that completes later. -/
def Block.accept (b : Block) (now pt : Nat) (data : List Nat) : Block := b.answer now pt stAccepted 0 data
/-- Record what the command in flight on `pt` waits for. -/
def Block.await (b : Block) (pt : Nat) (w : Wait) : Block :=
  b.modPort pt (fun p => { flight := p.flight.map (fun fl => { fl with wait := w }) })

/-- What the command on `pt` waits for. -/
def Block.waitOf (b : Block) (pt : Nat) : Wait :=
  match (b.port pt).flight with
  | some fl => fl.wait
  | none => .none

/-- Complete every port whose wait `g` recognises: `g` gives the status, detail and data. -/
def Block.completeWhere (b : Block) (now : Nat) (g : Wait → Option (Nat × Nat × List Nat)) : Block :=
  b.each [0, 1, 2] (fun b pt => match g (b.waitOf pt) with
    | some r => b.answer now pt r.1 r.2.1 r.2.2
    | none => b)

/-! ### Submission and checks -/

/-- The command that a descriptor and a row carry. -/
def flightOf (now op : Nat) (c : Cmd) : Flight :=
  { seqNo := c.seq.toNat, opts := c.opts.toNat, op := op, args := c.words, res := 0, submitTick := now, begun := false
    accepted := false, wait := .none, owed := [] }

/-- A submission is taken (R375). -/
def Block.submit (b : Block) (now pt : Nat) (fl : Flight) : Block :=
  let b := b.setPort pt { flight := some fl }
  ((b.wr (HUB_CMD.PORT_STATE pt) 0 1).inc (HUB_CMD.SUBMITS pt) 0).wr (HUB_CMD.SUBMIT_TICK pt) 0 now

/-- A submission on a port whose command is in flight is discarded (R376). -/
def Block.drop (b : Block) (pt : Nat) : Block := b.inc (HUB_CMD.DROPPED pt) 0

/-- Is the command in flight on its port this one, not yet carried out? -/
def sameFlight (fl : Flight) (op : Nat) (c : Cmd) : Bool :=
  !fl.begun && fl.seqNo == c.seq.toNat && fl.opts == c.opts.toNat && fl.op == op && fl.args == c.words

/-- The first processor that a command needs and that is not in RUN (R277). -/
def Block.downOwner (b : Block) (op : Nat) (c : Cmd) : Option Nat :=
  ((ownerProc op).toList ++ (fieldProcs op c)).find? (fun p => (b.proc p).st ≠ 0)

/-- Reserved bits [31:16] of the captured descriptor's word 0 are not all 0 (R374). -/
def Block.reserved (b : Block) (pt : Nat) : Bool :=
  match (b.port pt).flight with
  | some fl => fl.res != 0
  | none => false

/-- Checks 2 and 4 of R378, and DENIED between them: status and detail of the first that fails. -/
def Block.check (b : Block) (op : Nat) (c : Cmd) (denied : Option Nat) : Option (Nat × Nat) :=
  if !legal op c.opts.toNat b.mgr b.hub.sched.isSome then some (stStateReject, b.mgr)
  else match denied with
    | some d => some (stDenied, d)
    | none => match (if b.reserved (portNo c.port) then some 0 else (badWord op c).orElse (fun _ => badBuf op c)) with
      | some w => some (stBadArg, badArgDetail w 0)
      | none => match fsetAt op with
        | some k => if (c.fset k).isEmpty then some (stBadArg, badArgDetail (k + 1) 0) else none
        | none => none

/-- One command row: the submission when the port is idle, then the execution by its owner. A port that already holds
this very command, submitted through CMD_SUBMIT, executes it; one that holds another discards the submission (R376). A
command whose owner is not in RUN stays in flight, or completes BUSY once its hold timer has expired (R277); the row presented again is its execution. `denied` is the
DENIED detail of the command's own rule, and `body` carries out a command that passed every check.
(DEDUCED, log entries 32, 86.) -/
def runCmd (op : Nat) (c : Cmd) (s : State) (denied : Option Nat) (body : Nat → State → State) : State :=
  let pt := portNo c.port
  let take : Option Block := match (s.b.port pt).flight with
    | none => some (s.b.submit s.tick pt (flightOf s.tick op c))
    | some fl => if sameFlight fl op c then some s.b else none
  match take with
  | none => { s with b := s.b.drop pt }
  | some b => match b.downOwner op c with
    | some p => if (b.proc p).safe then { s with b := b.stop s.tick pt stBusy (if p < 84 then p else 0xFF) }
      else { s with b := b.wrB (HUB_CMD.HELD pt) 0 true }
    | none =>
      let b := (b.wrB (HUB_CMD.HELD pt) 0 false).modPort pt (fun p =>
        { flight := p.flight.map (fun fl => { fl with begun := true }) })
      match b.check op c denied with
      | some r => { s with b := b.stop s.tick pt r.1 r.2 }
      | none => body pt { s with b := b }

/-- A command whose effect stays within the block. -/
def runCmdB (op : Nat) (c : Cmd) (s : State) (denied : Option Nat) (body : Nat → Nat → Block → Block) : State :=
  runCmd op c s denied (fun pt s => { s with b := body s.tick pt s.b })

/-! ### Host buffers (R379, R386) -/

/-- The host-memory region of the trace ring, while DRAIN_EN is 1: first byte and length (Table 16.7). -/
def Block.ringRegion (b : Block) : Option (Nat × Nat) :=
  if b.bit HUB_TRACE.DRAIN_EN 0 then
    some (b.rd HUB_TRACE.RING_BASE_LO 0 * 4096 + b.rd HUB_TRACE.RING_BASE_HI 0 * 2 ^ 32, 2 ^ b.rd HUB_TRACE.RING_LOG2 0)
  else none

/-- Do two regions meet? -/
def regionsMeet (a la c lc : Nat) : Bool := decide (a < c + lc) && decide (c < a + la) && decide (0 < la) && decide (0 < lc)

/-- A command's host buffer claims a region held by the trace ring (R386). (DEDUCED, log entry 40.) -/
def Block.bufConflict (b : Block) (c : Cmd) (k : Nat) : Bool :=
  !c.area && (match b.ringRegion with
    | some r => regionsMeet (c.bufAddr k) (c.bufLen k) r.1 r.2
    | none => false)

/-- The check of a BUF of at least `need` bytes: status and detail when it fails. -/
def Block.bufCheck (b : Block) (c : Cmd) (k need : Nat) : Option (Nat × Nat) :=
  if c.bufLen k < need then some (stBadArg, badArgDetail (k + 3) 0)
  else if b.bufConflict c k then some (stConflict, 3 * 2 ^ 24) else none

/-- Write bytes to consecutive addresses of a byte map. -/
def putBytes (m : List Host.Cell) (a : Nat) : List Nat → List Host.Cell
  | [] => m
  | x :: r => putBytes (mput 0 m a (BitVec.ofNat 8 x)) (a + 1) r

/-- Read `n` bytes. -/
def getBytes (m : List Host.Cell) (a n : Nat) : List Nat := (List.range n).map (fun k => (mget 0 m (a + k)).toNat)

/-- The DATA area of a port as bytes. -/
def Block.areaBytes (b : Block) (pt n : Nat) : List Nat :=
  ((List.range 256).flatMap (fun k => leBytes 4 (b.rd (HUB_CMD.DATA pt k) 0))).take n

/-- Write bytes into the DATA area of a port from its start. -/
def Block.putArea (b : Block) (pt : Nat) (bytes : List Nat) : Block :=
  let old := b.areaBytes pt 1024
  let all := bytes ++ old.drop bytes.length
  b.each (List.range ((bytes.length + 3) / 4)) (fun b k => b.wr (HUB_CMD.DATA pt k) 0 (fieldAt all (4 * k) 4))

/-- Read the buffer of a command. -/
def readBuf (s : State) (c : Cmd) (k : Nat) : List Nat :=
  if c.area then s.b.areaBytes (portNo c.port) (c.bufLen k) else getBytes s.host (c.bufAddr k) (c.bufLen k)

/-- Write into the buffer of a command. -/
def writeBuf (s : State) (c : Cmd) (k : Nat) (bytes : List Nat) : State :=
  if c.area then { s with b := s.b.putArea (portNo c.port) bytes } else { s with host := putBytes s.host (c.bufAddr k) bytes }

/-! ### Commands that write pages and complete at their effect -/

/-- Write and commit pages for the command on `pt`; `atWordNo` is the descriptor word of AT and `dataWord` the first one
that holds page values, which a failed range or order names. -/
def Block.cmdPages (b : Block) (now sc pt at_ atWordNo dataWord : Nat) (pages : List PageNo) (ws : List ShadowWrite) : Block :=
  match b.commitByCmd now sc pt at_ pages ws with
  | .error .busy => b.stop now pt stBusy 0
  | .error .badAt => b.stop now pt stBadArg (badArgDetail atWordNo 0)
  | .error .badRange => b.stop now pt stBadArg (badArgDetail dataWord 0)
  | .ok b => b.await pt (.commits pages.length 0)

end Sys2Proof.Machine
end

