-- ==== Sys2Proof/Machine/Sensors.lean ====
section
/-!
DEFINITION. Temperature readings as their consumers see them: the reading in force of a slot, its substitute, the local
benchmark, the field's maximum, and the broken-sensor tests of Table 7.2 (R151 to R155, R162).
-/

namespace Sys2Proof.Machine

open Sys2Proof

/-- The substitute of a broken parcel sensor, 125 °C in 1/8 °C (R155). -/
def substitute : Int := 1000

/-- The slot's reading is the substitute: its own sensor is broken and no validated spare stands in, or that spare is broken, also
while the slot returns from it to its own sensor (R155 to R158). (DEDUCED, log entry 130.) -/
def Block.substituted (b : Block) (f s : Nat) : Bool :=
  let r := b.sensor (senParcel f s)
  let spare := (b.sensor (senSpare f (s / 4))).broken
  if (b.cadE (pid f s)).useSpare then (if r.validating then r.broken else spare) else r.broken || (r.validating && spare)

/-- The reading in force of a slot, substitute included (R161). -/
def Block.slotTemp (b : Block) (f s : Nat) : Int :=
  if b.substituted f s then substitute else (b.sensor (senParcel f s)).temp

/-- The reading that the estimator uses: the one in force when the tick began (R51). -/
def Block.heldTemp (b : Block) (f s : Nat) : Int :=
  if b.substituted f s then substitute else (b.sensor (senParcel f s)).held

/-- The slot's reading is valid and not substituted, and its sensors are powered (R151, R153). -/
def Block.slotOk (b : Block) (f s : Nat) : Bool :=
  b.active f s && b.railsOn f && (b.sensor (senParcel f s)).valid && !b.substituted f s

/-- Benchmark `k` is valid: its last conversion was, and it is not declared broken. -/
def Block.benchOk (b : Block) (f k : Nat) : Bool :=
  let r := b.sensor (senBench f k)
  r.valid && !r.broken
def Block.benchTemp (b : Block) (f k : Nat) : Int := (b.sensor (senBench f k)).temp

/-- Valid benchmarks of a field, ascending. -/
def Block.benches (b : Block) (f : Nat) : List Nat := (List.range 8).filter (fun k => b.benchOk f k)

/-- The local benchmark of a slot; when it is broken, the nearest valid one, the lower index at equal distance. A field without a valid
benchmark has none (R154). -/
def Block.localBench (b : Block) (f s : Nat) : Option Nat :=
  let own := b.sensor (senBench f (s / 84))
  if !own.broken && own.stuckCount != 0 && !(b.benches f).isEmpty then some (s / 84)
  else (b.benches f).foldl (fun a k => match a with
    | none => some k
    | some x => if Config.dist k (s / 84) < Config.dist x (s / 84) then some k else some x) none

/-- Readings in force that are valid and not substituted: slot readings with their slot, then benchmarks (R153). -/
def Block.slotReadings (b : Block) (f : Nat) : List (Nat × Int) :=
  (allSlots.filter (fun s => b.slotOk f s)).map (fun s => (s, b.slotTemp f s))
def Block.benchReadings (b : Block) (f : Nat) : List Int := (b.benches f).map (fun k => b.benchTemp f k)

/-- Greatest element of a list, 0 for an empty one. -/
def maxOf (l : List Int) : Int :=
  match l with
  | [] => 0
  | x :: r => r.foldl max x

/-- The field's maximum temperature (R153); free without a reading (log entry 127). -/
def Block.fieldTmax (b : Block) (f : Nat) : Int :=
  let l := (b.slotReadings f).map Prod.snd ++ b.benchReadings f
  if l.isEmpty then ofCode 16 (Config.unstated 7 f % 65536) else maxOf l

/-- The hottest slot reading: first slot in ascending order; without a reading the slot is free (log entry 127). -/
def Block.hottest (b : Block) (f : Nat) : Nat × Int :=
  match b.slotReadings f with
  | [] => (Config.unstated 8 f % 672, 0)
  | x :: r => r.foldl (fun a y => if a.2 < y.2 then y else a) x

/-- Mean of the valid slot readings, floored (R436); free without one (log entry 127). -/
def Block.fieldTmean (b : Block) (f : Nat) : Int :=
  let l := (b.slotReadings f).map Prod.snd
  if l.isEmpty then ofCode 16 (Config.unstated 4 f % 65536) else l.sum / l.length

/-- What the field limit follows: the valid benchmarks, or without one the highest valid slot reading (R162); without any reading a
temperature below every threshold. -/
def Block.limitTemp (b : Block) (f : Nat) : Int :=
  if (b.benches f).isEmpty then (b.hottest f).2 else maxOf (b.benchReadings f)

/-! ### Broken-sensor tests (Table 7.2) -/

/-- Mean reported power of a slot over the four ticks before the reading, 1/16 mW (R154): the four last measured ones, once the
measurement of the tick before is complete. Quotients are floored (R436). -/
def Block.meanReported (b : Block) (f s : Nat) : Int :=
  ((b.parcel (pid f s)).reportedHist.take 4).sum / 4

/-- Mean of `meanReported` over a list of slots. -/
def Block.groupReported (b : Block) (f : Nat) (l : List Nat) : Int :=
  (l.map (fun s => b.meanReported f s)).sum / l.length

/-- T_exp, 1/8 °C, for power `p` near benchmark `k`; THETA is in 1/16 °C/W (R154). -/
def Block.expected (b : Block) (f k : Nat) (p : Int) : Int :=
  let grp := ((List.range 84).map (fun j => 84 * k + j)).filter (fun s => b.active f s)
  b.benchTemp f k + b.rd F_THERM.THETA f * (p - b.groupReported f grp) / 32000

/-- Greatest spread of benchmark `k` in the run that `r` follows. -/
def Sensor.spread (r : Sensor) (k : Nat) : Int := r.highs.getD k 0 - r.lows.getD k 0

/-- Widen the run's benchmark ranges by the readings at a tick mark (R154). -/
def Sensor.widen (r : Sensor) (now : List Int) : Sensor :=
  if r.stuckCount = 0 then r
  else { r with
    lows := (List.range 8).map (fun k => min (r.lows.getD k (now.getD k 0)) (now.getD k 0))
    highs := (List.range 8).map (fun k => max (r.highs.getD k (now.getD k 0)) (now.getD k 0)) }

/-- Is a corrected temperature outside -40 to 150 °C? -/
def outOfRange (t : Int) : Bool := decide (t < -320) || decide (1200 < t)

/-- A declaration decided in tick `tick`. -/
def Sensor.decideIf (r : Sensor) (tick : Nat) (met : Bool) : Sensor :=
  if met && !r.decided then { r with decided := true, eventAt := tick } else r

/-- One reading of a parcel or spare sensor against the range and stuck tests of Table 7.2: `range` is the RANGE bit, `t` the corrected
reading. -/
def Sensor.test (r : Sensor) (tick : Nat) (range : Bool) (raw : Nat) (t : Int) (stuck localB : Nat) (now : List Int) : Sensor :=
  let rc := if range || outOfRange t then r.rangeCount + 1 else 0
  let r := if range then r
    else if r.stuckCount ≠ 0 ∧ r.raw = raw then { r with stuckCount := r.stuckCount + 1 }
    else { r with raw := raw, stuckCount := 1, lows := now, highs := now }
  let moved := decide (16 < r.spread localB)
  { r with rangeCount := rc }.decideIf tick (decide (2 ≤ rc) || (!range && decide (stuck ≤ r.stuckCount) && moved))

/-- The deviation test of Table 7.2 on one reading. -/
def Sensor.testDev (r : Sensor) (tick : Nat) (t : Int) (expected : Option Int) (dev : Nat) : Sensor :=
  let dc := match expected with
    | some e => if (dev : Int) < |t - e| then r.devCount + 1 else 0
    | none => 0
  { r with devCount := dc }.decideIf tick (decide (4 ≤ dc))

/-- A reading that does not fail validation (R157). -/
def passes (t : Int) (expected : Option Int) (dev : Nat) : Bool :=
  !outOfRange t && (match expected with
    | some e => decide (|t - e| ≤ (dev : Int))
    | none => true)

/-- What the tests of Table 7.2 compare a reading with: the expected value and the benchmark used (R154). In a field without a valid
benchmark there is no expected value, and the test for sticking follows the slot's own benchmark. (DEDUCED, log entry 130.) -/
def Block.expectedOf (b : Block) (f s : Nat) (spare : Bool) : Option Int × Nat :=
  let g := (List.range 4).map (fun j => 4 * (s / 4) + j)
  let at_ := if spare then 4 * (s / 4) else s
  let k := b.localBench f at_
  let p := if spare then b.groupReported f (g.filter (fun x => b.active f x)) else b.meanReported f s
  (k.map (fun k => b.expected f k p), k.getD (at_ / 84))

/-- The sensor that a slot reads, or the spare of its group. -/
def sensorOf (f s : Nat) (spare : Bool) : Nat := if spare then senSpare f (s / 4) else senParcel f s

/-- The readings of the tick against T_exp, once the reported power of the tick before is known: the deviation test, and whether a
reading under validation passes (R154, R157). (DEDUCED, log entry 141.) -/
def Block.testDeviations (b : Block) (now f : Nat) : Block :=
  let l := (b.fu f).devDue
  if l.isEmpty then b
  else (b.modFu f (fun u => { u with devDue := [] })).each l (fun b x =>
    let e := (b.expectedOf f x.1 x.2.1).1
    let dev := b.rd F_THERM.BROKEN_DEV f
    let k := sensorOf f x.1 x.2.1
    let b := b.cond (!(b.sensor k).broken) (fun b => b.modSensor k (fun r => r.testDev now x.2.2 e dev))
    b.cond (b.sensor (senParcel f x.1)).validating (fun b => b.modSensor (senParcel f x.1) (fun r =>
      if passes x.2.2 e dev then { r with passCount := r.passCount + 1, eventAt := now } else { r with passCount := 0 })))

end Sys2Proof.Machine
end

