-- ==== Sys2Proof/Machine/Estimate.lean ====
section
/-!
DEFINITION. The estimator: activity records, features, the network, the serving slot and the probe (R48 to R56, R74).
-/

namespace Sys2Proof.Machine

open Sys2Proof

/-! ### Activity records (R48, R49) -/

/-- Per-cycle maximum inc_c and maximum shift sh_c of a counter (Table 3.1). -/
def counterInc (c : Nat) : Nat := if c = 4 ∨ c = 5 then 2 else if c = 6 then 4 else 1
def counterShift (c : Nat) : Nat := if c = 4 ∨ c = 5 then 5 else if c = 6 then 6 else 4

/-- A core's counter after a tick of `n` engine cycles, from 0 at the mark before: it counts at most inc_c in one cycle, unless it is
faulty, and saturates at 0xFFFF (R47). -/
def coreCount (c n events : Nat) (faulty : Bool) : Nat := min 65535 (if faulty then events else min events (n * counterInc c))

/-- The counters of the 16 cores of a parcel. -/
def coreCounts (x : Latched) (n c : Nat) : List Nat :=
  (List.range 16).map (fun k => coreCount c n (((x.events.toList.getD k (Vector.replicate 12 0)).toList.getD c 0).toNat) (x.faulty.getLsbD k))
/-- S_c and X_c of a parcel (R48). -/
def coreSum (x : Latched) (n c : Nat) : Nat := (coreCounts x n c).sum
def coreMax (x : Latched) (n c : Nat) : Nat := (coreCounts x n c).foldl max 0

/-- C_c of a 24-bit sum. -/
def actC (sum : Nat) : Nat := min 65535 (sum / 4)
/-- M_c of a single-core maximum. -/
def actM (c x : Nat) : Nat := min 255 (x / 2 ^ counterShift c)

/-- The 18 words of an activity record (R49). -/
def packRecord (cs ms : List Nat) : List Nat :=
  (List.range 12).map (fun c => cs.getD c 0) ++ (List.range 6).map (fun k => ms.getD (2 * k + 1) 0 * 256 + ms.getD (2 * k) 0)
/-- C_0 to C_11 and M_0 to M_11 of 18 words. -/
def recordC (w : List Nat) : List Nat := (List.range 12).map (fun c => w.getD c 0)
def recordM (w : List Nat) : List Nat := (List.range 12).map (fun c => w.getD (12 + c / 2) 0 / (if c % 2 = 0 then 1 else 256) % 256)

/-! ### Features (R50, Table 3.2) -/

/-- Division to the nearest integer, halves up. -/
def divRound (a d : Nat) : Nat := if d = 0 then 0 else (2 * a + d) / (2 * d)

/-- K_c and K_M of a tick of `n` engine cycles; without an engine clock there is no cycle and no activity, and both are 0. -/
def kC (n c : Nat) : Nat := divRound (2 ^ 29) (n * counterInc c)
def kM (n : Nat) : Nat := divRound (2 ^ 35) n

/-- q(v, K) of Table 3.2. -/
def qf (v k : Nat) : Int := min 127 ((v * k + 2 ^ 23) / 2 ^ 24 : Nat)

/-- x_24 and x_29: a temperature in 0.5 °C steps around 60 °C. -/
def tempFeature (t : Int) : Int := clampI ((t - 480 + 2) / 4) (-128) 127

/-- x_25: the VCORE reference in 2.5 mV steps around 750 mV; `v` in 0.125 mV. -/
def voltFeature (v : Nat) : Int := clampI (((v : Int) - 6000 + 10) / 20) (-128) 127

/-- x_26: the engine frequency in 5 MHz steps around 1,100 MHz. -/
def freqFeature (f : Nat) : Int := clampI (((f : Int) - 1100) / 5) (-128) 127

/-- x_27: V²f relative to 0.75² × 1.10. -/
def v2fFeature (v f : Nat) : Int := clampI ((divRound (v * v * f) 618750000 : Nat) - 64) (-128) 127

/-- The field's default leakage table (R52): round(16 × 2^((T_i - 60) / 25)), limited to 127. -/
def defaultLeak : List Nat :=
  [3, 3, 3, 3, 3, 4, 4, 4, 4, 4, 5, 5, 5, 6, 6, 6, 7, 7, 7, 8, 8, 9, 9, 10, 10, 11, 11, 12, 13, 14, 14, 15] ++
  [16, 17, 18, 19, 20, 21, 22, 24, 25, 26, 28, 29, 31, 33, 35, 37, 39, 41, 43, 46, 49, 51, 54, 57, 61, 64, 68, 72, 76, 80, 84, 89]

/-- Index into a leakage table. -/
def leakIndex (t : Int) : Nat := (clampI ((t + 32) / 16) 0 63).toNat

/-- Active orthogonal neighbours of a slot in the parcel grid: PX = s mod 28, PY = s / 28 (R431). -/
def Block.neighbours (b : Block) (f s : Nat) : List Nat :=
  ((if s % 28 = 0 then [] else [s - 1]) ++ (if s % 28 = 27 then [] else [s + 1]) ++
   (if s < 28 then [] else [s - 28]) ++ (if s + 28 < 672 then [s + 28] else [])).filter (fun x => b.active f x)

/-- The temperature that x_29 encodes: the mean, floored as R436 floors a quotient. (DEDUCED, log entry 134.) -/
def Block.neighbourTemp (b : Block) (f s : Nat) : Int :=
  let l := (b.neighbours f s).map (fun x => b.heldTemp f x)
  if l.isEmpty then b.heldTemp f s else l.sum.fdiv l.length

/-! ### Start steps (R115, R117) -/

/-- SHAPE_EC, the start steps and RING_ALLOW of a tick, from the values in force after everything that takes effect at its boundary
(R42, R115, R117). -/
def Block.shapeNumbers (b : Block) (f : Nat) : Block :=
  let part := 65536 - b.rd F_EST.SRAM_SHARE f
  let vc := b.datumV f 0
  let step (pp : Nat) : Nat := min 65535 ((4 * pp * part + (65536 * vc - 1)) / (65536 * vc))
  let b := b.wr F_DROOP.SHAPE_EC f (max 1 (b.rd F_DROOP.SHAPE_TIME f * b.mhz / 48000))
  let b := (b.wr F_DROOP.STEP_DENSE f (step (b.rd F_LIMIT.PP_DENSE f))).wr F_DROOP.STEP_SPARSE f (step (b.rd F_LIMIT.PP_SPARSE f))
  (b.wr F_DROOP.STEP_COMPAT f (step (b.rd F_LIMIT.PP_COMPAT f))).wr F_DROOP.RING_ALLOW f (b.rd F_DROOP.STEP_BUDGET f * 16 / 12)

/-! ### The model image (Table 3.3) -/

/-- INT8 at an offset of an image. -/
def int8At (img : List Nat) (off : Nat) : Int := ofCode 8 (img.getD off 0)
/-- `n` consecutive INT8 values. -/
def int8sAt (img : List Nat) (off n : Nat) : List Int := (List.range n).map (fun k => int8At img (off + k))

def imgS1 (img : List Nat) : Nat := img.getD 0x10 0
def imgS2 (img : List Nat) : Nat := img.getD 0x11 0
def imgSb (img : List Nat) : Nat := img.getD 0x12 0
def imgMask (img : List Nat) : Nat := fieldAt img 0x14 4
def imgFlags (img : List Nat) : Nat := fieldAt img 0x06 2
def imgWb (img : List Nat) : List Int := int8sAt img 0x250 32
/-- Offset of a local slot; 0 without the table. -/
def imgOff (img : List Nat) (s : Nat) : Int :=
  if (imgFlags img).testBit 0 then ofCode 16 (fieldAt img (0x300 + 2 * s) 2) else 0
/-- Leakage entry: the image's table, or the field's default (R52). -/
def imgLeak (img : List Nat) (i : Nat) : Nat :=
  if (imgFlags img).testBit 1 then img.getD (0x270 + i) 0 else defaultLeak.getD i 0

/-- Buffer number of a model slot: its active buffer, or the other one. -/
def Block.modelBuf (b : Block) (f slot : Nat) (standby : Bool) : Nat :=
  let sel := (b.fu f).bufSel.getD slot 0
  (4 * f + slot) * 2 + (if standby then 1 - sel else sel)
/-- Image in the active buffer. -/
def Block.image (b : Block) (f slot : Nat) : List Nat := (b.model (b.modelBuf f slot false)).bytes

/-- The working bypass of a slot, as F_MODEL shows it (Table 3.9). -/
def Block.bypass (b : Block) (f slot : Nat) : List Int :=
  (List.range 32).map (fun i => ofCode 8 (bitsOf (b.rd (F_MODEL.BYPASS slot (i / 4)) f) (8 * (i % 4)) 8))
/-- Four signed bytes in one word. -/
def packBytes (l : List Int) (n : Nat) : Nat := leNat ((List.range 4).map (fun j => toCode 8 (l.getD (4 * n + j) 0)))
def Block.setBypass (b : Block) (f slot : Nat) (wb : List Int) : Block :=
  b.each (List.range 8) (fun b n => b.wr (F_MODEL.BYPASS slot n) f (packBytes wb n))

/-- CLASS_MAP of a class code (Table 3.9). -/
def Block.classMap (b : Block) (f cls : Nat) : Nat :=
  match cls with
  | 1 => b.rd F_MODEL.MAP_DENSE f
  | 2 => b.rd F_MODEL.MAP_SPARSE f
  | 3 => b.rd F_MODEL.MAP_SPARSE_COMPAT f
  | 4 => b.rd F_MODEL.MAP_VECTOR f
  | 5 => b.rd F_MODEL.MAP_MOVE f
  | _ => 0

/-- ACTIVE_VALID of a model slot (SLOT_STATE). -/
def Block.slotLoaded (b : Block) (f slot : Nat) : Bool := b.flag F_MODEL.SLOT_STATE f (4 * slot)

/-- The slot that serves a parcel (R55). -/
def Block.servingSlot (b : Block) (f s : Nat) : Nat :=
  let cls := (b.parcel (pid f s)).cls
  let k := if cls = 0 then (b.cadE (pid f s)).defaultSlot else b.classMap f cls
  if b.slotLoaded f k then k else 0

/-! ### The network (R53) -/

/-- rshift(v, s): to the nearest, halves up. -/
def rshift (v : Int) (s : Nat) : Int := if s = 0 then v else (v + 2 ^ (s - 1)) / 2 ^ s

/-- Sum of products. -/
def dot (a c : List Int) : Int := (List.zipWith (· * ·) a c).sum

/-- Features of a slot for the tick described, before the mask. -/
def Block.features (b : Block) (f s : Nat) (img : List Nat) : List Int :=
  let u := b.fu f
  let p := b.parcel (pid f s)
  let t := b.heldTemp f s
  (List.range 12).map (fun c => qf (p.recC.getD c 0) (kC u.nEc c)) ++
  (List.range 12).map (fun c => qf (p.recM.getD c 0) (kM u.nEc)) ++
  [tempFeature t, voltFeature u.vEnd, freqFeature u.fEnd, v2fFeature u.vEnd u.fEnd, imgLeak img (leakIndex t),
   tempFeature (b.neighbourTemp f s), 16 * p.cls, 127]

/-- Features whose mask bit is clear are 0 (R52). -/
def maskFeatures (mask : Nat) (x : List Int) : List Int :=
  (List.range 32).map (fun i => if mask.testBit i then x.getD i 0 else 0)

/-- The 16 hidden values. -/
def hidden (img : List Nat) (x : List Int) : List Int :=
  (List.range 16).map (fun j => min 127 (rshift (max (dot (int8sAt img (0x40 + 32 * j) 32) x) 0) (imgS1 img)))

/-- Everything one run of the network gives. -/
structure NetOut where
  x : List Int
  h : List Int
  y2 : Int
  yb : Int
  eRaw : Nat
  e : Nat
  deriving DecidableEq, Repr

/-- The network of R53 with image `img`, working bypass `wb`, gain `g` (Q2.14), for local slot `s`. -/
def network (img : List Nat) (wb : List Int) (g s : Nat) (x : List Int) : NetOut :=
  let h := hidden img x
  let y2 := dot (int8sAt img 0x240 16) h
  let yb := dot wb x
  let y := rshift y2 (imgS2 img) + rshift yb (imgSb img) + imgOff img s
  let eRaw := (clampI y 0 65535).toNat
  { x := x, h := h, y2 := y2, yb := yb, eRaw := eRaw, e := min 65535 ((eRaw * g + 8192) / 16384) }

/-- Run the network for one slot. -/
def Block.runNet (b : Block) (f s : Nat) : NetOut :=
  let k := b.servingSlot f s
  let img := b.image f k
  network img (b.bypass f k) (b.rd F_EST.GAIN_TRIM f) s (maskFeatures (imgMask img) (b.features f s img))

/-- PROBE_CAPTURE (R74). -/
def Block.captureProbe (b : Block) (f s : Nat) (o : NetOut) : Block :=
  if (b.fu f).probe = some s then
    let b := b.each (List.range 8) (fun b n => b.wr (F_EST.PROBE_X n) f (packBytes o.x n))
    let b := b.each (List.range 4) (fun b n => b.wr (F_EST.PROBE_H n) f (packBytes o.h n))
    let b := (((b.wrZ F_EST.PROBE_Y2 f o.y2).wrZ F_EST.PROBE_YB f o.yb).wr F_EST.PROBE_E f o.e).wr F_EST.PROBE_ERAW f o.eRaw
    let b := ((b.wr F_EST.PROBE_NEC f (b.fu f).nEc).wr F_EST.PROBE_CLASS f (b.parcel (pid f s)).cls).wr F_EST.PROBE_MSLOT f
      (b.servingSlot f s)
    (b.wr F_EST.PROBE_DONE f 1).modFu f (fun u => { u with probe := none })
  else b

/-- Evaluate one slot: estimate and features; the output of a slot not flagged active is 0 (R12, R53).
(DEDUCED, log entry 20.) -/
def Block.estimate (b : Block) (f s : Nat) : Block :=
  let o := b.runNet f s
  let k := b.servingSlot f s
  let act := b.active f s
  let yb := rshift o.yb (imgSb (b.image f k))
  let b := b.modParcel (pid f s) (fun p => { p with
    feat := o.x, mslot := k, eRaw := if act then o.eRaw else 0, e := if act then o.e else 0
    ybOut := yb, ran := true })
  b.captureProbe f s (if act then o else { o with eRaw := 0, e := 0 })

/-- E_f: the sum of e over all slots (R53). -/
def Block.eField (b : Block) (f : Nat) : Nat := (allSlots.map (fun s => (b.parcel (pid f s)).e)).sum

/-- PROBE_SLOT: a write arms the capture of a local slot (R74, Table 3.8). -/
def execProbeSlot (f : FieldNo) (v : Word) (s : State) : Host.Outcome State Fault Refusal :=
  onB s (fun _ b => ((b.wr F_EST.PROBE_SLOT f v.toNat).wr F_EST.PROBE_DONE f 0).modFu f (fun u =>
    { u with probe := some (v.toNat % 1024) }))

end Sys2Proof.Machine
end

