-- ==== Sys2Proof/Machine/TicketOps.lean ====
section
/-!
DEFINITION. Tickets as the limit engine, the accounts and the admission see them: which slots cover a parcel, which are in
force, which were held or RUNNING in a tick, and the collection records of the jobs (R126 to R143, R229, R230).
-/

namespace Sys2Proof.Machine

open Sys2Proof

/-- Context of a task id (R125). -/
def jobOf (task : Nat) : Nat := task / 2 ^ 24 % 256

/-- Classes DENSE, SPARSE and SPARSE_COMPAT. -/
def matrixClass (c : Nat) : Bool := decide (1 ≤ c) && decide (c ≤ 3)

/-- Slots of a field that are not as at reset, with their numbers. -/
def Block.slotsOf (b : Block) (f : Nat) : List (Nat × Slot) :=
  (keysIn b.slots (tid f 0) 1024).map (fun k => (k - tid f 0, b.slot k))

/-- The ticket names local slot `p` (R126). -/
def Slot.covers (t : Slot) (p : Nat) : Bool := decide (t.first ≤ p) && decide (p ≤ t.first + t.countM1)
/-- The local slots that a ticket names. -/
def Slot.parcels (t : Slot) : List Nat := (List.range (t.countM1 + 1)).map (fun k => t.first + k)

/-- In force on its parcels: GRANTED, or RUNNING until its END (R130, R140). -/
def Slot.inForce (t : Slot) : Bool := t.st == 2 || (t.st == 3 && !t.ended)
def Slot.running (t : Slot) : Bool := t.st == 3 && !t.ended
def Slot.waiting (t : Slot) : Bool := t.st == 1 && !t.ended

/-- A grant has been made: grants are numbered from 1. -/
def Slot.granted (t : Slot) : Bool := t.grantSeq != 0

/-- In force during tick `n` (R87): granted by then and not left before it. An aborted ticket leaves at its boundary. -/
def Slot.heldIn (t : Slot) (n : Nat) : Bool :=
  t.granted && decide (t.grantTick ≤ n) && (!t.ended || (if t.aborted then decide (n < t.endTick) else decide (n ≤ t.endTick)))
/-- RUNNING in tick `n`, from its START to its END inclusive (R139). -/
def Slot.ranIn (t : Slot) (n : Nat) : Bool := t.ran && decide (t.startTick ≤ n) && t.heldIn n
/-- Energy of tick `n` is billed: as RUNNING, and through the abort boundary's tick (R139, R143). -/
def Slot.billedIn (t : Slot) (n : Nat) : Bool :=
  t.ran && decide (t.startTick ≤ n) && (!t.ended || decide (n ≤ t.endTick))

/-- The slots among `l` that cover parcel `p`. -/
def onParcel (l : List (Nat × Slot)) (p : Nat) : List Slot := (l.map Prod.snd).filter (fun t => t.covers p)

/-- Tickets in force on a parcel (R130). -/
def Block.inForceOn (b : Block) (f p : Nat) : List Slot := (onParcel (b.slotsOf f) p).filter Slot.inForce

/-- The ticket granted last, and the one granted first. -/
def lastGranted (l : List Slot) : Option Slot :=
  l.foldl (fun a t => match a with | none => some t | some x => if x.grantSeq < t.grantSeq then some t else some x) none
def firstGranted (l : List Slot) : Option Slot :=
  l.foldl (fun a t => match a with | none => some t | some x => if t.grantSeq < x.grantSeq then some t else some x) none

/-- Class of the ticket granted last, NONE without one (R51). -/
def classOf (l : List Slot) : Nat :=
  match lastGranted l with
  | some t => t.cls
  | none => 0

/-- Class prior of a class (Table 4.3). -/
def Block.classPrior (b : Block) (f cls : Nat) : Nat :=
  match cls with
  | 1 => b.rd F_LIMIT.PP_DENSE f
  | 2 => b.rd F_LIMIT.PP_SPARSE f
  | 3 => b.rd F_LIMIT.PP_COMPAT f
  | 4 => b.rd F_LIMIT.PP_VECTOR f
  | 5 => b.rd F_LIMIT.PP_MOVE f
  | _ => 0

/-! ### Collection records (R229, R230) -/

/-- Number of the record of context `n` in field `f`. -/
def collNo (f n : Nat) : Nat := 256 * f + n
def sat16 (v : Nat) : Nat := min 65535 v

def Coll.addEnergy (c : Coll) (v : Nat) : Coll := { c with energy := min (2 ^ 64 - 1) (c.energy + v) }
def Coll.addRetired (c : Coll) : Coll := { c with retired := sat16 (c.retired + 1) }
def Coll.addCancelled (c : Coll) : Coll := { c with cancelled := sat16 (c.cancelled + 1) }
def Coll.addAborted (c : Coll) : Coll := { c with aborted := sat16 (c.aborted + 1) }
def Coll.addBusy (c : Coll) : Coll := { c with busy := sat16 (c.busy + 1) }
/-- One throttled parcel-tick of reason `r` (1 to 12). -/
def Coll.addThr (c : Coll) (r : Nat) : Coll :=
  if r = 0 then c else { c with thr := c.thr.set (r - 1) (sat16 (c.thr.getD (r - 1) 0 + 1)) }
def Coll.markEst (c : Coll) : Coll := { c with estOnly := true }

def Block.modColl' (b : Block) (f n : Nat) (g : Coll → Coll) : Block := b.modColl (collNo f n) g

/-! ### Billing (R140, R143) -/

/-- ACTUAL := round(ENERGY / 500), halves up. -/
def actualOf (energy : Nat) : Nat := divRound energy 500

/-- Distance of two sums. -/
def absDiff (a c : Nat) : Nat := (a - c) + (c - a)

/-- A retirement sets HANG_AGE to 0, and the next hang is reported again (R146). -/
def Block.resetHang (b : Block) (f : Nat) : Block := (b.wr F_TICKET.HANG_AGE f 0).modFu f (fun u => { u with hangReported := false })

/-- Bill one ticket at offset 1,900: an ended one under R140, an aborted one under R143. -/
def Block.bill (b : Block) (f n : Nat) : Block :=
  let t := b.slot (tid f n)
  let a := actualOf t.energy
  let b := b.modSlot (tid f n) (fun x => { x with billAt := 0 })
  let b := b.modColl' f (jobOf t.task) (fun c => (if t.aborted then c else c.addRetired).addEnergy a)
  let b := if t.aborted then b else
    let b := ((b.inc F_TICKET.RETIRED f).inc (F_TICKET.RET_COUNT t.cls) f).add (F_TICKET.PRIOR_SUM t.cls) f t.prior
    let b := (b.add (F_TICKET.ACTUAL_SUM t.cls) f a).add (F_TICKET.ERR_SUM t.cls) f (absDiff a t.prior)
    b.resetHang f
  if t.aborted then b.record f t.endTick 0 0x04 (pid f t.first) 1 t.task a else b

end Sys2Proof.Machine
end

