-- ==== Sys2Proof/Machine/Measure.lean ====
section
/-!
DEFINITION. The measured field current and what follows from it at offset 1,900: the comparison with the estimate,
reported power, energy shares and billing, the limit windows, and the sums of recalibration (R62 to R65, R70 to R73, R81,
R91, R139, R140); the estimation modes (Table 3.5) and the channels of R64.
-/

namespace Sys2Proof.Machine

open Sys2Proof

/-! ### Channels and rails (R62, R64) -/

/-- A cause of R64 that the field unit itself holds: PH_FAULT_N, or a failed BIST_RUN. -/
def Block.chanCause (b : Block) (f p : Nat) : Bool := b.bit (F_PHASE.FAULT_PIN p) f || (b.fu f).bistChan.testBit p

/-- A cause of R64 holds: the channel is invalid, and its transition counts one MEASURE_LOSS event. -/
def Block.chanLost (b : Block) (f p : Nat) : Block :=
  let b := b.modPhase (phOf f p) (fun x => { x with goodTicks := 0 })
  if b.bit (F_PHASE.CHAN_INVALID p) f then b
  else ((b.wr (F_PHASE.CHAN_INVALID p) f 1).inc F_EST.MEAS_LOSS_COUNT f).fault 11 f p 0

/-- Valid channels of a rail. -/
def Block.validChans (b : Block) (f rl : Nat) : List Nat :=
  (railPhases rl).filter (fun p => !b.bit (F_PHASE.CHAN_INVALID p) f)

/-- The rail's measurement holds: at most two VCORE channels invalid, no VSRAM channel (R64). -/
def Block.railMeasured (b : Block) (f rl : Nat) : Bool :=
  if rl = 0 then decide (14 ≤ (b.validChans f 0).length) else (b.validChans f 1).length == 4

/-- Rail current, 1/64 A: the valid channels, scaled to 16 for VCORE (R64). A negative sum reads 0. -/
def railAmps (rl : Nat) (chans : List Nat) (imon : Nat → Int) : Nat :=
  let sum := ((chans.map imon).sum).toNat
  if rl = 0 then sum * 16 / chans.length else sum

/-- The current of a rail; where its measurement is lost it is a free value. (DESIGN CHOICE, log entry 126.) -/
def Block.railCurrent (b : Block) (f rl : Nat) (imon : Nat → Int) : Nat × Block :=
  if b.railMeasured f rl then (railAmps rl (b.validChans f rl) imon, b)
  else
    let x := b.fresh
    (x.1 % 65536, x.2)

/-- Mean of a channel's samples, corrected by its gain and offset in the calibration store; free in a tick without a sample (R62).
(DESIGN CHOICE, log entries 127, 135.) -/
def Block.chanMean (b : Block) (f ch : Nat) (l : List (BitVec 16)) : Int :=
  let c := mget (16384, 0) b.nv.chanCal (22 * f + ch)
  if l.isEmpty then ((Config.unstated 9 ((b.fu f).copy * 4096 + 22 * f + ch) % 65536 : Nat) : Int)
  else (c.1 : Int) * (l.map (fun v => v.toInt)).sum / ((16384 * l.length : Nat) : Int) + c.2
/-- A remote-sense voltage of the tick, 0.25 mV. -/
def Block.senseVolts (b : Block) (f rl : Nat) (m : MeasIn) : Nat :=
  min 65535 (b.chanMean f (20 + rl) (if rl = 0 then m.vCore else m.vSram)).toNat
/-- The IMON mean of a phase, 1/64 A. -/
def Block.phaseAmps (b : Block) (f : Nat) (m : MeasIn) (p : Nat) : Int := b.chanMean f p (m.imon.toList.getD p [])

/-- M, 1/16 mW, from voltages in 0.25 mV and currents in 1/64 A. -/
def fieldPower (vc ic vs is : Nat) : Nat := (vc * ic + vs * is) / 16

/-! ### Estimate currents (R71) -/

/-- I_VCORE_est and I_VSRAM_est, 1/64 A; free while the rail's voltage reads 0 (log entry 127). -/
def Block.estCore (b : Block) (f e : Nat) : Nat :=
  quot 0 (16 * e * (65536 - b.rd F_EST.SRAM_SHARE f)) (65536 * b.rd F_EST.V_VCORE f)
def Block.estSram (b : Block) (f e : Nat) : Nat :=
  quot 1 (16 * e * b.rd F_EST.SRAM_SHARE f) (65536 * b.rd F_EST.V_VSRAM f)

/-- A window with its 512 entries: those that no plan has made are 0 (R81). -/
def winPad (l : List Nat) : List Nat := (l ++ List.replicate 512 0).take 512
/-- The window entry of tick `t` (R81); an unlisted tick reads 0. -/
def winAt (l : List Nat) (newest t : Nat) : Nat := if newest < t then 0 else l.getD (newest - t) 0
/-- Replace the entry of tick `t`. -/
def winSet (l : List Nat) (newest t v : Nat) : List Nat := if newest < t then l else (winPad l).set (newest - t) v

/-! ### Modes (R70, Table 3.5) -/

/-- MODE codes. -/
def modeNormal : Nat := 0
def modeDrift : Nat := 1
def modeMeasured : Nat := 2
def modeSafe : Nat := 3

/-- Change the mode: counts restart, but for that of the disagreement, whose consecutive ticks run on between NORMAL and
DRIFT; and the entries of R70 are counted. `why` is the SENSOR_DISAGREE detail. -/
def Block.setEstMode (b : Block) (f new why : Nat) : Block :=
  let old := b.rd F_EST.MODE f
  if old = new then b
  else
    let counted := (b.fu f).disagreeCounted
    let b := (b.wr F_EST.MODE f new).wr F_EST.RUN_COUNT f 0
    let b := b.modFu f (fun u => { u with
      driftCount := 0, clearCount := 0, disCount := if new ≤ modeDrift then u.disCount else 0, safeCount := 0, boundHit := false, recalOk := false
      disagreeCounted := false })
    if new = modeDrift then (b.inc F_EST.DRIFT_COUNT f).fault 10 f (b.rd F_EST.ERR f) 0
    else if new = modeMeasured ∧ old ≠ modeSafe then
      let b := b.inc F_EST.DISAGREE_COUNT f
      if why = 1 ∧ counted then b else b.fault 9 f why 0
    else b

/-- The transition that counts, recalibrations and FORCE_MEASURED decide for the next boundary (R70). -/
def Block.estModeNext (b : Block) (f : Nat) : Nat × Nat :=
  let u := b.fu f
  let mode := b.rd F_EST.MODE f
  let forced := b.bit F_EST.FORCE_MEASURED f
  let lost := !(b.bit F_EST.MEAS_VALID_CORE f && b.bit F_EST.MEAS_VALID_SRAM f)
  if mode = modeSafe then (if 256 ≤ u.safeCount then modeMeasured else modeSafe, 0)
  else if mode = modeMeasured then
    (if lost then modeSafe else if u.recalOk && !forced then modeNormal else modeMeasured, 0)
  else if forced then (modeMeasured, 2)
  else if u.boundHit then (modeMeasured, 1)
  else if b.rd F_EST.DIS_TICKS f ≤ u.disCount then (modeMeasured, 0)
  else if mode = modeNormal then (if b.rd F_EST.DRIFT_TICKS f ≤ u.driftCount then modeDrift else modeNormal, 0)
  else (if b.rd F_EST.DRIFT_CLEAR_TICKS f ≤ u.clearCount ∨ u.recalOk then modeNormal else modeDrift, 0)

/-- Count up or restart. -/
def countIf (c : Bool) (n : Nat) : Nat := if c then n + 1 else 0

/-- One comparison of r with the thresholds of Table 3.5: `e` and `m` in 1/16 mW. The counts of NORMAL, DRIFT and
MEASURED_ONLY advance only on a tick with valid M that did not overrun. -/
def Block.countModes (b : Block) (f e m : Nat) : Block :=
  let ref := max m (b.rd F_EST.M_FLOOR f * 2000)
  let above (pct : Nat) : Bool := decide (pct * ref < 100 * absDiff e m)
  let mode := b.rd F_EST.MODE f
  let u := b.fu f
  let drift := if mode = modeNormal then countIf (above (b.rd F_EST.DRIFT_PCT f)) u.driftCount else 0
  let clear := if mode = modeDrift then countIf (!above (b.rd F_EST.DRIFT_CLEAR_PCT f)) u.clearCount else 0
  let dis := if mode = modeNormal ∨ mode = modeDrift then countIf (above (b.rd F_EST.DIS_PCT f)) u.disCount else 0
  (b.modFu f (fun u => { u with driftCount := drift, clearCount := clear, disCount := dis })).wr F_EST.RUN_COUNT f
    (if mode = modeNormal then min 65535 drift else if mode = modeDrift then min 65535 clear else 0)

/-- The count of SAFE: ticks with both rails measured; any other tick neither advances nor resets it (R70). -/
def Block.countSafe (b : Block) (f : Nat) : Block :=
  if b.rd F_EST.MODE f = modeSafe then
    let n := (b.fu f).safeCount + 1
    (b.modFu f (fun u => { u with safeCount := n })).wr F_EST.RUN_COUNT f (min 65535 n)
  else b

/-! ### Reported power (R73) -/

/-- rho of R73; gain-neutral without valid M or with E_f = 0. -/
def rhoOf (mValid : Bool) (e m : Nat) : Nat := if mValid ∧ e ≠ 0 then min 65535 (16384 * m / e) else 16384

/-- Reported power of one slot. -/
def reportedOf (mValid act : Bool) (e m eSlot rho nActive : Nat) : Nat :=
  if !act then 0
  else if mValid ∧ e = 0 then min 65535 (m / nActive)
  else min 65535 (eSlot * rho / 16384)

/-- Write every slot's reported power, and keep the last four (R54, R73, R154). -/
def Block.report (b : Block) (f : Nat) (mValid : Bool) (e m rho : Nat) : Block :=
  let n := (b.actives f).length
  b.each allSlots (fun b s =>
    let r := reportedOf mValid (b.active f s) e m (b.parcel (pid f s)).e rho n
    b.modParcel (pid f s) (fun p => { p with reported := r, reportedHist := (r :: p.reportedHist).take 4 }))

/-! ### Energy shares (R139) -/

/-- The share of one ticket from one parcel: an equal part, and the remainder to the ticket granted first. -/
def shareOf (power : Nat) (tickets : List Slot) (t : Slot) : Nat :=
  power / tickets.length + (match firstGranted tickets with
    | some x => if x.grantSeq = t.grantSeq then power % tickets.length else 0
    | none => 0)

/-- Add the shares of tick `t` to every ticket billed in it. -/
def Block.addShares (b : Block) (f t : Nat) : Block :=
  let l := (b.slotsOf f).filter (fun e => e.2.billedIn t)
  b.each l (fun b e =>
    let add := (e.2.parcels.map (fun p => shareOf (b.parcel (pid f p)).reported (onParcel l p) e.2)).sum
    b.modSlot (tid f e.1) (fun x => { x with energy := x.energy + add }))

/-- Bill the tickets that are due in this tick. -/
def Block.billDue (b : Block) (now f : Nat) : Block :=
  b.each ((b.slotsOf f).filter (fun e => e.2.billAt != 0 && e.2.billAt == now)) (fun b e => b.bill f e.1)

/-! ### Windows (R81) and LIMIT_EXCEED (R91) -/

/-- The entry of tick `t` once its measurement is known, per rail: replaced in DRIFT by the larger figure, in MEASURED_ONLY
by the measured current where it holds, in SAFE by that or else the estimate (R71). -/
def winMeasured (mode entry est meas : Nat) (valid : Bool) : Nat :=
  if mode = modeDrift then (if valid then max est meas else est)
  else if mode = modeMeasured then (if valid then meas else entry)
  else if mode = modeSafe then (if valid then meas else est)
  else entry

/-- A LIMIT trace record (Table 11.2): `kind` is its AUX. -/
def Block.limitRecord (b : Block) (f now off kind figure pmax : Nat) : Block :=
  b.record f now off 0x10 (srcField f) kind
    (b.rd F_LIMIT.WAFER_REASON f % 16 * 65536 + b.rd F_LIMIT.BIND_RAIL f * 16 + b.rd F_LIMIT.BIND f)
    (min 65535 figure * 65536 + min 65535 pmax)

/-- A rail limit in force, 1/64 A: scaled by the phases that have not FAILED (R196). -/
def Block.railLimit (b : Block) (f rl : Nat) (fd : Fld) : Nat :=
  let l := railPhases rl
  16 * b.rd fd f * (l.filter (fun p => b.rd (F_PHASE.STATE p) f != 3)).length / l.length

/-- Compare the control figure of a tick with FCL, without the 0.92 factor (R91). -/
def Block.checkExceed (b : Block) (f now core sram : Nat) : Block :=
  let c := b.railLimit f 0 F_LIMIT.FCL_CORE
  if c < core ∨ b.railLimit f 1 F_LIMIT.FCL_SRAM < sram then
    (b.inc F_LIMIT.LIMIT_EXCEED f).limitRecord f now 1900 1 (if c < core then core / 16 else sram / 16) (b.fu f).pMax
  else b

/-! ### Recalibration sums (R65) -/

/-- Add the tick's data to its sub-window. -/
def SubWin.addTick (w : SubWin) (z : List Int) (r : Int) (m : Nat) : SubWin :=
  { z := List.zipWith (· + ·) w.z z, r := w.r + r, m := w.m + m, n := w.n + 1 }

/-- Parcel-ticks served by each slot in the tick, added to the window's use. -/
def Block.addUse (b : Block) (f : Nat) : Block :=
  let l := b.actives f
  b.modFu f (fun u => { u with
    use := (List.range 4).map (fun k => u.use.getD k 0 + (l.filter (fun s => (b.parcel (pid f s)).mslot == k)).length) })

/-- The slot that served most in the window that ends; it is dominant in the next one, and DOM_SLOT shows it (R65, R74). A tie keeps the
previous dominant slot, else the lowest. (DESIGN CHOICE, log entry 136.) -/
def dominant (use : List Nat) (prev : Nat) : Nat :=
  let best := use.foldl max 0
  if use.getD prev 0 = best then prev else ((List.range 4).find? (fun k => use.getD k 0 == best)).getD 0

/-- Add tick `t` to its window, and close the window after its last tick. -/
def Block.accumulate (b : Block) (f t : Nat) (contributes : Bool) (m share : Nat) : Block :=
  let dom := b.rd F_EST.DOM_SLOT f
  let l := b.actives f
  let mine := l.filter (fun s => (b.parcel (pid f s)).mslot == dom)
  let z := (List.range 32).map (fun i => (mine.map (fun s => (b.parcel (pid f s)).feat.getD i 0)).sum)
  let r := (l.map (fun s => ((b.parcel (pid f s)).eRaw : Int))).sum - (mine.map (fun s => (b.parcel (pid f s)).ybOut)).sum
  let k := t % 256 / 32
  let running := (b.proc f).st == 0
  let b := (b.addUse f).modFu f (fun u => { u with brokenNow := u.brokenNow || !running })
  let b := if contributes && running then b.modFu f (fun u => { u with
      subs := u.subs.set k ((u.subs.getD k SubWin.zero).addTick z r m), shareNum := u.shareNum + share, shareDen := u.shareDen + m })
    else b
  if t % 256 = 255 then
    let next := dominant (b.fu f).use dom
    (b.modFu f (fun u => { u with
      windowBroken := u.brokenNow, brokenNow := false, lastSubs := u.subs, lastShareNum := u.shareNum, lastShareDen := u.shareDen, lastDom := dom
      subs := List.replicate 8 SubWin.zero, shareNum := 0, shareDen := 0, use := List.replicate 4 0 })).wr F_EST.DOM_SLOT f next
  else b

/-! ### MEASUREMENT_COMPLETE -/

/-- The measurement registers of one tick. -/
def Block.putMeasure (b : Block) (f : Nat) (m : MeasIn) : Block :=
  let imon (p : Nat) : Int := b.phaseAmps f m p
  let vc := b.senseVolts f 0 m
  let vs := b.senseVolts f 1 m
  let xc := b.railCurrent f 0 imon
  let xs := xc.2.railCurrent f 1 imon
  let ic := xc.1
  let is := xs.1
  let b := xs.2.each (List.range 20) (fun b p =>
    let bad := m.ends.getLsbD p || b.chanCause f p || !b.bit (F_PHASE.CHAN_INVALID p) f
    ((b.wrZ (F_PHASE.IMON p) f (imon p)).wr (F_PHASE.TMON p) f (m.tmon.toList.getD p 0).toNat).modPhase
      (phOf f p) (fun x => { x with
        balSum := x.balSum + imon p, balTicks := x.balTicks + 1, goodTicks := if bad then 0 else x.goodTicks + 1 }))
  let b := ((b.wr F_EST.I_VCORE f (min 65535 ic)).wr F_EST.I_VSRAM f (min 65535 is)).wr F_EST.V_VCORE f vc
  let b := ((b.wr F_EST.V_VSRAM f vs).wrB F_EST.MEAS_VALID_CORE f (b.railMeasured f 0)).wrB F_EST.MEAS_VALID_SRAM f
    (b.railMeasured f 1)
  let b := b.wr F_EST.CHAN_VALID_CORE f ((b.validChans f 0).map (fun p => 2 ^ p)).sum
  let b := b.wr F_EST.CHAN_VALID_SRAM f ((b.validChans f 1).map (fun p => 2 ^ (p - 16))).sum
  b.modFu f (fun u => { u with
    hist16Core := if b.railMeasured f 0 then (ic :: u.hist16Core).take 16 else u.hist16Core
    hist16Sram := if b.railMeasured f 1 then (is :: u.hist16Sram).take 16 else u.hist16Sram })

/-- The energy sums of the calibration step in progress (R360). (DEDUCED, log entry 107.) -/
def Block.calSample (b : Block) (f m : Nat) (ok : Bool) : Block :=
  if (b.fu f).calStep ≠ 3 ∧ (b.fu f).calStep ≠ 5 then b
  else b.modFu f (fun u => { u with calSum := u.calSum + m, calTicks := u.calTicks + 1, calBad := u.calBad || !ok })

/-- The measurement of tick `now - 1` is complete (R62). -/
def Block.measure (b : Block) (now f : Nat) (mi : MeasIn) : Block :=
  let t := now - 1
  let b := b.putMeasure f mi
  let vc := b.rd F_EST.V_VCORE f
  let vs := b.rd F_EST.V_VSRAM f
  let ic := b.rd F_EST.I_VCORE f
  let is := b.rd F_EST.I_VSRAM f
  let okC := b.bit F_EST.MEAS_VALID_CORE f
  let okS := b.bit F_EST.MEAS_VALID_SRAM f
  let ok := okC && okS
  let m := fieldPower vc ic vs is
  let e := b.eField f
  let rho := rhoOf ok e m
  let ref := max m (b.rd F_EST.M_FLOOR f * 2000)
  let b := ((b.wr F_EST.E_FIELD f e).wr F_EST.M_FIELD f m).wr F_EST.EST_TICK f t
  let b := (b.wr F_EST.RHO f rho).wrZ F_EST.ERR f (clampI (1000 * ((e : Int) - m) / ref) (-32768) 32767)
  let b := b.modFu f (fun u => { u with mValid := ok })
  let b := (b.report f ok e m rho).testDeviations now f
  let b := (b.addShares f t).billDue now f
  let u := b.fu f
  let mode := b.rd F_EST.MODE f
  let core := winMeasured mode (winAt u.winCore u.winTick t) (b.estCore f e) ic okC
  let sram := winMeasured mode (winAt u.winSram u.winTick t) (b.estSram f e) is okS
  let b := b.modFu f (fun u => { u with
    winCore := winSet u.winCore u.winTick t core, winSram := winSet u.winSram u.winTick t sram })
  let b := b.checkExceed f now core sram
  let ran := !(u.overran || u.overranLast)
  let b := b.cond (ok && ran) (fun b => (b.countModes f e m).countSafe f)
  let b := b.accumulate f t (ok && ran) m (vs * is / 16)
  b.calSample f m ok

/-- MEASUREMENT_COMPLETE (R62). -/
def execMeasurementComplete (f : FieldNo) (m : MeasIn) (s : State) : Host.Outcome State Fault Refusal :=
  onB s (fun now b => b.measure now f m)

/-- CHANNEL_INVALID: a channel becomes invalid, and one MEASURE_LOSS event is counted (R64). -/
def execChannelInvalid (f : FieldNo) (p : PhaseNo) (s : State) : Host.Outcome State Fault Refusal :=
  onB s (fun _ b => b.chanLost f p)

/-- CHANNEL_RESTORED: a channel on which no cause has held for 256 consecutive ticks (R64). -/
def execChannelRestored (f : FieldNo) (p : PhaseNo) (s : State) : Host.Outcome State Fault Refusal :=
  onB s (fun _ b => b.cond (decide (256 ≤ (b.phase (phOf f p)).goodTicks) && !b.chanCause f p)
    (fun b => (b.wr (F_PHASE.CHAN_INVALID p) f 0).modPhase (phOf f p) (fun x => { x with goodTicks := 0 })))

end Sys2Proof.Machine
end

