-- ==== Sys2Proof/Machine/Recal.lean ====
section
/-!
DEFINITION. Recalibration of the working bypass and the gain trim, in exact rational arithmetic (R65 to R69).
-/

namespace Sys2Proof.Machine

open Sys2Proof

/-- Product of rationals, summed. -/
def dotQ (a c : List Rat) : Rat := (List.zipWith (· * ·) a c).sum

/-- x × I, 32 by 32. -/
def scaledIdentity (x : Rat) : List (List Rat) :=
  (List.range 32).map (fun i => (List.range 32).map (fun j => if i = j then x else 0))

/-- State of the recursive least squares: parameters and covariance. -/
structure Rls where
  theta : List Rat
  cov : List (List Rat)
  deriving DecidableEq, Repr

/-- One step of R66 for a sub-window: `sb` is the bypass shift, `g` the trim before, `cap` 32 × 2^P0_EXP. -/
def Rls.step (r : Rls) (w : SubWin) (sb : Nat) (g lambda cap : Rat) : Rls :=
  let n : Rat := w.n
  let phi := w.z.map (fun v => (v : Rat) / 2 ^ sb / n)
  let d := ((w.m : Rat) / g - w.r) / n
  let pphi := r.cov.map (fun row => dotQ row phi)
  let den := lambda + dotQ phi pphi
  let k := pphi.map (fun v => v / den)
  let err := d - dotQ phi r.theta
  let theta := List.zipWith (fun t kv => t + kv * err) r.theta k
  let phip := (List.range 32).map (fun j => dotQ phi (r.cov.map (fun row => row.getD j 0)))
  let cov := List.zipWith (fun row kv => List.zipWith (fun p pj => (p - kv * pj) / lambda) row phip) r.cov k
  let tr := ((List.range 32).map (fun i => (cov.getD i []).getD i 0)).sum
  { theta := theta, cov := if cap < tr then cov.map (fun row => row.map (fun v => v * cap / tr)) else cov }

/-- Eraw_b of R66 with new weights. -/
def erawOf (w : SubWin) (wb : List Int) (sb : Nat) : Rat := w.r + (dot wb w.z : Rat) / 2 ^ sb

/-- round(16,384 × g). -/
def trimCode (g : Rat) : Nat := (roundQ (16384 * g)).toNat

/-- Sub-windows with at least 24 contributing ticks (R65). -/
def keptSubs (subs : List SubWin) : List SubWin := subs.filter (fun w => decide (24 ≤ w.n))

/-- Outcome of the trim fit: g_new and whether the trim hits its bound (R67). -/
def fitTrim (kept : List SubWin) (wb : List Int) (sb : Nat) : Rat × Bool :=
  let e := (kept.map (fun w => erawOf w wb sb)).sum
  let m : Rat := ((kept.map (fun w => w.m)).sum : Int)
  if e ≤ 0 then (5 / 4, true)
  else
    let g := m / e
    (max (3 / 4) (min (5 / 4) g), decide (g < 3 / 4) || decide (5 / 4 < g))

/-- The residual test of R67. -/
def fitOk (kept : List SubWin) (wb : List Int) (sb : Nat) (g : Rat) (floor : Nat) : Bool :=
  kept.all (fun w => decide (|g * erawOf w wb sb - w.m| * 10 ≤ max (w.m : Rat) ((w.n : Rat) * floor)))

/-- SRAM_SHARE := round(65,536 × num / den), free where M sums to 0, and held at 65,535 where it does not fit its field (R68).
(DESIGN CHOICE, log entries 127, 136.) -/
def shareCode (num den : Nat) : Nat := if den = 0 then Config.unstated 2 num % 65536 else min 65535 (divRound (65536 * num) den)

/-- Measurement lost in NORMAL or DRIFT freezes trim and recalibration (R72). -/
def Block.recalFrozen (b : Block) (f : Nat) : Bool := !(b.fu f).mValid && decide (b.rd F_EST.MODE f ≤ modeDrift)

/-- A slot's recalibration state is reset: P is 2^P0_EXP × I with the P0_EXP in force now (R66). -/
def Block.resetRls (b : Block) (f slot : Nat) : Block :=
  let e := b.rd F_EST.P0_EXP f
  b.modFu f (fun u => { u with cov := u.cov.set slot [], p0 := u.p0.set slot e })

/-- A skipped recalibration; one that a restart broke also resets the slot's least-squares state (R65, R275). -/
def Block.skipRecal (b : Block) (f slot : Nat) (broken : Bool) : Block :=
  (b.inc F_EST.RECAL_SKIP f).cond broken (fun b => b.resetRls f slot)

/-- Solve over the last complete window and keep the result for its boundary. -/
def Block.recalSolve (b : Block) (now f : Nat) (byCmd : Bool) : Block :=
  let u := b.fu f
  let dom := u.lastDom
  let kept := keptSubs u.lastSubs
  let due := if byCmd then now / 256 * 256 + 64 else (now / 256 + 1) * 256
  let b := b.modFu f (fun u => { u with recalAsk := if byCmd then none else u.recalAsk })
  if kept.length < 4 ∨ u.windowBroken then
    let b := b.skipRecal f dom u.windowBroken
    let none' : RecalResult :=
      { slot := dom, wb := [], gain := 0, share := 0, success := false, atBound := false, byCmd := true, skipped := true, lost := false, due := due }
    if byCmd then b.modFu f (fun u => { u with recal := some none' }) else b
  else
    let img := b.image f (if b.slotLoaded f dom then dom else 0)
    let sb := imgSb img
    let p0 : Rat := 2 ^ b.rd F_EST.P0_EXP f
    let cov0 := u.cov.getD dom []
    let g0 : Rat := (b.rd F_EST.GAIN_TRIM f : Rat) / 16384
    let lam : Rat := (b.rd F_EST.LAMBDA f : Rat) / 65536
    let init : Rls := { theta := (b.bypass f dom).map (fun v => (v : Rat)), cov := if cov0.isEmpty then scaledIdentity (2 ^ u.p0.getD dom 8) else cov0 }
    let r := kept.foldl (fun r w => r.step w sb g0 lam (32 * p0)) init
    let wb := r.theta.map (fun v => clampI (roundQ v) (-128) 127)
    let fit := fitTrim kept wb sb
    let good := !fit.2 && fitOk kept wb sb fit.1 (b.rd F_EST.M_FLOOR f * 2000)
    let res : RecalResult :=
      { slot := dom, wb := wb, gain := trimCode fit.1
        share := shareCode u.lastShareNum u.lastShareDen
        success := good, atBound := fit.2, byCmd := byCmd, skipped := false, lost := false, due := due }
    let b := b.modFu f (fun u => { u with cov := u.cov.set dom r.cov, recal := some res })
    if fit.2 then (b.fault 9 f 1 0).modFu f (fun u => { u with disagreeCounted := true })
    else if good then b.inc F_EST.RECAL_OK f else b.inc F_EST.RECAL_FAIL f

/-- RECAL_SOLVE: the solve of the last complete window, for RECALIBRATE once its window has ended, else while RECAL_EN
(R66, R67, R69). -/
def execRecalSolve (f : FieldNo) (s : State) : Host.Outcome State Fault Refusal :=
  onB s (fun now b =>
    let ask := match (b.fu f).recalAsk with
      | some w => decide (w < now / 256)
      | none => false
    if b.recalFrozen f then b
    else if (b.proc f).st ≠ 0 then b.cond (b.bit F_EST.RECAL_EN f) (fun b => b.skipRecal f (b.fu f).lastDom true)
    else if ask then b.recalSolve now f true
    else if b.bit F_EST.RECAL_EN f && (b.fu f).recal.isNone && decide (256 ≤ now) then b.recalSolve now f false
    else b)

/-- One field's part of RECALIBRATE is over: the command completes with the last one. -/
def Block.recalDone (b : Block) (now f : Nat) : Block :=
  b.each [0, 1, 2] (fun b pt => match b.waitOf pt with
    | .recal l => if l.erase f = [] then b.done now pt [] else b.await pt (.recal (l.erase f))
    | _ => b)

/-- Every slot's working bypass to its image weights, recalibration state reset, g to 1.0 (R69). -/
def Block.recalReset (b : Block) (f : Nat) : Block :=
  let b := b.each (List.range 4) (fun b k => if b.slotLoaded f k then b.setBypass f k (imgWb (b.image f k)) else b)
  ((b.wr F_EST.GAIN_TRIM f 16384).each (List.range 4) (fun b k => b.resetRls f k)).modFu f (fun u => { u with recalReset := false })

/-- RECAL_INSTALL: install a result that is due (R68). A success that finds MEASURED_ONLY forced changes no mode (R70). A result that
falls due while measurement is lost is dropped (R72), and one that a restart broke is skipped here (R275, Table 12.4). (DESIGN CHOICE, log entry 136.) -/
def execRecalInstall (f : FieldNo) (s : State) : Host.Outcome State Fault Refusal :=
  onB s (fun now b =>
    match (b.fu f).recal with
    | none => b
    | some r =>
      if now < r.due then b
      else
        let b := b.modFu f (fun u => { u with recal := none })
        let b := if r.lost then b.skipRecal f r.slot true
          else if r.skipped || b.recalFrozen f then b
          else
            let b := ((b.setBypass f r.slot r.wb).wr F_EST.GAIN_TRIM f r.gain).wr F_EST.SRAM_SHARE f r.share
            let b := (b.wrB F_EST.TRIM_AT_BOUND f r.atBound).wr F_EST.LAST_RECAL f now
            let held := b.bit F_EST.FORCE_MEASURED f && b.rd F_EST.MODE f == modeMeasured
            (b.modFu f (fun u => { u with recalOk := r.success && !held, boundHit := r.atBound })).shapeNumbers f
        if r.byCmd then b.recalDone now f else b)

/-- RECALIBRATE (R69). -/
def execRecalibrate (c : Cmd) (s : State) : Host.Outcome State Fault Refusal :=
  .next (runCmdB 0x62 c s none (fun now pt b =>
    let l := c.fset 0
    let b := b.each l (fun b f => b.modFu f (fun u => { u with recalAsk := some (now / 256), recalReset := u.recalReset || c.opt 0 }))
    (b.accept now pt []).await pt (.recal l)))

end Sys2Proof.Machine
end

