-- ==== Sys2Proof/Machine/Models.lean ====
section
/-!
DEFINITION. Model images: validation, loading in pieces, the swap and CLASS_MAP (R55 to R61, R380).
-/

namespace Sys2Proof.Machine

open Sys2Proof

/-- All bytes of a stretch are 0. -/
def zeros (img : List Nat) (off n : Nat) : Bool := (List.range n).all (fun k => img.getD (off + k) 0 == 0)

/-- The lowest detail code of Table 3.4 among an image's failures; none when it is valid. -/
def imageError (img : List Nat) : Option Nat :=
  let len := fieldAt img 0x08 4
  let flags := imgFlags img
  if fieldAt img 0 4 ≠ 0x334D4757 then some 1
  else if fieldAt img 4 2 ≠ 1 then some 2
  else if len % 4 ≠ 0 ∨ len < 772 ∨ 16384 < len ∨ (flags.testBit 0 ∧ len < 2116) ∨ len ≠ img.length then some 3
  else if crc32c (img.take (len - 4)) ≠ fieldAt img (len - 4) 4 then some 4
  else if 15 < imgS1 img ∨ 15 < imgS2 img ∨ 15 < imgSb img then some 5
  else if !(zeros img 0x13 1 && zeros img 0x18 40 && zeros img 0x2B0 80 && decide (flags < 4) &&
      (flags.testBit 1 || zeros img 0x270 64)) then some 6
  else if (List.range 64).any (fun k => decide (127 < img.getD (0x270 + k) 0)) then some 7
  else none

/-- Show the image of a slot's active buffer in F_MODEL, and set its working bypass to the image weights (R57). -/
def Block.showImage (b : Block) (now f slot : Nat) (img : List Nat) : Block :=
  let len := fieldAt img 0x08 4
  let b := ((b.wr (F_MODEL.SLOT_ID slot) f (fieldAt img 0x0C 4)).wr (F_MODEL.SLOT_LEN slot) f len).wr
    (F_MODEL.SLOT_CRC slot) f (fieldAt img (len - 4) 4)
  ((b.wr (F_MODEL.SLOT_TICK slot) f now).setBypass f slot (imgWb img)).resetRls f slot

/-- Slot 0 takes the default model of the firmware image, in the first buffer of the region; it is LOCKED (R56).
(DEDUCED, log entry 123.) -/
def Block.loadDefault (b : Block) (now f : Nat) (img : List Nat) : Block :=
  let b := (b.modFu f (fun u => { u with bufSel := u.bufSel.set 0 0 })).setModel (4 * f * 2) { valid := true, bytes := img }
  ((b.setFlag F_MODEL.SLOT_STATE f 0 true).setFlag F_MODEL.SLOT_STATE f 3 true).showImage now f 0 img

/-- One field's swap (R57 steps 3 and 4). -/
def Block.swapModel (b : Block) (now f slot : Nat) : Block :=
  let b := b.modFu f (fun u => { u with bufSel := u.bufSel.set slot (1 - u.bufSel.getD slot 0) })
  let b := ((b.setFlag F_MODEL.SLOT_STATE f (4 * slot + 2) false).setFlag F_MODEL.SLOT_STATE f (4 * slot + 1) false).setFlag
    F_MODEL.SLOT_STATE f (4 * slot) true
  b.showImage now f slot (b.image f slot)

/-- MODEL_SWAP: the swap in every field named by the MODEL_LOAD of a port, at its tick (R57). -/
def execModelSwap (port : CmdPort) (s : State) : Host.Outcome State Fault Refusal :=
  onB s (fun now b => match b.waitOf (portNo port) with
    | .modelSwap slot fields due =>
      if now < due then b
      else (b.each fields (fun b f => b.swapModel now f slot)).done now (portNo port) [lowBits 32 now]
    | _ => b)

/-! ### Pieces (R380) -/

/-- The image staged by port `pt` for opcode `op` and slot `slot`. -/
def Block.staged (b : Block) (pt op slot : Nat) : List Nat :=
  match b.hub.staging.find? (fun x => x.port == pt && x.op == op && x.slot == slot) with
  | some x => x.bytes
  | none => []
/-- Another port is staging pieces for the same slot. -/
def Block.stagedElsewhere (b : Block) (pt op slot : Nat) : Bool :=
  b.hub.staging.any (fun x => x.port != pt && x.op == op && x.slot == slot)
/-- Discard what port `pt` has staged. -/
def Block.unstage (b : Block) (pt op slot : Nat) : Block :=
  b.modHub (fun h => { h with staging := h.staging.filter (fun x => !(x.port == pt && x.op == op && x.slot == slot)) })
def Block.stage (b : Block) (pt op slot : Nat) (fset bytes : List Nat) : Block :=
  let old := b.staged pt op slot
  (b.unstage pt op slot).modHub (fun h => { h with staging := h.staging ++
    [{ port := pt, op := op, slot := slot, fset := fset, bytes := old ++ bytes }] })

/-- The standby buffer of a slot takes an image: valid, or marked invalid with its code (R57, Table 3.9). -/
def Block.putStandby (b : Block) (f slot : Nat) (img : List Nat) (ok : Bool) : Block :=
  (b.setModel (b.modelBuf f slot true) { valid := ok, bytes := img }).setFlag F_MODEL.SLOT_STATE f (4 * slot + 1) ok

/-- Copy, validate, and either wait for the swap or stop (R57). -/
def Block.loadImage (b : Block) (now pt slot tick : Nat) (fields : List Nat) (img : List Nat) : Block :=
  let b := b.accept now pt []
  match imageError img with
  | some e =>
    let b := b.each fields (fun b f =>
      ((b.putStandby f slot img false).wr F_MODEL.LOAD_ERR f e).wr F_MODEL.LOAD_ERR_SLOT f slot)
    b.stop now pt stBadArg (badArgDetail 5 e)
  | none =>
    let b := b.each fields (fun b f => (b.putStandby f slot img true).setFlag F_MODEL.SLOT_STATE f (4 * slot + 2) true)
    b.await pt (.modelSwap slot fields (max tick (now + 1)))

/-- MODEL_LOAD (R56 to R58, R379, R380). -/
def execModelLoad (c : Cmd) (s : State) : Host.Outcome State Fault Refusal :=
  .next (runCmd 0x60 c s none (fun pt s =>
    let now := s.tick
    let b := s.b
    let slot := c.arg 0
    let fields := c.fset 1
    let piece := readBuf s c 4
    if slot = 0 then { s with b := b.stop now pt stBadArg (badArgDetail 1 8) }
    else if fields.any (fun f => b.flag F_MODEL.SLOT_STATE f (4 * slot + 2)) ∨ b.stagedElsewhere pt 0x60 slot then
      { s with b := b.stop now pt stBusy 0 }
    else match b.bufCheck c 4 0 with
      | some r => { s with b := b.stop now pt r.1 r.2 }
      | none =>
        if !c.area then { s with b := b.loadImage now pt slot (c.tick48 7) fields piece }
        else if c.arg 9 ≠ (b.staged pt 0x60 slot).length then
          { s with b := (b.unstage pt 0x60 slot).stop now pt stBadArg (badArgDetail 10 0) }
        else
          let b := b.stage pt 0x60 slot fields piece
          if c.opt 6 then
            let img := b.staged pt 0x60 slot
            { s with b := (b.unstage pt 0x60 slot).loadImage now pt slot (c.tick48 7) fields img }
          else { s with b := b.done now pt [] }))

/-! ### CLASS_MAP (R59) -/

def mapFlds : List Fld :=
  [F_MODEL.MAP_DENSE, F_MODEL.MAP_SPARSE, F_MODEL.MAP_SPARSE_COMPAT, F_MODEL.MAP_VECTOR, F_MODEL.MAP_MOVE]

/-- Every class is mapped to a slot with a valid active buffer. -/
def Block.mapOk (b : Block) (f : Nat) (g : Fld → Nat) : Bool := mapFlds.all (fun x => b.slotLoaded f (g x))

/-- MODEL_SELECT: a page commit per field, which checks MAP_EMPTY at its boundary as a host commit does (R59, R422). -/
def execModelSelect (c : Cmd) (s : State) : Host.Outcome State Fault Refusal :=
  .next (runCmdB 0x61 c s none (fun now pt b =>
    let l := c.fset 0
    let pick (x : Fld) : Nat := bitsOf (c.arg 3) x.lo x.width
    b.cmdPages now c.sc.val pt (c.arg 4) 5 4 (l.map (fun f => ⟨0x42, f⟩))
      (l.flatMap (fun f => mapFlds.map (fun x => ⟨x, f, pick x⟩)))))

end Sys2Proof.Machine
end

