-- ==== Sys2Proof/Machine/Limits.lean ====
section
/-!
DEFINITION. The limit engine of a field: control figure, windows and allowances, the power model, the plan of the next
tick, throttle reasons, credit refill and the figures of the field report (R71, R72, R79 to R82, R87 to R91, R98, R122,
R129). Powers marked 64 are in 1/16 mW × 64, so that dyn × q / 64 is exact.
-/

namespace Sys2Proof.Machine

open Sys2Proof

/-! ### Control figure (R71) -/

/-- The control figure: power in 1/16 mW and the two currents in 1/64 A. -/
structure Control where
  power : Rat
  core : Nat
  sram : Nat
  deriving DecidableEq, Repr

/-- One rail's figure: estimate, the larger, or the measurement where it holds. In MEASURED_ONLY a tick whose measurement is not valid,
before SAFE takes effect, uses the estimate. (DESIGN CHOICE, log entry 136.) -/
def railFigure (mode : Nat) (valid : Bool) (est meas : Rat × Nat) : Rat × Nat :=
  if mode = modeNormal ∨ valid = false then est
  else if mode = modeDrift then (if est.2 < meas.2 then meas else est)
  else meas

/-- The control figure for the plan of a tick. -/
def Block.control (b : Block) (f : Nat) : Control :=
  let e := b.eField f
  let sh : Rat := b.rd F_EST.SRAM_SHARE f
  let mode := b.rd F_EST.MODE f
  let ic := b.rd F_EST.I_VCORE f
  let is := b.rd F_EST.I_VSRAM f
  let c := railFigure mode (b.bit F_EST.MEAS_VALID_CORE f) ((e : Rat) * (65536 - sh) / 65536, b.estCore f e)
    ((b.rd F_EST.V_VCORE f * ic : Nat) / (16 : Rat), ic)
  let s := railFigure mode (b.bit F_EST.MEAS_VALID_SRAM f) ((e : Rat) * sh / 65536, b.estSram f e)
    ((b.rd F_EST.V_VSRAM f * is : Nat) / (16 : Rat), is)
  { power := c.1 + s.1, core := c.2, sram := s.2 }

/-- kappa of R87. -/
def kappaOf (power : Rat) (e : Nat) : Nat := if e = 0 then 16384 else min 65535 (roundQ (16384 * power / e)).toNat

/-! ### Windows and allowances (R81, R82) -/

/-- Bring a window up to tick `n`: a tick without an entry of its own takes a copy of the one before it (R81). -/
def winAlign (l : List Nat) (newest n : Nat) : List Nat :=
  winPad (List.replicate (min 512 (n - newest)) (l.headD 0) ++ l)

/-- The entry of tick `n - 1` when the plan of tick `n + 1` is made: the figure of R71 in NORMAL and DRIFT, and in SAFE on a
rail without measurement; in MEASURED_ONLY, and in SAFE with it, the measurement replaces the entry when it is known. -/
def winFigure (mode : Nat) (valid : Bool) (entry figure : Nat) : Nat :=
  if mode = modeNormal ∨ mode = modeDrift ∨ (mode = modeSafe ∧ valid = false) then figure else entry

/-- The three allowances of one rail and its limits, 1/64 A; `l` the entries before the planned tick. -/
def allowances (fcl stl sus : Nat) (derate : Bool) (l : List Nat) : Int × Int × Int :=
  (Int.ofNat (if derate then fcl * 92 / 100 else fcl),
   Int.ofNat (16 * stl) - Int.ofNat (l.take 15).sum,
   Int.ofNat (512 * sus) - Int.ofNat (l.take 511).sum)

/-- The allowances of a rail of a field (R72, R82, R196). -/
def Block.railAllow (b : Block) (f rl : Nat) (l : List Nat) : Int × Int × Int :=
  let derate := decide (modeMeasured ≤ b.rd F_EST.MODE f)
  if rl = 0 then allowances (b.railLimit f 0 F_LIMIT.FCL_CORE) (b.railLimit f 0 F_LIMIT.STL_CORE) (b.railLimit f 0 F_LIMIT.SUS_CORE) derate l
  else allowances (b.railLimit f 1 F_LIMIT.FCL_SRAM) (b.railLimit f 1 F_LIMIT.STL_SRAM) (b.railLimit f 1 F_LIMIT.SUS_SRAM) derate l

/-- The power bound that a rail current sets, 1/16 mW × 64, floored to whole 1/16 mW (R436): `part` is the rail's share of
the power in 1/65,536. A rail without a share sets no bound. -/
def powerBound (amps : Int) (v part : Nat) : Option Int :=
  if part = 0 then none else some (64 * (amps * v * 4096 / part))

/-- A term that may set p_max: BIND code, rail, power. -/
structure Term where
  code : Nat
  rail : Nat
  power : Int
  deriving DecidableEq, Repr

/-- The first least term: ties go to the order of the list (R98). -/
def leastTerm : List Term → Term
  | [] => { code := 0, rail := 0, power := 0 }
  | x :: r => r.foldl (fun a t => if t.power < a.power then t else a) x

/-! ### The power model (R87) -/

/-- What the plan knows of one active parcel. -/
structure Load where
  slot : Nat
  base : Nat
  dyn : Nat
  cap : Nat
  /-- The cap that PL_p alone sets (R98). -/
  capPl : Nat
  crit : Bool
  weight : Nat
  held : Bool
  /-- Scaled estimate e'. -/
  scaled : Nat
  deriving DecidableEq, Repr

/-- PL_p in force (R161). -/
def Block.parcelLimit (b : Block) (f s : Nat) : Nat :=
  (b.cadE (pid f s)).localLimit * (50 - (b.parcel (pid f s)).red) / 50

/-- Subtract the prior of an ended ticket: floors 0 and IDLE_P (R87 step 3). -/
def endPrior (idle : Nat) (prior : Nat → Nat) (x : Nat × Nat) (cls : Nat) : Nat × Nat :=
  if matrixClass cls then (x.1, x.2 - prior cls) else (max idle (x.1 - prior cls), x.2)
/-- Add the prior of a started ticket (R87 step 4). -/
def startPrior (prior : Nat → Nat) (x : Nat × Nat) (cls : Nat) : Nat × Nat :=
  if matrixClass cls then (x.1, x.2 + prior cls) else (x.1 + prior cls, x.2)

/-- The ceiling that FIXED_Q and plumb mode set (R87, R223). -/
def Block.rateCeiling (b : Block) (f : Nat) : Nat :=
  min (if b.bit F_ISSUE.FIXED_Q_EN f then b.rd F_ISSUE.FIXED_Q f else 64)
    (if b.bit HUB_CONTOUR.PLUMB_ON 0 then b.rd HUB_CONTOUR.PLUMB_Q 0 else 64)

/-- Steps 1 to 6 of R87 for active slot `p` in tick `n`; `l` are the field's tickets. -/
def Block.load (b : Block) (f n kappa : Nat) (l : List (Nat × Slot)) (p : Nat) : Load :=
  let r := b.parcel (pid f p)
  let idle := b.rd F_LIMIT.IDLE_P f
  let dmax := b.rd F_LIMIT.DYN_MAX f
  let scaled := (r.e * kappa + 8192) / 16384
  let mine := onParcel l p
  let was := mine.any (fun t => matrixClass t.cls && t.heldIn (n - 1))
  let bd0 : Nat × Nat := if was then (idle, min dmax ((scaled - idle) * 512 / max 8 r.plan1.qs)) else (max scaled idle, 0)
  let bd1 : Nat × Nat := r.ends.foldl (endPrior idle (b.classPrior f)) bd0
  let now := mine.filter Slot.inForce
  let bd2 : Nat × Nat := if now.any (fun t => matrixClass t.cls) then bd1 else (bd1.1, 0)
  let bd : Nat × Nat := r.starts.foldl (startPrior (b.classPrior f)) bd2
  let dyn : Nat := min dmax bd.2
  let capPl := if dyn = 0 then 64 else (clampI (64 * ((b.parcelLimit f p : Int) - (bd.1 : Int)) / (dyn : Int)) 1 64).toNat
  { slot := p, base := bd.1, dyn := dyn, capPl := capPl
    cap := min capPl (b.rateCeiling f)
    crit := now.any (fun t => t.crit)
    weight := if now.isEmpty then 8 else 1 + (now.map (fun t => t.prio)).foldl max 0
    held := !now.isEmpty, scaled := scaled }

/-! ### The limit engine (R88) -/

/-- q(p, lam): weights count in weighted mode only, and not for a parcel with dyn = 0. -/
def qAt (weighted : Bool) (p : Load) (lam : Nat) : Nat :=
  max 1 (min p.cap (lam * (if weighted ∧ p.dyn ≠ 0 then p.weight else 8) / 8))

/-- used(g, lam), × 64. -/
def used64 (weighted : Bool) (g : List Load) (lam : Nat) : Nat := (g.map (fun p => p.dyn * qAt weighted p lam)).sum

/-- The largest lam in 0 to 512 whose use fits, by ten bisection steps. -/
def level (weighted : Bool) (g : List Load) (budget : Int) : Nat :=
  [512, 256, 128, 64, 32, 16, 8, 4, 2, 1].foldl (fun a d =>
    if a + d ≤ 512 ∧ (used64 weighted g (a + d) : Int) ≤ budget then a + d else a) 0

/-- dither: one more step for parcels of `g` in rotated slot order while it fits the residual (R88). -/
def dither (start : Nat) (g : List (Load × Nat)) (res : Int) : List (Load × Nat) :=
  let order := g.filter (fun x => decide (start ≤ x.1.slot)) ++ g.filter (fun x => decide (x.1.slot < start))
  (order.foldl (fun (a : List (Load × Nat) × Int) x =>
    if x.2 < x.1.cap ∧ (x.1.dyn : Int) ≤ a.2 then (a.1 ++ [(x.1, x.2 + 1)], a.2 - x.1.dyn) else (a.1 ++ [x], a.2)) ([], res)).1

/-- Result of one plan. -/
structure PlanOut where
  qs : List (Load × Nat)
  lamC : Nat
  lamN : Nat
  floorOver : Bool
  deriving DecidableEq, Repr

/-- Planned power of chosen rates, × 64. -/
def planned64 (l : List (Load × Nat)) : Nat := (l.map (fun x => x.1.base * 64 + x.1.dyn * x.2)).sum

/-- The distribution of R88 over active parcels `l` under p_max; HEAD_MODE 0 latency-first, 1 uniform, 2 weighted.
LAMBDA_C and LAMBDA_N of a plan that forms no such level are 0. (DESIGN CHOICE, log entry 138.) -/
def distribute (mode t : Nat) (l : List Load) (pmax : Int) : PlanOut :=
  let fl : Nat := (l.map (fun p => p.base * 64 + p.dyn)).sum
  let start := t % 672
  if pmax < Int.ofNat fl then { qs := l.map (fun p => (p, 1)), lamC := 0, lamN := 0, floorOver := true }
  else
    let h := pmax - Int.ofNat (l.map (fun p => p.base * 64)).sum
    let resid (qs : List (Load × Nat)) : Int := h - Int.ofNat (qs.map (fun x => x.1.dyn * x.2)).sum
    if mode = 0 then
      let crit := l.filter (fun p => p.crit)
      let non := l.filter (fun p => !p.crit)
      let lamC := level false crit (h - Int.ofNat (non.map (fun p => p.dyn)).sum)
      let full := crit.all (fun p => qAt false p lamC == p.cap)
      let lamN := if full then level false non (h - (used64 false crit lamC : Int)) else 0
      let qc := crit.map (fun p => (p, qAt false p lamC))
      let qn := non.map (fun p => (p, qAt false p lamN))
      let res := resid (qc ++ qn)
      { qs := if full then qc ++ dither start qn res else dither start qc res ++ qn, lamC := lamC, lamN := lamN, floorOver := false }
    else
      let w := mode == 2
      let lam := level w l h
      let qa := l.map (fun p => (p, qAt w p lam))
      { qs := dither start qa (resid qa), lamC := 0, lamN := lam, floorOver := false }

/-! ### Throttle reasons (R98) -/

/-- A stored cap lies below the wafer floor (R95). -/
def Block.unmet (b : Block) : Bool := b.bit HUB_CAP.MS_UNMET 0 || b.bit HUB_CAP.S_UNMET 0

/-- Reason of the term that set p_max. -/
def termReason (mode wafer : Nat) (t : Term) : Nat :=
  if t.code ≤ 3 then (if mode = modeDrift ∨ mode = modeMeasured then 12 else t.code)
  else if t.code = 4 then 6
  else wafer

/-- The hold timer of the field's processor has expired, and its safe setpoints and fixed credit are in force (R273). -/
def Block.holdExpired (b : Block) (f : Nat) : Bool := (b.proc f).safe
/-- The safe setpoint table is in force: SAFE mode, or an expired hold timer (R70, R273). (DEDUCED, log entry 87.) -/
def Block.safeInForce (b : Block) (f : Nat) : Bool := b.rd F_EST.MODE f == modeSafe || b.holdExpired f

/-- The safe setpoint lies below the target, or the cores are halted: the parcel is throttled under no reason (R98). -/
def Block.noReason (b : Block) (f s q : Nat) : Bool :=
  (b.safeInForce f && decide ((b.cadE (pid f s)).safeQ < q)) || ((b.agent (pid f s)).released && (b.agent (pid f s)).halted)

/-- Reason of one parcel with target `q`; 0 when it is not throttled. -/
def Block.reasonOf (b : Block) (f : Nat) (t : Term) (p : Load) (q : Nat) : Nat :=
  let bound := b.rateCeiling f
  if !p.held || decide (bound ≤ q) || b.noReason f p.slot q then 0
  else if q = p.cap ∧ p.capPl < 64 ∧ p.capPl ≤ bound then
    (if b.substituted f p.slot then 7 else 6)
  else termReason (b.rd F_EST.MODE f) (b.rd F_LIMIT.WAFER_REASON f) t

/-! ### Credit (R129, R135) -/

/-- Fixed credit (R135). -/
def Block.fixedCredit (b : Block) (f : Nat) : Bool :=
  b.bit HUB_CONTOUR.PLUMB_ON 0 || b.rd F_EST.MODE f == modeSafe || b.holdExpired f || b.bit F_TICKET.FORCE_FIXED f
/-- FIXED_REFILL in force: plumb mode sets its own (R135). -/
def Block.fixedRefill (b : Block) (f : Nat) : Nat :=
  if b.bit HUB_CONTOUR.PLUMB_ON 0 then b.rd HUB_CONTOUR.PLUMB_REFILL 0 else b.rd F_TICKET.FIXED_REFILL f

/-- Refill of each active slot, and the accumulator after it. -/
def Block.refills (b : Block) (f t : Nat) (withheld : Bool) (spare : Int) (l : List Nat) : List (Nat × Nat) × Nat :=
  let acc0 := (b.fu f).creditAcc
  if withheld then (l.map (fun s => (s, 0)), acc0)
  else if b.fixedCredit f then (l.map (fun s => (s, b.fixedRefill f)), acc0)
  else
    let acc := acc0 + spare.toNat
    let units := acc / 32000
    let r := units / l.length
    let extra := if l.isEmpty then 0 else units % l.length
    let order := l.filter (fun s => decide (t % 672 ≤ s)) ++ l.filter (fun s => decide (s < t % 672))
    let lucky := order.take extra
    (l.map (fun s => (s, min 65535 r + (if lucky.contains s then 1 else 0))), acc % 32000)

/-! ### The report and its temperatures (R20, R90, R153, R160, R165) -/

/-- 1/16 mW × 64 in 1/8 W. -/
def eighthW (p : Int) : Nat := min 65535 (p / 128000).toNat

/-- The band code after one tick (R165). -/
def bandBound (k : Nat) : Int := [0, 0, 200, 360, 520, 680, 800, 880].getD k 0
def bandFall (tmax : Int) : Nat → Nat
  | 0 => 0
  | n + 1 => if tmax < bandBound (n + 1) - 16 then bandFall tmax n else n + 1
def bandNextOf (code : Nat) (tmax : Int) : Nat :=
  let rise := ((List.range 8).filter (fun k => k != 0 && decide (bandBound k ≤ tmax))).foldl max 0
  if code < rise then rise else bandFall tmax code

/-- The report that leaves at offset 1,520: last plan's figures, last measurement, this tick's temperatures. -/
def Block.formReport (b : Block) (f : Nat) : Block :=
  let tmax := b.fieldTmax f
  let c := b.control f
  let u := b.fu f
  let rep : Report :=
    { floor := b.rd F_LIMIT.FLOOR f, demand := b.rd F_LIMIT.DEMAND f, critDemand := b.rd F_LIMIT.CRIT_DEMAND f, tmax := tmax
      band := b.rd F_THERM.BAND f, mValid := u.mValid
      power := if u.mValid then b.rd F_EST.M_FIELD f else c.power.floor.toNat
      arrived := b.bit (F_RAIL.ARRIVED 0) f && b.bit (F_RAIL.ARRIVED 1) f, 
      haltArrived := (keysIn b.agents (pid f 0) 672).all (fun k => (b.agent k).halted || !(b.agent k).released), repeated := false, triggered := u.trigReport }
  let all := (b.slotReadings f).map Prod.snd ++ b.benchReadings f
  let warn : Int := 8 * b.rd F_THERM.WARN_C f
  let clear : Int := warn - 8 * b.rd F_THERM.WARN_HYS f
  let b := ((b.wrZ F_THERM.T_MAX f tmax).wrZ F_THERM.T_MEAN f (b.fieldTmean f)).wr F_THERM.T_MAX_SLOT f (b.hottest f).1
  let slot := if (b.slotReadings f).isEmpty || decide ((b.hottest f).2 < tmax) then 0x3FF else (b.hottest f).1
  b.modFu f (fun u => { u with
    tNow := (tmax, b.fieldTmean f, slot), report := rep, trigReport := false, bandNext := bandNextOf (b.rd F_THERM.BAND f) tmax
    sawWarn := all.any (fun t => decide (warn < t)), sawAboveClear := all.any (fun t => decide (clear ≤ t)) })

/-! ### The plan of a tick -/

/-- q_ramp over the eight ramp intervals of the planned tick: their sum and the last value (R77, R87). -/
def rampSum (target step ramp : Nat) : Nat × Nat :=
  (List.range 8).foldl (fun a _ =>
    let r := if target ≤ a.2 then target else min target (a.2 + step)
    (a.1 + r, r)) (0, ramp)

/-- Shift a parcel's plans and put a new one. -/
def Parcel.pushPlan (p : Parcel) (n : Plan) : Parcel := { p with plan := n, plan1 := p.plan, plan2 := p.plan1 }

/-- Put the plan of one slot. -/
def Block.putPlan (b : Block) (f s q base dyn cap refill reason : Nat) (crit : Bool) : Block :=
  b.modParcel (pid f s) (fun p =>
    let r := rampSum q (b.rd F_ISSUE.RISE_STEP f) p.plan.ramp
    p.pushPlan { q := q, qs := r.1, ramp := r.2, base := base, dyn := dyn, cap := cap, crit := crit, reason := reason, refill := refill })

/-- PREDICT_MISS and PREDICT_IDLE of one parcel for tick `n - 1` (R122). (DEDUCED, log entry 22.) -/
def Block.predictions (b : Block) (f : Nat) (p : Load) : Block :=
  let r := b.parcel (pid f p.slot)
  let pl := r.plan1.base * 64 + r.plan1.dyn * r.plan1.q
  let miss := r.unt || (decide (5 * pl < 4 * (64 * p.scaled)) && decide (pl + 128 * b.rd F_LIMIT.IDLE_P f < 64 * p.scaled))
  let idle := decide (0 < r.plan1.dyn) && r.recC.getD 0 0 + r.recC.getD 1 0 + r.recC.getD 2 0 == 0
  (b.cond miss (fun b => b.inc F_DROOP.PREDICT_MISS f)).cond idle (fun b => b.inc F_DROOP.PREDICT_IDLE f)

/-- Power and reason bounds of the planned tick: the terms of R88 and R98 in their tie order. -/
def Block.terms (b : Block) (f : Nat) (core sram : List Nat) : List Term :=
  let a := b.railAllow f 0 core
  let c := b.railAllow f 1 sram
  let sh := b.rd F_EST.SRAM_SHARE f
  let pc (amps : Int) := powerBound amps (b.datumV f 0) (65536 - sh)
  let ps (amps : Int) := powerBound amps (b.datumV f 1) sh
  let mk (code rail : Nat) (p : Option Int) : List Term := (p.map (fun x => { code := code, rail := rail, power := x })).toList
  mk 1 0 (pc a.1) ++ mk 1 1 (ps c.1) ++ mk 2 0 (pc a.2.1) ++ mk 2 1 (ps c.2.1) ++ mk 3 0 (pc a.2.2) ++ mk 3 1 (ps c.2.2)

/-- The limit registers of a plan. -/
def Block.putLimits (b : Block) (f t : Nat) (w : Term) (o : PlanOut) (allowC allowS : Int) (pc ps : Nat) : Block :=
  let b := (((b.wr F_LIMIT.BIND f w.code).wr F_LIMIT.BIND_RAIL f w.rail).wr F_LIMIT.LAMBDA_C f o.lamC).wr F_LIMIT.LAMBDA_N f o.lamN
  let b := ((b.wr F_LIMIT.PRED_CORE f (pc / 16)).wr F_LIMIT.PRED_SRAM f (ps / 16)).wr F_LIMIT.ALLOW_CORE f (allowC.toNat / 16)
  (b.wr F_LIMIT.ALLOW_SRAM f (allowS.toNat / 16)).wr F_LIMIT.PLAN_TICK f t

/-- The mean registers of the windows, 1/4 A. -/
def Block.putAverages (b : Block) (f : Nat) : Block :=
  let u := b.fu f
  let b := (b.wr F_LIMIT.AVG_SUS_CORE f ((u.winCore.take 512).sum / 512 / 16)).wr F_LIMIT.AVG_STL_CORE f ((u.winCore.take 16).sum / 16 / 16)
  (b.wr F_LIMIT.AVG_SUS_SRAM f ((u.winSram.take 512).sum / 512 / 16)).wr F_LIMIT.AVG_STL_SRAM f ((u.winSram.take 16).sum / 16 / 16)

/-- FLOOR, DEMAND and CRIT_DEMAND (R90). -/
def Block.putDemand (b : Block) (f : Nat) (l : List Load) (elec therm : Int) : Block :=
  let fl : Nat := (l.map (fun p => p.base * 64 + p.dyn)).sum
  let dem := min (Int.ofNat (l.map (fun p => p.base * 64 + p.dyn * p.cap)).sum) (min elec therm)
  let crit := min (Int.ofNat (fl + ((l.filter (fun p => p.crit)).map (fun p => p.dyn * (p.cap - 1))).sum)) dem
  ((b.wr F_LIMIT.FLOOR f (eighthW (Int.ofNat fl))).wr F_LIMIT.DEMAND f (eighthW dem)).wr F_LIMIT.CRIT_DEMAND f (eighthW crit)

/-- The limit engine plans tick `now + 1` (R88, R89, R98, R129). -/
def Block.limitPlan (b : Block) (now f : Nat) : Block :=
  let b := b.formReport f
  let t := now + 1
  let out := b.isOut f
  let mode := b.rd F_EST.MODE f
  let ctl := b.control f
  let kappa := kappaOf ctl.power (b.eField f)
  let u := b.fu f
  let okC := b.bit F_EST.MEAS_VALID_CORE f
  let okS := b.bit F_EST.MEAS_VALID_SRAM f
  let wc0 := winAlign u.winCore u.winTick now
  let ws0 := winAlign u.winSram u.winTick now
  let wc := wc0.set 1 (winFigure mode okC (wc0.getD 1 0) ctl.core)
  let ws := ws0.set 1 (winFigure mode okS (ws0.getD 1 0) ctl.sram)
  let acts := b.actives f
  let tickets := b.slotsOf f
  let loads := acts.map (b.load f now kappa tickets)
  let elecTerms := b.terms f wc ws
  let elec := (leastTerm elecTerms).power
  let therm : Int := 128000 * b.rd F_LIMIT.THERM_LIM f
  let budget : Int := 128000 * b.rd F_LIMIT.BUDGET f
  let w := leastTerm (elecTerms ++ [{ code := 4, rail := 0, power := therm }, { code := 5, rail := 0, power := budget }])
  let o0 := distribute (b.rd HUB_CAP.HEAD_MODE 0) t loads w.power
  let held := out || b.unmet
  let o : PlanOut := if held then { o0 with qs := loads.map (fun p => (p, 1)), floorOver := o0.floorOver } else o0
  let plan := planned64 o.qs
  let sh := b.rd F_EST.SRAM_SHARE f
  let pc := 16 * plan * (65536 - sh) / (64 * 65536 * b.datumV f 0)
  let ps := 16 * plan * sh / (64 * 65536 * b.datumV f 1)
  let quiesced := b.bit HUB_CAP.QUIESCED 0
  let ref := b.refills f t (out || o.floorOver || quiesced) (w.power - plan) acts
  let allow (rl : Nat) : Int :=
    let a := b.railAllow f rl (if rl = 0 then wc else ws)
    min a.1 (min a.2.1 a.2.2)
  let oldBind := (b.rd F_LIMIT.BIND f, b.rd F_LIMIT.BIND_RAIL f)
  let oldOver := b.bit F_LIMIT.FLOOR_OVER f
  let sel := b.rd F_ISSUE.PARCEL_SEL f
  let b := b.each loads (fun b p => b.predictions f p)
  let b := b.each acts (fun b s =>
    let r := (b.parcel (pid f s)).recC
    b.add2 F_ISSUE.ISSUE_LO F_ISSUE.ISSUE_HI f (r.getD 0 0 + r.getD 1 0 + r.getD 2 0))
  let reason (p : Load) (q : Nat) : Nat := b.reasonOf f w p q
  let done := o.qs.map (fun x => (x, reason x.1 x.2))
  let b := b.each done (fun b x =>
    b.putPlan f x.1.1.slot x.1.2 x.1.1.base x.1.1.dyn x.1.1.cap (mget 0 ref.1 x.1.1.slot) x.2 x.1.1.crit)
  let b := b.each (allSlots.filter (fun s => !b.active f s)) (fun b s => b.putPlan f s 1 0 0 64 0 0 false)
  let b := b.each allSlots (fun b s => b.modParcel (pid f s) (fun p => { p with starts := [], ends := [] }))
  let b := b.modFu f (fun u => { u with
    selIssue := sel, winTick := t, winCore := (pc :: wc).take 512, winSram := (ps :: ws).take 512, planCore := pc, planSram := ps, pMax := eighthW w.power, creditAcc := ref.2 })
  let b := (b.putLimits f t w o (allow 0) (allow 1) pc ps).putAverages f
  let b := b.putDemand f loads elec therm
  let b := (b.wrB F_LIMIT.FLOOR_OVER f o.floorOver).wrB F_LIMIT.REFILL_HELD f (out || o.floorOver || quiesced)
  let b := b.cond o.floorOver (fun b => b.inc F_LIMIT.FLOOR_OVER_TICKS f)
  let b := b.wr F_TICKET.FIELD_CREDIT f (ref.1.map Prod.snd).sum
  let b := b.wr F_ISSUE.THROTTLED f (done.filter (fun x => x.2 != 0)).length
  let b := b.wr F_ISSUE.MEAN_Q f (quot 3 (256 * (o.qs.map Prod.snd).sum) acts.length)
  let pm := eighthW w.power
  let fig (rail : Nat) : Nat := if rail = 0 then ctl.core / 16 else ctl.sram / 16
  let b := b.cond (decide (oldBind ≠ (w.code, w.rail))) (fun b => b.limitRecord f now 1900 0 (fig w.rail) pm)
  let b := b.cond (!oldOver && o.floorOver) (fun b => b.limitRecord f now 1900 3 (fig w.rail) pm)
  b.cond (oldOver && !o.floorOver) (fun b => b.limitRecord f now 1900 4 (fig w.rail) pm)

/-- LIMIT_PLAN (R88). A tick that has overrun abandons its plan (R36). -/
def execLimitPlan (f : FieldNo) (s : State) : Host.Outcome State Fault Refusal :=
  onB s (fun now b => b.cond (!(b.fu f).overran) (fun b => b.limitPlan now f))

/-! ### Overrun (R36) -/

/-- Set the bit of a field in OVR_MAP0 to OVR_MAP2 and the record of the latest overrun. -/
def Block.markOverrun (b : Block) (now f : Nat) : Block :=
  let b := if f < 32 then b.setFlag HUB_TICK.OVR_MAP0 0 f true
    else if f < 64 then b.setFlag HUB_TICK.OVR_MAP1 0 (f - 32) true
    else b.setFlag HUB_TICK.OVR_MAP2 0 (f - 64) true
  (b.wr HUB_TICK.OVR_LAST_SRC 0 f).wr HUB_TICK.OVR_LAST_TICK 0 now

/-- A slot's plan repeats its last target, and its agent keeps q_set and receives the refill of the tick before (R36). -/
def Block.repeatPlan (b : Block) (f s : Nat) (planned : Bool) : Block :=
  let b := b.modParcel (pid f s) (fun p =>
    let old := if planned then p.plan1 else p.plan
    let r := rampSum old.q (b.rd F_ISSUE.RISE_STEP f) old.ramp
    let n : Plan := { old with qs := r.1, ramp := r.2 }
    if planned then { p with plan := n, starts := [], ends := [] } else { p.pushPlan n with starts := [], ends := [] })
  b.modAgent (pid f s) (fun a => { a with qNext := a.qTarget, refill := a.lastRefill })

/-- TICK_OVERRUN: the tick's unfinished work is abandoned, and the report is the field's own of the tick before (R36). The windows'
entry for the tick that was to be planned copies the one before it (R81). (DESIGN CHOICE, log entry 137.) -/
def execTickOverrun (f : FieldNo) (s : State) : Host.Outcome State Fault Refusal :=
  onB s (fun now b => b.cond (!(b.fu f).overran) (fun b =>
    let planned := decide ((b.fu f).winTick = now + 1)
    let b := b.each allSlots (fun b x => b.repeatPlan f x planned)
    let b := b.modFu f (fun u =>
      let c := if planned then u.winCore.tail else winAlign u.winCore u.winTick now
      let r := if planned then u.winSram.tail else winAlign u.winSram u.winTick now
      { u with
        overran := true, winTick := now + 1, winCore := (c.headD 0 :: c).take 512, winSram := (r.headD 0 :: r).take 512
        report := { u.reportPrev with repeated := true } })
    (b.markOverrun now f).fault 23 f 0 1930))

/-- SET_FIELD_LIMITS (R80). -/
def execSetFieldLimits (c : Cmd) (s : State) : Host.Outcome State Fault Refusal :=
  .next (runCmdB 0x11 c s none (fun now pt b =>
    let l := c.fset 0
    let w : List (Fld × Nat) :=
      [(F_LIMIT.STL_CORE, c.arg 3 / 65536), (F_LIMIT.FCL_CORE, c.arg 3), (F_LIMIT.SUS_CORE, c.arg 4), (F_LIMIT.STL_SRAM, c.arg 5 / 65536),
       (F_LIMIT.FCL_SRAM, c.arg 5), (F_LIMIT.SUS_SRAM, c.arg 6), (F_LIMIT.FPL, c.arg 7)]
    b.cmdPages now c.sc.val pt (c.arg 8) 9 4 (l.map (fun f => ⟨0x43, f⟩))
      (l.flatMap (fun f => w.map (fun x => ⟨x.1, f, x.2⟩)))))

end Sys2Proof.Machine
end

