-- ==== Sys2Proof/Machine/CapDivision.lean ====
section
/-!
DEFINITION. The hub's side of the survey net: field reports, the wafer power windows, the division of the wafer budget,
budget frames and their loss (R20 to R22, R33, R37, R83 to R86, R92 to R95).
-/

namespace Sys2Proof.Machine

open Sys2Proof

/-- FIELD_REPORT: a report reaches the hub; with a bad CRC the previous one stands (R20, R21). A trigger that it carries is
broadcast in the next budget frames (R249). (DESIGN CHOICE, log entry 68.) -/
def execFieldReport (f : FieldNo) (crcOk : Bool) (s : State) : Host.Outcome State Fault Refusal :=
  onB s (fun now b =>
    if crcOk then
      let rep := (b.fu f).report
      let b := b.modHub (fun h => { h with
        reports := mput Report.zero h.reports f rep, arrived := if h.arrived.contains f.val then h.arrived else f.val :: h.arrived })
      if rep.triggered then
        ((b.modHub (fun h => { h with wtrig := true, wtrigField := f })).wr HUB_TRACE.TRIG_TICK 0 now).wr HUB_TRACE.TRIG_FIELD 0 f
      else b
    else (b.modHub (fun h => { h with reportBad := f.val :: h.reportBad })).fault 22 255 0xFF 0)

/-! ### Wafer windows (R84 to R86) -/

/-- The report of a field that the division uses. -/
def Block.repOf (b : Block) (f : Nat) : Report := mget Report.zero b.hub.reports f

/-- WAFER_OVH in mW. -/
def Block.overhead (b : Block) : Nat := 10000 * b.rd HUB_CAP.WAFER_OVH 0

/-- Entries of ticks up to `n`, newest first: a tick without a division of its own takes the last planned value; before the
first division every budget is 0. (DEDUCED, log entry 67.) -/
def Block.pwAlign (b : Block) (n : Nat) : List Nat :=
  let h := b.hub
  if h.pw.isEmpty then List.replicate (n + 1) b.overhead
  else List.replicate (n - h.pwTick) h.planned ++ h.pw

/-- Measured p_w of the reports held: the sum over fields of M_f, plus WAFER_OVH (R84). (DEDUCED, log entry 67.) -/
def Block.measuredPw (b : Block) : Nat := (allFields.map (fun f => (b.repOf f).power)).sum / 16 + b.overhead

/-- PCAP_MS in force, mW: lowered while coolant flow is lost (R85, R167). -/
def Block.capMs (b : Block) : Nat :=
  let p := b.rd HUB_CAP.PCAP_MS 0
  10000 * (if b.bit HUB_CAP.FLOW_CUT 0 then p * b.rd HUB_COOL.FLOW_PCT 0 / 100 else p)

/-- Ticks of the PCAP_S window of tick `t`, `t` included (R85, R86). -/
def spanS (t : Nat) : Nat := t + 1 - (t / 512 - 953) * 512

/-- A window allowance for tick `t`: `l` the entries before `t`, newest first; `span` the window's ticks, `t` included. -/
def windowAllow (cap span : Nat) (l : List Nat) : Int := Int.ofNat (span * cap) - Int.ofNat (l.take (span - 1)).sum

/-- A_MS, A_ST and A_S for tick `t`. -/
def Block.waferAllow (b : Block) (t : Nat) (l : List Nat) : Int × Int × Int :=
  (windowAllow b.capMs (min 512 (t + 1)) l,
   windowAllow (10000 * b.rd HUB_CAP.CEIL_ST 0) (min 16 (t + 1)) l,
   windowAllow (10000 * b.rd HUB_CAP.PCAP_S 0) (spanS t) l)

/-- The window that sets B_w: 1 PCAP_MS, 2 PCAP_S, 3 CEIL_ST, ties in the order PCAP_MS, CEIL_ST, PCAP_S (R93). -/
def bindingOf (a : Int × Int × Int) : Nat :=
  if a.1 ≤ a.2.1 ∧ a.1 ≤ a.2.2 then 1 else if a.2.1 ≤ a.2.2 then 3 else 2

/-! ### The division (R92) -/

/-- Sum of the second components. -/
def sumOf (l : List (Nat × Nat)) : Nat := (l.map Prod.snd).sum

/-- The largest level whose use fits, by 16 bisection steps. -/
def fillLevel (need : List (Nat × Nat)) (avail : Nat) : Nat :=
  ((List.range 16).map (fun k => 2 ^ (15 - k))).foldl (fun a d =>
    if (need.map (fun x => min x.2 (a + d))).sum ≤ avail then a + d else a) 0

/-- fill(need, avail): what each field gets. -/
def fill (need : List (Nat × Nat)) (avail : Nat) : List (Nat × Nat) :=
  if sumOf need ≤ avail then need else need.map (fun x => (x.1, min x.2 (fillLevel need avail)))

/-- Add the gifts of one fill. -/
def addGifts (give gifts : List (Nat × Nat)) : List (Nat × Nat) := List.zipWith (fun g x => (g.1, g.2 + x.2)) give gifts

/-- Divide `bw` (1/8 W) among the fields in service; every list runs over the 84 fields. -/
def Block.divide (b : Block) (bw : Int) : List (Nat × Nat) :=
  let figure (g : Report → Nat) : List (Nat × Nat) := allFields.map (fun f => (f, if b.isOut f then 0 else g (b.repOf f)))
  let want (give : List (Nat × Nat)) (g : Report → Nat) : List (Nat × Nat) :=
    List.zipWith (fun x y => (x.1, y.2 - x.2)) give (figure g)
  let g0 := figure Report.floor
  let avail0 := (bw - Int.ofNat (sumOf g0)).toNat
  let gifts1 := if b.rd HUB_CAP.HEAD_MODE 0 = 0 then fill (want g0 Report.critDemand) avail0 else g0.map (fun x => (x.1, 0))
  let g1 := addGifts g0 gifts1
  let avail1 := avail0 - sumOf gifts1
  let gifts2 := fill (want g1 Report.demand) avail1
  let g2 := addGifts g1 gifts2
  let avail2 := avail1 - sumOf gifts2
  let n := b.inService.length
  g2.map (fun x => (x.1, if b.isOut x.1 then 0 else min 65535 (x.2 + avail2 / n)))

/-- Every field its floor, while a stored cap lies below the wafer floor (R95). -/
def Block.floorsOnly (b : Block) : List (Nat × Nat) :=
  allFields.map (fun f => (f, if b.isOut f then 0 else (b.repOf f).floor))

/-- The wafer reason code (R93). -/
def Block.waferReason (b : Block) (binding : Nat) : Nat :=
  if b.unmet then 11 else if binding = 2 then 5 else if b.bit HUB_CAP.FLOW_CUT 0 then 10 else 4

/-- The division that the hub makes in tick `n`, for the power of tick `n + 2` (R85, R92). BUDGET_W shows 0 for a negative B_w and
saturates at its width. (DESIGN CHOICE, log entry 138.) -/
def Block.capDivision (b : Block) (n : Nat) : Block :=
  let old := b.pwAlign (n + 1)
  let m := b.measuredPw
  let before := if 3 ≤ n then old.set 4 m else old
  let a := b.waferAllow (n + 2) before
  let bind := bindingOf a
  let bw := min a.1 (min a.2.1 a.2.2) - Int.ofNat b.overhead
  let gives := if b.unmet then b.floorsOnly else b.divide (bw / 125)
  let planned := 125 * (gives.map (fun x => if b.isOut x.1 then 0 else max x.2 (b.repOf x.1).floor)).sum + b.overhead
  let pw := (planned :: before).take (953 * 512 + 512)
  let mean (span : Nat) : Nat := (pw.take span).sum / span
  let b := b.modHub (fun h => { h with
    gives := gives.filter (fun x => x.2 != 0), reason := b.waferReason bind, framesSent := true, pw := pw, pwTick := n + 2, planned := planned })
  let b := ((b.wr HUB_CAP.BINDING 0 bind).wr HUB_CAP.BUDGET_W 0 (min (2 ^ 32 - 1) bw.toNat)).wr HUB_CAP.DIV_TICK 0 n
  let b := if 3 ≤ n then b.wr HUB_CAP.P_TICK 0 m else b
  ((b.wr HUB_CAP.AVG_MS 0 (mean (min 512 (n + 3)))).wr HUB_CAP.AVG_ST 0 (mean (min 16 (n + 3)))).wr HUB_CAP.AVG_S 0
    (mean (spanS (n + 2)))

/-- CAP_DIVISION (R92). -/
def execCapDivision (s : State) : Host.Outcome State Fault Refusal := onB s (fun now b => b.capDivision now)

/-- HUB_TICK_OVERRUN: the budget frames of this tick were not sent by offset 400 (R37). -/
def execHubTickOverrun (s : State) : Host.Outcome State Fault Refusal :=
  onB s (fun now b =>
    let b := b.modHub (fun h => { h with framesSent := false })
    let b := ((b.wr HUB_TICK.OVR_HUB 0 1).wr HUB_TICK.OVR_LAST_SRC 0 0xFF).wr HUB_TICK.OVR_LAST_TICK 0 now
    (b.inc HUB_CAP.DIV_OVR 0).fault 23 255 1 400)

/-! ### Budget frames (R21, R22, R33) -/

/-- BUDGET_FRAME: a good frame's budget waits for the next boundary; a field's copy of wafer time is checked against the
frame's 16 low bits; acknowledged drain frames are let go (R231); a wafer trigger is noted (R249).
(DESIGN CHOICE, log entry 68.) -/
def execBudgetFrame (f : FieldNo) (crcOk : Bool) (s : State) : Host.Outcome State Fault Refusal :=
  onB s (fun now b =>
    if !crcOk then b.fault 22 f 0xFF 0
    else
      let u := b.fu f
      let wrong := !u.resync && lowBits 16 u.copy != lowBits 16 now
      let b := b.modFu f (fun u => { u with
        copy := if u.resync then now else u.copy, resync := wrong
        budgetNext := if b.hub.framesSent then some (mget 0 b.hub.gives f, b.hub.reason) else u.budgetNext
        drainKept := u.drainKept.filter (fun d => decide (u.drainApplied < d.seqNo))
        wtrig := u.wtrig || b.hub.wtrigCast })
      b.cond wrong (fun b => b.fault 22 f 0xFF 0))

/-! ### SET_WAFER_CAP (R83, R95) -/

/-- Shadow writes of SET_WAFER_CAP. -/
def capWrites (c : Cmd) : List ShadowWrite :=
  (if c.opt 0 then [⟨HUB_CAP.PCAP_S, 0, c.arg 0 / 65536⟩, ⟨HUB_CAP.PCAP_MS, 0, c.arg 0⟩] else []) ++
  (if c.opt 1 then [⟨HUB_CAP.QUIESCE, 0, c.arg 1 / 4⟩, ⟨HUB_CAP.HEAD_MODE, 0, c.arg 1⟩] else [])

/-- SET_WAFER_CAP; it completes at its effect, DONE or UNMET (R83, R95, Table 16.3). (DEDUCED, log entry 35.) -/
def execSetWaferCap (c : Cmd) (s : State) : Host.Outcome State Fault Refusal :=
  .next (runCmdB 0x10 c s none (fun now pt b =>
    if (capWrites c).isEmpty then b.stop now pt stBadArg (badArgDetail 0 0)
    else b.cmdPages now c.sc.val pt (c.arg 2) 3 (if c.opt 0 then 1 else 2) [⟨0x1C, 0⟩] (capWrites c)))

end Sys2Proof.Machine
end

