-- ==== Sys2Proof/Machine/Agents.lean ====
section
/-!
DEFINITION. Parcel agents: the issue gate, the applied rate, droop clamps, ramp shaping and staggering (R19, R75, R77, R78,
R102 to R107, R114 to R121).
-/

namespace Sys2Proof.Machine

open Sys2Proof

/-! ### Issue gate (R75) -/

/-- One engine cycle of a gate accumulator at rate `q`: the new value and whether the gate is open. -/
def gateCycle (q acc : Nat) : Nat × Bool := if 64 ≤ acc + q then (acc + q - 64, true) else (acc + q, false)

/-- Accumulator and number of open cycles after `n` engine cycles at rate `q`. -/
def gateRun (q : Nat) : Nat → Nat → Nat × Nat
  | 0, acc => (acc, 0)
  | n + 1, acc =>
    let r := gateCycle q acc
    let t := gateRun q n r.1
    (t.1, t.2 + r.2.toNat)

/-! ### Applied rate (R19) -/

/-- q_shape as applied: 1 while the parcel waits for release (R115, R119). -/
def Agent.shape (a : Agent) : Nat := if a.waiting.isSome then 1 else a.climb

/-- The terms of R19 but q_droop. -/
def Block.otherRate (b : Block) (f s : Nat) : Nat :=
  let a := b.agent (pid f s)
  let plumb := if b.bit HUB_CONTOUR.PLUMB_ON 0 then b.rd HUB_CONTOUR.PLUMB_Q 0 else 64
  let safe := if b.safeInForce f then (b.cadE (pid f s)).safeQ else 64
  let trip := if b.hub.forcedQ then 1 else 64
  min a.qRamp (min a.shape (min plumb (min safe trip)))

/-- The rate that an agent applies. -/
def Block.applied (b : Block) (f s : Nat) : Nat := max 1 (min (b.agent (pid f s)).qDroop (b.otherRate f s))

/-- The gates of an agent run on to engine cycle `ec` of the tick at rate `q`: the accumulators, and the gates of the last cycle.
(DESIGN CHOICE, log entry 120.) -/
def Agent.runGates (a : Agent) (q ec : Nat) : Agent :=
  if ec ≤ a.gateEc then a
  else
    let n := ec - a.gateEc
    { a with
      acc := a.acc.map (fun x => (x + n * q) % 64), gates := a.acc.map (fun x => (gateCycle q ((x + (n - 1) * q) % 64)).2), gateEc := ec }

/-- A parcel's gates run to engine cycle `ec`, while the engine clock does. -/
def Block.gatesTo (b : Block) (f s ec : Nat) : Block :=
  b.cond b.hub.clockOn (fun b => b.modAgent (pid f s) (fun a => a.runGates (b.applied f s) ec))

/-- Engine cycles of a tick before the first engine edge at or after survey-cycle offset `sc` (R34). -/
def Block.ecAt (b : Block) (sc : Nat) : Nat := (sc * b.mhz + 999) / 1000

/-! ### Detectors and clamps (R102 to R107) -/

/-- Is a detector armed? From the agent's release until its cadastre entry marks it failed (R103). -/
def Block.armedA (b : Block) (f s : Nat) : Bool := (b.agent (pid f s)).released && !(b.cadE (pid f s)).detAFail
def Block.armedB (b : Block) (f s : Nat) : Bool := (b.agent (pid f s)).released && !(b.cadE (pid f s)).detBFail

/-- A window in which the readings are ignored: 8 ec after a band change, 32 ec after a contour step (R104). -/
def Block.blind (b : Block) (now f ec : Nat) : Bool :=
  ((b.fu f).bandTick == some now && decide (ec < 8)) || (b.hub.stepTick == some now && decide (ec < 32))

/-- Queue an event word: a fifth one adds to the repeat count of the newest word of its kind (R244). -/
def queueWord (l : List DroopWord) (w : DroopWord) : List DroopWord :=
  if l.length < 4 then l ++ [w]
  else match (l.reverse.findIdx? (fun x => x.t2 == w.t2)) with
    | some k =>
      let i := l.length - 1 - k
      l.modify i (fun x => { x with repeats := min 63 (x.repeats + 1) })
    | none => l

/-- A load of q_droop that the gates do not follow yet in engine cycle `ec` of tick `now`, the tick before having had `n` cycles. -/
def loadAhead (now n ec : Nat) (l : Nat × Nat × Nat) : Bool :=
  (l.1 == now && decide (ec < l.2.1)) || (l.1 + 1 == now && decide (n + ec < l.2.1))

/-- The q_droop that the gates follow in that cycle: the value before the first load that is still ahead (R105). -/
def Agent.droopAt (a : Agent) (now n ec : Nat) : Nat := ((a.loads.find? (loadAhead now n ec)).map (fun l => l.2.2)).getD a.qDroop

/-- The detector that gave the reading is armed. -/
def Block.armedBy (b : Block) (f s : Nat) (second : Bool) : Bool := if second then b.armedB f s else b.armedA f s

/-- A margin event of an agent: T1 halves the rate applied in the cycle of detection into q_droop, T2 sets it to 1; the gates follow
from the 6th and the 4th cycle after it (R105, R106). A reading of a detector that is not armed is no margin (R103). -/
def Block.droopEvent (b : Block) (now f s : Nat) (t2 second : Bool) (margin ec : Nat) : Block :=
  let limit := if t2 then b.rd F_DROOP.T2_MARGIN f else b.rd F_DROOP.T1_MARGIN f
  if !b.armedBy f s second || b.blind now f ec || decide (limit ≤ margin) then b
  else
    let b := b.gatesTo f s ec
    let n := (b.fu f).nEc
    let app := max 1 (min ((b.agent (pid f s)).droopAt now n ec) (b.otherRate f s))
    b.modAgent (pid f s) (fun a =>
      let q := if t2 then 1 else min a.qDroop (max 1 (app / 2))
      { a with
        loads := a.loads.filter (loadAhead now n ec) ++ [(now, ec + (if t2 then 4 else 6), a.qDroop)]
        qDroop := q, clamp := if t2 then 2 else max 1 a.clamp, releasing := false
        droopReason := if t2 ∨ a.clamp = 2 then 9 else max 8 a.droopReason
        marginMin := min a.marginMin margin
        words := queueWord a.words
          { t2 := t2, ec := ec, second := second, margin := margin, qSet := q, qApp := app, repeats := 0, tick := now } })

/-- DROOP_T1_EVENT (R105). -/
def execDroopT1Event (f : FieldNo) (p : SlotNo) (second : Bool) (margin : BitVec 6) (ec : BitVec 12) (s : State) :
    Host.Outcome State Fault Refusal :=
  onB s (fun now b => b.droopEvent now f p false second margin.toNat ec.toNat)

/-- DROOP_T2_EVENT (R105). -/
def execDroopT2Event (f : FieldNo) (p : SlotNo) (second : Bool) (margin : BitVec 6) (ec : BitVec 12) (s : State) :
    Host.Outcome State Fault Refusal :=
  onB s (fun now b => b.droopEvent now f p true second margin.toNat ec.toNat)

/-- CLAMP_RELEASE_COUNT: RELEASE_EC clear cycles have passed, and q_droop rises from the next ramp mark (R106). -/
def execClampReleaseCount (f : FieldNo) (p : SlotNo) (s : State) : Host.Outcome State Fault Refusal :=
  onB s (fun _ b => b.modAgent (pid f p) (fun a => { a with releasing := a.clamp != 0 }))

/-- A droop record (Table 11.2): the offset is floor(ec / f) (R242). -/
def Block.droopRecord (b : Block) (f s : Nat) (w : DroopWord) : Block :=
  b.record f w.tick (w.ec * 1000 / b.mhz) (if w.t2 then 0x09 else 0x08) (pid f s) 0 w.ec
    (w.repeats * 2 ^ 26 + w.second.toNat * 2 ^ 24 + w.qSet * 2 ^ 16 + w.qApp * 2 ^ 8 + w.margin)

/-- The field unit receives an event word: it counts 1 + repeat count and writes one record (R107, R244). -/
def Block.takeWord (b : Block) (f s : Nat) (w : DroopWord) : Block :=
  let n := 1 + w.repeats
  let b := b.add F_TRACE.MERGED f w.repeats
  let b := if w.t2 then ((b.add F_DROOP.T2_EVENTS f n).addSat F_DROOP.T2_BLOCK f n).wr F_DROOP.LAST_T2_TICK f w.tick
    else b.add F_DROOP.T1_EVENTS f n
  b.droopRecord f s w

/-- DROOP_EVENT_WORD: the oldest word of an agent reaches its field unit (R107). -/
def execDroopEventWord (f : FieldNo) (p : SlotNo) (s : State) : Host.Outcome State Fault Refusal :=
  onB s (fun _ b => match (b.agent (pid f p)).words with
    | [] => b
    | w :: rest => (b.modAgent (pid f p) (fun a => { a with words := rest })).takeWord f p w)

/-! ### Parcel starts, shaping and staggering (R114 to R121) -/

/-- A RUNNING ticket of a matrix class on a parcel. -/
def Block.matrixRunning (b : Block) (f p : Nat) : Bool :=
  (onParcel (b.slotsOf f) p).any (fun t => t.running && matrixClass t.cls)

/-- STEP_c in force (R117). -/
def Block.stepOf (b : Block) (f cls : Nat) : Nat :=
  match cls with
  | 2 => b.rd F_DROOP.STEP_SPARSE f
  | 3 => b.rd F_DROOP.STEP_COMPAT f
  | _ => b.rd F_DROOP.STEP_DENSE f

/-- Start step of a parcel: ceil(STEP_c × min(16, q_ramp) / 16) (R117), with q_ramp as the word finds it.
(DEDUCED, log entry 128.) -/
def Block.startStep (b : Block) (f s cls : Nat) : Nat := (b.stepOf f cls * min 16 (b.agent (pid f s)).qRamp + 15) / 16

/-- Release: the climb starts at 16, unless one was running at the start, whose value is taken (R115). -/
def Agent.release (a : Agent) (shapeOn : Bool) : Agent :=
  let ran := a.shaping || (match a.waiting with
    | some w => w.climbing
    | none => false)
  let a := { a with waiting := none }
  if ran then a else if shapeOn then { a with climb := 16, shaping := true } else a

/-- A parcel start (R114, R119 to R121). -/
def Block.parcelStart (b : Block) (f s cls : Nat) (crit unticketed : Bool) : Block :=
  let stagger := b.bit F_DROOP.STAGGER_ON f
  let shape := b.bit F_DROOP.SHAPE_ON f
  b.modAgent (pid f s) (fun a =>
    let a := { a with idle := false }
    if stagger && !unticketed then { a with
      waiting := some { cls := cls, crit := crit, marks := 0, delayed := false, climbing := a.shaping } }
    else
      let a := if stagger then { a with debit := a.debit ++ [(cls, false)] } else a
      a.release shape)

/-- A critical ticket that starts on a waiting parcel makes it critical (R118). -/
def Block.waitCritical (b : Block) (f s : Nat) (crit : Bool) : Block :=
  b.modAgent (pid f s) (fun a => { a with waiting := a.waiting.map (fun w => { w with crit := w.crit || crit }) })

/-- PARCEL_IDLE: IDLE_EC cycles without issue and no matrix ticket RUNNING (R114, R121). A start that waits goes on waiting and draws,
though its ticket has ended. (DESIGN CHOICE, log entry 139.) -/
def execParcelIdle (f : FieldNo) (p : SlotNo) (s : State) : Host.Outcome State Fault Refusal :=
  onB s (fun _ b =>
    if b.matrixRunning f p then b else b.modAgent (pid f p) (fun a => { a with idle := true, unticketed := false }))

/-- UNTICKETED_START: an issue request on an idle parcel without a matrix ticket RUNNING (R121). -/
def execUnticketedStart (f : FieldNo) (p : SlotNo) (s : State) : Host.Outcome State Fault Refusal :=
  onB s (fun _ b =>
    let a := b.agent (pid f p)
    if !a.released || !a.idle || b.matrixRunning f p then b
    else
      let b := b.parcelStart f p 1 false true
      (b.modAgent (pid f p) (fun a => { a with unticketed := true, unticketedInTick := true })).inc F_DROOP.UNTICKETED f)

/-- SHAPE_STEP: SHAPE_EC cycles have passed since the last step of the climb (R115). -/
def execShapeStep (f : FieldNo) (p : SlotNo) (s : State) : Host.Outcome State Fault Refusal :=
  onB s (fun _ b => b.modAgent (pid f p) (fun a =>
    if a.shaping then { a with climb := min 64 (a.climb + 1), shaping := decide (a.climb + 1 < 64) } else a))

/-! ### The allowance word (R118, R119) -/

/-- One forced or unticketed start debits its step. -/
def Block.debitOne (b : Block) (f s : Nat) (d : Nat × Bool) : Block :=
  let n := b.startStep f s d.1
  b.modRing (ringOf f s) (fun r => { r with
    allow := r.allow - n, resv := if d.2 then r.resv - n else r.resv, drawn := r.drawn + n })

/-- A passing word meets a parcel that was forced or started unticketed: every step still owed is debited. -/
def Block.debitPass (b : Block) (f s : Nat) : Block :=
  let l := (b.agent (pid f s)).debit
  if l.isEmpty then b
  else (b.modAgent (pid f s) (fun a => { a with debit := [] })).each l (fun b d => b.debitOne f s d)

/-- The word passes a waiting parcel, which draws its step or does not. -/
def Block.drawPass (b : Block) (f s : Nat) : Block :=
  match (b.agent (pid f s)).waiting with
  | none => b
  | some w =>
    let r := b.ring (ringOf f s)
    let d := b.startStep f s w.cls
    let room := if w.crit then decide (d ≤ r.allow) else decide (r.resv + d ≤ r.allow)
    if room then
      let shape := b.bit F_DROOP.SHAPE_ON f
      let b := b.modAgent (pid f s) (fun a => a.release shape)
      let b := b.modRing (ringOf f s) (fun r => { r with
        allow := r.allow - d, resv := if w.crit then r.resv - d else r.resv, drawn := r.drawn + d })
      if w.delayed then b.inc F_DROOP.STAGGER_DELAYED f else b
    else
      let b := b.modAgent (pid f s) (fun a => { a with waiting := some { w with delayed := true } })
      if w.crit then b.modRing (ringOf f s) (fun r => { r with nextCrit := r.nextCrit + d }) else b

/-- ALLOWANCE_WORD_PASS (R118). -/
def execAllowanceWordPass (f : FieldNo) (p : SlotNo) (s : State) : Host.Outcome State Fault Refusal :=
  onB s (fun _ b => (b.debitPass f p).drawPass f p)

/-! ### Ramp marks (R77, R78, R106, R119) -/

/-- One agent at a ramp mark. The rates rise; the other terms of R19 are those after q_ramp has moved. A clamp is held while
the readings are ignored (R104). -/
def Block.rampAgent (b : Block) (f s : Nat) (held : Bool) : Block :=
  let rise := b.rd F_ISSUE.RISE_STEP f
  let maxMarks := b.rd F_DROOP.STAGGER_MAX f
  let shape := b.bit F_DROOP.SHAPE_ON f
  let b := b.modAgent (pid f s) (fun a =>
    { a with qRamp := if a.qRamp < a.qTarget then min a.qTarget (a.qRamp + rise) else a.qRamp })
  let b := match (b.agent (pid f s)).waiting with
    | none => b
    | some w =>
      if maxMarks ≤ w.marks + 1 then
        let b := b.modAgent (pid f s) (fun a => { a with debit := a.debit ++ [(w.cls, w.crit)] }.release shape)
        (b.inc F_DROOP.STAGGER_DELAYED f).inc F_DROOP.STAGGER_FORCED f
      else b.modAgent (pid f s) (fun a => { a with waiting := some { w with marks := w.marks + 1 } })
  let a := b.agent (pid f s)
  if a.releasing && !held then
    let q := min 64 (a.qDroop + rise)
    let other := b.otherRate f s
    b.modAgent (pid f s) (fun a =>
      if other ≤ q then { a with qDroop := 64, clamp := 0, releasing := false } else { a with qDroop := q })
  else b

/-- Slots of a field whose agent is not as at reset. -/
def Block.liveAgents (b : Block) (f : Nat) : List Nat := (keysIn b.agents (pid f 0) 672).map (fun k => k - pid f 0)

/-- RAMP_MARK (R78): every ring's ALLOW is RING_ALLOW again (R118). -/
def execRampMark (k : Fin 8) (s : State) : Host.Outcome State Fault Refusal :=
  onB s (fun now b => b.each allFields (fun b f =>
    let held := b.blind now f (256 * k.val * b.mhz / 1000)
    let b := b.each (b.liveAgents f) (fun b x => (b.gatesTo f x (b.ecAt (256 * k.val))).rampAgent f x held)
    b.each (List.range 12) (fun b r => b.modRing (12 * f + r) (fun x => { x with allow := b.rd F_DROOP.RING_ALLOW f }))))

end Sys2Proof.Machine
end

