-- ==== Sys2Proof/Machine/Regulator.lean ====
section
/-!
DEFINITION. The rails of a field: datum selection and contour targets, slew and arrival, modulation, braking, shedding and
restoring of phases, current balance, protection and the last-fault record (R174 to R201).
-/

namespace Sys2Proof.Machine

open Sys2Proof

/-- Number of a rail (Table 8.6). -/
def railNo : Rail → Nat
  | .core => 0
  | .sram => 1

/-- Rail of a phase. -/
def phaseRail (p : Nat) : Nat := if p < 16 then 0 else 1

/-! ### Phase states (R175) -/

def phActive : Nat := 0
def phShed : Nat := 1
def phDisabled : Nat := 2
def phFailed : Nat := 3

/-- Phases of a rail in a state, ascending. -/
def Block.phasesIn (b : Block) (f rl st : Nat) : List Nat := (railPhases rl).filter (fun p => b.rd (F_PHASE.STATE p) f == st)
def Block.nActive (b : Block) (f rl : Nat) : Nat := (b.phasesIn f rl phActive).length

/-- Put a phase into a state; the dwell of its rail starts again when the set of ACTIVE phases changes (R180). -/
def Block.setPhaseState (b : Block) (now f p st : Nat) : Block :=
  let changes := (b.rd (F_PHASE.STATE p) f == phActive) != (st == phActive)
  let b := b.wr (F_PHASE.STATE p) f st
  let b := b.cond (st != phActive) (fun b => b.modPhase (phOf f p) (fun x => { x with balWhole := false }))
  b.cond changes (fun b => b.modRail (railOf f (phaseRail p)) (fun r => { r with dwellFrom := now }))

/-- Every SHED phase that over-temperature does not hold becomes ACTIVE (R181). -/
def Block.restoreAll (b : Block) (now f rl : Nat) : Block :=
  let l := (b.phasesIn f rl phShed).filter (fun p => !b.bit (F_PHASE.HELD_OT p) f)
  if l.isEmpty then b else (b.each l (fun b p => b.setPhaseState now f p phActive)).inc (F_RAIL.RESTORE_ALL rl) f

/-- Every enabled phase that has not FAILED is ACTIVE (R193, and R180 without shedding). -/
def Block.allActive (b : Block) (now f rl : Nat) (held : Bool) : Block :=
  let l := (b.phasesIn f rl phShed).filter (fun p => held || !b.bit (F_PHASE.HELD_OT p) f)
  b.each l (fun b p => b.setPhaseState now f p phActive)

/-- Shedding and adding at a tick boundary (R180); with SHED_EN = 0 a phase that over-temperature holds is ACTIVE too. (DESIGN CHOICE,
log entry 142.) -/
def Block.shedAdd (b : Block) (now f rl : Nat) : Block :=
  if !b.bit (F_RAIL.ON rl) f || b.bit (F_RAIL.SOFTSTART rl) f then b
  else if !b.bit (F_RAIL.SHED_EN rl) f then b.allActive now f rl true
  else
    let hist := if rl = 0 then (b.fu f).hist16Core else (b.fu f).hist16Sram
    let ok := if rl = 0 then b.bit F_EST.MEAS_VALID_CORE f else b.bit F_EST.MEAS_VALID_SRAM f
    let dwell := decide ((b.rail (railOf f rl)).dwellFrom + b.rd (F_RAIL.DWELL rl) f ≤ now)
    if b.bit (F_RAIL.SLEWING rl) f || b.bit (F_RAIL.BRAKING rl) f || !ok || !dwell || hist.isEmpty then b
    else
      let n := b.nActive f rl
      let unit := 64 * hist.length * n
      if hist.sum < b.rd (F_RAIL.SHED_A rl) f * unit ∧ b.rd (F_RAIL.MIN_PHASES rl) f < n then
        match (b.phasesIn f rl phActive).getLast? with
        | some p => (b.setPhaseState now f p phShed).inc (F_RAIL.SHED_EVENTS rl) f
        | none => b
      else if b.rd (F_RAIL.ADD_A rl) f * unit < hist.sum then
        match (b.phasesIn f rl phShed).find? (fun p => !b.bit (F_PHASE.HELD_OT p) f) with
        | some p => (b.setPhaseState now f p phActive).inc (F_RAIL.ADD_EVENTS rl) f
        | none => b
      else b

/-- The condition of a restore (R181). The fast trigger is the analogue side's. -/
def Block.restoreDue (b : Block) (f rl : Nat) (why : RestoreCause) : Bool :=
  let limit := 64 * b.nActive f rl * b.rd (F_RAIL.ADD_A rl) f
  b.bit (F_RAIL.ON rl) f && (match why with
    | .predicted => decide (limit < (if rl = 0 then (b.fu f).planCore else (b.fu f).planSram))
    | .committed => rl == 0 && decide (limit < b.rd F_EST.I_VCORE f + (b.fu f).committedRise)
    | .fast => true)

/-- PHASE_RESTORE_ALL (R181). -/
def execPhaseRestoreAll (f : FieldNo) (r : Rail) (why : RestoreCause) (s : State) : Host.Outcome State Fault Refusal :=
  onB s (fun now b => b.cond (b.restoreDue f (railNo r) why) (fun b => b.restoreAll now f (railNo r)))

/-- ALLOWANCE_WORD_RETURN: the committed rise grows by four times the step drawn (R181); the next revolution starts with
RESV := NEXT and NEXT := 0 (R118). -/
def execAllowanceWordReturn (f : FieldNo) (r : RingNo) (s : State) : Host.Outcome State Fault Refusal :=
  onB s (fun _ b =>
    let x := b.ring (12 * f + r)
    (b.modFu f (fun u => { u with committedRise := u.committedRise + 4 * x.drawn })).modRing (12 * f + r) (fun x =>
      { x with drawn := 0, resv := x.nextCrit, nextCrit := 0 }))

/-! ### Datums and targets (R184 to R191) -/

/-- Voltage of a datum code, 0.25 mV. -/
def codeV (code : Nat) : Nat := 2000 + 20 * code

/-- Contour points that the voltage must serve: the one in force, every pending one, and in the tick of a falling step the one before
it, whose targets stay until the next boundary (R191). -/
def Block.points (b : Block) (now : Nat) : List Nat :=
  (if b.hub.stepTick = some now ∧ b.point < b.hub.stepOld then [b.hub.stepOld] else []) ++ b.point :: b.hub.steps.map (fun x => x.point)

/-- VCORE target code of a point: Vmin plus 25 mV or 60 mV, limited to 90 (R109, R186). -/
def Block.coreCode (b : Block) (wide : Bool) (k : Nat) : Nat :=
  min 90 (b.rd (HUB_CONTOUR.VMIN_FUSED k) 0 + b.rd (HUB_CONTOUR.VMIN_ADJ k) 0 + (if wide then 12 else 5))

/-- Target codes of a field: the highest over the points; VSRAM at least VCORE, limited to 100 (R186, R191). -/
def Block.targetCodes (b : Block) (now f : Nat) : Nat × Nat :=
  let c := ((b.points now).map (b.coreCode (b.fu f).wide)).foldl max 0
  let v := ((b.points now).map (fun k => b.rd (HUB_CONTOUR.VSRAM_CODE k) 0)).foldl max 0
  (c, min 100 (max v c))

/-- Select a datum of a rail: TARGET, ARRIVED and SLEWING follow a target that changes; one that changes while the reference slews, in a
soft start too, is a retarget (R189). A DATUM record is written (Table 11.2). -/
def Block.select (b : Block) (now f rl k : Nat) : Block :=
  let slewing := b.bit (F_RAIL.SLEWING rl) f
  let ref := (b.rail (railOf f rl)).refv
  let code := b.rd (F_RAIL.DATUM rl k) f
  let moved := b.rd (F_RAIL.TARGET rl) f != codeV code
  let b := (b.wr (F_RAIL.VSEL rl) f k).wr (F_RAIL.TARGET rl) f (codeV code)
  let on := ((b.rail (railOf f rl)).run == 1 || (b.rail (railOf f rl)).run == 2) && moved
  let b := b.cond (on && slewing) (fun b => b.inc (F_RAIL.RETARGETS rl) f)
  let b := b.cond on (fun b => (b.wrB (F_RAIL.ARRIVED rl) f false).wrB (F_RAIL.SLEWING rl) f (ref != 2 * codeV code))
  b.record f now 0 0x11 (srcField f) (if slewing then 1 else 0) (code * 16 + k * 2 + rl) (codeV code * 65536 + ref / 2)

/-- The contour sequencer's datum of the rail holds a code and is selected. -/
def Block.seqHolds (b : Block) (f rl code : Nat) : Bool :=
  let sel := b.rd (F_RAIL.VSEL rl) f
  decide (sel < 2) && b.rd (F_RAIL.DATUM rl sel) f == code

/-- The contour sequencer moves a rail to a target code: it writes the datum among D0 and D1 that is not selected, and
selects it (R186). -/
def Block.seqSelect (b : Block) (now f rl code : Nat) : Block :=
  let k := if b.rd (F_RAIL.VSEL rl) f = 0 then 1 else 0
  (b.wr (F_RAIL.DATUM rl k) f code).select now f rl k

/-- Select the targets of both rails, once the sequencers have taken over: a new target of either rail moves both (R186, R359). -/
def Block.retarget (b : Block) (now f : Nat) : Block :=
  let t := b.targetCodes now f
  if !b.hub.takenOver || (b.seqHolds f 0 t.1 && b.seqHolds f 1 t.2) then b
  else (b.seqSelect now f 0 t.1).seqSelect now f 1 t.2

/-- CONTOUR_TARGET_SELECT (R191). -/
def execContourTargetSelect (f : FieldNo) (s : State) : Host.Outcome State Fault Refusal :=
  onB s (fun now b => (b.retarget now f).shapeNumbers f)

/-- Where a rail's reference is going, 0.125 mV: its selected datum, or 0 V while it stops. -/
def Block.refTarget (b : Block) (f rl : Nat) : Nat :=
  if (b.rail (railOf f rl)).run = 3 then 0 else 2 * b.rd (F_RAIL.TARGET rl) f

/-- One 0.625 mV step from `ref` toward `target`. -/
def stepToward (ref target : Nat) : Nat := if ref < target then min target (ref + 5) else max target (ref - 5)

/-- Coincident tracking withholds a step that would part the references: in a soft start VSRAM's while VCORE, short of its target,
lies below it; in a stop VCORE's while it lies below VSRAM (R193). (DEDUCED, log entry 117.) -/
def Block.trackHolds (b : Block) (f rl : Nat) : Bool :=
  let c := (b.rail (railOf f 0)).refv
  let apart := decide (c < (b.rail (railOf f 1)).refv)
  let run := (b.rail (railOf f rl)).run
  b.bit (F_RAIL.TRACK_MODE 0) f && apart &&
    ((run == 1 && rl == 1 && c != b.refTarget f 0) || (run == 3 && rl == 0))

/-- The rates of R193, by whole ticks: under ratiometric tracking a soft start reaches its target, and a stop 0 V, at SS_TIME and not
before; in a coincident soft start both references rise at VCORE's target over its SS_TIME. (DEDUCED, log entry 117.) -/
def Block.rateAllows (b : Block) (now f rl next : Nat) : Bool :=
  let x := b.rail (railOf f rl)
  let lead := if b.bit (F_RAIL.TRACK_MODE 0) f then 0 else rl
  let elapsed := (now + 1 - x.runFrom.1) * 2048
  let span := b.rd (F_RAIL.SS_TIME lead) f * 1000
  if x.run = 1 then decide (next * span ≤ b.refTarget f lead * elapsed)
  else if x.run = 3 ∧ b.bit (F_RAIL.TRACK_MODE 0) f = false then decide ((x.runFrom.2 - next) * span ≤ x.runFrom.2 * elapsed)
  else true

/-- REF_SLEW_STEP: one step toward the target; a step that would cross the other rail's reference is withheld (R188, R192), and
one that the tracking of R193 does not allow. (DEDUCED, log entry 117.) -/
def execRefSlewStep (f : FieldNo) (r : Rail) (s : State) : Host.Outcome State Fault Refusal :=
  onB s (fun now b =>
    let rl := railNo r
    let x := b.rail (railOf f rl)
    let next := stepToward x.refv (b.refTarget f rl)
    let crosses := if rl = 0 then decide ((b.rail (railOf f 1)).refv < next) else decide (next < (b.rail (railOf f 0)).refv)
    if x.run = 0 ∨ x.run = 4 ∨ next = x.refv ∨ crosses ∨ b.trackHolds f rl ∨ b.rateAllows now f rl next = false then b
    else ((b.modRail (railOf f rl) (fun x => { x with refv := next })).wr (F_RAIL.REF rl) f (next / 2)).wrB (F_RAIL.SLEWING rl) f
      (next != b.refTarget f rl))

/-- RAIL_ARRIVAL: the reference equals its target and VOUT lies within ARRIVE_MV, in a soft start too; the arrival of VCORE ends a
margin-mode transition (R112, R190). -/
def execRailArrival (f : FieldNo) (r : Rail) (s : State) : Host.Outcome State Fault Refusal :=
  onB s (fun now b =>
    let rl := railNo r
    let x := b.rail (railOf f rl)
    if (x.run ≠ 1 ∧ x.run ≠ 2) ∨ x.refv ≠ b.refTarget f rl ∨ b.bit (F_RAIL.ARRIVED rl) f then b
    else
      let b := ((b.wrB (F_RAIL.ARRIVED rl) f true).inc (F_RAIL.ARRIVALS rl) f).wr (F_RAIL.ARRIVAL_TICK rl) f now
      b.cond (rl == 0 && b.bit F_DROOP.TRANSITION f) (fun b =>
        (b.wrB F_DROOP.TRANSITION f false).wrB F_DROOP.MODE_IN_FORCE f (b.fu f).wide))

/-- A field's pair has arrived (R190). -/
def Block.pairArrived (b : Block) (f : Nat) : Bool := b.bit (F_RAIL.ARRIVED 0) f && b.bit (F_RAIL.ARRIVED 1) f

/-! ### Modulation (R176 to R178, R194) -/

/-- RAMP in mV × 10⁶ at survey cycle `t`: linear over 1 / (n_active × fsw), then held (R178). (DEDUCED, log entry 15.) -/
def Block.rampAt (b : Block) (f rl t : Nat) : Nat :=
  b.rd (F_RAIL.RAMP_MV rl) f *
    min 1000000 ((t - (b.rail (railOf f rl)).rampFrom) * b.nActive f rl * b.rd (F_RAIL.FSW rl) f)

/-- On-time of a phase, in steps of 0.125 ns (R177). -/
def Block.onTime (b : Block) (f rl p : Nat) : Nat :=
  let vin := if (b.fu f).vinValid && (b.fu f).vin != 0 then (b.fu f).vin else 12000
  (Int.ofNat (b.rd (F_RAIL.KTRIM rl) f * (b.rail (railOf f rl)).refv * 1000000) * (1024 + b.rdZ (F_PHASE.BAL_TRIM p) f) /
    Int.ofNat (16384 * vin * b.rd (F_RAIL.FSW rl) f * 1024)).toNat

/-- I_lim exceeded at VOUT in 0.25 mV: OC_LIMIT down to half the reference, then linear to OC_FOLD (R194).
(DEDUCED, log entry 69.) -/
def Block.overLimit (b : Block) (f rl vout amps : Nat) : Bool :=
  let lim := b.rd (F_RAIL.OC_LIMIT rl) f
  let fold := b.rd (F_RAIL.OC_FOLD rl) f
  let ref := (b.rail (railOf f rl)).refv
  if ref ≤ 4 * vout then decide (lim < amps)
  else decide (fold * ref + (lim - fold) * (4 * vout) < amps * ref)

/-- The phases of a rail in rotation order from its next phase. -/
def Block.rotation (b : Block) (f rl : Nat) : List Nat :=
  let nxt := (b.rail (railOf f rl)).nextPhase
  let l := b.phasesIn f rl phActive
  l.filter (fun p => decide (nxt ≤ p)) ++ l.filter (fun p => decide (p < nxt))

/-- A pulse is withheld from a phase in the switching period of survey cycle `t` (R194). -/
def Block.withhold (b : Block) (f rl p t : Nat) : Block :=
  let period := t * b.rd (F_RAIL.FSW rl) f / 1000000
  b.modPhase (phOf f p) (fun x =>
    if x.foldRun ≠ 0 ∧ x.foldPeriod = period then { x with foldTick := true }
    else if x.foldRun ≠ 0 ∧ x.foldPeriod + 1 = period then { x with foldRun := x.foldRun + 1, foldPeriod := period, foldTick := true }
    else { x with foldRun := 1, foldPeriod := period, foldTick := true
                  ocHeld := x.ocHeld && decide (period < x.foldPeriod + 257) })

/-- MODULATOR_TRIGGER: with VOUT + RAMP below VREF, the next ACTIVE phase that has rested 60 ns and is within I_lim takes an
on-pulse (R176, R194). -/
def execModulatorTrigger (f : FieldNo) (r : Rail) (t : Nat) (vout : BitVec 16) (amps : Vector (BitVec 8) 20) (s : State) :
    Host.Outcome State Fault Refusal :=
  onB s (fun _ b =>
    let rl := railNo r
    let x := b.rail (railOf f rl)
    let aboveLim (p : Nat) : Bool := b.overLimit f rl vout.toNat (amps.toList.getD p 0).toNat
    let low := decide (2 * vout.toNat * 1000000 + 8 * b.rampAt f rl t < x.refv * 1000000)
    if x.run = 0 ∨ b.bit (F_RAIL.BRAKING rl) f ∨ !low then b
    else
      let order := (b.rotation f rl).filter (fun p => decide ((b.phase (phOf f p)).pulseEnd + 480 ≤ 8 * t))
      let passed := order.takeWhile aboveLim
      let b := b.each passed (fun b p => b.withhold f rl p t)
      match order.find? (fun p => !aboveLim p) with
      | none => b
      | some p =>
        let on := b.onTime f rl p
        (b.modPhase (phOf f p) (fun x => { x with pulseEnd := 8 * t + on })).modRail (railOf f rl) (fun x =>
          { x with rampFrom := t, nextPhase := p + 1 }))

/-- BRAKE_START (R182). -/
def execBrakeStart (f : FieldNo) (r : Rail) (s : State) : Host.Outcome State Fault Refusal :=
  onB s (fun _ b =>
    let rl := railNo r
    if (b.rail (railOf f rl)).run = 0 ∨ b.bit (F_RAIL.BRAKING rl) f ∨ !b.bit (F_RAIL.BRAKE_EN rl) f then b
    else (b.wrB (F_RAIL.BRAKING rl) f true).inc (F_RAIL.BRAKE_EVENTS rl) f)

/-- BRAKE_END: the modulator resumes with the ramp at 0 (R182). -/
def execBrakeEnd (f : FieldNo) (r : Rail) (t : Nat) (s : State) : Host.Outcome State Fault Refusal :=
  onB s (fun _ b =>
    let rl := railNo r
    b.cond (b.bit (F_RAIL.BRAKING rl) f) (fun b =>
      (b.wrB (F_RAIL.BRAKING rl) f false).modRail (railOf f rl) (fun x => { x with rampFrom := t })))

/-- PH_PWM of a phase is driven, not at the mid level (R174, R175, R182). -/
def Block.pwmDriven (b : Block) (f p : Nat) : Bool :=
  let rl := phaseRail p
  (b.rail (railOf f rl)).run != 0 && b.rd (F_PHASE.STATE p) f == phActive && !b.bit (F_RAIL.BRAKING rl) f

/-- PH_PWM of a phase at survey cycle `t`: high during its on-pulse, low between pulses, mid while it is not driven (R174). -/
def Block.pwmLevel (b : Block) (f p t : Nat) : PwmLevel :=
  if !b.pwmDriven f p then .mid else if 8 * t < (b.phase (phOf f p)).pulseEnd then .high else .low

/-! ### Current balance (R179) -/

/-- The trim of one phase after a period: `sum` its IMON sum, `total` that of the `n` phases, over `ticks` ticks each. -/
def balanceTrim (trim sum total : Int) (n ticks step : Nat) : Int :=
  let d := sum * n - total
  if |total| < 20 * |d| ∧ 64 * n * ticks < |d| then clampI (if 0 < d then trim - step else trim + step) (-128) 127 else trim

/-- BALANCE_PERIOD_END: once at each multiple of 64, trims of the phases that were ACTIVE throughout, when the processor ran throughout (R179, R275);
PHASE_OT is counted again for a hot phase that could not be spared (R195). -/
def execBalancePeriodEnd (f : FieldNo) (r : Rail) (s : State) : Host.Outcome State Fault Refusal :=
  onB s (fun now b =>
    let rl := railNo r
    let running := (b.proc f).st == 0
    if now % 64 ≠ 0 ∨ (b.rail (railOf f rl)).balAt = some now then b else
    let whole := running && !(b.rail (railOf f rl)).balBroken
    let l := (b.phasesIn f rl phActive).filter (fun p => (b.phase (phOf f p)).balWhole && (b.phase (phOf f p)).balTicks != 0)
    let total := (l.map (fun p => (b.phase (phOf f p)).balSum)).sum
    let step := b.rd F_PHASE.BAL_STEP f
    let b := b.cond whole (fun b => b.each l (fun b p =>
      let x := b.phase (phOf f p)
      b.modPhase (phOf f p) (fun x' => { x' with
        trimNext := some (balanceTrim (b.rdZ (F_PHASE.BAL_TRIM p) f) x.balSum total l.length x.balTicks step) })))
    let hot := (b.phasesIn f rl phActive).filter (fun p => decide (b.rd F_PHASE.OT_C f < b.rd (F_PHASE.TMON p) f))
    let b := b.each hot (fun b p => (b.inc F_PHASE.OT_EVENTS f).fault 13 f p 0)
    let b := b.each (railPhases rl) (fun b p =>
      let act := b.rd (F_PHASE.STATE p) f == phActive
      b.modPhase (phOf f p) (fun x => { x with balSum := 0, balTicks := 0, balWhole := act }))
    b.modRail (railOf f rl) (fun x => { x with balBroken := !running, balAt := some now }))

/-! ### Faults of phases and rails (R183, R194 to R200) -/

/-- Bits of the phases for which `g` holds. -/
def phaseBits (g : Nat → Bool) : Nat := ((List.range 20).filter g).foldl (fun a p => a + 2 ^ p) 0

/-- The 124 bytes of a last-fault record before its CRC (Table 8.6). (DEDUCED, log entry 70.) -/
def Block.lastFaultBytes (b : Block) (now f cause rail phase : Nat) (i : LastFaultIn) : List Nat :=
  let rc := b.rail (railOf f 0)
  let rs := b.rail (railOf f 1)
  let code (rl : Nat) : Nat := b.rd (F_RAIL.DATUM rl (b.rd (F_RAIL.VSEL rl) f)) f
  leBytes 2 0x80 ++ [1, b.rd F_PHASE.LF_COUNT f % 256] ++ leBytes 6 now ++ leBytes 2 i.sc.val ++ [f, cause, rail, phase] ++
  leBytes 2 i.vin.toNat ++ leBytes 2 i.vCore.toNat ++ leBytes 2 i.vSram.toNat ++ leBytes 2 (rc.refv / 2) ++ leBytes 2 (rs.refv / 2) ++
  [b.rd (F_RAIL.VSEL 0) f + 8 * b.rd (F_RAIL.VSEL 1) f, (if rc.run = 1 then 0 else if rc.run = 3 then 2 else 1)] ++
  leBytes 2 (code 0) ++ leBytes 2 (code 1) ++ (i.iph.toList.flatMap (fun v => leBytes 2 v.toNat)) ++ i.tph.toList.map (·.toNat) ++
  leBytes 4 i.foldback.toNat ++ leBytes 4 i.faultPins.toNat ++
  leBytes 4 (phaseBits (fun p => b.rd (F_PHASE.STATE p) f == phActive)) ++ leBytes 4 i.elapsed.toNat ++
  [b.point, b.rd F_DROOP.MODE_IN_FORCE f] ++ List.replicate 14 0

/-- Take a last-fault record and queue it for the field's slots (R200). (DEDUCED, log entry 70.) -/
def Block.lastFault (b : Block) (now f cause rail phase : Nat) (i : LastFaultIn) : Block :=
  let b := ((b.inc F_PHASE.LF_COUNT f).wr F_PHASE.LF_TICK f now).wr F_PHASE.LF_CAUSE f cause
  let bytes := b.lastFaultBytes now f cause rail phase i
  b.monRecord { tier := 2, code := 0x80, tick := now, offset := i.sc.val, source := f, suppressed := 0, flags := 0
                seqNo := b.rd F_PHASE.LF_COUNT f % 256, data := bytes ++ leBytes 4 (crc32c bytes), whole := true }

/-- The agents of a field lose their supply: they stand in their reset state (R11). -/
def Block.agentsOff (b : Block) (f : Nat) : Block :=
  { b with agents := b.agents.filter (fun e => !(decide (pid f 0 ≤ e.1) && decide (e.1 < pid f 0 + 672))) }

/-- The rundown count starts when the last rail of the wafer has fallen (R168). -/
def Block.startRundown (b : Block) (now : Nat) : Block :=
  b.cond (b.rails.all (fun e => e.2.run == 0) && b.hub.rundownFrom.isNone)
    (fun b => b.modHub (fun h => { h with rundownFrom := some now }))

/-- A rail no longer regulates. -/
def Block.railFlagsOff (b : Block) (f rl : Nat) : Block :=
  b.each [F_RAIL.ON rl, F_RAIL.SOFTSTART rl, F_RAIL.PGOOD rl, F_RAIL.SLEWING rl, F_RAIL.BRAKING rl, F_RAIL.ARRIVED rl]
    (fun b x => b.wrB x f false)
/-- A rail is off: every phase at the mid level, no reference. -/
def Block.railOff (b : Block) (f rl : Nat) : Block :=
  ((b.railFlagsOff f rl).wr (F_RAIL.REF rl) f 0).modRail (railOf f rl) (fun x => { x with run := 0, refv := 0, uvCounted := false })

/-- Both rails of a field are off. -/
def Block.pairOff (b : Block) (f : Nat) : Block :=
  (((b.railOff f 0).railOff f 1).agentsOff f).modFu f (fun u => { u with
    calStep := 0, releaseDue := false, startDone := u.started, latchAt := none })

/-- The pair carries voltage: it is starting, regulating or stopping. -/
def Block.pairUp (b : Block) (f : Nat) : Bool := (b.rail (railOf f 0)).run != 0 || (b.rail (railOf f 1)).run != 0

/-- A field's pair is at 0 V: RAIL_DISABLE commands that wait for it go on, or complete. (DEDUCED, log entry 71.) -/
def Block.disableDone (b : Block) (now f : Nat) : Block :=
  b.each [0, 1, 2] (fun b pt => match b.waitOf pt with
    | .disable l p => if l.erase f = [] then b.done now pt [] else b.await pt (.disable (l.erase f) p)
    | _ => b)

/-- A named field is back in service, or has latched off again. -/
def Block.enableDone (b : Block) (now f : Nat) (back : Bool) : Block :=
  b.each [0, 1, 2] (fun b pt => match b.waitOf pt with
    | .enable l n a =>
      if !l.contains f then b
      else
        let n' := n + back.toNat
        let a' := a + (!back).toNat
        if l.erase f = [] then b.done now pt [n', a'] else b.await pt (.enable (l.erase f) n' a')
    | _ => b)

/-- Latch the pair off (R197), steps 1, 3 and 4: VCORE at the mid level, the record, marked out from the next boundary. VSRAM's phases
follow in step 2. -/
def Block.latchOff (b : Block) (now f cause rail phase : Nat) (i : LastFaultIn) : Block :=
  let b := ((b.lastFault now f cause rail phase i).railOff f 0).railFlagsOff f 1
  let b := b.modRail (railOf f 1) (fun x => { x with run := 4 })
  let b := ((b.wrB (F_RAIL.LATCHED_OFF 0) f true).wrB (F_RAIL.LATCHED_OFF 1) f true).modFu f (fun u => { u with
    outNext := some cause, calStep := 0, releaseDue := false, startDone := u.started, latchAt := some now })
  b.enableDone now f false

/-- Step 2 of a latch-off: VSRAM's phases follow at the first tick mark that finds VCORE's mean below 0.1 V, or 100 µs gone (R197).
(DEDUCED, log entry 143.) -/
def Block.latchMark (b : Block) (now f : Nat) : Block :=
  match (b.fu f).latchAt with
  | none => b
  | some t => b.cond (decide (b.rd F_EST.V_VCORE f < 400) || decide (100000 ≤ (now - t) * 2048)) (fun b =>
      ((b.pairOff f).disableDone now f).startRundown now)

/-- RAIL_OV: counted, and the pair latches off (R183). -/
def execRailOv (f : FieldNo) (r : Rail) (i : LastFaultIn) (s : State) : Host.Outcome State Fault Refusal :=
  onB s (fun now b =>
    let rl := railNo r
    if (b.rail (railOf f rl)).run = 0 ∨ (b.rail (railOf f rl)).run = 4 then b
    else ((b.inc (F_RAIL.OV_EVENTS rl) f).fault 16 f rl i.sc.val).latchOff now f 4 rl 0xFF i)

/-- RAIL_UV: counted once until VOUT has returned, outside soft start (R183). -/
def execRailUv (f : FieldNo) (r : Rail) (s : State) : Host.Outcome State Fault Refusal :=
  onB s (fun _ b =>
    let rl := railNo r
    if !b.bit (F_RAIL.ON rl) f || (b.rail (railOf f rl)).uvCounted then b
    else ((b.inc (F_RAIL.UV_EVENTS rl) f).fault 15 f rl 0).modRail (railOf f rl) (fun x => { x with uvCounted := true }))

/-- RAIL_UV_RETURN (R183). -/
def execRailUvReturn (f : FieldNo) (r : Rail) (s : State) : Host.Outcome State Fault Refusal :=
  onB s (fun _ b => b.modRail (railOf f (railNo r)) (fun x => { x with uvCounted := false }))

/-- PHASE_OC: OC_CYCLES consecutive periods in foldback, counted once until 256 periods without (R194). -/
def execPhaseOc (f : FieldNo) (p : PhaseNo) (s : State) : Host.Outcome State Fault Refusal :=
  onB s (fun _ b =>
    let x := b.phase (phOf f p)
    if x.ocHeld || decide (x.foldRun < b.rd F_PHASE.OC_CYCLES f) then b
    else ((b.inc F_PHASE.OC_EVENTS f).fault 12 f p 0).modPhase (phOf f p) (fun x => { x with ocHeld := true }))

/-- PHASE_OT: TMON has risen above OT_C; counted, and the phase held SHED when the rail can spare one (R195). -/
def execPhaseOt (f : FieldNo) (p : PhaseNo) (s : State) : Host.Outcome State Fault Refusal :=
  onB s (fun now b =>
    let rl := phaseRail p
    if (b.phase (phOf f p)).hot ∨ b.rd (F_PHASE.TMON p) f ≤ b.rd F_PHASE.OT_C f then b else
    let b := ((b.inc F_PHASE.OT_EVENTS f).fault 13 f p 0).modPhase (phOf f p) (fun x => { x with hot := true })
    if b.nActive f rl ≤ b.rd (F_RAIL.MIN_PHASES rl) f ∨ phDisabled ≤ b.rd (F_PHASE.STATE p) f then b
    else
      let b := b.wrB (F_PHASE.HELD_OT p) f true
      b.cond (b.rd (F_PHASE.STATE p) f == phActive) (fun b => b.setPhaseState now f p phShed))

/-- PHASE_OT_CLEAR: TMON is below OT_C - OT_HYS, and the hold ends; the phase stays SHED until it is added or restored (R195). -/
def execPhaseOtClear (f : FieldNo) (p : PhaseNo) (s : State) : Host.Outcome State Fault Refusal :=
  onB s (fun _ b => b.cond (decide (b.rd (F_PHASE.TMON p) f + b.rd F_PHASE.OT_HYS f < b.rd F_PHASE.OT_C f)) (fun b =>
    (b.wrB (F_PHASE.HELD_OT p) f false).modPhase (phOf f p) (fun x => { x with hot := false })))

/-- PH_FAULT_N_ASSERT: the channel is invalid (R64), the phase becomes FAILED, PHASE_STAGE is counted, and a record is taken (R196). -/
def execPhFaultNAssert (f : FieldNo) (p : PhaseNo) (i : LastFaultIn) (s : State) : Host.Outcome State Fault Refusal :=
  onB s (fun now b =>
    let b := (b.wrB (F_PHASE.FAULT_PIN p) f true).chanLost f p
    if b.rd (F_PHASE.STATE p) f = phFailed then b
    else (((b.setPhaseState now f p phFailed).inc F_PHASE.STAGE_FAULTS f).fault 14 f p i.sc.val).lastFault now f 5 (phaseRail p) p i)

/-- Enabled phases of a rail that have not FAILED. -/
def Block.phasesLeft (b : Block) (f rl : Nat) : Nat := (b.phasesIn f rl phActive).length + (b.phasesIn f rl phShed).length

/-- Code of a latch-off cause (Table 8.4). -/
def latchCode : LatchCause → Nat
  | .ssShort => 1
  | .ssTimeout => 2
  | .runShort => 3
  | .railOv => 4
  | .phaseLoss => 6

/-- VOUT of the rail is below half its reference, some phase of it is in foldback, and that has lasted 1 ms: SS_SHORT and RUN_SHORT
(Table 8.4), by what the record of the moment shows. -/
def Block.shorted (b : Block) (f rl : Nat) (i : LastFaultIn) : Bool :=
  let v := if rl = 0 then i.vCore.toNat else i.vSram.toNat
  decide (4 * v < (b.rail (railOf f rl)).refv) && (railPhases rl).any (fun p => i.foldback.getLsbD p) && decide (1000 ≤ i.elapsed.toNat)

/-- Power-good of both rails has not come within SS_TIME + 2 ms of the start (Table 8.4). -/
def Block.startOverdue (b : Block) (now f rl : Nat) (i : LastFaultIn) : Bool :=
  decide ((b.rd (F_RAIL.SS_TIME rl) f + 2000) * 1000 ≤ (now - (b.fu f).startTick) * 2048 + i.sc.val)

/-- LATCH_OFF (R197). A cause whose condition the state or the record of the moment excludes changes nothing. -/
def execLatchOff (f : FieldNo) (why : LatchCause) (r : Rail) (i : LastFaultIn) (s : State) : Host.Outcome State Fault Refusal :=
  onB s (fun now b =>
    let rl := railNo r
    let starting := b.bit (F_RAIL.SOFTSTART rl) f
    let latch (b : Block) : Block := b.latchOff now f (latchCode why) rl 0xFF i
    match why with
    | .ssShort => b.cond (starting && b.shorted f rl i) (fun b => latch (b.fault 17 f (latchCode why) i.sc.val))
    | .ssTimeout => b.cond (starting && b.startOverdue now f rl i) (fun b => latch (b.fault 17 f (latchCode why) i.sc.val))
    | .runShort => b.cond (b.bit (F_RAIL.ON rl) f && !starting && b.shorted f rl i) (fun b =>
        latch ((b.inc (F_RAIL.UV_EVENTS rl) f).fault 15 f (0x100 + rl) i.sc.val))
    | .railOv => b.cond (b.pairUp f && (b.fu f).latchAt.isNone) (fun b => latch ((b.inc (F_RAIL.OV_EVENTS rl) f).fault 16 f rl i.sc.val))
    | .phaseLoss => b.cond (b.pairUp f && (b.fu f).latchAt.isNone && decide (b.phasesLeft f rl < b.rd (F_RAIL.MIN_PHASES rl) f)) latch)

/-- The action of VIN_STOP (R199, R370): mid level, record, VIN_UV with VIN_STOP, marked out with cause 7. -/
def Block.vinStop (b : Block) (now f : Nat) (i : LastFaultIn) : Block :=
  if !b.pairUp f then b
  else (((((b.lastFault now f 7 2 0xFF i).pairOff f).fault 18 f (0x8000 + i.vin.toNat % 32768) i.sc.val).modFu f (fun u =>
    { u with outNext := some 7, vinGood := 0 })).disableDone now f).startRundown now

/-- VIN_STOP (R199). -/
def execVinStop (f : FieldNo) (i : LastFaultIn) (s : State) : Host.Outcome State Fault Refusal :=
  onB s (fun now b => b.vinStop now f i)

/-! ### Soft start and stop (R193) -/

/-- A field's pair starts: references from 0 V toward the selected datums, every enabled phase ACTIVE. -/
def Block.softStart (b : Block) (now f : Nat) : Block :=
  let b := ((b.wr HUB_COOL.RUNDOWN 0 1).modPins (fun p => { p with coolRundownN := true })).modHub (fun h => { h with rundownFrom := none })
  let b := b.each [0, 1] (fun b rl =>
    let b := ((b.wrB (F_RAIL.SOFTSTART rl) f true).wrB (F_RAIL.SLEWING rl) f true).wr (F_RAIL.TARGET rl) f (b.datumV f rl)
    (b.modRail (railOf f rl) (fun x => { x with run := 1, refv := 0, runFrom := (now, 0) })).allActive now f rl true)
  b.modFu f (fun u => { u with started := true, startDone := false, startOver := false, startQueued := false, startTick := now })

/-- A field's pair stops under tracking; `cause` is the one under which the field is then marked out. -/
def Block.softStop (b : Block) (now f cause : Nat) : Block :=
  let b := b.modFu f (fun u => { u with stopCause := cause, startQueued := false })
  b.each [0, 1] (fun b rl => b.cond ((b.rail (railOf f rl)).run == 1 || (b.rail (railOf f rl)).run == 2) (fun b =>
    (((b.wrB (F_RAIL.SLEWING rl) f true).wrB (F_RAIL.ARRIVED rl) f false).wrB (F_RAIL.SOFTSTART rl) f false).modRail (railOf f rl)
      (fun x => { x with run := 3, runFrom := (now, x.refv) })))

/-- A rail's reference has reached its target. -/
def Block.atTarget (b : Block) (f rl : Nat) : Bool := (b.rail (railOf f rl)).refv == b.refTarget f rl

/-- SOFT_START_END: both references have reached their targets and both rails are at power-good; the windows are 0, the agents load, and
are released at the next boundary (R11, R81, R129, R193, R357). PGOOD of both is set here. (DESIGN CHOICE, log entry 144.) -/
def execSoftStartEnd (f : FieldNo) (s : State) : Host.Outcome State Fault Refusal :=
  onB s (fun _ b =>
    if (b.rail (railOf f 0)).run ≠ 1 ∨ (b.rail (railOf f 1)).run ≠ 1 ∨ b.atTarget f 0 = false ∨ b.atTarget f 1 = false then b
    else
      let b := b.each [0, 1] (fun b rl =>
        let b := (b.wrB (F_RAIL.SOFTSTART rl) f false).wrB (F_RAIL.PGOOD rl) f true
        let b := (b.wrB (F_RAIL.ON rl) f true).wrB (F_RAIL.SLEWING rl) f false
        b.modRail (railOf f rl) (fun x => { x with run := 2 }))
      (b.agentsOff f).modFu f (fun u => { u with
        winCore := [], winSram := [], startDone := true, releaseDue := true, creditAcc := 0 }))

/-- RAIL_STOP_DONE: both references have reached 0 V (R193); the field is marked out from the next boundary, with
the cause of the stop. -/
def execRailStopDone (f : FieldNo) (s : State) : Host.Outcome State Fault Refusal :=
  onB s (fun now b =>
    if (b.rail (railOf f 0)).run ≠ 3 ∨ (b.rail (railOf f 1)).run ≠ 3 ∨ b.atTarget f 0 = false ∨ b.atTarget f 1 = false then b
    else
      (((b.pairOff f).modFu f (fun u => { u with outNext := some u.stopCause })).startRundown now).disableDone now f)

/-! ### Commands (R187, R198) -/

/-- The datum of a rail that will be in force at tick `due`: a pending commit of its page counts when it falls due by then. -/
def Block.datumAt (b : Block) (f rl k due : Nat) : Nat :=
  let fd := F_RAIL.DATUM rl k
  match (b.page (pageKey (0x47 + rl) f)).pending with
  | some p => if tickReached due p.due then mget (b.rd fd f) p.vals (fd.key f) else b.rd fd f
  | none => b.rd fd f

/-- First code of a DATUM_WRITE that breaks R184 or the order of R187 in field `f`, 0 for D2. -/
def Block.datumBad (b : Block) (f rl due : Nat) (codes : List Nat) : Option Nat :=
  (List.range 6).find? (fun k =>
    let v := codes.getD k 0
    let other := b.datumAt f (1 - rl) (k + 2) due
    decide (codeMax rl < v) || (if rl = 0 then decide (other < v) else decide (v < other)))

/-- DATUM_WRITE (R187). -/
def execDatumWrite (c : Cmd) (s : State) : Host.Outcome State Fault Refusal :=
  .next (runCmdB 0xA2 c s none (fun now pt b =>
    let l := c.fset 0
    let rl := c.arg 3 % 2
    let codes := (List.range 6).map (fun k => c.arg (4 + k))
    let v := atWord now l.length (c.arg 10)
    let due (f : Nat) : Nat := (atDue (arrivalTick now c.sc.val (0x47 + rl) f) v).getD 0
    match l.findSome? (fun f => b.datumBad f rl (due f) codes) with
    | some k => b.stop now pt stBadArg (badArgDetail (5 + k) 0)
    | none => b.cmdPages now c.sc.val pt (c.arg 10) 11 5 (l.map (fun f => ⟨0x47 + rl, f⟩))
        (l.flatMap (fun f => (List.range 6).map (fun k => ⟨F_RAIL.DATUM rl (k + 2), f, codes.getD k 0⟩)))))

/-- Marked-out fields that RAIL_ENABLE starts: the latch clears, and the field leaves the out-of-service map (R198, R365). -/
def Block.enableField (b : Block) (now f : Nat) : Block :=
  let b := (b.wrB (F_RAIL.LATCHED_OFF 0) f false).wrB (F_RAIL.LATCHED_OFF 1) f false
  let b := b.cond (b.nv.outMap.contains f) (fun b => (b.modNv (fun n => { n with outMap := n.outMap.filter (· != f) })).saveStore now false)
  b.cond (!b.pairUp f || (b.fu f).latchAt.isSome) (fun b => b.modFu f (fun u => { u with startQueued := true, outNext := none }))

/-- RAIL_ENABLE (R198): DONE when every named field that was marked out is back, or has latched off again. -/
def execRailEnable (c : Cmd) (s : State) : Host.Outcome State Fault Refusal :=
  .next (runCmdB 0xA0 c s none (fun now pt b =>
    let l := (c.fset 0).filter (fun f => b.isOut f)
    let b := (b.each l (fun b f => b.enableField now f)).accept now pt []
    if l.isEmpty then b.done now pt [0, 0] else b.await pt (.enable l 0 0)))

/-- A ticket WAITING, GRANTED or RUNNING in a field (R368). (DEDUCED, log entry 52.) -/
def Block.holdsTickets (b : Block) (f : Nat) : Bool := (b.slotsOf f).any (fun e => e.2.waiting || e.2.inForce)

/-- RAIL_DISABLE (R198, R367, R368). (DEDUCED, log entry 71.) -/
def execRailDisable (c : Cmd) (s : State) : Host.Outcome State Fault Refusal :=
  .next (runCmdB 0xA1 c s none (fun now pt b =>
    let l := c.fset 0
    if l.any (fun f => b.holdsTickets f) then b.stop now pt stStateReject b.mgr
    else
      let b := b.each l (fun b f =>
        let b := b.modFu f (fun u => { u with startQueued := false })
        if b.pairUp f then b.softStop now f 8
        else b.cond (!b.bit (F_RAIL.LATCHED_OFF 0) f) (fun b => b.modFu f (fun u => { u with outNext := some 8 })))
      let b := b.cond (c.opt 0) (fun b => (b.modNv (fun n => { n with
        outMap := allFields.filter (fun f => n.outMap.contains f || l.contains f) })).saveStore now false)
      let left := l.filter (fun f => b.pairUp f)
      let b := b.accept now pt []
      if left.isEmpty then b.done now pt [] else b.await pt (.disable left (c.opt 0))))

end Sys2Proof.Machine
end

