-- ==== Sys2Proof/Machine/Margin.lean ====
section
/-!
DEFINITION. Margin modes of a field: the causes of Table 5.2, the move of the VCORE datum, the stop of shaping and
staggering (R109 to R113).
-/

namespace Sys2Proof.Machine

open Sys2Proof

/-- Staggering stops: every waiting start is released, and counts when the word had passed it (R120). -/
def Block.staggerStop (b : Block) (f : Nat) : Block :=
  let shape := b.bit F_DROOP.SHAPE_ON f
  let l := (b.liveAgents f).filter (fun s => (b.agent (pid f s)).waiting.isSome)
  let late := l.filter (fun s => match (b.agent (pid f s)).waiting with
    | some w => w.delayed
    | none => false)
  (b.each l (fun b s => b.modAgent (pid f s) (fun a => a.release shape))).add F_DROOP.STAGGER_DELAYED f late.length

/-- Shaping stops: no ramp runs any more (R113). -/
def Block.shapeStop (b : Block) (f : Nat) : Block :=
  b.each (b.liveAgents f) (fun b s => b.modAgent (pid f s) (fun a => { a with climb := 64, shaping := false }))

/-- Shaping and staggering follow their enables: they start at once, and stop only on a field that stands in WIDE mode (R113). -/
def Block.followEnables (b : Block) (f : Nat) : Block :=
  let still := b.bit F_DROOP.MODE_IN_FORCE f && !b.bit F_DROOP.TRANSITION f
  let sh := b.bit F_DROOP.SHAPE_EN f
  let sg := b.bit F_DROOP.STAGGER_EN f
  let b := if sh then b.wrB F_DROOP.SHAPE_ON f true
    else b.cond (still && b.bit F_DROOP.SHAPE_ON f) (fun b => (b.wrB F_DROOP.SHAPE_ON f false).shapeStop f)
  if sg then b.wrB F_DROOP.STAGGER_ON f true
  else b.cond (still && b.bit F_DROOP.STAGGER_ON f) (fun b => (b.wrB F_DROOP.STAGGER_ON f false).staggerStop f)

/-- The T2_RATE condition is entered when the count of the block exceeds T2_RATE_MAX (R111). -/
def Block.t2Enter (b : Block) (now f : Nat) : Block :=
  if b.bit F_DROOP.T2_RATE f || decide (b.rd F_DROOP.T2_BLOCK f ≤ b.rd F_DROOP.T2_RATE_MAX f) then b
  else (((b.wrB F_DROOP.T2_RATE f true).wr F_DROOP.HOLD_LEFT f (b.rd F_DROOP.WIDE_HOLD f)).fault 19 f (b.rd F_DROOP.T2_BLOCK f) 0).modFu f
    (fun u => { u with t2From := now })

/-- An active parcel without an armed detector (Table 5.2). -/
def Block.noDetector (b : Block) (f : Nat) : Bool := allSlots.any (fun s => b.active f s && !(b.armedA f s || b.armedB f s))

/-- The mode in force is evaluated (R110, R112). -/
def Block.evalMargin (b : Block) (now f : Nat) : Block :=
  let b := b.t2Enter now f
  let req := b.bit F_DROOP.MODE_REQ f
  let off := !(b.bit F_DROOP.SHAPE_EN f && b.bit F_DROOP.STAGGER_EN f)
  let meas := decide (modeMeasured ≤ b.rd F_EST.MODE f)
  let noDet := b.noDetector f
  let wide := req || off || meas || b.bit F_DROOP.T2_RATE f || noDet
  let b := (((b.wrB F_DROOP.REQ f req).wrB F_DROOP.SHAPING_OFF f off).wrB F_DROOP.MEAS f meas).wrB F_DROOP.NO_DETECTOR f noDet
  let b :=
    if wide = (b.fu f).wide then b
    else
      let b := (b.modFu f (fun u => { u with wide := wide })).cond wide (fun b => b.inc F_DROOP.WIDE_ENTRIES f)
      let b := b.retarget now f
      if (b.rail (railOf f 0)).run = 2 ∧ !b.bit (F_RAIL.ARRIVED 0) f then b.wrB F_DROOP.TRANSITION f true
      else (b.wrB F_DROOP.TRANSITION f false).wrB F_DROOP.MODE_IN_FORCE f wide
  (b.followEnables f).shapeNumbers f

/-- T2_BLOCK_END: a block of 1,024 ticks ends; clean blocks count toward WIDE_HOLD (R110, R111). -/
def execT2BlockEnd (f : FieldNo) (s : State) : Host.Outcome State Fault Refusal :=
  onB s (fun now b =>
    if now % 1024 ≠ 0 then b
    else
      let counts := b.bit F_DROOP.T2_RATE f && decide ((b.fu f).t2From + 1024 ≤ now)
      let clean := decide (b.rd F_DROOP.T2_BLOCK f ≤ b.rd F_DROOP.T2_CLEAR f)
      let left := if clean then b.rd F_DROOP.HOLD_LEFT f - 1 else b.rd F_DROOP.WIDE_HOLD f
      let b := b.cond counts (fun b => (b.wr F_DROOP.HOLD_LEFT f left).wrB F_DROOP.T2_RATE f (left != 0))
      (b.wr F_DROOP.T2_BLOCK f 0).evalMargin now f)

/-- EST_MODE_CHANGE: the mode that the counts have decided, at the boundary; the MEAS cause of Table 5.2 follows it (R70, R110). -/
def execEstModeChange (f : FieldNo) (s : State) : Host.Outcome State Fault Refusal :=
  onB s (fun now b =>
    let r := b.estModeNext f
    (b.setEstMode f r.1 r.2).evalMargin now f)

/-- SET_MARGIN_MODE (R123). -/
def execSetMarginMode (c : Cmd) (s : State) : Host.Outcome State Fault Refusal :=
  .next (runCmdB 0x13 c s none (fun now pt b =>
    let l := c.fset 0
    b.cmdPages now c.sc.val pt (c.arg 4) 5 4 (l.map (fun f => ⟨0x45, f⟩)) (l.map (fun f => ⟨F_DROOP.MODE_REQ, f, c.arg 3⟩))))

end Sys2Proof.Machine
end

