-- ==== Sys2Proof/Machine/Tickets.lean ====
section
/-!
DEFINITION. Power tickets: requests, the grant path, waiting, starts, ends, the port's queues and the wafer queue (R124 to
R142, R405, R406).
-/

namespace Sys2Proof.Machine

open Sys2Proof

/-! ### Protocol events (R127) -/

/-- Count one TICKET_PROTOCOL event of a field with a Table 6.2 detail. -/
def Block.ticketError (b : Block) (now f code task off : Nat) : Block :=
  let b := (b.inc F_TICKET.PROTO_ERR f).inc HUB_TICKET.PROTO_ERR 0
  let b := ((b.wr HUB_TICKET.LAST_DETAIL 0 code).wr HUB_TICKET.LAST_FIELD 0 f).wr HUB_TICKET.LAST_TASK 0 task
  (b.wr HUB_TICKET.LAST_TICK 0 now).fault 24 f code off

/-- The first failing check of a REQUEST at the port of field `f`, in the order of Table 6.2; 0 when all pass. -/
def Block.requestCheck (b : Block) (f : Nat) (m : TkRequest) : Nat :=
  if m.field.toNat ≠ f then 0x01
  else if 671 < m.first.toNat + m.countM1.toNat then 0x02
  else if m.cls.toNat = 0 ∨ 5 < m.cls.toNat then 0x03
  else if (List.range (m.countM1.toNat + 1)).any (fun k => !b.active f (m.first.toNat + k)) then 0x04
  else if (b.ctx (jobOf m.task.toNat)).st ≠ 1 then 0x05
  else if b.isOut f then 0x06
  else 0

/-! ### The port's queues (R406) -/

/-- Requests among the inbound messages that wait. -/
def isRequest : TkIn → Bool
  | .request _ _ => true
  | _ => false

/-- Outbound entries occupied and reserved. -/
def FieldUnit.outUsed (u : FieldUnit) : Nat := u.outQ.length + (u.windowIn.filter isRequest).length
/-- A GRANT message has an entry. -/
def FieldUnit.outFree (u : FieldUnit) : Bool := decide (u.outUsed < 64)
/-- TK_IN_READY. -/
def FieldUnit.inReady (u : FieldUnit) : Bool := decide (u.windowIn.length < 16) && u.outFree

/-- Queue an outbound message. -/
def Block.send (b : Block) (f : Nat) (o : TkOut) : Block := b.modFu f (fun u => { u with outQ := u.outQ ++ [o] })

/-- A RESPONSE for a request: result 0 GRANT, 1 WAIT, 2 REFUSE. -/
def responseTo (m : TkRequest) (result : Nat) (wq : Bool) (handle cause : Nat) (ready : Bool) : TkOut :=
  .response m.task.toNat m.field.toNat m.first.toNat result wq handle cause ready

/-- The port presents RESPONSEs in the order taken, and GRANTs may fall between them: split off the first message that can be
presented. -/
def takeOut (blocked : Bool) : List TkOut → Option (TkOut × List TkOut)
  | [] => none
  | .grant t p k :: r => some (.grant t p k, r)
  | .response t g p x w h c ready :: r =>
    if ready && !blocked then some (.response t g p x w h c ready, r)
    else (takeOut true r).map (fun q => (q.1, .response t g p x w h c ready :: q.2))

/-- TK_OUT_TYPE and TK_OUT_DATA of a message of field `f` (Tables 17.4 and 17.5). -/
def TkOut.encode (f : Nat) : TkOut → Nat × Nat
  | .response task field first result wq handle cause _ =>
    (0, task * 2 ^ 52 + field * 2 ^ 45 + first * 2 ^ 35 + result * 2 ^ 33 + wq.toNat * 2 ^ 32 + handle * 2 ^ 20 + cause * 2 ^ 12)
  | .grant task first slot => (1, task * 2 ^ 52 + f * 2 ^ 45 + first * 2 ^ 35 + slot)

/-- TICKET_OUT_TAKEN: the engine takes the message that the port presents (R405, R406). -/
def execTicketOutTaken (f : FieldNo) (s : State) : Host.Outcome State Fault Refusal :=
  onB s (fun _ b => match takeOut false (b.fu f).outQ with
    | some q => b.modFu f (fun u => { u with outQ := q.2, tkOut := q.1.encode f })
    | none => b)

/-! ### Queues of waiting tickets (R131) -/

/-- Number of a ticket's queue. -/
def queueOf (crit : Bool) (cls eff : Nat) : Nat := if crit then 0 else 1 + 8 * cls + eff

/-- Tickets of a queue, oldest first. -/
def FieldUnit.queue (u : FieldUnit) (q : Nat) : List Nat := mget [] u.queues q
def Block.modQueue (b : Block) (f q : Nat) (g : List Nat → List Nat) : Block :=
  b.modFu f (fun u => { u with queues := mmod [] u.queues q g })

/-- Take a slot out of its queue. -/
def Block.dequeue (b : Block) (f k : Nat) : Block :=
  let t := b.slot (tid f k)
  b.modQueue f (queueOf t.crit t.cls t.effPrio) (fun l => l.erase k)

/-! ### Grants (R128, R130, R133) -/

/-- Charge per parcel (R128). -/
def Block.chargeOf (b : Block) (f : Nat) (m : TkRequest) : Nat :=
  if m.crit && b.bit F_TICKET.CRIT_FREE f then 0
  else min (b.rd F_TICKET.CHARGE_MAX f) ((m.prior.toNat + m.countM1.toNat) / (m.countM1.toNat + 1))

/-- Admission is held in the field by the floor or by QUIESCED (R133); a field marked out takes no part in admission (R29). -/
def Block.admissionHeld (b : Block) (f : Nat) : Bool := b.bit HUB_CAP.QUIESCED 0 || b.bit F_LIMIT.FLOOR_OVER f
def Block.noGrants (b : Block) (f : Nat) : Bool := b.admissionHeld f || b.isOut f

/-- A ticket of a job whose context is HELD is not granted unless critical (R133). -/
def Block.jobHeld (b : Block) (t : Slot) : Bool := !t.crit && (b.ctx (jobOf t.task)).held

/-- Every named parcel has fewer than four tickets in force (R130). -/
def Block.roomOn (b : Block) (f : Nat) (t : Slot) : Bool := t.parcels.all (fun p => decide ((b.inForceOn f p).length < 4))
/-- Every named pool covers the charge. -/
def Block.covered (b : Block) (f : Nat) (t : Slot) : Bool :=
  t.parcels.all (fun p => decide (t.charge ≤ (b.agent (pid f p)).pool))

/-- Data B of a GRANT record (Table 11.1). (DESIGN CHOICE, log entry 46.) -/
def grantWord (t : Slot) (fast aged : Bool) (k : Nat) : Nat :=
  t.countM1 * 2 ^ 28 + t.cls * 2 ^ 25 + t.crit.toNat * 2 ^ 24 + t.prio * 2 ^ 21 + fast.toNat * 2 ^ 20 + aged.toNat * 2 ^ 19 + k

/-- Grant slot `k`: one indivisible debit of every named pool (R128, R130); an aged grant takes what is there (R134).
(DESIGN CHOICE, log entry 46.) -/
def Block.grant (b : Block) (now off f k : Nat) (fast aged : Bool) : Block :=
  let t := b.slot (tid f k)
  let b := b.each t.parcels (fun b p => b.modAgent (pid f p) (fun a => { a with pool := a.pool - t.charge }))
  let b := b.modHub (fun h => { h with grantSeq := h.grantSeq + 1 })
  let b := b.modSlot (tid f k) (fun t => { t with
    st := 2, aged := aged, grantTick := now, grantSeq := b.hub.grantSeq, grantDelta := min 65535 (now - t.reqTick) })
  let b := if fast then b.inc F_TICKET.GRANT_FAST f else b.inc F_TICKET.GRANT_LATER f
  let b := b.cond aged (fun b => b.inc F_TICKET.AGED f)
  b.record f now off 0x01 (pid f t.first) 0 t.task (grantWord t fast aged k)

/-! ### Slots and requests (R130 to R132, R136) -/

/-- The free list: slots never used, ascending, then RETIRED slots, least recently retired first (R132).
(DEDUCED, log entry 45.) -/
def FieldUnit.freeSlot (u : FieldUnit) : Option Nat := if u.fresh < 1024 then some u.fresh else u.retiredQ.head?
def FieldUnit.takeSlot (u : FieldUnit) : FieldUnit :=
  if u.fresh < 1024 then { u with fresh := u.fresh + 1 } else { u with retiredQ := u.retiredQ.drop 1 }

/-- A slot as the fast path writes it for a request. -/
def Block.newSlot (b : Block) (f : Nat) (m : TkRequest) (reqTick : Nat) (wq : Bool) : Slot :=
  { Slot.reset with
    task := m.task.toNat, st := 1, crit := m.crit, prio := m.prio.toNat, cls := m.cls.toNat
    countM1 := m.countM1.toNat, wq := wq, first := m.first.toNat, prior := m.prior.toNat
    effPrio := min 7 (m.prio.toNat + (b.ctx (jobOf m.task.toNat)).prioBoost)
    charge := b.chargeOf f m, reqTick := reqTick }

/-- The fast path grants a request in slot form (R130). -/
def Block.fastGrants (b : Block) (f : Nat) (t : Slot) : Bool :=
  !b.noGrants f && !b.jobHeld t && (t.crit || ((b.fu f).queue (queueOf t.crit t.cls t.effPrio)).isEmpty) &&
    b.roomOn f t && b.covered f t

/-- Place a request in slot `k`, granted or WAITING in its queue. -/
def Block.place (b : Block) (now off f k : Nat) (m : TkRequest) (reqTick : Nat) (wq : Bool) : Block :=
  let t := b.newSlot f m reqTick wq
  let ok := b.fastGrants f t
  let b := (b.modFu f FieldUnit.takeSlot).setSlot (tid f k) t
  if ok then b.grant now off f k (!wq) false else b.modQueue f (queueOf t.crit t.cls t.effPrio) (fun l => l ++ [k])

/-- First wafer-queue index at or after `n` that no entry holds, wrapping at 4,096. (DEDUCED, log entry 50.) -/
def freeIndex (q : List WqEntry) (n : Nat) : Nat :=
  (((List.range 4096).map (fun k => (n + k) % 4096)).find? (fun i => !(q.any (fun e => e.index == i)))).getD 0

/-- The hub appends a request that found no slot, or refuses it with 0x0A (R136); the RESPONSE waits for the answer. -/
def Block.waferAppend (b : Block) (f : Nat) (m : TkRequest) (reqTick : Nat) : Block :=
  if 4096 ≤ b.hub.wq.length then
    (b.inc HUB_TICKET.WQ_REFUSED 0).send f (responseTo m 2 false 0 0x0A false)
  else
    let i := freeIndex b.hub.wq b.hub.wqNext
    let b := b.modHub (fun h => { h with
      wq := h.wq ++ [{ field := f, req := m, reqTick := reqTick, index := i }], wqNext := (i + 1) % 4096 })
    (b.wr HUB_TICKET.WQ_DEPTH 0 b.hub.wq.length).send f (responseTo m 1 true i 0 false)

/-- Decide a REQUEST (R127, R130, R131, R136). -/
def Block.decideReq (b : Block) (now off f : Nat) (m : TkRequest) (reqTick : Nat) : Block :=
  let code := b.requestCheck f m
  if code ≠ 0 then (b.ticketError now f code m.task.toNat off).send f (responseTo m 2 false 0 code true)
  else match (b.fu f).freeSlot with
    | none => b.waferAppend f m reqTick
    | some k =>
      let b := b.place now off f k m reqTick false
      b.send f (responseTo m (if (b.slot (tid f k)).st = 2 then 0 else 1) false k 0 true)

/-! ### Start (R138) -/

/-- Ticks between two moments, saturating at 16 bits. -/
def ticks16 (now t : Nat) : Nat := min 65535 (now - t)

/-- A START: RUNNING, parcel starts where the parcels are idle, and the prediction of R87 step 4. (DEDUCED, log entry 47.) -/
def Block.ticketStart (b : Block) (now f k off : Nat) : Block :=
  let t := b.slot (tid f k)
  if t.st ≠ 2 ∨ t.ended then b.ticketError now f 0x07 0 off
  else
    let b := b.each t.parcels (fun b p =>
      let b := b.cond (matrixClass t.cls && (b.agent (pid f p)).idle && !b.matrixRunning f p)
        (fun b => b.parcelStart f p t.cls t.crit false)
      let b := b.cond (matrixClass t.cls) (fun b => b.waitCritical f p t.crit)
      b.modParcel (pid f p) (fun x =>
        if off < 1520 then { x with starts := x.starts ++ [t.cls] } else { x with startsLate := x.startsLate ++ [t.cls] }))
    let b := b.modSlot (tid f k) (fun t => { t with st := 3, ran := true, startTick := now })
    b.record f now off 0x02 (pid f t.first) 0 t.task (ticks16 now t.grantTick * 2 ^ 16 + k)

/-! ### End (R140, R141) -/

/-- A cancelled or withdrawn slot becomes RETIRED at the next boundary, and a cancelled one gives its charge back (R141).
(DEDUCED, log entry 48.) -/
def Block.cancelTicket (b : Block) (now f k : Nat) : Block :=
  let t := b.slot (tid f k)
  let b := if t.st = 2 then
      b.each t.parcels (fun b p => b.modAgent (pid f p) (fun a => { a with giveBack := a.giveBack + t.charge }))
    else b.dequeue f k
  let b := b.modSlot (tid f k) (fun t => { t with ended := true, endTick := now, cancelled := true, energy := 0, retireAt := now + 1 })
  b.inc F_TICKET.CANCELLED f

/-- An END: billing of a RUNNING ticket, withdrawal or cancellation of another. (DEDUCED, log entries 47, 48.) -/
def Block.ticketEnd (b : Block) (now f k off : Nat) : Block :=
  let t := b.slot (tid f k)
  if t.st = 0 ∨ 4 ≤ t.st ∨ t.ended then b.ticketError now f 0x08 0 off
  else
    let b := if t.st = 3 then
        let b := b.each t.parcels (fun b p => b.modParcel (pid f p) (fun x =>
          if off < 1520 then { x with ends := x.ends ++ [t.cls] } else { x with endsLate := x.endsLate ++ [t.cls] }))
        b.modSlot (tid f k) (fun t => { t with ended := true, endTick := now, billAt := now + 1, retireAt := now + 2 })
      else b.cancelTicket now f k
    b.record f now off 0x03 (pid f t.first) 0 t.task
      ((if t.st = 3 then ticks16 now t.startTick else 0) * 2 ^ 16 + t.st * 2 ^ 10 + k)

/-! ### The port's rows -/

/-- Handle one inbound message. -/
def Block.handle (b : Block) (now off f : Nat) : TkIn → Block
  | .request m t => b.decideReq now off f m t
  | .start k => b.ticketStart now f k off
  | .finish k => b.ticketEnd now f k off

/-- An inbound message waits behind those of the re-presentation window (R406), or is handled. -/
def Block.inbound (b : Block) (now off f : Nat) (wait : Bool) (x : TkIn) : Block :=
  if wait || !(b.fu f).windowIn.isEmpty then b.modFu f (fun u => { u with windowIn := u.windowIn ++ [x] })
  else b.handle now off f x

/-- TICKET_REQUEST at the port of field `port`; the port takes it only while TK_IN_READY, and discards and counts a message of
TK_IN_TYPE 3 (R127, R130, R132, R405). -/
def execTicketRequest (port : FieldNo) (x : TkMessage) (ec : BitVec 12) (sc : ScOff) (s : State) : Host.Outcome State Fault Refusal :=
  onB s (fun now b =>
    if !(b.fu port).inReady then b
    else match x with
      | .request m => (b.inc F_TICKET.REQUESTS port).inbound now sc port (decide (ec.toNat < 96)) (.request m now)
      | .typeThree d => b.ticketError now port 0x03 (d.toNat / 2 ^ 52) sc)

/-- REPRESENT_WINDOW_END: the messages taken in the window are handled in order (R132). (DEDUCED, log entry 115.) -/
def execRepresentWindowEnd (f : FieldNo) (s : State) : Host.Outcome State Fault Refusal :=
  onB s (fun now b =>
    let l := (b.fu f).windowIn
    (b.modFu f (fun u => { u with windowIn := [] })).each l (fun b x => b.handle now (96000 / b.mhz) f x))

/-- TICKET_START (R138). (DEDUCED, log entry 49.) -/
def execTicketStart (f : FieldNo) (k : TSlotNo) (sc : ScOff) (s : State) : Host.Outcome State Fault Refusal :=
  onB s (fun now b => if (b.fu f).inReady then b.inbound now sc f false (.start k) else b)

/-- TICKET_END (R140, R141). (DEDUCED, log entry 49.) -/
def execTicketEnd (f : FieldNo) (k : TSlotNo) (sc : ScOff) (s : State) : Host.Outcome State Fault Refusal :=
  onB s (fun now b => if (b.fu f).inReady then b.inbound now sc f false (.finish k) else b)

/-- TICKET_AGED: a non-critical ticket has waited AGE_LIMIT ticks without being held; its next presentation grants it (R134). -/
def execTicketAged (f : FieldNo) (k : TSlotNo) (s : State) : Host.Outcome State Fault Refusal :=
  onB s (fun _ b =>
    let t := b.slot (tid f k)
    b.cond (t.waiting && !t.crit && decide (b.rd F_TICKET.AGE_LIMIT f ≤ t.waited))
      (fun b => b.modSlot (tid f k) (fun t => { t with ageDue := true })))

/-- START_TIMEOUT: START_TIMEOUT × 256 ticks after its grant a ticket that has not started is cancelled (R142). -/
def execStartTimeout (f : FieldNo) (k : TSlotNo) (s : State) : Host.Outcome State Fault Refusal :=
  onB s (fun now b =>
    let t := b.slot (tid f k)
    b.cond (t.st == 2 && !t.ended && decide (t.grantTick + 256 * b.rd F_TICKET.START_TIMEOUT f ≤ now))
      (fun b => (b.cancelTicket now f k).ticketError now f 0x09 t.task 0))

/-! ### Re-presentation (R134) -/

/-- Decode QUEUE_ORDER entry `n`: the number of its queue. -/
def Block.orderEntry (b : Block) (f n : Nat) : Nat :=
  let e := b.rd (F_TICKET.QUEUE_ORDER (n / 4)) f / 2 ^ (8 * (n % 4)) % 256
  1 + 8 * (e / 8 % 8) + e % 8

/-- Queues in the order in which they are presented: the critical queue, then QUEUE_ORDER. -/
def Block.queueOrder (b : Block) (f : Nat) : List Nat := 0 :: ((List.range 40).map (fun n => b.orderEntry f n)).dedup

/-- Present the tickets of one queue while presentations are left; the rest of a queue is passed over after a failure. Tickets
of a held job are passed by, and so are those that an abort drops at this boundary (R134, R143). `i` is the number of the next
presentation. -/
def presentQueue (now f : Nat) : List Nat → Nat → Nat → Block → Nat × Block
  | [], i, _, b => (i, b)
  | k :: rest, i, most, b =>
    let t := b.slot (tid f k)
    if b.jobHeld t || (b.ctx (jobOf t.task)).st == 2 then presentQueue now f rest i most b
    else if most ≤ i ∨ !(b.fu f).outFree then (i, b)
    else
      let aged := t.ageDue && !t.crit
      if b.roomOn f t && (b.covered f t || aged) then
        let b := (b.dequeue f k).grant now (i * 1000 / b.mhz) f k false aged
        let b := b.send f (.grant t.task t.first k)
        presentQueue now f rest (i + 1) most b
      else (i + 1, b)

/-- Re-presentation of a field's WAITING tickets at a boundary, after the refills. -/
def Block.represent (b : Block) (now f : Nat) : Block :=
  if b.noGrants f || (b.fu f).queues.isEmpty then b
  else ((b.queueOrder f).foldl (fun ib q => presentQueue now f ((ib.2.fu f).queue q) ib.1 (b.rd F_TICKET.REPRESENT_MAX f) ib.2)
    (0, b)).2

/-! ### The wafer queue (R136) -/

/-- Is some RESPONSE of the field still waiting for the hub? -/
def FieldUnit.asking (u : FieldUnit) : Bool := u.outQ.any (fun o => match o with
  | .response _ _ _ _ _ _ _ ready => !ready
  | .grant _ _ _ => false)

/-- The hub's answer reaches the first RESPONSE that waits for one. -/
def answerFirst : List TkOut → List TkOut
  | [] => []
  | .grant t p k :: r => .grant t p k :: answerFirst r
  | .response t g p x w h c ready :: r =>
    if ready then .response t g p x w h c ready :: answerFirst r else .response t g p x w h c true :: r

/-- WAFER_QUEUE_ANSWER (R136). -/
def execWaferQueueAnswer (f : FieldNo) (s : State) : Host.Outcome State Fault Refusal :=
  onB s (fun _ b => b.modFu f (fun u => { u with outQ := answerFirst u.outQ }))

/-- An entry can move: its field is not marked out (R29) and has a free slot and an outbound entry, and no answer of the hub is on
its way there. (DEDUCED, log entry 50.) -/
def Block.movable (b : Block) (e : WqEntry) : Bool :=
  let u := b.fu e.field
  !b.isOut e.field && u.freeSlot.isSome && u.outFree && !u.asking

/-- WAFER_QUEUE_MOVE: H0 moves the oldest entry that its field can take; the grant is sent as a GRANT message (R136). -/
def execWaferQueueMove (s : State) : Host.Outcome State Fault Refusal :=
  onB s (fun now b => match b.hub.wq.find? b.movable with
    | none => b
    | some e =>
      if (b.proc 84).st ≠ 0 then b
      else match (b.fu e.field).freeSlot with
        | none => b
        | some k =>
          let b := (b.modHub (fun h => { h with wq := h.wq.erase e })).inc HUB_TICKET.WQ_MOVED 0
          let b := (b.wr HUB_TICKET.WQ_DEPTH 0 b.hub.wq.length).place now 0 e.field k e.req e.reqTick true
          b.cond ((b.slot (tid e.field k)).st == 2)
            (fun b => b.send e.field (.grant e.req.task.toNat e.req.first.toNat k)))

end Sys2Proof.Machine
end

