-- ==== Sys2Proof/Machine/WaitFor.lean ====
section
/-!
DEFINITION. Hang detection, the wait-for graph, cap shares and the abort of a job's tickets (R137, R143, R146 to R148).
-/

namespace Sys2Proof.Machine

open Sys2Proof

/-! ### Edges (Tables 6.6 and 6.7) -/

/-- Node codes. -/
def nodeTicket (f k : Nat) : Nat := 2 ^ 28 + f * 1024 + k
def nodeEntry (i : Nat) : Nat := 2 * 2 ^ 28 + i
def nodeParcel (f p : Nat) : Nat := 3 * 2 ^ 28 + pid f p
def nodeField (f : Nat) : Nat := 4 * 2 ^ 28 + f
def nodeJob (n : Nat) : Nat := 5 * 2 ^ 28 + n

/-- Edges from a WAITING ticket: admission held, and each named parcel that is full or whose pool is short. -/
def Block.waitEdges (b : Block) (now f k : Nat) (t : Slot) : List Edge :=
  (if b.admissionHeld f then
    [{ src := nodeTicket f k, dst := nodeField f, kind := 4
       detailA := (b.rd F_LIMIT.FLOOR_OVER f) + 2 * b.rd HUB_CAP.QUIESCED 0, detailB := now - t.reqTick }] else []) ++
  t.parcels.flatMap (fun p =>
    (if 4 ≤ (b.inForceOn f p).length then
      [{ src := nodeTicket f k, dst := nodeParcel f p, kind := 2, detailA := 4, detailB := 0 }] else []) ++
    (if (b.agent (pid f p)).pool < t.charge then
      [{ src := nodeTicket f k, dst := nodeParcel f p, kind := 1, detailA := (b.agent (pid f p)).pool, detailB := t.charge }]
     else []))

/-- HALTED edges of a GRANTED or RUNNING ticket; the wafer has been halted since CUT_TICK. (DEDUCED, log entry 53.) -/
def Block.haltEdges (b : Block) (now f k : Nat) (t : Slot) : List Edge :=
  (t.parcels.filter (fun p => (b.agent (pid f p)).halted)).map (fun p =>
    { src := nodeTicket f k, dst := nodeParcel f p, kind := 3, detailA := 0
      detailB := lowBits 32 (now + 2 ^ 32 - b.rd HUB_HALT.CUT_TICK 0) })

/-- NOT_STARTED edges: a parcel's credit taken for over 64 ticks by a ticket that has not started. (DEDUCED, log entry 53.) -/
def notStarted (now f k : Nat) (t : Slot) : List Edge :=
  if t.charge ≠ 0 ∧ t.grantTick + 64 < now then
    t.parcels.map (fun p =>
      { src := nodeParcel f p, dst := nodeTicket f k, kind := 7, detailA := 0, detailB := now - t.grantTick })
  else []

/-- RUNNING edges, only from parcels that are the target of a CREDIT or PARCEL_FULL edge (R148). -/
def runningEdges (now f k : Nat) (t : Slot) (targets : List Nat) : List Edge :=
  (t.parcels.filter (fun p => targets.contains (nodeParcel f p))).map (fun p =>
    { src := nodeParcel f p, dst := nodeTicket f k, kind := 8, detailA := 0, detailB := now - t.startTick })

/-- The section that a field processor captures at boundary `now` (R147, R148). -/
def Block.fieldEdges (b : Block) (now f : Nat) : List Edge :=
  let l := (b.slotsOf f).filter (fun e => e.2.waiting || e.2.inForce)
  let wait := (l.filter (fun e => e.2.waiting)).flatMap (fun e => b.waitEdges now f e.1 e.2)
  let targets := (wait.filter (fun e => e.kind == 1 || e.kind == 2)).map (fun e => e.dst)
  wait ++ (l.filter (fun e => !e.2.waiting)).flatMap (fun e =>
    b.haltEdges now f e.1 e.2 ++
      (if e.2.st = 2 then notStarted now f e.1 e.2 else runningEdges now f e.1 e.2 targets))

/-- Slots WAITING, GRANTED or RUNNING of a field. -/
def Block.slotsInUse (b : Block) (f : Nat) : Nat :=
  ((b.slotsOf f).filter (fun e => decide (1 ≤ e.2.st) && decide (e.2.st ≤ 3))).length

/-- The edges that H0 adds: wafer-queue entries and tickets of held jobs. -/
def Block.hubEdges (b : Block) (now : Nat) : List Edge :=
  b.hub.wq.map (fun e =>
    { src := nodeEntry e.index, dst := nodeField e.field, kind := 6, detailA := b.slotsInUse e.field, detailB := now - e.reqTick }) ++
  allFields.flatMap (fun f => ((b.slotsOf f).filter (fun e => e.2.waiting && b.jobHeld e.2)).map (fun e =>
    { src := nodeTicket f e.1, dst := nodeJob (jobOf e.2.task), kind := 5, detailA := 0
      detailB := (b.ctx (jobOf e.2.task)).jobPower }))

/-! ### A build (R147) -/

/-- Start a build: trigger 0 command, 1 hang of `fld`. -/
def Block.startBuild (b : Block) (now trigger fld : Nat) : Block :=
  let b := ((b.wr HUB_WAITFOR.BUILDING 0 1).wr HUB_WAITFOR.VALID 0 0).inc HUB_WAITFOR.BUILD_ID 0
  let b := ((b.wr HUB_WAITFOR.TRIGGER 0 trigger).wr HUB_WAITFOR.TRIG_FIELD 0 fld).wr HUB_WAITFOR.START_TICK 0 now
  b.modHub (fun h => { h with lastBuild := now, built := true, graph := { captures := [], sections := [], edges := [] } })

/-- At a boundary during a build, every field whose processor is in RUN and that has not captured yet captures its edges. -/
def Block.captureEdges (b : Block) (now : Nat) : Block :=
  if !b.bit HUB_WAITFOR.BUILDING 0 then b
  else b.each (allFields.filter (fun f => (b.proc f).st == 0 && !(keysOf b.hub.graph.captures).contains f)) (fun b f =>
    let l := b.fieldEdges now f
    b.modHub (fun h => { h with graph := { h.graph with
      captures := mput 0 h.graph.captures f now, sections := mput [] h.graph.sections f l } }))

/-- WAITFOR_BUILD (R147). -/
def execWaitforBuild (c : Cmd) (s : State) : Host.Outcome State Fault Refusal :=
  .next (runCmdB 0x48 c s none (fun now pt b =>
    if b.bit HUB_WAITFOR.BUILDING 0 then b.stop now pt stBusy 0
    else ((b.startBuild now 0 0).accept now pt []).await pt .graph))

/-- WAITFOR_BUILD_DONE: at most the first 32,736 edges are written, in field order (R148). -/
def execWaitforBuildDone (s : State) : Host.Outcome State Fault Refusal :=
  onB s (fun now b =>
    let h := b.hub
    let all := decide (84 ≤ h.graph.captures.length) || decide (h.lastBuild + 8192 ≤ now)
    if !b.bit HUB_WAITFOR.BUILDING 0 || (b.proc 84).st ≠ 0 || !all then b
    else
      let edges := (h.graph.sections.flatMap Prod.snd) ++ b.hubEdges now
      let kept := edges.take 32736
      let b := b.modHub (fun h => { h with graph := { h.graph with sections := [], edges := kept } })
      let b := ((b.wr HUB_WAITFOR.BUILDING 0 0).wr HUB_WAITFOR.VALID 0 1).wr HUB_WAITFOR.DONE_TICK 0 now
      let cut := decide (32736 < edges.length)
      let b := (b.wr HUB_WAITFOR.EDGE_COUNT 0 kept.length).wrB HUB_WAITFOR.TRUNCATED 0 cut
      b.completeWhere now (fun w => match w with
        | .graph => some (stDone, 0, [b.rd HUB_WAITFOR.BUILD_ID 0, kept.length, cut.toNat])
        | _ => none))

/-- TICKET_HANG: HANG_AGE has reached HANG_TICKS and no hang has been reported since it was last 0 (R146). -/
def execTicketHang (f : FieldNo) (s : State) : Host.Outcome State Fault Refusal :=
  onB s (fun now b =>
    let age := b.rd F_TICKET.HANG_AGE f
    if age < b.rd HUB_WAITFOR.HANG_TICKS 0 ∨ (b.fu f).hangReported ∨ (b.proc 84).st ≠ 0 then b
    else
      let b := b.modFu f (fun u => { u with hangReported := true })
      let b := ((b.inc HUB_WAITFOR.HANG_COUNT 0).wr HUB_WAITFOR.LAST_HANG_FIELD 0 f).wr HUB_WAITFOR.LAST_HANG_TICK 0 now
      let b := b.record 84 now 0 0x14 srcHub 0 f age
      let b := b.monEvent now 0 0x38 srcHub ([f.val, 0, 0, 0] ++ leBytes 4 age)
      if b.bit HUB_WAITFOR.BUILDING 0 ∨ (b.hub.built ∧ now < b.hub.lastBuild + b.rd HUB_WAITFOR.REBUILD_MIN 0) then b
      else b.startBuild now 1 f)

/-! ### Cap shares (R137) -/

/-- Energy billed to an account so far, in credit units. -/
def Account.energy (a : Account) : Nat := a.energyMj * 15625 + a.energyFrac

/-- Contexts that are not as at reset. -/
def Block.openCtxs (b : Block) : List Nat := (keysOf b.ctxs).filter (fun n => (b.ctx n).st == 1)

/-- HELD as H0 keeps it: what the fields will take at the next boundary. -/
def Ctx.heldNow (c : Ctx) : Bool := c.dueHeld.getD c.held

/-- One context's evaluation over `period` ticks: a credit unit in a tick is 125/4 mW. (DEDUCED, log entries 54, 118.) -/
def Block.shareEval (b : Block) (period n : Nat) : Block :=
  let c := b.ctx n
  let e := (b.acct n).energy
  let units := e - c.shareEnergy
  let power := units * 125 / (4 * period)
  let draw := units * 125 * 256
  let figure := c.capShare * b.capMs * (4 * period)
  let held := if figure < draw then true else if 16 * draw ≤ 15 * figure then false else c.heldNow
  b.setCtx n { c with jobPower := power, shareEnergy := e, dueHeld := some held }

/-- CAP_SHARE_EVAL: at a multiple of SHARE_PERIOD, each OPEN context with a share. While H0 is not in RUN nothing is evaluated,
and the span of the next evaluation still starts here. (DEDUCED, log entry 54.) -/
def execCapShareEval (s : State) : Host.Outcome State Fault Refusal :=
  onB s (fun now b =>
    let period := b.rd HUB_TICKET.SHARE_PERIOD 0
    if now % period ≠ 0 then b
    else b.each b.openCtxs (fun b n =>
      if (b.proc 84).st = 0 ∧ (b.ctx n).capShare ≠ 0 then b.shareEval period n
      else b.modCtx n (fun c => { c with shareEnergy := (b.acct n).energy })))

/-! ### Aborting a job (R143) -/

/-- Retire one ticket of an aborting job at boundary `now`. -/
def Block.abortTicket (b : Block) (now f k : Nat) : Block :=
  let t := b.slot (tid f k)
  let b := if t.st = 1 then b.dequeue f k else b
  let b := b.modSlot (tid f k) (fun x => { x with
    st := 4, aborted := true, ended := true, endTick := now, energy := if t.st = 3 then x.energy else 0
    billAt := if t.st = 3 then now + 1 else 0, retireAt := now + 2 })
  let b := ((b.inc F_TICKET.ABORTED f).modColl' f (jobOf t.task) Coll.addAborted).resetHang f
  if t.st = 3 then b else b.record f now 0 0x04 (pid f t.first) 1 t.task 0

/-- A message that answers a dropped request is not sent (R143); a refusal answers none. (DEDUCED, log entry 51.) -/
def dropsOut (n : Nat) : TkOut → Bool
  | .response t _ _ result _ _ _ _ => result != 2 && jobOf t == n
  | .grant t _ _ => jobOf t == n

/-- CONTEXT_ABORT: at the boundary, the tickets and wafer-queue entries of a job whose context is ABORTING.
(DEDUCED, log entry 51.) -/
def execContextAbort (n : CtxNo) (s : State) : Host.Outcome State Fault Refusal :=
  onB s (fun now b =>
    if (b.ctx n).st ≠ 2 ∨ now ≤ (b.ctx n).abortFrom then b
    else
      let b := b.each allFields (fun b f =>
        let mine := (b.slotsOf f).filter (fun e =>
          jobOf e.2.task == n && decide (1 ≤ e.2.st) && decide (e.2.st ≤ 3) && !e.2.ended)
        let b := b.each mine (fun b e => b.abortTicket now f e.1)
        b.cond ((b.fu f).outQ.any (dropsOut n))
          (fun b => b.modFu f (fun u => { u with outQ := u.outQ.filter (fun o => !dropsOut n o) })))
      let b := b.modHub (fun h => { h with wq := h.wq.filter (fun e => jobOf e.req.task.toNat != n) })
      let b := b.modCtx n (fun x => { x with abortAt := some (x.abortAt.getD now) })
      b.wr HUB_TICKET.WQ_DEPTH 0 b.hub.wq.length)

/-- A ticket of job `n` shows WAITING, GRANTED or RUNNING, or waits in the wafer queue (words 4 to 6 of Table 6.4). -/
def Block.jobTickets (b : Block) (n : Nat) : Bool :=
  b.hub.wq.any (fun e => jobOf e.req.task.toNat == n) ||
  b.slots.any (fun e => jobOf e.2.task == n && decide (1 ≤ e.2.st) && decide (e.2.st ≤ 3))

/-- No ticket of job `n` remains and all its billing is complete: for an abort at B, from boundary B + 2 (R143). -/
def Block.jobClear (b : Block) (now n : Nat) : Bool :=
  (b.ctx n).abortAt.any (fun t => decide (t + 2 ≤ now)) && !b.jobTickets n && !(b.slots.any (fun e => jobOf e.2.task == n && e.2.billAt != 0))

end Sys2Proof.Machine
end

