-- ==== Sys2Proof/Machine/Accounts.lean ====
section
/-!
DEFINITION. Job accounts, the drain of the fields' collection records, and the always-on counters (R227 to R238, R224).
-/

namespace Sys2Proof.Machine

open Sys2Proof

/-! ### The account record (Table 10.1) -/

/-- STATUS word. -/
def Account.status (a : Account) : Nat :=
  a.st * 2 ^ 29 + a.abortCause * 2 ^ 25 + a.estOnly.toNat * 2 ^ 24 + a.prevCtx * 2 ^ 16 + a.restarts

/-- The 192 bytes of an account. -/
def Account.bytes (a : Account) : List Nat :=
  leBytes 4 a.status ++ leBytes 4 a.updateSeq ++ leBytes 8 a.openTick ++ leBytes 8 a.closeTick ++ leBytes 8 a.energyMj ++
  leBytes 4 a.energyFrac ++ leBytes 4 a.retired ++ leBytes 4 a.cancelled ++ leBytes 4 a.abortedT ++ leBytes 8 a.busyPt ++
  (List.range 12).flatMap (fun r => leBytes 8 (a.thr.getD r 0)) ++ leBytes 8 a.lastDrain ++ List.replicate 32 0

/-- An account is final (R233). -/
def Account.final (a : Account) : Bool := a.st == 3 || a.st == 4

/-- Change an account: UPDATE_SEQ counts each change (Table 10.1). -/
def Block.changeAcct (b : Block) (n : Nat) (g : Account → Account) : Block :=
  b.modAcct n (fun a => { g a with updateSeq := lowBits 32 (a.updateSeq + 1) })

/-- ENERGY_MJ as two response words. -/
def Account.energyWords (a : Account) : List Nat := [lowBits 32 a.energyMj, a.energyMj / 2 ^ 32]

/-! ### Opening and closing (R228, R233 to R235) -/

/-- ACCOUNT_OPEN (R213, R228): the context opens at the next boundary. -/
def execAccountOpen (c : Cmd) (s : State) : Host.Outcome State Fault Refusal :=
  .next (runCmdB 0x20 c s none (fun _ pt b =>
    let now := s.tick
    let n := c.arg 0 % 256
    let group := c.arg 0 / 256 % 256
    let x := b.ctx n
    if group ≠ 0 ∧ group ≠ b.rd HUB_LOCK.GROUP 0 then b.stop now pt stStateReject b.mgr
    else if (b.acct n).st = 1 ∨ (b.acct n).st = 2 ∨ x.st ≠ 0 ∨ x.due.isSome then b.stop now pt stBusy 0
    else
      (b.setCtx n { x with opening := (group, c.arg 0 / 2 ^ 16 % 256, c.arg 0 / 2 ^ 24 % 8), due := some 1 }).await
        pt (.opening n)))

/-- The context and its account open at boundary `now`. -/
def Block.openAccount (b : Block) (now n : Nat) : Block :=
  let b := b.modCtx n (fun x => { x with
    st := 1, held := false, lockGroup := x.opening.1, capShare := x.opening.2.1, prioBoost := x.opening.2.2
    openTick := now, jobPower := 0, heldTicks := 0, shareEnergy := 0, due := none, dueHeld := none, abortAt := none })
  let b := b.setAcct n { Account.reset with st := 1, openTick := now, updateSeq := 1 }
  b.completeWhere now (fun w => if w = .opening n then some (stDone, 0, [lowBits 32 now]) else none)

/-- Begin to close an OPEN account: through ABORTING with a cause, or plainly with cause 0. -/
def Block.closeAccount (b : Block) (n cause : Nat) : Block :=
  let b := b.changeAcct n (fun a => { a with st := 2, abortCause := cause })
  b.modCtx n (fun x => { x with due := some (if cause = 0 then 0 else 2) })

/-- An OPEN account is aborted at this boundary: its context enters ABORTING here (R234). -/
def Block.abortAccount (b : Block) (now n cause : Nat) : Block :=
  (b.closeAccount n cause).modCtx n (fun x => { x with st := 2, due := none, abortFrom := now })

/-- ACCOUNT_CLOSE (R233, R234). -/
def execAccountClose (c : Cmd) (s : State) : Host.Outcome State Fault Refusal :=
  .next (runCmdB 0x21 c s none (fun now pt b =>
    let n := c.arg 0
    if (b.acct n).st ≠ 1 then b.stop now pt stBadArg (badArgDetail 1 0)
    else (b.closeAccount n (if b.jobTickets n then 1 else 0)).await pt (.account n)))

/-- The first status of the commands that wait for account `n`. -/
def Block.acceptClose (b : Block) (now n : Nat) : Block :=
  b.each [0, 1, 2] (fun b pt => match (b.port pt).flight with
    | some fl => if fl.wait = .account n ∧ !fl.accepted then b.accept now pt [] else b
    | none => b)

/-- The contexts at a boundary: changes that are due, HELD, and ABORTING contexts whose job is clear (R137, R143, R233).
(DEDUCED, log entry 118.) -/
def Block.ctxBoundary (b : Block) (now n : Nat) : Block :=
  let x := b.ctx n
  let b := match x.due with
    | some 1 => b.openAccount now n
    | some 2 => (b.modCtx n (fun x => { x with st := 2, due := none, abortFrom := now })).acceptClose now n
    | some _ =>
      let b := if b.jobTickets n then
          (b.changeAcct n (fun a => { a with abortCause := 1 })).modCtx n (fun x => { x with st := 2, due := none, abortFrom := now })
        else b.modCtx n (fun x => { x with st := 0, due := none, held := false, dueHeld := none, closedAt := now })
      b.acceptClose now n
    | none =>
      if x.st = 2 ∧ b.jobClear now n then b.modCtx n (fun x => { x with st := 0, held := false, dueHeld := none, closedAt := now })
      else b
  let y := b.ctx n
  let held := if y.st = 1 then y.heldNow else y.held
  b.modCtx n (fun y => { y with held := held, dueHeld := none, heldTicks := lowBits 32 (y.heldTicks + held.toNat) })

/-- ACCOUNT_READ (R227). -/
def execAccountRead (c : Cmd) (s : State) : Host.Outcome State Fault Refusal :=
  .next (runCmd 0x22 c s none (fun pt s =>
    let a := s.b.acct (c.arg 0)
    let data := [a.status] ++ a.energyWords ++ [a.energyFrac, a.updateSeq]
    if c.bufLen 1 = 0 then { s with b := s.b.done s.tick pt data }
    else match s.b.bufCheck c 1 192 with
      | some r => { s with b := s.b.stop s.tick pt r.1 r.2 }
      | none =>
        let s := writeBuf s c 1 a.bytes
        { s with b := s.b.done s.tick pt data }))

/-- JOB_RESTART_NOTE (R235). (PRESUMED, log entry 14.) -/
def execJobRestartNote (c : Cmd) (s : State) : Host.Outcome State Fault Refusal :=
  .next (runCmdB 0x28 c s none (fun now pt b =>
    let n := c.arg 0 % 256
    let m := c.arg 0 / 256
    if (b.acct n).st ≠ 1 ∨ !(b.acct m).final then b.stop now pt stBadArg (badArgDetail 1 0)
    else (b.changeAcct n (fun a => { a with prevCtx := m, restarts := lowBits 16 ((b.acct m).restarts + 1) })).done now pt []))

/-! ### Draining (R231, R232) -/

/-- DRAIN_PASS: at a multiple of 64 a field reads and clears its non-zero records and sends them (R231). -/
def execDrainPass (f : FieldNo) (s : State) : Host.Outcome State Fault Refusal :=
  onB s (fun now b =>
    if now % 64 ≠ 0 then b
    else
      let b := b.modFu f (fun u => { u with drainStart := now })
      b.each (keysIn b.colls (collNo f 0) 256) (fun b k =>
        let r := b.coll k
        (b.setColl k Coll.reset).modFu f (fun u => { u with
          drainSeq := u.drainSeq + 1
          drainKept := u.drainKept ++ [{ seqNo := u.drainSeq + 1, ctx := k - collNo f 0, cells := r, sentAt := now, inFlight := true }] })))

/-- What a drain frame adds to an account. -/
def Account.addCells (a : Account) (now : Nat) (r : Coll) : Account :=
  let frac := a.energyFrac + r.energy
  { a with
    energyMj := a.energyMj + frac / 15625, energyFrac := frac % 15625, estOnly := a.estOnly || r.estOnly
    retired := lowBits 32 (a.retired + r.retired), cancelled := lowBits 32 (a.cancelled + r.cancelled)
    abortedT := lowBits 32 (a.abortedT + r.aborted), busyPt := a.busyPt + r.busy
    thr := List.zipWith (· + ·) a.thr r.thr, lastDrain := now }

/-- The hub discards a drain frame: one TICKET_PROTOCOL event of the hub (R232). (DEDUCED, log entry 132.) -/
def Block.drainError (b : Block) (now f : Nat) : Block :=
  let b := ((b.inc HUB_TICKET.PROTO_ERR 0).wr HUB_TICKET.LAST_DETAIL 0 0x10).wr HUB_TICKET.LAST_FIELD 0 f
  ((b.wr HUB_TICKET.LAST_TASK 0 0).wr HUB_TICKET.LAST_TICK 0 now).fault 24 255 0x10 0

/-- DRAIN_FRAME: the hub applies a field's next frame, or discards a duplicate (R231, R232). -/
def execDrainFrame (f : FieldNo) (s : State) : Host.Outcome State Fault Refusal :=
  onB s (fun now b =>
    let u := b.fu f
    match u.drainKept.find? (fun d => d.inFlight) with
    | none => b
    | some d =>
      let b := b.modFu f (fun u => { u with
        drainKept := u.drainKept.map (fun x => if x.seqNo = d.seqNo then { x with inFlight := false } else x) })
      if d.seqNo ≤ u.drainApplied then b
      else
        let b := b.modFu f (fun u => { u with drainApplied := d.seqNo })
        let a := b.acct d.ctx
        if a.st = 1 ∨ a.st = 2 then
          (b.changeAcct d.ctx (fun a => a.addCells now d.cells)).add2 HUB_COUNTERS.BILLED_MJ_LO HUB_COUNTERS.BILLED_MJ_HI 0
            ((a.energyFrac + d.cells.energy) / 15625)
        else b.drainError now f)

/-- DRAIN_RESEND: from tick b + 34 a field re-sends the frames that the hub has not acknowledged (R231). -/
def execDrainResend (f : FieldNo) (s : State) : Host.Outcome State Fault Refusal :=
  onB s (fun now b =>
    let late := (b.fu f).drainKept.filter (fun d => decide (d.sentAt + 34 ≤ now))
    if late.isEmpty then b
    else (b.add HUB_ACCOUNT.DRAIN_RESEND 0 late.length).modFu f (fun u => { u with
      drainKept := u.drainKept.map (fun d => if d.sentAt + 34 ≤ now then { d with inFlight := true } else d) }))

/-- Every field's first pass that started after context `n` became CLOSED has ended. -/
def Block.passesDone (b : Block) (n : Nat) : Bool :=
  allFields.all (fun f =>
    let u := b.fu f
    decide ((b.ctx n).closedAt < u.drainStart) && u.drainKept.all (fun d => d.ctx != n || decide (d.seqNo ≤ u.drainApplied)))

/-- ACCOUNT_FINAL (R233). -/
def execAccountFinal (n : CtxNo) (s : State) : Host.Outcome State Fault Refusal :=
  onB s (fun now b =>
    if (b.acct n).st ≠ 2 ∨ (b.ctx n).st ≠ 0 ∨ (b.ctx n).due.isSome ∨ !b.passesDone n then b
    else
      let ab := (b.acct n).abortCause != 0
      let b := b.changeAcct n (fun a => { a with closeTick := now, st := if ab then 4 else 3 })
      let b := b.cond ab (fun b => b.inc HUB_ACCOUNT.ABORT_COUNT 0)
      let a := b.acct n
      b.completeWhere now (fun w => if w = .account n.val then some (stDone, 0, a.status :: a.energyWords) else none))

/-! ### Counters (R238) -/

/-- Reason counted for an active parcel in tick `t` (R98, R108): `held` says that it held a ticket; `plan` is its plan.
(DEDUCED, log entry 55.) -/
def countedReason (p : Parcel) (held : Bool) : Nat :=
  if !held || p.tickHalted then 0
  else if p.tickDroop ≠ 0 then p.tickDroop
  else if p.tickSafe then 0
  else p.plan2.reason

/-- Count one active parcel for tick `t`. (DEDUCED, log entry 21.) -/
def Block.countParcel (b : Block) (f t s : Nat) (l : List (Nat × Slot)) (mValid : Bool) : Block :=
  let p := b.parcel (pid f s)
  let mine := onParcel l s
  let held := mine.any (fun x => x.heldIn t)
  let r := countedReason p held
  let jobs := ((mine.filter (fun x => x.ranIn t)).map (fun x => jobOf x.task)).dedup
  let b := b.add2 F_COUNTERS.ACTIVE_PT_LO F_COUNTERS.ACTIVE_PT_HI f 1
  let b := b.add2 F_COUNTERS.Q_SUM_LO F_COUNTERS.Q_SUM_HI f p.plan2.q
  let b := b.cond held (fun b => b.add2 F_COUNTERS.HOLD_PT_LO F_COUNTERS.HOLD_PT_HI f 1)
  let b := b.cond (p.tickSafe && !p.tickHalted) (fun b => b.add2 F_COUNTERS.SAFE_PT_LO F_COUNTERS.SAFE_PT_HI f 1)
  let b := b.cond (r != 0) (fun b =>
    (b.add2 (F_COUNTERS.THR_PT_LO r) (F_COUNTERS.THR_PT_HI r) f 1).modFu f (fun u => { u with thrMask := u.thrMask ||| 2 ^ r }))
  b.each jobs (fun b n => b.modColl' f n (fun c =>
    let c := c.addBusy.addThr r
    if mValid then c else c.markEst))

/-- A tick in which a parcel of a plumb-mode wafer was throttled counts once in PLUMB_BREACH (R224). -/
def Block.countBreach (b : Block) (f t : Nat) : Block :=
  if b.hub.plumbLast && (b.fu f).thrMask != 0 && b.hub.breachTick != some t then
    (b.inc HUB_CONTOUR.PLUMB_BREACH 0).modHub (fun h => { h with breachTick := some t })
  else b

/-- COUNTER_UPDATE: every F_COUNTERS field for tick `now - 1`, and the collection records' time (R230, R238). -/
def execCounterUpdate (f : FieldNo) (s : State) : Host.Outcome State Fault Refusal :=
  onB s (fun now b =>
    let t := now - 1
    let u := b.fu f
    let l := b.slotsOf f
    let power := if u.mValid then b.rd F_EST.M_FIELD f else (b.control f).power.floor.toNat
    let b := b.modFu f (fun u => { u with thrMask := 0, faultPrev := [], cePrev := 0 })
    let b := b.each (b.actives f) (fun b s => b.countParcel f t s l u.mValid)
    let b := b.add2 F_COUNTERS.E_FIELD_LO F_COUNTERS.E_FIELD_HI f power
    let b := b.wr2 F_COUNTERS.T_SUM_LO F_COUNTERS.T_SUM_HI f
      (toCode 64 (ofCode 64 (b.rd2 F_COUNTERS.T_SUM_LO F_COUNTERS.T_SUM_HI f) + u.tLast.2.1))
    let b := if !u.peakSeen || decide (b.rdZ F_COUNTERS.T_PEAK f < u.tLast.1) then
        (((b.wrZ F_COUNTERS.T_PEAK f u.tLast.1).wr F_COUNTERS.PEAK_SLOT f u.tLast.2.2).wr F_COUNTERS.T_PEAK_TICK f t).modFu f
          (fun u => { u with peakSeen := true })
      else b
    let b := b.add F_COUNTERS.ECC_CE f u.cePrev
    let b := b.each u.faultPrev (fun b e =>
      let fd := if e.1 % 2 = 1 then F_COUNTERS.FAULT_CNT_ODD (e.1 / 2) else F_COUNTERS.FAULT_CNT_EVEN (e.1 / 2)
      b.addSat fd f e.2)
    (b.wr F_COUNTERS.CNT_TICK f t).countBreach f t)

/-- HUB_COUNTER_UPDATE: HUB_COUNTERS for the tick whose reports are all in, or for the tick before when one of its reports is
missing, which is then left out; a tick is counted once (R238). The power that the reports of a tick carry is the measured one of
two ticks before. (DEDUCED, log entry 56.) -/
def execHubCounterUpdate (s : State) : Host.Outcome State Fault Refusal :=
  onB s (fun now b =>
    let h := b.hub
    let full := decide (84 ≤ h.arrived.length)
    let t := if full then now else now - 1
    let done := match h.counted with
      | some x => decide (t ≤ x)
      | none => decide (t = 0 ∧ !full)
    if done then b else
    let inn := allFields.filter (fun f => if full then true else h.arrivedLast.contains f)
    let rep (f : Nat) : Report := if full then b.repOf f else mget Report.zero h.reportsLast f
    let b := b.modHub (fun h => { h with counted := some t })
    let p := (inn.map (fun f => (rep f).power)).sum / 16 + b.overhead
    let b := b.add2 HUB_COUNTERS.W_ENERGY_LO HUB_COUNTERS.W_ENERGY_HI 0 p
    let b := if !h.powerSeen || decide (b.rd HUB_COUNTERS.P_PEAK 0 < p) then
        ((b.wr HUB_COUNTERS.P_PEAK 0 p).wr HUB_COUNTERS.P_PEAK_TICK 0 (t - 2)).modHub (fun h => { h with powerSeen := true })
      else b
    let b := b.each inn (fun b f =>
      let x := (rep f).tmax
      if !b.hub.peakSeen || decide (b.rdZ HUB_COUNTERS.W_TPEAK 0 < x) then
        (((b.wrZ HUB_COUNTERS.W_TPEAK 0 x).wr HUB_COUNTERS.TPEAK_FIELD 0 f).wr HUB_COUNTERS.TPEAK_TICK 0 t).modHub
          (fun h => { h with peakSeen := true })
      else b)
    let live := inn.filter (fun f => !b.isOut f)
    let b := b.cond (!live.isEmpty) (fun b =>
      b.wrZ HUB_COUNTERS.W_TMEAN 0 ((live.map (fun f => b.rdZ F_THERM.T_MEAN f)).sum / live.length))
    let mask := (inn.map (fun f => (b.fu f).thrMask)).foldl (· ||| ·) 0
    let b := b.each ((List.range 12).filter (fun r => mask.testBit (r + 1))) (fun b r => b.inc (HUB_COUNTERS.THR_WT (r + 1)) 0)
    b.wr HUB_COUNTERS.CNT_TICK 0 t)

end Sys2Proof.Machine
end

