-- ==== Sys2Proof/Machine/Thermal.lean ====
section
/-!
DEFINITION. Broken sensors and their spares, warning, throttle and restore, bands, coolant, and the detection of a thermal
shutdown (R151 to R172).
-/

namespace Sys2Proof.Machine

open Sys2Proof

/-! ### Cooling demand (R169) -/

/-- r_f > 0 or any r_p > 0 in a field. -/
def Block.throttling (b : Block) (f : Nat) : Bool :=
  b.rd F_THERM.FIELD_RED f != 0 || (keysIn b.parcels (pid f 0) 672).any (fun k => (b.parcel k).red != 0)

/-- DEMAND_LEVEL by R169; the rundown that goes on after a reset belongs to a thermal shutdown while its record lacks ACK. -/
def Block.demandLevel (b : Block) : Nat :=
  if b.hub.tripped || b.hub.shutHold || b.bit HUB_COOL.FLOW_CUT 0 || (b.bit HUB_COOL.RUNDOWN 0 && !b.mon.acked) then 3
  else if allFields.any b.throttling then 2
  else if allFields.any (fun f => b.bit F_THERM.WARN f) then 1
  else 0

/-- A level change is published at once, and raises an in-band interrupt (R169, R412). -/
def Block.publishLevel (b : Block) : Block :=
  let l := b.demandLevel
  if l = b.rd HUB_COOL.DEMAND_LEVEL 0 then b else (b.wr HUB_COOL.DEMAND_LEVEL 0 l).ibi 0

/-- COOL_DEMAND_UPDATE: every 512 ticks, the mean of p_w over the PCAP_MS window in 10 W (R169). -/
def execCoolDemandUpdate (s : State) : Host.Outcome State Fault Refusal :=
  onB s (fun now b => b.cond (now % 512 == 0) (fun b =>
    (b.wr HUB_COOL.COOL_DEMAND 0 (min 65535 (b.rd HUB_CAP.AVG_MS 0 / 10000))).publishLevel))

/-- Raise the thermal cause of MGR_IRQ when its enable bit allows (R160). -/
def Block.thermalIrq (b : Block) (en : Fld) : Block := b.cond (b.bit en 0) (fun b => b.wr HUB_STATE.THERMAL 0 1)

/-! ### Declarations (R155, R157, R158, R163) -/

/-- Declare a sensor: the flag, the tick and the counts of its tests. -/
def Sensor.declare (r : Sensor) (now : Nat) : Sensor :=
  { r with broken := true, decided := false, declaredAt := now, bistPass := false, rangeCount := 0, devCount := 0, stuckCount := 0 }

/-- A change of a cadastre entry (R432): UPDATE_TICK takes the tick, the agent loads the entry at the next boundary, and H1 writes it to
the calibration store. An entry that does not change stands. (DEDUCED, log entry 44.) -/
def Block.putCad (b : Block) (now f s : Nat) (g : Cad → Cad) : Block :=
  let c := g (b.cadE (pid f s))
  if c = b.cadE (pid f s) then b
  else
    let c := { c with dirty := true, updateTick := lowBits 32 now }
    ((b.setCadE (pid f s) c).modNv (fun v => { v with cad := mput Cad.reset v.cad (pid f s) c })).saveStore now true

/-- Undo the remaps of a group's slots that still validate the spare; the substitute stays in force (R157). The entry of slot 4g marks
the spare broken. -/
def Block.undoRemap (b : Block) (now f g : Nat) : Block :=
  b.each (List.range 4) (fun b j =>
    let s := 4 * g + j
    let spare := (b.cadE (pid f s)).useSpare
    let validating := (b.sensor (senParcel f s)).validating
    let b := b.putCad now f s (fun c => { c with spareBroken := c.spareBroken || j == 0, useSpare := c.useSpare && !validating })
    b.cond (spare && validating) (fun b => b.modSensor (senParcel f s) (fun r => { r with validating := false, passCount := 0 })))

/-- Sensors of a field: 672 of parcels, 168 spares and 8 benchmarks (R151). -/
def sensorExists (k : SensorKind) (i : Nat) : Bool :=
  match k with
  | .parcel => true
  | .spare => decide (i < 168)
  | .bench => decide (i < 8)

/-- r_p is saved at a declaration, a lift that still waits for the processor included (R163, R164). -/
def Parcel.saveRed (p : Parcel) : Parcel :=
  { p with redSaved := if p.liftDue then min p.red p.redSaved else p.red, liftDue := false, cool := false }

/-- SENSOR_BROKEN: a declaration decided in an earlier tick takes effect at the boundary (R154, R155). -/
def execSensorBroken (f : FieldNo) (k : SensorKind) (index : SlotNo) (s : State) : Host.Outcome State Fault Refusal :=
  onB s (fun now b =>
    let n := match k with
      | .parcel => senParcel f index
      | .spare => senSpare f index
      | .bench => senBench f index
    let detail := match k with
      | .parcel => index.val
      | .spare => 0x4000 + index.val
      | .bench => 0x8000 + index.val
    let r := b.sensor n
    if !sensorExists k index || !r.decided || r.broken || r.eventAt == now then b
    else
      let b := b.modSensor n (fun r => r.declare now)
      let b := match k with
        | .parcel =>
          (b.modSensor n (fun r => { r with validating := false, passCount := 0 })).modParcel (pid f index)
            Parcel.saveRed
        | .spare => (b.undoRemap now f index).each ((List.range 4).map (fun j => 4 * index.val + j)) (fun b x =>
            b.cond (b.cadE (pid f x)).useSpare (fun b => b.modParcel (pid f x) Parcel.saveRed))
        | .bench => b
      (b.inc F_THERM.BROKEN_EVENTS f).fault 8 f detail 0)

/-- The group's spare is free for slot `s`: no other slot of the group reads it or is about to. -/
def Block.spareFree (b : Block) (f s : Nat) : Bool :=
  (List.range 4).all (fun j =>
    let k := 4 * (s / 4) + j
    k == s || (!(b.cadE (pid f k)).useSpare && (b.sensor (senParcel f k)).action != 1))

/-- The group's spare is broken, or a self-test has marked it so in the cadastre (R155, R344). (DEDUCED, log entry 102.) -/
def Block.spareBad (b : Block) (f g : Nat) : Bool := (b.sensor (senSpare f g)).broken || (b.cadE (pid f (4 * g))).spareBroken

/-- AUTO_REMAP: the field processor commits a remap of a broken parcel sensor (R157, R164). -/
def execAutoRemap (f : FieldNo) (p : SlotNo) (s : State) : Host.Outcome State Fault Refusal :=
  onB s (fun now b =>
    let r := b.sensor (senParcel f p)
    let since := match (b.proc f).runTick with
      | some t => max r.declaredAt (t + 1)
      | none => r.declaredAt
    b.cond (b.bit F_THERM.AUTO_REMAP f && (b.proc f).st == 0 && decide (now ≤ since + 64) && b.active f p && r.broken && !(b.cadE (pid f p)).useSpare &&
        r.action == 0 && b.spareFree f p && !b.spareBad f (p / 4))
      (fun b => b.modSensor (senParcel f p) (fun r => { r with action := 1 })))

/-- The substitute lifts: r_p falls back to the value saved at the declaration (R163), once the field processor is in RUN (R164). -/
def Block.liftSubstitute (b : Block) (f s : Nat) : Block :=
  let run := (b.proc f).st == 0
  (b.modParcel (pid f s) (fun p => if run then { p with red := min p.red p.redSaved } else { p with liftDue := true })).publishLevel

/-- Lifts that waited for the field processor (R164). -/
def Block.liftDues (b : Block) (f : Nat) : Block :=
  b.each ((keysIn b.parcels (pid f 0) 672).filter (fun k => (b.parcel k).liftDue)) (fun b k =>
    b.modParcel k (fun p => { p with red := min p.red p.redSaved, liftDue := false }))

/-- A committed remap, return or release of a slot takes effect at a boundary (R157, R158). -/
def Block.remapBoundary (b : Block) (now f s : Nat) : Block :=
  let r := b.sensor (senParcel f s)
  if r.action = 0 then b
  else
    let start (spare : Bool) (b : Block) : Block :=
      (b.putCad now f s (fun c => { c with useSpare := spare })).modSensor (senParcel f s) (fun r => { r with
        validating := true, passCount := 0, shutCount := 0 })
    let b := match r.action with
      | 1 => ((start true b).inc F_THERM.REMAPS f).monEvent now 0 0x2A (pid f s) ([f, 0] ++ leBytes 2 s)
      | 2 => start false b
      | _ =>
        let own := !(b.cadE (pid f s)).useSpare
        (b.modSensor (senParcel f s) (fun r => { r with broken := false, bistPass := false, shutCount := 0 })).cond own (fun b => b.liftSubstitute f s)
    let b := b.modSensor (senParcel f s) (fun r => { r with action := 0 })
    b.completeWhere now (fun w => if w = .remap f s r.action then some (stDone, 0, []) else none)

/-- SPARE_VALIDATED: VALIDATE_READS consecutive readings have passed, and from the next boundary the readings are used in full; a
validated spare ends the declaration of the slot's own sensor (R156 to R158, R163). -/
def execSpareValidated (f : FieldNo) (p : SlotNo) (s : State) : Host.Outcome State Fault Refusal :=
  onB s (fun now b =>
    let r := b.sensor (senParcel f p)
    if !r.validating || r.eventAt == now || r.passCount < b.rd F_THERM.VALIDATE_READS f then b
    else
      let was := b.substituted f p
      let spare := (b.cadE (pid f p)).useSpare
      let b := b.modSensor (senParcel f p) (fun r => { r with
        validating := false, passCount := 0, temp := r.newTemp, held := r.newTemp, valid := true, broken := r.broken && !spare })
      b.cond was (fun b => b.liftSubstitute f p))

/-- Why SENSOR_REMAP changes nothing: the first case of R158 and R157 that holds, as status and detail; status 0 is DONE. -/
def Block.remapStop (b : Block) (f s act : Nat) : Option (Nat × Nat) :=
  let r := b.sensor (senParcel f s)
  let c := b.cadE (pid f s)
  if act = 3 ∨ 84 ≤ f ∨ 672 ≤ s then some (stBadArg, badArgDetail 1 0)
  else if !b.active f s then some (stStateReject, b.mgr)
  else if act = 1 ∧ !c.useSpare then some (stStateReject, b.mgr)
  else if act = 1 ∧ r.broken then some (stBadArg, badArgDetail 1 0)
  else if act = 2 ∧ (!r.broken ∨ !r.bistPass) then some (stBadArg, badArgDetail 1 0)
  else if act ≠ 0 then none
  else if !b.spareFree f s then some (stConflict, 0)
  else if b.spareBad f (s / 4) then some (stBadArg, badArgDetail 1 0)
  else if c.useSpare ∨ r.action = 1 then some (stDone, 0)
  else none

/-- SENSOR_REMAP (R157, R158). -/
def execSensorRemap (c : Cmd) (s : State) : Host.Outcome State Fault Refusal :=
  .next (runCmdB 0x68 c s none (fun now pt b =>
    let f := c.arg 0 % 128
    let p := c.arg 0 / 65536 % 1024
    let act := c.arg 0 / 2 ^ 28
    match b.remapStop f p act with
    | some r => b.stop now pt r.1 r.2
    | none => (b.modSensor (senParcel f p) (fun r => { r with action := act + 1 })).await pt (.remap f p (act + 1))))

/-! ### Warning, throttle, restore (R160 to R164) -/

/-- THERMAL_WARNING (R160). -/
def execThermalWarning (f : FieldNo) (s : State) : Host.Outcome State Fault Refusal :=
  onB s (fun now b =>
    let u := b.fu f
    let warn := b.bit F_THERM.WARN f
    if !warn && u.sawWarn then
      let b := ((b.wr F_THERM.WARN f 1).inc F_THERM.WARN_ENTRIES f).monEvent now 0 0x28 (srcField f)
        ([f.val, 0] ++ leBytes 2 (b.rd F_THERM.T_MAX f))
      (b.thermalIrq HUB_THERM.WARN_IRQ_EN).publishLevel
    else if warn && !u.sawAboveClear then (b.wr F_THERM.WARN f 0).publishLevel
    else b)

/-- therm_lim := FPL × (50 - r_f) / 50 in force (R161). -/
def Block.putThermLim (b : Block) (f : Nat) : Block :=
  b.wr F_LIMIT.THERM_LIM f (b.rd F_LIMIT.FPL f * (50 - b.rd F_THERM.FIELD_RED f) / 50)

/-- One slot's throttle step. (DEDUCED, log entry 59.) -/
def Block.throttleSlot (b : Block) (f s : Nat) (limit : Int) : Block :=
  let t := mget 0 (b.fu f).snapTemps s
  if limit < t ∧ (b.parcel (pid f s)).red < 50 then
    (b.modParcel (pid f s) (fun p => { p with red := min 50 (p.red + 2) })).inc F_THERM.THROT_STEPS f
  else b

/-- THERMAL_THROTTLE_STEP: at a multiple of 64, from the readings in force at offset 0 of the tick before (R161, R162, R164).
(DEDUCED, log entry 59.) -/
def execThermalThrottleStep (f : FieldNo) (s : State) : Host.Outcome State Fault Refusal :=
  onB s (fun now b =>
    if now % 64 ≠ 0 ∨ (b.proc f).st ≠ 0 then b
    else
      let limit : Int := 8 * b.rd F_THERM.THROT_C f
      let was := b.throttling f
      let b := b.each (b.actives f) (fun b s => b.throttleSlot f s limit)
      let b := if limit < (b.fu f).snapField ∧ b.rd F_THERM.FIELD_RED f < 50 then
          let c := b.control f
          ((b.wr F_THERM.FIELD_RED f (min 50 (b.rd F_THERM.FIELD_RED f + 2))).inc F_THERM.THROT_STEPS f).limitRecord f now 0 2
            ((if b.rd F_LIMIT.BIND_RAIL f = 0 then c.core else c.sram) / 16) (b.fu f).pMax
        else b
      let b := b.putThermLim f
      (b.cond (!was && b.throttling f) (fun b => b.thermalIrq HUB_THERM.THROT_IRQ_EN)).publishLevel)

/-- THERMAL_RESTORE_STEP: at a multiple of 256, after the throttle step (R161, R164). -/
def execThermalRestoreStep (f : FieldNo) (s : State) : Host.Outcome State Fault Refusal :=
  onB s (fun now b =>
    if now % 256 ≠ 0 then b
    else
      let run := (b.proc f).st == 0
      let b := b.each (b.actives f) (fun b s =>
        let cool := (b.parcel (pid f s)).cool && !b.substituted f s
        b.modParcel (pid f s) (fun p => { p with red := if run && cool then p.red - 1 else p.red, cool := true }))
      let b := if run && (b.fu f).benchCoolDone then b.wr F_THERM.FIELD_RED f (b.rd F_THERM.FIELD_RED f - 1) else b
      (b.cond run (fun b => b.putThermLim f)).publishLevel)

/-! ### Bands (R165) -/

/-- BAND_CHANGE: the code decided in the last tick takes effect, on the band lines and in the trace. -/
def execBandChange (f : FieldNo) (s : State) : Host.Outcome State Fault Refusal :=
  onB s (fun now b =>
    let old := b.rd F_THERM.BAND f
    let new := (b.fu f).bandNext
    if new = old then b
    else
      let b := ((b.wr F_THERM.BAND f new).inc F_THERM.BAND_CHANGES f).wr F_THERM.BAND_TICK f now
      let b := (b.modFu f (fun u => { u with bandTick := some now })).modPins (fun p => { p with band := mput 0 p.band f new })
      b.record f now 0 0x13 (srcField f) 0 (old * 16 + new) (b.rd F_THERM.T_MAX f))

/-! ### Coolant (R166 to R168) -/

/-- Differences of a list of moments, newest first. (DEDUCED, log entry 57.) -/
def gaps : List Nat → List Nat
  | a :: c :: r => (a - c) :: gaps (c :: r)
  | _ => []

/-- FLOW_TACH_EDGE: TACH_HZ from the mean of the last four intervals, in survey cycles of 1 ns (R166).
(DEDUCED, log entry 57.) -/
def execFlowTachEdge (sc : ScOff) (s : State) : Host.Outcome State Fault Refusal :=
  onB s (fun now b =>
    let t := now * 2048 + sc.val
    let l := (t :: b.hub.tachEdges).take 5
    let g := gaps l
    let b := b.modHub (fun h => { h with tachEdges := l, tachLast := t })
    if g.isEmpty ∨ g.sum = 0 then b else b.wr HUB_COOL.TACH_HZ 0 (min 65535 (1000000000 * g.length / g.sum)))

/-- The tach is low at the mark of tick `now` (R166). -/
def Block.tachLow (b : Block) (now : Nat) : Bool :=
  let m := b.rd HUB_COOL.TACH_MIN 0
  m != 0 && (decide (1000000000 < (now * 2048 - b.hub.tachLast) * m) || decide (b.rd HUB_COOL.TACH_HZ 0 < m))

/-- The flow samples of a tick mark: loss at the second low sample of FLOW_OK, or after 3,907 ticks of low tach; the good span
otherwise (R166, R167). (DEDUCED, log entry 58.) -/
def Block.flowSample (b : Block) (now : Nat) (ok : Bool) : Block :=
  let low := b.tachLow now
  let h := b.hub
  let lows := if ok then 0 else h.flowLow + 1
  let slow := if low then h.tachLowTicks + 1 else 0
  let span := if ok && !low then h.goodSpan + 1 else 0
  let lost := if lows = 2 then some (now, 0) else if slow = 3907 then some (now, 1) else h.flowLost
  let due := b.bit HUB_COOL.FLOW_CUT 0 && span != 0 &&
    decide (b.rd HUB_COOL.FLOW_RESTORE 0 * 1000000 ≤ (span - 1) * 2048)
  let b := (b.wrB HUB_COOL.FLOW_OK_PIN 0 ok).wrB HUB_COOL.TACH_LOW 0 low
  b.modHub (fun h => { h with
    flowLow := lows, tachLowTicks := slow, goodSpan := span, flowLost := lost
    restoreAt := if due && h.restoreAt.isNone then some now else h.restoreAt })

/-- FLOW_LOSS: one tick after the mark at which flow was found lost (R167). (DEDUCED, log entry 58.) -/
def execFlowLoss (s : State) : Host.Outcome State Fault Refusal :=
  onB s (fun now b => match b.hub.flowLost with
    | none => b
    | some x =>
      if now ≤ x.1 then b
      else
        let b := b.modHub (fun h => { h with flowLost := none, restoreAt := none })
        let b := ((b.wr HUB_COOL.FLOW_CUT 0 1).wr HUB_CAP.FLOW_CUT 0 1).inc HUB_COOL.FLOW_LOSSES 0
        ((b.wr HUB_COOL.FLOW_LOSS_TICK 0 now).fault 26 255 x.2 0).publishLevel)

/-- FLOW_RESTORE: the boundary after the mark at which the good span reached FLOW_RESTORE (R167). -/
def execFlowRestore (s : State) : Host.Outcome State Fault Refusal :=
  onB s (fun now b => match b.hub.restoreAt with
    | none => b
    | some n =>
      if now ≤ n then b
      else
        let b := b.modHub (fun h => { h with restoreAt := none })
        ((b.wr HUB_COOL.FLOW_CUT 0 0).wr HUB_CAP.FLOW_CUT 0 0).publishLevel)

/-- Every valid benchmark of a field reads below its WARN_C - WARN_HYS. -/
def Block.benchesCool (b : Block) (f : Nat) : Bool :=
  (b.benchReadings f).all (fun t => decide (t < 8 * ((b.rd F_THERM.WARN_C f : Int) - b.rd F_THERM.WARN_HYS f)))

/-- RUNDOWN_S in survey cycles. -/
def Block.rundownSc (b : Block) : Nat := b.rd HUB_COOL.RUNDOWN_S 0 * 1000000000

/-- RUNDOWN_END (R168). -/
def execRundownEnd (s : State) : Host.Outcome State Fault Refusal :=
  onB s (fun now b => match b.hub.rundownFrom with
    | none => b
    | some t =>
      b.cond (decide (b.rundownSc ≤ (now - t) * 2048) && b.rails.all (fun e => e.2.run == 0) && allFields.all b.benchesCool)
        (fun b => (((b.wr HUB_COOL.RUNDOWN 0 0).modPins (fun p => { p with coolRundownN := false })).modHub
          (fun h => { h with rundownFrom := none })).publishLevel))

/-! ### Thermal shutdown (R170, R171) -/

/-- Does a sensor's crossing start a thermal shutdown? -/
def Block.tripReading (b : Block) (f : Nat) (k : SensorKind) (i : Nat) : Option Int :=
  let limit : Int := 8 * b.rd F_THERM.SHUT_C f
  match k with
  | .bench => if i < 8 ∧ b.benchOk f i ∧ limit < b.benchTemp f i then some (b.benchTemp f i) else none
  | _ =>
    let r := b.sensor (senParcel f i)
    let spare := (b.cadE (pid f i)).useSpare
    if b.active f i && decide (2 ≤ r.shutCount) && !r.validating && !b.substituted f i && (spare == decide (k = .spare)) then
      some r.temp
    else none

/-- The hottest valid benchmark of the wafer and its field. -/
def Block.waferBench (b : Block) : Int × Nat :=
  (allFields.flatMap (fun f => (b.benchReadings f).map (fun t => (t, f)))).foldl
    (fun (a : Option (Int × Nat)) x => match a with
      | none => some x
      | some y => if y.1 < x.1 then some x else some y) none |>.getD (0, 0)

/-- Table 7.6, bytes 0x00 to 0x33; ABORTED is filled in at tick D + 1. -/
def Block.shutdownBytes (b : Block) (now off f : Nat) (k : SensorKind) (i : Nat) (t : Int) : List Nat :=
  let w := b.waferBench
  let kind := match k with
    | .parcel => 0
    | .spare => 1
    | .bench => 2
  let map := (allFields.map (fun g => if b.throttling g then 2 ^ g else 0)).sum
  leBytes 2 0x70 ++ [1, (b.rd HUB_THERM.SHUT_COUNT 0 + 1) % 256] ++ leBytes 6 now ++ leBytes 2 off ++ [f, kind] ++ leBytes 2 i ++
  leBytes 2 (toCode 16 t) ++ leBytes 2 (8 * b.rd F_THERM.SHUT_C f) ++ leBytes 2 (toCode 16 w.1) ++
  [w.2, b.rd HUB_COOL.FLOW_OK_PIN 0 + 2 * b.rd HUB_COOL.FLOW_CUT 0 + 4 * b.rd HUB_COOL.TACH_LOW 0] ++
  leBytes 2 (b.rd HUB_COOL.TACH_HZ 0) ++ [b.point, 0] ++ leBytes 4 (b.rd HUB_CAP.AVG_MS 0 / 1000) ++ leBytes 12 map ++
  leBytes 8 0

/-- THERMAL_SHUTDOWN: tick D of Table 7.5, when the sensor's crossing holds. The record's energy figures and counts are those of
the snapshot; a second crossing marks its field only. -/
def execThermalShutdown (f : FieldNo) (k : SensorKind) (index : SlotNo) (sc : ScOff) (s : State) : Host.Outcome State Fault Refusal :=
  onB s (fun now b => match b.tripReading f k index with
    | none => b
    | some t =>
      let b := (b.wr F_THERM.TRIP f 1).modFu f (fun u => { u with tripped := true })
      if b.hub.tripped then b
      else
        let body := b.shutdownBytes now sc f k index t
        let r : MonRec :=
          { tier := 1, code := 0x70, tick := now, offset := sc, source := srcField f, suppressed := 0, flags := 0, seqNo := 0
            data := body, whole := true }
        let b := b.modHub (fun h => { h with
          tripped := true, tripRec := some r, forcedQ := true, haltWanted := some 4 })
        let b := (b.modPins (fun p => { p with thermTripN := true })).wr HUB_THERM.TRIP 0 1
        (b.evalMgr now).publishLevel)

end Sys2Proof.Machine
end

