-- ==== Sys2Proof/Machine/Tie.lean ====
section
/-!
DEFINITION. Tie-line frames as they are sent and received, group membership, and lock freeze (R217 to R221, R255).
-/

namespace Sys2Proof.Machine

open Sys2Proof

/-- Times in survey cycles. -/
def scOf (tick off : Nat) : Int := Int.ofNat (tick * 2048 + off)
def TieTime.sc (t : TieTime) : Int := scOf t.tick.toNat t.off.toNat

/-- A time as a frame carries it: 6 bytes of tick, 2 bytes of offset (R218). -/
def timeBytes (t : Int) : List Nat := leBytes 6 (t / 2048).toNat ++ leBytes 2 (t % 2048).toNat

/-- Port states (Table 9.5). -/
def tieDown : Nat := 0
def tieAlign' : Nat := 1
def tieHello : Nat := 2
def tieProbe : Nat := 3
def tieUp : Nat := 4

def Block.tieSt (b : Block) (k : Nat) : Nat := b.rd (HUB_TIE.STATE k) 0

/-- A TIE_SEND or TIE_RECV record (Table 11.2). -/
def Block.tieRecord (b : Block) (now off code k type seqNo : Nat) : Block :=
  b.record 84 now off code srcHub 0
    (type * 2 ^ 24 + seqNo % 256 * 2 ^ 16 + k * 256 + b.rd (HUB_TIE.FAR_PORT k) 0) (b.rd (HUB_TIE.FAR_ID k) 0)

/-- A control character Kx.y in `Tie.sent`. -/
def ctrl (code : Nat) : Nat := 256 + code

/-- The characters of a frame: K27.7, TYPE, SEQ, LEN, the payload, the CRC-32C over TYPE to the end of the payload, and K29.7
(R217). -/
def frameChars (type seqNo : Nat) (payload : List Nat) : List Nat :=
  let body := [type, seqNo, payload.length] ++ payload
  ctrl 0xFB :: body ++ leBytes 4 (crc32c body) ++ [ctrl 0xFD]

/-- The halt set: K28.1, GROUP, KIND and the complement of GROUP (R217). -/
def haltChars (g kind : Nat) : List Nat := [ctrl 0x3C, g, kind, 255 - g % 256]

/-- The idle set K28.5, D21.5, which the line carries wherever nothing of `Tie.sent` stands (R217).
(DESIGN CHOICE, log entry 150.) -/
def idleChars : List Nat := [ctrl 0xBC, 0xB5]

/-- Send a frame on port `k` (R217, R255). -/
def Block.sendFrame (b : Block) (now off k type : Nat) (payload : List Nat) : Block :=
  let n := (b.tie k).txSeq
  let b := b.modTie k (fun t => { t with txSeq := (n + 1) % 256, sent := (frameChars type n payload :: t.sent).take 16 })
  b.tieRecord now off 0x20 k type n

/-- The group's ports of this wafer: its up port and its down ports. -/
def Block.downPorts (b : Block) : List Nat := (List.range 6).filter (fun k => b.flag HUB_LOCK.DOWN_PORTS 0 k)
def Block.upPort (b : Block) : Option Nat := if b.rd HUB_LOCK.ROLE 0 = 2 then some (b.rd HUB_LOCK.UP_PORT 0) else none
def Block.groupPorts (b : Block) : List Nat := b.upPort.toList ++ b.downPorts

/-- Send one frame on each port of a list that is UP. -/
def Block.sendAll (b : Block) (now off : Nat) (ports : List Nat) (type : Nat) (payload : List Nat) : Block :=
  b.each (ports.filter (fun k => b.tieSt k == tieUp)) (fun b k => b.sendFrame now off k type payload)

/-- Leave the group at the present point; a LOCK_JOIN still in progress is refused as CONFLICT (R210, R211).
(DESIGN CHOICE, log entry 147.) -/
def Block.outsideGroup (b : Block) (now : Nat) : Block :=
  let b := b.each [HUB_LOCK.GROUP, HUB_LOCK.ROLE, HUB_LOCK.FROZEN, HUB_LOCK.JOINING, HUB_LOCK.DEPTH, HUB_LOCK.DOWN_PORTS, HUB_LOCK.OWNER_ID]
    (fun b x => b.wr x 0 0)
  let b := b.each (List.range 6) (fun b k => b.cond (b.tie k).lost (fun b => b.modTie k (fun t => { t with lost := false })))
  ((b.wr HUB_LOCK.UP_PORT 0 7).modHub (fun h => { h with
      requests := [], joinPoint := none, known := [], dones := [], lostLinks := 0, thaws := 0 })).completeWhere now
    (fun w => if w = .join then some (stConflict, 0, []) else none)

/-- LEAVE with a cause, on the up port of a member or on every down port of the owner, and then outside. A member that leaves at a
thermal shutdown freezes the members below it (R211). (DEDUCED, log entry 148.) -/
def Block.leaveGroup (b : Block) (now off cause : Nat) : Block :=
  let g := b.rd HUB_LOCK.GROUP 0
  if g = 0 then b
  else
    let ports := if b.rd HUB_LOCK.ROLE 0 = 1 then b.downPorts else b.upPort.toList
    let b := b.sendAll now off ports 0x12 ([g, cause, 0, 0] ++ leBytes 4 b.nv.waferId)
    (b.cond (cause == 2 && b.rd HUB_LOCK.ROLE 0 == 2) (fun b =>
      b.sendAll now off b.downPorts 0x16 ([g, 0, 0, 0] ++ leBytes 4 b.nv.waferId))).outsideGroup now

/-! ### Freeze (R220, R221) -/

/-- Enter FROZEN and pass FREEZE on to the group's other ports. -/
def Block.freezeGroup (b : Block) (now off k : Nat) (who : Nat) : Block :=
  let b := if b.bit HUB_LOCK.FROZEN 0 then b else (b.wr HUB_LOCK.FROZEN 0 1).inc HUB_LOCK.FREEZES 0
  let b := b.cond (b.rd HUB_LOCK.ROLE 0 == 1) (fun b => b.modHub (fun h => { h with lostLinks := h.lostLinks + 1 }))
  b.sendAll now off (b.groupPorts.filter (· != k)) 0x16 ([b.rd HUB_LOCK.GROUP 0, 0, 0, 0] ++ leBytes 4 who)

/-- THAW's payload. -/
def Block.thawBytes (b : Block) : List Nat := [b.rd HUB_LOCK.GROUP 0, 0, 0, 0, 0, 0, 0, 0]

/-- One THAW reaches the owner; with both ends of every port it knew to be DOWN the freeze ends, and THAW goes down the tree. -/
def Block.countThaw (b : Block) (now off : Nat) : Block :=
  let b := b.modHub (fun h => { h with thaws := h.thaws + 1 })
  if b.bit HUB_LOCK.FROZEN 0 && decide (2 * b.hub.lostLinks ≤ b.hub.thaws) then
    ((b.wr HUB_LOCK.FROZEN 0 0).modHub (fun h => { h with lostLinks := 0, thaws := 0 })).sendAll now off b.downPorts 0x17 b.thawBytes
  else b

/-- This end's THAW: counted on the owner, sent toward the owner on a member. -/
def Block.sendThaw (b : Block) (now off : Nat) : Block :=
  if b.rd HUB_LOCK.ROLE 0 = 1 then b.countThaw now off else b.sendAll now off b.upPort.toList 0x17 b.thawBytes

/-- A port of the group's tree is UP again: the end toward the owner sends SYNC, and each end THAW (R221). -/
def Block.restorePort (b : Block) (now off k : Nat) : Block :=
  if !(b.tie k).lost then b
  else
    let b := b.modTie k (fun t => { t with lost := false })
    let b := b.cond (b.downPorts.contains k) (fun b => b.sendFrame now off k 0x18
      [b.rd HUB_LOCK.GROUP 0, b.point, b.rd HUB_CONTOUR.PLUMB_ON 0, b.rd HUB_LOCK.STEP_ID 0, 0, 0, 0, 0])
    b.sendThaw now off

/-- A port goes DOWN; a port of the group's tree freezes the group (R219, R220). -/
def Block.portDown (b : Block) (now off k : Nat) : Block :=
  let b := ((b.wr (HUB_TIE.STATE k) 0 tieDown).wr (HUB_TIE.D_VALID k) 0 0).inc (HUB_TIE.DOWN_EVENTS k) 0
  let b := b.modTie k (fun t => { t with rounds := [], crcInPeriod := 0 })
  if b.groupPorts.contains k ∧ !(b.tie k).lost then
    (b.modTie k (fun t => { t with lost := true })).freezeGroup now off k b.nv.waferId
  else b

/-! ### Bring-up (R219, R44) -/

/-- Own time plus the PROBE frame that starts a round. -/
def Block.sendProbe (b : Block) (now off k : Nat) : Block := b.sendFrame now off k 0x02 (timeBytes (scOf now off))

/-- TIE_ALIGN: three idle sets in a row; the port moves to the HELLO stage and sends HELLO. -/
def execTieAlign (k : TieNo) (s : State) : Host.Outcome State Fault Refusal :=
  onB s (fun now b =>
    if b.flag HUB_TIE.PORT_EN 0 k && b.tieSt k == tieAlign' then
      (b.wr (HUB_TIE.STATE k) 0 tieHello).sendFrame now 0 k 0x04 (leBytes 4 b.nv.waferId ++ [k.val, b.nv.grade, 0, 0])
    else b)

/-- A valid frame is accepted in one of the states `l`: it is recorded and the port has been heard (R255).
(DEDUCED, log entry 124.) -/
def Block.receive (b : Block) (now off k type seqNo : Nat) (l : List Nat) (g : Block → Block) : Block :=
  if l.contains (b.tieSt k) then g ((b.modTie k (fun t => { t with heard := now })).tieRecord now off 0x21 k type seqNo) else b

/-- HELLO (R219). -/
def execHello (k : TieNo) (q : Byte) (farId : Word) (farPort farGrade : Byte) (sc : ScOff) (s : State) : Host.Outcome State Fault Refusal :=
  onB s (fun now b =>
    if b.tieSt k ≠ tieHello then b
    else
      let b := ((b.wr (HUB_TIE.FAR_ID k) 0 farId.toNat).wr (HUB_TIE.FAR_PORT k) 0 farPort.toNat).wr (HUB_TIE.FAR_GRADE k) 0 farGrade.toNat
      b.receive now sc k 0x04 q.toNat [tieHello] (fun b =>
        ((b.wr (HUB_TIE.STATE k) 0 tieProbe).modTie k (fun t => { t with rounds := [], failures := 0 })).sendProbe now sc k))

/-- PROBE: answered with ECHO, whose t3 is the moment of the answer (R219). (DEDUCED, log entry 61.) -/
def execProbe (k : TieNo) (q : Byte) (t1 : TieTime) (sc : ScOff) (s : State) : Host.Outcome State Fault Refusal :=
  onB s (fun now b => b.receive now sc k 0x02 q.toNat [tieProbe, tieUp] (fun b =>
    b.sendFrame now sc k 0x03 (timeBytes (TieTime.sc t1) ++ timeBytes (scOf now sc) ++ timeBytes (scOf now sc))))

/-- Largest minus smallest. -/
def spreadOf (l : List Int) : Int := l.foldl max (l.headD 0) - l.foldl min (l.headD 0)

/-- ECHO: one round gives (t4 - t1) - (t3 - t2), twice its latency; the sixteenth ends the attempt (R219). -/
def execEcho (k : TieNo) (q : Byte) (t1 t2 t3 : TieTime) (sc : ScOff) (s : State) : Host.Outcome State Fault Refusal :=
  onB s (fun now b => b.receive now sc k 0x03 q.toNat [tieProbe] (fun b =>
    let t := b.tie k
    if 16 ≤ t.rounds.length then b
    else
      let l := t.rounds ++ [(scOf now sc - TieTime.sc t1) - (TieTime.sc t3 - TieTime.sc t2)]
      if l.length < 16 then (b.modTie k (fun t => { t with rounds := l })).sendProbe now sc k
      else if 16 < spreadOf l then
        let b := b.modTie k (fun t => { t with rounds := [], failures := t.failures + 1 })
        b.cond (decide ((b.tie k).failures < 4)) (fun b => b.sendProbe now sc k)
      else (b.modTie k (fun t => { t with rounds := l })).wr (HUB_TIE.LATENCY k) 0 ((l.sum + 16) / 32).toNat))

/-- A line is active: its latency is measured. -/
def Block.tieActive (b : Block) (k : Nat) : Bool := b.tieSt k == tieUp || (b.tieSt k == tieProbe && decide ((b.tie k).rounds.length = 16))

/-- TIMESTAMP_SEND: every 1,024 ticks, on each active line (R44); the period of the CRC count begins again (R219). -/
def execTimestampSend (sc : ScOff) (s : State) : Host.Outcome State Fault Refusal :=
  onB s (fun now b =>
    let b := b.each ((List.range 6).filter b.tieActive) (fun b k => b.sendFrame now sc k 0x01 (timeBytes (scOf now sc)))
    b.each (List.range 6) (fun b k => b.modTie k (fun t => { t with crcInPeriod := 0 })))

/-- D of a port, survey cycles. -/
def Block.tieD (b : Block) (k : Nat) : Int := ofCode 64 (b.rd2 (HUB_TIE.D_LO k) (HUB_TIE.D_HI k) 0)

/-- TIMESTAMP: D := (own time at receipt - L) - sender's time; the first one after the probe stage brings the port UP (R44, R219). -/
def execTimestamp (k : TieNo) (q : Byte) (sent : TieTime) (sc : ScOff) (s : State) : Host.Outcome State Fault Refusal :=
  onB s (fun now b =>
    if !b.tieActive k then b
    else b.receive now sc k 0x01 q.toNat [tieProbe, tieUp] (fun b =>
      let d := scOf now sc - Int.ofNat (b.rd (HUB_TIE.LATENCY k) 0) - TieTime.sc sent
      let b := (b.wr2 (HUB_TIE.D_LO k) (HUB_TIE.D_HI k) 0 (toCode 64 d)).wr (HUB_TIE.D_VALID k) 0 1
      if b.tieSt k = tieUp then b
      else ((b.wr (HUB_TIE.STATE k) 0 tieUp).wr (HUB_TIE.UP_TICK k) 0 now).restorePort now sc k))

/-- TIE_CRC_ERROR: a frame is discarded and counted (R218). -/
def execTieCrcError (k : TieNo) (s : State) : Host.Outcome State Fault Refusal :=
  onB s (fun _ b => (b.inc (HUB_TIE.CRC_ERRS k) 0).modTie k (fun t => { t with crcInPeriod := t.crcInPeriod + 1 }))

/-- TIE_PORT_DOWN (R219). -/
def execTiePortDown (k : TieNo) (why : TieDownCause) (s : State) : Host.Outcome State Fault Refusal :=
  onB s (fun now b =>
    let t := b.tie k
    let holds := match why with
      | .alignment => decide (tieHello ≤ b.tieSt k)
      | .silence => decide (tieHello ≤ b.tieSt k) && decide (t.heard + b.rd HUB_TIE.SILENCE_TICKS 0 ≤ now)
      | .crc => decide (16 ≤ t.crcInPeriod)
      | .probe => decide (4 ≤ t.failures)
    if b.tieSt k = tieDown ∨ !holds then b else (b.portDown now 0 k).fault 20 255 k 0)

/-- Ports that are DOWN retrain by themselves while their PORT_EN bit is 1, but for one whose probe stage failed four times
(R219). -/
def Block.retrain (b : Block) (now : Nat) : Block :=
  b.each ((List.range 6).filter (fun k => b.tieSt k == tieDown && b.flag HUB_TIE.PORT_EN 0 k && decide ((b.tie k).failures < 4)))
    (fun b k => (b.wr (HUB_TIE.STATE k) 0 tieAlign').modTie k (fun t => { t with heard := now }))

end Sys2Proof.Machine
end

