-- ==== Sys2Proof/Machine/Contour.lean ====
section
/-!
DEFINITION. Contour steps, plumb mode and policy evaluations (R25, R97, R191, R202 to R208, R212, R214, R222 to R225).
-/

namespace Sys2Proof.Machine

open Sys2Proof

/-! ### Announcing (R207, R208, R214) -/

/-- A new step may be announced: fewer than two pending, and at least 32 ticks after the last of them (R207). -/
def Block.stepRoom (b : Block) (due : Nat) : Bool :=
  match b.hub.steps.getLast? with
  | none => true
  | some x => decide (b.hub.steps.length < 2) && decide (x.due + 32 ≤ due)

/-- A STEP record (Table 11.2): `kind` 0 on time, 1 late, 2 announced. -/
def Block.stepRecord (b : Block) (now off kind plumb new old id due : Nat) : Block :=
  b.record 84 now off 0x12 srcHub kind (plumb * 2 ^ 24 + new * 2 ^ 16 + old * 256 + id) due

/-- Put a step among the pending ones; one that a frame brings while two are pending waits behind them (R207).
(DESIGN CHOICE, log entry 145.) -/
def Block.addStep (b : Block) (now off : Nat) (x : Step) : Block :=
  let b := b.modHub (fun h =>
    if h.steps.length < 2 then { h with steps := h.steps ++ [x] } else { h with waitSteps := h.waitSteps ++ [x] })
  b.stepRecord now off 2 x.plumb.toNat x.point b.point x.stepId x.due

/-- STEP's payload with its target in own time. -/
def Block.stepBytes (b : Block) (x : Step) : List Nat :=
  [b.rd HUB_LOCK.GROUP 0, x.stepId, x.point, x.plumb.toNat] ++ leBytes 2 (if x.plumb then x.plumbPower else 0) ++ [0, 0] ++ timeBytes x.target

/-- A step that is still to be locked and applied. -/
def newStep (point id due : Nat) (target : Int) (plumb : Option Nat) (kind : Nat) (off : Bool) : Step :=
  { point := point, stepId := id, due := due, target := target, plumb := plumb.isSome, plumbPower := plumb.getD 0
    pllLocked := false, late := false, kind := kind, off := off }

/-- Announce a step of this wafer: to its own fields, and on the owner on every down port (R208, R214). `plumb` is the power of a
step into plumb mode, `ends` says that the step ends it (R222, R225). -/
def Block.announce (b : Block) (now off point due : Nat) (plumb : Option Nat) (ends : Bool) : Block :=
  let x := newStep point b.hub.stepIdNext due (scOf due 0) plumb 0 ends
  let b := (b.modHub (fun h => { h with stepIdNext := (h.stepIdNext + 1) % 256 })).addStep now off x
  if b.rd HUB_LOCK.ROLE 0 = 1 then b.sendAll now off b.downPorts 0x13 (b.stepBytes x) else b

/-- Lead of a step: ANNOUNCE_LEAD on an owner, LOCAL_LEAD outside a group. -/
def Block.stepLead (b : Block) : Nat := if b.rd HUB_LOCK.ROLE 0 = 1 then b.rd HUB_LOCK.ANNOUNCE_LEAD 0 else b.rd HUB_LOCK.LOCAL_LEAD 0

/-- A command may not move the point: on a member, in a freeze, or in plumb mode (R208, R212, R220). -/
def Block.stepBarred (b : Block) : Bool :=
  b.rd HUB_LOCK.ROLE 0 == 2 || b.bit HUB_LOCK.FROZEN 0 || b.bit HUB_CONTOUR.PLUMB_ON 0

/-- Announce a commanded step for tick `due`; the command waits until the clock has stepped, and then answers the tick of the step
(SET_CONTOUR_POINT) or its STEP_ID (FREQ_STEP, Table 16.3). -/
def Block.stepCmd (b : Block) (now off pt point due : Nat) (byTick : Bool) : Block :=
  if b.stepBarred then b.stop now pt stStateReject b.mgr
  else if due < now + b.stepLead then b.stop now pt stBadArg (badArgDetail 2 0)
  else if !b.stepRoom due then b.stop now pt stBusy 0
  else
    let id := b.hub.stepIdNext
    (b.announce now off point due none false).await pt (.step byTick id)

/-- SET_CONTOUR_POINT (R208, R214). -/
def execSetContourPoint (c : Cmd) (s : State) : Host.Outcome State Fault Refusal :=
  .next (runCmdB 0x12 c s none (fun now pt b =>
    if !validPoint (c.arg 0) then b.stop now pt stBadArg (badArgDetail 1 0)
    else b.stepCmd now c.sc pt (c.arg 0) (now + b.stepLead) true))

/-- FREQ_STEP (R208, R214). -/
def execFreqStep (c : Cmd) (s : State) : Host.Outcome State Fault Refusal :=
  .next (runCmdB 0x32 c s none (fun now pt b =>
    if !validPoint (c.arg 0) then b.stop now pt stBadArg (badArgDetail 1 0)
    else b.stepCmd now c.sc pt (c.arg 0) (if c.tick48 1 = 0 then now + b.stepLead else c.tick48 1) false))

/-! ### Applying a step (R191, R205, R206, R216) -/

/-- PLL_LOCK: the idle PLL, programmed for the next pending step, has locked (R205). -/
def execPllLock (s : State) : Host.Outcome State Fault Refusal :=
  onB s (fun _ b => b.modHub (fun h => match h.steps with
    | [] => h
    | x :: r => { h with steps := { x with pllLocked := true } :: r }))

/-- The step may be applied: its PLL has locked, and a rising step finds every pair arrived in the reports (R191, R206). -/
def Block.stepReady (b : Block) (x : Step) : Bool :=
  x.pllLocked && (decide (x.point ≤ b.point) || b.inService.all (fun f => (b.repOf f).arrived))

/-- The greater of two skews in magnitude. (DEDUCED, log entry 63.) -/
def largerSkew (a c : Int) : Int := if |a| < |c| then c else a

/-- The STEP_DONEs that concern the last step or a pending one are kept; LAST_SKEW and MEMBERS are those of the last step (R216).
(DEDUCED, log entry 63.) -/
def Block.countDones (b : Block) : Block :=
  let last := b.rd HUB_LOCK.STEP_ID 0
  let ids := last :: (b.hub.steps ++ b.hub.waitSteps).map (fun x => x.stepId)
  let b := b.modHub (fun h => { h with dones := h.dones.filter (fun d => ids.contains d.1) })
  let l := b.hub.dones.filter (fun d => d.1 == last)
  (b.wr HUB_LOCK.LAST_SKEW 0 (toCode 32 (l.foldl (fun a d => largerSkew a d.2.1) 0))).wr HUB_LOCK.MEMBERS 0 l.length

/-- What a member tells the owner of a step it has applied at boundary `now`: result 1 for a late one, 2 for one it had missed,
whose skew is a free value since SYNC does not carry T; a join's own step is not reported (R216, R218, R221).
(DESIGN CHOICE, log entry 149.) -/
def Block.reportStep (b : Block) (now : Nat) (x : Step) : Block :=
  match b.upPort with
  | none => b.countDones
  | some k =>
    if x.kind = 2 then b
    else
      let fr := if x.kind = 1 then b.fresh else (0, b)
      let b := fr.2
      let skew : Int := if x.kind = 1 then ofCode 32 fr.1 else scOf now 0 - x.target
      let late := decide (x.kind = 0 ∧ 2048 ≤ skew)
      let b := b.wr HUB_LOCK.LAST_SKEW 0 (toCode 32 skew)
      let b := b.cond late (fun b => (b.inc HUB_LOCK.SKEW_EVENTS 0).fault 21 255 (k * 256 + x.stepId) 0)
      b.sendAll now 0 [k] 0x14
        ([b.rd HUB_LOCK.GROUP 0, x.stepId, if x.kind = 1 then 2 else late.toNat, 0] ++ leBytes 4 (toCode 32 skew) ++
          leBytes 4 b.nv.waferId ++ leBytes 4 0)

/-- LOCK_JOIN is over at boundary `now`: the member's clock runs at the group's point (R210). -/
def Block.joined (b : Block) (now : Nat) : Block :=
  ((b.modHub (fun h => { h with joinPoint := none })).wr HUB_LOCK.JOINING 0 0).completeWhere now
    (fun w => if w = .join then some (stDone, 0, [b.rd HUB_LOCK.OWNER_ID 0]) else none)

/-- The clock takes the step's frequency at boundary `now`. -/
def Block.applyStep (b : Block) (now : Nat) (x : Step) : Block :=
  let old := b.point
  let b := ((b.wr HUB_LOCK.POINT 0 x.point).wr HUB_LOCK.STEP_ID 0 x.stepId).inc HUB_LOCK.STEPS 0
  let b := b.cond x.late (fun b => b.inc HUB_LOCK.LATE_STEPS 0)
  let b := b.modHub (fun h => { h with
    steps := h.steps.drop 1 ++ h.waitSteps.take 1, waitSteps := h.waitSteps.drop 1, stepTick := some now, stepOld := old })
  let b := b.stepRecord now 0 x.late.toNat x.plumb.toNat x.point old x.stepId now
  let b := b.each allFields (fun b f => b.shapeNumbers f)
  let b := b.reportStep now x
  let b := if x.plumb then
      ((b.wr HUB_CONTOUR.PLUMB_POINT 0 x.point).wr HUB_CONTOUR.PLUMB_POWER 0 x.plumbPower).modHub (fun h => { h with plumbDue := some (now + 1) })
    else b.modHub (fun h => { h with plumbOffAt := if x.off || b.bit HUB_CONTOUR.PLUMB_ON 0 then some now else h.plumbOffAt })
  let b := b.completeWhere now (fun w => match w with
    | .step byTick id => if id = x.stepId then some (stDone, 0, [if byTick then lowBits 32 now else id]) else none
    | _ => none)
  if b.hub.joinPoint = some x.point then b.joined now else b

/-- CONTOUR_STEP_APPLY: the next pending step that has fallen due is applied, or is late (R191, R206). -/
def execContourStepApply (s : State) : Host.Outcome State Fault Refusal :=
  onB s (fun now b => match b.hub.steps with
    | [] => b
    | x :: r =>
      if now < x.due then b
      else if b.stepReady x then b.applyStep now { x with late := x.late || decide (x.due < now) }
      else b.modHub (fun h => { h with steps := { x with late := true } :: r }))

/-! ### Plumb mode (R222, R223, R225) -/

/-- Lowest SUS limit over the fields in service, 1/4 A. -/
def Block.lowestSus (b : Block) (fd : Fld) : Nat :=
  match b.inService.map (fun f => b.rd fd f) with
  | [] => 2 ^ fd.width - 1
  | x :: r => r.foldl min x

/-- pf(q): the power of a full field at rate q, 1/16 mW. -/
def fullField (idle dyn q : Nat) : Rat := 640 * ((idle : Rat) + (dyn : Rat) * q / 64)

/-- SRAM share s0 of R223. -/
def shareS0 : Rat := 7022 / 65536

/-- The largest q whose field passes both SUS checks; 0 when none does. -/
def plumbQ2 (idle dyn susCore susSram : Nat) : Nat :=
  ((List.range 64).map (· + 1)).foldl (fun a q =>
    let w := fullField idle dyn q / 16000
    if w * (1 - shareS0) / (7 / 10) ≤ (susCore : Rat) / 4 ∧ w * shareS0 / (3 / 4) ≤ (susSram : Rat) / 4 then q else a) 0

/-- q1 of R223; with GRADE_DYN = 0 the quotient is unstated and `open1` stands for it. (DESIGN CHOICE, log entry 65.) -/
def plumbQ1 (power ovh idle dyn open1 : Nat) : Int :=
  let per : Rat := (160000 * ((power : Rat) - (ovh : Rat))) / 53760
  if dyn = 0 then (open1 % 65 : Nat) else (64 * (per - idle) / dyn).floor

/-- PLUMB_ENTRY: plumb mode takes effect, with q_plumb and PLUMB_REFILL computed from grade figures (R222, R223, R225).
(DESIGN CHOICE, log entry 65.) -/
def execPlumbEntry (s : State) : Host.Outcome State Fault Refusal :=
  onB s (fun now b => match b.hub.plumbDue with
    | none => b
    | some t =>
      if now < t then b
      else
        let k := b.point
        let idle := b.rd (HUB_CONTOUR.GRADE_IDLE k) 0
        let dyn := b.rd (HUB_CONTOUR.GRADE_DYN k) 0
        let named := b.rd HUB_CONTOUR.PLUMB_POWER 0
        let power := if b.rd HUB_LOCK.ROLE 0 = 2 then min named (min (b.capMs / 10000) (b.rd HUB_CAP.PCAP_S 0)) else named
        let fr := if dyn = 0 then b.fresh else (0, b)
        let b := fr.2
        let ovh := b.overhead / 10000
        let q1 := plumbQ1 power ovh idle dyn fr.1
        let q2 := plumbQ2 idle dyn (b.lowestSus F_LIMIT.SUS_CORE) (b.lowestSus F_LIMIT.SUS_SRAM)
        let unmet := decide (q1 < 1) || q2 == 0
        let q := (clampI (min q1 (max 1 q2 : Nat)) 1 64).toNat
        let refill := (idle * 64 + dyn * q + 31999) / 32000
        let b := ((b.wr HUB_CONTOUR.PLUMB_Q 0 q).wr HUB_CONTOUR.PLUMB_REFILL 0 refill).wr HUB_CONTOUR.PLUMB_ON 0 1
        let b := b.modHub (fun h => { h with plumbDue := none })
        b.completeWhere now (fun w => if w = .plumb then
          some (if unmet then stUnmet else stDone, 0, [refill % 65536 * 65536 + q]) else none))

/-- Plumb mode ends at a boundary (R222, R225). -/
def Block.plumbEnd (b : Block) (now : Nat) : Block :=
  match b.hub.plumbOffAt with
  | none => b
  | some t =>
    if now < t then b
    else
      let b := ((b.wr HUB_CONTOUR.PLUMB_ON 0 0).wr HUB_CONTOUR.PLUMB_Q 0 64).wr HUB_CONTOUR.PLUMB_REFILL 0 0
      let b := b.modHub (fun h => { h with plumbOffAt := none })
      b.completeWhere now (fun w => if w = .plumb then some (stDone, 0, [64]) else none)

/-- SET_PLUMB outside a step of its own: plumb mode begins, or ends with every entry that was still to come, at the next boundary
(R222). -/
def Block.plumbSoon (b : Block) (now : Nat) (on : Bool) : Block :=
  b.modHub (fun h => if on then { h with plumbDue := some (now + 1) }
    else { h with plumbOffAt := some (now + 1), plumbDue := none, steps := h.steps.map (fun x => { x with plumb := false }) })

/-- SET_PLUMB: the three fields of HUB_CONTOUR are written and committed, and the step is announced where one is needed (R222, R225,
R385). (DEDUCED, log entry 64.) -/
def execSetPlumb (c : Cmd) (s : State) : Host.Outcome State Fault Refusal :=
  .next (runCmdB 0x14 c s none (fun now pt b =>
    let on := c.arg 0 % 2 == 1
    let point := c.arg 0 / 256 % 32
    let power := c.arg 0 / 65536
    let due := now + b.stepLead
    let grouped := b.rd HUB_LOCK.ROLE 0 == 1
    let needs := grouped || (on && (point != b.point || !b.hub.steps.isEmpty))
    if !validPoint point || decide (10000 * power > min b.capMs (10000 * b.rd HUB_CAP.PCAP_S 0)) || decide (power < 100) then
      b.stop now pt stBadArg (badArgDetail 1 0)
    else if b.rd HUB_LOCK.ROLE 0 == 2 || b.bit HUB_LOCK.FROZEN 0 || (on && b.bit HUB_CONTOUR.PLUMB_ON 0 && point != b.point) then
      b.stop now pt stStateReject b.mgr
    else if needs && !b.stepRoom due then b.stop now pt stBusy 0
    else match b.commitByCmd now c.sc pt 0 [⟨0x28, 0⟩]
        [⟨HUB_CONTOUR.PLUMB_EN, 0, on.toNat⟩, ⟨HUB_CONTOUR.PLUMB_POINT, 0, point⟩, ⟨HUB_CONTOUR.PLUMB_POWER, 0, power⟩] with
      | .error .busy => b.stop now pt stBusy 0
      | .error _ => b.stop now pt stBadArg (badArgDetail 1 0)
      | .ok b =>
        (if needs then b.announce now c.sc (if on then point else b.point) due (if on then some power else none) (!on)
          else b.plumbSoon now on).await pt .plumb))

/-! ### Policy (R25, R97, R212) -/

/-- The point last announced, or the one in force. -/
def Block.lastPoint (b : Block) : Nat :=
  match (b.hub.steps ++ b.hub.waitSteps).getLast? with
  | some x => x.point
  | none => b.point

/-- H0's own target: one below the last point, while a cap is unmet, plumb mode is off and the point in force is above 0 (R97). (DEDUCED, log entry 66.) -/
def Block.policyTarget (b : Block) : Option Nat :=
  if b.unmet && !b.bit HUB_CONTOUR.PLUMB_ON 0 && b.point != 0 && b.lastPoint != 0 then some (b.lastPoint - 1) else none

/-- POLICY_EVAL: at most once per 4,096 ticks; a member asks its owner instead of stepping (R25, R97, R212).
(DEDUCED, log entry 66.) -/
def execPolicyEval (s : State) : Host.Outcome State Fault Refusal :=
  onB s (fun now b =>
    let early := match b.hub.policyTick with
      | some t => decide (now < t + 4096)
      | none => false
    if early || (b.proc 84).st ≠ 0 then b
    else
      let b := b.modHub (fun h => { h with policyTick := some now })
      if b.rd HUB_LOCK.ROLE 0 = 2 then
        if b.policyTarget.isSome ∧ b.point ≠ 0 then
          b.sendAll now 0 b.upPort.toList 0x15 ([b.rd HUB_LOCK.GROUP 0, b.point - 1, 0, 0] ++ leBytes 4 b.nv.waferId)
        else b
      else if b.bit HUB_LOCK.FROZEN 0 || b.bit HUB_CONTOUR.PLUMB_ON 0 then b
      else
        let wanted := b.policyTarget.toList ++ b.hub.requests
        let p := wanted.foldl min b.lastPoint
        let due := now + b.stepLead
        if p < b.lastPoint then
          if b.stepRoom due then (b.modHub (fun h => { h with requests := [] })).announce now 0 p due none false else b
        else b.modHub (fun h => { h with requests := [] }))

end Sys2Proof.Machine
end

