-- ==== Sys2Proof/Machine/Lock.lean ====
section
/-!
DEFINITION. Lock groups: joining, leaving, and the frames that steps, requests and freezes travel in (R209 to R216, R220, R221,
R276).
-/

namespace Sys2Proof.Machine

open Sys2Proof

/-! ### Commands (R210, R211) -/

/-- LOCK_JOIN; a wafer that is joining counts as in a group (R210). (DESIGN CHOICE, log entry 62.) -/
def execLockJoin (c : Cmd) (s : State) : Host.Outcome State Fault Refusal :=
  .next (runCmdB 0x30 c s none (fun now pt b =>
    let g := c.arg 0 % 256
    let member := c.arg 0 / 256 % 2 == 1
    let k := c.arg 0 / 512 % 8
    if g = 0 || (member && decide (6 ≤ k)) then b.stop now pt stBadArg (badArgDetail 1 0)
    else if b.rd HUB_LOCK.GROUP 0 ≠ 0 || b.bit HUB_LOCK.JOINING 0 || b.bit HUB_CONTOUR.PLUMB_ON 0 ||
        (member && b.tieSt k != tieUp) then b.stop now pt stStateReject b.mgr
    else if member then
      let b := ((b.wr HUB_LOCK.JOINING 0 1).wr HUB_LOCK.UP_PORT 0 k).sendFrame now c.sc k 0x10 ([g, 0, 0, 0] ++ leBytes 4 b.nv.waferId)
      (b.accept now pt []).await pt .join
    else
      let b := ((b.wr HUB_LOCK.GROUP 0 g).wr HUB_LOCK.ROLE 0 1).wr HUB_LOCK.OWNER_ID 0 b.nv.waferId
      (b.modHub (fun h => { h with known := [], dones := [] })).done now pt [b.nv.waferId]))

/-- LOCK_LEAVE (R211); outside any group there is nothing to leave. -/
def execLockLeave (c : Cmd) (s : State) : Host.Outcome State Fault Refusal :=
  .next (runCmdB 0x31 c s none (fun now pt b =>
    let role := b.rd HUB_LOCK.ROLE 0
    if role = 0 || (role == 2 && !b.downPorts.isEmpty) then b.stop now pt stStateReject b.mgr
    else (b.leaveGroup now c.sc (if role = 1 then 1 else 0)).done now pt []))

/-! ### JOIN and JOIN_ACK (R210) -/

/-- A wafer of the group becomes known here by its identifier; the group holds this wafer and the known ones (R209).
(DESIGN CHOICE, log entry 146.) -/
def Block.learn (b : Block) (id : Nat) : Block :=
  if id = b.nv.waferId then b
  else b.modHub (fun h => { h with known := if h.known.contains id then h.known else h.known ++ [id] })
def Block.groupSize (b : Block) : Nat := 1 + b.hub.known.length

/-- Answer a JOIN on port `k`: a wafer that is known already takes no further place. -/
def Block.takeJoin (b : Block) (now off k g id : Nat) : Block :=
  let r := if b.rd HUB_LOCK.GROUP 0 ≠ g ∨ g = 0 then 1 else if 4 ≤ b.rd HUB_LOCK.DEPTH 0 then 2
    else if 32 ≤ b.groupSize ∧ !b.hub.known.contains id then 3 else 0
  let b := if r = 0 then (b.setFlag HUB_LOCK.DOWN_PORTS 0 k true).learn id else b
  let b := b.sendFrame now off k 0x11
    ([g, r, b.point, b.rd HUB_CONTOUR.PLUMB_ON 0] ++ leBytes 4 (b.rd HUB_LOCK.OWNER_ID 0))
  if r = 0 then b.each (b.hub.steps ++ b.hub.waitSteps) (fun b x => b.sendFrame now off k 0x13 (b.stepBytes x)) else b

/-- A local step of a member to the group's point, LOCAL_LEAD ahead and at least 32 ticks after the step before it, under the
group's STEP_ID when one is given; a point that is not valid is not stepped to (R202, R207, R210, R221).
(DESIGN CHOICE, log entry 145.) -/
def Block.catchUp (b : Block) (now off point : Nat) (plumb : Bool) (id kind : Nat) : Block :=
  let soon := now + b.rd HUB_LOCK.LOCAL_LEAD 0
  let due := match (b.hub.steps ++ b.hub.waitSteps).getLast? with
    | some x => max soon (x.due + 32)
    | none => soon
  if validPoint point then
    b.addStep now off (newStep point id due (scOf due 0) (if plumb then some (b.rd HUB_CONTOUR.PLUMB_POWER 0) else none) kind false)
  else b

/-- JOIN_ACK completes the member's join or its refusal (R210). The frame does not carry the depth: below another member it is
a free value of 2 to 4. (DESIGN CHOICE, log entry 62.) -/
def execJoinAck (k : TieNo) (q : Byte) (g result point : Byte) (plumb : Bool) (ownerId : Word) (sc : ScOff) (s : State) :
    Host.Outcome State Fault Refusal :=
  onB s (fun now b => b.receive now sc k 0x11 q.toNat [tieUp] (fun b =>
    if !b.bit HUB_LOCK.JOINING 0 || b.hub.joinPoint.isSome || b.rd HUB_LOCK.UP_PORT 0 != k.val ||
        (result.toNat == 0 && !validPoint point.toNat) then b
    else if result.toNat ≠ 0 then
      ((b.wr HUB_LOCK.JOINING 0 0).wr HUB_LOCK.UP_PORT 0 7).completeWhere now
        (fun w => if w = .join then some (stConflict, result.toNat, []) else none)
    else
      let direct := b.rd (HUB_TIE.FAR_ID k) 0 == ownerId.toNat
      let fr := if direct then (1, b) else (b.fresh.1 % 3 + 2, b.fresh.2)
      let b := (fr.2.wr HUB_LOCK.GROUP 0 g.toNat).wr HUB_LOCK.ROLE 0 2
      let b := (b.wr HUB_LOCK.OWNER_ID 0 ownerId.toNat).wr HUB_LOCK.DEPTH 0 fr.1
      let b := b.modHub (fun h => { h with joinPoint := some point.toNat, known := [], dones := [] })
      let b := (b.learn ownerId.toNat).learn (b.rd (HUB_TIE.FAR_ID k) 0)
      if b.point ≠ point.toNat then b.catchUp now sc point.toNat plumb (b.rd HUB_LOCK.STEP_ID 0) 2
      else b.cond plumb (fun b => b.modHub (fun h => { h with plumbDue := some (now + 1) }))))

/-- A joined member whose clock already runs at the group's point completes LOCK_JOIN at the boundary (R210). -/
def Block.joinBoundary (b : Block) (now : Nat) : Block :=
  if b.hub.joinPoint = some b.point then b.joined now else b

/-! ### LEAVE, SYNC, STEP_REQUEST (R211, R212, R221) -/

/-- A LEAVE from a down port drops the port; from the up port it is forwarded, and the wafer leaves. -/
def Block.takeLeave (b : Block) (now off k g cause id : Nat) : Block :=
  if b.rd HUB_LOCK.GROUP 0 ≠ g ∨ g = 0 then b
  else if b.flag HUB_LOCK.DOWN_PORTS 0 k then
    ((b.setFlag HUB_LOCK.DOWN_PORTS 0 k false).modTie k (fun t => { t with lost := false })).modHub
      (fun h => { h with known := h.known.filter (· != id) })
  else if b.upPort = some k then
    (b.sendAll now off b.downPorts 0x12 ([g, cause, 0, 0] ++ leBytes 4 id)).outsideGroup now
  else b

/-- A SYNC: a member that differs counts LOCK_SKEW and steps to the group's point; a wafer that has left answers LEAVE (R221). -/
def Block.takeSync (b : Block) (now off k g point : Nat) (plumb : Bool) (id : Nat) : Block :=
  if b.rd HUB_LOCK.GROUP 0 ≠ g ∨ b.upPort ≠ some k then b.sendFrame now off k 0x12 ([g, 0, 0, 0] ++ leBytes 4 b.nv.waferId)
  else if (b.point = point ∧ b.rd HUB_LOCK.STEP_ID 0 = id) ∨ !validPoint point then b
  else ((b.inc HUB_LOCK.SKEW_EVENTS 0).fault 21 255 (k * 256 + id) off).catchUp now off point plumb id 1

/-- A STEP_REQUEST is held by the owner, and passed on by a member (R212). -/
def Block.takeRequest (b : Block) (now off g point id : Nat) : Block :=
  if b.rd HUB_LOCK.GROUP 0 ≠ g then b
  else if b.rd HUB_LOCK.ROLE 0 = 1 then b.modHub (fun h => { h with requests := h.requests ++ [point] })
  else b.sendAll now off b.upPort.toList 0x15 ([g, point, 0, 0] ++ leBytes 4 id)

/-- Carry out a frame that needs H0. -/
def Block.takeHeld (b : Block) (now off k : Nat) : HeldFrame → Block
  | .join g _ id => b.takeJoin now off k g id
  | .leave g cause id => b.takeLeave now off k g cause id
  | .sync g p pl id => b.takeSync now off k g p pl id
  | .request g p id => b.takeRequest now off g p id

/-- A frame that needs H0 is carried out, or waits in the port's queue of 16 while H0 is not in RUN (R276). -/
def Block.forH0 (b : Block) (now off k : Nat) (x : HeldFrame) : Block :=
  if (b.proc 84).st = 0 then b.takeHeld now off k x
  else b.modTie k (fun t => { t with rx := (t.rx ++ [x]).take 16 })

/-- H0 is in RUN again: the frames that waited are carried out, port by port, oldest first. -/
def Block.drainHeld (b : Block) (now off : Nat) : Block :=
  b.each (List.range 6) (fun b k =>
    let l := (b.tie k).rx
    if l.isEmpty then b else (b.modTie k (fun t => { t with rx := [] })).each l (fun b x => b.takeHeld now off k x))

/-- JOIN (R210). -/
def execJoin (k : TieNo) (q : Byte) (g depth : Byte) (id : Word) (sc : ScOff) (s : State) : Host.Outcome State Fault Refusal :=
  onB s (fun now b => b.receive now sc k 0x10 q.toNat [tieUp] (fun b => b.forH0 now sc k (.join g.toNat depth.toNat id.toNat)))

/-- LEAVE (R211). -/
def execLeave (k : TieNo) (q : Byte) (g cause : Byte) (id : Word) (sc : ScOff) (s : State) : Host.Outcome State Fault Refusal :=
  onB s (fun now b => b.receive now sc k 0x12 q.toNat [tieUp] (fun b => b.forH0 now sc k (.leave g.toNat cause.toNat id.toNat)))

/-- SYNC (R221). -/
def execSync (k : TieNo) (q : Byte) (g point : Byte) (plumb : Bool) (id : Byte) (sc : ScOff) (s : State) : Host.Outcome State Fault Refusal :=
  onB s (fun now b => b.receive now sc k 0x18 q.toNat [tieUp] (fun b => b.forH0 now sc k (.sync g.toNat point.toNat plumb id.toNat)))

/-- STEP_REQUEST (R212). -/
def execStepRequest (k : TieNo) (q : Byte) (g point : Byte) (id : Word) (sc : ScOff) (s : State) : Host.Outcome State Fault Refusal :=
  onB s (fun now b => b.receive now sc k 0x15 q.toNat [tieUp] (fun b => b.forH0 now sc k (.request g.toNat point.toNat id.toNat)))

/-! ### STEP and STEP_DONE (R215, R216) -/

/-- STEP: the target converted to own time with the D of the port, kept without rounding, and forwarded (R45, R215). -/
def execStep (k : TieNo) (q : Byte) (g id point : Byte) (plumb : Bool) (power : BitVec 16) (target : TieTime) (sc : ScOff)
    (s : State) : Host.Outcome State Fault Refusal :=
  onB s (fun now b => b.receive now sc k 0x13 q.toNat [tieUp] (fun b =>
    if b.rd HUB_LOCK.GROUP 0 ≠ g.toNat ∨ b.upPort ≠ some k.val ∨ !validPoint point.toNat then b
    else
      let t := TieTime.sc target + b.tieD k
      let x := newStep point.toNat id.toNat ((t + 2047) / 2048).toNat t (if plumb then some power.toNat else none) 0 false
      (b.addStep now sc x).sendAll now sc b.downPorts 0x13 (b.stepBytes x)))

/-- STEP_DONE: the owner records the skew of each wafer that reports a step, early reports included; a member passes it on (R216).
(DEDUCED, log entry 63.) -/
def execStepDone (k : TieNo) (q : Byte) (g id result : Byte) (skew : Word) (wid : Word) (sc : ScOff) (s : State) :
    Host.Outcome State Fault Refusal :=
  onB s (fun now b => b.receive now sc k 0x14 q.toNat [tieUp] (fun b =>
    if b.rd HUB_LOCK.GROUP 0 ≠ g.toNat then b
    else if b.rd HUB_LOCK.ROLE 0 = 1 then
      ((b.learn wid.toNat).modHub (fun h => { h with
        dones := h.dones.filter (fun d => !(d.1 == id.toNat && d.2.2 == wid.toNat)) ++ [(id.toNat, skew.toInt, wid.toNat)] })).countDones
    else (b.learn wid.toNat).sendAll now sc b.upPort.toList 0x14
      ([g.toNat, id.toNat, result.toNat, 0] ++ leBytes 4 skew.toNat ++ leBytes 4 wid.toNat ++ leBytes 4 0)))

/-! ### FREEZE and THAW (R220, R221) -/

/-- FREEZE (R220). -/
def execFreeze (k : TieNo) (q : Byte) (g : Byte) (id : Word) (sc : ScOff) (s : State) : Host.Outcome State Fault Refusal :=
  onB s (fun now b => b.receive now sc k 0x16 q.toNat [tieUp] (fun b =>
    if b.rd HUB_LOCK.GROUP 0 ≠ g.toNat ∨ g.toNat = 0 then b else b.freezeGroup now sc k id.toNat))

/-- THAW: counted by the owner, passed toward it from a down port, and the end of the freeze when it comes from the up port
(R221). -/
def execThaw (k : TieNo) (q : Byte) (g : Byte) (sc : ScOff) (s : State) : Host.Outcome State Fault Refusal :=
  onB s (fun now b => b.receive now sc k 0x17 q.toNat [tieUp] (fun b =>
    if b.rd HUB_LOCK.GROUP 0 ≠ g.toNat ∨ g.toNat = 0 then b
    else if b.upPort = some k.val then (b.wr HUB_LOCK.FROZEN 0 0).sendAll now sc b.downPorts 0x17 b.thawBytes
    else b.sendThaw now sc))

end Sys2Proof.Machine
end

