-- ==== Sys2Proof/Machine/Trace.lean ====
section
/-!
DEFINITION. Capture and its commits, commanded triggers, the stale sweep, firmware points, and the drain to the host ring
(R243 to R254, R263).
-/

namespace Sys2Proof.Machine

open Sys2Proof

/-- The 85 buffers: fields 0 to 83, and 84 for the hub. -/
def allBufs : List Nat := List.range 85

/-- PARCEL of a buffer's own records (R241). -/
def bufOwner (k : Nat) : Nat := if k = 84 then srcHub else srcField k

/-! ### Capture (R243, R248) -/

/-- STATE of a buffer while capture is on: RUNNING, POST or FROZEN. -/
def TraceBuf.armed (t : TraceBuf) : TraceBuf := { t with st := 1, post := 0 }

/-- A commit of the page of buffer `k` took effect; `was` is CAPTURE before it. The commit writes POLICY, which returns the
buffer to RUNNING (R248), and a change of CAPTURE writes its record (R243). (DEDUCED, log entry 75.) -/
def Block.captureChange (b : Block) (now k : Nat) (was : Bool) : Block :=
  let on := b.bufOn k
  if on then
    let b := b.modTrace k TraceBuf.armed
    b.cond (!was) (fun b => b.record k now 0 0x3B (bufOwner k) 1 0 0)
  else if was then
    let r : TraceRec :=
      { code := 0x3B, tick := lowBits 24 now, parcel := bufOwner k, offset := 0, aux := 0, dataA := 0, dataB := 0 }
    (b.writeRec now 0 k r).modTrace k (fun t => { t with st := 0, post := 0 })
  else b

/-! ### Triggers (R249) -/

/-- Trigger a list of buffers by a command. -/
def Block.triggerAll (b : Block) (now off kind : Nat) (l : List Nat) : Block :=
  b.each l (fun b k => b.trigger now off k kind 0 0 0x7F)

/-- TRIG_NOW is written: every buffer triggers, and the wafer trigger is the hub's (R249). -/
def Block.trigNow (b : Block) (now off : Nat) : Block := (b.triggerAll now off 2 allBufs).hubTrigger now

/-- TRIG_NOW: every buffer triggers (R249). -/
def execTrigNow (s : State) : Host.Outcome State Fault Refusal :=
  onB s (fun now b => b.trigNow now 0)

/-- The wafer trigger of the last budget frames reaches the followers at the boundary, the hub buffer included (R249). -/
def Block.followTrigger (b : Block) (now : Nat) : Block :=
  let first := b.hub.wtrigField
  let l := (allFields.filter (fun f => (b.fu f).wtrig && b.bit F_TRACE.TRIG_FOLLOW f))
  let b := b.each l (fun b f => b.trigger now 0 f 1 0 0 first)
  let b := b.cond b.hub.wtrigCast (fun b => b.trigger now 0 84 1 0 0 first)
  b.each allFields (fun b f => b.cond (b.fu f).wtrig (fun b => b.modFu f (fun u => { u with wtrig := false })))

/-! ### Stale records (R250) -/

/-- An undrained record is stale at wafer time `now`. -/
def staleAt (now : Nat) (r : TraceRec) : Bool := decide (2 ^ 23 ≤ (now % 2 ^ 24 + 2 ^ 24 - r.tick) % 2 ^ 24)

/-- Discard the stale records of one buffer. -/
def Block.sweep (b : Block) (now k : Nat) : Block :=
  let t := b.trace k
  let gone := t.recs.filter (staleAt now)
  match gone.getLast? with
  | none => b
  | some newest =>
    let b := b.putTrace k ({ t with recs := t.recs.filter (fun r => !staleAt now r) }.lose gone.length 3 newest) false
    if k = 84 then b.add HUB_TRACE.HUB_STALE 0 gone.length else b.add F_TRACE.STALE k gone.length

/-- TRACE_STALE_SWEEP: at each tick whose wafer time is a multiple of 2^23 (R250). -/
def execTraceStaleSweep (s : State) : Host.Outcome State Fault Refusal :=
  onB s (fun now b => b.cond (now % 2 ^ 23 == 0) (fun b => b.each allBufs (fun b k => b.sweep now k)))

/-! ### Firmware points (R245) -/

/-- Source of a processor's records (R241). -/
def procSource (p : Nat) : Nat := if p < 84 then srcField p else srcHub + (p - 83)

/-- A processor in RUN writes FW_POINT: one record for a code of 0x80 or above. -/
def Block.fwPoint (b : Block) (p now off v : Nat) : Block :=
  let k := min p 84
  if (b.proc p).st ≠ 0 ∨ v / 2 ^ 24 % 256 < 0x80 then b
  else
    let data := if p < 84 then b.rd F_TRACE.FW_DATA p else b.rd HUB_TRACE.FW_DATA 0
    b.record k now off (v / 2 ^ 24 % 256) (procSource p) 0 (v % 2 ^ 24) data

/-- FW_POINT (R245). (DEDUCED, log entry 31.) -/
def execFwPoint (p : ProcNo) (v : Word) (sc : ScOff) (s : State) : Host.Outcome State Fault Refusal :=
  onB s (fun now b => b.fwPoint p now sc v.toNat)

/-! ### Drain (R251 to R254) -/

/-- The 16 bytes of a record (Table 11.1). -/
def TraceRec.bytes (r : TraceRec) : List Nat :=
  leBytes 4 (r.code * 2 ^ 24 + r.tick) ++ leBytes 4 (r.parcel * 2 ^ 16 + r.offset * 2 ^ 5 + r.aux) ++ leBytes 4 r.dataA ++ leBytes 4 r.dataB

/-- Records that buffer `k` can give a burst that ends in tick `now`: a field's link carries 16 in a tick, and a burst's records come
over it in the ticks up to this one (R251). (DESIGN CHOICE, log entry 152.) -/
def Block.linkRoom (b : Block) (now k : Nat) : Nat :=
  if k = 84 then 64 else min 64 (16 * (now + 1 - (b.fu k).linkFrom))

/-- The field's link has carried `n` records up to tick `now`. -/
def Block.linkUse (b : Block) (now k n : Nat) : Block :=
  b.cond (k != 84) (fun b => b.modFu k (fun u => { u with linkFrom := max u.linkFrom (now + 1 - 4) + (n + 15) / 16 }))

/-- The next buffer to serve, after the one served last: the hub buffer, then fields 0 to 83. -/
def Block.nextServed (b : Block) (now : Nat) : Option Nat :=
  let order := 84 :: allFields
  let after := order.dropWhile (fun k => k != b.hub.nextBuf)
  (after.drop 1 ++ order).find? (fun k => !(b.trace k).recs.isEmpty && b.linkRoom now k != 0)

/-- Records of the host ring, N. -/
def Block.ringRecs (b : Block) : Nat := 2 ^ (b.rd HUB_TRACE.RING_LOG2 0 - 4)
/-- Records written and not yet consumed. -/
def Block.ringUsed (b : Block) : Nat := (b.rd HUB_TRACE.HEAD 0 + 2 ^ 32 - b.rd HUB_TRACE.TAIL 0) % 2 ^ 32

/-- The burst of buffer `k`: SYNC, a LOSS record when the loss count is not 0, and up to 64 records. Its SYNC's OFFSET is not
stated and is `off`. (DEDUCED, log entry 78.) -/
def Block.burst (b : Block) (now off k : Nat) : List TraceRec :=
  let t := b.trace k
  let l := t.recs.take (b.linkRoom now k)
  let loss : List TraceRec := if t.lossCount = 0 then [] else
    [{ code := 0x38, tick := lowBits 24 now, parcel := bufOwner k, offset := off, aux := t.lossAux, dataA := t.lossTick
       dataB := lowBits 32 t.lossCount }]
  { code := 0x3A, tick := lowBits 24 now, parcel := bufOwner k, offset := off, aux := 0, dataA := now / 2 ^ 24 % 2 ^ 24
    dataB := loss.length + l.length } :: (loss ++ l)

/-- WB_ADDR. -/
def Block.wbAddr (b : Block) : Nat := b.rd HUB_TRACE.WB_ADDR_LO 0 * 8 + b.rd HUB_TRACE.WB_ADDR_HI 0 * 2 ^ 32
/-- RING_BASE. -/
def Block.ringBase (b : Block) : Nat := b.rd HUB_TRACE.RING_BASE_LO 0 * 4096 + b.rd HUB_TRACE.RING_BASE_HI 0 * 2 ^ 32

/-- Bytes that a burst of `n` records writes, write-back included (R254). (DESIGN CHOICE, log entry 77.) -/
def Block.burstBytes (b : Block) (n : Nat) : Nat := 16 * n + (if b.wbAddr = 0 then 0 else 8)

/-- Records k, k + 1, … of the host ring. -/
def putRing (host : List Host.Cell) (base n : Nat) : Nat → List TraceRec → List Host.Cell
  | _, [] => host
  | k, r :: l => putRing (putBytes host (base + 16 * (k % n)) r.bytes) base n (k + 1) l

/-- The trace-drain cause is raised when HEAD - TAIL reaches IRQ_FILL/16 × N (R252). -/
def Block.drainIrq (b : Block) (before : Nat) : Block :=
  let mark := b.rd HUB_TRACE.IRQ_FILL 0 * b.ringRecs
  b.cond (decide (16 * before < mark) && decide (mark ≤ 16 * b.ringUsed)) (fun b => b.wr HUB_STATE.DRAIN 0 1)

/-- Write the burst of buffer `k`. (DESIGN CHOICE, log entry 77.) -/
def drainBurst (k : Nat) (l : List TraceRec) (s : State) : State :=
  let b := s.b
  let head := b.rd HUB_TRACE.HEAD 0
  let used := b.ringUsed
  let host := putRing s.host b.ringBase b.ringRecs head l
  let b := (b.linkUse s.tick k (min (b.linkRoom s.tick k) (b.trace k).recs.length)).modTrace k (fun t => { t with
      recs := t.recs.drop (b.linkRoom s.tick k), lossCount := 0, lossAux := 0 })
  let b := b.wr HUB_TRACE.HEAD 0 (head + l.length)
  let b := (b.wr HUB_TRACE.RING_FULL 0 0).modHub (fun h => { h with nextBuf := k, bucket := h.bucket - b.burstBytes l.length })
  let host := if b.wbAddr = 0 then host
    else putBytes host b.wbAddr (leBytes 4 (b.rd HUB_TRACE.HEAD 0) ++ leBytes 4 (lowBits 32 s.tick))
  { s with host := host, b := b.drainIrq used }

/-- TRACE_DRAIN_BURST: the next buffer in rotation, when the ring has room for the whole burst and the byte bucket holds it
(R251 to R254). (DEDUCED, log entry 78.) -/
def execTraceDrainBurst (s : State) : Host.Outcome State Fault Refusal :=
  if !s.b.bit HUB_TRACE.DRAIN_EN 0 then .next s
  else match s.b.nextServed s.tick with
    | none => .next s
    | some k =>
      let fr := s.b.fresh
      let l := fr.2.burst s.tick (fr.1 % 2048) k
      if s.b.ringRecs < s.b.ringUsed + l.length then .next { s with b := s.b.wr HUB_TRACE.RING_FULL 0 1 }
      else if s.b.hub.bucket < s.b.burstBytes l.length then .next s
      else .next (drainBurst k l { s with b := fr.2 })

/-- A burst waits for room in the ring: what STALL_TICKS counts at a tick mark (R252). -/
def Block.ringStalled (b : Block) (now : Nat) : Bool :=
  b.bit HUB_TRACE.DRAIN_EN 0 && (match b.nextServed now with
    | none => false
    | some k => decide (b.ringRecs < b.ringUsed + (b.burst now 0 k).length))

/-- A write of TAIL; one that breaks R252 is not applied and sets TAIL_ERR. -/
def Block.writeTail (b : Block) (v : Nat) : Block :=
  let left := (b.rd HUB_TRACE.HEAD 0 + 2 ^ 32 - v % 2 ^ 32) % 2 ^ 32
  if b.ringRecs < left then b.pageErr (pageKey 0x1F 0) 4 else b.wr HUB_TRACE.TAIL 0 v

/-- TAIL (R252). -/
def execTail (v : Word) (s : State) : Host.Outcome State Fault Refusal := onB s (fun _ b => b.writeTail v.toNat)

/-! ### Commands (R263) -/

/-- Shadow writes of every RW field of the word at `off` of a page. -/
def wordWrites (cls inst off w : Nat) : List ShadowWrite :=
  ((pageRw cls).filter (fun x => x.off == off)).map (fun x => ⟨x, inst, w / 2 ^ x.lo⟩)

/-- An FSET that stands without its option, or an option without its FSET, or no option at all. -/
def traceArgs (c : Cmd) : Option Nat :=
  if !c.opt 0 && !c.opt 1 then some 0 else if c.opt 1 == (c.fset 0).isEmpty then some 1 else none

/-- TRACE_CONFIG. -/
def execTraceConfig (c : Cmd) (s : State) : Host.Outcome State Fault Refusal :=
  .next (runCmdB 0x50 c s none (fun now pt b =>
    match traceArgs c with
    | some w => b.stop now pt stBadArg (badArgDetail w 0)
    | none =>
      let l := if c.opt 1 then c.fset 0 else []
      let hub : List ShadowWrite := if c.opt 0 then (List.range 7).flatMap (fun k => wordWrites 0x1F 0 (0x40 + 4 * k) (c.arg (5 + k))) else []
      let pages : List PageNo := (if c.opt 0 then [⟨0x1F, 0⟩] else []) ++ l.map (fun f => ⟨0x4B, f⟩)
      b.cmdPages now c.sc.val pt (c.arg 12) 13 (if c.opt 0 then 6 else 4) pages
        (hub ++ l.flatMap (fun f => wordWrites 0x4B f 0x40 (c.arg 3) ++ wordWrites 0x4B f 0x44 (c.arg 4)))))

/-- Set or clear CAPTURE of the named buffers; TRACE_START sets DRAIN_EN as well. -/
def captureWrites (c : Cmd) (v : Nat) : List ShadowWrite :=
  (if c.opt 0 then [⟨HUB_TRACE.HUB_CAPTURE, 0, v⟩] else []) ++
  (if c.opt 1 then (c.fset 0).map (fun f => ⟨F_TRACE.CAPTURE, f, v⟩) else [])

/-- TRACE_START. -/
def execTraceStart (c : Cmd) (s : State) : Host.Outcome State Fault Refusal :=
  .next (runCmdB 0x51 c s none (fun now pt b =>
    match traceArgs c with
    | some w => b.stop now pt stBadArg (badArgDetail w 0)
    | none =>
      let l := if c.opt 1 then c.fset 0 else []
      b.cmdPages now c.sc.val pt 0 0 0 (⟨0x1F, 0⟩ :: l.map (fun f => ⟨0x4B, f⟩)) (⟨HUB_TRACE.DRAIN_EN, 0, 1⟩ :: captureWrites c 1)))

/-- Buffers that a command names. (DEDUCED, log entry 76.) -/
def namedBufs (c : Cmd) : List Nat := (if c.opt 0 then [84] else []) ++ (if c.opt 1 then c.fset 0 else [])

/-- TRACE_STOP; with TRIGGER the named buffers trigger first (R249). (DEDUCED, log entry 76.) -/
def execTraceStop (c : Cmd) (s : State) : Host.Outcome State Fault Refusal :=
  .next (runCmdB 0x52 c s none (fun now pt b =>
    match traceArgs c with
    | some w => b.stop now pt stBadArg (badArgDetail w 0)
    | none =>
      let l := if c.opt 1 then c.fset 0 else []
      let b := b.cmdPages now c.sc.val pt 0 0 0 ((if c.opt 0 then [⟨0x1F, 0⟩] else []) ++ l.map (fun f => ⟨0x4B, f⟩)) (captureWrites c 0)
      b.cond (c.opt 2 && b.waitOf pt != .none) (fun b => b.triggerAll now c.sc 2 (namedBufs c))))

end Sys2Proof.Machine
end

