-- ==== Sys2Proof/Machine/Halt.lean ====
section
/-!
DEFINITION. The wafer halt: scheduled and immediate cuts, arrival, timeouts, halt sets, release, and the thermal shutdown's
ramp-down and exit (R170 to R172, R256 to R262).
-/

namespace Sys2Proof.Machine

open Sys2Proof

/-! ### States of HUB_HALT (Table 11.7) -/

def haltRunning : Nat := 0
def haltPending : Nat := 1
def haltStopping : Nat := 2
def haltHalted : Nat := 3
def haltReleasing : Nat := 4

def Block.haltSt (b : Block) : Nat := b.rd HUB_HALT.STATE 0

/-- Code of an immediate halt's source (Table 11.7). -/
def haltCode : HaltCause → Nat
  | .command => 2
  | .severe => 3
  | .thermal => 4
  | .tie => 5

/-- Change every agent that is not as at reset. -/
def Block.eachAgent (b : Block) (g : Agent → Agent) : Block := b.each (keysOf b.agents) (fun b k => b.modAgent k g)

/-- A pending HALT that another action has cancelled completes CONFLICT (Table 11.4). -/
def Block.cancelHalt (b : Block) (now : Nat) : Block :=
  let b := (b.inc HUB_HALT.CANCELLED 0).modHub (fun h => { h with sched := none })
  (b.eachAgent (fun a => { a with armed := false })).completeWhere now
    (fun w => if w = .halt then some (stConflict, 0, []) else none)

/-! ### HALT (R257, R258, R262) -/

/-- HALT: a scheduled halt is announced, or an immediate halt requested. (DEDUCED, log entry 72.) -/
def execHalt (c : Cmd) (s : State) : Host.Outcome State Fault Refusal :=
  .next (runCmdB 0x40 c s none (fun now pt b =>
    let t := c.tick48 1
    if c.arg 0 = 1 then
      if t < now + b.rd HUB_HALT.HALT_LEAD 0 ∨ now + 2 ^ 23 < t then b.stop now pt stBadArg (badArgDetail 2 0)
      else if b.haltSt ≠ haltRunning ∨ b.hub.haltWanted.isSome then b.stop now pt stBusy 0
      else
        let b := (b.wr HUB_HALT.STATE 0 haltPending).wr HUB_HALT.SCHED_TICK 0 t
        (b.modHub (fun h => { h with sched := some t })).await pt .halt
    else if b.haltSt ≠ haltRunning ∨ b.hub.haltWanted.isSome then b.stop now pt stBusy 0
    else (b.modHub (fun h => { h with haltWanted := some 2 })).await pt .halt))

/-! ### The cut (R256 to R260) -/

/-- A halt is taken into force at `(now, off)`. -/
def Block.takeCut (b : Block) (now off source : Nat) (consistent : Bool) : Block :=
  let b := ((b.wr HUB_HALT.STATE 0 haltStopping).wr HUB_HALT.SOURCE 0 source).wrB HUB_HALT.CONSISTENT 0 consistent
  let b := ((b.wr HUB_HALT.CUT_TICK 0 now).wr HUB_HALT.CUT_OFFSET 0 off).inc HUB_HALT.HALTS 0
  b.modHub (fun h => { h with sched := none, wires := true })

/-- An active parcel whose cores run stops on the wire, not on an arm word. -/
def Block.onWire (b : Block) : Bool :=
  b.agents.any (fun e => (b.cadE e.1).flag == 0 && e.2.released && !e.2.halted && !e.2.armed)

/-- HALT_CUT: the tick mark of T. Armed agents stop at offset 0, the others on the halt wires (R257).
(DEDUCED, log entry 74.) -/
def execHaltCut (s : State) : Host.Outcome State Fault Refusal :=
  onB s (fun now b => match b.hub.sched with
    | none => b
    | some t =>
      if now < t then b
      else
        let consistent := !b.onWire
        (b.eachAgent (fun a => if a.halted then a else { a with halted := true, armed := false })).takeCut now 0 1 consistent)

/-- Send a halt set on a port (R217, R255, R260). -/
def Block.sendSet (b : Block) (now off g k : Nat) : Block :=
  (b.modTie k (fun t => { t with sent := (haltChars g 1 :: t.sent).take 16 })).tieRecord now off 0x20 k 0xFF g

/-- Send a halt set on the UP ports of the group's tree, but for the one it came from. -/
def Block.sendSets (b : Block) (now off : Nat) (from_ : Option Nat) : Block :=
  let g := b.rd HUB_LOCK.GROUP 0
  if g = 0 ∨ (from_.isNone ∧ !b.bit HUB_HALT.GROUP_HALT_EN 0) then b
  else b.each (b.groupPorts.filter (fun k => b.tieSt k == tieUp && some k != from_)) (fun b k => b.sendSet now off g k)

/-- An immediate halt from the root at `(now, off)`, by Table 11.4. -/
def Block.immediateHalt (b : Block) (now off code : Nat) : Block :=
  let b := b.modHub (fun h => { h with haltWanted := none })
  let st := b.haltSt
  if st = haltStopping ∨ st = haltHalted then b
  else if st = haltReleasing then
    let b := ((b.wr HUB_HALT.STATE 0 haltHalted).wr HUB_HALT.SOURCE 0 code).modHub (fun h => { h with release := none })
    (b.eachAgent (fun a => { a with releaseWord := false })).completeWhere now
      (fun w => if w = .resume then some (stConflict, 0, []) else none)
  else
    let b := b.cond (st == haltPending) (fun b => b.cancelHalt now)
    let b := b.eachAgent (fun a => if a.halted then a else { a with halted := true, armed := false })
    let b := b.takeCut now off code false
    b.cond (code != 5) (fun b => b.sendSets now off none)

/-- IMMEDIATE_HALT: the halt wires follow a cause that has requested it (R258). -/
def execImmediateHalt (why : HaltCause) (sc : ScOff) (s : State) : Host.Outcome State Fault Refusal :=
  onB s (fun now b => b.cond (b.hub.haltWanted == some (haltCode why)) (fun b => b.immediateHalt now sc (haltCode why)))

/-- TIE_HALT_SET: counted; a set for the own group starts an immediate halt with source 5 and is forwarded, unless a halt is in
force (R260). (DEDUCED, log entry 73.) -/
def execTieHaltSet (k : TieNo) (group kind : Byte) (sc : ScOff) (s : State) : Host.Outcome State Fault Refusal :=
  onB s (fun now b =>
    let b := b.inc HUB_HALT.TIE_RX 0
    if b.tieSt k ≠ tieUp ∨ group.toNat ≠ b.rd HUB_LOCK.GROUP 0 ∨ group.toNat = 0 ∨ kind.toNat ≠ 1 then b
    else if haltStopping ≤ b.haltSt ∨ b.hub.haltWanted.isSome = true then b
    else ((b.tieRecord now sc 0x21 k 0xFF group.toNat).modHub (fun h => { h with haltWanted := some 5 })).sendSets now sc (some k.val))

/-! ### Arrival (R257 to R259) -/

/-- Every field not marked out has reported halt arrival. -/
def Block.allArrived (b : Block) : Bool := b.inService.all (fun f => (mget Report.zero b.hub.reports f).haltArrived)

/-- The moment of a field's arrival, as survey cycles from the tick mark of the cut: `ec` engine cycles after the first engine edge
at or after the root's assertion (R242, R258). -/
def Block.arrivalSc (b : Block) (ec : Nat) : Nat :=
  ((b.rd HUB_HALT.CUT_OFFSET 0 * b.mhz + 999) / 1000 + ec) * 1000 / b.mhz

/-- ARRIVE_EC, ACK_EC and ARRIVE_TICK of a field, and its HALT_ARRIVE record, stamped with the arrival itself (R242). -/
def Block.putArrival (b : Block) (x : FieldNo × BitVec 16 × BitVec 16) : Block :=
  let f := x.1.val
  let sc := b.arrivalSc x.2.1.toNat
  let t := b.rd HUB_HALT.CUT_TICK 0 + sc / 2048
  let b := ((b.wr F_TRACE.ARRIVE_EC f x.2.1.toNat).wr F_TRACE.ACK_EC f x.2.2.toNat).wr F_TRACE.ARRIVE_TICK f t
  b.record f t (sc % 2048) 0x29 (srcField f) 0 (b.rd HUB_HALT.HALTS 0) (x.2.2.toNat * 2 ^ 16 + x.2.1.toNat)

/-- The largest ARRIVE_EC and its field. -/
def smearOf (l : List (FieldNo × BitVec 16 × BitVec 16)) : Nat × Nat :=
  l.foldl (fun (a : Nat × Nat) x => if a.1 < x.2.1.toNat then (x.2.1.toNat, x.1.val) else a) (0, (l.head?.map (fun x => x.1.val)).getD 0)

/-- HALTED_ENTRY: the boundary after every field not marked out has reported arrival; `arrivals` are the measured figures. HALT
completes DONE, and a HALT_CUT record is written (R257). (DEDUCED, log entry 74.) -/
def execHaltedEntry (arrivals : List (FieldNo × BitVec 16 × BitVec 16)) (s : State) : Host.Outcome State Fault Refusal :=
  onB s (fun now b =>
    if b.haltSt ≠ haltStopping ∨ !b.allArrived then b
    else
      let m := smearOf arrivals
      let b := b.each arrivals (fun b x => b.putArrival x)
      let b := ((b.wr HUB_HALT.STATE 0 haltHalted).wr HUB_HALT.SMEAR_EC 0 m.1).wr HUB_HALT.SMEAR_FIELD 0 m.2
      let word := b.rd HUB_HALT.CONSISTENT 0 * 2 ^ 16 + m.1
      let b := b.record 84 (b.rd HUB_HALT.CUT_TICK 0) (b.rd HUB_HALT.CUT_OFFSET 0) 0x28 srcHub (b.rd HUB_HALT.SOURCE 0)
        (b.rd HUB_HALT.HALTS 0) word
      (b.evalMgr now).completeWhere now (fun w => if w = .halt then some (stDone, 0, [b.rd HUB_HALT.HALTS 0, word]) else none))

/-- HALT_TIMEOUT: a core of the parcel has not confirmed its stop in time; the halt completes all the same (R259). -/
def execHaltTimeout (f : FieldNo) (p : SlotNo) (s : State) : Host.Outcome State Fault Refusal :=
  onB s (fun _ b => b.cond (decide (haltStopping ≤ b.haltSt))
    (fun b => (b.inc HUB_HALT.TIMEOUTS 0).fault 25 f p 0))

/-! ### Resume (R261, R262) -/

/-- RESUME: a pending scheduled halt is cancelled, or the release tick is set. (DEDUCED, log entry 72.) -/
def execResume (c : Cmd) (s : State) : Host.Outcome State Fault Refusal :=
  .next (runCmdB 0x41 c s none (fun now pt b =>
    let lead := b.rd HUB_HALT.HALT_LEAD 0
    let u := if c.tick48 0 = 0 then now + lead else c.tick48 0
    if u < now + lead then b.stop now pt stBadArg (badArgDetail 1 0)
    else if b.haltSt = haltPending then
      ((b.cancelHalt now).wr HUB_HALT.STATE 0 haltRunning).done now pt [lowBits 32 u]
    else if b.haltSt = haltHalted then
      ((b.wr HUB_HALT.STATE 0 haltReleasing).modHub (fun h => { h with release := some u })).await pt .resume
    else if b.haltSt = haltReleasing then b.stop now pt stBusy 0
    else b.stop now pt stStateReject b.mgr))

/-- A parcel restarts: one with a RUNNING matrix ticket makes a parcel start (R116). -/
def Block.restartParcel (b : Block) (k : Nat) : Block :=
  let f := k / 672
  let p := k % 672
  let l := (onParcel (b.slotsOf f) p).filter (fun t => t.running && matrixClass t.cls)
  match lastGranted l with
  | none => b
  | some t => b.parcelStart f p t.cls (l.any (fun t => t.crit)) false

/-- Agents that hold a release word restart their cores; a dead slot's keeps them halted (R12, R261). -/
def Block.releaseAgents (b : Block) : Block :=
  b.each (keysOf b.agents) (fun b k =>
    let a := b.agent k
    if a.halted && a.releaseWord && !b.dead k then
      (b.modAgent k (fun a => { a with halted := false, releaseWord := false, armed := false })).restartParcel k
    else b)

/-- HALT_RELEASE: the tick mark of U. The wires fall, agents with a release word restart, RESUME completes DONE, and the
job-restart request clears (R261, R298). -/
def execHaltRelease (s : State) : Host.Outcome State Fault Refusal :=
  onB s (fun now b => match b.hub.release with
    | none => b
    | some u =>
      if now < u then b
      else
        let b := b.modHub (fun h => { h with release := none, wires := false })
        let b := ((b.releaseAgents.wr HUB_HALT.STATE 0 haltRunning).inc HUB_HALT.RESUMES 0).wr HUB_HALT.RELEASE_TICK 0 now
        let b := (b.wr HUB_FAULT.RESTART_PENDING 0 0).modPins (fun p => { p with jobRestartReq := false })
        let b := b.record 84 now 0 0x2A srcHub 0 (b.rd HUB_HALT.HALTS 0) now
        (b.evalMgr now).completeWhere now (fun w => if w = .resume then some (stDone, 0, [lowBits 32 now]) else none))

/-! ### Thermal shutdown after tick D (R170 to R172) -/

/-- The 64 bytes of a shutdown record from its first 52: ACK erased, and the CRC over bytes 0x00 to 0x33 and 0x38 to 0x3B (R171). -/
def sealShutdown (body : List Nat) : List Nat :=
  body ++ List.replicate 4 0xFF ++ leBytes 4 0 ++ leBytes 4 (crc32c (body ++ leBytes 4 0))

/-- A shutdown record with ACK programmed to 0 (Table 7.6). -/
def MonRec.acked (r : MonRec) : MonRec := { r with data := r.data.take 0x34 ++ [0, 0, 0, 0] ++ r.data.drop 0x38 }

/-- Program ACK of the latest shutdown record whose CRC passes; one still on its way to the region is acknowledged when it is
written. -/
def Monument.ack (m : Monument) : Monument :=
  let waits := m.queue.any (fun r => r.tier == 1) || (match m.busy with
    | some r => r.tier == 1
    | none => false)
  { m with acked := true, shutdowns := if waits then m.shutdowns else m.shutdowns.modify (m.shutdowns.findIdx (fun r => r.whole)) MonRec.acked }

/-- SHUTDOWN_ACK: ACK of the latest record is programmed; without one to acknowledge nothing changes (R172). -/
def execShutdownAck (c : Cmd) (s : State) : Host.Outcome State Fault Refusal :=
  .next (runCmdB 0x8A c s none (fun now pt b =>
    ((b.wr HUB_THERM.ACK_PENDING 0 0).modMon Monument.ack).done now pt []))

/-- RAMP is entered: group 0 starts at this boundary (R355). (DEDUCED, log entry 106.) -/
def Block.enterRamp (b : Block) (now : Nat) : Block :=
  ((b.wr HUB_STATE.START_PHASE 0 6).modHub (fun h => { h with group := 0, groupTick := now, rampTick := now })).evalMgr now

/-- What R172 waits for: ACK is written and every valid benchmark is cool. -/
def Block.exitReady (b : Block) : Bool := b.mon.acked && allFields.all b.benchesCool

/-- SHUTDOWN_EXIT: SHUTDOWN entered after SELFTEST is left for RAMP; one entered by a trip is not (R172, R372). -/
def execShutdownExit (s : State) : Host.Outcome State Fault Refusal :=
  onB s (fun now b => b.cond (b.hub.shutHold && !b.hub.tripped && b.exitReady) (fun b =>
    ((b.modHub (fun h => { h with shutHold := false })).wr HUB_THERM.COOL_WAIT 0 0).publishLevel.enterRamp now))

end Sys2Proof.Machine
end

