-- ==== Sys2Proof/Machine/Faults.lean ====
section
/-!
DEFINITION. The fault collector: counting and classing events, its five states, the severe response, recovery, and the
commands and inputs that act on it (R290 to R305, R401, R402).
-/

namespace Sys2Proof.Machine

open Sys2Proof

/-! ### Collector states (Table 13.2) -/

def colNormal : Nat := 0
def colDegraded : Nat := 1
def colSevere : Nat := 2
def colRecovering : Nat := 3
def colSticky : Nat := 4

def Block.collector (b : Block) : Nat := b.rd HUB_FAULT.STATE 0

/-- Ticks of the quiet period (R300), and of one hour (R301). -/
def quietTicks : Nat := 488281
def hourTicks : Nat := 1757812500

/-- FAULT_N changes level: the pin, FAULT_N_ON and an in-band interrupt (R299, R412). -/
def Block.setFaultN (b : Block) (v : Bool) : Block :=
  if b.pins.faultN = v then b
  else ((b.modPins (fun p => { p with faultN := v })).wrB HUB_FAULT.FAULT_N_ON 0 v).ibi 2

/-! ### Classes (R293, R294) -/

/-- W_b in ticks. -/
def Block.window (b : Block) (src : Nat) : Nat := 256 * b.rd (HUB_FAULT.WINDOW src) 0

/-- Severe at first, whatever N and W say. -/
def severeAtFirst (src detail : Nat) : Bool :=
  severeFirst.contains src || (src == 15 && detail.testBit 8) || (src == 18 && detail.testBit 15)

/-- Class of an event whose source has `n` events in its window, itself included: 0 minor, 1 severe at first, 2 severe by count. -/
def Block.classify (b : Block) (src detail n : Nat) : Nat :=
  if severeAtFirst src detail then 1
  else if neverSevere.contains src then 0
  else if b.rd (HUB_FAULT.N src) 0 ≤ n then 2 else 0

/-- Collector state after an event. -/
def stateAfter (st cls : Nat) : Nat :=
  if cls ≠ 0 then (if st = colSticky then colSticky else colSevere)
  else if st = colNormal then colDegraded else st

/-! ### One event (R292, R297) -/

/-- History entry and its sequence number (R304). -/
def Block.history (b : Block) (now off src fld cls after detail : Nat) : Block :=
  let n := if b.rd HUB_FAULT.HIST_SEQ 0 = 2 ^ 32 - 1 then 1 else b.rd HUB_FAULT.HIST_SEQ 0 + 1
  let e : HistEntry :=
    { tick := now, offset := off, source := src, field := fld, cls := cls, after := after, detail := detail, seqNo := n }
  (b.wr HUB_FAULT.HIST_SEQ 0 n).modHub (fun h => { h with hist := (e :: h.hist).take 16 })

/-- PARCEL of the raising unit (R241). -/
def faultSource (fld : Nat) : Nat := if fld < 84 then srcField fld else srcHub

/-- The full response of R297: FAULT_N, an immediate halt with source 3, the job-restart request unless one is pending, and the
accounts at the next boundary. (DEDUCED, log entry 80.) -/
def Block.severeResponse (b : Block) (now : Nat) : Block :=
  let b := (b.setFaultN true).modHub (fun h => { h with
    severeAt := some now, haltWanted := if h.haltWanted = some 4 then some 4 else some 3 })
  (b.wr HUB_FAULT.RESTART_PENDING 0 1).modPins (fun p => { p with jobRestartReq := true })

/-- A severe declaration. (DEDUCED, log entry 80.) -/
def Block.declareSevere (b : Block) (now off st src fld : Nat) : Block :=
  let b := b.setFlag HUB_FAULT.SEVERE_SRC 0 src true
  let b := ((b.inc HUB_FAULT.SEVERE_COUNT 0).wr HUB_FAULT.SEVERE_TICK 0 now).wr HUB_FAULT.SEVERE_FIELD 0 fld
  let b := b.wr HUB_FAULT.SEVERE_SOURCE 0 src
  let b := b.cond (st != colSevere) (fun b => b.severeResponse now)
  let b := b.cond (b.bit HUB_TRACE.TRIG_ON_SEVERE 0) (fun b => (b.each allBufs (fun b k => b.trigger now off k 3 0 0 (min fld 0x7F))).hubTrigger now)
  b.monEvent now off 0x20 (faultSource fld) ([src, fld] ++ leBytes 4 (b.rd HUB_FAULT.SEVERE_SRC 0))

/-- One event reaches the collector (R292). The newest 16 events of a source are kept, more than N can ask for, and those of the window
in force now are counted (R293, R295). -/
def Block.collect (b : Block) (now off src fld detail : Nat) : Block :=
  let st := b.collector
  let w := b.window src
  let all := mget [] b.hub.events src ++ [now]
  let all := all.drop (all.length - 16)
  let cls := b.classify src detail (all.filter (fun t => decide (now < t + w))).length
  let after := stateAfter st cls
  let b := ((b.setFlag HUB_FAULT.FAULT_STATUS 0 src true).inc (HUB_FAULT.EVT_COUNT src) 0).wr HUB_FAULT.STATE 0 after
  let b := b.modHub (fun h => { h with
    events := mput [] h.events src (if cls = 0 then all else []), latest := mput 0 h.latest src now
    quietFrom := if st = colRecovering then now else h.quietFrom })
  let b := b.history now off src fld cls after detail
  let b := b.monEvent now off src (faultSource fld) (leBytes 2 detail ++ [cls, after, fld])
  let b := b.cond (cls != 0 || b.bit HUB_FAULT.IRQ_MINOR_EN 0) (fun b => b.wr HUB_STATE.FAULT 0 1)
  b.cond (cls != 0) (fun b => b.declareSevere now off st src fld)

/-- FAULT_EVENT: a fault word arrives (R291, R292). One that a step of this model sent leaves the link. -/
def execFaultEvent (src : SourceNo) (fld : Option FieldNo) (detail : BitVec 16) (sc : ScOff) (s : State) :
    Host.Outcome State Fault Refusal :=
  onB s (fun now b =>
    let f := match fld with
      | some f => f.val
      | none => 255
    let same (w : FaultWord) : Bool := w.src == src.val && w.field == f && w.detail == detail.toNat
    let known := b.faults.any same
    let b := if known then { b with faults := b.faults.eraseP same }
      else b.cond (decide (f < 84)) (fun b => b.modFu f (fun u => { u with faultNow := mmod 0 u.faultNow src.val (· + 1) }))
    b.collect now sc src f detail.toNat)

/-! ### Recovery (R296, R300, R301) -/

/-- COLLECTOR_RECOVERING: the boundary after every field not marked out has reported halt arrival. -/
def execCollectorRecovering (s : State) : Host.Outcome State Fault Refusal :=
  onB s (fun now b => match b.hub.severeAt with
    | none => b
    | some t => b.cond (b.collector == colSevere && decide (t < now) && b.allArrived) (fun b =>
        ((b.wr HUB_FAULT.STATE 0 colRecovering).modHub (fun h => { h with quietFrom := now })).evalMgr now))

/-- NORMAL or DEGRADED, by the pending bits; the episode ends, and FAULT_N is released. (DEDUCED, log entry 81.) -/
def Block.endEpisode (b : Block) : Block :=
  let b := (b.wr HUB_FAULT.STATE 0 (if b.rd HUB_FAULT.FAULT_STATUS 0 = 0 then colNormal else colDegraded)).wr HUB_FAULT.SEVERE_SRC 0 0
  b.setFaultN false

/-- Sources whose pending bit is as old as their window: latest event W_b ticks ago or longer (R302). -/
def Block.lapsed (b : Block) (now : Nat) : List Nat :=
  (List.range 32).filter (fun k => b.flag HUB_FAULT.FAULT_STATUS 0 k && decide (mget 0 b.hub.latest k + b.window k ≤ now))

/-- The recovery at `now` is the ninth within an hour; `last` are the earlier ones, newest first (R301). -/
def ninthRecovery (last : List Nat) (now : Nat) : Bool :=
  match last[7]? with
  | some t => decide (now ≤ t + hourTicks)
  | none => false

/-- RECOVERY_COMPLETE: the quiet period is over (R300, R301). The bits of the episode are free at this boundary, and those
whose window has passed clear at it, as in Table 13.4. (DEDUCED, log entry 81.) -/
def execRecoveryComplete (s : State) : Host.Outcome State Fault Refusal :=
  onB s (fun now b =>
    if b.collector ≠ colRecovering ∨ now < b.hub.quietFrom + quietTicks then b
    else
      let last := b.hub.recoveries
      let ninth := ninthRecovery last now
      let b := (b.inc HUB_FAULT.RECOVERY_COUNT 0).modHub (fun h => { h with recoveries := (now :: last).take 9 })
      let count := leBytes 4 (b.rd HUB_FAULT.RECOVERY_COUNT 0)
      let b := b.monEvent now 0 0x21 srcHub count
      if ninth then (b.wr HUB_FAULT.STATE 0 colSticky).monEvent now 0 0x22 srcHub count
      else (b.each (b.lapsed now) (fun b k => b.setFlag HUB_FAULT.FAULT_STATUS 0 k false)).endEpisode)

/-! ### Clearing (R302) -/

/-- With all bits clear DEGRADED becomes NORMAL. -/
def Block.bitsCleared (b : Block) : Block :=
  b.cond (b.collector == colDegraded && b.rd HUB_FAULT.FAULT_STATUS 0 == 0) (fun b => b.wr HUB_FAULT.STATE 0 colNormal)

/-- The pending bit of a source severe in the open episode is not cleared while the collector is SEVERE, RECOVERING or STICKY (R302). -/
def Block.episodeBit (b : Block) (src : Nat) : Bool :=
  b.flag HUB_FAULT.SEVERE_SRC 0 src && (b.collector == colSevere || b.collector == colRecovering || b.collector == colSticky)

/-- FAULT_BIT_EXPIRE: the boundary W_b ticks after the latest event of the source. -/
def execFaultBitExpire (src : SourceNo) (s : State) : Host.Outcome State Fault Refusal :=
  onB s (fun now b => b.cond (b.flag HUB_FAULT.FAULT_STATUS 0 src && !b.episodeBit src &&
      decide (mget 0 b.hub.latest src + b.window src ≤ now))
    (fun b => (b.setFlag HUB_FAULT.FAULT_STATUS 0 src false).bitsCleared))

/-- A W1C write of FAULT_STATUS: bits clear, and the counts of their sources are emptied. -/
def Block.clearStatus (b : Block) (v : Nat) : Block :=
  let l := (List.range 32).filter (fun k => v.testBit k && b.flag HUB_FAULT.FAULT_STATUS 0 k && !b.episodeBit k)
  (b.each l (fun b k => (b.setFlag HUB_FAULT.FAULT_STATUS 0 k false).modHub (fun h => { h with events := merase h.events k }))).bitsCleared

/-- FAULT_STATUS_W1C (R302). -/
def execFaultStatusW1c (v : Word) (s : State) : Host.Outcome State Fault Refusal := onB s (fun _ b => b.clearStatus v.toNat)

/-- FAULT_CLEAR (R302). (DEDUCED, log entry 81.) -/
def execFaultClear (c : Cmd) (s : State) : Host.Outcome State Fault Refusal :=
  .next (runCmdB 0x90 c s none (fun now pt b =>
    let st := b.collector
    if st = colSticky then
      let b := (b.modHub (fun h => { h with recoveries := [] })).endEpisode
      (b.monEvent now c.sc 0x23 srcHub [pt]).done now pt []
    else if st = colSevere ∨ st = colRecovering then b.stop now pt stStateReject b.mgr
    else
      let b := (b.wr HUB_FAULT.FAULT_STATUS 0 0).modHub (fun h => { h with events := [] })
      (b.wr HUB_FAULT.STATE 0 colNormal).done now pt []))

/-- FAULT_POLICY (R295). -/
def execFaultPolicy (c : Cmd) (s : State) : Host.Outcome State Fault Refusal :=
  .next (runCmdB 0x91 c s none (fun now pt b =>
    let src := c.arg 0 % 32
    let n := c.arg 0 / 256 % 16
    let w := c.arg 0 / 65536
    if fixedSource src || n == 0 || w == 0 then b.stop now pt stBadArg (badArgDetail 1 0)
    else b.cmdPages now c.sc.val pt 0 0 1 [⟨0x18, 0⟩] [⟨HUB_FAULT.N src, 0, n⟩, ⟨HUB_FAULT.WINDOW src, 0, w⟩]))

/-! ### Inputs -/

/-- ENGINE_ERROR_EDGE: one event per rising edge, until re-armed (R401). -/
def execEngineErrorEdge (sc : ScOff) (s : State) : Host.Outcome State Fault Refusal :=
  onB s (fun _ b => b.cond (!b.hub.engErrHigh) (fun b => (b.modHub (fun h => { h with engErrHigh := true })).fault 31 255 0 sc))

/-- ENGINE_ERROR_REARM: the input has been low for 16 sc (R401). -/
def execEngineErrorRearm (s : State) : Host.Outcome State Fault Refusal :=
  onB s (fun _ b => b.modHub (fun h => { h with engErrHigh := false }))

/-- Detail of a lost clock (Table 13.1). -/
def clockDetail : ClockSource → Nat
  | .refclk => 0
  | .surveyPll => 1
  | .enginePll => 2

/-- CLOCK_LOSS (R291). -/
def execClockLoss (what : ClockSource) (sc : ScOff) (s : State) : Host.Outcome State Fault Refusal :=
  onB s (fun _ b => b.fault 28 255 (clockDetail what) sc)

end Sys2Proof.Machine
end

