-- ==== Sys2Proof/Machine/Firmware.lean ====
section
/-!
DEFINITION. The 87 processors: gates and compartments, restarts under the hardware hold, images and activations,
measurement registers and quotes (R264 to R289).
-/

namespace Sys2Proof.Machine

open Sys2Proof

/-! ### Numbers -/

/-- Field number of a processor as a fault carries it, 255 for the hub. -/
def procField (p : Nat) : Nat := if p < 84 then p else 255
/-- How a BUSY names a processor (R277, Table 16.4). -/
def busyName (p : Nat) : Nat := if p < 84 then p else 0xFF

/-- Restart causes (Table 12.3). -/
def causeTrap : Nat := 1
def causeWatchdog : Nat := 2
def causeComponent : Nat := 3
def causeImage : Nat := 4
def causeSram : Nat := 5
def causeCommand : Nat := 6
def causeUpdate : Nat := 7
def causeRollback : Nat := 8

/-- ROLLOUT values (Table 12.9). -/
def rollIdle : Nat := 0
def rollStaging : Nat := 1
def rollStaged : Nat := 2
def rollActivating : Nat := 3
def rollBack : Nat := 4
def rollCopying : Nat := 5

def Block.rollout (b : Block) : Nat := b.rd HUB_FW.ROLLOUT 0
/-- An activation, its rollback or its copy is under way. -/
def Block.activating (b : Block) : Bool := decide (rollActivating ≤ b.rollout)

/-- Processors in the order of R281. -/
def activationOrder : List Nat := allFields ++ [85, 86, 84]

/-! ### Measurement (R286) -/

/-- Measurement register of a processor's class, and its section in an image (Table 12.7). -/
def classReg (p : Nat) : Nat := if p < 84 then 4 else p - 83
def classSection (p : Nat) : Nat := if p < 84 then 3 else p - 84

/-- MR := SHA-384(MR ‖ d), with an entry of the measurement log. -/
def Block.extend (b : Block) (now k : Nat) (d : List Nat) : Block :=
  let b := b.modHub (fun h => { h with
    mr := h.mr.set k (lowBits 384 (leNat (Config.sha384 (leBytes 48 (h.mr.getD k 0) ++ d))))
    extends_ := h.extends_.set k (lowBits 32 (h.extends_.getD k 0 + 1)), mlog := h.mlog ++ [(k, leNat d, now)] })
  b.wr HUB_SEC.MLOG_ENTRIES 0 b.hub.mlog.length

/-! ### Images and the loader (R264, R265, R272, R279) -/

/-- Section `k` of an image: offset, length, load offset, digest, and its bytes (Table 12.7). -/
def secOff (img : List Nat) (k : Nat) : Nat := fieldAt img (0x20 + 64 * k) 4
def secLen (img : List Nat) (k : Nat) : Nat := fieldAt img (0x24 + 64 * k) 4
def secLoad (img : List Nat) (k : Nat) : Nat := fieldAt img (0x28 + 64 * k) 4
def secDigest (img : List Nat) (k : Nat) : List Nat := sliceAt img (0x30 + 64 * k) 48
def secBytes (img : List Nat) (k : Nat) : List Nat := (img.drop (secOff img k)).take (secLen img k)

/-- IMAGE_VER, SVN, IFACE and DEBUG_SIGNED of an image. -/
def imgVer (img : List Nat) : Nat := fieldAt img 8 4
def imgSvn (img : List Nat) : Nat := fieldAt img 0x0C 2
def imgIface (img : List Nat) : Nat := fieldAt img 0x0E 2
def imgDebug (img : List Nat) : Bool := (fieldAt img 6 2).testBit 0

/-- The image in a firmware slot, the one in force, the one that a processor runs, and its section. -/
def Monument.slot (m : Monument) (slotB : Bool) : List Nat := if slotB then m.imgB else m.imgA
def Monument.inForce (m : Monument) : List Nat := m.slot m.forceB
def Block.imgOf (b : Block) (p : Nat) : List Nat := b.mon.slot (b.proc p).imageB
def Block.secOf (b : Block) (p : Nat) : List Nat := secBytes (b.imgOf p) (classSection p)

/-- The image in slot B has another IFACE than the one in force (R280). -/
def Block.ifaceNew (b : Block) : Bool := imgIface b.mon.imgB != imgIface b.mon.inForce

/-- Code and data region of a processor: its base as a window offset, and its bytes (Table 12.1). -/
def procBase (p : Nat) : Nat := if p < 84 then 0x4000000 + p * 0x80000 else 0x1000000 + 0x80000 * (p - 84)
def procBytes (p : Nat) : Nat := if p < 84 then 192 * 1024 else 512 * 1024
/-- Base of a processor's log ring (R278). -/
def logBase (p : Nat) : Nat := if p < 84 then procBase p + 0x74000 else 0x1000000 + 0x2FA000 + 0x2000 * (p - 84)

/-- The code of a processor lies where its section is placed; the rest of its region is data. -/
def codeBase (img : List Nat) (p : Nat) : Nat := procBase p + secLoad img (classSection p)

/-- Bytes outside `[a, a + n)`. -/
def clearBytes (mem : List Host.Cell) (a n : Nat) : List Host.Cell := mem.filter (fun e => !(decide (a ≤ e.1) && decide (e.1 < a + n)))

/-- The hub loader places a processor's section in its memory (R265). -/
def placeSection (img : List Nat) (mem : List Host.Cell) (p : Nat) : List Host.Cell :=
  putBytes mem (codeBase img p) (secBytes img (classSection p))

/-- The loader zeroes a processor's data region (R272). -/
def zeroData (img : List Nat) (mem : List Host.Cell) (p : Nat) : List Host.Cell :=
  let a := codeBase img p
  let z := a + secLen img (classSection p)
  clearBytes (clearBytes mem (procBase p) (a - procBase p)) z (procBase p + procBytes p - z)

/-- The bytes of a processor's code region. -/
def codeBytes (img : List Nat) (mem : List Host.Cell) (p : Nat) : List Nat :=
  (List.range (secLen img (classSection p))).map (fun j => (mget 0 mem (codeBase img p + j)).toNat)

/-- Compartments after the kernel (Table 12.2), and the number of H2's attestation compartment. -/
def compCount (p : Nat) : Nat := if p < 84 then 6 else if p = 84 then 5 else if p = 85 then 4 else 5
def compAttest : Nat := 5

/-- The 16 MPU regions while compartment `comp` runs: the kernel's four, and the set of the compartment (R266). -/
def Block.mpuSet (b : Block) (p comp : Nat) : List (Nat × Nat) :=
  let img := b.imgOf p
  let a := codeBase img p
  let n := secLen img (classSection p)
  [(a, n), (a + n, procBase p + procBytes p - (a + n)), Config.gateTable (b.secOf p), (logBase p, 8192)] ++
    (List.range 12).map (fun j => if comp = 0 then (0, 0) else Config.compRegion (b.secOf p) comp j)

/-- A processor runs compartment `comp`, under its regions (R266). -/
def Block.enterComp (b : Block) (p comp : Nat) : Block :=
  let l := b.mpuSet p comp
  b.modProc p (fun q => { q with comp := comp, mpu := l })

/-! ### Restart (R269 to R272, R275, R278) -/

/-- The event that a cause counts (Table 12.3). -/
def Block.causeFault (b : Block) (off p cause : Nat) : Block :=
  if causeSram < cause then b
  else
    let b := if cause = causeSram then
        let fr := b.fresh
        fr.2.fault 0 (procField p) (fr.1 % 65536) off
      else b
    b.fault (if p < 84 then 5 else 4) (procField p) (p * 256 + cause) off

/-- A recalibration whose solve is under way is lost: it is skipped when it would have been installed; windows and balance periods are
broken (R275, Table 12.4). -/
def Block.breakLoops (b : Block) (f : Nat) : Block :=
  let u := b.fu f
  let b := match u.recal with
    | none => b
    | some r =>
      b.modFu f (fun u => { u with recal := some { r with lost := true } })
  (b.modFu f (fun u => { u with brokenNow := true })).each [0, 1] (fun b rl => b.modRail (railOf f rl) (fun r => { r with balBroken := true }))

/-- The record that a field processor's restart writes to the hub buffer; its code, source and data are the firmware's.
(DESIGN CHOICE, log entry 82.) -/
def Block.restartRecord (b : Block) (now off : Nat) : Block :=
  let x := b.fresh
  let y := x.2.fresh
  let z := y.2.fresh
  z.2.record 84 now off (0x80 + x.1 % 128) (srcHub + 1 + x.1 / 128 % 3) 0 (y.1 % 2 ^ 24) z.1

/-- A processor stops and begins a restart under the hold. -/
def Block.beginRestart (b : Block) (now off p cause : Nat) : Block :=
  let b := b.modProc p (fun q => { q with
    st := 1, hold := b.rd HUB_FW.HOLD_TICKS 0, holdOn := true, failedStarts := 0, cause := cause, causeTick := now, causeSc := off
    restarts := lowBits 32 (q.restarts + 1), runTick := none, compDown := [], loaded := false })
  let b := b.cond (decide (p < 84)) (fun b => (b.breakLoops p).restartRecord now off)
  (b.logEntry p now off 0 0 cause).monEvent now off 0x30 (procSource p) [p, cause]

/-! ### Rollback (R282) -/

/-- A processor is STOPPED: only FW_RESTART or SURV_RST_N starts it again (R274). -/
def Block.stopped (b : Block) (p : Nat) : Bool := (b.proc p).st == 3

/-- A processor is to run the image of a slot from its next start. -/
def Block.setImage (b : Block) (p : Nat) (slotB : Bool) : Block :=
  b.modProc p (fun q => { q with newImage := q.newImage || q.imageB != slotB, imageB := slotB })

/-- A processor starts on the image of a slot. The first of its class to start in this activation or rollback extends the class's
register (R281, R286); a STOPPED one only takes the image for its next start (R274). (DEDUCED, log entry 154.) -/
def Block.startOn (b : Block) (now off p cause : Nat) (slotB : Bool) : Block :=
  let b := b.setImage p slotB
  if b.stopped p then b
  else
    let b := b.cond (decide (84 ≤ p) || !b.hub.rollField) (fun b => b.extend now (classReg p) (secDigest (b.imgOf p) (classSection p)))
    (b.cond (decide (p < 84)) (fun b => b.modHub (fun h => { h with rollField := true }))).beginRestart now off p cause

/-- The rollback goes on with the next processor that can start, or is over (R282). (DEDUCED, log entries 85, 154.) -/
def Block.rollNext (b : Block) (now off : Nat) : Block :=
  let l := b.hub.rollback
  let b := b.each (l.takeWhile b.stopped) (fun b p => b.setImage p false)
  match l.dropWhile b.stopped with
  | p :: rest => ((b.modHub (fun h => { h with rollback := rest })).wr HUB_FW.ROLL_NEXT 0 p).startOn now off p causeRollback false
  | [] =>
    let b := ((b.modHub (fun h => { h with rollback := [] })).wr HUB_FW.ROLLOUT 0 rollStaged).extend now 7 (Config.sha384 (b.mon.imgB.take 0x200))
    b.completeWhere now (fun w => if w = .activation then some (stUnmet, b.hub.rollFail, [b.hub.rollFail]) else none)

/-- The activation rolls back: the failing processor at once, then the others on slot B in reverse order.
(DEDUCED, log entry 85.) -/
def Block.rollBackFrom (b : Block) (now off p : Nat) : Block :=
  let rest := (activationOrder.filter (fun k => k != p && (b.proc k).imageB)).reverse
  let b := ((b.wr HUB_FW.ROLLOUT 0 rollBack).wr HUB_FW.BOOT_SLOT 0 0).wr HUB_FW.ROLL_NEXT 0 p
  let b := b.modMon (fun m => { m with bootSlotB := false })
  let b := b.modHub (fun h => { h with order := [], rollback := rest, rollFail := p, rollField := false })
  let b := ((b.monEvent now off 0x32 srcHub [p]).headerWrite now).startOn now off p causeRollback false
  b.cond (b.stopped p) (fun b => b.rollNext now off)

/-- A processor runs an image whose activation is not complete (R282). -/
def Block.onTrial (b : Block) (p : Nat) : Bool := (b.rollout == rollActivating || b.rollout == rollCopying) && (b.proc p).imageB

/-- A processor restarts for a cause: on its own image, or on slot A when it runs an image that is being activated. -/
def Block.restart (b : Block) (now off p cause : Nat) : Block :=
  let b := b.causeFault off p cause
  if b.onTrial p = true ∧ cause ≠ causeUpdate then b.rollBackFrom now off p
  else b.beginRestart now off p cause

/-! ### Compartments (R266 to R268) -/

/-- A compartment breaks a region: it is stopped and reinitialised; the kernel's violation is a trap, and too many restart the
processor. -/
def Block.violation (b : Block) (now off p comp : Nat) : Block :=
  if comp = 0 then b.restart now off p causeTrap
  else
    let q := b.proc p
    let ticks := now :: q.compTicks.filter (fun t => decide (now < t + 4096))
    let b := b.fault 7 (procField p) (p * 256 + comp) off
    let b := (b.enterComp p 0).modProc p (fun q => { q with
      compFaults := lowBits 32 (q.compFaults + 1), lastComp := comp, compTicks := ticks, compDown := mput 0 q.compDown comp (now + 25) })
    b.cond (decide (b.rd HUB_FW.COMP_LIMIT 0 < ticks.length)) (fun b => b.restart now off p causeComponent)

/-- A compartment is restarting at tick `now`. -/
def Proc.down (q : Proc) (now comp : Nat) : Bool := decide (now < mget 0 q.compDown comp)

/-- MPU_VIOLATION (R268). -/
def execMpuViolation (p : ProcNo) (comp : Byte) (sc : ScOff) (s : State) : Host.Outcome State Fault Refusal :=
  onB s (fun now b => b.cond ((b.proc p).st == 0 && decide (comp.toNat ≤ compCount p)) (fun b => b.violation now sc p comp.toNat))

/-- GATE_CALL: GATE_DOWN, GATE_FAULT, a violation of the caller, or a call that passes the argument words under the callee's stack limit
and returns (R267). The gate table is that of the processor's image; the caller's regions are in force again after the call (R266). -/
def execGateCall (p : ProcNo) (caller gate : Byte) (args : List Word) (violates : Bool) (sc : ScOff) (s : State) :
    Host.Outcome State Fault Refusal :=
  onB s (fun now b =>
    let q := b.proc p
    let sec := b.secOf p
    let g := gate.toNat
    let callee := Config.gateCallee sec g
    let put (v : Nat) (b : Block) : Block := (b.modProc p (fun q => { q with gate := v })).enterComp p caller.toNat
    let passed := (callee, Config.gateEntry sec g, args.map (fun a => a.toNat), Config.gateStack sec g)
    if q.st ≠ 0 ∨ compCount p < caller.toNat then b
    else if Config.gateCount sec ≤ g ∨ 4 < args.length ∨ Config.gateArgs sec g < args.length then
      b.violation now sc p caller.toNat
    else if q.down now callee then put 1 b
    else
      let b := b.modProc p (fun q => { q with call := passed })
      if violates then
        let b := b.violation now sc p callee
        b.cond ((b.proc p).st == 0) (put 2)
      else put 3 b)

/-- PROCESSOR_TRAP: an illegal instruction, a bus error or an uncorrectable error in code or data (R269). -/
def execProcessorTrap (p : ProcNo) (uncorrectable : Bool) (sc : ScOff) (s : State) : Host.Outcome State Fault Refusal :=
  onB s (fun now b => b.cond ((b.proc p).st == 0)
    (fun b => b.restart now sc p (if uncorrectable then causeSram else causeTrap)))

/-- WATCHDOG_EXPIRY: WDT_TICKS ticks have passed without a kick; `i.kick` is the tick of the kernel's last one, which nothing but the
kernel makes (R270). (DESIGN CHOICE, log entry 153.) -/
def execWatchdogExpiry (p : ProcNo) (i : WatchIn) (s : State) : Host.Outcome State Fault Refusal :=
  onB s (fun now b =>
    let last := max (b.proc p).kick i.kick.toNat
    if (b.proc p).st ≠ 0 ∨ now < i.kick.toNat then b
    else if now < last + b.rd HUB_FW.WDT_TICKS 0 then b.modProc p (fun q => { q with kick := last })
    else b.restart now i.sc p causeWatchdog)

/-! ### The start of a restart (R272 to R274) -/

/-- A restart is under way. -/
def Proc.restarting (q : Proc) : Bool := q.st == 1 || q.st == 2

/-- The cause of the restart becomes IMAGE_CHECK. -/
def Block.imageBad (b : Block) (now off p : Nat) : Block :=
  let b := (b.causeFault off p causeImage).modProc p (fun q => { q with cause := causeImage })
  b.cond (b.onTrial p) (fun b => b.rollBackFrom now off p)

/-- IMAGE_CHECK: the loader's part of a restart. The data region is zeroed; a processor that starts on another image gets its section;
otherwise the code region is hashed, and with another digest than the image's the section is reloaded and the cause becomes IMAGE_CHECK
(R265, R272). -/
def execImageCheck (p : ProcNo) (sc : ScOff) (s : State) : Host.Outcome State Fault Refusal :=
  let q := s.b.proc p
  if !q.restarting || q.loaded then .next s
  else
    let img := s.b.imgOf p
    let mem := zeroData img s.mem p
    let b := s.b.modProc p (fun q => { q with loaded := true })
    if q.newImage then .next { s with mem := placeSection img mem p, b := b }
    else if Config.sha384 (codeBytes img mem p) = secDigest img (classSection p) then .next { s with mem := mem, b := b }
    else .next { s with mem := placeSection img mem p, b := b.imageBad s.tick sc p }

/-- Survey cycles from the cause of the latest restart, in µs, truncated and saturating. -/
def Proc.usSince (q : Proc) (now off : Nat) : Nat := min 65535 ((now * 2048 + off - (q.causeTick * 2048 + q.causeSc)) / 1000)

/-- A field processor that runs another image than before replaces the default model of slot 0 (R56). -/
def Block.newModel (b : Block) (now p : Nat) : Block :=
  b.cond ((b.proc p).newImage && decide (p < 84)) (fun b => b.loadDefault now p (Config.defaultModel (b.secOf p)))

/-- PROCESSOR_RUN: the loader has done its part and the kernel has rebuilt its state (R272, R275, R276). -/
def execProcessorRun (p : ProcNo) (sc : ScOff) (s : State) : Host.Outcome State Fault Refusal :=
  onB s (fun now b =>
    if !(b.proc p).restarting || !(b.proc p).loaded then b
    else
      let b := ((b.newModel now p).modProc p (fun q => { q with
        st := 0, failedStarts := 0, runTick := some now, lastUs := q.usSince now sc, newImage := false, kick := now })).enterComp p 0
      let b := (b.cond (p.val == 84) (fun b => b.drainHeld now sc)).cond (p.val == 85) (fun b => b.monStart)
      b.cond (b.rollout == rollBack && b.rd HUB_FW.ROLL_NEXT 0 == p.val) (fun b => b.rollNext now sc))

/-- Processors that a command in flight needs (Table 16.3). -/
def flightProcs (fl : Flight) : List Nat :=
  let fset (k : Nat) : List Nat := allFields.filter (fun f => (fl.args.getD (k + f / 32) 0).testBit (f % 32))
  (ownerProc fl.op).toList ++ (match fl.op with
    | 0x68 => [fl.args.getD 0 0 % 128]
    | _ => match fsetAt fl.op with
      | some k => fset k
      | none => [])

/-- Commands that wait for a processor complete BUSY when its hold timer expires (R277). (DEDUCED, log entry 86.) -/
def Block.busyHeld (b : Block) (now p : Nat) : Block :=
  b.each [0, 1, 2] (fun b pt => match (b.port pt).flight with
    | some fl => b.cond (!fl.begun && (flightProcs fl).contains p) (fun b => b.stop now pt stBusy (busyName p))
    | none => b)

/-- HOLD_EXPIRED: the hold timer has reached 0 before RUN (R273). -/
def execHoldExpired (p : ProcNo) (s : State) : Host.Outcome State Fault Refusal :=
  onB s (fun now b =>
    let q := b.proc p
    if !(q.holdOn && q.hold == 0 && (q.st == 1 || (q.st == 3 && !q.safe))) then b
    else
      let b := (b.fault 6 (procField p) p 0).inc HUB_FW.EXPIRED 0
      let b := b.modProc p (fun q => { q with st := if q.st = 1 then 2 else q.st, safe := true })
      let b := b.busyHeld now p
      b.cond (b.onTrial p) (fun b => b.rollBackFrom now 0 p))

/-- START_FAIL: the start begins again, and the fourth in a row leaves the processor STOPPED (R274). -/
def execStartFail (p : ProcNo) (s : State) : Host.Outcome State Fault Refusal :=
  onB s (fun now b => b.cond (b.proc p).restarting (fun b =>
    let b := b.modProc p (fun q => { q with failedStarts := q.failedStarts + 1, st := if 4 ≤ q.failedStarts + 1 then 3 else q.st })
    b.cond (b.stopped p && b.rollout == rollBack && b.rd HUB_FW.ROLL_NEXT 0 == p.val) (fun b => b.rollNext now 0)))

/-! ### FW_STAGE (R279, R280) -/

/-- A section lies within the image and its processors' region, its last word is 0, and its digest matches. -/
def secOk (img : List Nat) (k : Nat) : Bool :=
  decide (0x200 ≤ secOff img k) && decide (secOff img k + secLen img k ≤ img.length - 96) &&
  decide (secLoad img k + secLen img k ≤ if k = 3 then 192 * 1024 else 512 * 1024) && fieldAt img (0x2C + 64 * k) 4 == 0 &&
  Config.sha384 (secBytes img k) == secDigest img k

/-- The key that an image is checked against: the fused firmware key, or the fused debug key. -/
def Block.imageKey (b : Block) (img : List Nat) : Option (List Nat) := if imgDebug img then b.nv.debugKey else b.nv.fwKey

/-- Layout, signature and digests of Table 12.7. -/
def Block.imageSound (b : Block) (img : List Nat) : Bool :=
  let len := fieldAt img 0x10 4
  fieldAt img 0 4 == 0x49574757 && fieldAt img 4 2 == 1 && fieldAt img 6 2 / 2 == 0 && len % 4 == 0 && len == img.length &&
  decide (len ≤ 8 * 1024 * 1024) && decide (0x200 + 96 ≤ len) && (sliceAt img 0x14 12).all (· == 0) && (sliceAt img 0x120 224).all (· == 0) &&
  (List.range 4).all (secOk img) && (match b.imageKey img with
    | some key => Config.ecdsaOk key (img.take (len - 96)) (img.drop (len - 96))
    | none => false)

/-- What H2 checks of a staged image: R279, and that its SVN is not below the fused minimum (R280). -/
def Block.imageOk (b : Block) (img : List Nat) : Bool := b.imageSound img && decide (b.nv.fusedSvn ≤ imgSvn img)

/-- What the boot ROM checks of the image in a slot; a debug-signed one is accepted in MANUFACTURE and RETURN only (R279, R350). -/
def Block.bootable (b : Block) (img : List Nat) : Bool :=
  b.imageSound img && (!imgDebug img || b.nv.lifecycle == 1 || b.nv.lifecycle == 3)

/-- Slot B takes an image, or is marked invalid, and the command completes (R280). (DEDUCED, log entry 83.) -/
def Block.stageImage (b : Block) (now pt : Nat) (img : List Nat) (ifaceNew : Bool) : Block :=
  let ver := imgVer img
  let svn := imgSvn img
  let known := imgIface img == imgIface b.mon.inForce
  let b := (b.accept now pt []).modMon (fun m => { m with imgB := img })
  if b.imageOk img && (known || ifaceNew) then
    let b := ((b.wr HUB_FW.SLOT_B_VALID 0 1).wr HUB_FW.ROLLOUT 0 rollStaged).wr HUB_FW.STAGED_VER 0 ver
    (b.wr HUB_FW.STAGED_SVN 0 svn).done now pt [ver, svn]
  else ((b.wr HUB_FW.SLOT_B_VALID 0 0).wr HUB_FW.ROLLOUT 0 rollIdle).stop now pt stBadArg (badArgDetail 1 0)

/-- The image that a FW_STAGE brings so far: the pieces staged by its port and its own. -/
def stageSoFar (s : State) (c : Cmd) : List Nat :=
  (if c.area then s.b.staged (portNo c.port) 0x70 0 else []) ++ readBuf s c 0

/-- A debug-signed image is accepted in MANUFACTURE and RETURN only (R279). -/
def stageDenied (s : State) (c : Cmd) : Option Nat :=
  let lc := s.b.nv.lifecycle
  if c.bufOk 0 && imgDebug (stageSoFar s c) && lc != 1 && lc != 3 then some lc else none

/-- FW_STAGE (R279, R280, R285, R380). (DEDUCED, log entry 83.) -/
def execFwStage (c : Cmd) (s : State) : Host.Outcome State Fault Refusal :=
  .next (runCmd 0x70 c s (stageDenied s c) (fun pt s =>
    let now := s.tick
    let b := s.b
    if b.activating || b.stagedElsewhere pt 0x70 0 then { s with b := b.stop now pt stBusy 0 }
    else match b.bufCheck c 0 0 with
      | some r => { s with b := b.stop now pt r.1 r.2 }
      | none =>
        if !c.area then { s with b := b.stageImage now pt (readBuf s c 0) (c.opt 0) }
        else if c.arg 3 ≠ (b.staged pt 0x70 0).length then
          { s with b := (b.unstage pt 0x70 0).stop now pt stBadArg (badArgDetail 4 0) }
        else
          let piece := readBuf s c 0
          let b := (b.stage pt 0x70 0 [] piece).wr HUB_FW.ROLLOUT 0 rollStaging
          if c.opt 6 then { s with b := (b.unstage pt 0x70 0).stageImage now pt (b.staged pt 0x70 0) (c.opt 0) }
          else { s with b := b.done now pt [] }))

/-! ### FW_ACTIVATE, FW_RESTART (R281 to R285) -/

/-- A FW_RESTART is under way. -/
def Block.restartsRun (b : Block) : Bool := [0, 1, 2].any (fun pt => match b.waitOf pt with
  | .restarts _ => true
  | _ => false)

/-- One processor starts on the image in slot B (R281). (DEDUCED, log entry 84.) -/
def Block.startOnB (b : Block) (now off p : Nat) : Block :=
  (b.startOn now off p causeUpdate true).monEvent now off 0x31 (procSource p) ([p, 0, 0, 0] ++ leBytes 4 (imgVer b.mon.imgB))

/-- The next step of an activation: one processor, or all fields together under IFACE_NEW; after the last one the copy (R281). A STOPPED
processor is passed over (R274). (DEDUCED, log entry 154.) -/
def Block.activateNext (b : Block) (now off : Nat) : Block :=
  let l := b.hub.order
  let b := b.each (l.takeWhile b.stopped) (fun b p => b.setImage p true)
  match l.dropWhile b.stopped with
  | [] => (b.modHub (fun h => { h with order := [] })).wr HUB_FW.ROLLOUT 0 rollCopying
  | p :: rest =>
    let batch := if b.ifaceNew && decide (p < 84) then p :: rest.filter (fun k => decide (k < 84)) else [p]
    let b := (b.modHub (fun h => { h with order := rest.filter (fun k => !batch.contains k) })).wr HUB_FW.ROLL_NEXT 0 p
    b.each batch (fun b k => b.startOnB now off k)

/-- FW_ACTIVATE. -/
def execFwActivate (c : Cmd) (s : State) : Host.Outcome State Fault Refusal :=
  .next (runCmdB 0x71 c s none (fun now pt b =>
    if b.activating || b.restartsRun then b.stop now pt stBusy 0
    else if !b.bit HUB_FW.SLOT_B_VALID 0 then b.stop now pt stStateReject b.mgr
    else
      let b := ((b.accept now pt []).await pt .activation).wr HUB_FW.ROLLOUT 0 rollActivating
      let b := ((b.wr HUB_FW.BOOT_SLOT 0 1).modMon (fun m => { m with bootSlotB := true })).headerWrite now
      let b := b.modHub (fun h => { h with order := activationOrder, ratchet := c.opt 0, rollField := false })
      let b := b.cond b.ifaceNew (fun b =>
        ((b.modHub (fun h => { h with haltWanted := if h.haltWanted = some 4 then some 4 else some 2 })).wr HUB_FAULT.RESTART_PENDING 0 1).modPins
          (fun p => { p with jobRestartReq := true }))
      b.activateNext now c.sc))

/-- The processor has run PROBATION ticks in RUN (R281). -/
def Block.probationOver (b : Block) (now p : Nat) : Bool :=
  (b.proc p).st == 0 && (match (b.proc p).runTick with
    | some t => decide (t + b.rd HUB_FW.PROBATION 0 ≤ now)
    | none => false)

/-- The restarts of FW_RESTART go on after a probation (R284). -/
def Block.nextRestart (b : Block) (now p : Nat) : Block :=
  b.each [0, 1, 2] (fun b pt => match b.waitOf pt with
    | .restarts (k :: rest) =>
      if k ≠ p then b
      else match rest with
        | [] => b.done now pt []
        | n :: _ => (b.await pt (.restarts rest)).restart now 0 n causeCommand
    | _ => b)

/-- PROBATION_END: the next step of an activation, or of FW_RESTART (R281, R284). -/
def execProbationEnd (p : ProcNo) (s : State) : Host.Outcome State Fault Refusal :=
  onB s (fun now b =>
    let isOver := b.probationOver now p && (!(b.ifaceNew && b.rollout == rollActivating && decide (p.val < 84)) ||
      allFields.all (fun f => b.probationOver now f || b.stopped f))
    if !isOver then b
    else if b.rollout = rollActivating then b.cond (b.rd HUB_FW.ROLL_NEXT 0 == p.val) (fun b => b.activateNext now 0)
    else b.nextRestart now p)

/-- SLOT_COPY_DONE: slot A holds the image, and FW_ACTIVATE completes DONE (R283). (DEDUCED, log entry 84.) -/
def execSlotCopyDone (s : State) : Host.Outcome State Fault Refusal :=
  onB s (fun now b =>
    if b.rollout ≠ rollCopying then b
    else
      let img := b.mon.imgB
      let b := b.modMon (fun m => { m with bootSlotB := false, imgA := m.imgB, forceB := false })
      let b := ((b.wr HUB_FW.ROLLOUT 0 rollIdle).wr HUB_FW.BOOT_SLOT 0 0).wr HUB_FW.ACTIVE_VER 0 (imgVer img)
      let b := b.wr HUB_FW.ACTIVE_SVN 0 (imgSvn img)
      let b := b.each (List.range 87) (fun b p => b.cond (b.proc p).imageB (fun b => b.modProc p (fun q => { q with imageB := false })))
      let b := b.headerWrite now
      let b := b.cond b.hub.ratchet (fun b =>
        let svn := max b.nv.fusedSvn (imgSvn img)
        (b.modNv (fun n => { n with fusedSvn := svn })).wr HUB_FW.FUSED_SVN 0 svn)
      (b.extend now 7 (Config.sha384 (img.take 0x200))).completeWhere now (fun w => if w = .activation then some (stDone, 0, [0xFF]) else none))

/-- FW_RESTART. -/
def execFwRestart (c : Cmd) (s : State) : Host.Outcome State Fault Refusal :=
  .next (runCmdB 0x72 c s none (fun now pt b =>
    let a := c.arg 0
    let l := if a = 0xFF then activationOrder else [a]
    if 86 < a ∧ a ≠ 0xFF then b.stop now pt stBadArg (badArgDetail 1 0)
    else if b.activating || b.restartsRun then b.stop now pt stBusy 0
    else ((b.accept now pt []).await pt (.restarts l)).restart now c.sc (l.headD 0) causeCommand))

/-! ### QUOTE (R287, R288) -/

/-- Bytes 0x000 to 0x1FF of a quote (Table 12.8). -/
def Block.quoteBody (b : Block) (now : Nat) (nonce : List Nat) : List Nat :=
  leBytes 4 0x51574757 ++ leBytes 2 1 ++ [b.nv.lifecycle, 0] ++ leBytes 4 b.nv.waferId ++ leBytes 6 now ++ List.replicate 14 0 ++
  sliceAt nonce 0 32 ++ (List.range 8).flatMap (fun k => leBytes 48 (b.hub.mr.getD k 0)) ++
  (List.range 8).flatMap (fun k => leBytes 4 (b.hub.extends_.getD k 0)) ++ leBytes 4 (b.rd HUB_FW.ACTIVE_VER 0) ++
  leBytes 2 (b.rd HUB_FW.ACTIVE_SVN 0) ++ leBytes 2 b.nv.fusedSvn ++ List.replicate 24 0

/-- QUOTE. -/
def execQuote (c : Cmd) (s : State) : Host.Outcome State Fault Refusal :=
  .next (runCmd 0x78 c s none (fun pt s =>
    let now := s.tick
    let b := s.b
    let n := c.arg 0
    if 32 < n then { s with b := b.stop now pt stBadArg (badArgDetail 1 0) }
    else match b.hub.attKey with
    | none => { s with b := b.stop now pt stStateReject b.mgr }
    | some key => match b.bufCheck c 9 608 with
      | some r => { s with b := b.stop now pt r.1 r.2 }
      | none =>
        let nonce := ((List.range 8).flatMap (fun k => leBytes 4 (c.arg (1 + k)))).take n
        let body := b.quoteBody now nonce
        let s := writeBuf s c 9 (body ++ sliceAt (Config.attSign key body) 0 96)
        { s with b := s.b.done now pt [b.rd HUB_FW.ATT_KEY_ID 0] }))

end Sys2Proof.Machine
end

