-- ==== Sys2Proof/Machine/Monument.lean ====
section
/-!
DEFINITION. The monument flash: what a finished program, erase or timeout does, token refill, reading records back, the
first-N region, and the hold-up sequence (R306 to R319, R369 to R371).
-/

namespace Sys2Proof.Machine

open Sys2Proof

/-! ### Regions (R307, R312, R313, R315) -/

/-- Byte address and size of the regions of Table 13.5. -/
def flashHeader (copyB : Bool) : Nat := if copyB then 0x10000 else 0
def flashFirst : Nat := 0x20000
def flashShutdown : Nat := 0x30000
def flashMirror : Nat := 0x34000
def flashFault (f k : Nat) : Nat := 0x40000 + (4 * f + k) * 4096
def flashConfig (copyB : Bool) : Nat := 0x200000 + (if copyB then 0x80000 else 0)
def flashCal (copyB : Bool) : Nat := 0x300000 + (if copyB then 0x80000 else 0)
def flashSlot (slotB : Bool) : Nat := if slotB then 0xC00000 else 0x400000
def flashPool : Nat := 0x1400000

/-- Pool blocks that are not bad, in the order of writing from the block that holds or takes the next record. -/
def Monument.blocks (m : Monument) : List Nat :=
  ((List.range 256).map (fun k => (m.writePos / 1024 + k) % 256)).filter (fun k => !m.badBlocks.contains k)

/-- The pool block that the next pool erase clears. -/
def Monument.eraseTarget (m : Monument) : Nat :=
  m.blocks.getD (m.ahead + (if m.writePos % 1024 = 0 then 0 else 1)) 0

/-- The write position moves by one record; bad blocks are skipped. -/
def Monument.advance (m : Monument) : Monument :=
  let fresh := m.writePos % 1024 = 0
  let next := (m.writePos + 1) % (256 * 1024)
  let m := { m with ahead := if fresh then m.ahead - 1 else m.ahead, writePos := next }
  if next % 1024 = 0 then { m with writePos := 1024 * m.blocks.headD (next / 1024) } else m

/-- Keep two erased pool blocks ahead (R313). -/
def Monument.keepAhead (m : Monument) : Monument := if m.ahead < 2 then m.wantErase 1 else m

/-- An event record takes its places (Table 13.5). -/
def Monument.putEvent (m : Monument) (first : Bool) (r : MonRec) : Monument :=
  { m with
    pool := ({ r with addr := flashPool + 64 * m.writePos } :: m.pool).take 8192
    firstN := if first then { r with addr := flashFirst + 64 * m.firstN.length } :: m.firstN else m.firstN }

/-- An event record is in the pool, and in the first-N region while that has room; the write position moves (R312).
(DEDUCED, log entry 89.) -/
def Monument.storeEvent (m : Monument) (r : MonRec) : Monument :=
  let first := decide (m.firstN.length < 1024)
  (m.putEvent first { r with flags := if first then r.flags ||| 1 else r.flags }).advance

/-- A programmed event record is counted, and a header is due after every 1,024 of them (R308). -/
def Block.storeEvent (b : Block) (now : Nat) (r : MonRec) : Block :=
  let b := b.modMon (fun m => (m.storeEvent r).keepAhead)
  let b := b.inc HUB_MONUMENT.EVT_WRITTEN 0
  b.cond (b.mon.writePos % 1024 == 0) (fun b => b.headerWrite now)

/-- A shutdown record is in its region; the next sector is erased once 32 of the present one are used (R315).
(DEDUCED, log entry 94.) -/
def Monument.storeShutdown (m : Monument) (r : MonRec) : Monument :=
  let r := { (if m.acked then r.acked else r) with addr := flashShutdown + 64 * (m.shutPos % 256) }
  let m := { m with shutdowns := (r :: m.shutdowns).take 256, shutPos := m.shutPos + 1 }
  if m.shutPos % 64 = 32 then m.wantErase 2 else m

/-- A last-fault record is in its field's slot, and the slot of the oldest is erased (R315). -/
def Monument.storeLastFault (m : Monument) (r : MonRec) : Monument :=
  let n := mget 0 m.lfPos r.source
  { m with
    lastFaults := (r.source, { r with addr := flashFault r.source (n % 4) }) :: m.lastFaults
    lfPos := mput 0 m.lfPos r.source (n + 1) }.wantErase (100 + r.source)

/-- A mirror entry is in its region; the next sector is erased once the present one is half full (R315). -/
def Monument.storeMirror (m : Monument) (r : MonRec) : Monument :=
  let m := { m with mirror := ({ r with addr := flashMirror + 32 * (m.mirrorPos % 512) } :: m.mirror).take 512, mirrorPos := m.mirrorPos + 1 }
  if m.mirrorPos % 128 = 64 then m.wantErase 4 else m

/-- A header record is in the copy that did not hold the newest (R308). -/
def Monument.storeHeader (m : Monument) (r : MonRec) : Monument :=
  if m.headerToB then
    { m with hdrB := { r with addr := flashHeader true + 256 * m.hdrB.length } :: m.hdrB }
  else { m with hdrA := { r with addr := flashHeader false + 256 * m.hdrA.length } :: m.hdrA }

/-- HDR_VALID_A and HDR_VALID_B. -/
def Block.showHeaders (b : Block) : Block :=
  (b.wr HUB_MONUMENT.HDR_VALID_A 0 (b.mon.hdrA.any (fun r => r.whole)).toNat).wr HUB_MONUMENT.HDR_VALID_B 0
    (b.mon.hdrB.any (fun r => r.whole)).toNat

/-- The copy that takes the next header is erased when it is full; the other one holds a newer valid record (R308). -/
def Monument.keepHeader (m : Monument) : Monument :=
  if m.headerToB then (if m.hdrB.length = 256 then m.wantErase 7 else m)
  else if m.hdrA.length = 256 then m.wantErase 6
  else m

/-- The header in force: the record with the highest sequence number whose CRC passes (R308). -/
def Monument.header (m : Monument) : Option MonRec :=
  ((m.hdrA ++ m.hdrB).filter (fun r => r.whole)).foldl (fun a r => match a with
    | none => some r
    | some x => if x.seqNo < r.seqNo then some r else a) none

/-- A store is in the copy that is not the valid one; a whole copy becomes the valid one (R307, R308). -/
def Monument.storeCopy (m : Monument) (cal whole : Bool) (n : Nonvol) : Monument :=
  if cal then { m with cals := m.cals.set (!m.calB).toNat (n.calStore, whole), calB := if whole then !m.calB else m.calB }
  else { m with configs := m.configs.set (!m.configB).toNat (n.config, whole), configB := if whole then !m.configB else m.configB }

/-- A programmed record takes its place. -/
def Block.storeRecord (b : Block) (now : Nat) (r : MonRec) : Block :=
  match r.tier with
  | 1 => b.modMon (fun m => m.storeShutdown r)
  | 2 => b.modMon (fun m => m.storeLastFault r)
  | 3 => b.storeEvent now r
  | 4 => ((b.modMon (fun m => m.storeMirror r)).inc HUB_JOURNAL.MIRROR_WR 0).wr HUB_JOURNAL.LAST_MIRRORED 0 r.seqNo
  | _ =>
    if r.code = 0 then (b.modMon (fun m => (m.storeHeader r).keepHeader)).showHeaders
    else (b.modMon (fun m => m.storeCopy (r.code == 2) true b.nv)).headerWrite now

/-! ### The end of a program or erase (R316, R317) -/

/-- No shutdown or last-fault record waits, but for one that needs an erase itself. -/
def Monument.upperEmpty (m : Monument) : Bool := m.queue.all (fun r => decide (2 < r.tier) || !m.hasSlot r)

/-- A suspended erase resumes once tiers 1 and 2 are empty, unless hold-up keeps it suspended. -/
def Block.resumeErase (b : Block) : Block :=
  b.cond (b.mon.suspended && !b.mon.noErase && b.mon.upperEmpty && b.mon.busy.isNone)
    (fun b => b.modMon (fun m => { m with suspended := false }))

/-- The controller is free again. -/
def Block.monNext (b : Block) : Block := b.resumeErase.monStart

/-- A NOR_IO event (R317). -/
def Block.norError (b : Block) (detail : Nat) : Block := (b.inc HUB_MONUMENT.NOR_ERRS 0).fault 2 255 detail 0

/-- A program fails: it is retried once at the next erased position, which for an event record is the pool's next.
(DEDUCED, log entry 90.) -/
def Block.programFail (b : Block) (detail : Nat) : Block :=
  match b.mon.busy with
  | none => b
  | some r =>
    let b := (b.norError detail).modMon (fun m => if r.tier = 3 then m.advance.keepAhead else m)
    if b.mon.retry then (b.modMon (fun m => { m with busy := none, retry := false })).monNext
    else b.modMon (fun m => { m with retry := true })

/-- MONUMENT_PROGRAM_DONE (R316, R317). (DEDUCED, log entry 89.) -/
def execMonumentProgramDone (ok : Bool) (s : State) : Host.Outcome State Fault Refusal :=
  onB s (fun now b => match b.mon.busy with
    | none => b
    | some r =>
      if !ok then b.programFail 1
      else ((b.modMon (fun m => { m with busy := none, retry := false })).storeRecord now r).monNext)

/-- An erase is done: the region it cleared is blank. -/
def Monument.erased (m : Monument) : Monument :=
  let k := m.erasing
  let m := { m with erasing := 0, suspended := false }
  if k = 1 then
    let t := m.eraseTarget
    ({ m with blockErases := mmod 0 m.blockErases t (· + 1), ahead := m.ahead + 1, notBlank := false }).keepAhead
  else if k = 2 then { m with shutdowns := m.shutdowns.take (m.shutPos % 64 + 128) }
  else if k = 4 then { m with mirror := m.mirror.take (m.mirrorPos % 128 + 256) }
  else if k = 6 then { m with hdrA := [] }
  else if k = 7 then { m with hdrB := [] }
  else if 100 ≤ k then { m with lastFaults := m.lastFaults.filter (fun e => e.1 != k - 100 || ((m.faultsOf (k - 100)).take 3).contains e) }
  else m

/-- An erase fails: a pool block is marked bad in the header, another region stays in use (R317). -/
def Block.eraseFailed (b : Block) (now detail : Nat) : Block :=
  let pool := b.mon.erasing = 1
  let b := (b.norError detail).modMon (fun m => { m with erasing := 0, suspended := false })
  if pool then (b.modMon (fun m => ({ m with badBlocks := m.eraseTarget :: m.badBlocks }).keepAhead)).headerWrite now else b

/-- MONUMENT_ERASE_DONE (R313, R315, R317). -/
def execMonumentEraseDone (ok : Bool) (s : State) : Host.Outcome State Fault Refusal :=
  onB s (fun now b =>
    if b.mon.erasing = 0 ∨ b.mon.suspended = true then b
    else if ok then ((b.modMon Monument.erased).inc HUB_MONUMENT.ERASES 0).monNext
    else (b.eraseFailed now 2).monNext)

/-- NOR_TIMEOUT: a program or erase has not completed within twice its SFDP maximum, and counts as failed (R317). -/
def execNorTimeout (erase : Bool) (s : State) : Host.Outcome State Fault Refusal :=
  onB s (fun now b =>
    if !erase then b.programFail 3
    else if b.mon.erasing = 0 ∨ b.mon.suspended = true then b
    else (b.eraseFailed now 3).monNext)

/-- ERASE_SUSPEND: for a queued shutdown or last-fault record, or for hold-up, which does not resume it (R316, R318). -/
def execEraseSuspend (s : State) : Host.Outcome State Fault Refusal :=
  onB s (fun _ b =>
    if b.mon.erasing = 0 ∨ b.mon.suspended = true ∨ (b.mon.upperEmpty = true ∧ b.holdup = false) then b
    else (b.modMon (fun m => { m with suspended := true, noErase := b.holdup })).monStart)

/-- TOKEN_REFILL: one token each 1,024 ticks for every event code, and each 512 ticks for the wafer, once at such a tick (R314). -/
def execTokenRefill (s : State) : Host.Outcome State Fault Refusal :=
  onB s (fun now b =>
    if now % 512 ≠ 0 ∨ b.mon.refillTick = now then b
    else
      let b := b.modMon (fun m => { m with refillTick := now, waferTokens := min 64 (m.waferTokens + 1) })
      b.cond (now % 1024 == 0) (fun b => b.modMon (fun m => { m with
        tokens := (keysOf m.tokens).foldl (fun t k => mput 8 t k (min 8 (mget 8 t k + 1))) m.tokens })))

/-! ### Reading back (R309, R311, R319) -/

/-- The 64 bytes of an event record (Table 13.6). -/
def MonRec.eventBytes (r : MonRec) : List Nat :=
  let body := leBytes 2 r.code ++ [1, r.flags] ++ leBytes 6 r.tick ++ leBytes 2 r.offset ++ leBytes 4 r.seqNo ++
    leBytes 2 r.source ++ leBytes 2 r.suppressed ++ leBytes 4 r.boot ++ sliceAt r.data 0 36
  body ++ leBytes 4 (crc32c body)

/-- The bytes of a record as its region stores it. -/
def MonRec.bytes (r : MonRec) : List Nat := if r.tier = 3 then r.eventBytes else r.data

/-- Put a record before the first that is older. -/
def insertByTick (r : MonRec) : List MonRec → List MonRec
  | [] => [r]
  | x :: l => if x.tick ≤ r.tick then r :: x :: l else x :: insertByTick r l

/-- Records of a region, newest first (Table 13.5). -/
def Monument.region (m : Monument) (code : Nat) : List MonRec :=
  match code with
  | 1 => m.firstN
  | 2 => m.pool
  | 3 => m.shutdowns
  | 4 => (m.lastFaults.map Prod.snd).foldr insertByTick []
  | 5 => m.mirror.take 256
  | _ => []

/-- Bytes of one record of a region. -/
def recSize (code : Nat) : Nat :=
  match code with
  | 4 => 128
  | 5 => 32
  | _ => 64

/-- The first `n` whole records of a list, and how many broken ones were passed on the way. (DEDUCED, log entry 95.) -/
def takeWhole : Nat → List MonRec → List MonRec × Nat
  | 0, _ => ([], 0)
  | _, [] => ([], 0)
  | n + 1, r :: l =>
    if r.whole then
      let x := takeWhole n l
      (r :: x.1, x.2)
    else
      let x := takeWhole (n + 1) l
      (x.1, x.2 + 1)

/-- `n` records whose CRC failed are passed in a read of region `code` (R311). -/
def Block.crcSkipped (b : Block) (code n : Nat) : Block :=
  b.each (List.range n) (fun b _ => (b.inc HUB_MONUMENT.CRC_SKIPPED 0).fault 3 255 code 0)

/-- RECORD_READ (R319). (DEDUCED, log entry 95.) -/
def execRecordRead (c : Cmd) (s : State) : Host.Outcome State Fault Refusal :=
  .next (runCmd 0x88 c s none (fun pt s =>
    let now := s.tick
    let b := s.b
    let code := c.arg 0 % 8
    if code = 0 ∨ 5 < code then { s with b := b.stop now pt stBadArg (badArgDetail 1 0) }
    else match b.bufCheck c 3 0 with
      | some r => { s with b := b.stop now pt r.1 r.2 }
      | none =>
        let got := takeWhole (min (c.arg 2) (c.bufLen 3 / recSize code)) ((b.mon.region code).drop (c.arg 1))
        let s := writeBuf s c 3 (got.1.flatMap MonRec.bytes)
        { s with b := (s.b.crcSkipped code got.2).done now pt [got.1.length, got.2] }))

/-- FIRST_REGION_CLEAR (R312). (DEDUCED, log entry 91.) -/
def execFirstRegionClear (c : Cmd) (s : State) : Host.Outcome State Fault Refusal :=
  let lc := s.b.nv.lifecycle
  .next (runCmdB 0x89 c s (if lc = 1 ∨ lc = 3 then none else some lc) (fun now pt b =>
    let b := (b.modMon (fun m => { m with firstN := [] })).inc HUB_MONUMENT.ERASES 0
    ((b.headerWrite now).monEventAt true now c.sc 0x43 srcHub [lc]).done now pt []))

/-! ### Hold-up and loss of input power (R318, R370, R371) -/

/-- PWR_FAIL_N_ASSERT: tick P, or a new P when the pin is asserted again while the sequence runs (R371). No soft start goes on, and event
0x42 leads the event records (Table 13.8). (DEDUCED, log entry 96.) -/
def execPwrFailNAssert (s : State) : Host.Outcome State Fault Refusal :=
  onB s (fun now b =>
    if b.holdup && !b.hub.pfAgain then b
    else
      let waiting := b.mon.queue.length + b.mon.busy.isSome.toNat
      let b := (b.modHub (fun h => { h with pfSince := some now, pfClear := 0, pfPin := true, pfAgain := false })).wr HUB_MONUMENT.HOLDUP_TICK 0 now
      let b := b.monEventAt true now 0 0x42 srcHub (leBytes 4 waiting)
      b.each (allFields.filter (fun f => (b.rail (railOf f 0)).run == 1)) (fun b f => b.softStop now f 7))

/-- PWR_FAIL_STOP: the tick mark of P + 1,465 with PWR_FAIL_N still asserted; every regulating field stops (R370).
(DEDUCED, log entry 96.) -/
def execPwrFailStop (i : Vector LastFaultIn 84) (s : State) : Host.Outcome State Fault Refusal :=
  onB s (fun now b => match b.hub.pfSince with
    | none => b
    | some p =>
      if now ≠ p + 1465 ∨ b.hub.pfPin = false then b
      else
        let l := (List.finRange 84).filter (fun f : Fin 84 => (b.rail (railOf f 0)).run == 2)
        b.each l (fun b (f : Fin 84) => b.vinStop now f.val (i.get f)))

/-- PWR_FAIL_N_DEASSERT: 16 consecutive tick marks without it; the sequence ends, and a suspended erase starts again (R371). -/
def execPwrFailNDeassert (s : State) : Host.Outcome State Fault Refusal :=
  onB s (fun _ b =>
    if !b.holdup || decide (b.hub.pfClear < 16) then b
    else
      let b := b.modHub (fun h => { h with pfSince := none, pfClear := 0, pfAgain := false })
      (b.modMon (fun m => { m with noErase := false, suspended := m.suspended && !m.noErase })).monNext)

end Sys2Proof.Machine
end

