-- ==== Sys2Proof/Machine/Memory.lean ====
section
/-!
DEFINITION. The SRAMs: the error-correcting code, scrub, aliases, spare rows, the march engine and the secure wipe (R321 to
R337, R341).
-/

namespace Sys2Proof.Machine

open Sys2Proof

/-! ### Organisation (R321) -/

/-- Number of a memory: the field, 84 for the hub. -/
def memNo : MemId → Nat
  | .hub => 84
  | .field f => f

/-- Window offset of word 0, and words of a memory. -/
def memBase (k : Nat) : Nat := if k = 84 then 0x1000000 else 0x4000000 + k * 0x80000
def memWords (k : Nat) : Nat := if k = 84 then 262144 else 32768
def memBanks (k : Nat) : Nat := memWords k / 4096

/-- The field number that a memory's faults carry. -/
def memField (k : Nat) : Nat := if k = 84 then 255 else k

/-- HUB_MEM and F_MEM are alike: the page's field, and its instance. -/
def memFld (k : Nat) (h f : Fld) : Fld := if k = 84 then h else f
def memInst (k : Nat) : Nat := if k = 84 then 0 else k

/-! ### The (137,128) code (R322) -/

/-- Bits set in a nine-bit value. -/
def weight9 (n : Nat) : Nat := ((List.range 9).filter (fun i => n.testBit i)).length

/-- Columns of data bits 0 to 127. -/
def dataColumns : List Nat :=
  (List.range 512).filter (fun n => weight9 n == 3) ++ ((List.range 512).filter (fun n => weight9 n == 5)).take 44

/-- Column of each of the 137 bits; check bit j is bit 128 + j. -/
def eccColumns : List Nat := dataColumns ++ (List.range 9).map (fun j => 2 ^ j)

/-- Syndrome of a read whose stored bits differ from a code word in `flips`. -/
def syndrome (flips : Nat) : Nat :=
  (List.zip (List.range 137) eccColumns).foldl (fun s x => if flips.testBit x.1 then s ^^^ x.2 else s) 0

/-- How a syndrome decodes. -/
inductive EccResult where
  | clean | single (bit : Nat) | uncorrectable
  deriving DecidableEq, Repr

def eccDecode (s : Nat) : EccResult :=
  if s = 0 then .clean
  else if weight9 s % 2 = 0 then .uncorrectable
  else match eccColumns.findIdx? (· == s) with
    | some k => .single k
    | none => .uncorrectable

/-! ### Reads and their errors (R323, R327 to R329) -/

/-- An uncorrectable read of word `w`: the address latches, and SRAM_UE is raised when `raise`.
(DESIGN CHOICE, log entry 82.) -/
def Block.ueRead (b : Block) (k w : Nat) (raise : Bool) : Block :=
  let b := b.wr (memFld k HUB_MEM.UE_ADDR F_MEM.UE_ADDR) (memInst k) w
  let b := b.inc (memFld k HUB_MEM.UE_COUNT F_MEM.UE_COUNT) (memInst k)
  b.cond raise (fun b => b.fault 0 (memField k) w 0)

/-- ECC_CE of a memory, errors of ticks not yet counted included. -/
def Block.eccCe (b : Block) (k : Nat) : Nat :=
  if k = 84 then b.rd HUB_COUNTERS.ECC_CE 0 else b.rd F_COUNTERS.ECC_CE k + (b.fu k).ceNow + (b.fu k).cePrev

/-- One corrected error: ECC_CE, the block's count, and SRAM_CE_RATE once a block (R328). -/
def Block.ceCount (b : Block) (k : Nat) : Block :=
  let b := if k = 84 then b.inc HUB_COUNTERS.ECC_CE 0 else b.modFu k (fun u => { u with ceNow := u.ceNow + 1 })
  let blk := memFld k HUB_MEM.CE_BLOCK F_MEM.CE_BLOCK
  let b := b.inc blk (memInst k)
  b.cond (!(b.memSt k).ceRaised && decide (b.rd (memFld k HUB_MEM.CE_LIMIT F_MEM.CE_LIMIT) (memInst k) ≤ b.rd blk (memInst k)))
    (fun b => (b.modMemSt k (fun m => { m with ceRaised := true })).fault 1 (memField k) (b.eccCe k) 0)

/-- A new block of 65,536 ticks begins (R328). -/
def Block.ceBlockStart (b : Block) : Block :=
  b.each (List.range 85) (fun b k =>
    let blk := memFld k HUB_MEM.CE_BLOCK F_MEM.CE_BLOCK
    let b := b.cond (b.rd blk (memInst k) != 0) (fun b => b.wr blk (memInst k) 0)
    b.cond (b.memSt k).ceRaised (fun b => b.modMemSt k (fun m => { m with ceRaised := false })))

/-- Invert bits of the 16 bytes of a word. (DEDUCED, log entry 97.) -/
def flipWord (mem : List Host.Cell) (a mask : Nat) : List Host.Cell :=
  (List.range 16).foldl (fun m j =>
    let x := bitsOf mask (8 * j) 8
    if x = 0 then m else mput 0 m (a + j) (mget 0 m (a + j) ^^^ BitVec.ofNat 8 x)) mem

/-- The next word of a sweep. -/
def Block.scrubNext (b : Block) (k : Nat) : Block :=
  let pos := memFld k HUB_MEM.SCRUB_POS F_MEM.SCRUB_POS
  let i := memInst k
  if b.rd pos i + 1 < memWords k then b.wr pos i (b.rd pos i + 1)
  else ((b.wr pos i 0).inc (memFld k HUB_MEM.SCRUB_SWEEPS F_MEM.SCRUB_SWEEPS) i).modMemSt k (fun m => { m with
    fixedBefore := m.fixedWords, fixedWords := [] })

/-- The scrub has corrected word `w`; the second sweep in a row that does so makes its row due for repair while AUTO_REPAIR is 1
and its bank has a free spare (R329). -/
def Block.noteFixed (b : Block) (k w : Nat) : Block :=
  let row := (w / 4096, w / 8 % 512)
  let free := decide (((b.memSt k).repairs.filter (fun e => e.1 == w / 4096)).length < 4)
  let due := b.bit (memFld k HUB_MEM.AUTO_REPAIR F_MEM.AUTO_REPAIR) (memInst k) && free && (b.memSt k).fixedBefore.contains w
  b.modMemSt k (fun x => { x with
    fixedWords := if x.fixedWords.contains w then x.fixedWords else w :: x.fixedWords
    repairDue := if due && !x.repairDue.contains row then x.repairDue ++ [row] else x.repairDue })

/-- SCRUB_READ: the next word, whose stored 137 bits differ in `flips` from what was written (R322, R323, R327).
(DEDUCED, log entry 97.) -/
def execScrubRead (m : MemId) (flips : BitVec 137) (s : State) : Host.Outcome State Fault Refusal :=
  let k := memNo m
  let w := s.b.rd (memFld k HUB_MEM.SCRUB_POS F_MEM.SCRUB_POS) (memInst k)
  let b := s.b.scrubNext k
  let a := memBase k + 16 * w
  let data := flips.toNat % 2 ^ 128
  match eccDecode (syndrome flips.toNat) with
  | .clean => .next { s with mem := flipWord s.mem a data, b := b }
  | .single bit =>
    let left := data ^^^ (if bit < 128 then 2 ^ bit else 0)
    .next { s with
      mem := flipWord s.mem a left
      b := (b.ceCount k).noteFixed k w }
  | .uncorrectable =>
    let known := (b.memSt k).ueWords.contains w
    .next { s with
      mem := flipWord s.mem a data
      b := (b.ueRead k w (!known)).modMemSt k (fun x => { x with ueWords := if known then x.ueWords else w :: x.ueWords }) }

/-! ### Aliases (R324, R326) -/

/-- Bytes of the lane at byte offset `off` of a memory. -/
def laneAt (mem : List Host.Cell) (a : Nat) : Nat := leNat ((List.range 4).map (fun j => (mget 0 mem (a + j)).toNat))

/-- Is a byte offset of the hub SRAM in the secure region (R337)? (DEDUCED, log entry 98.) -/
def secureOff (k off : Nat) : Bool := k == 84 && decide (0x3C0000 ≤ off)

/-- ALIAS_WRITE: a compartment of a processor in RUN sets or clears bits of a lane of its own memory. A word that reads uncorrectable
is left unchanged and raises SRAM_UE; the secure region is in a region of one compartment only, the attestation compartment of H2, and
any other breaks a region there (R266, R268). (DEDUCED, log entry 98.) -/
def execAliasWrite (p : ProcNo) (set : Bool) (addr : BitVec 22) (i : AliasIn) (s : State) : Host.Outcome State Fault Refusal :=
  let k := min p.val 84
  let off := (if k = 84 then addr.toNat else addr.toNat % 0x80000) / 4 * 4
  let a := memBase k + off
  if (s.b.proc p).st ≠ 0 ∨ compCount p < i.comp.toNat then .next s
  else if secureOff k off = true ∧ ¬ (p.val = 86 ∧ i.comp.toNat = compAttest) then
    .next { s with b := s.b.violation s.tick i.sc p i.comp.toNat }
  else if (s.b.memSt k).ueWords.contains (off / 16) then .next { s with b := s.b.ueRead k (off / 16) true }
  else
    let old := laneAt s.mem a
    let new := if set then old ||| i.v.toNat else old &&& (0xFFFFFFFF - i.v.toNat)
    .next { s with mem := putBytes s.mem a (leBytes 4 new) }

/-! ### Spare rows (R330, R331) -/

/-- Entries of a bank. -/
def MemSt.inBank (m : MemSt) (bank : Nat) : List (Nat × Nat × Bool) := m.repairs.filter (fun e => e.1 == bank)

/-- Repair a row softly: the next free entry of its bank takes it, and the calibration store keeps it. Without a free entry one
BIST_FAIL with item code 0x8 is counted. -/
def Block.repairRow (b : Block) (now k bank row : Nat) : Block :=
  let l := (b.memSt k).inBank bank
  if memBanks k ≤ bank ∨ l.any (fun e => e.2.1 == row) = true then b
  else if 4 ≤ l.length then b.fault 29 (memField k) 0x8000 0
  else ((b.modMemSt k (fun m => { m with repairs := m.repairs ++ [(bank, row, false)] })).modNv (fun n => { n with
    softRows := n.softRows ++ [(k, bank, row)] })).saveStore now true

/-- The owner of a memory (R329): H2 for the hub. -/
def memOwner (k : Nat) : Nat := if k = 84 then 86 else k

/-- SOFT_REPAIR: the memory's owner, in RUN, repairs a row that the scrub has made due (R329, R331). -/
def execSoftRepair (m : MemId) (bank : Fin 64) (row : Fin 512) (s : State) : Host.Outcome State Fault Refusal :=
  onB s (fun now b =>
    let k := memNo m
    let due := (b.memSt k).repairDue
    if (b.proc (memOwner k)).st ≠ 0 ∨ !due.contains (bank.val, row.val) then b
    else (b.modMemSt k (fun x => { x with repairDue := x.repairDue.filter (· != (bank.val, row.val)) })).repairRow now k bank row)

/-! ### March (R332 to R336) -/

/-- Segments of a memory, and the one that is its shadow. -/
def memSegs (k : Nat) : Nat := memWords k / 256
def shadowSeg (k : Nat) : Nat := if k = 84 then 768 else 118

/-- The segment tested as number `j` of a pass: the shadow's, then the others in ascending order. -/
def segOf (k j : Nat) : Nat := if j = 0 then shadowSeg k else if j ≤ shadowSeg k then j - 1 else j

/-- The shadow takes a copy of a segment. -/
def copyToShadow (k seg : Nat) (mem : List Host.Cell) : List Host.Cell :=
  let src := memBase k + 4096 * seg
  let dst := memBase k + 4096 * shadowSeg k
  let cells := mem.filter (fun e => decide (src ≤ e.1) && decide (e.1 < src + 4096))
  cells.foldl (fun m e => mput 0 m (e.1 - src + dst) e.2) (clearBytes mem dst 4096)

/-- A march of memory `k` begins; its shadow is cleared by the plain March C−. -/
def Block.marchStart (b : Block) (k : Nat) (destructive : Bool) : Block :=
  let b := b.modMemSt k (fun m => { m with
    marching := true, destructive := destructive, failing := [], repaired := 0, unrepaired := 0, seg := 0, segDue := 0 })
  let i := memInst k
  let b := b.wr (memFld k HUB_MEM.MARCH_STATE F_MEM.MARCH_STATE) i 1
  (b.wr (memFld k HUB_MEM.MARCH_FAILS F_MEM.MARCH_FAILS) i 0).wr (memFld k HUB_MEM.MARCH_SEG F_MEM.MARCH_SEG) i (segOf k 0)

/-- Memories that MARCH names, the hub as 84. -/
def marchNames (args : List Nat) : List Nat :=
  (if (args.getD 0 0).testBit 0 then [84] else []) ++ allFields.filter (fun f => (args.getD (1 + f / 32) 0).testBit (f % 32))

/-- DESTRUCTIVE and FUSE are denied outside MANUFACTURE and RETURN (R332, R335). -/
def marchDenied (s : State) (c : Cmd) : Option Nat :=
  let lc := s.b.nv.lifecycle
  if (c.opt 0 || c.opt 1) && lc != 1 && lc != 3 then some lc else none

/-- MARCH (R335). -/
def execMarch (c : Cmd) (s : State) : Host.Outcome State Fault Refusal :=
  .next (runCmdB 0x80 c s (marchDenied s c) (fun now pt b =>
    let l := marchNames c.words
    if l.isEmpty then b.stop now pt stBadArg (badArgDetail 1 0)
    else if l.any (fun k => (b.memSt k).marching) then b.stop now pt stBusy 0
    else ((b.accept now pt []).each l (fun b k => b.marchStart k (c.opt 0))).await pt (.march l 0 0 0)))

/-- One failing row: repaired when REPAIR_EN is 1 and a spare is free. A row that an entry names already has failed in its spare, and no
second entry may name it (R330). -/
def Block.marchRow (b : Block) (now k bank row : Nat) : Block :=
  let l := (b.memSt k).inBank bank
  let full := decide (4 ≤ l.length)
  let named := l.any (fun e => e.2.1 == row)
  let en := b.bit (memFld k HUB_MEM.REPAIR_EN F_MEM.REPAIR_EN) (memInst k)
  let b := b.modMemSt k (fun m => { m with failing := m.failing ++ [(bank, row)] })
  let b := b.inc (memFld k HUB_MEM.MARCH_FAILS F_MEM.MARCH_FAILS) (memInst k)
  if en && !full && !named then (b.repairRow now k bank row).modMemSt k (fun m => { m with repaired := m.repaired + 1 })
  else (b.cond full (fun b => b.fault 29 (memField k) 0x8000 0)).modMemSt k (fun m => { m with unrepaired := m.unrepaired + 1 })

/-- Ticks from one segment of memory `k` to the next: none in SELFTEST and in a destructive march (R335). -/
def Block.segPeriod (b : Block) (k : Nat) : Nat :=
  if b.rd HUB_STATE.START_PHASE 0 = 5 ∨ (b.memSt k).destructive = true then 0 else b.rd (memFld k HUB_MEM.MARCH_PERIOD F_MEM.MARCH_PERIOD) (memInst k)

/-- MARCH_SEGMENT: the next segment of a pass is tested, no earlier than MARCH_PERIOD ticks after the one before; `failing` are the
failing rows of its bank (R333 to R335, Table 14.1). (DEDUCED, log entry 99.) -/
def execMarchSegment (m : MemId) (failing : List (Fin 512)) (s : State) : Host.Outcome State Fault Refusal :=
  let k := memNo m
  let x := s.b.memSt k
  if !x.marching || decide (memSegs k ≤ x.seg) || decide (s.tick < x.segDue) then .next s
  else
    let seg := segOf k x.seg
    let rows := (List.range 512).filter (fun r => decide (r / 32 = seg % 16) && failing.any (fun y => y.val == r))
    let b := s.b.each rows (fun b r => b.marchRow s.tick k (seg / 16) r)
    let b := b.modMemSt k (fun y => { y with seg := y.seg + 1, segDue := s.tick + b.segPeriod k })
    let b := b.wr (memFld k HUB_MEM.MARCH_SEG F_MEM.MARCH_SEG) (memInst k) (segOf k (x.seg + 1))
    let mem := if x.destructive then clearBytes s.mem (memBase k + 4096 * seg) 4096
      else if seg = shadowSeg k then clearBytes s.mem (memBase k + 4096 * seg) 4096 else copyToShadow k seg s.mem
    .next { s with mem := mem, b := b }

/-- Soft entries become fused ones, and the cadastre's marks with them (R332, R344). One whose fuse does not read back counts a BIST_FAIL
with item code 0x9 and stays soft. -/
def Block.fuseRows (b : Block) (now k : Nat) (unread : List (Nat × Nat)) : Block :=
  let soft := (b.memSt k).repairs.filter (fun e => !e.2.2)
  let bad := soft.filter (fun e => unread.contains (e.1, e.2.1))
  let good := soft.filter (fun e => !unread.contains (e.1, e.2.1))
  let b := b.each bad (fun b _ => b.fault 29 (memField k) 0x9000 0)
  let b := b.modNv (fun n => { n with
    fusedRows := n.fusedRows ++ good.map (fun e => (k, e.1, e.2.1)), softRows := n.softRows.filter (fun e => !good.contains (e.2.1, e.2.2, false) || e.1 != k) })
  let b := b.saveStore now true
  let b := b.modMemSt k (fun m => { m with repairs := m.repairs.map (fun e => if good.contains e then (e.1, e.2.1, true) else e) })
  b.cond (decide (k < 84)) (fun b => b.each (keysIn b.cad (pid k 0) 672) (fun b i =>
    b.putCad now k (i - pid k 0) (fun c => if c.detAFail || c.detBFail || c.spareBroken then { c with fused := true } else c)))

/-- Collections that live in a memory read FREE, UNUSED or empty after a destructive march. -/
def Block.emptyMem (b : Block) (k : Nat) : Block :=
  let b := b.modMemSt k (fun m => { m with ueWords := [], fixedWords := [], fixedBefore := [], repairDue := [] })
  if k = 84 then
    (({ b with accounts := [] }.wr HUB_SEC.KEY_VALID 0 0).wr HUB_SEC.MLOG_ENTRIES 0 0).modHub (fun h => { h with
      attKey := none, mlog := [], wq := [], wqNext := 0, journal := [], graph := { captures := [], sections := [], edges := [] }, staging := [] })
  else
    let slots := b.slots.filter (fun e => !(decide (tid k 0 ≤ e.1) && decide (e.1 < tid k 0 + 1024)))
    let colls := b.colls.filter (fun e => !(decide (collNo k 0 ≤ e.1) && decide (e.1 < collNo k 0 + 256)))
    let traces := merase b.traces k
    { b with slots := slots, colls := colls, traces := traces }.modFu k (fun u => { u with
      queues := [], fresh := 0, retiredQ := [], windowIn := [], outQ := [] })

/-- Processors whose memory is `k`. -/
def memProcs (k : Nat) : List Nat := if k = 84 then [84, 85, 86] else [k]

/-- FUSE was named by the MARCH that tests memory `k`. (DEDUCED, log entry 100.) -/
def Block.marchFuses (b : Block) (k : Nat) : Bool :=
  [0, 1, 2].any (fun pt => match (b.port pt).flight with
    | some fl => (match fl.wait with
      | .march l _ _ _ => l.contains k && fl.opts.testBit 1
      | _ => false)
    | none => false)

/-- A named memory has finished: its MARCH goes on, or completes. -/
def Block.marchReport (b : Block) (now k : Nat) : Block :=
  let m := b.memSt k
  b.each [0, 1, 2] (fun b pt => match b.waitOf pt with
    | .march l fa re un =>
      if !l.contains k then b
      else
        let fa' := fa + m.failing.length
        let re' := re + m.repaired
        let un' := un + m.unrepaired
        if l.erase k = [] then b.done now pt [fa', re', un'] else b.await pt (.march (l.erase k) fa' re' un')
    | _ => b)

/-- MARCH_DONE: the memory has been tested to its end; after a destructive one its processors restart, but for a STOPPED one, and
their sections are reloaded (R274, R332, R335). -/
def execMarchDone (i : MarchEnd) (s : State) : Host.Outcome State Fault Refusal :=
  let k := memNo i.m
  let x := s.b.memSt k
  if !x.marching || decide (x.seg < memSegs k) then .next s
  else
    let now := s.tick
    let b := s.b.modMemSt k (fun y => { y with marching := false })
    let b := b.wr (memFld k HUB_MEM.MARCH_STATE F_MEM.MARCH_STATE) (memInst k) (if x.failing.isEmpty then 2 else 3)
    let b := b.cond (b.marchFuses k) (fun b => b.fuseRows s.tick k (i.unread.map (fun e => (e.1.val, e.2.val))))
    let b := b.cond x.destructive (fun b =>
      (b.emptyMem k).each ((memProcs k).filter (fun p => (b.proc p).st != 3)) (fun b p =>
        (b.modProc p (fun q => { q with newImage := true })).restart now 0 p causeCommand))
    .next { s with b := b.marchReport now k }

/-! ### The secure region (R337, R341) -/

/-- Every word of the secure region becomes zero; the attestation key and the measurement log are gone.
(DESIGN CHOICE, log entry 104.) -/
def wipe (us : Nat) (s : State) : State :=
  let b := s.b.modHub (fun h => { h with attKey := none, mlog := [] })
  let b := ((b.wr HUB_SEC.KEY_VALID 0 0).wr HUB_SEC.MLOG_ENTRIES 0 0).inc HUB_SEC.WIPES 0
  let b := (b.wr HUB_SEC.WIPE_TICK 0 s.tick).wr HUB_SEC.WIPE_US 0 us
  let b := b.modMemSt 84 (fun m => { m with ueWords := m.ueWords.filter (fun w => decide (w < 0x3C000)) })
  { s with mem := clearBytes s.mem (memBase 84 + 0x3C0000) 0x40000, b := b }

/-- TAMPER_N_ASSERT: a wipe of `us` microseconds, and TAMPER (R341). -/
def execTamperNAssert (us : BitVec 16) (sc : ScOff) (s : State) : Host.Outcome State Fault Refusal :=
  let s := wipe us.toNat s
  .next { s with b := ((s.b.wr HUB_SEC.TAMPER_SEEN 0 1).inc HUB_SEC.TAMPER_COUNT 0).fault 27 255 0 sc }

end Sys2Proof.Machine
end

