-- ==== Sys2Proof/Machine/SelfTest.lean ====
section
/-!
DEFINITION. Analogue self-test, and the life cycle with its fusing record (R338 to R344).
-/

namespace Sys2Proof.Machine

open Sys2Proof

/-! ### BIST_RUN (R342) -/

/-- Phases that item 0x6 can test: enabled, of a rail that regulates with an ACTIVE phase to spare. -/
def Block.testable (b : Block) (f : Nat) : Nat :=
  phaseBits (fun p =>
    let rl := phaseRail p
    b.bit (F_RAIL.ON rl) f && !b.bit (F_RAIL.SOFTSTART rl) f &&
    (b.rd (F_PHASE.STATE p) f != phActive || decide (b.rd (F_RAIL.MIN_PHASES rl) f < b.nActive f rl)))

/-- A field's self-test of the given item codes starts. -/
def Block.bistStart (b : Block) (items : List Nat) (f : Nat) : Block :=
  (b.modFu f (fun u => { u with bistRunning := true, bistItems := items, bistPhases := if items.contains 6 then b.testable f else 0 })).wr
    F_BIST.STATE f 1

/-- BIST_RUN. -/
def execBistRun (c : Cmd) (s : State) : Host.Outcome State Fault Refusal :=
  .next (runCmdB 0x81 c s none (fun now pt b =>
    let l := c.fset 0
    if l.any (fun f => (b.fu f).bistRunning) then b.stop now pt stBusy 0
    else match b.bufCheck c 3 (if c.bufLen 3 = 0 then 0 else 8 * l.length) with
      | some r => b.stop now pt r.1 r.2
      | none => ((b.accept now pt []).each l (fun b f => b.bistStart [1, 2, 3, 4, 5, 6] f)).await pt (.bist l 0 0 0 0)))

/-! ### The result (R343, R344) -/

/-- First bit of each item's run in the result vector, and its count (Table 14.3). -/
def itemBase (code : Nat) : Nat := [0, 0, 672, 840, 848, 2192, 2235].getD code 0
def itemCount (code : Nat) : Nat := [0, 672, 168, 8, 1344, 43, 20].getD code 0
/-- Items in all. (DEDUCED, log entry 101.) -/
def bistItems : Nat := 2255

/-- Put an element before the first that is larger. -/
def insertBy {α : Type} (key : α → Int) (x : α) : List α → List α
  | [] => [x]
  | y :: l => if key x ≤ key y then x :: y :: l else y :: insertBy key x l

/-- A list in rising order of a key. -/
def sortBy {α : Type} (key : α → Int) (l : List α) : List α := l.foldr (insertBy key) []

/-- The median of readings, the lower of the two middle ones of an even number. (DESIGN CHOICE, log entry 160.) -/
def medianOf (l : List Int) : Int := (sortBy id l).getD ((l.length - 1) / 2) 0

/-- Is a measured value within `tol` of the one that it should be? -/
def nearTo (x y : Int) (tol : Nat) : Bool := decide (|x - y| ≤ (tol : Int))

/-- Valid benchmarks of a field but for number `k`, with which item 0x3 compares that one. -/
def Block.otherBenches (b : Block) (f k : Nat) : List Nat := (b.benches f).filter (· != k)

/-- The trim in use by detector `d` of slot `s`: that of the present band. -/
def Block.bandTrim (b : Block) (f s d : Nat) : Nat := (b.cadE (pid f s)).trims.getD (8 * d + b.rd F_THERM.BAND f) 0

/-- Does the run test items of this code? Sensors are not tested without a valid benchmark to compare them with.
(DESIGN CHOICE, log entry 160.) -/
def Block.runsItem (b : Block) (f code : Nat) : Bool :=
  (b.fu f).bistItems.contains code && !(decide (code ≤ 2) && (b.benches f).isEmpty)

/-- Can item `k` of a code be tested: its slot is active, its rail and phase allow it (R342)? -/
def Block.testableItem (b : Block) (f code k : Nat) : Bool :=
  match code with
  | 1 => b.active f k
  | 3 => !(b.otherBenches f k).isEmpty
  | 4 => b.active f (k / 2)
  | 6 => (b.fu f).bistPhases.testBit k
  | _ => true

/-- The run tests the item. -/
def Block.tested (b : Block) (f code k : Nat) : Bool := b.runsItem f code && decide (k < itemCount code) && b.testableItem f code k

/-- Does the item pass on what was measured (Table 14.3)? -/
def Block.itemOk (b : Block) (f : Nat) (x : BistItem) : Bool :=
  let k := x.index.toNat
  let temp (spare : Bool) (s : Nat) : Bool := match (b.expectedOf f s spare).1 with
    | some e => nearTo x.a.toInt e (b.rd F_BIST.SENSOR_TOL f)
    | none => true
  match x.code.val with
  | 1 => temp false k
  | 2 => temp true (4 * k)
  | 3 => nearTo x.a.toInt (medianOf ((b.otherBenches f k).map (b.benchTemp f))) 24
  | 4 => decide (x.a.toNat ≤ 2) && nearTo (x.b.toNat % 64) (b.bandTrim f (k / 2) (k % 2)) 8
  | 5 => nearTo x.a.toNat 300 (b.rd F_BIST.ADC_TOL f) && nearTo x.b.toNat 900 (b.rd F_BIST.ADC_TOL f)
  | 6 => nearTo (100 * x.a.toNat) 500000 (5000 * b.rd F_BIST.IMON_TOL f)
  | _ => true

/-- Items that fail, as (code, index), in the order of the result vector. -/
def Block.itemsFailed (b : Block) (f : Nat) (l : List BistItem) : List (Nat × Nat) :=
  let bad := ((l.filter (fun x => b.tested f x.code x.index.toNat && !b.itemOk f x)).map (fun x => (x.code.val, x.index.toNat))).eraseDups
  sortBy (fun x => 4096 * x.1 + x.2) bad

/-- Number of items that the run cannot test. -/
def Block.untestedCount (b : Block) (f : Nat) : Nat :=
  ([1, 2, 3, 4, 5, 6].map (fun code =>
    if b.runsItem f code then ((List.range (itemCount code)).filter (fun k => !b.testableItem f code k)).length else itemCount code)).sum

/-- The 288 bytes of the result vector: 1 for pass. -/
def resultBytes (failed : List (Nat × Nat)) : List Nat :=
  let bad := failed.map (fun x => itemBase x.1 + x.2)
  (List.range 288).map (fun n => 255 - ((List.range 8).filter (fun j => bad.contains (8 * n + j))).foldl (fun a j => a + 2 ^ j) 0)

/-- The signature of R343. -/
def signature (bytes : List Nat) : Nat := (2 ^ 64 - 1) ^^^ crc64 (2 ^ 64 - 1) bytes

/-- The outcome of one failing item (R344). (DEDUCED, log entry 102.) -/
def Block.itemFailed (b : Block) (now f : Nat) (x : Nat × Nat) : Block :=
  let b := b.fault 29 f (x.1 * 4096 + x.2) 0
  match x.1 with
  | 1 =>
    let b := b.modSensor (senParcel f x.2) (fun r => { r with decided := true, eventAt := now, bistPass := false })
    b.cond (b.bit F_BIST.REMAP_ON_FAIL f && b.active f x.2 && (b.sensor (senParcel f x.2)).action == 0 && b.spareFree f x.2 &&
        !b.spareBad f (x.2 / 4))
      (fun b => b.modSensor (senParcel f x.2) (fun r => { r with action := 1 }))
  | 2 => b.putCad now f (4 * x.2) (fun c => { c with spareBroken := true })
  | 4 =>
    let p := x.2 / 2
    b.putCad now f p (fun c => if x.2 % 2 = 0 then { c with detAFail := true } else { c with detBFail := true })
  | 5 =>
    (b.cond (decide (x.2 < 20)) (fun b => b.chanLost f x.2)).modFu f (fun u => { u with bistChan := u.bistChan ||| 2 ^ x.2 })
  | 6 => b.setPhaseState now f x.2 phFailed
  | _ => b

/-- An item was tested and did not fail. -/
def Block.itemPassed (b : Block) (f : Nat) (failed : List (Nat × Nat)) (code k : Nat) : Bool := b.tested f code k && !failed.contains (code, k)

/-- Marks that an earlier test left are cleared by the items that pass (R344). -/
def Block.itemsPassed (b : Block) (now f : Nat) (failed : List (Nat × Nat)) : Block :=
  let ok := b.itemPassed f failed
  let u := b.fu f
  let b := b.each (keysIn b.cad (pid f 0) 672) (fun b i =>
    let p := i - pid f 0
    b.putCad now f p (fun c => if c.fused then c else { c with
      detAFail := c.detAFail && !ok 4 (2 * p), detBFail := c.detBFail && !ok 4 (2 * p + 1)
      spareBroken := c.spareBroken && !ok 2 (p / 4) }))
  let b := b.each ((List.range 20).filter (fun p => ok 6 p && b.rd (F_PHASE.STATE p) f == phFailed)) (fun b p =>
    b.setPhaseState now f p (if b.flag F_PHASE.PHASE_DISABLE f p then phDisabled else phShed))
  let b := b.each ((keysIn b.sensors (senParcel f 0) 672).filter (fun k =>
      (b.sensor k).broken && ok 1 (k - senParcel f 0))) (fun b k => b.modSensor k (fun r => { r with bistPass := true }))
  b.modFu f (fun u' => { u' with bistChan := if u.bistItems.contains 5 then 0 else u'.bistChan })

/-- A detector that passes takes its refitted trim of the present band (R342). -/
def Block.putTrims (b : Block) (now f : Nat) (failed : List (Nat × Nat)) (l : List BistItem) : Block :=
  let band := b.rd F_THERM.BAND f
  b.each (l.filter (fun x => x.code.val == 4 && b.itemPassed f failed 4 x.index.toNat)) (fun b x =>
    let k := x.index.toNat
    b.putCad now f (k / 2) (fun c => { c with trims := c.trims.set (8 * (k % 2) + band) (x.b.toNat % 64) }))

/-- The registers of F_BIST after a run, and item code 0x7 when the signature differs from the reference. -/
def Block.putBist (b : Block) (now f : Nat) (failed : List (Nat × Nat)) (untested : Nat) : Block :=
  let bytes := resultBytes failed
  let sig := signature bytes
  let ref := b.rd F_BIST.REF_LO f + 2 ^ 32 * b.rd F_BIST.REF_HI f
  let known := b.nv.bistRef.any (fun e => e.1 == f)
  let b := b.each (List.range 72) (fun b k => b.wr (F_BIST.VEC k) f (fieldAt bytes (4 * k) 4))
  let b := ((b.wr F_BIST.SIG_LO f sig).wr F_BIST.SIG_HI f (sig / 2 ^ 32)).wr F_BIST.SIG_MATCH f (known && sig == ref).toNat
  let b := ((b.wr F_BIST.STATE f (if failed.isEmpty then 2 else 3)).wr F_BIST.UNTESTED f untested).wr F_BIST.FAILED f failed.length
  let b := ((b.wr F_BIST.RUN_TICK f now).inc F_BIST.RUNS f).wr F_BIST.FIRST_FAIL f ((failed.head?.map (fun x => x.1 * 4096 + x.2)).getD 0)
  b.cond (known && sig != ref) (fun b => b.fault 29 f 0x7000 0)

/-- Items passed: those neither failed nor untested. -/
def passedOf (failed untested : Nat) : Nat := bistItems - failed - untested

/-- The 8-byte entry of a field (Table 16.3). (DEDUCED, log entry 101.) -/
def Block.bistEntry (b : Block) (f : Nat) : List Nat :=
  leBytes 2 (passedOf (b.rd F_BIST.FAILED f) (b.rd F_BIST.UNTESTED f)) ++ leBytes 2 (b.rd F_BIST.FAILED f) ++
  leBytes 2 (b.rd F_BIST.UNTESTED f) ++ [b.rd F_BIST.SIG_MATCH f, f]

/-- The command of a flight, for its buffer. -/
def cmdOf (pt : Nat) (fl : Flight) : Cmd :=
  { port := if pt = 0 then .host else if pt = 1 then .bmc else .debug, seq := BitVec.ofNat 16 fl.seqNo
    opts := BitVec.ofNat 8 fl.opts, args := Vector.ofFn (fun i : Fin 15 => BitVec.ofNat 32 (fl.args.getD i 0)), sc := 0 }

/-- A named field has finished: its BIST_RUN goes on, or writes its entries and completes. -/
def bistReport (f pt : Nat) (s : State) : State :=
  match (s.b.port pt).flight with
  | none => s
  | some fl => match fl.wait with
    | .bist l pa fa un di =>
      if !l.contains f then s
      else
        let b := s.b
        let fail := b.rd F_BIST.FAILED f
        let unt := b.rd F_BIST.UNTESTED f
        let pa' := pa + passedOf fail unt
        let di' := di + (if b.bit F_BIST.SIG_MATCH f then 0 else 1)
        if l.erase f = [] then
          let c := cmdOf pt fl
          let s := if c.bufLen 3 = 0 then s else writeBuf s c 3 ((c.fset 0).flatMap b.bistEntry)
          { s with b := s.b.done s.tick pt [pa', fa + fail, un + unt, di'] }
        else { s with b := b.await pt (.bist (l.erase f) pa' (fa + fail) (un + unt) di') }
    | _ => s

/-- BIST_COMPLETE: a field ends its self-test (R343, R344). -/
def execBistComplete (f : FieldNo) (i : BistIn) (s : State) : Host.Outcome State Fault Refusal :=
  if !(s.b.fu f).bistRunning then .next s
  else
    let now := s.tick
    let failed := s.b.itemsFailed f i.items
    let b := s.b.putBist now f failed (s.b.untestedCount f)
    let b := ((b.putTrims now f failed i.items).itemsPassed now f failed).each failed (fun b x => b.itemFailed now f x)
    let b := b.modFu f (fun u => { u with bistRunning := false, bistItems := [], bistPhases := 0 })
    .next ([0, 1, 2].foldl (fun s pt => bistReport f pt s) { s with b := b })

/-! ### The life cycle (R338 to R340) -/

/-- Every valid point has its Vmin fuse, and the three key hashes are programmed. (DEDUCED, log entry 105.) -/
def Nonvol.vminFused (n : Nonvol) : Bool := (List.range 27).all (fun p => n.vmin.any (fun e => e.1 == p))
def Nonvol.keysFused (n : Nonvol) : Bool := n.fwKey.isSome && n.debugKey.isSome && n.returnKey.isSome

/-- Vmin code of point `p` in a fusing record. -/
def recVmin (r : List Nat) (p : Nat) : Nat := fieldAt r (0x10 + 2 * p) 2

/-- Step 1 of R340: the BAD_ARG code of a record, if any. (DEDUCED, log entry 103.) -/
def fuseBad (waferId : Nat) (r : List Nat) : Option Nat :=
  let flags := fieldAt r 6 2
  if fieldAt r 0 4 ≠ 0x5A574757 ∨ fieldAt r 4 2 ≠ 1 ∨ 16 ≤ flags ∨ fieldAt r 8 4 ≠ waferId ∨ fieldAt r 0xC 4 ≠ 0 ∨
      fieldAt r 0x46 10 ≠ 0 ∨ (List.range 27).any (fun p => decide (512 ≤ recVmin r p)) = true ∨
      fieldAt r 0xE0 4 ≠ crc32c (r.take 0xE0) then some 1
  else if (List.range 27).any (fun p => decide (90 < recVmin r p)) then some 2
  else none

/-- A programmed fuse that the record would change (step 2 of R340). -/
def Nonvol.fuseClash (n : Nonvol) (r : List Nat) : Bool :=
  let flags := fieldAt r 6 2
  let key (k : Option (List Nat)) (off : Nat) : Bool := match k with
    | some h => h != sliceAt r off 48
    | none => false
  (flags.testBit 0 && n.vmin.any (fun e => e.2 != recVmin r e.1)) || (flags.testBit 1 && key n.fwKey 0x50) ||
  (flags.testBit 2 && key n.debugKey 0x80) || (flags.testBit 3 && key n.returnKey 0xB0)

/-- FLAGS of a record without the items named in `unread`. -/
def fuseFlags (r : List Nat) (unread : Nat) : Nat := ((List.range 4).filter (fun k => (fieldAt r 6 2).testBit k && !unread.testBit k)).foldl
  (fun a k => a + 2 ^ k) 0

/-- Items that the record names, whose fuses are not programmed yet, and that do not read back (step 3 of R340). -/
def Nonvol.fuseFails (n : Nonvol) (r : List Nat) (unread : Nat) : List Nat :=
  let isSet := [n.vminFused, n.fwKey.isSome, n.debugKey.isSome, n.returnKey.isSome]
  (List.range 4).filter (fun k => (fieldAt r 6 2).testBit k && unread.testBit k && !isSet.getD k false)

/-- Program the items of a record that `flags` names (step 3 of R340). -/
def Nonvol.fuse (n : Nonvol) (r : List Nat) (flags : Nat) : Nonvol :=
  { n with
    vmin := if flags.testBit 0 then (List.range 27).map (fun p => (p, recVmin r p)) else n.vmin
    fwKey := if flags.testBit 1 then some (sliceAt r 0x50 48) else n.fwKey
    debugKey := if flags.testBit 2 then some (sliceAt r 0x80 48) else n.debugKey
    returnKey := if flags.testBit 3 then some (sliceAt r 0xB0 48) else n.returnKey }

/-- A return authorisation: a 32-byte nonce and a signature over the wafer identifier and the nonce. -/
def Block.returnOk (b : Block) (auth : List Nat) : Bool :=
  match b.nv.returnKey with
  | some key => Config.ecdsaOk key (leBytes 4 b.nv.waferId ++ sliceAt auth 0 32) (sliceAt auth 32 96)
  | none => false

/-- DENIED by the port, which bit 8 of the detail says, or the state named (R339, R340, Table 16.4). (DEDUCED, log entry 103.) -/
def lcDenied (s : State) (c : Cmd) : Option Nat :=
  let lc := s.b.nv.lifecycle
  let want := c.arg 0 % 4
  if c.port ≠ .debug then some (lc + 256) else if ¬ (want = lc + 1 ∨ (lc = 1 ∧ want = 1)) then some lc else none

/-- The state advances: secure region wiped, event 0x41 (R339). -/
def advance (want sc : Nat) (s : State) : State :=
  let lc := s.b.nv.lifecycle
  let fr := s.b.fresh
  let s := wipe (fr.1 % 1001) { s with b := fr.2 }
  let b := s.b.modNv (fun n => { n with lifecycle := want })
  { s with b := (b.wr HUB_SEC.LC_PENDING 0 1).monEvent s.tick sc 0x41 (srcHub + 3) [lc, want] }

/-- Items that do not read back: each counts a BIST_FAIL with item code 0x9; the others are programmed (R340).
(DESIGN CHOICE, log entry 158.) -/
def Block.fuseUnread (b : Block) (rec_ : List Nat) (unread : Nat) : Block :=
  let l := b.nv.fuseFails rec_ unread
  (b.modNv (fun n => n.fuse rec_ (fuseFlags rec_ unread))).each l (fun b k => b.fault 29 255 (0x9000 + k) 0)

/-- Apply the fusing record of the buffer, if it holds one. -/
def withFuses (rec_ : List Nat) (sc : Nat) (s : State) : State :=
  if rec_.isEmpty then s
  else
    let b := s.b.modNv (fun n => n.fuse rec_ (fieldAt rec_ 6 2))
    { s with b := b.monEvent s.tick sc 0x44 (srcHub + 3) (leBytes 2 (fieldAt rec_ 6 2) ++ [b.nv.lifecycle]) }

/-- LIFECYCLE_ADVANCE (R339, R340). (DESIGN CHOICE, log entry 104.) -/
def execLifecycleAdvance (i : AdvanceIn) (s : State) : Host.Outcome State Fault Refusal :=
  let c := i.c
  .next (runCmd 0x79 c s (lcDenied s c) (fun pt s =>
    let now := s.tick
    let b := s.b
    let lc := b.nv.lifecycle
    let want := c.arg 0 % 4
    let stop (st d : Nat) : State := { s with b := b.stop now pt st d }
    match b.bufCheck c 1 0 with
    | some r => stop r.1 r.2
    | none =>
      let buf := readBuf s c 1
      let rec_ := if lc = 1 then buf else []
      if lc = 1 ∧ c.bufLen 1 ≠ 0 ∧ c.bufLen 1 ≠ 228 then stop stBadArg (badArgDetail 2 1)
      else match (if rec_.isEmpty then none else fuseBad b.nv.waferId rec_) with
        | some d => stop stBadArg (badArgDetail 2 d)
        | none =>
          let after := if rec_.isEmpty then b.nv else b.nv.fuse rec_ (fieldAt rec_ 6 2)
          if !rec_.isEmpty && b.nv.fuseClash rec_ then stop stDenied lc
          else if want = 2 ∧ (after.vminFused && after.keysFused) = false then stop stDenied lc
          else if want = 3 ∧ b.returnOk buf = false then stop stDenied lc
          else if b.nv.fuseFails rec_ i.unread.toNat ≠ [] then { s with b := (b.fuseUnread rec_ i.unread.toNat).stop now pt stUnmet 0 }
          else
            let s := withFuses rec_ c.sc s
            let s := if want = lc then s else advance want c.sc s
            { s with b := s.b.done now pt [] }))

end Sys2Proof.Machine
end

