-- ==== Sys2Proof/Machine/StartUp.lean ====
section
/-!
DEFINITION. Reset, the phases of the start, fields coming back into service, and the wafer floor (R32, R94, R95, R346 to
R367, R434, R435).
-/

namespace Sys2Proof.Machine

open Sys2Proof

/-! ### Wafer floor and idle power (R94 to R96) -/

/-- The wafer floor, and the idle power, in 1/8 W: a sum over the fields in service, plus WAFER_OVH. -/
def Block.waferSum (b : Block) (fd : Fld) : Nat := (b.inService.map (fun f => b.rd fd f)).sum + 80 * b.rd HUB_CAP.WAFER_OVH 0

/-- FLOOR_W and IDLE_W, and the flags of a stored cap below the floor. -/
def Block.putFloor (b : Block) : Block :=
  let fl := b.waferSum F_LIMIT.FLOOR0
  let b := (b.wr HUB_CAP.FLOOR_W 0 (min 65535 (fl / 80))).wr HUB_CAP.IDLE_W 0 (min 65535 (b.waferSum F_LIMIT.IDLE0 / 80))
  (b.wr HUB_CAP.MS_UNMET 0 (decide (80 * b.rd HUB_CAP.PCAP_MS 0 < fl)).toNat).wr HUB_CAP.S_UNMET 0
    (decide (80 * b.rd HUB_CAP.PCAP_S 0 < fl)).toNat

/-! ### Reset (R32, R347 to R349) -/

/-- What the flash keeps when its controller is reset: a program or erase that runs is the part's own and ends; one that VSURV
cuts (`cut`) leaves a broken record, or a block that is not blank (R318, R369). (DEDUCED, log entry 93.) -/
def Monument.kept (m : Monument) (nv : Nonvol) (cut : Bool) : Monument :=
  let m1 : Monument := match m.busy with
    | none => m
    | some r =>
      let r := { r with whole := r.whole && !cut }
      match r.tier with
      | 1 => m.storeShutdown r
      | 2 => m.storeLastFault r
      | 3 => m.storeEvent r
      | 4 => m.storeMirror r
      | _ => if r.code = 0 then m.storeHeader r else m.storeCopy (r.code == 2) r.whole nv
  let m2 : Monument :=
    if m1.erasing = 0 then m1
    else if cut || m1.suspended then { m1 with notBlank := m1.notBlank || m1.erasing == 1 } else m1.erased
  { m2 with
    queue := [], busy := none, retry := false, erasing := 0, suspended := false, noErase := false, tokens := [], waferTokens := 64
    suppressed := [], eraseQueue := [] }

/-- The block with everything a reset sets at its reset value; fuses, stores and flash are kept. -/
def Block.afterReset (b : Block) (cut : Bool) : Block :=
  { Block.reset with nv := b.nv, mon := b.mon.kept b.nv cut, free := b.free }

/-- Reset is held: the pins of R347, and wafer time 0. -/
def holdReset (cut : Bool) (s : State) : State :=
  { s with
    tick := 0, mem := if cut then [] else s.mem
    b := (s.b.afterReset cut).modPins (fun p => { p with inReset := true, xspiHighZ := true }) }

/-- SURV_RST_N_ASSERT (R347, R348): every phase goes to the mid level at once, whatever its rail. (DEDUCED, log entry 109.) -/
def execSurvRstNAssert (s : State) : Host.Outcome State Fault Refusal := .next (holdReset false s)

/-- VSURV_LOSS: VSURV leaves its range (R32, R369). (DEDUCED, log entries 93, 109.) -/
def execVsurvLoss (s : State) : Host.Outcome State Fault Refusal := .next (holdReset true s)

/-- Fused repair entries and the fused figures of HUB_ID, HUB_SEC and HUB_FW (R330, R340). -/
def Block.loadFuses (b : Block) : Block :=
  let n := b.nv
  let b := b.each n.fusedRows (fun b x => b.modMemSt x.1 (fun m => { m with repairs := m.repairs ++ [(x.2.1, x.2.2, true)] }))
  let b := (b.wr HUB_ID.WAFER_ID 0 n.waferId).wr HUB_ID.ROM_VER 0 n.romVer
  ((b.wr HUB_SEC.KEYS_FUSED 0 n.keysFused.toNat).wr HUB_SEC.VMIN_FUSED 0 n.vminFused.toNat).wr HUB_FW.FUSED_SVN 0 n.fusedSvn

/-- SURV_RST_N_RELEASE: VSEL of both rails takes the straps, and phase 1 begins (R185, R349). (DESIGN CHOICE, log entry 9.) -/
def execSurvRstNRelease (strap : BitVec 3) (s : State) : Host.Outcome State Fault Refusal :=
  let b := (s.b.afterReset false).loadFuses
  let b := b.each allFields (fun b f => (b.wr (F_RAIL.VSEL 0) f strap.toNat).wr (F_RAIL.VSEL 1) f strap.toNat)
  .next { s with tick := 0, b := b }

/-! ### BOOT (R350, R351) -/

def Block.phaseNo (b : Block) : Nat := b.rd HUB_STATE.START_PHASE 0
def Block.setPhaseNo (b : Block) (k : Nat) : Block := b.wr HUB_STATE.START_PHASE 0 k

/-- Records of the shutdown region whose CRC passes, newest first. -/
def Monument.shutdownsRead (m : Monument) : List MonRec := m.shutdowns.filter (fun r => r.whole)

/-- ACK of the latest shutdown record is written, or there is none (R172). -/
def Monument.ackRead (m : Monument) : Bool :=
  match m.shutdownsRead with
  | [] => true
  | r :: _ => fieldAt r.data 0x34 4 == 0

/-- A part that falls short of R306. -/
def slowPart (i : BootIn) : Bool :=
  !i.erases || !i.suspends || decide (50 < i.suspendUs.toNat) || decide (250 < i.tppMax.toNat) || decide (i.endurance.toNat < 100000)

/-- What H1 takes from the header in force; the sequence goes on behind it, and the boot counts (R308). Without a valid header the
values are those of an erased part. -/
def Monument.readHeader (m : Monument) : Monument :=
  let d := (m.header.map (fun r => r.data)).getD []
  let map := fieldAt d 21 32
  { m with
    bootSlotB := fieldAt d 8 1 == 1, bootCount := lowBits 32 (fieldAt d 9 4 + 1)
    badBlocks := (List.range 256).filter map.testBit, configB := fieldAt d 53 1 == 1, calB := fieldAt d 54 1 == 1
    hdrSeq := (m.header.map (fun r => r.seqNo + 1)).getD 0, acked := m.ackRead }

/-- The flash answers: SFDP, the header in force, the shutdown region, and the write positions (R306, R308, R311, R313). -/
def Block.openFlash (b : Block) (now : Nat) (i : BootIn) : Block :=
  let seqNo := match b.mon.pool with
    | [] => 0
    | r :: _ => r.seqNo + 1
  let b := (((b.wr HUB_MONUMENT.PRESENT 0 1).wr HUB_MONUMENT.READY 0 1).wr HUB_MONUMENT.FLASH_ID 0 i.flashId.toNat).wr HUB_MONUMENT.SEQ 0 seqNo
  let b := (b.wr HUB_MONUMENT.TPP_MAX_US 0 i.tppMax.toNat).wr HUB_MONUMENT.SUSPEND_US 0 i.suspendUs.toNat
  let b := b.showHeaders.cond (slowPart i) (fun b => (b.wr HUB_MONUMENT.SLOW_PART 0 1).fault 2 255 4 0)
  let b := b.crcSkipped 3 (b.mon.shutdowns.length - b.mon.shutdownsRead.length)
  let b := b.modMon (fun m => m.readHeader.keepHeader.keepAhead)
  (b.wr HUB_THERM.ACK_PENDING 0 (!b.mon.acked).toNat).headerWrite now

/-- The copy of a store that is read: the one the header names, or the other when that one fails its CRC (R350). -/
def pickCopy {α : Type} (l : List (α × Bool)) (useB : Bool) : Option (Bool × α) :=
  [useB, !useB].findSome? (fun k => match l.drop k.toNat with
    | x :: _ => if x.2 then some (k, x.1) else none
    | [] => none)

/-- The two stores; one neither of whose copies passes holds nothing: fused values and those of the image take its place (R350).
(DEDUCED, log entry 108.) -/
def Block.readStores (b : Block) : Block :=
  let b := match pickCopy b.mon.configs b.mon.configB with
    | some x => (b.modNv (fun n => n.withConfig x.2)).modMon (fun m => { m with configB := x.1 })
    | none => (b.modNv (fun n => n.withConfig ConfigStore.blank)).fault 3 255 0 0
  match pickCopy b.mon.cals b.mon.calB with
  | some x => (b.modNv (fun n => n.withCal x.2)).modMon (fun m => { m with calB := x.1 })
  | none => (b.modNv (fun n => n.withCal CalStore.blank)).fault 3 255 0 0

/-- A cadastre entry as numbers, in the order of its fields. -/
def Cad.words (c : Cad) : List Nat :=
  [c.flag, c.detAFail.toNat, c.detBFail.toNat, c.spareBroken.toNat, c.useSpare.toNat, c.fused.toNat, c.defaultSlot, c.localLimit, c.safeQ,
    c.updateTick] ++ c.trims ++ (c.sensorOfs ++ c.spareOfs).map (toCode 8)

/-- The digests of MR0, MR5 and MR6 (R286). (DESIGN CHOICE, log entry 156.) -/
def Nonvol.romDigest (n : Nonvol) : List Nat :=
  Config.sha384 (Config.romRecord n.romVer n.lifecycle n.fusedSvn [n.fwKey, n.debugKey, n.returnKey])
def Nonvol.configDigest (n : Nonvol) : List Nat := Config.sha384 (Config.configBytes n.outMap n.datums n.ceilSt n.contour)
def Nonvol.calDigest (n : Nonvol) : List Nat :=
  Config.sha384 (Config.calBytes n.cal (n.cad.map (fun e => (e.1, e.2.words))) n.chanCal n.bistRef n.gradeTab n.softRows n.cadFull)

/-- Boot ROM and hub loader start on the image of a slot: each class extends its register, every processor runs it, and the registers
that describe it follow (R265, R281, R286). -/
def Block.bootOn (b : Block) (now : Nat) (useB : Bool) : Block :=
  let img := b.mon.slot useB
  let b := b.each (List.range 4) (fun b k => b.extend now (k + 1) (secDigest img k))
  let b := (b.modMon (fun m => { m with forceB := useB })).each (List.range 87) (fun b p =>
    (b.modProc p (fun q => { q with imageB := useB, loaded := true })).enterComp p 0)
  (b.wr HUB_FW.ACTIVE_VER 0 (imgVer img)).wr HUB_FW.ACTIVE_SVN 0 (imgSvn img)

/-- Slot B holds a valid image, or not (R280). -/
def Block.showStaged (b : Block) (valid : Bool) : Block :=
  (b.wr HUB_FW.SLOT_B_VALID 0 valid.toNat).cond valid (fun b =>
    ((b.wr HUB_FW.ROLLOUT 0 rollStaged).wr HUB_FW.STAGED_VER 0 (imgVer b.mon.imgB)).wr HUB_FW.STAGED_SVN 0 (imgSvn b.mon.imgB))

/-- BOOT_IMAGE_LOAD: phases 2 and 3 of Table 15.1. The boot ROM takes the slot that the header names, or the other when that one is not
valid; with neither valid, or no flash, the start stops here (R350). The loader places the sections in every processor's memory.
(PRESUMED, log entry 5.) -/
def execBootImageLoad (i : BootIn) (s : State) : Host.Outcome State Fault Refusal :=
  let now := s.tick
  if s.b.pins.inReset = true ∨ s.b.phaseNo = 0 ∨ 3 < s.b.phaseNo then .next s
  else
    let b := (s.b.extend now 0 s.b.nv.romDigest).cond i.present (fun b => b.openFlash now i)
    let slotAOk := i.present && b.bootable b.mon.imgA
    let slotBOk := i.present && b.bootable b.mon.imgB
    let useB := if b.mon.bootSlotB then slotBOk else !slotAOk
    let b := ((b.showStaged slotBOk).wr HUB_FW.BOOT_SLOT 0 b.mon.bootSlotB.toNat).modHub (fun h => { h with bootFailed := !slotAOk && !slotBOk })
    if b.hub.bootFailed then .next { s with b := b.setPhaseNo 3 }
    else
      let mem := (List.range 87).foldl (placeSection (b.mon.slot useB)) s.mem
      let b := (b.bootOn now useB).readStores
      .next { s with mem := mem, b := ((b.extend now 5 b.nv.configDigest).extend now 6 b.nv.calDigest).setPhaseNo 4 }

/-- The contour table: fuses, calibration store and configuration store (R203). -/
def Block.buildContour (b : Block) : Block :=
  let n := b.nv
  let b := b.each n.contour (fun b e => { b with regs := mins e.1 e.2 (merase b.regs e.1), shadow := mins e.1 e.2 (merase b.shadow e.1) })
  let b := b.wr HUB_CONTOUR.GRADE 0 n.grade
  b.each (List.range 27) (fun b k =>
    let g := mget (0, 0) n.gradeTab k
    ((b.wr (HUB_CONTOUR.VALID k) 0 1).wr (HUB_CONTOUR.VMIN_FUSED k) 0 (mget 0 n.vmin k)).wr (HUB_CONTOUR.GRADE_IDLE k) 0 g.1 |>.wr
      (HUB_CONTOUR.GRADE_DYN k) 0 g.2)

/-- A page field in force and in the shadow. -/
def Block.load2 (b : Block) (fd : Fld) (i v : Nat) : Block := (b.wr fd i v).wrS fd i v

/-- What firmware loads of one field: datums D2 to D7, cadastre share, calibration figures, BIST reference, default model.
(DEDUCED, log entry 123.) -/
def Block.loadField (b : Block) (now f : Nat) : Block :=
  let n := b.nv
  let b := b.each ([0, 1].flatMap (fun rl => (List.range 6).map (fun k => (rl, k + 2)))) (fun b x =>
    match n.datums.find? (fun e => e.1 == (2 * f + x.1) * 8 + x.2) with
    | some e => b.load2 (F_RAIL.DATUM x.1 x.2) f e.2
    | none => b)
  let b := b.each (keysIn n.cad (pid f 0) 672) (fun b k => b.setCadE k { mget Cad.reset n.cad k with dirty := false })
  let c := mget (0, 0) n.cal f
  let b := (b.wr F_LIMIT.FLOOR0 f c.1).wr F_LIMIT.IDLE0 f c.2
  let ref := mget 0 n.bistRef f
  let b := (b.wr F_BIST.REF_LO f ref).wr F_BIST.REF_HI f (ref / 2 ^ 32)
  b.loadDefault now f (Config.defaultModel (b.secOf f))

/-- H1 writes the default cadastre entries of slots that the calibration store does not hold (R432). -/
def Block.fillCad (b : Block) (now : Nat) : Block :=
  if b.nv.cadFull then b else (b.modNv (fun n => { n with cadFull := true })).saveStore now true

/-- DATA byte 1 of event 0x40 (R351). -/
def Monument.bootReason (m : Monument) : Nat :=
  if !m.acked then 1
  else match m.pool with
    | r :: _ => if r.flags.testBit 1 || r.code == 0x142 then 2 else 0
    | [] => 0

/-- Entry `n` of Aelvouc's queue order: priority 7 to 0, and within a priority DENSE, SPARSE, COMPAT, VECTOR, MOVE (R131). -/
def orderByte (n : Nat) : Nat := 8 * (1 + n % 5) + (7 - n / 5)

/-- A field's QUEUE_ORDER at the start. -/
def Block.queueStart (b : Block) (f : Nat) : Block :=
  b.each (List.range 10) (fun b k => b.wr (F_TICKET.QUEUE_ORDER k) f (leNat ((List.range 4).map (fun j => orderByte (4 * k + j)))))

/-- The soft repair entries of the calibration store (R331, R350). -/
def Block.softEntries (b : Block) : Block :=
  b.each b.nv.softRows (fun b x =>
    let l := (b.memSt x.1).inBank x.2.1
    b.cond (decide (l.length < 4) && !l.any (fun e => e.2.1 == x.2.2)) (fun b => b.modMemSt x.1 (fun m => { m with
      repairs := m.repairs ++ [(x.2.1, x.2.2, false)] })))

/-- The first 32 bits of the SHA-384 of a key pair's public key (R287). (DESIGN CHOICE, log entry 12.) -/
def attKeyId (key : List Nat) : Nat := fieldAt (Config.sha384 (Config.attPublic key)) 0 4

/-- BOOT_END: phase 4, event 0x40, and SELFTEST begins (R351, R353). -/
def execBootEnd (s : State) : Host.Outcome State Fault Refusal :=
  onB s (fun now b =>
    if b.phaseNo ≠ 4 ∨ b.hub.bootFailed = true then b
    else
      let why := b.mon.bootReason
      let b := (b.buildContour.softEntries.load2 HUB_CAP.CEIL_ST 0 b.nv.ceilSt).each allFields (fun b f => (b.loadField now f).queueStart f)
      let b := b.fillCad now
      let key := Config.attKeyPair b.nv.deviceSecret b.nv.lifecycle
      let b := ((b.wr HUB_SEC.KEY_VALID 0 1).wr HUB_FW.ATT_KEY_ID 0 (attKeyId key)).modHub (fun h => { h with bootDone := true, attKey := some key })
      let b := b.monEvent now 0 0x40 (srcHub + 2) [b.nv.lifecycle, why]
      let b := (b.each (List.range 85) (fun b k => b.marchStart k false)).each allFields (fun b f => b.bistStart [3, 5] f)
      (b.setPhaseNo 5).evalMgr now)

/-- SELFTEST_END: SHUTDOWN when R172 holds the rails off, RAMP otherwise (R353). (DEDUCED, log entry 106.) -/
def execSelftestEnd (s : State) : Host.Outcome State Fault Refusal :=
  onB s (fun now b =>
    if b.phaseNo ≠ 5 ∨ b.mems.any (fun e => e.2.marching) = true ∨ b.fields.any (fun e => e.2.bistRunning) = true then b
    else if !b.mon.acked || (!b.mon.shutdownsRead.isEmpty && !b.exitReady) then
      (((b.setPhaseNo 6).modHub (fun h => { h with shutHold := true })).wr HUB_THERM.COOL_WAIT 0 1).evalMgr now |>.publishLevel
    else b.enterRamp now)

/-! ### Thermal shutdown after tick D (R170, R171, R285) -/

/-- A thermal shutdown ends an activation: every processor boots from the boot slot of the header, each class extending its register
once, and slot B stays valid (R285). (DESIGN CHOICE, log entry 155.) -/
def Block.endActivation (b : Block) (now : Nat) : Block :=
  if !b.activating then b
  else
    let useB := b.mon.bootSlotB
    let b := b.modHub (fun h => { h with order := [], rollback := [], rollField := false })
    let b := (b.each activationOrder (fun b p => b.startOn now 0 p causeUpdate useB)).modMon (fun m => { m with forceB := useB })
    let img := b.mon.slot useB
    let b := ((b.wr HUB_FW.ROLLOUT 0 rollStaged).wr HUB_FW.ACTIVE_VER 0 (imgVer img)).wr HUB_FW.ACTIVE_SVN 0 (imgSvn img)
    b.completeWhere now (fun w => if w = .activation then some (stUnmet, 0xFF, [0xFF]) else none)

/-- SHUTDOWN_RAMPDOWN: tick D + 1 of Table 7.5. The record's ABORTED is the number of accounts that this
closes. (DESIGN CHOICE, log entry 79; DEDUCED, log entry 131.) -/
def execShutdownRampdown (s : State) : Host.Outcome State Fault Refusal :=
  onB s (fun now b => match b.hub.tripRec with
    | none => b
    | some r =>
      if now ≤ r.tick then b
      else
        let fr := b.fresh
        let b := fr.2.each allFields (fun b f => b.softStop now f (fr.1 % 16))
        let opened := (keysOf b.accounts).filter (fun n => (b.acct n).st == 1)
        let b := b.each opened (fun b n => b.abortAccount now n 3)
        let b := (b.leaveGroup now 0 2).monRecord
          { r with data := sealShutdown (r.data.take 0x2C ++ leBytes 4 opened.length ++ r.data.drop 0x30) }
        let b := (b.modHub (fun h => { h with tripRec := none })).endActivation now
        let b := (b.inc HUB_THERM.SHUT_COUNT 0).wr2 HUB_THERM.SHUT_TICK_LO HUB_THERM.SHUT_TICK_HI 0 r.tick
        let b := ((b.wr HUB_THERM.SHUT_READING 0 (fieldAt r.data 0x10 2)).wr HUB_THERM.SHUT_FIELD 0 (fieldAt r.data 0x0C 1)).wr
          HUB_THERM.SHUT_KIND 0 (fieldAt r.data 0x0D 1)
        (b.wr HUB_THERM.ACK_PENDING 0 1).modMon (fun m => { m with acked := false }))

/-! ### Soft start by groups (R355 to R357, R366, R367) -/

/-- Fields in soft start. -/
def Block.starting (b : Block) : List Nat := allFields.filter (fun f => (b.rail (railOf f 0)).run == 1)

/-- PWR_FAIL_N is deasserted and the sequence of R318 does not run. -/
def Block.powerOk (b : Block) : Bool := !b.hub.pfPin && !b.holdup

/-- The field may take part in a start (R356). -/
def Block.mayStart (b : Block) (f : Nat) : Bool := !b.nv.outMap.contains f && decide (10800 ≤ (b.fu f).vin) && b.powerOk

/-- Every field that has started had ended its soft start by the latest tick mark. -/
def Block.startsEnded (b : Block) : Bool := b.fields.all (fun e => !e.2.started || e.2.startOver)

/-- Fields of the next group: 12 g to 12 g + 11, and after group 6 those skipped that now qualify. -/
def Block.nextGroup (b : Block) : List Nat :=
  let g := b.hub.group
  if g < 7 then ((List.range 12).map (fun k => 12 * g + k)).filter b.mayStart
  else (allFields.filter (fun f => !(b.fu f).started && b.mayStart f)).take 12

/-- GROUP_SOFT_START (R355, R356). -/
def execGroupSoftStart (s : State) : Host.Outcome State Fault Refusal :=
  onB s (fun now b =>
    let g := b.hub.group
    let l := b.nextGroup
    if b.phaseNo ≠ 6 ∨ b.hub.shutHold = true ∨ b.hub.tripped = true ∨ (7 ≤ g ∧ l = []) ∨
        (g ≠ 0 ∧ (now < b.hub.groupTick + 256 ∨ b.startsEnded = false)) then b
    else (b.each l (fun b f => b.softStart now f)).modHub (fun h => { h with group := g + 1, groupTick := now }))

/-- A field starts after the takeover: to the targets of the point in force (R367). -/
def Block.lateStart (b : Block) (now f : Nat) : Block := (b.retarget now f).softStart now f

/-- FIELD_VIN_RESTART: a field out with cause 7 qualifies, and starts or takes its place in the queue (R366, R367). -/
def execFieldVinRestart (f : FieldNo) (s : State) : Host.Outcome State Fault Refusal :=
  onB s (fun now b =>
    if b.rd F_ID.OUT_CAUSE f ≠ 7 ∨ b.isOut f = false ∨ (b.fu f).vinGood < 1024 ∨ b.powerOk = false ∨ b.mgr = 8 ∨ b.hub.takenOver = false ∨
        b.pairUp f = true then b
    else if b.starting.length < 12 then b.lateStart now f
    else b.modFu f (fun u => { u with startQueued := true }))

/-! ### Takeover and calibration (R358 to R362) -/

/-- Every field has ended its soft start, is in the out-of-service map, or has waited 500 ms for VIN (R356, R359). -/
def Block.groupsOver (b : Block) (now : Nat) : Bool :=
  decide (7 ≤ b.hub.group) && b.startsEnded &&
  allFields.all (fun f => (b.fu f).started || b.nv.outMap.contains f || decide (b.hub.rampTick + 244140 ≤ now))

/-- TAKEOVER (R359). (DEDUCED, log entry 88.) -/
def execTakeover (s : State) : Host.Outcome State Fault Refusal :=
  onB s (fun now b =>
    if b.phaseNo ≠ 6 ∨ b.groupsOver now = false then b
    else
      let b := b.each (allFields.filter (fun f => !(b.fu f).started)) (fun b f =>
        b.wr F_ID.OUT_CAUSE f (if b.nv.outMap.contains f then 8 else 7))
      let b := ((b.wr HUB_LOCK.POINT 0 0).modHub (fun h => { h with takenOver := true })).setPhaseNo 7
      b.each (allFields.filter b.railsOn) (fun b f => (b.retarget now f).shapeNumbers f))

/-- Step 1 of Table 15.2 begins. -/
def Block.calibrate (b : Block) (now f : Nat) : Block :=
  (b.modFu f (fun u => { u with calStep := 1, calFrom := now, calSum := 0, calTicks := 0, calBad := false, calIdle := 0 })).bistStart [1, 2, 4, 6] f

/-- H0 announces the step to BOOT_POINT once every field is calibrated (R362). -/
def Block.calibrationOver (b : Block) (now : Nat) : Block :=
  if b.phaseNo ≠ 8 ∨ b.fields.any (fun e => e.2.calStep != 0) = true then b
  else
    let b := b.setPhaseNo 9
    let p := b.rd HUB_CONTOUR.BOOT_POINT 0
    if p = 0 then b else b.announce now 0 p (now + b.stepLead) none false

/-- ENGINE_CLOCK_START: the boundary after a tick whose reports show every started pair arrived (R358 to R360). -/
def execEngineClockStart (s : State) : Host.Outcome State Fault Refusal :=
  onB s (fun now b =>
    let l := allFields.filter b.railsOn
    if b.phaseNo ≠ 7 ∨ l.any (fun f => !(b.repOf f).arrived || b.hub.arrived.contains f) = true then b
    else
      let b := (b.modHub (fun h => { h with clockOn := true })).setPhaseNo 8
      (b.each l (fun b f => b.calibrate now f)).calibrationOver now)

/-- CALIBRATION_STEP: the next step of Table 15.2; a field that starts after READY has step 1 only (R360, R367).
(DESIGN CHOICE, log entry 116.) -/
def execCalibrationStep (f : FieldNo) (s : State) : Host.Outcome State Fault Refusal :=
  onB s (fun now b =>
    let u := b.fu f
    let go (k sum ticks idle : Nat) (bad : Bool) : Block := b.modFu f (fun u => { u with
      calStep := k, calFrom := now, calSum := sum, calTicks := ticks, calBad := bad, calIdle := idle })
    match u.calStep with
    | 1 =>
      if u.bistRunning || b.rd F_BIST.RUN_TICK f == lowBits 32 now then b
      else if b.phaseNo = 0 then b.modFu f (fun u => { u with calStep := 0, serviceDue := true })
      else go 2 0 0 0 false
    | 2 => if now < u.calFrom + 64 then b else go 3 0 0 0 false
    | 3 => if now < u.calFrom + 256 then b else go 4 0 0 (u.calSum / max 1 u.calTicks / 2000) (u.calBad || decide (u.calTicks < 256))
    | 4 => if now < u.calFrom + 64 then b else go 5 0 0 u.calIdle u.calBad
    | _ => b)

/-- n × v / 2000, rounded up. -/
def ceilDiv (a d : Nat) : Nat := (a + d - 1) / d

/-- FLOOR0 and IDLE0 from the grade figures of point 0 (R361). -/
def Block.gradeFigures (b : Block) (f : Nat) : Nat × Nat :=
  let n := (b.actives f).length
  let idle := b.rd (HUB_CONTOUR.GRADE_IDLE 0) 0
  let dyn := b.rd (HUB_CONTOUR.GRADE_DYN 0) 0
  (ceilDiv (n * (64 * idle + dyn)) 128000, ceilDiv (n * idle) 2000)

/-- FLOOR0 and IDLE0 in force, and in the calibration store. (DEDUCED, log entry 107.) -/
def Block.putCalibration (b : Block) (now f : Nat) (x : Nat × Nat) : Block :=
  let b := (b.wr F_LIMIT.FLOOR0 f x.1).wr F_LIMIT.IDLE0 f x.2
  (b.modNv (fun n => { n with cal := mput (0, 0) n.cal f x })).saveStore now true

/-- The signature becomes the field's reference when the store holds none (R343, R361). -/
def Block.keepReference (b : Block) (now f : Nat) : Block :=
  if b.nv.bistRef.any (fun e => e.1 == f) then b
  else
    let lo := b.rd F_BIST.SIG_LO f
    let hi := b.rd F_BIST.SIG_HI f
    ((((b.modNv (fun n => { n with bistRef := mins f (lo + 2 ^ 32 * hi) n.bistRef })).wr F_BIST.REF_LO f lo).wr F_BIST.REF_HI f hi).wr
      F_BIST.SIG_MATCH f 1).saveStore now true

/-- CALIBRATION_COMPLETE: the end of step 5 (R361, R362). (DESIGN CHOICE, log entry 116.) -/
def execCalibrationComplete (f : FieldNo) (s : State) : Host.Outcome State Fault Refusal :=
  onB s (fun now b =>
    let u := b.fu f
    if u.calStep ≠ 5 ∨ now < u.calFrom + 256 then b
    else
      let x := if u.calBad || decide (u.calTicks < 256) then b.gradeFigures f else (u.calSum / u.calTicks / 2000, u.calIdle)
      let b := (b.putCalibration now f x).keepReference now f
      let b := b.modFu f (fun u => { u with calStep := 0, calibrated := true })
      b.putFloor.calibrationOver now)

/-! ### Into service (R361, R362, R365, R367, R434, R435) -/

/-- A field leaves the marked-out state: pools are filled before any grant of the boundary, and its cores start unless a halt is in
force. -/
def Block.enterService (b : Block) (now f : Nat) : Block :=
  let halt := b.haltInForce || b.haltSt == haltStopping
  let pool := b.rd F_TICKET.POOL_MAX f
  let b := (b.wr F_ID.MARKED_OUT f 0).wr F_ID.OUT_CAUSE f 0
  (b.each (b.actives f) (fun b s => b.modAgent (pid f s) (fun a => { a with pool := pool, poolSnap := pool, halted := halt }))).represent now f

/-- READY_ENTRY: the clock has taken BOOT_POINT; calibrated fields enter service, and event 0x48 names the others (R354, R362,
R363). -/
def execReadyEntry (s : State) : Host.Outcome State Fault Refusal :=
  onB s (fun now b =>
    if b.phaseNo ≠ 9 ∨ b.point ≠ b.rd HUB_CONTOUR.BOOT_POINT 0 ∨ b.hub.steps ≠ [] then b
    else
      let halt := b.haltInForce || b.haltSt == haltStopping
      let b := (b.setPhaseNo 0).each (allFields.filter (fun f => (b.fu f).calibrated && b.railsOn f)) (fun b f => b.enterService now f)
      let b := b.modHub (fun h => { h with wires := halt })
      let b := b.each (allFields.filter b.isOut) (fun b f => b.monEvent now 0 0x48 (srcField f) [f, b.rd F_ID.OUT_CAUSE f])
      b.putFloor.evalMgr now)

/-- FIELD_BACK_IN_SERVICE: the boundary after step 1 of a field that started after READY (R365, R367, R434). -/
def execFieldBackInService (f : FieldNo) (s : State) : Host.Outcome State Fault Refusal :=
  onB s (fun now b =>
    if !(b.fu f).serviceDue || !b.railsOn f then b
    else
      let b := b.modFu f (fun u => { u with serviceDue := false, calibrated := true })
      let known := b.nv.cal.any (fun e => e.1 == f.val)
      let x := if known then mget (0, 0) b.nv.cal f else b.gradeFigures f
      let b := (b.wr F_LIMIT.FLOOR0 f x.1).wr F_LIMIT.IDLE0 f x.2
      let b := (b.enterService now f).monEvent now 0 0x49 (srcField f) [f]
      b.putFloor.enableDone now f true)

end Sys2Proof.Machine
end

