-- ==== Sys2Proof/Machine/Window.lean ====
section
/-!
DEFINITION. The command window's own commands, the journal and the lease (R377, R381, R388 to R393).
-/

namespace Sys2Proof.Machine

open Sys2Proof

/-- PING (R381). -/
def execPing (c : Cmd) (s : State) : Host.Outcome State Fault Refusal :=
  .next (runCmdB 0x01 c s none (fun now pt b => b.done now pt [lowBits 32 now, lowBits 16 (now / 2 ^ 32) + 2 ^ 16 * b.mgr]))

/-! ### Lease (R391 to R393) -/

/-- Ticks of LEASE_TIMEOUT: 488.28125 for each ms, rounded down (R391). -/
def Block.leaseTicks (b : Block) : Nat := b.rd HUB_LEASE.LEASE_TIMEOUT 0 * 15625 / 32

/-- The tick from which port `p`'s lease counts. -/
def Block.leaseFrom (b : Block) (p : Nat) : Nat := mget 0 b.hub.leaseTick p

/-- Set or clear the lease of port `p`; the unattended policy is in force while no port holds one (R393). -/
def Block.setLease (b : Block) (now p : Nat) (v : Bool) : Block :=
  let b := b.setFlag HUB_LEASE.HELD 0 p v
  let un := b.rd HUB_LEASE.HELD 0 == 0
  let b := b.cond (un && !b.bit HUB_LEASE.UNATTENDED 0) (fun b => b.wr HUB_LEASE.UNATT_TICK 0 now)
  b.wrB HUB_LEASE.UNATTENDED 0 un

/-- EXPIRY_TICK of port `p`. (DESIGN CHOICE, log entry 41.) -/
def Block.putExpiry (b : Block) (p : Nat) : Block := b.wr (HUB_LEASE.EXPIRY_TICK p) 0 (b.leaseFrom p + b.leaseTicks)

/-- A LEASE takes or renews the lease of port `p`; one that takes it counts an epoch. -/
def Block.takeLease (b : Block) (now p : Nat) : Block :=
  let b := b.cond (!b.flag HUB_LEASE.HELD 0 p) (fun b => b.inc (HUB_LEASE.LEASE_EPOCH p) 0)
  let b := (b.modHub (fun h => { h with leaseTick := mput 0 h.leaseTick p now })).wr (HUB_LEASE.RENEW_TICK p) 0 now
  (b.putExpiry p).setLease now p true

/-- LEASE (R391). (DEDUCED, log entry 43.) -/
def execLease (c : Cmd) (s : State) : Host.Outcome State Fault Refusal :=
  .next (runCmdB 0x02 c s none (fun now pt b =>
    let before := b.hub.leaseExpired.contains pt
    let b := b.modHub (fun h => { h with leaseExpired := h.leaseExpired.filter (· != pt) })
    let b := if c.opt 0 then b.setLease now pt false else b.takeLease now pt
    b.done now pt [b.rd (HUB_LEASE.LEASE_EPOCH pt) 0, b.rd (HUB_LEASE.EXPIRY_TICK pt) 0, before.toNat]))

/-- The event entry of a lease expiry: what Table 16.9 gives for a status or a submission is open in it.
(DESIGN CHOICE, log entry 42.) -/
def leaseEntry (now p epoch : Nat) (open_ : List Nat) : JEntry :=
  { tick := now, cmdSeq := 0, opcode := 0x02, options := lowBits 8 (open_.getD 0 0), status := lowBits 8 (open_.getD 1 0)
    flags := p + 16, detail := lowBits 32 (open_.getD 2 0), arg0 := epoch, digest := lowBits 32 (open_.getD 3 0)
    submitTick := lowBits 32 (open_.getD 4 0), jseq := 0 }

/-- `n` free values. -/
def Block.freshes (b : Block) : Nat → List Nat × Block
  | 0 => ([], b)
  | n + 1 =>
    let x := b.fresh
    let r := x.2.freshes n
    (x.1 :: r.1, r.2)

/-- LEASE_EXPIRY: the first boundary at which LEASE_TIMEOUT has passed (R391, R392). (DESIGN CHOICE, log entry 42.) -/
def execLeaseExpiry (p : CmdPort) (s : State) : Host.Outcome State Fault Refusal :=
  onB s (fun now b =>
    let k := portNo p
    if b.flag HUB_LEASE.HELD 0 k = false ∨ now < b.leaseFrom k + b.leaseTicks then b
    else
      let x := b.freshes 5
      let b := x.2.setLease now k false
      let b := b.modHub (fun h => { h with
        leaseExpired := k :: h.leaseExpired.filter (· != k)
        staged := h.staged ++ [leaseEntry now k (b.rd (HUB_LEASE.LEASE_EPOCH k) 0) x.1] })
      (b.inc (HUB_LEASE.EXPIRIES k) 0).fault 30 255 k 0)

/-- Processors not in RUN. -/
def Block.procsDown (b : Block) : Nat := (b.procs.filter (fun e => e.2.st != 0)).length

/-- Accounts OPEN or CLOSING (Table 10.5). -/
def Block.openCount (b : Block) : Nat := (b.accounts.filter (fun e => e.2.st == 1 || e.2.st == 2)).length

/-- The first response word of QUERY_STATE. -/
def Block.stateWord (b : Block) : Nat :=
  b.mgr + 16 * b.collector + 2 ^ 8 * b.haltSt + 2 ^ 11 * b.rd HUB_LEASE.UNATTENDED 0 + 2 ^ 12 * b.point +
  2 ^ 17 * b.rd HUB_CONTOUR.PLUMB_ON 0 + 2 ^ 18 * b.rd HUB_LOCK.FROZEN 0

/-- Bit p: a command is in flight on port p. -/
def Block.inFlight (b : Block) : Nat :=
  ([0, 1, 2].map (fun p => if (b.port p).flight.isSome then 2 ^ p else 0)).sum

/-- QUERY_STATE (R381). -/
def execQueryState (c : Cmd) (s : State) : Host.Outcome State Fault Refusal :=
  .next (runCmdB 0x03 c s none (fun now pt b => b.done now pt
    [b.stateWord, lowBits 32 now, b.rd HUB_JOURNAL.JOURNAL_WR 0, b.rd HUB_LEASE.HELD 0 + 16 * b.inFlight, b.openCount,
     b.rd HUB_FAULT.FAULT_STATUS 0, b.procsDown, 84 - b.inService.length]))

/-! ### Journal (R388 to R390) -/

/-- The 32 bytes of an entry (Table 16.9). -/
def JEntry.bytes (e : JEntry) : List Nat :=
  leBytes 6 e.tick ++ leBytes 2 e.cmdSeq ++ [e.opcode, e.options, e.status, e.flags] ++ leBytes 4 e.detail ++ leBytes 4 e.arg0 ++
  leBytes 4 e.digest ++ leBytes 4 e.submitTick ++ leBytes 4 e.jseq

/-- Does H1 mirror the entry (R390)? -/
def JEntry.mirrors (e : JEntry) : Bool :=
  e.flags.testBit 4 ||
  (decide (0x10 ≤ e.opcode) && !([0x22, 0x48, 0x78, 0x88] : List Nat).contains e.opcode && [stDone, stAccepted, stUnmet].contains e.status)

/-- H1 appends one staged entry, and mirrors it while MIRROR_EN is 1. -/
def Block.append (b : Block) (e : JEntry) : Block :=
  let n := b.rd HUB_JOURNAL.JOURNAL_WR 0
  let m := b.bit HUB_MONUMENT.MIRROR_EN 0 && e.mirrors
  let e := { e with jseq := n, flags := if m then e.flags ||| 8 else e.flags }
  let b := (b.modHub (fun h => { h with journal := (h.journal ++ [e]).drop (h.journal.length + 1 - 4096) })).inc HUB_JOURNAL.JOURNAL_WR 0
  if m then
    b.monQueue false { tier := 4, code := 0, tick := e.tick, offset := 0, source := srcHub + 2, suppressed := 0, flags := 0
                       seqNo := n, data := e.bytes, whole := true }
  else b

/-- Statuses that waited for room are written in order (R276). (DESIGN CHOICE, log entry 41.) -/
def Block.payOwed (b : Block) (now pt : Nat) : Block :=
  match (b.port pt).flight with
  | none => b
  | some fl => fl.owed.foldl (fun b o => b.status now pt { fl with owed := [] } o.status o.detail o.data)
      (b.modPort pt (fun p => { flight := p.flight.map (fun x => { x with owed := [] }) }))

/-- JOURNAL_APPEND: H1, in RUN, appends the staged entries (R276, R389, R390). -/
def execJournalAppend (s : State) : Host.Outcome State Fault Refusal :=
  onB s (fun now b =>
    if (b.proc 85).st ≠ 0 then b
    else
      let l := b.hub.staged
      let b := (b.modHub (fun h => { h with staged := [] })).each l (fun b e => b.append e)
      b.each [0, 1, 2] (fun b pt => b.payOwed now pt))

end Sys2Proof.Machine
end

