-- ==== Sys2Proof/Machine/Views.lean ====
section
/-!
DEFINITION. What a read shows: register fields that follow other state, the common header, SRAM regions that hold typed
records, and the window map (R407 to R421, R415, R416, R430, R433).
-/

namespace Sys2Proof.Machine

open Sys2Proof

/-- Bits of one word of a field map: fields 32 k to 32 k + 31. (DEDUCED, log entry 44.) -/
def fieldMap (k : Nat) (g : Nat → Bool) : Nat :=
  ((List.range 32).filter (fun j => decide (32 * k + j < 84) && g (32 * k + j))).foldl (fun a j => a + 2 ^ j) 0

/-- Bits of a short list of conditions, bit 0 first. -/
def bitsFrom (n : Nat) (g : Nat → Bool) : Nat := ((List.range n).filter g).foldl (fun a j => a + 2 ^ j) 0

/-! ### Error summaries (R421, R428, R429) -/

/-- An enabled PAGE_ERR bit of the page is set. -/
def Block.errOn (b : Block) (key : Nat) : Bool := (b.page key).err &&& (b.page key).errEn != 0

/-- Pages of field `f` with an enabled error. -/
def Block.errPages (b : Block) (f : Nat) : Nat := bitsFrom 16 (fun p => b.errOn (pageKey (0x40 + p) f))

/-! ### Register fields that follow other state -/

/-- Slots of a field in a state. -/
def Block.slotCount (b : Block) (f : Nat) (g : Slot → Bool) : Nat := ((b.slotsOf f).filter (fun e => g e.2)).length
/-- The same over the wafer. -/
def Block.slotTotal (b : Block) (g : Slot → Bool) : Nat := (b.slots.filter (fun e => g e.2)).length

/-- Word 0 of a context (Table 6.4) with a HELD: the hub's, set at the evaluation, or that of the field copies (R137). -/
def Ctx.word0 (c : Ctx) (held : Bool) : Nat :=
  c.st * 2 ^ 30 + held.toNat * 2 ^ 29 + c.prioBoost * 2 ^ 24 + c.capShare * 2 ^ 16 + c.lockGroup * 2 ^ 8
/-- Words of a job power context. -/
def Block.ctxWord (b : Block) (n k : Nat) : Nat :=
  let c := b.ctx n
  let count (st : Nat) : Nat := b.slotTotal (fun t => t.st == st && jobOf t.task == n)
  match k with
  | 0 => c.word0 c.heldNow
  | 1 => c.openTick
  | 2 => c.jobPower
  | 3 => c.heldTicks
  | 4 => count 1 + (b.hub.wq.filter (fun e => jobOf e.req.task.toNat == n)).length
  | 5 => count 2
  | 6 => count 3
  | _ => 0

/-- Seconds left of the rundown (R168). -/
def Block.rundownLeft (b : Block) (now : Nat) : Nat :=
  if !b.bit HUB_COOL.RUNDOWN 0 || !b.hub.marked then 0
  else match b.hub.rundownFrom with
    | none => b.rd HUB_COOL.RUNDOWN_S 0
    | some t => (b.rundownSc - (now - t) * 2048) / 1000000000

/-- The wafer's maximum temperature and its field, by the reports that the hub holds (R153). (DEDUCED, log entry 60.) -/
def Block.waferTmax (b : Block) : Int × Nat :=
  match b.hub.reports with
  | [] => (0, 0)
  | r :: rest => rest.foldl (fun a e => if a.1 < e.2.tmax then (e.2.tmax, e.1) else a) (r.2.tmax, r.1)

/-- Field of a hub page that is not kept as a register. -/
def Block.viewHub (b : Block) (now : Nat) (fd : Fld) : Option Nat :=
  match fd.page, fd.off, fd.lo with
  | 0x10, 0x060, _ => some (fieldMap 0 b.isOut)
  | 0x10, 0x064, _ => some (fieldMap 1 b.isOut)
  | 0x10, 0x068, _ => some (fieldMap 2 b.isOut)
  | 0x10, 0x06C, _ => some (bitsFrom 25 (fun p => b.errOn (pageKey (0x10 + p) 0)))
  | 0x10, 0x070, _ => some (fieldMap 0 (fun f => b.errPages f != 0))
  | 0x10, 0x074, _ => some (fieldMap 1 (fun f => b.errPages f != 0))
  | 0x10, 0x078, _ => some (fieldMap 2 (fun f => b.errPages f != 0))
  | 0x11, 0x040, _ => some now
  | 0x11, 0x044, _ => some (now / 2 ^ 32)
  | 0x16, 0x064, _ => some (min 16 b.hub.staged.length)
  | 0x16, 0x070, _ => some (b.rd HUB_JOURNAL.JOURNAL_WR 0 - 4096)
  | 0x18, 0x06C, _ => some (if b.collector = colRecovering then b.hub.quietFrom + quietTicks - now else 0)
  | 0x18, 0x074, _ => some (min 9 (b.hub.recoveries.filter (fun t => decide (now < t + hourTicks))).length)
  | 0x19, 0x060, 6 => some b.holdup.toNat
  | 0x19, 0x060, 5 => some (b.mon.erasing != 0).toNat
  | 0x19, 0x060, 4 => some b.mon.suspended.toNat
  | 0x19, 0x06C, _ => some b.mon.firstN.length
  | 0x19, 0x070, _ => some b.mon.writePos
  | 0x19, 0x074, 16 => some b.mon.badBlocks.length
  | 0x19, 0x074, _ => some b.mon.ahead
  | 0x19, 0x090, _ => some ((b.mon.blockErases.map Prod.snd).foldl max 0)
  | 0x19, 0x094, _ => some b.mon.bootCount
  | 0x19, 0x098, _ => some b.mon.queue.length
  | 0x19, 0x104, 16 => some (mget 0 b.mon.suppressed (b.rd HUB_MONUMENT.CODE_SEL 0))
  | 0x19, 0x104, _ => some (mget 8 b.mon.tokens (b.rd HUB_MONUMENT.CODE_SEL 0))
  | 0x1A, 0x104, _ => some b.openCount
  | 0x1A, 0x10C, _ => none
  | 0x1D, 0x060, 6 => some (min 2 b.hub.steps.length)
  | 0x1D, 0x068, 0 => some ((b.hub.steps.head?.map (fun x => x.point)).getD 0)
  | 0x1D, 0x06C, _ => some ((b.hub.steps.head?.map (fun x => x.due)).getD 0)
  | 0x1F, 0x060, 2 => some 0
  | 0x1F, 0x060, 0 => some (if b.bufOn 84 then (b.trace 84).st else 0)
  | 0x1F, 0x06C, _ => some (b.trace 84).fill
  | 0x21, 0x0C0, _ => some (fieldMap 0 (fun f => (b.proc f).st != 0))
  | 0x21, 0x0C4, _ => some (fieldMap 1 (fun f => (b.proc f).st != 0))
  | 0x21, 0x0C8, _ => some (fieldMap 2 (fun f => (b.proc f).st != 0))
  | 0x22, 0x060, 30 => some b.nv.lifecycle
  | 0x23, 0x060, 3 => some 0
  | 0x24, 0x060, 1 => some (allFields.any b.throttling).toNat
  | 0x24, 0x060, 0 => some (allFields.any (fun f => b.bit F_THERM.WARN f)).toNat
  | 0x24, 0x064, 16 => some (toCode 16 b.waferTmax.1)
  | 0x24, 0x064, _ => some b.waferTmax.2
  | 0x24, 0x068, _ => some (fieldMap 0 (fun f => b.bit F_THERM.WARN f))
  | 0x24, 0x06C, _ => some (fieldMap 1 (fun f => b.bit F_THERM.WARN f))
  | 0x24, 0x070, _ => some (fieldMap 2 (fun f => b.bit F_THERM.WARN f))
  | 0x24, 0x074, _ => some (fieldMap 0 b.throttling)
  | 0x24, 0x078, _ => some (fieldMap 1 b.throttling)
  | 0x24, 0x07C, _ => some (fieldMap 2 b.throttling)
  | 0x25, 0x068, 16 => some (b.rundownLeft now)
  | 0x27, 0x07C, _ => some (b.slotTotal (fun t => t.st == 1) + b.hub.wq.length)
  | 0x27, 0x080, _ => some (b.slotTotal (fun t => t.st == 2))
  | 0x27, 0x084, _ => some (b.slotTotal (fun t => t.st == 3))
  | 0x27, 0x088, _ => some (b.ctxs.filter (fun e => e.2.heldNow)).length
  | _, _, _ => none

/-- Registers of a hub page that repeat at a stride: processors, repair entries, the selected account and context. -/
def Block.viewHubRow (b : Block) (fd : Fld) : Option Nat :=
  if fd.page = 0x1A ∧ 0x044 ≤ fd.off ∧ fd.off ≤ 0x100 then
    some (fieldAt (b.acct (b.rd HUB_ACCOUNT.ACC_SEL 0)).bytes (fd.off - 0x044) 4)
  else if fd.page = 0x27 ∧ 0x094 ≤ fd.off then some (b.ctxWord (b.rd HUB_TICKET.CTX_SEL 0) ((fd.off - 0x094) / 4))
  else if fd.page = 0x21 ∧ 0x080 ≤ fd.off ∧ fd.off < 0x0B0 then
    let q := b.proc (84 + (fd.off - 0x080) / 16)
    some (match fd.off % 16, fd.lo with
      | 0, 28 => q.st
      | 0, 27 => q.imageB.toNat
      | 0, _ => q.cause
      | 4, _ => q.restarts
      | 8, _ => q.compFaults
      | _, _ => q.causeTick)
  else if fd.page = 0x21 ∧ 0x0B0 ≤ fd.off ∧ fd.off < 0x0BC then some (b.proc (84 + (fd.off - 0x0B0) / 4)).logWr
  else none

/-- SPARES, SOFT_REPAIRS and the repair entries of the bank that REPAIR_BANK selects (R330). -/
def Block.viewMem (b : Block) (k : Nat) (fd : Fld) : Option Nat :=
  let m := b.memSt k
  let e := (m.inBank (b.rd (memFld k HUB_MEM.REPAIR_BANK F_MEM.REPAIR_BANK) (memInst k)))[(fd.off - 0x084) / 4]?
  if fd.off = 0x07C then
    some (if fd.lo = 16 then 4 * memBanks k - m.repairs.length else (m.repairs.filter (fun x => !x.2.2)).length)
  else if 0x084 ≤ fd.off ∧ fd.off ≤ 0x090 then
    some (match e with
      | none => 0
      | some x => if fd.lo = 31 then 1 else if fd.lo = 30 then x.2.2.toNat else x.2.1)
  else none

/-- The slot that a PARCEL_SEL view of a page shows, where the field shows one. -/
def Block.shownSlot (b : Block) (f : Nat) (fd : Fld) : Option Nat :=
  match fd.page, fd.off with
  | 0x44, 0x070 => some (b.fu f).selIssue
  | 0x44, 0x074 => some (b.fu f).selIssue
  | 0x45, 0x0A8 => some (b.fu f).selDroop
  | 0x46, 0x08C => some (b.fu f).selTherm
  | 0x46, 0x090 => some (b.fu f).selTherm
  | 0x4A, 0x11C => some (b.fu f).selTicket
  | _, _ => none

/-- Field of a field page that is not kept as a register, of a slot that exists. -/
def Block.viewSlots (b : Block) (f : Nat) (fd : Fld) : Option Nat :=
  let flagged (k : Nat) : Nat := if b.hub.bootDone then (allSlots.filter (fun s => min 2 (b.cadE (pid f s)).flag == k)).length else 0
  let pi := b.parcel (pid f (b.fu f).selIssue)
  let sd := (b.fu f).selDroop
  let ad := b.agent (pid f sd)
  let st := (b.fu f).selTherm
  let sen := b.sensor (senParcel f st)
  let tk := (b.fu f).selTicket
  let t := b.trace f
  let q := b.proc f
  let bench (k : Nat) : Nat := toCode 16 (b.benchTemp f k)
  match fd.page, fd.off, fd.lo with
  | 0x40, 0x040, 16 => some f
  | 0x40, 0x040, 12 => some (Config.column f)
  | 0x40, 0x040, 8 => some (Config.row f)
  | 0x40, 0x040, _ => some (Config.hops f)
  | 0x40, 0x044, _ => some (Config.latency f)
  | 0x40, 0x048, 20 => some (flagged 2)
  | 0x40, 0x048, 10 => some (flagged 1)
  | 0x40, 0x048, _ => some (flagged 0)
  | 0x40, 0x04C, 8 => some (f == 41).toNat
  | 0x40, 0x050, _ => some (b.errPages f)
  | 0x41, 0x060, 3 => some (b.bit F_EST.FORCE_MEASURED f && b.rd F_EST.MODE f == modeMeasured).toNat
  | 0x44, 0x070, 20 => some pi.plan.crit.toNat
  | 0x44, 0x070, 16 => some pi.plan.reason
  | 0x44, 0x070, 8 => some pi.plan.cap
  | 0x44, 0x070, _ => some pi.plan.q
  | 0x44, 0x074, 16 => some pi.plan.dyn
  | 0x44, 0x074, _ => some pi.plan.base
  | 0x45, 0x0A8, 25 => some (b.armedB f sd).toNat
  | 0x45, 0x0A8, 24 => some (b.armedA f sd).toNat
  | 0x45, 0x0A8, 23 => some ad.waiting.isSome.toNat
  | 0x45, 0x0A8, 16 => some ad.shapeSnap
  | 0x45, 0x0A8, 8 => some ad.droopSnap
  | 0x45, 0x0A8, _ => some ad.marginSnap
  | 0x46, 0x060, 11 => some (b.hub.marked && (b.benches f).isEmpty).toNat
  | 0x46, 0x060, 9 => some (b.throttling f).toNat
  | 0x46, 0x068, 8 => some (bitsFrom 8 (fun k => b.benchOk f k))
  | 0x46, 0x06C, 16 => some (allSlots.filter (fun s => (b.cadE (pid f s)).useSpare)).length
  | 0x46, 0x06C, _ => some ((keysIn b.sensors (1024 * f) 1024).filter (fun k => (b.sensor k).broken)).length
  | 0x46, 0x08C, 16 => some (toCode 16 (b.slotTemp f st))
  | 0x46, 0x08C, 15 => some (if (b.cadE (pid f st)).useSpare then (b.sensor (senSpare f (st / 4))).broken else sen.broken).toNat
  | 0x46, 0x08C, 14 => some (b.cadE (pid f st)).useSpare.toNat
  | 0x46, 0x08C, 13 => some sen.validating.toNat
  | 0x46, 0x08C, _ => some (b.parcel (pid f st)).red
  | 0x46, 0x090, 16 => some (if b.hub.marked then (b.cadE (pid f st)).localLimit else 0)
  | 0x46, 0x090, _ => some (if b.hub.marked then b.parcelLimit f st else 0)
  | 0x46, 0x0A0, lo => some (bench (if lo = 16 then 1 else 0))
  | 0x46, 0x0A4, lo => some (bench (if lo = 16 then 3 else 2))
  | 0x46, 0x0A8, lo => some (bench (if lo = 16 then 5 else 4))
  | 0x46, 0x0AC, lo => some (bench (if lo = 16 then 7 else 6))
  | 0x4A, 0x060, 7 => some (b.fixedCredit f).toNat
  | 0x4A, 0x060, 6 => some (b.bit HUB_CONTOUR.PLUMB_ON 0).toNat
  | 0x4A, 0x060, 5 => some (b.rd F_EST.MODE f == modeSafe).toNat
  | 0x4A, 0x060, 4 => some (b.holdExpired f).toNat
  | 0x4A, 0x060, 3 => some (decide (b.rd HUB_WAITFOR.HANG_TICKS 0 ≤ b.rd F_TICKET.HANG_AGE f)).toNat
  | 0x4A, 0x060, 2 => some (b.bit HUB_CAP.QUIESCED 0).toNat
  | 0x4A, 0x060, 1 => some (b.bit F_LIMIT.FLOOR_OVER f).toNat
  | 0x4A, 0x060, _ => some (b.isOut f).toNat
  | 0x4A, 0x064, 16 => some (b.slotCount f (fun t => t.st == 1))
  | 0x4A, 0x064, _ => some (b.slotCount f (fun t => decide (1 ≤ t.st) && decide (t.st ≤ 3)))
  | 0x4A, 0x068, 16 => some (b.slotCount f (fun t => t.st == 2))
  | 0x4A, 0x068, _ => some (b.slotCount f (fun t => t.st == 3))
  | 0x4A, 0x11C, 16 => some (b.agent (pid f tk)).poolSnap
  | 0x4A, 0x11C, _ => some (b.inForceOn f tk).length
  | 0x4B, 0x060, _ => some (if b.bufOn f then t.st else 0)
  | 0x4B, 0x064, 16 => some t.fill
  | 0x4B, 0x068, 16 => some t.wrIdx
  | 0x4B, 0x068, _ => some ((t.wrIdx + 2048 - t.fill) % 2048)
  | 0x4B, 0x080, _ => some (if t.st = 2 then t.post else 0)
  | 0x4C, 0x060, 28 => some q.st
  | 0x4C, 0x060, 27 => some q.imageB.toNat
  | 0x4C, 0x060, 26 => some q.safe.toNat
  | 0x4C, 0x060, 25 => some q.holdOn.toNat
  | 0x4C, 0x060, 8 => some q.lastComp
  | 0x4C, 0x060, _ => some q.cause
  | 0x4C, 0x064, 16 => some q.lastUs
  | 0x4C, 0x064, _ => some q.hold
  | 0x4C, 0x068, _ => some q.restarts
  | 0x4C, 0x06C, _ => some q.compFaults
  | 0x4C, 0x070, _ => some q.causeTick
  | 0x4C, 0x074, _ => some q.logWr
  | 0x4D, _, _ => b.viewMem f fd
  | _, _, _ => none

/-- Field of a field page that is not kept as a register. PARCEL_SEL 672 to 1,023 names no slot: what such a view shows is free.
(DESIGN CHOICE, log entry 140.) -/
def Block.viewField (b : Block) (f : Nat) (fd : Fld) : Option Nat :=
  match b.shownSlot f fd with
  | some s => if 672 ≤ s then some (Config.unstated 10 (1024 * fd.key f + s)) else b.viewSlots f fd
  | none => b.viewSlots f fd

/-- Model slot of every active parcel in the last estimator run (CLASS_USE). -/
def Block.classUse (b : Block) (f k : Nat) : Nat := ((b.actives f).filter (fun s => (b.parcel (pid f s)).ran && (b.parcel (pid f s)).mslot == k)).length

/-- Masks of a rail's page. (DEDUCED, log entry 110.) -/
def Block.viewRail (b : Block) (f rl : Nat) (fd : Fld) : Option Nat :=
  let mask (g : Nat → Bool) : Nat := bitsFrom (railPhases rl).length (fun k => g ((railPhases rl).getD k 0))
  let up := (b.rail (railOf f rl)).run != 0
  match fd.off, fd.lo with
  | 0x084, 0 => some (b.fu f).vin
  | 0x088, 16 => some (b.rd (if rl = 0 then F_EST.V_VCORE else F_EST.V_VSRAM) f)
  | 0x088, _ => some (if up then b.nActive f rl else 0)
  | 0x08C, 16 => some (mask (fun p => b.rd (F_PHASE.STATE p) f == phFailed))
  | 0x08C, _ => some (mask (fun p => up && b.rd (F_PHASE.STATE p) f == phActive))
  | 0x090, 16 => some (mask (fun p => b.bit (F_PHASE.HELD_OT p) f))
  | 0x090, _ => some (mask (fun p => b.bit (F_PHASE.FOLDBACK p) f))
  | _, _ => none

/-- The present value of a register field, or for an RW field the value in force. -/
def Block.present (b : Block) (now : Nat) (fd : Fld) (i : Nat) : Nat :=
  let v : Option Nat :=
    if fd.access = .wo then some 0
    else if fd.page = 0x23 then (b.viewHub now fd).or (b.viewMem 84 fd)
    else if fd.page < 0x40 then (b.viewHub now fd).or (b.viewHubRow fd)
    else if fd.page = 0x47 ∨ fd.page = 0x48 then b.viewRail i (fd.page - 0x47) fd
    else if fd.page = 0x42 ∧ 0x110 ≤ fd.off then some (b.classUse i ((fd.off - 0x110) / 4))
    else b.viewField i fd
  match v with
  | some x => lowBits fd.width x
  | none => b.rd fd i

/-! ### Pages (R417 to R421) -/

/-- Instance byte of a page as PAGE_ID shows it, and its class. -/
def headerId (cls inst : Nat) : Nat := cls * 2 ^ 24 + (if cls < 0x40 then 0xFF else inst) * 2 ^ 16 + 0x0100

/-- The hub processor that owns a hub page's function (R14, Table 16.3); none for a page of hardware blocks.
(DEDUCED, log entry 111.) -/
def pageOwner (cls inst : Nat) : Option Nat :=
  if 0x40 ≤ cls then some inst
  else match cls with
    | 0x1A | 0x1C | 0x1D | 0x1E | 0x20 | 0x26 | 0x27 | 0x28 => some 84
    | 0x16 | 0x19 | 0x1F | 0x21 => some 85
    | 0x18 | 0x22 | 0x23 | 0x24 | 0x25 | 0x1B => some 86
    | _ => none

/-- Common header register at `off` of a page. -/
def Block.header (b : Block) (cls inst off : Nat) : Nat :=
  let p := b.page (pageKey cls inst)
  match off with
  | 0x000 => headerId cls inst
  | 0x004 => lowBits 16 b.nv.stepping * 2 ^ 16
  | 0x00C =>
    (match p.pending with
      | some x => lowBits 24 x.due * 2 ^ 8 + 1
      | none => 0) +
    8 * (b.shadowDiffers cls inst).toNat + 4 * (match pageOwner cls inst with
      | some q => ((b.proc q).st != 0).toNat
      | none => 0) + 2 * p.heldBy.isSome.toNat
  | 0x010 => p.err
  | 0x014 => p.errEn
  | 0x01C => lowBits 32 p.stamp
  | _ => 0

/-- The word at page offset `o` of a page; an offset that no table lists reads 0. -/
def Block.pageWord (b : Block) (now cls inst o : Nat) : Nat :=
  let o := o / 4 * 4
  let live := decide (0x800 ≤ o)
  let off := o % 0x800
  if off < 0x040 then b.header cls inst off
  else (((pageFlds cls).filter (fun x => x.off == off)).map (fun x =>
    (if x.access = .rw && !live then b.rdS x inst else b.present now x inst) * 2 ^ x.lo)).sum

/-! ### SRAM regions that hold typed records (Tables 1.1 and 1.3) -/

/-- The 64 bytes of a cadastre entry (Table 18.8). (DEDUCED, log entry 44.) -/
def Cad.bytes (c : Cad) (s : Nat) : List Nat :=
  leBytes 4 (c.flag * 2 ^ 30 + c.detAFail.toNat * 2 ^ 29 + c.detBFail.toNat * 2 ^ 28 + c.spareBroken.toNat * 2 ^ 27 +
    c.useSpare.toNat * 2 ^ 26 + c.fused.toNat * 2 ^ 25 + s / 28 * 2 ^ 16 + s % 28 * 2 ^ 8 + c.defaultSlot) ++
  leBytes 2 s ++ leBytes 2 (s / 4) ++
  leBytes 12 ((List.range 16).foldl (fun a k => a + c.trims.getD k 0 * 2 ^ (6 * k)) 0) ++
  (List.range 8).map (fun k => toCode 8 (c.sensorOfs.getD k 0)) ++ (List.range 8).map (fun k => toCode 8 (c.spareOfs.getD k 0)) ++
  leBytes 2 c.localLimit ++ [c.safeQ, 0] ++ leBytes 4 c.updateTick ++ List.replicate 20 0

/-- The slot that follows slot `k` in its queue; 0x7FF none. -/
def Block.nextInQueue (b : Block) (f k : Nat) : Nat :=
  let l := (b.fu f).queues.findSome? (fun q => if q.2.contains k then some q.2 else none)
  match l with
  | some q => ((q.dropWhile (· != k)).drop 1).headD 0x7FF
  | none => 0x7FF

/-- The 32 bytes of a ticket slot (Table 6.8). -/
def Block.slotBytes (b : Block) (f k : Nat) : List Nat :=
  let t := b.slot (tid f k)
  leBytes 4 t.task ++
  leBytes 4 (t.st * 2 ^ 28 + t.crit.toNat * 2 ^ 27 + t.prio * 2 ^ 24 + t.cls * 2 ^ 21 + t.aged.toNat * 2 ^ 20 + t.countM1 * 2 ^ 16 +
    t.wq.toNat * 2 ^ 15 + t.aborted.toNat * 2 ^ 14 + (t.cancelled && t.st == 4).toNat * 2 ^ 13 + t.effPrio * 2 ^ 10 + t.first) ++
  leBytes 4 t.prior ++ leBytes 4 (t.charge * 2 ^ 16 + b.nextInQueue f k) ++ leBytes 4 t.reqTick ++ leBytes 4 t.startTick ++
  leBytes 4 t.energy ++ leBytes 2 (t.energy / 2 ^ 32) ++ leBytes 2 t.grantDelta

/-- The 32 bytes of a log entry (Table 12.6). -/
def LogEntry.bytes (e : LogEntry) : List Nat :=
  leBytes 6 e.tick ++ leBytes 2 e.off ++ [e.level, e.comp] ++ leBytes 2 e.seqNo ++ leBytes 4 e.code ++ leBytes 16 e.args

/-- The 16 bytes of a history entry (R304). -/
def HistEntry.bytes (e : HistEntry) : List Nat :=
  leBytes 4 e.tick ++ leBytes 2 (e.offset * 32 + e.source) ++ leBytes 2 (e.tick / 2 ^ 32) ++ leBytes 2 e.detail ++
  [e.cls * 64 + e.after * 8 % 64, e.field] ++ leBytes 4 e.seqNo

/-- The 16 bytes of an edge (Table 6.7). -/
def Edge.bytes (e : Edge) : List Nat :=
  leBytes 4 e.src ++ leBytes 4 e.dst ++ [e.kind, 0] ++ leBytes 2 e.detailA ++ leBytes 4 e.detailB

/-- Byte `o` of the log ring of processor `p`. -/
def Block.logByte (b : Block) (p o : Nat) : Nat :=
  let q := b.proc p
  match (List.range q.log.length).find? (fun k => (q.logWr + 256 - 1 - k % 256) % 256 == o / 32) with
  | some k => (q.log.map LogEntry.bytes).getD k [] |>.getD (o % 32) 0
  | none => 0

/-- Byte `o` of a trace buffer. -/
def Block.traceByte (b : Block) (k o : Nat) : Nat :=
  ((b.trace k).cells.find? (fun e => e.1 == o / 16)).elim 0 (fun e => e.2.bytes.getD (o % 16) 0)

/-- Byte `o` of the wait-for graph (Table 6.5). -/
def Block.graphByte (b : Block) (o : Nat) : Nat :=
  let w (fd : Fld) : Nat := b.rd fd 0
  let head : List Nat := leBytes 4 0x46574757 ++
    leBytes 4 (w HUB_WAITFOR.BUILD_ID * 2 ^ 16 + w HUB_WAITFOR.TRIGGER * 2 ^ 8 + w HUB_WAITFOR.TRIG_FIELD) ++
    leBytes 4 (w HUB_WAITFOR.START_TICK) ++ leBytes 4 (w HUB_WAITFOR.DONE_TICK) ++ leBytes 4 (w HUB_WAITFOR.EDGE_COUNT) ++
    leBytes 4 (w HUB_WAITFOR.TRUNCATED)
  if !b.hub.built then 0
  else if o < 0x18 then head.getD o 0
  else if 0x40 ≤ o ∧ o < 0x190 then (leBytes 4 (mget 0 b.hub.graph.captures ((o - 0x40) / 4))).getD (o % 4) 0
  else if 0x200 ≤ o then ((b.hub.graph.edges[(o - 0x200) / 16]?).map Edge.bytes |>.getD []).getD (o % 16) 0
  else 0

/-- The 48 bytes of a collection record (Table 10.2). -/
def Coll.bytes (c : Coll) : List Nat :=
  leBytes 8 c.energy ++ (List.range 12).flatMap (fun r => leBytes 2 (c.thr.getD r 0)) ++ leBytes 2 c.busy ++ leBytes 2 c.retired ++
  leBytes 2 c.cancelled ++ leBytes 2 c.aborted ++ leBytes 2 c.estOnly.toNat ++ List.replicate 6 0

/-- Byte `o` of the hub SRAM, where typed records hold it. Where the spec gives entries no byte layout, as of the wafer queues (0x1B0000)
and the monument write buffers (0x280000), a read gives the plain SRAM bytes, 0 where nothing was written.
(DESIGN CHOICE, log entry 159.) -/
def Block.hubByte (b : Block) (o : Nat) : Option Nat :=
  if 0x180000 ≤ o ∧ o < 0x1A0000 then
    some (((b.hub.journal.find? (fun e => e.jseq % 4096 == (o - 0x180000) / 32)).map JEntry.bytes |>.getD []).getD (o % 32) 0)
  else if 0x1A0000 ≤ o ∧ o < 0x1A2000 then
    some ((leBytes 4 (b.ctxWord ((o - 0x1A0000) / 32) (o % 32 / 4))).getD (o % 4) 0)
  else if 0x1A2000 ≤ o ∧ o < 0x1AE000 then some ((b.acct ((o - 0x1A2000) / 192)).bytes.getD ((o - 0x1A2000) % 192) 0)
  else if 0x200000 ≤ o ∧ o < 0x280000 then some (b.graphByte (o - 0x200000))
  else if 0x2D0000 ≤ o ∧ o < 0x2E0000 then some (b.traceByte 84 (o - 0x2D0000))
  else if 0x2E0000 ≤ o ∧ o < 0x2E0100 then
    some (((b.hub.hist.find? (fun e => e.seqNo % 16 == (o - 0x2E0000) / 16)).map HistEntry.bytes |>.getD []).getD (o % 16) 0)
  else if 0x2FA000 ≤ o ∧ o < 0x300000 then some (b.logByte (84 + (o - 0x2FA000) / 0x2000) (o % 0x2000))
  else none

/-- Byte `o` of the SRAM of field `f`, where typed records hold it. -/
def Block.fieldByte (b : Block) (f o : Nat) : Option Nat :=
  if 0x30000 ≤ o ∧ o < 0x50000 then
    let k := (o - 0x30000) / 0x4000
    some ((b.model ((4 * f + k / 2) * 2 + k % 2)).bytes.getD (o % 0x4000) 0)
  else if 0x50000 ≤ o ∧ o < 0x58000 then some ((b.slotBytes f ((o - 0x50000) / 32)).getD (o % 32) 0)
  else if 0x58000 ≤ o ∧ o < 0x60000 then some (b.traceByte f (o - 0x58000))
  else if 0x60000 ≤ o ∧ o < 0x6A800 then some (((b.cadE (pid f ((o - 0x60000) / 64))).bytes ((o - 0x60000) / 64)).getD (o % 64) 0)
  else if 0x6C000 ≤ o ∧ o < 0x6C400 then some ((let c := b.ctx ((o - 0x6C000) / 4); leBytes 4 (c.word0 c.held)).getD (o % 4) 0)
  else if 0x70000 ≤ o ∧ o < 0x70A80 then
    let p := b.parcel (pid f ((o - 0x70000) / 4))
    some ((leBytes 2 p.e ++ leBytes 2 p.reported).getD (o % 4) 0)
  else if 0x70C00 ≤ o ∧ o < 0x73C00 then some ((b.coll (collNo f ((o - 0x70C00) / 48))).bytes.getD ((o - 0x70C00) % 48) 0)
  else if 0x74000 ≤ o ∧ o < 0x76000 then some (b.logByte f (o - 0x74000))
  else none

/-! ### The window (Table 18.1) -/

/-- What an offset of the window reaches. -/
inductive Target where
  | page (cls inst o : Nat)
  /-- Memory and byte offset in it. -/
  | sram (k o : Nat)
  | unmapped
  deriving DecidableEq, Repr

/-- The window map (Table 18.1). -/
def target (a : Nat) : Target :=
  if a < 0x19000 then .page (0x10 + a / 0x1000) 0 (a % 0x1000)
  else if 0x100000 ≤ a ∧ a < 0x640000 then .page (0x40 + a / 0x1000 % 16) ((a - 0x100000) / 0x10000) (a % 0x1000)
  else if 0x800000 ≤ a ∧ a < 0xB72000 then
    let p := (a - 0x800000) / 64
    .sram (p / 672) (0x60000 + p % 672 * 64 + a % 64)
  else if 0x1000000 ≤ a ∧ a < 0x1C00000 then .sram 84 (a % 0x400000)
  else if 0x2000000 ≤ a ∧ a < 0x22A0000 then .sram ((a - 0x2000000) / 0x8000) (0x50000 + a % 0x8000)
  else if 0x4000000 ≤ a ∧ a < 0x6A00000 then .sram ((a - 0x4000000) / 0x80000) (a % 0x80000)
  else .unmapped

/-- Byte `o` of memory `k`; the secure region reads zeros (R15). -/
def sramByte (s : State) (k o : Nat) : Nat :=
  if secureOff k o then 0
  else match (if k = 84 then s.b.hubByte o else s.b.fieldByte k o) with
    | some v => v % 256
    | none => (mget 0 s.mem (memBase k + o)).toNat

/-- The 128-bit word of `o` in memory `k` holds an uncorrectable error. -/
def Block.ueAt (b : Block) (k o : Nat) : Bool := !secureOff k o && (b.memSt k).ueWords.contains (o / 16)

/-- RF_RSP_ERR codes. -/
def rfOk : Nat := 0
def rfRefused : Nat := 1
def rfUnmapped : Nat := 2

/-- A 32-bit read at an aligned offset: data and error (R408, R416). -/
def readWord (s : State) (a : Nat) : Nat × Nat :=
  if a % 4 ≠ 0 then (0, rfRefused)
  else match target a with
    | .unmapped => (0, rfUnmapped)
    | .page cls inst o => (s.b.pageWord s.tick cls inst o, rfOk)
    | .sram k o => if s.b.ueAt k o then (0, rfRefused) else (leNat ((List.range 4).map (fun j => sramByte s k (o + j))), rfOk)

end Sys2Proof.Machine
end

