-- ==== Sys2Proof/Machine/Pages.lean ====
section
/-!
DEFINITION. Writes and reads through the register window, and commits at the boundary where they take effect (R7, R8, R38 to R41,
R385, R386, R408, R416 to R425).
-/

namespace Sys2Proof.Machine

open Sys2Proof

/-- A path of host software: its writes to a held page are discarded (R385). (DEDUCED, log entry 28.) -/
def pathOfHost : Path → Bool
  | .fabric => true
  | .i3c => true
  | .proc _ => false

/-- Number of an access path, under which a page keeps its latch (R420). -/
def pathNo : Path → Nat
  | .fabric => 0
  | .i3c => 1
  | .proc p => 2 + p.val

/-- The page that the BMC writes through the I3C window (R411). -/
def bmcPage (cls : Nat) : Bool := cls == 0x14

/-- Writes through the I3C window land only in HUB_CMD_BMC; elsewhere they are discarded and set WIN_ERR (R411).
(DEDUCED, log entry 30.) -/
def Block.landing (b : Block) (path : Path) (cls : Nat) (g : Block → Block) : Block :=
  if path = .i3c ∧ !bmcPage cls then b.modHub (fun h => { h with winErr := true }) else g b

/-! ### Checks at the boundary (R422) -/

/-- Why a commit that falls due is not applied. -/
inductive CommitStop where
  /-- The page is held by a command that did not make the commit. -/
  | held
  /-- A value breaks an order or a fixed value; the descriptor word named is that of a command that made the commit. -/
  | cfg (word : Nat)
  | mapEmpty
  /-- A resource of Table 16.7 is held: its code and index. -/
  | conflict (code index : Nat)
  deriving DecidableEq, Repr

/-- The commit of a page that falls due at `now`. -/
def Block.dueCommit (b : Block) (now cls inst : Nat) : Option Pending :=
  match (b.page (pageKey cls inst)).pending with
  | some p => if tickReached now p.due && (cls != 0x1F || (b.proc 85).st == 0) then some p else none
  | none => none

/-- The commit arrived before a command began to hold the page. -/
def Block.overtaken (b : Block) (cls inst : Nat) (p : Pending) : Bool :=
  (b.page (pageKey cls inst)).heldBy.isSome && p.byCmd.isNone

/-- What a commit would put in force. -/
def Block.valueOf (b : Block) (inst : Nat) (p : Pending) (x : Fld) : Nat := mget (b.rd x inst) p.vals (x.key inst)

/-- Datum `k` of a rail after this boundary: a commit of its page that falls due counts (R187). (DEDUCED, log entry 34.) -/
def Block.datumAfter (b : Block) (now f rl k : Nat) : Nat :=
  match b.dueCommit now (0x47 + rl) f with
  | some p => if b.overtaken (0x47 + rl) f p then b.rd (F_RAIL.DATUM rl k) f else b.valueOf f p (F_RAIL.DATUM rl k)
  | none => b.rd (F_RAIL.DATUM rl k) f

/-- First of D2 to D7 whose VSRAM datum would lie below the VCORE datum. (DEDUCED, log entry 34.) -/
def Block.orderBroken (b : Block) (now f : Nat) : Option Nat :=
  (List.range 6).find? (fun k => decide (b.datumAfter now f 1 (k + 2) < b.datumAfter now f 0 (k + 2)))

/-- A port that a HUB_TIE commit would clear while it belongs to the group's tree. -/
def Block.treePort (b : Block) (p : Pending) : Option Nat :=
  (List.range 6).find? (fun k => b.groupPorts.contains k && !(b.valueOf 0 p HUB_TIE.PORT_EN).testBit k)

/-- The host-memory region of the BUF of a command in flight: first byte and length. -/
def Flight.buffer (fl : Flight) : Nat × Nat :=
  match bufArg fl.op with
  | some k => if fl.opts.testBit 7 then (0, 0) else (fl.args.getD k 0 + 2 ^ 32 * fl.args.getD (k + 1) 0, fl.args.getD (k + 2) 0)
  | none => (0, 0)

/-- The ring that a HUB_TRACE commit would claim meets its own WB_ADDR or the buffer of a command in flight.
(DEDUCED, log entry 40.) -/
def Block.ringConflict (b : Block) (p : Pending) : Bool :=
  let g := b.valueOf 0 p
  let base := g HUB_TRACE.RING_BASE_LO * 4096 + g HUB_TRACE.RING_BASE_HI * 2 ^ 32
  let len := 2 ^ g HUB_TRACE.RING_LOG2
  let wb := g HUB_TRACE.WB_ADDR_LO * 8 + g HUB_TRACE.WB_ADDR_HI * 2 ^ 32
  let buffers := [0, 1, 2].map (fun pt => match (b.port pt).flight with
    | some fl => if fl.begun then fl.buffer else (0, 0)
    | none => (0, 0))
  g HUB_TRACE.DRAIN_EN == 1 &&
    ((wb != 0 && regionsMeet base len wb 8) || buffers.any (fun r => regionsMeet base len r.1 r.2))

/-- A phase that an F_PHASE commit would disable while a self-test uses it. -/
def Block.testedPhase (b : Block) (f : Nat) (p : Pending) : Option Nat :=
  (List.range 20).find? (fun k => (b.fu f).bistRunning && (b.fu f).bistPhases.testBit k &&
    (b.valueOf f p F_PHASE.PHASE_DISABLE).testBit k && !b.flag F_PHASE.PHASE_DISABLE f k)

/-- The commit would change the value of a field. -/
def Block.changes (b : Block) (inst : Nat) (p : Pending) (x : Fld) : Bool := b.valueOf inst p x != b.rd x inst

/-- The resource that a commit claims and cannot have (R386, Table 16.7): code and index. -/
def Block.claim (b : Block) (cls inst : Nat) (p : Pending) : Option (Nat × Nat) :=
  match cls with
  | 0x1E => (b.treePort p).map (fun k => (2, k))
  | 0x1F => if b.ringConflict p then some (3, 0) else none
  | 0x49 => (b.testedPhase inst p).map (fun k => (4, k))
  | 0x20 => if b.changes inst p HUB_HALT.HALT_LEAD && (b.hub.sched.isSome || b.hub.release.isSome) then some (5, 0) else none
  | 0x1D => if (b.changes inst p HUB_LOCK.ANNOUNCE_LEAD || b.changes inst p HUB_LOCK.LOCAL_LEAD) && !b.hub.steps.isEmpty then some (6, 0)
      else none
  | _ => none

/-- The first check of R422 that a commit fails at the boundary. -/
def Block.commitStop (b : Block) (now cls inst : Nat) (p : Pending) : Option CommitStop :=
  if b.overtaken cls inst p then some .held
  else if cls = 0x42 ∧ b.mapOk inst (b.valueOf inst p) = false then some .mapEmpty
  else if cls = 0x1C ∧ b.changes inst p HUB_CAP.CEIL_ST = true then some (.cfg 0)
  else match (if cls = 0x47 ∨ cls = 0x48 then b.orderBroken now inst else none) with
    | some k => some (.cfg (5 + k))
    | none => (b.claim cls inst p).map (fun r => .conflict r.1 r.2)

/-- PAGE_ERR bit of a failed check. -/
def CommitStop.bit : CommitStop → Nat
  | .held => 5
  | .cfg _ => 1
  | .mapEmpty => 3
  | .conflict _ _ => 2

/-- Status and detail of the command whose commit fails. -/
def CommitStop.status : CommitStop → Nat × Nat
  | .held => (stBusy, 0)
  | .cfg w => (stBadArg, badArgDetail w 0)
  | .mapEmpty => (stBadArg, badArgDetail 4 0)
  | .conflict code index => (stConflict, code * 2 ^ 24 + index)

/-! ### Completion of the command that made a commit -/

/-- D0 of SET_WAFER_CAP: HUB_CAP 0x064. (DEDUCED, log entry 35.) -/
def Block.capWord (b : Block) : Nat := b.rd HUB_CAP.IDLE_W 0 * 65536 + b.rd HUB_CAP.FLOOR_W 0

/-- Status, detail and data when every page of a command has taken effect (Table 16.3). -/
def Block.commitsResult (b : Block) (fl : Flight) (n : Nat) : Nat × Nat × List Nat :=
  if fl.op = 0x10 then (if fl.opts % 4 ≠ 0 ∧ b.unmet = true then stUnmet else stDone, 0, [b.capWord])
  else if fl.op = 0x11 then (stDone, 0, [n])
  else (stDone, 0, [])

/-- One page of the command on `pt` has taken effect. -/
def Block.pageDone (b : Block) (now pt : Nat) : Block :=
  match (b.port pt).flight with
  | none => b
  | some fl => match fl.wait with
    | .commits left done =>
      if left ≤ 1 then
        let r := b.commitsResult fl (done + 1)
        b.answer now pt r.1 r.2.1 r.2.2
      else b.await pt (.commits (left - 1) (done + 1))
    | _ => b

/-- The command on `pt` stops because one of its pages failed; its other pages go on without it. (DEDUCED, log entry 33.) -/
def Block.pageFailed (b : Block) (now pt : Nat) (x : CommitStop) : Block :=
  let b := b.each (keysOf b.pages) (fun b k => b.modPage k (fun h => { h with
    pending := h.pending.map (fun p => if p.byCmd = some pt then { p with byCmd := some 3 } else p) }))
  b.answer now pt x.status.1 x.status.2 []

/-! ### What a commit that takes effect brings with it -/

/-- PHASE_DISABLE takes and gives back phases; a FAILED phase stays FAILED (R175). (DEDUCED, log entry 38.) -/
def Block.followDisable (b : Block) (now f : Nat) : Block :=
  b.each (List.range 20) (fun b p =>
    let st := b.rd (F_PHASE.STATE p) f
    let off := b.flag F_PHASE.PHASE_DISABLE f p
    if off = true ∧ st < phDisabled then b.setPhaseState now f p phDisabled
    else if off = false ∧ st = phDisabled then b.setPhaseState now f p phShed
    else b)

/-- Written datums go to the configuration store, and a selected one that changed retargets its rail (R187, R189). -/
def Block.followDatums (b : Block) (now f rl : Nat) (was : Nat → Nat) : Block :=
  let b := b.modNv (fun n => { n with
    datums := (List.range 6).foldl (fun l k => mput 512 l ((2 * f + rl) * 8 + k + 2) (b.rd (F_RAIL.DATUM rl (k + 2)) f)) n.datums })
  let b := b.saveStore now false
  let sel := b.rd (F_RAIL.VSEL rl) f
  if b.rd (F_RAIL.DATUM rl sel) f = was sel then b else b.select now f rl sel

/-- An applied HUB_CONTOUR commit: the rails are retargeted, and the configuration store keeps the page (R204). -/
def Block.followContour (b : Block) (now : Nat) : Block :=
  let b := b.each allFields (fun b f => b.retarget now f)
  (b.modNv (fun n => { n with contour := (pageRw 0x28).foldl (fun l x => mput 0 l (x.key 0) (b.rd x 0)) n.contour })).saveStore now false

/-- A port whose PORT_EN bit is cleared is idle; the others may train afresh (R219, R414). (DEDUCED, log entry 39.) -/
def Block.followPorts (b : Block) (now : Nat) (was : Nat) : Block :=
  b.each (List.range 6) (fun b k =>
    let en := b.flag HUB_TIE.PORT_EN 0 k
    let b := b.cond (!en && b.tieSt k != tieDown) (fun b => b.portDown now 0 k)
    b.cond (en && !was.testBit k) (fun b => b.modTie k (fun t => { t with failures := 0 })))

/-- The effects beside the values themselves; `old` is the block before the commit. -/
def Block.commitEffects (b old : Block) (now cls inst : Nat) : Block :=
  match cls with
  | 0x17 => b.each ([0, 1, 2].filter (fun p => b.flag HUB_LEASE.HELD 0 p)) (fun b p => b.putExpiry p)
  | 0x1C => b.putFloor
  | 0x1E => b.followPorts now (old.rd HUB_TIE.PORT_EN 0)
  | 0x1F => b.captureChange now 84 (old.bufOn 84)
  | 0x28 => b.followContour now
  | 0x43 => (b.shapeNumbers inst).cond ((b.proc inst).st == 0) (fun b => b.putThermLim inst)
  | 0x45 => b.evalMargin now inst
  | 0x47 => b.followDatums now inst 0 (fun k => old.rd (F_RAIL.DATUM 0 k) inst)
  | 0x48 => b.followDatums now inst 1 (fun k => old.rd (F_RAIL.DATUM 1 k) inst)
  | 0x49 => b.followDisable now inst
  | 0x4B => b.captureChange now inst (old.bufOn inst)
  | _ => b

/-- The captured values come into force (R39, R40). -/
def Block.putCommit (b : Block) (now cls inst : Nat) (p : Pending) : Block :=
  let b := b.each (pageRw cls) (fun b x => b.wr x inst (mget (b.rd x inst) p.vals (x.key inst)))
  b.modPage (pageKey cls inst) (fun h => { h with pending := none, heldBy := none, stamp := now })

/-- A commit is dropped with its error bit. -/
def Block.dropCommit (b : Block) (now cls inst : Nat) (p : Pending) (x : CommitStop) : Block :=
  let b := (b.modPage (pageKey cls inst) (fun h => { h with
    pending := none, heldBy := if p.byCmd.isSome then none else h.heldBy })).pageErr (pageKey cls inst) x.bit
  match p.byCmd with
  | some pt => b.pageFailed now pt x
  | none => b

/-- The other rail's commit of a field, when both fall due together and together break the order: neither is applied (R187). -/
def Block.dropPartner (b : Block) (now cls inst : Nat) (x : CommitStop) : Block :=
  if cls = 0x47 ∨ cls = 0x48 then
    match x, b.dueCommit now (0x8F - cls) inst with
    | .cfg _, some p => if b.overtaken (0x8F - cls) inst p then b else b.dropCommit now (0x8F - cls) inst p x
    | _, _ => b
  else b

/-- One page at the boundary `now`. -/
def Block.commitAt (b : Block) (now cls inst : Nat) : Block :=
  match b.dueCommit now cls inst with
  | none => b
  | some p => match b.commitStop now cls inst p with
    | some x => (b.dropPartner now cls inst x).dropCommit now cls inst p x
    | none =>
      let b' := (b.putCommit now cls inst p).commitEffects b now cls inst
      match p.byCmd with
      | some pt => b'.pageDone now pt
      | none => b'

/-! ### Arrival at a field page (R38, R39) -/

/-- The access has arrived by offset `sc` of tick `now`. -/
def Transit.arrived (t : Transit) (now sc : Nat) : Bool := tickReached now t.tick && (t.tick != now || decide (t.off ≤ sc))
/-- The access arrived in a tick before `now`. -/
def Transit.before (t : Transit) (now : Nat) : Bool := tickReached now t.tick && t.tick != now

/-- A write of a shadow value from the fabric or the I3C window: discarded while a command holds the page (R385). -/
def Block.hostShadow (b : Block) (x : Fld) (inst v : Nat) : Block :=
  if (b.page (pageKey x.page inst)).heldBy.isSome then b.pageErr (pageKey x.page inst) 5 else b.wrS x inst v

/-- A commit that fails its arrival checks ends the command that made it, and its hold (R385). -/
def Block.landCommit (b : Block) (now arr cls inst v : Nat) (byCmd : Option Nat) : Block :=
  let b' := b.commitArrive arr cls inst v byCmd
  match byCmd, b.arrivalErr arr cls inst v byCmd with
  | some pt, some _ => (b'.modPage (pageKey cls inst) (fun h => { h with heldBy := none })).pageFailed now pt (.cfg 0)
  | _, _ => b'

/-- One access arrives. -/
def Block.landOne (b : Block) (now cls inst : Nat) (t : Transit) : Block :=
  match t.act with
  | .commit v c => b.landCommit now t.tick cls inst v c
  | .write x v => b.hostShadow x inst v
  | .cancel => b.cancelCommit cls inst
  | .reload => b.reloadShadow cls inst

/-- The accesses at the front for which `g` holds arrive, in the order they left. -/
def Block.landWhile (b : Block) (now cls inst : Nat) (g : Transit → Bool) : Block :=
  let l := (b.page (pageKey cls inst)).transit
  if l.isEmpty then b
  else (b.modPage (pageKey cls inst) (fun p => { p with transit := l.dropWhile g })).each (l.takeWhile g)
    (fun b t => b.landOne now cls inst t)

/-- The field's own processor is at the page: its accesses do not travel (R38). -/
def ownPath (path : Path) (cls inst : Nat) : Bool :=
  match path with
  | .proc p => decide (0x40 ≤ cls) && p.val == inst
  | _ => false

/-- An access to the header or a shadow value at `(now, sc)`: `g` carries it out when nothing is on its way before it, else it
follows behind (R38, R39). -/
def Block.behind (b : Block) (now sc : Nat) (path : Path) (cls inst : Nat) (act : TransitAct) (g : Block → Block) : Block :=
  let b := b.landWhile now cls inst (fun t => t.arrived now sc)
  if ownPath path cls inst ∨ (b.page (pageKey cls inst)).transit = [] then g b
  else b.modPage (pageKey cls inst) (fun p => { p with transit := p.transit ++
    [{ tick := arrivalTick now sc cls inst, off := arrivalOff sc cls inst, act := act }] })

/-- A PAGE_COMMIT on a path. -/
def Block.pageCommit (b : Block) (now sc : Nat) (path : Path) (cls inst v : Nat) : Block :=
  let b := b.landWhile now cls inst (fun t => t.arrived now sc)
  if ownPath path cls inst then b.commitArrive now cls inst v none else b.commitSend now sc cls inst v none

/-- A firmware processor makes no commit, cancels none and reloads none while it is not in RUN (R271). -/
def Block.writes (b : Block) (path : Path) : Bool :=
  match path with
  | .proc p => (b.proc p).st == 0
  | _ => true

/-- PAGE_COMMIT: the commit leaves at `(now, sc)` and arrives at its owner (R38 to R40, R408, R422, R423).
(DEDUCED, log entry 37.) -/
def execPageCommit (path : Path) (pg : PageId) (v : Word) (sc : ScOff) (s : State) : Host.Outcome State Fault Refusal :=
  onB s (fun now b => b.landing path (pageCls pg) (fun b =>
    b.cond (b.writes path) (fun b => b.pageCommit now sc path (pageCls pg) (pageInst pg) v.toNat)))

/-- CANCEL (R425). -/
def execCancel (path : Path) (pg : PageId) (s : State) : Host.Outcome State Fault Refusal :=
  onB s (fun now b => b.landing path (pageCls pg) (fun b => b.cond (b.writes path) (fun b =>
    b.behind now 0 path (pageCls pg) (pageInst pg) .cancel (fun b => b.cancelCommit (pageCls pg) (pageInst pg)))))

/-- RELOAD (R425). -/
def execReload (path : Path) (pg : PageId) (s : State) : Host.Outcome State Fault Refusal :=
  onB s (fun now b => b.landing path (pageCls pg) (fun b => b.cond (b.writes path) (fun b =>
    b.behind now 0 path (pageCls pg) (pageInst pg) .reload (fun b => b.reloadShadow (pageCls pg) (pageInst pg)))))

/-- COMMIT_EFFECT: a pending commit whose tick has come takes effect, or fails its second check (R41, R422, R424). -/
def execCommitEffect (pg : PageId) (s : State) : Host.Outcome State Fault Refusal :=
  onB s (fun now b => (b.landWhile now (pageCls pg) (pageInst pg) (fun t => t.before now)).commitAt now (pageCls pg) (pageInst pg))

/-! ### Register writes (R8, R385, R408, R418, R419) -/

/-- The command that the descriptor of a port holds, as a write of CMD_SUBMIT captures it (R375). -/
def Block.captured (b : Block) (now pt v : Nat) : Flight :=
  let d (k : Nat) : Nat := b.rd (HUB_CMD.DESC pt k) 0
  { seqNo := lowBits 16 v, opts := bitsOf (d 0) 8 8, op := lowBits 8 (d 0), args := (List.range 15).map (fun k => d (k + 1))
    res := bitsOf (d 0) 16 16, submitTick := now, begun := false, accepted := false, wait := .none, owed := [] }

/-- A write of CMD_SUBMIT: dropped while a command is in flight; an unknown opcode completes BAD_OPCODE (R375, R376, R378).
(DEDUCED, log entry 32.) -/
def Block.writeSubmit (b : Block) (now pt v : Nat) : Block :=
  if (b.port pt).flight.isSome then b.drop pt
  else
    let fl := b.captured now pt v
    let b := b.submit now pt fl
    b.cond (!opcodes.contains fl.op) (fun b => b.stop now pt stBadOpcode 0)

/-- A write of PROBE_SLOT arms the capture (R74). -/
def Block.armProbe (b : Block) (f v : Nat) : Block :=
  ((b.wr F_EST.PROBE_SLOT f v).wr F_EST.PROBE_DONE f 0).modFu f (fun u => { u with probe := some (v % 1024) })

/-- FW_DATA and FW_POINT are the page's own firmware's (R245). -/
def firmwareOf (path : Path) (cls inst : Nat) : Bool :=
  match path with
  | .proc p => if cls = 0x1F then decide (84 ≤ p.val) else decide (p.val = inst)
  | _ => false

/-- A write of an RWL field: it takes effect at once. -/
def Block.writeRwl (b : Block) (path : Path) (x : Fld) (inst v : Nat) : Block :=
  if x = HUB_TRACE.TAIL then b.writeTail v
  else if x = F_EST.PROBE_SLOT then b.armProbe inst v
  else if (x = HUB_TRACE.FW_DATA ∨ x = F_TRACE.FW_DATA) ∧ firmwareOf path x.page inst = false then b
  else b.wr x inst v

/-- A write of a WO field acts at once. -/
def Block.writeWo (b : Block) (now sc : Nat) (path : Path) (x : Fld) (inst v : Nat) : Block :=
  if 0x13 ≤ x.page ∧ x.page ≤ 0x15 ∧ x.off = 0x080 then b.writeSubmit now (x.page - 0x13) v
  else if x = HUB_TRACE.TRIG_NOW then b.cond (v.testBit 0) (fun b => b.trigNow now sc)
  else match path with
    | .proc p => if firmwareOf path x.page inst = true ∧ (x = HUB_TRACE.FW_POINT ∨ x = F_TRACE.FW_POINT) then b.fwPoint p now sc v else b
    | _ => b

/-- QUEUE_ORDER, which a field's own processor writes (R134); no other RO field takes a write. -/
def Block.writeOrder (b : Block) (path : Path) (x : Fld) (inst v : Nat) : Block :=
  match path with
  | .proc p => b.cond (b.writes path && p.val == inst && (List.range 10).any (fun k => x == F_TICKET.QUEUE_ORDER k))
      (fun b => b.wr x inst (v &&& 0x3F3F3F3F))
  | _ => b

/-- A write that reaches one field, whose bits of the written word are `v` (Table 0.3, R418). -/
def Block.writeFld (b : Block) (now sc : Nat) (path : Path) (x : Fld) (inst v : Nat) (live : Bool) : Block :=
  match x.access with
  | .rw =>
    if live then b
    else b.behind now sc path x.page inst (.write x v) (fun b => if pathOfHost path then b.hostShadow x inst v else b.wrS x inst v)
  | .rwl => b.writeRwl path x inst v
  | .w1c => if x = HUB_FAULT.FAULT_STATUS then b.clearStatus v else b.wr x inst (b.rd x inst &&& (2 ^ x.width - 1 - lowBits x.width v))
  | .w1s => b.wr x inst (b.rd x inst ||| v)
  | .wo => b.writeWo now sc path x inst v
  | .ro => b.writeOrder path x inst v
  | .rc => b

/-- A write of a header register. (DEDUCED, log entry 37.) -/
def Block.writeHeader (b : Block) (now sc : Nat) (path : Path) (cls inst off v : Nat) : Block :=
  let key := pageKey cls inst
  match off with
  | 0x008 =>
    let b := b.cond (v.testBit 1) (fun b => b.behind now sc path cls inst .cancel (fun b => b.cancelCommit cls inst))
    b.cond (v.testBit 0) (fun b => b.behind now sc path cls inst .reload (fun b => b.reloadShadow cls inst))
  | 0x010 => b.modPage key (fun p => { p with err := p.err &&& (63 - v % 64) })
  | 0x014 => b.modPage key (fun p => { p with errEn := v % 64 })
  | 0x018 => b.pageCommit now sc path cls inst v
  | _ => b

/-- A 32-bit write at page offset `o`. -/
def Block.writeWord (b : Block) (now sc : Nat) (path : Path) (cls inst o v : Nat) : Block :=
  let off := o % 0x800
  let live := decide (0x800 ≤ o)
  if off < 0x040 then (if live then b else b.writeHeader now sc path cls inst off v)
  else if live ∧ 0x12 ≤ cls ∧ cls ≤ 0x15 then b
  else b.each ((pageFlds cls).filter (fun x => x.off == off)) (fun b x => b.writeFld now sc path x inst (bitsOf v x.lo x.width) live)

/-- A 32-bit write at a window offset: memories and views discard it (R17, R326). (DEDUCED, log entry 30.) -/
def Block.writeAt (b : Block) (now sc : Nat) (path : Path) (a v : Nat) : Block :=
  match target a with
  | .page cls inst o => b.landing path cls (fun b => b.writeWord now sc path cls inst o v)
  | _ => b

/-- The response of an access (Table 17.6). -/
def Block.respond (b : Block) (data err : Nat) : Block := b.modHub (fun h => { h with rfData := data, rfErr := err })

/-- The lanes of the aligned 64-bit word at an offset that the byte enables select; none is REFUSED: other enables, or an offset not
aligned to the access's size (R408). (DEDUCED, log entry 29.) -/
def lanesOf (be a : Nat) : Option (List Nat) :=
  if be = 0x0F ∧ a % 4 = 0 then some [0]
  else if be = 0xF0 ∧ a % 4 = 0 then some [1]
  else if be = 0xFF ∧ a % 8 = 0 then some [0, 1]
  else none

/-- A write request: REFUSED, UNMAPPED, or carried out lane by lane and answered OK (R408). (DEDUCED, log entry 29.) -/
def Block.write (b : Block) (now sc : Nat) (path : Path) (a be v : Nat) : Block :=
  match lanesOf be a with
  | none => b.respond 0 rfRefused
  | some l =>
    if target (a / 8 * 8) = .unmapped then b.respond 0 rfUnmapped
    else (b.each l (fun b k => b.writeAt now sc path (a / 8 * 8 + 4 * k) (bitsOf v (32 * k) 32))).respond 0 rfOk

/-! ### Reads and their latches (R7, R408, R416, R420) -/

/-- Page offsets of the low words of 64-bit pairs of a page (R420). -/
def pairLows (cls : Nat) : List Nat :=
  match cls with
  | 0x11 => [0x040]
  | 0x1A => [0x04C, 0x054, 0x05C, 0x074] ++ (List.range 12).map (fun k => 0x07C + 8 * k) ++ [0x0DC]
  | 0x1B => [0x044, 0x04C]
  | 0x1C => [0x07C]
  | 0x1E => (List.range 6).map (fun k => 0x06C + 0x20 * k)
  | 0x1F => [0x040, 0x050]
  | 0x24 => [0x084]
  | 0x44 => [0x064]
  | 0x4E => [0x064, 0x06C]
  | 0x4F => [0x044, 0x04C, 0x054] ++ (List.range 12).map (fun k => 0x060 + 8 * k) ++ [0x0C0, 0x0C8, 0x120]
  | _ => []

/-- The pair that a page offset is the low word of: RO pairs read alike in both halves, so the half does not tell them apart. -/
def pairKey (cls o : Nat) : Option Nat :=
  if (pairLows cls).contains (o % 0x800) then
    some (if (pageRw cls).any (fun x => x.off == o % 0x800) then o else o % 0x800)
  else none

/-- Latch of a path on a page: the pair whose low word was last read, and its high half. -/
def Page.latch (p : Page) (path : Nat) : Option (Nat × Nat) := p.latches.findSome? (fun x => if x.1 = path then some x.2 else none)

/-- A low word read latches the high half of its pair (R7). -/
def Page.setLatch (p : Page) (path key high : Nat) : Page :=
  { p with latches := (path, key, high) :: p.latches.filter (fun x => x.1 != path) }

/-- A 32-bit read of a page: data, and the block with its latch (R7, R420). Reading TICK_LO latches the offset as well (R32). -/
def readPage (s : State) (path : Path) (sc cls inst o : Nat) : Nat × Block :=
  let b := s.b.landWhile s.tick cls inst (fun t => t.arrived s.tick sc)
  let key := pageKey cls inst
  match pairKey cls o with
  | some k =>
    let w := b.pageWord s.tick cls inst o
    let b := b.modPage key (fun p => p.setLatch (pathNo path) k (b.pageWord s.tick cls inst (o + 4)))
    (w, b.cond (cls == 0x11) (fun b => b.wr HUB_TICK.TICK_OFFSET 0 sc))
  | none =>
    match (if 4 ≤ o then pairKey cls (o - 4) else none), (b.page key).latch (pathNo path) with
    | some k, some (k', high) => (if k = k' then high else b.pageWord s.tick cls inst o, b)
    | _, _ => (b.pageWord s.tick cls inst o, b)

/-- A 32-bit read at a window offset: data, error, and the block after it. An uncorrectable word is REFUSED and raises SRAM_UE. -/
def readAt (s : State) (path : Path) (sc a : Nat) : Nat × Nat × Block :=
  if a % 4 ≠ 0 then (0, rfRefused, s.b)
  else match target a with
    | .unmapped => (0, rfUnmapped, s.b)
    | .page cls inst o => let r := readPage s path sc cls inst o; (r.1, rfOk, r.2)
    | .sram k o => if s.b.ueAt k o then (0, rfRefused, s.b.ueRead k (o / 16) true) else ((readWord s a).1, rfOk, s.b)

/-- A read request: REFUSED, UNMAPPED, or the words of its lanes. A 64-bit read returns both words of one instant: the lower lane
is read, then the upper, which takes the latched half of a pair that the lower lane begins, and latches where it begins one
itself (R7, R408, R416). -/
def readRequest (s : State) (path : Path) (sc a be : Nat) : Nat × Nat × Block :=
  let w := a / 8 * 8
  match lanesOf be a with
  | none => (0, rfRefused, s.b)
  | some [k] =>
    let r := readAt s path sc (w + 4 * k)
    (r.1 * 2 ^ (32 * k), r.2)
  | some _ =>
    let r := readAt s path sc w
    if r.2.1 = rfOk then
      let u := readAt { s with b := r.2.2 } path sc (w + 4)
      (r.1 + 2 ^ 32 * u.1, rfOk, u.2.2)
    else r

end Sys2Proof.Machine
end

