-- ==== Sys2Proof/Machine/I3c.lean ====
section
/-!
DEFINITION. The I3C target and its window, register writes by path, and in-band interrupts (R408 to R412).
-/

namespace Sys2Proof.Machine

open Sys2Proof

/-! ### Target registers (Table 17.7) -/

/-- FLAGS. -/
def Block.flagsByte (b : Block) : Nat :=
  b.rd HUB_CAP.FLOW_CUT 0 + 2 * b.rd HUB_COOL.RUNDOWN 0 + 4 * b.pins.faultN.toNat + 8 * b.hub.tripped.toNat +
  16 * b.rd HUB_LEASE.UNATTENDED 0 + 32 * b.hub.winErr.toNat

/-- The registers but WIN_DATA: index and bytes. -/
def i3cRegs (s : State) : List (Nat × List Nat) :=
  let b := s.b
  [(0x00, leBytes 4 b.nv.waferId), (0x04, [b.mgr]), (0x05, [b.rd HUB_COOL.DEMAND_LEVEL 0]),
   (0x06, leBytes 2 (b.rd HUB_COOL.COOL_DEMAND 0)), (0x08, leBytes 2 (b.present s.tick HUB_COOL.TACH_HZ 0)),
   (0x0A, leBytes 2 (toCode 16 b.waferTmax.1)), (0x0C, [b.flagsByte]), (0x0D, [b.collector]),
   (0x0E, leBytes 2 (b.rundownLeft s.tick)), (0x10, leBytes 4 (b.rd HUB_CAP.P_TICK 0)),
   (0x14, leBytes 4 (b.rd HUB_CAP.AVG_MS 0)), (0x18, leBytes 4 (b.rd HUB_FAULT.FAULT_STATUS 0)), (0x1C, [b.hub.ibiEn]),
   (0x20, leBytes 4 b.hub.winAddr)]

/-- The byte at index `i`, as a private read returns it; an index that is not listed reads 0 (R410). -/
def i3cAt (s : State) (i : Nat) : Nat :=
  ((i3cRegs s).findSome? (fun r => if r.1 ≤ i ∧ i < r.1 + r.2.length then some (r.2.getD (i - r.1) 0) else none)).getD 0

/-- One byte of a private write (R410): WIN_ADDR and IBI_EN take it, every other index ignores it. -/
def Block.i3cByte (b : Block) (i v : Nat) : Block :=
  if i = 0x1C then b.modHub (fun h => { h with ibiEn := v % 8 })
  else if 0x20 ≤ i ∧ i < 0x24 then
    b.modHub (fun h => { h with winAddr := leNat ((leBytes 4 h.winAddr).set (i - 0x20) (v % 256)) })
  else b

/-! ### The window (R411) -/

/-- The window offset that WIN_DATA reaches. -/
def Block.winOffset (b : Block) : Nat := b.hub.winAddr / 4 * 4

/-- WIN_ADDR advances by 4 after each access. -/
def Block.winNext (b : Block) : Block := b.modHub (fun h => { h with winAddr := lowBits 32 (h.winAddr + 4), i3cIndex := 0x28 })

/-- A write of WIN_DATA lands only in HUB_CMD_BMC. -/
def Block.winWrite (b : Block) (now sc v : Nat) : Block :=
  let a := b.winOffset
  (if 0x4000 ≤ a ∧ a < 0x5000 then b.writeWord now sc .i3c 0x14 0 (a - 0x4000) v
   else b.modHub (fun h => { h with winErr := true })).winNext

/-- A read of WIN_DATA: an access that the fabric port would answer with an error returns 0 and sets WIN_ERR. -/
def winRead (sc : Nat) (s : State) : Block :=
  let r := readAt s .i3c sc s.b.winOffset
  let ok := r.2.1 == rfOk
  (r.2.2.modHub (fun h => { h with i3cOut := leBytes 4 (if ok then r.1 else 0), winErr := h.winErr || !ok })).winNext

/-- WIN_DATA (R411). (DEDUCED, log entry 28.) -/
def execWinData (write : Option Word) (sc : ScOff) (s : State) : Host.Outcome State Fault Refusal :=
  match write with
  | some v => onB s (fun now b => b.winWrite now sc v.toNat)
  | none => .next { s with b := winRead sc s }

/-- FLAGS_READ clears WIN_ERR (R411). -/
def execFlagsRead (s : State) : Host.Outcome State Fault Refusal :=
  onB s (fun _ b => b.modHub (fun h => { h with i3cOut := [b.flagsByte], winErr := false, i3cIndex := 0x0D }))

/-! ### LOW_WORD_READ -/

/-- A private read of `n` bytes from the index last written: a byte at 0x24 is an access of WIN_DATA, whose bytes follow, and FLAGS
read clears WIN_ERR (R410, R411). (DESIGN CHOICE, log entry 162.) -/
def privateRead (sc n : Nat) (s : State) : Block :=
  let i := s.b.hub.i3cIndex
  let at_ := (List.range n).map (fun k => (i + k) % 256)
  let b := if at_.contains 0x24 then winRead sc s else s.b
  let bytes := at_.map (fun j => if at_.contains 0x24 ∧ 0x24 ≤ j ∧ j < 0x28 then b.hub.i3cOut.getD (j - 0x24) 0 else i3cAt s j)
  b.modHub (fun h => { h with i3cOut := bytes, i3cIndex := (i + n) % 256, winErr := h.winErr && !at_.contains 0x0C })

/-- LOW_WORD_READ: a read on the register fabric or by a processor, which latches the high half when it takes the low word of a pair
(R7, R420); or a private read of the I3C target, of as many bytes as are enabled from the lowest on (R410). -/
def execLowWordRead (path : Path) (addr : BitVec 27) (be : Byte) (sc : ScOff) (s : State) : Host.Outcome State Fault Refusal :=
  match path with
  | .i3c => .next { s with b := privateRead sc ((List.range 8).takeWhile (fun k => be.toNat.testBit k)).length s }
  | _ =>
    let r := readRequest s path sc addr.toNat be.toNat
    .next { s with b := r.2.2.respond r.1 r.2.1 }

/-! ### REGISTER_WRITE -/

/-- A private write: index `i`, then the enabled bytes of `v`; four bytes at 0x24 are a write of WIN_DATA. -/
def Block.privateWrite (b : Block) (now sc i be v : Nat) : Block :=
  let l := (List.range 8).takeWhile (fun k => be.testBit k)
  let b := b.each l (fun b k => b.i3cByte (i + k) (bitsOf v (8 * k) 8))
  let b := b.cond (decide (i ≤ 0x24 ∧ 0x28 ≤ i + l.length)) (fun b => b.winWrite now sc (bitsOf v (8 * (0x24 - i)) 32))
  b.modHub (fun h => { h with i3cIndex := (i + l.length) % 256 })

/-- REGISTER_WRITE: on the register fabric or by a processor at a window offset, or a private write to the I3C target, whose
index is `addr` (R8, R408, R410). A processor writes only while it is in RUN. (DEDUCED, log entry 31.) -/
def execRegisterWrite (path : Path) (addr : BitVec 27) (be : Byte) (v : BitVec 64) (sc : ScOff) (s : State) :
    Host.Outcome State Fault Refusal :=
  onB s (fun now b => match path with
    | .i3c => b.privateWrite now sc (addr.toNat % 256) be.toNat v.toNat
    | .proc p => if (b.proc p).st = 0 then b.write now sc path addr.toNat be.toNat v.toNat else b
    | .fabric => b.write now sc path addr.toNat be.toNat v.toNat)

/-! ### Common command codes (R409) -/

/-- Take a dynamic address, unless one is held. (PRESUMED, log entry 23.) -/
def Block.takeAddr (b : Block) (a : Nat) : Block :=
  b.cond b.hub.dynAddr.isNone (fun b => b.modHub (fun h => { h with dynAddr := some a }))

/-- ENTDAA. (PRESUMED, log entry 23.) -/
def execEntdaa (addr : BitVec 7) (s : State) : Host.Outcome State Fault Refusal := onB s (fun _ b => b.takeAddr addr.toNat)

/-- SETDASA, to the static address 0x2C. -/
def execSetdasa (addr : BitVec 7) (s : State) : Host.Outcome State Fault Refusal := onB s (fun _ b => b.takeAddr addr.toNat)

/-- RSTDAA: the dynamic address is given up. -/
def execRstdaa (s : State) : Host.Outcome State Fault Refusal := onB s (fun _ b => b.modHub (fun h => { h with dynAddr := none }))

/-- ENEC: event bit 0 enables in-band interrupts (R412). -/
def execEnec (events : Byte) (s : State) : Host.Outcome State Fault Refusal :=
  onB s (fun _ b => b.cond (events.toNat.testBit 0) (fun b => b.modHub (fun h => { h with ibiOn := true })))

/-- DISEC. (DEDUCED, log entry 27.) -/
def execDisec (events : Byte) (s : State) : Host.Outcome State Fault Refusal :=
  onB s (fun _ b => b.cond (events.toNat.testBit 0) (fun b => b.modHub (fun h => { h with ibiOn := false })))

/-- Answer a GET code with `n` bytes whose values the spec leaves open. (DESIGN CHOICE, log entry 25.) -/
def Block.answerOpen (b : Block) (n : Nat) : Block :=
  let r := b.freshes n
  r.2.modHub (fun h => { h with i3cOut := r.1.map (lowBits 8) })

/-- GETPID: six bytes. (DESIGN CHOICE, log entry 25.) -/
def execGetpid (s : State) : Host.Outcome State Fault Refusal := onB s (fun _ b => b.answerOpen 6)
/-- GETBCR: one byte. -/
def execGetbcr (s : State) : Host.Outcome State Fault Refusal := onB s (fun _ b => b.answerOpen 1)
/-- GETDCR: one byte. -/
def execGetdcr (s : State) : Host.Outcome State Fault Refusal := onB s (fun _ b => b.answerOpen 1)
/-- GETSTATUS: two bytes. -/
def execGetstatus (s : State) : Host.Outcome State Fault Refusal := onB s (fun _ b => b.answerOpen 2)

/-- Two bytes, the high one first. -/
def beBytes2 (v : Nat) : List Nat := [v / 256 % 256, v % 256]

/-- SETMWL: at most 64 bytes. (PRESUMED, log entry 26.) -/
def execSetmwl (n : BitVec 16) (s : State) : Host.Outcome State Fault Refusal :=
  onB s (fun _ b => b.modHub (fun h => { h with mwl := min 64 n.toNat }))
/-- GETMWL. (PRESUMED, log entry 24.) -/
def execGetmwl (s : State) : Host.Outcome State Fault Refusal :=
  onB s (fun _ b => b.modHub (fun h => { h with i3cOut := beBytes2 h.mwl }))
/-- SETMRL: at most 64 bytes. (PRESUMED, log entry 26.) -/
def execSetmrl (n : BitVec 16) (s : State) : Host.Outcome State Fault Refusal :=
  onB s (fun _ b => b.modHub (fun h => { h with mrl := min 64 n.toNat }))
/-- GETMRL: the length, and the one byte of an in-band interrupt's payload. (PRESUMED, log entry 24.) -/
def execGetmrl (s : State) : Host.Outcome State Fault Refusal :=
  onB s (fun _ b => b.modHub (fun h => { h with i3cOut := beBytes2 h.mrl ++ [1] }))

/-- IBI_DELIVERY: a pending in-band interrupt goes out with its payload (R412). (DEDUCED, log entry 27.) -/
def execIbiDelivery (s : State) : Host.Outcome State Fault Refusal :=
  onB s (fun _ b => b.cond (b.hub.ibiOn && b.hub.ibiPending != 0)
    (fun b => b.modHub (fun h => { h with i3cOut := [h.ibiPending], ibiPending := 0 })))

end Sys2Proof.Machine
end

