-- ==== Sys2Proof/Machine/Survey.lean ====
section
/-!
DEFINITION. The tick mark with everything that falls due at a boundary, and the frames of the parcel rings (R11, R18, R23,
R31 to R34, R41 to R43, R47 to R55, R77, R129, R134, R140, R151 to R154, R180, R199, R254, R257, R261).
-/

namespace Sys2Proof.Machine

open Sys2Proof

/-! ### Latches at the mark (R18, R48, R50, R153) -/

/-- Every agent latches the activity of the ended tick; agents that are not listed, of slots that are not active, or without
an engine clock, latch zeros (R12, R18, R48). -/
def Block.latchActivity (b : Block) (l : List Latched) : Block :=
  let b := b.eachAgent (fun a => { a with actC := List.replicate 12 0, actM := List.replicate 12 0 })
  let n := b.ecOfTick
  b.each l (fun b x =>
    let k := pid x.field.val x.slot.val
    b.cond (b.hub.clockOn && b.active x.field.val x.slot.val && (b.agent k).released) (fun b => b.modAgent k (fun a => { a with
      actC := (List.range 12).map (fun c => actC (coreSum x n c)), actM := (List.range 12).map (fun c => actM c (coreMax x n c)) })))

/-- All eight benchmark readings of a field. -/
def Block.benchNow (b : Block) (f : Nat) : List Int := (List.range 8).map (fun k => b.benchTemp f k)

/-- The lowest margins of the ended tick (R102, R123); the readings of detectors that are not armed are no margins.
(DESIGN CHOICE, log entry 129.) -/
def Block.latchMargins (b : Block) (l : List (FieldNo × SlotNo × BitVec 6)) : Block :=
  b.each l (fun b x => b.cond (b.armedA x.1.val x.2.1.val || b.armedB x.1.val x.2.1.val) (fun b =>
    b.modAgent (pid x.1.val x.2.1.val) (fun a => { a with marginMin := min a.marginMin x.2.2.toNat })))

/-- The gates of every parcel run to the end of the tick (R75). -/
def Block.gatesEnd (b : Block) (f : Nat) : Block := b.each (b.liveAgents f) (fun b s => b.gatesTo f s b.ecOfTick)

/-- PH_FAULT_N found high again (R174). -/
def Block.pinsClear (b : Block) (l : List (FieldNo × PhaseNo)) : Block :=
  b.each l (fun b x => b.wrB (F_PHASE.FAULT_PIN x.2.val) x.1.val false)

/-- A benchmark's conversion against Table 7.2: `now` are the field's benchmark readings at this mark, `others` its other benchmarks
that are not declared broken (R155). -/
def Sensor.testBench (r : Sensor) (tick : Nat) (valid : Bool) (raw : Nat) (t : Int) (now : List Int) (others : List Nat) : Sensor :=
  let rc := if !valid || outOfRange t then r.rangeCount + 1 else 0
  let r :=
    if !valid then r
    else if r.stuckCount ≠ 0 ∧ r.raw = raw then { r with stuckCount := r.stuckCount + 1 }
    else { r with raw := raw, stuckCount := 1, lows := now, highs := now }
  let r := r.widen now
  let moved := others.any (fun j => decide (16 < r.spread j))
  { r with rangeCount := rc }.decideIf tick (decide (2 ≤ rc) || (decide (4096 ≤ r.stuckCount) && moved))

/-- A conversion is taken: the reading, when it is valid. -/
def Block.takeBench (b : Block) (x : BenchIn) : Block :=
  b.modSensor (senBench x.field.val x.bench.val) (fun r =>
    { r with valid := x.valid, temp := if x.valid then x.raw.toInt else r.temp })

/-- Benchmarks at a mark: readings, the runs that follow them, and the tests of Table 7.2 (R153, R154). -/
def Block.latchBenches (b : Block) (tick : Nat) (l : List BenchIn) : Block :=
  let b := b.each l (fun b x => b.takeBench x)
  let b := b.each allFields (fun b f =>
    let now := b.benchNow f
    b.each ((keysIn b.sensors (1024 * f) 900).filter (fun k => (b.sensor k).stuckCount != 0)) (fun b k =>
      b.modSensor k (fun r => r.widen now)))
  b.each l (fun b x =>
    let k := senBench x.field.val x.bench.val
    b.cond (!(b.sensor k).broken) (fun b => b.modSensor k (fun r =>
      r.testBench tick x.valid x.raw.toNat x.raw.toInt (b.benchNow x.field.val)
        ((List.range 8).filter (fun j => j != x.bench.val && !(b.sensor (senBench x.field.val j)).broken)))))

/-- THROT_C - THROT_HYS of a field, 1/8 °C. -/
def Block.coolLimit (b : Block) (f : Nat) : Int := 8 * ((b.rd F_THERM.THROT_C f : Int) - b.rd F_THERM.THROT_HYS f)

/-- What the field limit follows, of the benchmarks `l` in force at offset 0 of the tick that ends and not broken since (R162). -/
def Block.snapLimit (b : Block) (f : Nat) (l : List (Nat × Int)) : Int :=
  match (l.filter (fun x => !(b.sensor (senBench f x.1)).broken)).map Prod.snd with
  | [] => maxOf ((allSlots.filter (fun s => b.slotOk f s)).map (fun s => b.heldTemp f s))
  | x :: r => maxOf (x :: r)

/-- Readings in force at offset 0 of tick b - 1, for the throttle step of boundary b (R161): a benchmark that the mark of b - 1 latches
is in force from offset 24 only (R153), so its reading is the one that this mark finds; a slot's is the one held through b - 1, the
substitute as boundary b - 1 left it. -/
def Block.snapReadings (b : Block) (now f : Nat) : Block :=
  let b := b.cond (now % 64 == 63) (fun b => b.modFu f (fun u => { u with snapBench := (b.benches f).map (fun k => (k, b.benchTemp f k)) }))
  b.cond (now % 64 == 0) (fun b => b.modFu f (fun u => { u with
    snapTemps := (b.actives f).filterMap (fun s => if b.heldTemp f s = 0 then none else some (s, b.heldTemp f s))
    snapField := b.snapLimit f u.snapBench }))

/-- The benchmarks' part of the restore rule: 256 ticks end at each multiple of 256 (R161, R162). -/
def Block.coolMark (b : Block) (now f : Nat) : Block :=
  let ok := decide (b.limitTemp f < b.coolLimit f)
  b.modFu f (fun u =>
    if now % 256 = 0 then { u with benchCoolDone := u.benchCool, benchCool := ok } else { u with benchCool := u.benchCool && ok })

/-- The reading that the estimator uses in the new tick is the one in force at its start. (DEDUCED, log entry 20.) -/
def Block.holdReadings (b : Block) : Block :=
  b.each ((keysOf b.sensors).filter (fun k => (b.sensor k).held != (b.sensor k).temp)) (fun b k =>
    b.modSensor k (fun r => { r with held := r.temp }))

/-! ### The ended tick (R51, R98, R108, R122, R238) -/

/-- What the field unit keeps of a parcel's ended tick when it has no released agent. (DEDUCED, log entry 22.) -/
def Parcel.quiet (p : Parcel) : Parcel :=
  { p with cls := 0, unt := false, tickDroop := 0, tickHalted := true, tickSafe := false, starts := p.startsLate, ends := p.endsLate
           startsLate := [], endsLate := [] }

/-- Class, droop reason, halt and safe setpoint of every parcel for the tick that ends. -/
def Block.closeParcels (b : Block) (f : Nat) : Block :=
  let b := b.each (keysIn b.parcels (pid f 0) 672) (fun b k => b.modParcel k Parcel.quiet)
  let l := (b.slotsOf f).filter (fun e => e.2.inForce)
  let b := b.each (l.flatMap (fun e => e.2.parcels)) (fun b p => b.modParcel (pid f p) (fun x => { x with cls := classOf (onParcel l p) }))
  let safe := b.safeInForce f
  b.each (keysIn b.agents (pid f 0) 672) (fun b k =>
    let a := b.agent k
    let low := safe && decide ((b.cadE k).safeQ < a.qTarget)
    b.modParcel k (fun x => { x with
      unt := a.unticketedInTick, tickDroop := a.droopReason, tickHalted := a.halted || a.haltedInTick, tickSafe := low }))

/-- The figures of a field that describe the ended tick. -/
def Block.closeField (b : Block) (f : Nat) : Block :=
  let ec := b.ecOfTick
  let mhz := b.mhz
  let v := (b.rail (railOf f 0)).refv
  b.modFu f (fun u => { u with
    selDroop := b.rd F_DROOP.PARCEL_SEL f, selTherm := b.rd F_THERM.PARCEL_SEL f, selTicket := b.rd F_TICKET.PARCEL_SEL f
    nEc := ec, fEnd := mhz, vEnd := v, overranLast := u.overran, overran := false, reportPrev := u.report, committedRise := 0
    faultPrev := u.faultNow, faultNow := [], cePrev := u.ceNow, ceNow := 0, tLast := u.tNow })

/-! ### Agents at the boundary (R77, R96, R129, R141) -/

/-- Droop reason with which a tick begins: the clamp in force. (DEDUCED, log entry 55.) -/
def clampReason (c : Nat) : Nat := if c = 2 then 9 else if c = 1 then 8 else 0

/-- One agent takes the target and the refill of the last downward frame; a rate falls at once (R77, R129). The pools of a field
marked out stay at 0 (R435). -/
def Agent.atMark (a : Agent) (poolMax : Nat) (none_ : Bool) : Agent :=
  let pool := if none_ then 0 else min poolMax (a.pool + a.refill + a.giveBack)
  { a with
    qTarget := a.qNext, qRamp := min a.qRamp a.qNext, pool := pool, lastRefill := if none_ then 0 else a.refill, refill := 0, giveBack := 0
    unticketedInTick := a.unticketed, haltedInTick := false, droopReason := clampReason a.clamp, marginMin := 63
    gateEc := 0, shapeSnap := a.shape, droopSnap := a.qDroop, marginSnap := a.marginMin, poolSnap := pool }

/-- Every agent of a field at the boundary. -/
def Block.agentsMark (b : Block) (f : Nat) : Block :=
  let poolMax := b.rd F_TICKET.POOL_MAX f
  let q := b.bit HUB_CAP.QUIESCED 0 || b.isOut f
  b.each (keysIn b.agents (pid f 0) 672) (fun b k => b.modAgent k (fun a => a.atMark poolMax q))

/-- Entries changed since they were loaded go into their agents; those of a marked-out field wait for its release (R432). -/
def Block.loadCad (b : Block) (f : Nat) : Block :=
  b.each ((keysIn b.cad (pid f 0) 672).filter (fun k => (b.cadE k).dirty)) (fun b k => b.modCadE k (fun c => { c with dirty := false }))

/-- The agents of a field are released together; a field that starts after the engine clock begins its calibration (R11, R367). -/
def Block.releaseMark (b : Block) (now f : Nat) : Block :=
  if !(b.fu f).releaseDue then b
  else
    let b := (b.modFu f (fun u => { u with releaseDue := false })).each allSlots (fun b s =>
      b.modAgent (pid f s) (fun a => { a with released := true }))
    (b.loadCad f).cond b.hub.clockOn (fun b => b.calibrate now f)

/-! ### Budget, QUIESCED and fields marked out (R22, R29, R95, R96, R197 to R199, R365) -/

/-- The budget received in the last tick comes into force (R22). -/
def Block.budgetMark (b : Block) (f : Nat) : Block :=
  match (b.fu f).budgetNext with
  | none => b
  | some x => ((b.wr F_LIMIT.BUDGET f x.1).wr F_LIMIT.WAFER_REASON f x.2).modFu f (fun u => { u with budgetNext := none })

/-- QUIESCED follows the flags and QUIESCE as the boundary finds them (R96). -/
def Block.quiesceMark (b : Block) : Block := b.wrB HUB_CAP.QUIESCED 0 (b.unmet && b.bit HUB_CAP.QUIESCE 0)

/-- A field whose pair has stopped or latched off is marked out from this boundary; event 0x48 is written after READY only
(R354, R365). -/
def Block.outMark (b : Block) (now f : Nat) : Block :=
  match (b.fu f).outNext with
  | none => b
  | some c =>
    let was := b.isOut f
    let b := b.modFu f (fun u => { u with outNext := none, calibrated := false })
    let b := (b.wr F_ID.MARKED_OUT f 1).wr F_ID.OUT_CAUSE f c
    (b.cond (!was && b.phaseNo == 0) (fun b => b.monEvent now 0 0x48 (srcField f) [f, c])).putFloor

/-- Fields that wait for a start after READY, in ascending order, while fewer than 12 are in soft start (R367). -/
def Block.startWaiting (b : Block) (now : Nat) : Block :=
  if !b.powerOk || b.mgr == 8 then b
  else b.each (allFields.filter (fun f => (b.fu f).startQueued && !b.pairUp f)) (fun b f =>
    b.cond (decide (b.starting.length < 12)) (fun b => b.lateStart now f))

/-! ### Tickets at the boundary (R134, R140, R141, R143, R146) -/

/-- Slots that become RETIRED, or whose billing after an abort is over, go to the end of the free list (R132, R140, R141, R143), those
of one boundary in ascending order; the record of the job counts a cancelled one as it is retired (R230). (DEDUCED, log entry 45.) -/
def Block.retireMark (b : Block) (now f : Nat) : Block :=
  b.each ((b.slotsOf f).filter (fun e => e.2.retireAt != 0 && e.2.retireAt == now)) (fun b e =>
    let t := e.2
    let b := (b.modSlot (tid f e.1) (fun t => { t with st := 4, retireAt := 0 })).modFu f (fun u => { u with retiredQ := u.retiredQ ++ [e.1] })
    let b := b.cond t.cancelled (fun b => (b.modColl' f (jobOf t.task) Coll.addCancelled).resetHang f)
    b.cond (!t.aborted) (fun b => b.record f now 0 0x04 (pid f t.first) (if t.cancelled then 2 else 0) t.task
      (if t.cancelled then 0 else actualOf t.energy)))

/-- WAITING tickets that were not held age by one tick (R133, R134). -/
def Block.ageMark (b : Block) (f : Nat) : Block :=
  if b.admissionHeld f then b
  else b.each ((b.slotsOf f).filter (fun e => e.2.waiting && !b.jobHeld e.2)) (fun b e =>
    b.modSlot (tid f e.1) (fun t => { t with waited := t.waited + 1 }))

/-- HANG_AGE counts while the field has a WAITING ticket or a wafer-queue entry (R146). (DEDUCED, log entry 114.) -/
def Block.hangMark (b : Block) (f : Nat) : Block :=
  if (b.slotsOf f).any (fun e => e.2.waiting) || b.hub.wq.any (fun e => e.field == f) then b.inc F_TICKET.HANG_AGE f
  else b.resetHang f

/-- The boundary after a severe declaration: every OPEN account whose job shows a ticket is closed with cause 2 (R234, R297). -/
def Block.severeMark (b : Block) (now : Nat) : Block :=
  match b.hub.severeAt with
  | none => b
  | some t =>
    if t + 1 ≠ now then b
    else b.each ((keysOf b.accounts).filter (fun n => (b.acct n).st == 1 && b.jobTickets n)) (fun b n => b.closeAccount n 2)

/-! ### Rails at the boundary (R179, R180, R194, R199) -/

/-- Balance trims come into force, and FOLDBACK shows the ended tick. -/
def Block.phasesMark (b : Block) (f : Nat) : Block :=
  b.each (keysIn b.phases (phOf f 0) 20) (fun b k =>
    let x := b.phase k
    let p := k - phOf f 0
    let b := match x.trimNext with
      | some v => b.wrZ (F_PHASE.BAL_TRIM p) f v
      | none => b
    (b.wrB (F_PHASE.FOLDBACK p) f x.foldTick).modPhase k (fun x => { x with trimNext := none, foldTick := false }))

/-- The mean VIN of the ended tick: VIN_UV below 10.2 V, once until a tick at or above 10.8 V (R199, R366). Without a valid mean, or with
a VIN_SENSE channel that failed its last self-test (item 42 of code 0x5), the mean of before stays and counts for nothing (R177).
(DEDUCED, log entry 114.) -/
def Block.vinMark (b : Block) (i : TickIn) (f : Nat) : Block :=
  let u := b.fu f
  match (i.vin.find? (fun x => x.1.val == f)).filter (fun _ => !u.bistChan.testBit 42) with
  | none => b.modFu f (fun u => { u with vinValid := false, vinGood := 0 })
  | some x =>
    let v := x.2.toNat
    let good := decide (10800 ≤ v)
    let low := decide (v < 10200)
    let b := b.modFu f (fun u => { u with
      vin := v, vinValid := true, vinUvSeen := low || (u.vinUvSeen && !good), vinGood := if good && !i.pwrFail then u.vinGood + 1 else 0 })
    b.cond (low && !u.vinUvSeen) (fun b => b.fault 18 f (min 32767 v) 0)

/-! ### The hub at the boundary -/

/-- Reports that did not arrive by the boundary count as reports with a bad CRC (R37). -/
def Block.reportsMark (b : Block) (now : Nat) : Block :=
  let late := if now < 2 then [] else allFields.filter (fun f => !b.hub.arrived.contains f && !b.hub.reportBad.contains f)
  (b.each late (fun b _ => b.fault 22 255 0xFF 0)).modHub (fun h => { h with
    arrivedLast := h.arrived, reportsLast := h.reports, arrived := [], reportBad := [], framesSent := false, wtrigCast := h.wtrig, wtrig := false })

/-- Hold timers count down, and a processor that has reached RUN writes again: its hold and its safe setpoints end (R272, R273). -/
def Proc.atMark (q : Proc) (now : Nat) : Proc :=
  let back := q.st == 0 && q.holdOn
  { q with
    hold := if q.holdOn then q.hold - 1 else q.hold, holdOn := q.holdOn && !back, safe := q.safe && !back
    compDown := q.compDown.filter (fun e => decide (now < e.2)) }
def Block.procsMark (b : Block) (now : Nat) : Block :=
  b.each (keysOf b.procs) (fun b k =>
    let back := (b.proc k).st == 0 && (b.proc k).holdOn
    (b.modProc k (fun q => q.atMark now)).cond (back && decide (k < 84)) (fun b => ((b.liftDues k).putThermLim k).publishLevel))

/-- The byte bucket is filled, and a burst that waits for room counts STALL_TICKS (R252, R254). -/
def Block.drainMark (b : Block) (now : Nat) : Block :=
  let b := b.cond (b.ringStalled now) (fun b => b.inc HUB_TRACE.STALL_TICKS 0)
  b.modHub (fun h => { h with bucket := min 4096 (h.bucket + b.rd HUB_TRACE.DRAIN_RATE 0 * 256 / 125) })

/-- PWR_FAIL_N as the mark samples it (R318, R371). -/
def Block.powerMark (b : Block) (pf : Bool) : Block :=
  let again := b.holdup && pf && b.hub.pfClear != 0
  b.modHub (fun h => { h with pfPin := pf, pfClear := if pf then 0 else h.pfClear + 1, pfAgain := h.pfAgain || again })

/-- Commits that arrived by the boundary are captured, and those that fall due at it take effect together (R9, R38, R41, R42). -/
def Block.commitsMark (b : Block) (now : Nat) : Block :=
  let b := b.each ((keysOf b.pages).filter (fun k => (b.page k).transit != [])) (fun b k =>
    b.landWhile now (k % 256) (k / 256) (fun t => t.before now))
  b.each ((keysOf b.pages).filter (fun k => (b.page k).pending.isSome)) (fun b k => b.commitAt now (k % 256) (k / 256))

/-! ### TICK_MARK -/

/-- What a field does before the values of the new tick come into force. -/
def Block.fieldEnds (b : Block) (now : Nat) (i : TickIn) (f : Nat) : Block :=
  (((((((b.gatesEnd f).modFu f (fun u => { u with copy := (u.copy + 1) % 2 ^ 48, startOver := u.startDone })).ageMark f).closeParcels f).closeField f).snapReadings now f).vinMark i f).testDeviations now f

/-- What a field does once commits, budgets, targets and refills are in force. -/
def Block.fieldBegins (b : Block) (now f : Nat) : Block :=
  let b := (b.hangMark f).retireMark now f
  let b := ((b.phasesMark f).latchMark now f).each (keysIn b.sensors (senParcel f 0) 672) (fun b k => b.remapBoundary now f (k - senParcel f 0))
  let b := ((b.shedAdd now f 0).shedAdd now f 1).evalMargin now f
  b.shapeNumbers f

/-- The boundary that begins tick `now`. (DESIGN CHOICE, log entry 17.) -/
def Block.tickMark (b : Block) (now : Nat) (i : TickIn) : Block :=
  let b := b.cond (b.phaseNo == 1) (fun b => b.setPhaseNo 2)
  let b := (b.modHub (fun h => { h with marked := true, plumbLast := b.bit HUB_CONTOUR.PLUMB_ON 0 })).quiesceMark.each allFields (fun b f => b.fieldEnds now i f)
  let b := (((((b.latchActivity i.latched).latchMargins i.margins).pinsClear i.phaseOk).latchBenches now i.bench).holdReadings).each allFields (fun b f => b.coolMark now f)
  let b := ((((b.followTrigger now).reportsMark now).powerMark i.pwrFail).flowSample now i.flowOk).procsMark now
  let b := (b.commitsMark now).each allFields (fun b f =>
    let b := (((b.budgetMark f).outMark now f).releaseMark now f).cond (b.fu f).recalReset (fun b => b.recalReset f)
    b.cond (!b.isOut f) (fun b => b.loadCad f))
  let b := ((b.startWaiting now).severeMark now).each allFields (fun b f => b.agentsMark f)
  let b := b.each (keysOf b.ctxs) (fun b n => b.ctxBoundary now n)
  let b := (b.cond b.unmet (fun b => b.add2 HUB_CAP.UNMET_TICKS_LO HUB_CAP.UNMET_TICKS_HI 0 1)).each allFields (fun b f => b.fieldBegins now f)
  let b := b.each allFields (fun b f => b.represent now f)
  let b := (((b.captureEdges now).plumbEnd now).joinBoundary now).retrain now
  let b := b.cond (now % 65536 == 0) (fun b => b.ceBlockStart)
  let b := b.cond (now % 64 == 32) (fun b => b.wr HUB_ACCOUNT.DRAIN_TICK 0 (now - 32))
  (b.drainMark now).evalMgr now

/-- TICK_MARK: wafer time increments, and the boundary's effects take place (R31, R32, R42). No mark is issued in reset.
(PRESUMED, log entry 5; DESIGN CHOICE, log entry 17.) -/
def execTickMark (i : TickIn) (s : State) : Host.Outcome State Fault Refusal :=
  if s.b.pins.inReset then .next s
  else
    let now := (s.tick + 1) % 2 ^ 48
    .next { s with tick := now, b := s.b.tickMark now i }

/-! ### Ring frames (R23) -/

/-- The local slots of a ring. -/
def ringSlots (r : Nat) : List Nat := (List.range 56).map (fun j => 56 * r + j)

/-- The slot's agent places its 18 words in the frame; one that is not active sends zeros (R12, R49). -/
def Block.takeActivity (b : Block) (f s : Nat) : Block :=
  let a := b.agent (pid f s)
  let w := if b.active f s then packRecord a.actC a.actM else List.replicate 18 0
  b.modParcel (pid f s) (fun p => { p with recC := recordC w, recM := recordM w })

/-- The slot's own view of a reading: in force at once, or held back by a validation (R152, R157, R158, R170). -/
def Sensor.takeReading (r : Sensor) (range : Bool) (t shut : Int) : Sensor :=
  if r.validating then
    if range then { r with passCount := 0 } else { r with newTemp := t }
  else if range then r
  else { r with temp := t, valid := true, shutCount := if shut < t then r.shutCount + 1 else 0 }

/-- A traverse word of an active slot (R151, R152, R154): the sensor is the one that the agent reads. -/
def Block.takeWordOf (b : Block) (now f : Nat) (w : TravWord) : Block :=
  let s := w.slot.val
  let c := b.cadE (pid f s)
  if !b.active f s || s % 4 != now % 4 || w.spare != c.useSpare then b
  else
    let band := b.rd F_THERM.BAND f
    let t := w.t.toInt + (if w.spare then c.spareOfs else c.sensorOfs).getD band 0
    let x := b.expectedOf f s w.spare
    let k := sensorOf f s w.spare
    let stuck := b.rd F_THERM.STUCK_READS f
    let benches := b.benchNow f
    let shut : Int := 8 * b.rd F_THERM.SHUT_C f
    let b := b.cond (!(b.sensor k).broken) (fun b => b.modSensor k (fun r => r.test now w.range w.t.toNat t stuck x.2 benches))
    let b := b.modSensor (senParcel f s) (fun r => r.takeReading w.range t shut)
    let b := b.cond (!w.range) (fun b => b.modFu f (fun u => { u with devDue := u.devDue ++ [(s, w.spare, t)] }))
    b.cond (decide (b.coolLimit f ≤ b.slotTemp f s)) (fun b => b.modParcel (pid f s) (fun p => { p with cool := false }))

/-- UPWARD_FRAME: activity records, the estimator on the readings held, then the traverse words. With a bad CRC the records and
readings of before stand (R23, R53, R55, R152). A field whose rails are off sends none. (DEDUCED, log entry 19.) -/
def execUpwardFrame (f : FieldNo) (r : RingNo) (crcOk : Bool) (words : List TravWord) (s : State) : Host.Outcome State Fault Refusal :=
  onB s (fun now b =>
    if !b.railsOn f then b
    else
      let l := ringSlots r
      let b := if crcOk then b.each l (fun b x => b.takeActivity f x) else b.fault 22 f r 0
      let b := b.each l (fun b x => b.estimate f x)
      b.cond crcOk (fun b => b.each (words.filter (fun w => w.slot.val / 56 == r.val)) (fun b w => b.takeWordOf now f w)))

/-- An arm word is in the downward frames of ticks T - 3 to T - 1, a release word in those of U - 3 to U - 1 (R257, R261). -/
def wordDue (now : Nat) (at_ : Option Nat) : Bool :=
  match at_ with
  | some t => decide (t ≤ now + 3) && decide (now < t)
  | none => false

/-- An agent that missed every release word restarts at the first downward frame it receives (R261). -/
def Block.resumeLate (b : Block) (f s : Nat) : Block :=
  let a := b.agent (pid f s)
  if a.released && a.halted && b.active f s && !b.isOut f && !b.hub.wires && b.haltSt == haltRunning then
    ((b.modAgent (pid f s) (fun a => { a with halted := false, haltedInTick := true })).restartParcel (pid f s)).inc F_TRACE.RESUME_LATE f
  else b

/-- One agent of the ring takes its words. -/
def Block.takeDown (b : Block) (f s : Nat) (planned arm rel : Bool) : Block :=
  let p := (b.parcel (pid f s)).plan
  let b := b.modAgent (pid f s) (fun a =>
    let a := if planned then { a with qNext := p.q, refill := p.refill } else a
    { a with armed := a.armed || (arm && !a.halted), releaseWord := a.releaseWord || (rel && a.halted && !b.dead (pid f s)) })
  b.resumeLate f s

/-- DOWNWARD_FRAME: targets and refills of the plan of the next tick, and arm and release words; with a bad CRC an agent keeps its
target and receives nothing (R23, R89, R257, R261); in a tick that has overrun the agents repeat theirs (R36). (DEDUCED, log entry 18.) -/
def execDownwardFrame (f : FieldNo) (r : RingNo) (crcOk : Bool) (s : State) : Host.Outcome State Fault Refusal :=
  onB s (fun now b =>
    if !crcOk || !b.railsOn f then b
    else
      let planned := decide ((b.fu f).winTick = now + 1) && !(b.fu f).overran
      b.each (ringSlots r) (fun b x => b.takeDown f x planned (wordDue now b.hub.sched) (wordDue now b.hub.release)))

end Sys2Proof.Machine
end

