-- ==== Sys2Proof/Machine/Dispatch.lean ====
section
/-!
DEFINITION. The dispatch: one arm per command, each a direct call of its meaning. `exec` acts on everything but the queue.
-/

namespace Sys2Proof.Machine

open Sys2Proof

/-- The effect of a command. (DESIGN CHOICE, log entries 3, 4, 121.) -/
def exec (i : Instr) (s : State) : Host.Outcome State Fault Refusal :=
  match i with
  | .survRstNAssert => Sys2Proof.Machine.execSurvRstNAssert s
  | .survRstNRelease strap => Sys2Proof.Machine.execSurvRstNRelease strap s
  | .vsurvLoss => Sys2Proof.Machine.execVsurvLoss s
  | .tickMark x => Sys2Proof.Machine.execTickMark x s
  | .rampMark k => Sys2Proof.Machine.execRampMark k s
  | .allowanceWordPass f sl => Sys2Proof.Machine.execAllowanceWordPass f sl s
  | .allowanceWordReturn f r => Sys2Proof.Machine.execAllowanceWordReturn f r s
  | .phaseRestoreAll f r why => Sys2Proof.Machine.execPhaseRestoreAll f r why s
  | .upwardFrame f r crcOk words => Sys2Proof.Machine.execUpwardFrame f r crcOk words s
  | .thermalShutdown f k index sc => Sys2Proof.Machine.execThermalShutdown f k index sc s
  | .sensorBroken f k index => Sys2Proof.Machine.execSensorBroken f k index s
  | .downwardFrame f r crcOk => Sys2Proof.Machine.execDownwardFrame f r crcOk s
  | .fieldReport f crcOk => Sys2Proof.Machine.execFieldReport f crcOk s
  | .budgetFrame f crcOk => Sys2Proof.Machine.execBudgetFrame f crcOk s
  | .capDivision => Sys2Proof.Machine.execCapDivision s
  | .hubTickOverrun => Sys2Proof.Machine.execHubTickOverrun s
  | .limitPlan f => Sys2Proof.Machine.execLimitPlan f s
  | .tickOverrun f => Sys2Proof.Machine.execTickOverrun f s
  | .measurementComplete f m => Sys2Proof.Machine.execMeasurementComplete f m s
  | .estModeChange f => Sys2Proof.Machine.execEstModeChange f s
  | .channelInvalid f p => Sys2Proof.Machine.execChannelInvalid f p s
  | .channelRestored f p => Sys2Proof.Machine.execChannelRestored f p s
  | .counterUpdate f => Sys2Proof.Machine.execCounterUpdate f s
  | .hubCounterUpdate => Sys2Proof.Machine.execHubCounterUpdate s
  | .recalSolve f => Sys2Proof.Machine.execRecalSolve f s
  | .recalInstall f => Sys2Proof.Machine.execRecalInstall f s
  | .recalibrate c => Sys2Proof.Machine.execRecalibrate c s
  | .modelLoad c => Sys2Proof.Machine.execModelLoad c s
  | .modelSwap port => Sys2Proof.Machine.execModelSwap port s
  | .modelSelect c => Sys2Proof.Machine.execModelSelect c s
  | .droopT1Event f sl second margin ec => Sys2Proof.Machine.execDroopT1Event f sl second margin ec s
  | .droopT2Event f sl second margin ec => Sys2Proof.Machine.execDroopT2Event f sl second margin ec s
  | .clampReleaseCount f sl => Sys2Proof.Machine.execClampReleaseCount f sl s
  | .droopEventWord f sl => Sys2Proof.Machine.execDroopEventWord f sl s
  | .t2BlockEnd f => Sys2Proof.Machine.execT2BlockEnd f s
  | .shapeStep f sl => Sys2Proof.Machine.execShapeStep f sl s
  | .parcelIdle f sl => Sys2Proof.Machine.execParcelIdle f sl s
  | .unticketedStart f sl => Sys2Proof.Machine.execUnticketedStart f sl s
  | .ticketRequest port x ec sc => Sys2Proof.Machine.execTicketRequest port x ec sc s
  | .representWindowEnd f => Sys2Proof.Machine.execRepresentWindowEnd f s
  | .ticketStart f slot sc => Sys2Proof.Machine.execTicketStart f slot sc s
  | .ticketEnd f slot sc => Sys2Proof.Machine.execTicketEnd f slot sc s
  | .ticketOutTaken f => Sys2Proof.Machine.execTicketOutTaken f s
  | .ticketAged f slot => Sys2Proof.Machine.execTicketAged f slot s
  | .startTimeout f slot => Sys2Proof.Machine.execStartTimeout f slot s
  | .waferQueueMove => Sys2Proof.Machine.execWaferQueueMove s
  | .ticketHang f => Sys2Proof.Machine.execTicketHang f s
  | .waitforBuild c => Sys2Proof.Machine.execWaitforBuild c s
  | .waitforBuildDone => Sys2Proof.Machine.execWaitforBuildDone s
  | .capShareEval => Sys2Proof.Machine.execCapShareEval s
  | .contextAbort n => Sys2Proof.Machine.execContextAbort n s
  | .policyEval => Sys2Proof.Machine.execPolicyEval s
  | .thermalWarning f => Sys2Proof.Machine.execThermalWarning f s
  | .thermalThrottleStep f => Sys2Proof.Machine.execThermalThrottleStep f s
  | .thermalRestoreStep f => Sys2Proof.Machine.execThermalRestoreStep f s
  | .bandChange f => Sys2Proof.Machine.execBandChange f s
  | .autoRemap f sl => Sys2Proof.Machine.execAutoRemap f sl s
  | .spareValidated f sl => Sys2Proof.Machine.execSpareValidated f sl s
  | .sensorRemap c => Sys2Proof.Machine.execSensorRemap c s
  | .flowTachEdge sc => Sys2Proof.Machine.execFlowTachEdge sc s
  | .flowLoss => Sys2Proof.Machine.execFlowLoss s
  | .flowRestore => Sys2Proof.Machine.execFlowRestore s
  | .coolDemandUpdate => Sys2Proof.Machine.execCoolDemandUpdate s
  | .rundownEnd => Sys2Proof.Machine.execRundownEnd s
  | .shutdownRampdown => Sys2Proof.Machine.execShutdownRampdown s
  | .shutdownAck c => Sys2Proof.Machine.execShutdownAck c s
  | .shutdownExit => Sys2Proof.Machine.execShutdownExit s
  | .modulatorTrigger f r now vout amps => Sys2Proof.Machine.execModulatorTrigger f r now vout amps s
  | .brakeStart f r => Sys2Proof.Machine.execBrakeStart f r s
  | .brakeEnd f r now => Sys2Proof.Machine.execBrakeEnd f r now s
  | .railOv f r x => Sys2Proof.Machine.execRailOv f r x s
  | .railUv f r => Sys2Proof.Machine.execRailUv f r s
  | .phaseOc f p => Sys2Proof.Machine.execPhaseOc f p s
  | .phaseOt f p => Sys2Proof.Machine.execPhaseOt f p s
  | .phaseOtClear f p => Sys2Proof.Machine.execPhaseOtClear f p s
  | .phFaultNAssert f p x => Sys2Proof.Machine.execPhFaultNAssert f p x s
  | .balancePeriodEnd f r => Sys2Proof.Machine.execBalancePeriodEnd f r s
  | .refSlewStep f r => Sys2Proof.Machine.execRefSlewStep f r s
  | .railArrival f r => Sys2Proof.Machine.execRailArrival f r s
  | .softStartEnd f => Sys2Proof.Machine.execSoftStartEnd f s
  | .latchOff f why r x => Sys2Proof.Machine.execLatchOff f why r x s
  | .vinStop f x => Sys2Proof.Machine.execVinStop f x s
  | .railStopDone f => Sys2Proof.Machine.execRailStopDone f s
  | .railEnable c => Sys2Proof.Machine.execRailEnable c s
  | .railDisable c => Sys2Proof.Machine.execRailDisable c s
  | .datumWrite c => Sys2Proof.Machine.execDatumWrite c s
  | .contourTargetSelect f => Sys2Proof.Machine.execContourTargetSelect f s
  | .pllLock => Sys2Proof.Machine.execPllLock s
  | .contourStepApply => Sys2Proof.Machine.execContourStepApply s
  | .plumbEntry => Sys2Proof.Machine.execPlumbEntry s
  | .setContourPoint c => Sys2Proof.Machine.execSetContourPoint c s
  | .freqStep c => Sys2Proof.Machine.execFreqStep c s
  | .setPlumb c => Sys2Proof.Machine.execSetPlumb c s
  | .lockJoin c => Sys2Proof.Machine.execLockJoin c s
  | .lockLeave c => Sys2Proof.Machine.execLockLeave c s
  | .tieAlign k => Sys2Proof.Machine.execTieAlign k s
  | .timestampSend sc => Sys2Proof.Machine.execTimestampSend sc s
  | .timestamp k seqNo sent sc => Sys2Proof.Machine.execTimestamp k seqNo sent sc s
  | .probe k seqNo t1 sc => Sys2Proof.Machine.execProbe k seqNo t1 sc s
  | .echo k seqNo t1 t2 t3 sc => Sys2Proof.Machine.execEcho k seqNo t1 t2 t3 sc s
  | .hello k seqNo farId farPort farGrade sc => Sys2Proof.Machine.execHello k seqNo farId farPort farGrade sc s
  | .join k seqNo group depth waferId sc => Sys2Proof.Machine.execJoin k seqNo group depth waferId sc s
  | .joinAck k seqNo group result point plumb ownerId sc => Sys2Proof.Machine.execJoinAck k seqNo group result point plumb ownerId sc s
  | .leave k seqNo group cause waferId sc => Sys2Proof.Machine.execLeave k seqNo group cause waferId sc s
  | .step k seqNo group stepId point plumb plumbPower target sc => Sys2Proof.Machine.execStep k seqNo group stepId point plumb plumbPower target sc s
  | .stepDone k seqNo group stepId result skew waferId sc => Sys2Proof.Machine.execStepDone k seqNo group stepId result skew waferId sc s
  | .stepRequest k seqNo group point waferId sc => Sys2Proof.Machine.execStepRequest k seqNo group point waferId sc s
  | .freeze k seqNo group waferId sc => Sys2Proof.Machine.execFreeze k seqNo group waferId sc s
  | .thaw k seqNo group sc => Sys2Proof.Machine.execThaw k seqNo group sc s
  | .sync k seqNo group point plumb stepId sc => Sys2Proof.Machine.execSync k seqNo group point plumb stepId sc s
  | .tieHaltSet k group kind sc => Sys2Proof.Machine.execTieHaltSet k group kind sc s
  | .tiePortDown k why => Sys2Proof.Machine.execTiePortDown k why s
  | .accountOpen c => Sys2Proof.Machine.execAccountOpen c s
  | .accountClose c => Sys2Proof.Machine.execAccountClose c s
  | .accountRead c => Sys2Proof.Machine.execAccountRead c s
  | .jobRestartNote c => Sys2Proof.Machine.execJobRestartNote c s
  | .drainPass f => Sys2Proof.Machine.execDrainPass f s
  | .drainFrame f => Sys2Proof.Machine.execDrainFrame f s
  | .drainResend f => Sys2Proof.Machine.execDrainResend f s
  | .accountFinal n => Sys2Proof.Machine.execAccountFinal n s
  | .trigNow => Sys2Proof.Machine.execTrigNow s
  | .traceStaleSweep => Sys2Proof.Machine.execTraceStaleSweep s
  | .traceDrainBurst => Sys2Proof.Machine.execTraceDrainBurst s
  | .tail v => Sys2Proof.Machine.execTail v s
  | .fwPoint p v sc => Sys2Proof.Machine.execFwPoint p v sc s
  | .traceConfig c => Sys2Proof.Machine.execTraceConfig c s
  | .traceStart c => Sys2Proof.Machine.execTraceStart c s
  | .traceStop c => Sys2Proof.Machine.execTraceStop c s
  | .halt c => Sys2Proof.Machine.execHalt c s
  | .haltCut => Sys2Proof.Machine.execHaltCut s
  | .immediateHalt why sc => Sys2Proof.Machine.execImmediateHalt why sc s
  | .haltedEntry arrivals => Sys2Proof.Machine.execHaltedEntry arrivals s
  | .haltTimeout f sl => Sys2Proof.Machine.execHaltTimeout f sl s
  | .resume c => Sys2Proof.Machine.execResume c s
  | .haltRelease => Sys2Proof.Machine.execHaltRelease s
  | .gateCall p caller gate args violates sc => Sys2Proof.Machine.execGateCall p caller gate args violates sc s
  | .mpuViolation p comp sc => Sys2Proof.Machine.execMpuViolation p comp sc s
  | .processorTrap p uncorrectable sc => Sys2Proof.Machine.execProcessorTrap p uncorrectable sc s
  | .watchdogExpiry p x => Sys2Proof.Machine.execWatchdogExpiry p x s
  | .imageCheck p sc => Sys2Proof.Machine.execImageCheck p sc s
  | .processorRun p sc => Sys2Proof.Machine.execProcessorRun p sc s
  | .holdExpired p => Sys2Proof.Machine.execHoldExpired p s
  | .startFail p => Sys2Proof.Machine.execStartFail p s
  | .fwStage c => Sys2Proof.Machine.execFwStage c s
  | .fwActivate c => Sys2Proof.Machine.execFwActivate c s
  | .probationEnd p => Sys2Proof.Machine.execProbationEnd p s
  | .slotCopyDone => Sys2Proof.Machine.execSlotCopyDone s
  | .fwRestart c => Sys2Proof.Machine.execFwRestart c s
  | .quote c => Sys2Proof.Machine.execQuote c s
  | .faultEvent src fld detail sc => Sys2Proof.Machine.execFaultEvent src fld detail sc s
  | .collectorRecovering => Sys2Proof.Machine.execCollectorRecovering s
  | .recoveryComplete => Sys2Proof.Machine.execRecoveryComplete s
  | .faultBitExpire src => Sys2Proof.Machine.execFaultBitExpire src s
  | .faultStatusW1c v => Sys2Proof.Machine.execFaultStatusW1c v s
  | .faultClear c => Sys2Proof.Machine.execFaultClear c s
  | .faultPolicy c => Sys2Proof.Machine.execFaultPolicy c s
  | .engineErrorEdge sc => Sys2Proof.Machine.execEngineErrorEdge sc s
  | .clockLoss what sc => Sys2Proof.Machine.execClockLoss what sc s
  | .tamperNAssert us sc => Sys2Proof.Machine.execTamperNAssert us sc s
  | .monumentProgramDone ok => Sys2Proof.Machine.execMonumentProgramDone ok s
  | .monumentEraseDone ok => Sys2Proof.Machine.execMonumentEraseDone ok s
  | .eraseSuspend => Sys2Proof.Machine.execEraseSuspend s
  | .tokenRefill => Sys2Proof.Machine.execTokenRefill s
  | .recordRead c => Sys2Proof.Machine.execRecordRead c s
  | .firstRegionClear c => Sys2Proof.Machine.execFirstRegionClear c s
  | .pwrFailNAssert => Sys2Proof.Machine.execPwrFailNAssert s
  | .pwrFailStop x => Sys2Proof.Machine.execPwrFailStop x s
  | .pwrFailNDeassert => Sys2Proof.Machine.execPwrFailNDeassert s
  | .scrubRead m flips => Sys2Proof.Machine.execScrubRead m flips s
  | .softRepair m bank row => Sys2Proof.Machine.execSoftRepair m bank row s
  | .aliasWrite p set addr x => Sys2Proof.Machine.execAliasWrite p set addr x s
  | .march c => Sys2Proof.Machine.execMarch c s
  | .marchSegment m failing => Sys2Proof.Machine.execMarchSegment m failing s
  | .marchDone x => Sys2Proof.Machine.execMarchDone x s
  | .bistRun c => Sys2Proof.Machine.execBistRun c s
  | .bistComplete f x => Sys2Proof.Machine.execBistComplete f x s
  | .lifecycleAdvance x => Sys2Proof.Machine.execLifecycleAdvance x s
  | .bootImageLoad x => Sys2Proof.Machine.execBootImageLoad x s
  | .bootEnd => Sys2Proof.Machine.execBootEnd s
  | .selftestEnd => Sys2Proof.Machine.execSelftestEnd s
  | .groupSoftStart => Sys2Proof.Machine.execGroupSoftStart s
  | .takeover => Sys2Proof.Machine.execTakeover s
  | .engineClockStart => Sys2Proof.Machine.execEngineClockStart s
  | .calibrationStep f => Sys2Proof.Machine.execCalibrationStep f s
  | .calibrationComplete f => Sys2Proof.Machine.execCalibrationComplete f s
  | .readyEntry => Sys2Proof.Machine.execReadyEntry s
  | .fieldBackInService f => Sys2Proof.Machine.execFieldBackInService f s
  | .fieldVinRestart f => Sys2Proof.Machine.execFieldVinRestart f s
  | .ping c => Sys2Proof.Machine.execPing c s
  | .lease c => Sys2Proof.Machine.execLease c s
  | .queryState c => Sys2Proof.Machine.execQueryState c s
  | .leaseExpiry p => Sys2Proof.Machine.execLeaseExpiry p s
  | .journalAppend => Sys2Proof.Machine.execJournalAppend s
  | .setWaferCap c => Sys2Proof.Machine.execSetWaferCap c s
  | .setFieldLimits c => Sys2Proof.Machine.execSetFieldLimits c s
  | .setMarginMode c => Sys2Proof.Machine.execSetMarginMode c s
  | .pageCommit path pg v sc => Sys2Proof.Machine.execPageCommit path pg v sc s
  | .commitEffect pg => Sys2Proof.Machine.execCommitEffect pg s
  | .cancel path pg => Sys2Proof.Machine.execCancel path pg s
  | .reload path pg => Sys2Proof.Machine.execReload path pg s
  | .lowWordRead path addr be sc => Sys2Proof.Machine.execLowWordRead path addr be sc s
  | .probeSlot f v => Sys2Proof.Machine.execProbeSlot f v s
  | .registerWrite path addr be v sc => Sys2Proof.Machine.execRegisterWrite path addr be v sc s
  | .winData write sc => Sys2Proof.Machine.execWinData write sc s
  | .flagsRead => Sys2Proof.Machine.execFlagsRead s
  | .entdaa addr => Sys2Proof.Machine.execEntdaa addr s
  | .setdasa addr => Sys2Proof.Machine.execSetdasa addr s
  | .rstdaa => Sys2Proof.Machine.execRstdaa s
  | .enec events => Sys2Proof.Machine.execEnec events s
  | .disec events => Sys2Proof.Machine.execDisec events s
  | .getpid => Sys2Proof.Machine.execGetpid s
  | .getbcr => Sys2Proof.Machine.execGetbcr s
  | .getdcr => Sys2Proof.Machine.execGetdcr s
  | .getstatus => Sys2Proof.Machine.execGetstatus s
  | .setmwl n => Sys2Proof.Machine.execSetmwl n s
  | .getmwl => Sys2Proof.Machine.execGetmwl s
  | .setmrl n => Sys2Proof.Machine.execSetmrl n s
  | .getmrl => Sys2Proof.Machine.execGetmrl s
  | .waferQueueAnswer f => Sys2Proof.Machine.execWaferQueueAnswer f s
  | .engineErrorRearm => Sys2Proof.Machine.execEngineErrorRearm s
  | .railUvReturn f r => Sys2Proof.Machine.execRailUvReturn f r s
  | .ibiDelivery => Sys2Proof.Machine.execIbiDelivery s
  | .tieCrcError k => Sys2Proof.Machine.execTieCrcError k s
  | .norTimeout erase => Sys2Proof.Machine.execNorTimeout erase s

end Sys2Proof.Machine
end

