-- ==== Sys2Proof/Machine/Step.lean ====
section
/-!
DEFINITION. One step: the command at the front of the queue, carried out on the block with the queue's rest. On an empty
queue the block idles.
-/

namespace Sys2Proof.Machine

open Sys2Proof

/-- Take the command at the front and run it with the rest of the queue. (DESIGN CHOICE, log entries 1, 3.) -/
def step (s : State) : Host.Outcome State Fault Refusal :=
  match s.pending with
  | [] => .next s
  | c :: rest => exec c { s with pending := rest }

/-- The state with a command put at the front of its queue. -/
def State.withFront (s : State) (c : Instr) : State := { s with pending := c :: s.pending }

/-- The state with the command that a table word spells in front; unchanged where the word spells none.
(DESIGN CHOICE, log entry 2.) -/
def State.withFetchWord (s : State) (nbits w : Nat) : State :=
  match Sys2Proof.decodeTableWord nbits w with
  | some c => s.withFront c
  | none => s

end Sys2Proof.Machine
end

