-- ==== Sys2Proof/Safety.lean ====
section
/-!
DEFINITION. The terms in which claims are stated: safe runs, the canonical form of memory, what a step leaves alone, and what
a host command's port shows.
-/

namespace Sys2Proof.Machine

open Sys2Proof

/-- The canonical form of a memory: addresses strictly rising, and no entry equal to the 0 of an unlisted byte. -/
def Memory.wf (m : List Host.Cell) : Bool := mwf 0 m

/-- Both memories are canonical, and wafer time fits its 48 bits (R32). -/
def State.Inv (s : State) : Prop := Memory.wf s.mem = true ∧ Memory.wf s.host = true ∧ s.tick < 2 ^ 48

/-- A run of `n` steps in which no step faults or is refused. -/
def SafeRun (n : Nat) (s : State) : Prop := ∃ t, Sys2Proof.core.run n s = .next t

/-- Nothing but the block has changed: wafer time, both memories and the queue stand. -/
def InBlock (s t : State) : Prop := t = { s with b := t.b }

/-- Register fields outside `ks` (present values, by key) read as before. -/
def RegsBut (ks : List Nat) (a b : Block) : Prop := ∀ (x : Fld) (i : Nat), x.key i ∉ ks → b.rd x i = a.rd x i

/-- Nothing has changed but register fields among `ks`. -/
def OnlyRegs (ks : List Nat) (s t : State) : Prop :=
  t = { s with b := { s.b with regs := t.b.regs } } ∧ RegsBut ks s.b t.b

/-- Every register, in force and shadow, reads as before. -/
def SameRegs (s t : State) : Prop := t.b.regs = s.b.regs ∧ t.b.shadow = s.b.shadow

/-- The block in which a command that its port has taken is carried out (R375). -/
def Block.begun (b : Block) (now op : Nat) (c : Cmd) : Block :=
  ((b.submit now (portNo c.port) (flightOf now op c)).wrB (HUB_CMD.HELD (portNo c.port)) 0 false).modPort (portNo c.port)
    (fun p => { flight := p.flight.map (fun fl => { fl with begun := true }) })

/-- The command's port is idle, its owners run, and every check of R378 that does not belong to its own rule passes. -/
structure Passes (op : Nat) (c : Cmd) (s : State) : Prop where
  idle : (s.b.port (portNo c.port)).flight = none
  owners : s.b.downOwner op c = none
  legal : legal op c.opts.toNat s.b.mgr s.b.hub.sched.isSome = true
  words : badWord op c = none
  buf : badBuf op c = none
  fields : ∀ k, fsetAt op = some k → (c.fset k).isEmpty = false

/-- The final status of a command stands on its port (R377). -/
def Answered (op status : Nat) (c : Cmd) (t : State) : Prop :=
  (t.b.port (portNo c.port)).flight = none ∧ t.b.rd (HUB_CMD.RSP_STATUS (portNo c.port)) 0 = status ∧
    t.b.rd (HUB_CMD.RSP_SEQ (portNo c.port)) 0 = c.seq.toNat ∧ t.b.rd (HUB_CMD.RSP_OPCODE (portNo c.port)) 0 = op

/-- Word `k` of the response. -/
def rspWord (c : Cmd) (t : State) (k : Nat) : Nat := t.b.rd (HUB_CMD.RSP_DATA (portNo c.port) k) 0

/-- The command stays in flight, waiting for `w`. -/
def Waits (c : Cmd) (w : Wait) (t : State) : Prop :=
  (∃ fl, (t.b.port (portNo c.port)).flight = some fl ∧ fl.seqNo = c.seq.toNat) ∧ t.b.waitOf (portNo c.port) = w

end Sys2Proof.Machine
end

