-- ==== Sys2Proof/WellFormed.lean ====
section
/-!
DEFINITION. What the operands' types leave to be checked: the lists that a command carries name no unit twice and only
units that the command can concern. No meaning relies on it: a list that breaks it is read in its order, the last entry of a
unit holding.
-/

namespace Sys2Proof

/-- No entry twice. -/
def noRepeat {α : Type} [DecidableEq α] : List α → Bool
  | [] => true
  | x :: r => !r.contains x && noRepeat r

/-- A tick mark's samples: each parcel, benchmark and field at most once (R48, R153). -/
def TickIn.wf (i : TickIn) : Bool :=
  noRepeat (i.latched.map (fun x => (x.field, x.slot))) && noRepeat (i.bench.map (fun x => (x.field, x.bench))) &&
  noRepeat (i.vin.map Prod.fst) && noRepeat (i.margins.map (fun x => (x.1, x.2.1))) && noRepeat i.phaseOk

/-- Traverse words of a frame of ring `r`: slots of the ring (R23), each at most once. -/
def travWf (r : RingNo) (ws : List TravWord) : Bool :=
  ws.all (fun w => w.slot.val / 56 == r.val) && noRepeat (ws.map (fun w => w.slot))

/-- A self-test's measurements: items 1 to 6 of Table 14.3, each at most once. -/
def BistIn.wf (i : BistIn) : Bool := i.items.all (fun x => x.code != 0) && noRepeat (i.items.map (fun x => (x.code, x.index)))

/-- The check of a command. -/
def Instr.wf : Instr → Bool
  | .tickMark i => i.wf
  | .upwardFrame _ r _ ws => travWf r ws
  | .haltedEntry l => noRepeat (l.map Prod.fst)
  | .marchSegment _ l => noRepeat l
  | .marchDone i => noRepeat i.unread
  | .bistComplete _ i => i.wf
  | _ => true

end Sys2Proof
end

