-- ==== Sys2Proof/Certificates/Slice0/Obligations.lean ====
section
/-!
DEFINITION. The statements for the provers. Every statement about a command concludes that `exec` answers a next state, and
says what that state holds and what it leaves alone.
-/

open Sys2Proof Sys2Proof.Machine

/-! ### The step, the queue, wafer time and memory -/

/-- A step is `exec` of the command at the front on the state whose queue is the rest; on an empty queue the block idles
(the model's own choice, log entry 1). -/
def Obligations.StepRunsFrontCommand : Prop :=
  (∀ (c : Instr) (rest : List Instr) (s : State), step { s with pending := c :: rest } = exec c { s with pending := rest }) ∧
  (∀ s : State, step { s with pending := [] } = .next { s with pending := [] })

/-- Every command answers a next state, in every state, and leaves the queue alone. -/
def Obligations.EveryCommandAnswers : Prop :=
  ∀ (c : Instr) (s : State), ∃ t, exec c s = .next t ∧ t.pending = s.pending

/-- Every step keeps the canonical form of both memories and the 48 bits of wafer time. -/
def Obligations.StepKeepsInvariant : Prop :=
  ∀ s t : State, s.Inv → step s = .next t → t.Inv

/-- The invariant holds right after reset. -/
def Obligations.ResetMeetsInvariant : Prop := State.reset.Inv

/-- Wafer time moves only by tick marks and by the steps of reset (R32): a tick mark outside reset adds one, modulo 2^48,
and the three steps of reset set it to 0. -/
def Obligations.WaferTimeMoves : Prop :=
  (∀ (i : TickIn) (s : State), s.b.pins.inReset = false →
    ∃ t, exec (.tickMark i) s = .next t ∧ t.tick = (s.tick + 1) % 2 ^ 48 ∧ t.mem = s.mem ∧ t.host = s.host ∧ t.pending = s.pending) ∧
  (∀ (i : TickIn) (s : State), s.b.pins.inReset = true → exec (.tickMark i) s = .next s) ∧
  (∀ (c : Instr) (s t : State), exec c s = .next t →
    t.tick = match c with
      | .tickMark _ => if s.b.pins.inReset then s.tick else (s.tick + 1) % 2 ^ 48
      | .survRstNAssert => 0
      | .survRstNRelease _ => 0
      | .vsurvLoss => 0
      | _ => s.tick)

/-- The commands that may write host memory: those with a host buffer, the self-test report, and the trace DMA. -/
def Sys2Proof.Machine.writesHost : Instr → Bool
  | .accountRead _ | .quote _ | .recordRead _ | .bistComplete _ _ | .traceDrainBurst => true
  | _ => false

/-- The commands that may change SRAM bytes held as bytes. -/
def Sys2Proof.Machine.writesMem : Instr → Bool
  | .vsurvLoss | .scrubRead .. | .aliasWrite .. | .marchSegment .. | .tamperNAssert .. | .lifecycleAdvance .. | .imageCheck ..
  | .bootImageLoad .. => true
  | _ => false

/-- Every byte of host memory and of SRAM stands, except under the commands named. -/
def Obligations.OnlyNamedCommandsWriteMemory : Prop :=
  ∀ (c : Instr) (s t : State), exec c s = .next t →
    (writesHost c = false → t.host = s.host) ∧ (writesMem c = false → t.mem = s.mem)

/-- The steps of reset. -/
def Sys2Proof.Machine.resets : Instr → Bool
  | .survRstNAssert | .survRstNRelease .. | .vsurvLoss => true
  | _ => false

/-- The commands, beside reset, that may change the parcel agents. -/
def Sys2Proof.Machine.mayAgents : Instr → Bool
  | .tickMark .. | .rampMark .. | .allowanceWordPass .. | .downwardFrame .. | .tickOverrun .. | .estModeChange ..
  | .droopT1Event .. | .droopT2Event .. | .clampReleaseCount .. | .droopEventWord .. | .t2BlockEnd .. | .shapeStep ..
  | .parcelIdle .. | .unticketedStart .. | .ticketRequest .. | .representWindowEnd .. | .ticketStart .. | .ticketEnd ..
  | .startTimeout .. | .waferQueueMove .. | .softStartEnd .. | .vinStop .. | .railStopDone .. | .haltCut ..
  | .immediateHalt .. | .resume .. | .haltRelease .. | .pwrFailStop .. | .readyEntry .. | .fieldBackInService ..
  | .commitEffect .. => true
  | _ => false

/-- The commands, beside reset, that may change the copies of the field units. -/
def Sys2Proof.Machine.mayParcels : Instr → Bool
  | .tickMark .. | .upwardFrame .. | .sensorBroken .. | .limitPlan .. | .tickOverrun .. | .measurementComplete ..
  | .ticketRequest .. | .representWindowEnd .. | .ticketStart .. | .ticketEnd .. | .thermalThrottleStep ..
  | .thermalRestoreStep .. | .spareValidated .. => true
  | _ => false

/-- The commands, beside reset, that may change the sensors. -/
def Sys2Proof.Machine.maySensors : Instr → Bool
  | .tickMark .. | .upwardFrame .. | .sensorBroken .. | .measurementComplete .. | .autoRemap .. | .spareValidated ..
  | .sensorRemap .. | .bistComplete .. => true
  | _ => false

/-- The commands, beside reset, that may change the cadastre. -/
def Sys2Proof.Machine.mayCad : Instr → Bool
  | .tickMark .. | .sensorBroken .. | .marchDone .. | .bistComplete .. | .bootEnd .. => true
  | _ => false

/-- The commands, beside reset, that may change the ticket slots. -/
def Sys2Proof.Machine.maySlots : Instr → Bool
  | .tickMark .. | .measurementComplete .. | .ticketRequest .. | .representWindowEnd .. | .ticketStart .. | .ticketEnd ..
  | .ticketAged .. | .startTimeout .. | .waferQueueMove .. | .contextAbort .. | .marchDone .. | .readyEntry ..
  | .fieldBackInService .. => true
  | _ => false

/-- The commands, beside reset, that may change the contexts. -/
def Sys2Proof.Machine.mayCtxs : Instr → Bool
  | .tickMark .. | .capShareEval .. | .contextAbort .. | .shutdownRampdown .. | .accountOpen .. | .accountClose .. => true
  | _ => false

/-- The commands, beside reset, that may change the accounts. -/
def Sys2Proof.Machine.mayAccounts : Instr → Bool
  | .tickMark .. | .shutdownRampdown .. | .accountClose .. | .jobRestartNote .. | .drainFrame .. | .accountFinal ..
  | .marchDone .. => true
  | _ => false

/-- The commands, beside reset, that may change the collection banks. -/
def Sys2Proof.Machine.mayColls : Instr → Bool
  | .tickMark .. | .measurementComplete .. | .counterUpdate .. | .contextAbort .. | .drainPass .. | .marchDone .. => true
  | _ => false

/-- Whatever command runs: parcel agents, the field units' copies, sensors, the cadastre, ticket slots, contexts, accounts and collection
banks each stand, except under reset and the commands named for them. -/
def Obligations.OnlyNamedCommandsChangeParcelsAndTickets : Prop :=
  ∀ (c : Instr) (s t : State), exec c s = .next t →
    (resets c = false → mayAgents c = false → t.b.agents = s.b.agents) ∧
    (resets c = false → mayParcels c = false → t.b.parcels = s.b.parcels) ∧
    (resets c = false → maySensors c = false → t.b.sensors = s.b.sensors) ∧
    (resets c = false → mayCad c = false → t.b.cad = s.b.cad) ∧
    (resets c = false → maySlots c = false → t.b.slots = s.b.slots) ∧
    (resets c = false → mayCtxs c = false → t.b.ctxs = s.b.ctxs) ∧
    (resets c = false → mayAccounts c = false → t.b.accounts = s.b.accounts) ∧
    (resets c = false → mayColls c = false → t.b.colls = s.b.colls)

/-- The commands, beside reset, that may change the shadow registers. -/
def Sys2Proof.Machine.mayShadow : Instr → Bool
  | .tickMark .. | .modelSelect .. | .datumWrite .. | .setPlumb .. | .traceConfig .. | .traceStart .. | .traceStop ..
  | .faultPolicy .. | .bootEnd .. | .setWaferCap .. | .setFieldLimits .. | .setMarginMode .. | .pageCommit ..
  | .commitEffect .. | .cancel .. | .reload .. | .lowWordRead .. | .registerWrite .. | .winData .. => true
  | _ => false

/-- The commands, beside reset, that may change the rings. -/
def Sys2Proof.Machine.mayRings : Instr → Bool
  | .rampMark .. | .allowanceWordPass .. | .allowanceWordReturn .. => true
  | _ => false

/-- The commands, beside reset, that may change the rails. -/
def Sys2Proof.Machine.mayRails : Instr → Bool
  | .tickMark .. | .phaseRestoreAll .. | .shutdownRampdown .. | .modulatorTrigger .. | .brakeEnd .. | .railOv ..
  | .railUv .. | .phaseOt .. | .phFaultNAssert .. | .balancePeriodEnd .. | .refSlewStep .. | .softStartEnd ..
  | .latchOff .. | .vinStop .. | .railStopDone .. | .railDisable .. | .gateCall .. | .mpuViolation .. | .processorTrap ..
  | .watchdogExpiry .. | .imageCheck .. | .processorRun .. | .holdExpired .. | .startFail .. | .fwActivate ..
  | .probationEnd .. | .fwRestart .. | .pwrFailNAssert .. | .pwrFailStop .. | .aliasWrite .. | .marchDone ..
  | .bistComplete .. | .groupSoftStart .. | .fieldVinRestart .. | .commitEffect .. | .railUvReturn .. => true
  | _ => false

/-- The commands, beside reset, that may change the phases. -/
def Sys2Proof.Machine.mayPhases : Instr → Bool
  | .tickMark .. | .phaseRestoreAll .. | .measurementComplete .. | .channelInvalid .. | .channelRestored ..
  | .modulatorTrigger .. | .phaseOc .. | .phaseOt .. | .phaseOtClear .. | .phFaultNAssert .. | .balancePeriodEnd ..
  | .bistComplete .. | .groupSoftStart .. | .fieldVinRestart .. | .commitEffect .. => true
  | _ => false

/-- The commands, beside reset, that may change the tie-line ports. -/
def Sys2Proof.Machine.mayTies : Instr → Bool
  | .tickMark .. | .policyEval .. | .shutdownRampdown .. | .contourStepApply .. | .setContourPoint .. | .freqStep ..
  | .setPlumb .. | .lockJoin .. | .lockLeave .. | .tieAlign .. | .timestampSend .. | .timestamp .. | .probe .. | .echo ..
  | .hello .. | .join .. | .joinAck .. | .leave .. | .step .. | .stepDone .. | .stepRequest .. | .freeze .. | .thaw ..
  | .sync .. | .tieHaltSet .. | .tiePortDown .. | .immediateHalt .. | .processorRun .. | .engineClockStart ..
  | .calibrationComplete .. | .commitEffect .. | .tieCrcError .. => true
  | _ => false

/-- The commands, beside reset, that may change the processors. -/
def Sys2Proof.Machine.mayProcs : Instr → Bool
  | .tickMark .. | .shutdownRampdown .. | .gateCall .. | .mpuViolation .. | .processorTrap .. | .watchdogExpiry ..
  | .imageCheck .. | .processorRun .. | .holdExpired .. | .startFail .. | .fwActivate .. | .probationEnd ..
  | .slotCopyDone .. | .fwRestart .. | .aliasWrite .. | .marchDone .. | .bootImageLoad .. => true
  | _ => false

/-- The commands, beside reset, that may change the memories' repair and march state. -/
def Sys2Proof.Machine.mayMems : Instr → Bool
  | .tickMark .. | .tamperNAssert .. | .scrubRead .. | .softRepair .. | .march .. | .marchSegment .. | .marchDone ..
  | .lifecycleAdvance .. | .bootEnd .. => true
  | _ => false

/-- The commands, beside reset, that may change the model buffers. -/
def Sys2Proof.Machine.mayModels : Instr → Bool
  | .modelLoad .. | .processorRun .. | .bootEnd .. => true
  | _ => false

/-- The commands, beside reset, that may change the fuses and the stores. -/
def Sys2Proof.Machine.mayNv : Instr → Bool
  | .tickMark .. | .sensorBroken .. | .railEnable .. | .railDisable .. | .slotCopyDone .. | .softRepair ..
  | .marchSegment .. | .marchDone .. | .bistComplete .. | .lifecycleAdvance .. | .bootImageLoad .. | .bootEnd ..
  | .calibrationComplete .. | .commitEffect .. => true
  | _ => false

/-- The commands, beside reset, that may change the pins. -/
def Sys2Proof.Machine.mayPins : Instr → Bool
  | .tickMark .. | .thermalShutdown .. | .bandChange .. | .rundownEnd .. | .haltRelease .. | .fwActivate ..
  | .faultEvent .. | .recoveryComplete .. | .faultClear .. | .groupSoftStart .. | .fieldVinRestart .. => true
  | _ => false

/-- Whatever command runs: shadow registers, rings, rails, phases, tie-line ports, processors, memories, model buffers, fuses and stores,
and pins each stand, except under reset and the commands named for them. -/
def Obligations.OnlyNamedCommandsChangeHardware : Prop :=
  ∀ (c : Instr) (s t : State), exec c s = .next t →
    (resets c = false → mayShadow c = false → t.b.shadow = s.b.shadow) ∧
    (resets c = false → mayRings c = false → t.b.rings = s.b.rings) ∧
    (resets c = false → mayRails c = false → t.b.rails = s.b.rails) ∧
    (resets c = false → mayPhases c = false → t.b.phases = s.b.phases) ∧
    (resets c = false → mayTies c = false → t.b.ties = s.b.ties) ∧
    (resets c = false → mayProcs c = false → t.b.procs = s.b.procs) ∧
    (resets c = false → mayMems c = false → t.b.mems = s.b.mems) ∧
    (resets c = false → mayModels c = false → t.b.models = s.b.models) ∧
    (resets c = false → mayNv c = false → t.b.nv = s.b.nv) ∧
    (resets c = false → mayPins c = false → t.b.pins = s.b.pins)

/-- The machine right after reset: wafer time 0, manager state BOOT in phase 1, every field marked out, rails off, COOL_RUNDOWN_N
asserted, FAULT_N and THERM_TRIP_N released, halt wires asserted, nothing waiting; registers whose reset value the specification does not
give take the model's (log entries 6 to 9), and no clause here is about one of them. -/
def Obligations.ResetState : Prop :=
  State.reset.tick = 0 ∧ State.reset.pending = [] ∧ State.reset.b.mgr = 1 ∧ State.reset.b.rd HUB_STATE.START_PHASE 0 = 1 ∧
  (∀ f : FieldNo, State.reset.b.isOut f = true ∧ State.reset.b.railsOn f = false) ∧
  (∀ (f : FieldNo) (p : SlotNo), (State.reset.b.agent (pid f p)).qRamp = 1 ∧ (State.reset.b.agent (pid f p)).pool = 0 ∧
    (State.reset.b.agent (pid f p)).halted = true ∧ (State.reset.b.agent (pid f p)).armed = false) ∧
  State.reset.b.hub.wires = true ∧ State.reset.b.pins.coolRundownN = true ∧ State.reset.b.pins.faultN = false ∧
  State.reset.b.pins.thermTripN = false

/-- SURV_RST_N and VSURV: the pins of R347, wafer time 0 (R32), fuses and stores kept; SRAM bytes survive SURV_RST_N and are lost
with VSURV (log entry 109: the model's reading); at the release VSEL of every rail takes the straps (R185). -/
def Obligations.ResetSteps : Prop :=
  (∀ s : State, ∃ t, exec .survRstNAssert s = .next t ∧ t.tick = 0 ∧ t.mem = s.mem ∧ t.host = s.host ∧ t.pending = s.pending ∧
    t.b.pins.xspiHighZ = true ∧ t.b.pins.coolRundownN = true ∧ t.b.pins.faultN = false ∧ t.b.pins.thermTripN = false ∧
    t.b.nv = s.b.nv ∧ t.b.regs = []) ∧
  (∀ s : State, ∃ t, exec .vsurvLoss s = .next t ∧ t.tick = 0 ∧ t.mem = [] ∧ t.host = s.host ∧ t.pending = s.pending ∧
    t.b.pins.xspiHighZ = true ∧ t.b.pins.coolRundownN = true ∧ t.b.nv = s.b.nv ∧ t.b.regs = []) ∧
  (∀ (v : BitVec 3) (s : State), ∃ t, exec (.survRstNRelease v) s = .next t ∧ t.tick = 0 ∧ t.mem = s.mem ∧ t.host = s.host ∧
    t.pending = s.pending ∧ t.b.pins.inReset = false ∧ t.b.nv = s.b.nv ∧
    ∀ f : FieldNo, t.b.rd (F_RAIL.VSEL 0) f = v.toNat ∧ t.b.rd (F_RAIL.VSEL 1) f = v.toNat)

/-! ### The register window -/

/-- A field keeps the bits of its width, and a write of one field leaves every field under another key alone (R7, R8). -/
def Obligations.FieldReadAfterWrite : Prop :=
  ∀ (b : Block) (x : Fld) (i v : Nat),
    (b.wr x i v).rd x i = v % 2 ^ x.width ∧ (b.wrS x i v).rdS x i = v % 2 ^ x.width ∧
    (∀ (y : Fld) (j : Nat), y.key j ≠ x.key i → (b.wr x i v).rd y j = b.rd y j ∧ (b.wrS x i v).rdS y j = b.rdS y j) ∧
    (∀ (y : Fld) (j : Nat), (b.wr x i v).rdS y j = b.rdS y j ∧ (b.wrS x i v).rd y j = b.rd y j)

/-- REGISTER_WRITE on the register fabric, one word of each access code: the write of an RW word (HUB_CAP 0x040, behind which no access
is on its way) goes to its shadow and leaves every value in force; the write of a W1C word (HUB_TICK 0x050) clears the bits written as 1 and
nothing else; the write of an RO word (HUB_TICK 0x040) changes no register and is answered OK (Table 0.3). A processor outside RUN writes
nothing, which is the model's reading (log entry 31). -/
def Obligations.RegisterWriteByAccessCode : Prop :=
  (∀ (v : BitVec 64) (sc : ScOff) (s : State), (s.b.page (pageKey 0x1C 0)).heldBy = none →
    (s.b.page (pageKey 0x1C 0)).transit = [] →
    ∃ t, exec (.registerWrite .fabric 0xC040#27 0x0F#8 v sc) s = .next t ∧ InBlock s t ∧ t.b.regs = s.b.regs ∧
      t.b.rdS HUB_CAP.PCAP_MS 0 = v.toNat % 65536) ∧
  (∀ (v : BitVec 64) (sc : ScOff) (s : State),
    ∃ t, exec (.registerWrite .fabric 0x1050#27 0x0F#8 v sc) s = .next t ∧ InBlock s t ∧
      t.b.rd HUB_TICK.OVR_MAP0 0 = s.b.rd HUB_TICK.OVR_MAP0 0 &&& (2 ^ 32 - 1 - v.toNat % 2 ^ 32) ∧
      RegsBut [HUB_TICK.OVR_MAP0.key 0] s.b t.b ∧ t.b.shadow = s.b.shadow) ∧
  (∀ (v : BitVec 64) (sc : ScOff) (s : State),
    ∃ t, exec (.registerWrite .fabric 0x1040#27 0x0F#8 v sc) s = .next t ∧ InBlock s t ∧ SameRegs s t ∧ t.b.hub.rfErr = 0) ∧
  (∀ (p : ProcNo) (addr : BitVec 27) (be : Byte) (v : BitVec 64) (sc : ScOff) (s : State), (s.b.proc p).st ≠ 0 →
    exec (.registerWrite (.proc p) addr be v sc) s = .next s)

/-- LOW_WORD_READ of the low word of wafer time on the fabric answers its low 32 bits and latches the high word, which the next read of the
same path returns whatever the time has become (R7, R420). -/
def Obligations.WaferTimeReadsWhole : Prop :=
  ∀ (sc sc' : ScOff) (s : State) (n : Nat), (s.b.page (pageKey 0x11 0)).transit = [] →
    ∃ t, exec (.lowWordRead .fabric 0x1040#27 0x0F#8 sc) s = .next t ∧ InBlock s t ∧ t.b.hub.rfData = s.tick % 2 ^ 32 ∧
      t.b.hub.rfErr = 0 ∧
      ∃ u, exec (.lowWordRead .fabric 0x1044#27 0xF0#8 sc') { t with tick := n } = .next u ∧
        u.b.hub.rfData = s.tick / 2 ^ 32 % 65536 * 2 ^ 32

/-- PAGE_COMMIT, CANCEL and RELOAD of a field page, from the fabric, with no access on its way to the page and no command holding it (R38 to
R40, R425). A commit that arrives in the tick in which it leaves captures the RW values of the shadow, which pass their ranges, and is due at its
TARGET or at the next tick; one whose TARGET is not ahead sets COMMIT_LATE and captures nothing; one that arrives in a later tick is on its way
until then and captures nothing yet; an access behind a commit on its way follows it. CANCEL drops the pending commit. RELOAD gives
every RW field of the shadow the value in force. No value in force changes.
The latency counted at the offset of the access is the model's reading (log entry 125). -/
def Obligations.CommitArrivalCancelAndReload : Prop :=
  (∀ (f : FieldNo) (k : Fin 16) (v : Word) (sc : ScOff) (s : State),
    (pageRw (0x40 + k.val)).isEmpty = false → (s.b.page (pageKey (0x40 + k.val) f)).heldBy = none →
    (s.b.page (pageKey (0x40 + k.val) f)).transit = [] →
    (∀ due, arrivalTick s.tick sc (0x40 + k.val) f = s.tick → atDue s.tick v.toNat = some due →
      rangeOk s.b (0x40 + k.val) f (s.b.shadowGet f) = true →
      ∃ t, exec (.pageCommit .fabric (.field f k) v sc) s = .next t ∧ InBlock s t ∧ SameRegs s t ∧
        (t.b.page (pageKey (0x40 + k.val) f)).pending =
          some { due := due, vals := s.b.capture (0x40 + k.val) f, byCmd := none } ∧
        ∀ key, key ≠ pageKey (0x40 + k.val) f → t.b.page key = s.b.page key) ∧
    (arrivalTick s.tick sc (0x40 + k.val) f = s.tick → atDue s.tick v.toNat = none →
      ∃ t, exec (.pageCommit .fabric (.field f k) v sc) s = .next t ∧ InBlock s t ∧ SameRegs s t ∧
        (t.b.page (pageKey (0x40 + k.val) f)).pending = (s.b.page (pageKey (0x40 + k.val) f)).pending ∧
        (t.b.page (pageKey (0x40 + k.val) f)).err = (s.b.page (pageKey (0x40 + k.val) f)).err ||| 1) ∧
    (arrivalTick s.tick sc (0x40 + k.val) f ≠ s.tick →
      ∃ t, exec (.pageCommit .fabric (.field f k) v sc) s = .next t ∧ InBlock s t ∧ SameRegs s t ∧
        t.b.page (pageKey (0x40 + k.val) f) = { s.b.page (pageKey (0x40 + k.val) f) with
          transit := [{ tick := arrivalTick s.tick sc (0x40 + k.val) f, off := arrivalOff sc (0x40 + k.val) f,
                        act := .commit v.toNat none }] } ∧
        ∀ key, key ≠ pageKey (0x40 + k.val) f → t.b.page key = s.b.page key)) ∧
  (∀ (f : FieldNo) (k : Fin 16) (s : State), (s.b.page (pageKey (0x40 + k.val) f)).heldBy = none →
    (s.b.page (pageKey (0x40 + k.val) f)).transit = [] →
    (∃ t, exec (.cancel .fabric (.field f k)) s = .next t ∧ InBlock s t ∧ SameRegs s t ∧
      (t.b.page (pageKey (0x40 + k.val) f)).pending = none ∧
      ∀ key, key ≠ pageKey (0x40 + k.val) f → t.b.page key = s.b.page key) ∧
    ∃ t, exec (.reload .fabric (.field f k)) s = .next t ∧ t = { s with b := { s.b with shadow := t.b.shadow } } ∧
      ∀ x ∈ pageRw (0x40 + k.val), t.b.rdS x f = s.b.rd x f) ∧
  (∀ (f : FieldNo) (k : Fin 16) (x : Transit) (s : State), (s.b.page (pageKey (0x40 + k.val) f)).transit = [x] →
    x.arrived s.tick 0 = false →
    (∃ t, exec (.cancel .fabric (.field f k)) s = .next t ∧ InBlock s t ∧ SameRegs s t ∧
      (t.b.page (pageKey (0x40 + k.val) f)).transit = [x,
        { tick := arrivalTick s.tick 0 (0x40 + k.val) f, off := arrivalOff 0 (0x40 + k.val) f, act := .cancel }]) ∧
    ∃ t, exec (.reload .fabric (.field f k)) s = .next t ∧ InBlock s t ∧ SameRegs s t ∧
      (t.b.page (pageKey (0x40 + k.val) f)).transit = [x,
        { tick := arrivalTick s.tick 0 (0x40 + k.val) f, off := arrivalOff 0 (0x40 + k.val) f, act := .reload }])

/-- COMMIT_EFFECT of any page to which no access is on its way: a pending commit that has fallen due and passes the checks of the boundary
ends, releases the page and stamps it with the tick; on a page whose commit brings nothing else with it, and which no command made, every RW
field takes the captured value and nothing else changes; a commit that a command's hold has overtaken is dropped with bit 5 of PAGE_ERR;
one that is not due waits (R41, R385, R422, R424). A HUB_TRACE commit also waits for H1 (log entry 157: the model's reading). -/
def Obligations.CommitTakesEffect : Prop :=
  (∀ (pg : PageId) (p : Pending) (s : State), (s.b.page (pageKey (pageCls pg) (pageInst pg))).transit = [] →
    (s.b.page (pageKey (pageCls pg) (pageInst pg))).pending = some p → tickReached s.tick p.due = true →
    (pageCls pg = 0x1F → (s.b.proc 85).st = 0) → s.b.commitStop s.tick (pageCls pg) (pageInst pg) p = none →
    ∃ t, exec (.commitEffect pg) s = .next t ∧ InBlock s t ∧
      (t.b.page (pageKey (pageCls pg) (pageInst pg))).pending = none ∧
      (t.b.page (pageKey (pageCls pg) (pageInst pg))).heldBy = none ∧
      (t.b.page (pageKey (pageCls pg) (pageInst pg))).stamp = s.tick) ∧
  (∀ (pg : PageId) (p : Pending) (s : State), (s.b.page (pageKey (pageCls pg) (pageInst pg))).transit = [] →
    (s.b.page (pageKey (pageCls pg) (pageInst pg))).pending = some p → tickReached s.tick p.due = true → p.byCmd = none →
    s.b.commitStop s.tick (pageCls pg) (pageInst pg) p = none →
    pageCls pg ∉ [0x17, 0x1C, 0x1E, 0x1F, 0x28, 0x43, 0x45, 0x47, 0x48, 0x49, 0x4B] →
    ∃ t, exec (.commitEffect pg) s = .next t ∧ t = { s with b := { s.b with regs := t.b.regs, pages := t.b.pages } } ∧
      RegsBut ((pageRw (pageCls pg)).map (fun x => x.key (pageInst pg))) s.b t.b ∧
      (∀ x ∈ pageRw (pageCls pg), t.b.rd x (pageInst pg) =
        mget (s.b.rd x (pageInst pg)) p.vals (x.key (pageInst pg)) % 2 ^ x.width) ∧
      ∀ key, key ≠ pageKey (pageCls pg) (pageInst pg) → t.b.page key = s.b.page key) ∧
  (∀ (pg : PageId) (p : Pending) (s : State), (s.b.page (pageKey (pageCls pg) (pageInst pg))).transit = [] →
    (s.b.page (pageKey (pageCls pg) (pageInst pg))).pending = some p → tickReached s.tick p.due = true → p.byCmd = none →
    (s.b.page (pageKey (pageCls pg) (pageInst pg))).heldBy.isSome = true → pageCls pg ∉ [0x1F, 0x47, 0x48] →
    ∃ t, exec (.commitEffect pg) s = .next t ∧ InBlock s t ∧ SameRegs s t ∧
      (t.b.page (pageKey (pageCls pg) (pageInst pg))).pending = none ∧
      (t.b.page (pageKey (pageCls pg) (pageInst pg))).err = (s.b.page (pageKey (pageCls pg) (pageInst pg))).err ||| 32) ∧
  (∀ (pg : PageId) (s : State), (s.b.page (pageKey (pageCls pg) (pageInst pg))).transit = [] →
    (∀ p, (s.b.page (pageKey (pageCls pg) (pageInst pg))).pending = some p → tickReached s.tick p.due = false) →
    exec (.commitEffect pg) s = .next s)

/-- PROBE_SLOT arms a capture for the slot written and clears PROBE_DONE (R74); a value written to TAIL stands while HEAD is no further than
the ring ahead of it, and one further behind sets bit 4 of PAGE_ERR and leaves TAIL (R252); FW_POINT of a field's running buffer without a trigger
writes one record for a code of 0x80 or above, and nothing for a lower code (R245); a 1 written to FAULT_STATUS clears a set bit that
the open episode does not hold (R302). -/
def Obligations.SingleRegisterEvents : Prop :=
  (∀ (f : FieldNo) (v : Word) (s : State),
    ∃ t, exec (.probeSlot f v) s = .next t ∧ t = { s with b := { s.b with regs := t.b.regs, fields := t.b.fields } } ∧
      (t.b.fu f).probe = some (v.toNat % 1024) ∧ t.b.rd F_EST.PROBE_DONE f = 0 ∧
      RegsBut [F_EST.PROBE_SLOT.key f, F_EST.PROBE_DONE.key f] s.b t.b) ∧
  (∀ (v : Word) (s : State), (s.b.rd HUB_TRACE.HEAD 0 + 2 ^ 32 - v.toNat) % 2 ^ 32 ≤ s.b.ringRecs →
    ∃ t, exec (.tail v) s = .next t ∧ OnlyRegs [HUB_TRACE.TAIL.key 0] s t ∧ t.b.rd HUB_TRACE.TAIL 0 = v.toNat) ∧
  (∀ (v : Word) (s : State), s.b.ringRecs < (s.b.rd HUB_TRACE.HEAD 0 + 2 ^ 32 - v.toNat) % 2 ^ 32 →
    ∃ t, exec (.tail v) s = .next t ∧ InBlock s t ∧ SameRegs s t ∧
      (t.b.page (pageKey 0x1F 0)).err = (s.b.page (pageKey 0x1F 0)).err ||| 16) ∧
  (∀ (p : ProcNo) (v : Word) (sc : ScOff) (s : State), v.toNat / 2 ^ 24 < 0x80 → exec (.fwPoint p v sc) s = .next s) ∧
  (∀ (p : FieldNo) (v : Word) (sc : ScOff) (s : State), 0x80 ≤ v.toNat / 2 ^ 24 → (s.b.proc p).st = 0 → s.b.bufOn p = true →
    (s.b.bufGroups p).testBit 6 = true → s.b.bufPolicy p = 0 → s.b.rd F_TRACE.TRIG_MASK p = 0 → (s.b.trace p).recs.length < 2048 →
    ∃ t, exec (.fwPoint (p.castLE (by decide)) v sc) s = .next t ∧
      t = { s with b := { s.b with regs := t.b.regs, traces := t.b.traces } } ∧
      (t.b.trace p).recs = (s.b.trace p).recs ++ [⟨v.toNat / 2 ^ 24, s.tick % 2 ^ 24, srcField p, sc, 0, v.toNat % 2 ^ 24,
        s.b.rd F_TRACE.FW_DATA p⟩] ∧ ∀ k, k ≠ p.val → t.b.trace k = s.b.trace k) ∧
  (∀ (v : Word) (k : SourceNo) (s : State), v.toNat.testBit k = true → s.b.episodeBit k = false →
    ∃ t, exec (.faultStatusW1c v) s = .next t ∧ InBlock s t ∧ t.b.flag HUB_FAULT.FAULT_STATUS 0 k = false)

/-! ### The I3C target -/

/-- The common command codes that set and read lengths and events, and the four that answer with identification bytes: the
lengths stop at 64 bytes; ENEC and DISEC act on event bit 0; the identification bytes are free values, of which there are 6, 1, 1 and 2
(R409, R412). The limit of the set commands, the order of the length bytes and the third byte of GETMRL are the model's (log entries 24
and 26), as is the free form of the identification bytes (log entry 25). -/
def Obligations.I3cCommonCommands : Prop :=
  (∀ (n : BitVec 16) (s : State),
    exec (.setmwl n) s = .next { s with b := { s.b with hub := { s.b.hub with mwl := min 64 n.toNat } } } ∧
    exec (.setmrl n) s = .next { s with b := { s.b with hub := { s.b.hub with mrl := min 64 n.toNat } } }) ∧
  (∀ s : State, ∃ t, exec .getmwl s = .next t ∧ t = { s with b := { s.b with hub := { s.b.hub with i3cOut := t.b.hub.i3cOut } } } ∧
    (s.b.hub.mwl < 65536 → ∃ hi lo, t.b.hub.i3cOut = [hi, lo] ∧ 256 * hi + lo = s.b.hub.mwl)) ∧
  (∀ s : State, ∃ t, exec .getmrl s = .next t ∧ t = { s with b := { s.b with hub := { s.b.hub with i3cOut := t.b.hub.i3cOut } } } ∧
    (s.b.hub.mrl < 65536 → ∃ hi lo, t.b.hub.i3cOut = [hi, lo, 1] ∧ 256 * hi + lo = s.b.hub.mrl)) ∧
  (∀ (e : Byte) (s : State), ∃ t, exec (.enec e) s = .next t ∧ t = { s with b := { s.b with hub := { s.b.hub with ibiOn := t.b.hub.ibiOn } } } ∧
    t.b.hub.ibiOn = (s.b.hub.ibiOn || e.toNat.testBit 0)) ∧
  (∀ (e : Byte) (s : State), ∃ t, exec (.disec e) s = .next t ∧ t = { s with b := { s.b with hub := { s.b.hub with ibiOn := t.b.hub.ibiOn } } } ∧
    t.b.hub.ibiOn = (s.b.hub.ibiOn && !e.toNat.testBit 0)) ∧
  (∀ s : State, ∀ x ∈ [(Instr.getpid, 6), (Instr.getbcr, 1), (Instr.getdcr, 1), (Instr.getstatus, 2)],
    ∃ t, exec x.1 s = .next t ∧ InBlock s t ∧ SameRegs s t ∧ t.b.hub.i3cOut.length = x.2 ∧ (∀ y ∈ t.b.hub.i3cOut, y < 256) ∧
      t.b.hub.winErr = s.b.hub.winErr)

/-- The target: ENTDAA and SETDASA give it an address where none is held, RSTDAA takes it back (R409); that an address already held
stands is the model's own choice (log entry 23). A pending IBI goes out with its causes, where it is enabled, and is no longer pending (R412);
FLAGS_READ answers FLAGS and clears WIN_ERR; a private read answers the bytes of the registers from the index last written on, and
0 where none is listed (R410; that LOW_WORD_READ is its row is the model's own choice, log entry 162); a write of WIN_DATA at a descriptor word of HUB_CMD_BMC sets that word and nothing else of the
registers, and one outside HUB_CMD_BMC sets WIN_ERR and changes no register; a read of WIN_DATA at the low word of wafer time answers it, and one
at an unmapped offset answers 0 and sets WIN_ERR; every access of WIN_DATA moves WIN_ADDR on by 4 (R411). -/
def Obligations.I3cAddressAndInterrupts : Prop :=
  (∀ (a : BitVec 7) (s : State), s.b.hub.dynAddr = none →
    exec (.entdaa a) s = .next { s with b := { s.b with hub := { s.b.hub with dynAddr := some a.toNat } } } ∧
    exec (.setdasa a) s = .next { s with b := { s.b with hub := { s.b.hub with dynAddr := some a.toNat } } }) ∧
  (∀ (a : BitVec 7) (s : State), s.b.hub.dynAddr ≠ none → exec (.entdaa a) s = .next s ∧ exec (.setdasa a) s = .next s) ∧
  (∀ s : State, exec .rstdaa s = .next { s with b := { s.b with hub := { s.b.hub with dynAddr := none } } }) ∧
  (∀ s : State, s.b.hub.ibiOn = true → s.b.hub.ibiPending ≠ 0 →
    exec .ibiDelivery s =
      .next { s with b := { s.b with hub := { s.b.hub with i3cOut := [s.b.hub.ibiPending], ibiPending := 0 } } }) ∧
  (∀ s : State, s.b.hub.ibiOn = false ∨ s.b.hub.ibiPending = 0 → exec .ibiDelivery s = .next s) ∧
  (∀ s : State, ∃ t, exec .flagsRead s = .next t ∧ InBlock s t ∧ SameRegs s t ∧ t.b.hub.winErr = false ∧
    t.b.hub.i3cOut = [s.b.flagsByte]) ∧
  (∀ (a : BitVec 27) (sc : ScOff) (s : State) (k : Nat) (r : List Nat), (k, r) ∈ i3cRegs s → k ≠ 0x0C → s.b.hub.i3cIndex = k →
    exec (.lowWordRead .i3c a (BitVec.ofNat 8 (2 ^ r.length - 1)) sc) s =
      .next { s with b := { s.b with hub := { s.b.hub with i3cOut := r, i3cIndex := k + r.length } } }) ∧
  (∀ (a : BitVec 27) (sc : ScOff) (s : State), 0x28 ≤ s.b.hub.i3cIndex → s.b.hub.i3cIndex < 256 →
    exec (.lowWordRead .i3c a 0x01#8 sc) s =
      .next { s with b := { s.b with hub := { s.b.hub with i3cOut := [0], i3cIndex := (s.b.hub.i3cIndex + 1) % 256 } } }) ∧
  (∀ (k : Fin 16) (v : Word) (sc : ScOff) (s : State), s.b.winOffset = 0x4040 + 4 * k.val →
    ∃ t, exec (.winData (some v) sc) s = .next t ∧ t = { s with b := { s.b with regs := t.b.regs, hub := t.b.hub } } ∧
      RegsBut [(HUB_CMD.DESC 1 k.val).key 0] s.b t.b ∧ t.b.rd (HUB_CMD.DESC 1 k.val) 0 = v.toNat ∧
      t.b.hub.winErr = s.b.hub.winErr ∧ t.b.hub.winAddr = (s.b.hub.winAddr + 4) % 2 ^ 32) ∧
  (∀ (v : Word) (sc : ScOff) (s : State), s.b.winOffset < 0x4000 ∨ 0x5000 ≤ s.b.winOffset →
    ∃ t, exec (.winData (some v) sc) s = .next t ∧ InBlock s t ∧ SameRegs s t ∧ t.b.hub.winErr = true ∧
      t.b.hub.winAddr = (s.b.hub.winAddr + 4) % 2 ^ 32) ∧
  (∀ (sc : ScOff) (s : State), s.b.winOffset = 0x1040 → (s.b.page (pageKey 0x11 0)).transit = [] →
    ∃ t, exec (.winData none sc) s = .next t ∧ InBlock s t ∧ t.b.hub.i3cOut = leBytes 4 (s.tick % 2 ^ 32) ∧
      t.b.hub.winErr = s.b.hub.winErr ∧ t.b.hub.winAddr = (s.b.hub.winAddr + 4) % 2 ^ 32) ∧
  (∀ (sc : ScOff) (s : State), target s.b.winOffset = .unmapped →
    ∃ t, exec (.winData none sc) s = .next t ∧ InBlock s t ∧ SameRegs s t ∧ t.b.hub.i3cOut = [0, 0, 0, 0] ∧
      t.b.hub.winErr = true ∧ t.b.hub.winAddr = (s.b.hub.winAddr + 4) % 2 ^ 32)

/-! ### Parcel agents -/

/-- The issue gate (R75): one engine cycle adds the rate, and the gate is open when 64 is reached; at a constant rate, 64
consecutive cycles contain exactly q open ones and bring the accumulator back; accumulator k starts at 4k. -/
def Obligations.GateOpensExactlyQ : Prop :=
  (∀ q acc : Nat, (64 ≤ acc + q → gateCycle q acc = (acc + q - 64, true)) ∧ (acc + q < 64 → gateCycle q acc = (acc + q, false))) ∧
  (∀ q acc : Nat, q ≤ 64 → acc < 64 → gateRun q 64 acc = (acc, q)) ∧
  (∀ k : Nat, k < 16 → Agent.reset.acc.getD k 0 = 4 * k)

/-- A margin below T1_MARGIN lowers q_droop to half the rate that the gates apply in the cycle of detection, one below T2_MARGIN sets it
to 1, for a reading of an armed detector outside the ignored windows; a release in progress ends, q_ramp stands, and so do every other agent
and every register (R103 to R105). A droop event word: a T1 word counts one and its repeats in T1_EVENTS, a T2 word in T2_EVENTS, and the
word leaves the agent's queue (R107, R244). -/
def Obligations.DroopEvents : Prop :=
  (∀ (f : FieldNo) (p : SlotNo) (second : Bool) (m : BitVec 6) (ec : BitVec 12) (s : State),
    s.b.armedBy f p second = true → s.b.blind s.tick f ec.toNat = false →
    (m.toNat < s.b.rd F_DROOP.T1_MARGIN f →
      ∃ t, exec (.droopT1Event f p second m ec) s = .next t ∧ t = { s with b := { s.b with agents := t.b.agents } } ∧
        (t.b.agent (pid f p)).qDroop = min (s.b.agent (pid f p)).qDroop (max 1
          (max 1 (min ((s.b.agent (pid f p)).droopAt s.tick (s.b.fu f).nEc ec.toNat) (s.b.otherRate f p)) / 2)) ∧
        (t.b.agent (pid f p)).releasing = false ∧ (t.b.agent (pid f p)).qRamp = (s.b.agent (pid f p)).qRamp ∧
        ∀ k, k ≠ pid f p → t.b.agent k = s.b.agent k) ∧
    (m.toNat < s.b.rd F_DROOP.T2_MARGIN f →
      ∃ t, exec (.droopT2Event f p second m ec) s = .next t ∧ t = { s with b := { s.b with agents := t.b.agents } } ∧
        (t.b.agent (pid f p)).qDroop = 1 ∧ (t.b.agent (pid f p)).clamp = 2 ∧
        (t.b.agent (pid f p)).releasing = false ∧ (t.b.agent (pid f p)).qRamp = (s.b.agent (pid f p)).qRamp ∧
        ∀ k, k ≠ pid f p → t.b.agent k = s.b.agent k)) ∧
  (∀ (f : FieldNo) (p : SlotNo) (w : DroopWord) (rest : List DroopWord) (s : State), (s.b.agent (pid f p)).words = w :: rest →
    ∃ t, exec (.droopEventWord f p) s = .next t ∧ InBlock s t ∧ (t.b.agent (pid f p)).words = rest ∧
      (w.t2 = false → t.b.rd F_DROOP.T1_EVENTS f = (s.b.rd F_DROOP.T1_EVENTS f + 1 + w.repeats) % 2 ^ 32 ∧
        t.b.rd F_DROOP.T2_EVENTS f = s.b.rd F_DROOP.T2_EVENTS f) ∧
      (w.t2 = true → t.b.rd F_DROOP.T2_EVENTS f = (s.b.rd F_DROOP.T2_EVENTS f + 1 + w.repeats) % 2 ^ 32 ∧
        t.b.rd F_DROOP.T1_EVENTS f = s.b.rd F_DROOP.T1_EVENTS f))

/-- Events of one agent, which leave every other: the count of clear cycles begins the release of a clamp (R106); IDLE_EC cycles without
issue make the parcel idle, unless a matrix ticket runs on it (R114); a step of the climb raises q_shape by 1 up to 64 (R115); an unticketed start
of a released, idle parcel without a matrix ticket ends its idling and is counted (R121). -/
def Obligations.AgentEvents : Prop :=
  (∀ (f : FieldNo) (p : SlotNo) (s : State), (s.b.agent (pid f p)).clamp ≠ 0 →
    ∃ t, exec (.clampReleaseCount f p) s = .next t ∧ t = { s with b := { s.b with agents := t.b.agents } } ∧
      t.b.agent (pid f p) = { s.b.agent (pid f p) with releasing := true } ∧ ∀ k, k ≠ pid f p → t.b.agent k = s.b.agent k) ∧
  (∀ (f : FieldNo) (p : SlotNo) (s : State), s.b.matrixRunning f p = false →
    ∃ t, exec (.parcelIdle f p) s = .next t ∧ t = { s with b := { s.b with agents := t.b.agents } } ∧
      t.b.agent (pid f p) = { s.b.agent (pid f p) with idle := true, unticketed := false } ∧
      ∀ k, k ≠ pid f p → t.b.agent k = s.b.agent k) ∧
  (∀ (f : FieldNo) (p : SlotNo) (s : State), s.b.matrixRunning f p = true → exec (.parcelIdle f p) s = .next s) ∧
  (∀ (f : FieldNo) (p : SlotNo) (s : State), (s.b.agent (pid f p)).shaping = true →
    ∃ t, exec (.shapeStep f p) s = .next t ∧ t = { s with b := { s.b with agents := t.b.agents } } ∧
      (t.b.agent (pid f p)).climb = min 64 ((s.b.agent (pid f p)).climb + 1) ∧
      ((t.b.agent (pid f p)).shaping = true ↔ (s.b.agent (pid f p)).climb + 1 < 64) ∧
      ∀ k, k ≠ pid f p → t.b.agent k = s.b.agent k) ∧
  (∀ (f : FieldNo) (p : SlotNo) (s : State), (s.b.agent (pid f p)).released = true → (s.b.agent (pid f p)).idle = true →
    s.b.matrixRunning f p = false →
    ∃ t, exec (.unticketedStart f p) s = .next t ∧ t = { s with b := { s.b with regs := t.b.regs, agents := t.b.agents } } ∧
      (t.b.agent (pid f p)).idle = false ∧ (t.b.agent (pid f p)).unticketed = true ∧
      t.b.rd F_DROOP.UNTICKETED f = (s.b.rd F_DROOP.UNTICKETED f + 1) % 2 ^ 32 ∧
      RegsBut [F_DROOP.UNTICKETED.key f] s.b t.b ∧ ∀ k, k ≠ pid f p → t.b.agent k = s.b.agent k)

/-- The allowance word at a parcel that owes no step: a waiting parcel with room draws its step and is released, one without room waits on and
draws nothing; at the return four times the drawn steps join the committed rise, and RESV takes NEXT (R118, R119, R181). A ramp mark gives
every ring its allowance again (R118), lowers no q_ramp, and raises none above its target (R77, R78). -/
def Obligations.AllowanceWordAndRampMark : Prop :=
  (∀ (f : FieldNo) (p : SlotNo) (w : Waiting) (s : State), (s.b.agent (pid f p)).debit = [] →
    (s.b.agent (pid f p)).waiting = some w → (if w.crit then 0 else (s.b.ring (ringOf f p)).resv) + s.b.startStep f p w.cls ≤ (s.b.ring (ringOf f p)).allow →
    ∃ t, exec (.allowanceWordPass f p) s = .next t ∧
      t = { s with b := { s.b with regs := t.b.regs, agents := t.b.agents, rings := t.b.rings } } ∧
      (t.b.agent (pid f p)).waiting = none ∧
      (t.b.ring (ringOf f p)).allow = (s.b.ring (ringOf f p)).allow - s.b.startStep f p w.cls ∧
      (t.b.ring (ringOf f p)).drawn = (s.b.ring (ringOf f p)).drawn + s.b.startStep f p w.cls ∧
      RegsBut [F_DROOP.STAGGER_DELAYED.key f] s.b t.b ∧
      (∀ k, k ≠ pid f p → t.b.agent k = s.b.agent k) ∧ ∀ k, k ≠ ringOf f p → t.b.ring k = s.b.ring k) ∧
  (∀ (f : FieldNo) (p : SlotNo) (w : Waiting) (s : State), (s.b.agent (pid f p)).debit = [] →
    (s.b.agent (pid f p)).waiting = some w → (s.b.ring (ringOf f p)).allow < (if w.crit then 0 else (s.b.ring (ringOf f p)).resv) + s.b.startStep f p w.cls →
    ∃ t, exec (.allowanceWordPass f p) s = .next t ∧
      t = { s with b := { s.b with agents := t.b.agents, rings := t.b.rings } } ∧
      (t.b.agent (pid f p)).waiting = some { w with delayed := true } ∧
      (t.b.ring (ringOf f p)).allow = (s.b.ring (ringOf f p)).allow ∧ (t.b.ring (ringOf f p)).drawn = (s.b.ring (ringOf f p)).drawn) ∧
  (∀ (f : FieldNo) (r : RingNo) (s : State),
    ∃ t, exec (.allowanceWordReturn f r) s = .next t ∧ t = { s with b := { s.b with fields := t.b.fields, rings := t.b.rings } } ∧
      (t.b.fu f).committedRise = (s.b.fu f).committedRise + 4 * (s.b.ring (12 * f + r)).drawn ∧
      t.b.ring (12 * f + r) = { s.b.ring (12 * f + r) with drawn := 0, resv := (s.b.ring (12 * f + r)).nextCrit, nextCrit := 0 } ∧
      (∀ k, k ≠ f.val → t.b.fu k = s.b.fu k) ∧ ∀ k, k ≠ 12 * f.val + r.val → t.b.ring k = s.b.ring k) ∧
  (∀ (k : Fin 8) (s : State),
    ∃ t, exec (.rampMark k) s = .next t ∧
      t = { s with b := { s.b with regs := t.b.regs, agents := t.b.agents, rings := t.b.rings } } ∧
      (∀ (f : FieldNo) (r : RingNo), (t.b.ring (12 * f + r)).allow = s.b.rd F_DROOP.RING_ALLOW f) ∧
      ∀ (f : FieldNo) (p : SlotNo), (t.b.agent (pid f p)).qTarget = (s.b.agent (pid f p)).qTarget ∧
        ((s.b.agent (pid f p)).qTarget ≤ (s.b.agent (pid f p)).qRamp →
          (t.b.agent (pid f p)).qRamp = (s.b.agent (pid f p)).qRamp) ∧
        ((s.b.agent (pid f p)).qRamp ≤ (s.b.agent (pid f p)).qTarget →
          (t.b.agent (pid f p)).qRamp ≤ (s.b.agent (pid f p)).qTarget ∧ (s.b.agent (pid f p)).qRamp ≤ (t.b.agent (pid f p)).qRamp))

/-! ### Rails and phases -/

/-- A slew step moves a reference by at most 0.625 mV (R188), and the references of a field never cross: from a state in which VCORE does not
lie above VSRAM, no step of either rail carries it there (R192). On a rail that regulates, a step that would not cross the other rail's reference
takes the reference 0.625 mV, or what is left, toward its target, and REF and SLEWING show it (R188, R189). -/
def Obligations.ReferencesNeverCross : Prop :=
  (∀ (f : FieldNo) (r : Rail) (s : State), (s.b.rail (railOf f 0)).refv ≤ (s.b.rail (railOf f 1)).refv →
    ∃ t, exec (.refSlewStep f r) s = .next t ∧ t = { s with b := { s.b with regs := t.b.regs, rails := t.b.rails } } ∧
      (t.b.rail (railOf f 0)).refv ≤ (t.b.rail (railOf f 1)).refv ∧
      (t.b.rail (railOf f (railNo r))).refv ≤ (s.b.rail (railOf f (railNo r))).refv + 5 ∧
      (s.b.rail (railOf f (railNo r))).refv ≤ (t.b.rail (railOf f (railNo r))).refv + 5 ∧
      RegsBut [(F_RAIL.REF (railNo r)).key f, (F_RAIL.SLEWING (railNo r)).key f] s.b t.b ∧
      ∀ k, k ≠ railOf f (railNo r) → t.b.rail k = s.b.rail k) ∧
  (∀ (f : FieldNo) (r : Rail) (n : Nat) (s : State), (s.b.rail (railOf f (railNo r))).run = 2 →
    n = stepToward (s.b.rail (railOf f (railNo r))).refv (s.b.refTarget f (railNo r)) → n ≠ (s.b.rail (railOf f (railNo r))).refv →
    (r = .core → n ≤ (s.b.rail (railOf f 1)).refv) → (r = .sram → (s.b.rail (railOf f 0)).refv ≤ n) →
    ∃ t, exec (.refSlewStep f r) s = .next t ∧ t = { s with b := { s.b with regs := t.b.regs, rails := t.b.rails } } ∧
      (t.b.rail (railOf f (railNo r))).refv = n ∧
      t.b.rd (F_RAIL.REF (railNo r)) f = n / 2 % 2 ^ (F_RAIL.REF (railNo r)).width ∧
      (t.b.bit (F_RAIL.SLEWING (railNo r)) f = true ↔ n ≠ s.b.refTarget f (railNo r)))

/-- Arrival of a rail that starts or regulates, whose reference has reached its target: ARRIVED, ARRIVALS and ARRIVAL_TICK, and VCORE's ends
the margin transition (R112, R190); the start and the end of overshoot braking (R182); an under-voltage of a rail that is on, counted and sent
once until VOUT has returned (R183). Each changes nothing else. -/
def Obligations.RailEvents : Prop :=
  (∀ (f : FieldNo) (r : Rail) (s : State),
    (s.b.rail (railOf f (railNo r))).run = 1 ∨ (s.b.rail (railOf f (railNo r))).run = 2 →
    (s.b.rail (railOf f (railNo r))).refv = s.b.refTarget f (railNo r) → s.b.bit (F_RAIL.ARRIVED (railNo r)) f = false →
    ∃ t, exec (.railArrival f r) s = .next t ∧
      OnlyRegs [(F_RAIL.ARRIVED (railNo r)).key f, (F_RAIL.ARRIVALS (railNo r)).key f, (F_RAIL.ARRIVAL_TICK (railNo r)).key f,
        F_DROOP.TRANSITION.key f, F_DROOP.MODE_IN_FORCE.key f] s t ∧
      t.b.bit (F_RAIL.ARRIVED (railNo r)) f = true ∧
      t.b.rd (F_RAIL.ARRIVALS (railNo r)) f = (s.b.rd (F_RAIL.ARRIVALS (railNo r)) f + 1) % 2 ^ 32 ∧
      t.b.rd (F_RAIL.ARRIVAL_TICK (railNo r)) f = s.tick % 2 ^ (F_RAIL.ARRIVAL_TICK (railNo r)).width ∧
      (r = .core → t.b.bit F_DROOP.TRANSITION f = false)) ∧
  (∀ (f : FieldNo) (r : Rail) (s : State), (s.b.rail (railOf f (railNo r))).run ≠ 0 →
    s.b.bit (F_RAIL.BRAKING (railNo r)) f = false → s.b.bit (F_RAIL.BRAKE_EN (railNo r)) f = true →
    ∃ t, exec (.brakeStart f r) s = .next t ∧
      OnlyRegs [(F_RAIL.BRAKING (railNo r)).key f, (F_RAIL.BRAKE_EVENTS (railNo r)).key f] s t ∧
      t.b.bit (F_RAIL.BRAKING (railNo r)) f = true ∧
      t.b.rd (F_RAIL.BRAKE_EVENTS (railNo r)) f = (s.b.rd (F_RAIL.BRAKE_EVENTS (railNo r)) f + 1) % 2 ^ 32) ∧
  (∀ (f : FieldNo) (r : Rail) (n : Nat) (s : State), s.b.bit (F_RAIL.BRAKING (railNo r)) f = true →
    ∃ t, exec (.brakeEnd f r n) s = .next t ∧ t = { s with b := { s.b with regs := t.b.regs, rails := t.b.rails } } ∧
      RegsBut [(F_RAIL.BRAKING (railNo r)).key f] s.b t.b ∧ t.b.bit (F_RAIL.BRAKING (railNo r)) f = false ∧
      t.b.rail (railOf f (railNo r)) = { s.b.rail (railOf f (railNo r)) with rampFrom := n }) ∧
  (∀ (f : FieldNo) (r : Rail) (s : State), s.b.bit (F_RAIL.ON (railNo r)) f = true →
    (s.b.rail (railOf f (railNo r))).uvCounted = false →
    ∃ t, exec (.railUv f r) s = .next t ∧
      t = { s with b := { s.b with regs := t.b.regs, rails := t.b.rails, fields := t.b.fields, faults := t.b.faults } } ∧
      RegsBut [(F_RAIL.UV_EVENTS (railNo r)).key f] s.b t.b ∧
      t.b.rd (F_RAIL.UV_EVENTS (railNo r)) f = (s.b.rd (F_RAIL.UV_EVENTS (railNo r)) f + 1) % 2 ^ 32 ∧
      (t.b.rail (railOf f (railNo r))).uvCounted = true ∧
      t.b.faults = s.b.faults ++ [{ src := 15, field := f, detail := railNo r, off := 0 }]) ∧
  (∀ (f : FieldNo) (r : Rail) (s : State), (s.b.rail (railOf f (railNo r))).uvCounted = true → exec (.railUv f r) s = .next s) ∧
  (∀ (f : FieldNo) (r : Rail) (s : State),
    ∃ t, exec (.railUvReturn f r) s = .next t ∧ t = { s with b := { s.b with rails := t.b.rails } } ∧
      t.b.rail (railOf f (railNo r)) = { s.b.rail (railOf f (railNo r)) with uvCounted := false } ∧
      ∀ k, k ≠ railOf f (railNo r) → t.b.rail k = s.b.rail k)

/-- Protection of a phase. PHASE_OC: OC_CYCLES periods of foldback are counted and sent once until the count is re-armed (R194). PHASE_OT:
TMON risen above OT_C is counted and sent once, and an ACTIVE phase is held SHED when its rail can spare one; PHASE_OT_CLEAR: the hold ends with
TMON below OT_C - OT_HYS, and not before (R195). PH_FAULT_N_ASSERT: a phase that has not FAILED becomes FAILED with its pin shown and its
channel invalid, counted and recorded (R64, R196, R200). -/
def Obligations.PhaseEvents : Prop :=
  (∀ (f : FieldNo) (p : PhaseNo) (s : State), (s.b.phase (phOf f p)).ocHeld = false →
    s.b.rd F_PHASE.OC_CYCLES f ≤ (s.b.phase (phOf f p)).foldRun →
    ∃ t, exec (.phaseOc f p) s = .next t ∧
      t = { s with b := { s.b with regs := t.b.regs, phases := t.b.phases, fields := t.b.fields, faults := t.b.faults } } ∧
      RegsBut [F_PHASE.OC_EVENTS.key f] s.b t.b ∧
      t.b.rd F_PHASE.OC_EVENTS f = (s.b.rd F_PHASE.OC_EVENTS f + 1) % 2 ^ 32 ∧ (t.b.phase (phOf f p)).ocHeld = true ∧
      t.b.faults = s.b.faults ++ [{ src := 12, field := f, detail := p, off := 0 }]) ∧
  (∀ (f : FieldNo) (p : PhaseNo) (s : State), (s.b.phase (phOf f p)).ocHeld = true → exec (.phaseOc f p) s = .next s) ∧
  (∀ (f : FieldNo) (p : PhaseNo) (s : State), (s.b.phase (phOf f p)).hot = false →
    s.b.rd F_PHASE.OT_C f < s.b.rd (F_PHASE.TMON p) f → s.b.rd (F_RAIL.MIN_PHASES (phaseRail p)) f < s.b.nActive f (phaseRail p) →
    s.b.rd (F_PHASE.STATE p) f = phActive →
    ∃ t, exec (.phaseOt f p) s = .next t ∧ InBlock s t ∧ t.b.rd (F_PHASE.STATE p) f = phShed ∧
      t.b.bit (F_PHASE.HELD_OT p) f = true ∧ t.b.rd F_PHASE.OT_EVENTS f = (s.b.rd F_PHASE.OT_EVENTS f + 1) % 2 ^ 32 ∧
      (t.b.phase (phOf f p)).hot = true ∧ t.b.faults = s.b.faults ++ [{ src := 13, field := f, detail := p, off := 0 }] ∧
      RegsBut [(F_PHASE.STATE p).key f, (F_PHASE.HELD_OT p).key f, F_PHASE.OT_EVENTS.key f] s.b t.b) ∧
  (∀ (f : FieldNo) (p : PhaseNo) (s : State), (s.b.phase (phOf f p)).hot = false →
    s.b.rd F_PHASE.OT_C f < s.b.rd (F_PHASE.TMON p) f → s.b.nActive f (phaseRail p) ≤ s.b.rd (F_RAIL.MIN_PHASES (phaseRail p)) f →
    ∃ t, exec (.phaseOt f p) s = .next t ∧
      t = { s with b := { s.b with regs := t.b.regs, phases := t.b.phases, fields := t.b.fields, faults := t.b.faults } } ∧
      RegsBut [F_PHASE.OT_EVENTS.key f] s.b t.b ∧ t.b.rd F_PHASE.OT_EVENTS f = (s.b.rd F_PHASE.OT_EVENTS f + 1) % 2 ^ 32 ∧
      t.b.faults = s.b.faults ++ [{ src := 13, field := f, detail := p, off := 0 }]) ∧
  (∀ (f : FieldNo) (p : PhaseNo) (s : State), (s.b.phase (phOf f p)).hot = true → exec (.phaseOt f p) s = .next s) ∧
  (∀ (f : FieldNo) (p : PhaseNo) (s : State), s.b.rd (F_PHASE.TMON p) f + s.b.rd F_PHASE.OT_HYS f < s.b.rd F_PHASE.OT_C f →
    ∃ t, exec (.phaseOtClear f p) s = .next t ∧ t = { s with b := { s.b with regs := t.b.regs, phases := t.b.phases } } ∧
      RegsBut [(F_PHASE.HELD_OT p).key f] s.b t.b ∧ t.b.bit (F_PHASE.HELD_OT p) f = false ∧
      t.b.phase (phOf f p) = { s.b.phase (phOf f p) with hot := false } ∧ ∀ k, k ≠ phOf f p → t.b.phase k = s.b.phase k) ∧
  (∀ (f : FieldNo) (p : PhaseNo) (s : State), s.b.rd F_PHASE.OT_C f ≤ s.b.rd (F_PHASE.TMON p) f + s.b.rd F_PHASE.OT_HYS f →
    exec (.phaseOtClear f p) s = .next s) ∧
  (∀ (f : FieldNo) (p : PhaseNo) (i : LastFaultIn) (s : State), s.b.rd (F_PHASE.STATE p) f ≠ phFailed →
    ∃ t, exec (.phFaultNAssert f p i) s = .next t ∧ InBlock s t ∧ t.b.rd (F_PHASE.STATE p) f = phFailed ∧
      t.b.bit (F_PHASE.FAULT_PIN p) f = true ∧ t.b.bit (F_PHASE.CHAN_INVALID p) f = true ∧
      t.b.rd F_PHASE.STAGE_FAULTS f = (s.b.rd F_PHASE.STAGE_FAULTS f + 1) % 2 ^ 32 ∧
      t.b.rd F_PHASE.LF_COUNT f = (s.b.rd F_PHASE.LF_COUNT f + 1) % 2 ^ 32 ∧ t.b.agents = s.b.agents ∧ t.b.slots = s.b.slots)

/-- Modulation, restoring, balance and targets of a field's rails. MODULATOR_TRIGGER: with VOUT + RAMP below the reference the
first phase in rotation that has rested and is within I_lim takes a pulse of its on-time, and the ramp restarts (R176 to R178, R194); none while
the rail brakes (R182). PHASE_RESTORE_ALL: every SHED phase that over-temperature does not hold becomes ACTIVE, where its condition holds (R181).
BALANCE_PERIOD_END: once at a multiple of 64 ticks, every phase ACTIVE throughout gets its trim for the next boundary when the field processor ran
throughout, and the sums restart (R179, R275). CONTOUR_TARGET_SELECT: once the sequencers have taken over, the selected datums hold the target
codes of both rails; before that no rail moves (R186, R191, R359). -/
def Obligations.ModulationAndTargets : Prop :=
  (∀ (f : FieldNo) (r : Rail) (n : Nat) (v : BitVec 16) (a : Vector (BitVec 8) 20) (p : Nat) (s : State),
    (s.b.rail (railOf f (railNo r))).run ≠ 0 → s.b.bit (F_RAIL.BRAKING (railNo r)) f = false →
    2 * v.toNat * 1000000 + 8 * s.b.rampAt f (railNo r) n < (s.b.rail (railOf f (railNo r))).refv * 1000000 →
    ((s.b.rotation f (railNo r)).filter (fun p => decide ((s.b.phase (phOf f p)).pulseEnd + 480 ≤ 8 * n))).find?
      (fun p => !s.b.overLimit f (railNo r) v.toNat (a.toList.getD p 0).toNat) = some p →
    ∃ t, exec (.modulatorTrigger f r n v a) s = .next t ∧
      t = { s with b := { s.b with rails := t.b.rails, phases := t.b.phases } } ∧
      (t.b.phase (phOf f p)).pulseEnd = 8 * n + s.b.onTime f (railNo r) p ∧
      t.b.rail (railOf f (railNo r)) = { s.b.rail (railOf f (railNo r)) with rampFrom := n, nextPhase := p + 1 } ∧
      ∀ k, k ≠ railOf f (railNo r) → t.b.rail k = s.b.rail k) ∧
  (∀ (f : FieldNo) (r : Rail) (n : Nat) (v : BitVec 16) (a : Vector (BitVec 8) 20) (s : State),
    s.b.bit (F_RAIL.BRAKING (railNo r)) f = true → exec (.modulatorTrigger f r n v a) s = .next s) ∧
  (∀ (f : FieldNo) (r : Rail) (why : RestoreCause) (s : State), s.b.restoreDue f (railNo r) why = true →
    ∃ t, exec (.phaseRestoreAll f r why) s = .next t ∧ InBlock s t ∧ t.b.agents = s.b.agents ∧
      ∀ p ∈ railPhases (railNo r), s.b.rd (F_PHASE.STATE p) f = phShed → s.b.bit (F_PHASE.HELD_OT p) f = false →
        t.b.rd (F_PHASE.STATE p) f = phActive) ∧
  (∀ (f : FieldNo) (r : Rail) (l : List Nat) (s : State), s.tick % 64 = 0 → (s.b.rail (railOf f (railNo r))).balAt ≠ some s.tick →
    l = (s.b.phasesIn f (railNo r) phActive).filter (fun p =>
      (s.b.phase (phOf f p)).balWhole && (s.b.phase (phOf f p)).balTicks != 0) →
    ∃ t, exec (.balancePeriodEnd f r) s = .next t ∧
      t = { s with b := { s.b with
        regs := t.b.regs, rails := t.b.rails, phases := t.b.phases, fields := t.b.fields, faults := t.b.faults } } ∧
      RegsBut [F_PHASE.OT_EVENTS.key f] s.b t.b ∧
      ((s.b.proc f).st = 0 → (s.b.rail (railOf f (railNo r))).balBroken = false →
        ∀ p ∈ l, (t.b.phase (phOf f p)).trimNext = some (balanceTrim (s.b.rdZ (F_PHASE.BAL_TRIM p) f) (s.b.phase (phOf f p)).balSum
          (l.map (fun p => (s.b.phase (phOf f p)).balSum)).sum l.length (s.b.phase (phOf f p)).balTicks (s.b.rd F_PHASE.BAL_STEP f))) ∧
      (t.b.rail (railOf f (railNo r))).balAt = some s.tick ∧
      ∀ p ∈ railPhases (railNo r), (t.b.phase (phOf f p)).balSum = 0 ∧ (t.b.phase (phOf f p)).balTicks = 0) ∧
  (∀ (f : FieldNo) (r : Rail) (s : State), s.tick % 64 ≠ 0 ∨ (s.b.rail (railOf f (railNo r))).balAt = some s.tick →
    exec (.balancePeriodEnd f r) s = .next s) ∧
  (∀ (f : FieldNo) (s : State), s.b.hub.takenOver = true →
    ∃ t, exec (.contourTargetSelect f) s = .next t ∧ InBlock s t ∧ t.b.agents = s.b.agents ∧
      t.b.rd (F_RAIL.DATUM 0 (t.b.rd (F_RAIL.VSEL 0) f)) f = (s.b.targetCodes s.tick f).1 ∧
      t.b.rd (F_RAIL.DATUM 1 (t.b.rd (F_RAIL.VSEL 1) f)) f = (s.b.targetCodes s.tick f).2) ∧
  (∀ (f : FieldNo) (s : State), s.b.hub.takenOver = false →
    ∃ t, exec (.contourTargetSelect f) s = .next t ∧ OnlyRegs [F_DROOP.SHAPE_EC.key f, F_DROOP.STEP_DENSE.key f,
      F_DROOP.STEP_SPARSE.key f, F_DROOP.STEP_COMPAT.key f, F_DROOP.RING_ALLOW.key f] s t)

/-- The pair of field `f` has latched off with `cause`: VCORE is off, VSRAM still holds for step 2, both rails show LATCHED_OFF, and the field is
marked out with the cause from the next boundary (R197). -/
def Sys2Proof.Machine.LatchedOff (f cause : Nat) (s t : State) : Prop :=
  InBlock s t ∧ (t.b.rail (railOf f 0)).run = 0 ∧ (t.b.rail (railOf f 1)).run = 4 ∧ t.b.bit (F_RAIL.LATCHED_OFF 0) f = true ∧
  t.b.bit (F_RAIL.LATCHED_OFF 1) f = true ∧ (t.b.fu f).outNext = some cause ∧ (t.b.fu f).latchAt = some s.tick

/-- How a field's pair stops and how a start ends. RAIL_OV is counted and latches the pair off (R183); LATCH_OFF latches it off for each cause
whose condition holds (R197, Table 8.4); VIN_STOP turns both rails off, with cause 7 for the next boundary (R199); RAIL_STOP_DONE, with both
references at 0 V, turns both off with the cause of the stop (R193); SOFT_START_END, with both references at their targets, makes
both regulate and lets the agents of the field load from their reset state (R11, R129, R193). That PGOOD of both is set at SOFT_START_END is the
model's choice (log entry 144). -/
def Obligations.PairStopsAndStarts : Prop :=
  (∀ (f : FieldNo) (r : Rail) (i : LastFaultIn) (s : State), (s.b.rail (railOf f (railNo r))).run ≠ 0 →
    (s.b.rail (railOf f (railNo r))).run ≠ 4 →
    ∃ t, exec (.railOv f r i) s = .next t ∧ LatchedOff f 4 s t ∧
      t.b.rd (F_RAIL.OV_EVENTS (railNo r)) f = (s.b.rd (F_RAIL.OV_EVENTS (railNo r)) f + 1) % 2 ^ 32) ∧
  (∀ (f : FieldNo) (r : Rail) (i : LastFaultIn) (s : State), s.b.bit (F_RAIL.SOFTSTART (railNo r)) f = true →
    (s.b.shorted f (railNo r) i = true → ∃ t, exec (.latchOff f .ssShort r i) s = .next t ∧ LatchedOff f 1 s t) ∧
    (s.b.startOverdue s.tick f (railNo r) i = true → ∃ t, exec (.latchOff f .ssTimeout r i) s = .next t ∧ LatchedOff f 2 s t)) ∧
  (∀ (f : FieldNo) (r : Rail) (i : LastFaultIn) (s : State), s.b.bit (F_RAIL.ON (railNo r)) f = true →
    s.b.bit (F_RAIL.SOFTSTART (railNo r)) f = false → s.b.shorted f (railNo r) i = true →
    ∃ t, exec (.latchOff f .runShort r i) s = .next t ∧ LatchedOff f 3 s t ∧
      t.b.rd (F_RAIL.UV_EVENTS (railNo r)) f = (s.b.rd (F_RAIL.UV_EVENTS (railNo r)) f + 1) % 2 ^ 32) ∧
  (∀ (f : FieldNo) (r : Rail) (i : LastFaultIn) (s : State), s.b.pairUp f = true → (s.b.fu f).latchAt = none →
    (∃ t, exec (.latchOff f .railOv r i) s = .next t ∧ LatchedOff f 4 s t) ∧
    (s.b.phasesLeft f (railNo r) < s.b.rd (F_RAIL.MIN_PHASES (railNo r)) f →
      ∃ t, exec (.latchOff f .phaseLoss r i) s = .next t ∧ LatchedOff f 6 s t)) ∧
  (∀ (f : FieldNo) (i : LastFaultIn) (s : State), s.b.pairUp f = true →
    ∃ t, exec (.vinStop f i) s = .next t ∧ InBlock s t ∧ (t.b.rail (railOf f 0)).run = 0 ∧ (t.b.rail (railOf f 1)).run = 0 ∧
      (t.b.fu f).outNext = some 7 ∧ t.b.railsOn f = false) ∧
  (∀ (f : FieldNo) (s : State), (s.b.rail (railOf f 0)).run = 3 → (s.b.rail (railOf f 1)).run = 3 →
    (s.b.rail (railOf f 0)).refv = 0 → (s.b.rail (railOf f 1)).refv = 0 →
    ∃ t, exec (.railStopDone f) s = .next t ∧ InBlock s t ∧ (t.b.rail (railOf f 0)).run = 0 ∧ (t.b.rail (railOf f 1)).run = 0 ∧
      (t.b.fu f).outNext = some (s.b.fu f).stopCause ∧ t.b.railsOn f = false) ∧
  (∀ (f : FieldNo) (s : State), (s.b.rail (railOf f 0)).run = 1 → (s.b.rail (railOf f 1)).run = 1 → s.b.atTarget f 0 = true →
    s.b.atTarget f 1 = true →
    ∃ t, exec (.softStartEnd f) s = .next t ∧ InBlock s t ∧ (t.b.rail (railOf f 0)).run = 2 ∧ (t.b.rail (railOf f 1)).run = 2 ∧
      t.b.railsOn f = true ∧ t.b.bit (F_RAIL.PGOOD 0) f = true ∧ t.b.bit (F_RAIL.PGOOD 1) f = true ∧
      (t.b.fu f).releaseDue = true ∧ (t.b.fu f).creditAcc = 0 ∧ ∀ p : SlotNo, t.b.agent (pid f p) = Agent.reset)

/-! ### Measurement and recalibration -/

/-- Channels, the measurement, the estimation mode and the T2 block of a field. CHANNEL_INVALID: a valid channel becomes invalid, counted and sent
once (R64). CHANNEL_RESTORED: a channel without a cause for 256 ticks becomes valid again, and no other does (R64). MEASUREMENT_COMPLETE: where both
rails are measured, the voltages and currents of the tick give M, E is the sum of the parcels' estimates, RHO follows from both, and they are
those of the tick before; where a rail is not measured, its valid flag falls and M does not count (R62, R63, R72, R73). EST_MODE_CHANGE: MODE takes
what the counts have decided, and a change restarts RUN_COUNT and counts the entry into DRIFT, or into MEASURED_ONLY from another mode than
SAFE (R70). T2_BLOCK_END: at a multiple of 1,024 ticks T2_BLOCK restarts, and a block of the T2_RATE condition counts down HOLD_LEFT when it is
clean and restarts it when not (R110, R111). -/
def Obligations.MeasurementEvents : Prop :=
  (∀ (f : FieldNo) (p : PhaseNo) (s : State), s.b.bit (F_PHASE.CHAN_INVALID p) f = false →
    ∃ t, exec (.channelInvalid f p) s = .next t ∧
      t = { s with b := { s.b with regs := t.b.regs, phases := t.b.phases, fields := t.b.fields, faults := t.b.faults } } ∧
      RegsBut [(F_PHASE.CHAN_INVALID p).key f, F_EST.MEAS_LOSS_COUNT.key f] s.b t.b ∧
      t.b.bit (F_PHASE.CHAN_INVALID p) f = true ∧
      t.b.rd F_EST.MEAS_LOSS_COUNT f = (s.b.rd F_EST.MEAS_LOSS_COUNT f + 1) % 2 ^ 32 ∧
      (t.b.phase (phOf f p)).goodTicks = 0 ∧ t.b.faults = s.b.faults ++ [{ src := 11, field := f, detail := p, off := 0 }]) ∧
  (∀ (f : FieldNo) (p : PhaseNo) (s : State), s.b.bit (F_PHASE.CHAN_INVALID p) f = true →
    ∃ t, exec (.channelInvalid f p) s = .next t ∧ t = { s with b := { s.b with phases := t.b.phases } } ∧
      t.b.phase (phOf f p) = { s.b.phase (phOf f p) with goodTicks := 0 } ∧ ∀ k, k ≠ phOf f p → t.b.phase k = s.b.phase k) ∧
  (∀ (f : FieldNo) (p : PhaseNo) (s : State), 256 ≤ (s.b.phase (phOf f p)).goodTicks → s.b.chanCause f p = false →
    ∃ t, exec (.channelRestored f p) s = .next t ∧ t = { s with b := { s.b with regs := t.b.regs, phases := t.b.phases } } ∧
      RegsBut [(F_PHASE.CHAN_INVALID p).key f] s.b t.b ∧ t.b.bit (F_PHASE.CHAN_INVALID p) f = false) ∧
  (∀ (f : FieldNo) (p : PhaseNo) (s : State), (s.b.phase (phOf f p)).goodTicks < 256 ∨ s.b.chanCause f p = true →
    exec (.channelRestored f p) s = .next s) ∧
  (∀ (f : FieldNo) (m : MeasIn) (ic is : Nat) (s : State), s.b.railMeasured f 0 = true → s.b.railMeasured f 1 = true →
    ic = min 65535 (railAmps 0 (s.b.validChans f 0) (s.b.phaseAmps f m)) →
    is = min 65535 (railAmps 1 (s.b.validChans f 1) (s.b.phaseAmps f m)) →
    ∃ t, exec (.measurementComplete f m) s = .next t ∧ InBlock s t ∧ t.b.agents = s.b.agents ∧ t.b.rails = s.b.rails ∧
      t.b.rd F_EST.V_VCORE f = s.b.senseVolts f 0 m ∧ t.b.rd F_EST.V_VSRAM f = s.b.senseVolts f 1 m ∧
      t.b.rd F_EST.I_VCORE f = ic ∧ t.b.rd F_EST.I_VSRAM f = is ∧
      t.b.rd F_EST.M_FIELD f = fieldPower (s.b.senseVolts f 0 m) ic (s.b.senseVolts f 1 m) is % 2 ^ F_EST.M_FIELD.width ∧
      t.b.rd F_EST.E_FIELD f = s.b.eField f % 2 ^ F_EST.E_FIELD.width ∧
      t.b.rd F_EST.RHO f = rhoOf true (s.b.eField f) (fieldPower (s.b.senseVolts f 0 m) ic (s.b.senseVolts f 1 m) is) %
        2 ^ F_EST.RHO.width ∧
      t.b.rd F_EST.EST_TICK f = (s.tick - 1) % 2 ^ F_EST.EST_TICK.width ∧ (t.b.fu f).mValid = true) ∧
  (∀ (f : FieldNo) (m : MeasIn) (s : State), s.b.railMeasured f 0 = false ∨ s.b.railMeasured f 1 = false →
    ∃ t, exec (.measurementComplete f m) s = .next t ∧ InBlock s t ∧ t.b.agents = s.b.agents ∧ t.b.rails = s.b.rails ∧
      t.b.bit F_EST.MEAS_VALID_CORE f = s.b.railMeasured f 0 ∧ t.b.bit F_EST.MEAS_VALID_SRAM f = s.b.railMeasured f 1 ∧
      t.b.rd F_EST.E_FIELD f = s.b.eField f % 2 ^ F_EST.E_FIELD.width ∧
      t.b.rd F_EST.RHO f = 16384 ∧
      t.b.rd F_EST.EST_TICK f = (s.tick - 1) % 2 ^ F_EST.EST_TICK.width ∧ (t.b.fu f).mValid = false) ∧
  (∀ (f : FieldNo) (n : Nat) (s : State), n = (s.b.estModeNext f).1 →
    ∃ t, exec (.estModeChange f) s = .next t ∧ InBlock s t ∧ t.b.slots = s.b.slots ∧ t.b.rd F_EST.MODE f = n ∧
      t.b.rd F_EST.RUN_COUNT f = (if s.b.rd F_EST.MODE f = n then s.b.rd F_EST.RUN_COUNT f else 0) ∧
      t.b.rd F_EST.DRIFT_COUNT f = (if s.b.rd F_EST.MODE f ≠ n ∧ n = modeDrift then
        (s.b.rd F_EST.DRIFT_COUNT f + 1) % 2 ^ F_EST.DRIFT_COUNT.width else s.b.rd F_EST.DRIFT_COUNT f) ∧
      t.b.rd F_EST.DISAGREE_COUNT f = (if s.b.rd F_EST.MODE f ≠ n ∧ n = modeMeasured ∧ s.b.rd F_EST.MODE f ≠ modeSafe then
        (s.b.rd F_EST.DISAGREE_COUNT f + 1) % 2 ^ F_EST.DISAGREE_COUNT.width else s.b.rd F_EST.DISAGREE_COUNT f)) ∧
  (∀ (f : FieldNo) (counts : Bool) (left : Nat) (s : State), s.tick % 1024 = 0 →
    counts = (s.b.bit F_DROOP.T2_RATE f && decide ((s.b.fu f).t2From + 1024 ≤ s.tick)) →
    left = (if s.b.rd F_DROOP.T2_BLOCK f ≤ s.b.rd F_DROOP.T2_CLEAR f then s.b.rd F_DROOP.HOLD_LEFT f - 1 else s.b.rd F_DROOP.WIDE_HOLD f) →
    ∃ t, exec (.t2BlockEnd f) s = .next t ∧ InBlock s t ∧ t.b.slots = s.b.slots ∧
      t.b.rd F_DROOP.T2_BLOCK f = 0 ∧
      (counts = true → t.b.rd F_DROOP.HOLD_LEFT f = left % 2 ^ F_DROOP.HOLD_LEFT.width ∧ t.b.bit F_DROOP.T2_RATE f = (left != 0)) ∧
      (counts = false → t.b.rd F_DROOP.HOLD_LEFT f = s.b.rd F_DROOP.HOLD_LEFT f ∧
        t.b.bit F_DROOP.T2_RATE f = s.b.bit F_DROOP.T2_RATE f)) ∧
  (∀ (f : FieldNo) (s : State), s.tick % 1024 ≠ 0 → exec (.t2BlockEnd f) s = .next s)

/-- The least-squares state after the kept sub-windows of the last window (R66). -/
def Sys2Proof.Machine.solved (b : Block) (f : Nat) : Rls :=
  let u := b.fu f
  let cov0 := u.cov.getD u.lastDom []
  (keptSubs u.lastSubs).foldl
    (fun r w => r.step w (imgSb (b.image f (if b.slotLoaded f u.lastDom then u.lastDom else 0))) ((b.rd F_EST.GAIN_TRIM f : Rat) / 16384)
      ((b.rd F_EST.LAMBDA f : Rat) / 65536) (32 * 2 ^ b.rd F_EST.P0_EXP f))
    { theta := (b.bypass f u.lastDom).map (fun v => (v : Rat))
      cov := if cov0.isEmpty then scaledIdentity (2 ^ u.p0.getD u.lastDom 8) else cov0 }

/-- Recalibration. RECAL_SOLVE of a window that RECALIBRATE has asked for and that is over, with at least four kept sub-windows and not broken: the
result kept for its boundary has the bypass of the least squares, rounded to its range, the trim and the share of the window, and is counted as a
success or a failure, or sent as a disagreement when the trim meets its bound (R66 to R69); with fewer, or over a broken window, it is skipped and
counted (R66, R275). RECAL_INSTALL: a result that is due is installed, and the fields of F_EST show it; one that finds the measurement
lost changes neither trim nor share (R68, R72; dropping it is the model's choice, log entry 136). RECALIBRATE waits for the fields it names (R69). -/
def Obligations.Recalibration : Prop :=
  (∀ (f : FieldNo) (w : Nat) (x : Rls) (wb : List Int) (g : Rat × Bool) (good : Bool) (s : State), s.b.recalFrozen f = false →
    (s.b.proc f).st = 0 → (s.b.fu f).recalAsk = some w → w < s.tick / 256 → 4 ≤ (keptSubs (s.b.fu f).lastSubs).length →
    (s.b.fu f).windowBroken = false → x = solved s.b f → wb = x.theta.map (fun v => clampI (roundQ v) (-128) 127) →
    g = fitTrim (keptSubs (s.b.fu f).lastSubs) wb
      (imgSb (s.b.image f (if s.b.slotLoaded f (s.b.fu f).lastDom then (s.b.fu f).lastDom else 0))) →
    good = (!g.2 && fitOk (keptSubs (s.b.fu f).lastSubs) wb
      (imgSb (s.b.image f (if s.b.slotLoaded f (s.b.fu f).lastDom then (s.b.fu f).lastDom else 0))) g.1 (s.b.rd F_EST.M_FLOOR f * 2000)) →
    ∃ t, exec (.recalSolve f) s = .next t ∧
      t = { s with b := { s.b with regs := t.b.regs, fields := t.b.fields, faults := t.b.faults } } ∧
      (t.b.fu f).recal = some
        { slot := (s.b.fu f).lastDom, wb := wb, gain := trimCode g.1, share := shareCode (s.b.fu f).lastShareNum (s.b.fu f).lastShareDen
          success := good, atBound := g.2, byCmd := true, skipped := false, lost := false, due := s.tick / 256 * 256 + 64 } ∧
      (t.b.fu f).recalAsk = none ∧ (t.b.fu f).cov = (s.b.fu f).cov.set (s.b.fu f).lastDom x.cov ∧
      RegsBut [F_EST.RECAL_OK.key f, F_EST.RECAL_FAIL.key f] s.b t.b ∧
      (good = true → t.b.rd F_EST.RECAL_OK f = (s.b.rd F_EST.RECAL_OK f + 1) % 2 ^ F_EST.RECAL_OK.width) ∧
      (good = false → g.2 = false → t.b.rd F_EST.RECAL_FAIL f = (s.b.rd F_EST.RECAL_FAIL f + 1) % 2 ^ F_EST.RECAL_FAIL.width) ∧
      (g.2 = true → t.b.faults = s.b.faults ++ [{ src := 9, field := f, detail := 1, off := 0 }])) ∧
  (∀ (f : FieldNo) (w : Nat) (s : State), s.b.recalFrozen f = false → (s.b.proc f).st = 0 → (s.b.fu f).recalAsk = some w →
    w < s.tick / 256 → ((keptSubs (s.b.fu f).lastSubs).length < 4 ∨ (s.b.fu f).windowBroken = true) →
    ∃ t, exec (.recalSolve f) s = .next t ∧ t = { s with b := { s.b with regs := t.b.regs, fields := t.b.fields } } ∧
      RegsBut [F_EST.RECAL_SKIP.key f] s.b t.b ∧ t.b.rd F_EST.RECAL_SKIP f = (s.b.rd F_EST.RECAL_SKIP f + 1) % 2 ^ 16 ∧
      (t.b.fu f).recalAsk = none ∧ ∀ k, k ≠ f.val → t.b.fu k = s.b.fu k) ∧
  (∀ (f : FieldNo) (r : RecalResult) (s : State), (s.b.fu f).recal = some r → r.due ≤ s.tick → r.lost = false →
    s.b.recalFrozen f = false → r.skipped = false → r.slot < 4 →
    ∃ t, exec (.recalInstall f) s = .next t ∧ InBlock s t ∧ (t.b.fu f).recal = none ∧
      (t.b.fu f).recalOk = (r.success && !(s.b.bit F_EST.FORCE_MEASURED f && s.b.rd F_EST.MODE f == modeMeasured)) ∧
      (∀ n, n < 8 → t.b.rd (F_MODEL.BYPASS r.slot n) f = packBytes r.wb n % 2 ^ 32) ∧
      t.b.rd F_EST.GAIN_TRIM f = r.gain % 2 ^ F_EST.GAIN_TRIM.width ∧ t.b.rd F_EST.SRAM_SHARE f = r.share % 2 ^ F_EST.SRAM_SHARE.width ∧
      t.b.bit F_EST.TRIM_AT_BOUND f = r.atBound ∧ t.b.rd F_EST.LAST_RECAL f = s.tick % 2 ^ F_EST.LAST_RECAL.width) ∧
  (∀ (f : FieldNo) (r : RecalResult) (s : State), (s.b.fu f).recal = some r → r.due ≤ s.tick → r.lost = false → r.byCmd = false →
    s.b.recalFrozen f = true →
    ∃ t, exec (.recalInstall f) s = .next t ∧ t = { s with b := { s.b with fields := t.b.fields } } ∧
      t.b.fu f = { s.b.fu f with recal := none } ∧ ∀ k, k ≠ f.val → t.b.fu k = s.b.fu k) ∧
  (∀ (c : Cmd) (s : State), Passes 0x62 c s → s.b.hub.staged.length < 16 →
    ∃ t, exec (.recalibrate c) s = .next t ∧ InBlock s t ∧ Waits c (.recal (c.fset 0)) t ∧
      t.b.rd (HUB_CMD.RSP_STATUS (portNo c.port)) 0 = stAccepted ∧
      ∀ f ∈ c.fset 0, (t.b.fu f).recalAsk = some (s.tick / 256))

/-- MODEL_LOAD and MODEL_SWAP. Slot 0 is BAD_ARG; an image that fails its checks leaves the standby buffers invalid with its code in LOAD_ERR, and
completes BAD_ARG; one that passes stands in the standby buffer of every field named, and the command waits for the swap at its tick (R56 to
R58); a piece in the DATA area that is not the last joins those staged, and completes DONE (R380). At the tick the swap exchanges the buffers of
the slot in every field named, marks it loaded, and completes DONE with the tick; before it, it waits (R57). -/
def Obligations.ModelLoading : Prop :=
  (∀ (c : Cmd) (s : State), Passes 0x60 c s → c.arg 0 = 0 → s.b.hub.staged.length < 16 →
    ∃ t, exec (.modelLoad c) s = .next t ∧ InBlock s t ∧ Answered 0x60 stBadArg c t ∧ t.b.models = s.b.models) ∧
  (∀ (c : Cmd) (s : State), Passes 0x60 c s → c.arg 0 ≠ 0 → c.arg 0 < 4 →
    ((c.fset 1).any (fun f => s.b.flag F_MODEL.SLOT_STATE f (4 * c.arg 0 + 2))) = false →
    s.b.stagedElsewhere (portNo c.port) 0x60 (c.arg 0) = false → s.b.bufCheck c 4 0 = none →
    (c.area = false → s.b.hub.staged.length < 15 → imageError (readBuf s c 4) = none →
      ∃ t, exec (.modelLoad c) s = .next t ∧ InBlock s t ∧
        Waits c (.modelSwap (c.arg 0) (c.fset 1) (max (c.tick48 7) (s.tick + 1))) t ∧
        t.b.rd (HUB_CMD.RSP_STATUS (portNo c.port)) 0 = stAccepted ∧
        ∀ f ∈ c.fset 1, t.b.model (s.b.modelBuf f (c.arg 0) true) = { valid := true, bytes := readBuf s c 4 } ∧
          t.b.flag F_MODEL.SLOT_STATE f (4 * c.arg 0 + 1) = true ∧ t.b.flag F_MODEL.SLOT_STATE f (4 * c.arg 0 + 2) = true) ∧
    (∀ e, c.area = false → s.b.hub.staged.length < 15 → imageError (readBuf s c 4) = some e →
      ∃ t, exec (.modelLoad c) s = .next t ∧ InBlock s t ∧ Answered 0x60 stBadArg c t ∧
        ∀ f ∈ c.fset 1, t.b.model (s.b.modelBuf f (c.arg 0) true) = { valid := false, bytes := readBuf s c 4 } ∧
          t.b.rd F_MODEL.LOAD_ERR f = e % 2 ^ F_MODEL.LOAD_ERR.width ∧ t.b.flag F_MODEL.SLOT_STATE f (4 * c.arg 0 + 1) = false) ∧
    (c.area = true → s.b.hub.staged.length < 16 → c.arg 9 = (s.b.staged (portNo c.port) 0x60 (c.arg 0)).length → c.opt 6 = false →
      ∃ t, exec (.modelLoad c) s = .next t ∧ InBlock s t ∧ Answered 0x60 stDone c t ∧ t.b.models = s.b.models ∧
        t.b.staged (portNo c.port) 0x60 (c.arg 0) = s.b.staged (portNo c.port) 0x60 (c.arg 0) ++ readBuf s c 4)) ∧
  (∀ (p : CmdPort) (fl : Flight) (slot due : Nat) (l : List Nat) (s : State), (s.b.port (portNo p)).flight = some fl →
    fl.wait = .modelSwap slot l due → fl.owed = [] → s.b.hub.staged.length < 16 → due ≤ s.tick → l.Nodup → slot < 4 →
    ∃ t, exec (.modelSwap p) s = .next t ∧ InBlock s t ∧ (t.b.port (portNo p)).flight = none ∧
      t.b.rd (HUB_CMD.RSP_STATUS (portNo p)) 0 = stDone ∧ t.b.rd (HUB_CMD.RSP_DATA (portNo p) 0) 0 = s.tick % 2 ^ 32 ∧
      ∀ f ∈ l, (t.b.fu f).bufSel = (s.b.fu f).bufSel.set slot (1 - (s.b.fu f).bufSel.getD slot 0) ∧
        t.b.flag F_MODEL.SLOT_STATE f (4 * slot) = true ∧ t.b.flag F_MODEL.SLOT_STATE f (4 * slot + 2) = false) ∧
  (∀ (p : CmdPort) (slot due : Nat) (l : List Nat) (s : State), s.b.waitOf (portNo p) = .modelSwap slot l due → s.tick < due →
    exec (.modelSwap p) s = .next s)

/-! ### Frames, reports and plans -/

/-- Frames of the parcel rings while the field's rails are on. UPWARD_FRAME with a good CRC gives each parcel of the ring the 18 words that its agent
packs, and 18 words of 0 where the parcel is not active (R12, R23, R49); with a bad CRC the records of the ring stand and one event of source 22 is
sent (R21). DOWNWARD_FRAME with a good CRC, when the plan of the next tick is ready and the tick has not overrun, gives each agent of the
ring its target and refill (R23, R89); one with a bad CRC changes nothing.
That rails off mean no frame is the model's reading (log entry 19). -/
def Obligations.RingFrames : Prop :=
  (∀ (f : FieldNo) (r : RingNo) (ws : List TravWord) (s : State), s.b.railsOn f = true →
    ∃ t, exec (.upwardFrame f r true ws) s = .next t ∧ InBlock s t ∧ t.b.agents = s.b.agents ∧
      ∀ p : SlotNo, p.val / 56 = r.val → ∀ w,
        w = (if s.b.active f p then packRecord (s.b.agent (pid f p)).actC (s.b.agent (pid f p)).actM else List.replicate 18 0) →
        (t.b.parcel (pid f p)).recC = recordC w ∧ (t.b.parcel (pid f p)).recM = recordM w) ∧
  (∀ (f : FieldNo) (r : RingNo) (ws : List TravWord) (s : State), s.b.railsOn f = true →
    ∃ t, exec (.upwardFrame f r false ws) s = .next t ∧ InBlock s t ∧ t.b.agents = s.b.agents ∧ t.b.sensors = s.b.sensors ∧
      t.b.faults = s.b.faults ++ [{ src := 22, field := f, detail := r, off := 0 }] ∧
      ∀ p : SlotNo, (t.b.parcel (pid f p)).recC = (s.b.parcel (pid f p)).recC) ∧
  (∀ (f : FieldNo) (r : RingNo) (ok : Bool) (ws : List TravWord) (s : State), s.b.railsOn f = false →
    exec (.upwardFrame f r ok ws) s = .next s) ∧
  (∀ (f : FieldNo) (r : RingNo) (s : State), s.b.railsOn f = true → (s.b.fu f).winTick = s.tick + 1 → (s.b.fu f).overran = false →
    ∃ t, exec (.downwardFrame f r true) s = .next t ∧ InBlock s t ∧ t.b.shadow = s.b.shadow ∧ t.b.parcels = s.b.parcels ∧
      ∀ p : SlotNo, p.val / 56 = r.val →
        (t.b.agent (pid f p)).qNext = (s.b.parcel (pid f p)).plan.q ∧ (t.b.agent (pid f p)).refill = (s.b.parcel (pid f p)).plan.refill) ∧
  (∀ (f : FieldNo) (r : RingNo) (s : State), exec (.downwardFrame f r false) s = .next s)

/-- Reports and budgets on the hub links. FIELD_REPORT with a good CRC replaces the field's report held at the hub and notes it as in (R20),
and one that says the field has triggered is noted with its tick and field; with a bad CRC the report held stands, the field is noted as bad, and one
event of source 22 is sent (R21). BUDGET_FRAME with a good CRC, once the hub has divided, holds the field's budget and reason for the boundary; with a
bad CRC the budget held stands and one event of source 22 is sent (R22).
The detail 0xFF of a bad link frame is the model's (log entry 68). -/
def Obligations.LinkFrames : Prop :=
  (∀ (f : FieldNo) (s : State), (s.b.fu f).report.triggered = false →
    ∃ t, exec (.fieldReport f true) s = .next t ∧ t = { s with b := { s.b with hub := t.b.hub } } ∧
      mget Report.zero t.b.hub.reports f = (s.b.fu f).report ∧ t.b.hub.arrived.contains f.val = true ∧
      ∀ k, k ≠ f.val → mget Report.zero t.b.hub.reports k = mget Report.zero s.b.hub.reports k) ∧
  (∀ (f : FieldNo) (s : State), (s.b.fu f).report.triggered = true →
    ∃ t, exec (.fieldReport f true) s = .next t ∧ t = { s with b := { s.b with regs := t.b.regs, hub := t.b.hub } } ∧
      mget Report.zero t.b.hub.reports f = (s.b.fu f).report ∧ t.b.hub.arrived.contains f.val = true ∧ t.b.hub.wtrig = true ∧
      t.b.hub.wtrigField = f ∧ t.b.rd HUB_TRACE.TRIG_FIELD 0 = f ∧ t.b.rd HUB_TRACE.TRIG_TICK 0 = s.tick % 2 ^ HUB_TRACE.TRIG_TICK.width ∧
      RegsBut [HUB_TRACE.TRIG_TICK.key 0, HUB_TRACE.TRIG_FIELD.key 0] s.b t.b) ∧
  (∀ (f : FieldNo) (s : State),
    ∃ t, exec (.fieldReport f false) s = .next t ∧ t = { s with b := { s.b with hub := t.b.hub, faults := t.b.faults } } ∧
      t.b.hub = { s.b.hub with reportBad := f.val :: s.b.hub.reportBad } ∧
      t.b.faults = s.b.faults ++ [{ src := 22, field := 255, detail := 0xFF, off := 0 }]) ∧
  (∀ (f : FieldNo) (s : State), s.b.hub.framesSent = true →
    ∃ t, exec (.budgetFrame f true) s = .next t ∧ t = { s with b := { s.b with fields := t.b.fields, faults := t.b.faults } } ∧
      (t.b.fu f).budgetNext = some (mget 0 s.b.hub.gives f, s.b.hub.reason) ∧ ∀ k, k ≠ f.val → t.b.fu k = s.b.fu k) ∧
  (∀ (f : FieldNo) (s : State),
    ∃ t, exec (.budgetFrame f false) s = .next t ∧ t = { s with b := { s.b with fields := t.b.fields, faults := t.b.faults } } ∧
      (t.b.fu f).budgetNext = (s.b.fu f).budgetNext ∧
      t.b.faults = s.b.faults ++ [{ src := 22, field := f, detail := 0xFF, off := 0 }])

/-- The window of planned wafer power as the division of tick `n` finds it: tick `n - 3`'s entry becomes the measured power (R85). -/
def Sys2Proof.Machine.Block.pwMeasured (b : Block) (n : Nat) : List Nat :=
  if 3 ≤ n then (b.pwAlign (n + 1)).set 4 b.measuredPw else b.pwAlign (n + 1)

/-- The division, the plan and their overruns. CAP_DIVISION gives every field the floors while a limit is unmet and else the division of
the least of the three allowances less the overhead (R86, R92), shows what binds, and sends the frames. HUB_TICK_OVERRUN sends none, and sets OVR_HUB
with one event of source 23 (R37). LIMIT_PLAN of a field that has not overrun plans the next tick: q = 1 and no refill for a parcel that is not active,
q = 1 for every parcel while the field is marked out or a limit is unmet, and REFILL_HELD while refills are withheld (R88, R29, R95, R101).
TICK_OVERRUN keeps every agent's q_set and refill, repeats the report of the tick before, and is counted and sent (R36); after it, a plan or a second
overrun of the tick changes nothing. BUDGET_W outside its field's range is the model's choice (log entry 138). -/
def Obligations.DivisionAndPlan : Prop :=
  (∀ (s : State) (bw : Int) (a : Int × Int × Int), a = s.b.waferAllow (s.tick + 2) (s.b.pwMeasured s.tick) →
    bw = min a.1 (min a.2.1 a.2.2) - Int.ofNat s.b.overhead →
    ∃ t, exec .capDivision s = .next t ∧ t = { s with b := { s.b with regs := t.b.regs, hub := t.b.hub } } ∧
      t.b.hub.framesSent = true ∧ t.b.hub.pwTick = s.tick + 2 ∧ t.b.hub.reports = s.b.hub.reports ∧
      t.b.hub.gives = (if s.b.unmet then s.b.floorsOnly else s.b.divide (bw / 125)).filter (fun x => x.2 != 0) ∧
      t.b.hub.reason = s.b.waferReason (bindingOf a) ∧
      t.b.rd HUB_CAP.DIV_TICK 0 = s.tick % 2 ^ 32 ∧ t.b.rd HUB_CAP.BINDING 0 = bindingOf a ∧
      t.b.rd HUB_CAP.BUDGET_W 0 = min (2 ^ 32 - 1) bw.toNat) ∧
  (∀ s : State, ∃ t, exec .hubTickOverrun s = .next t ∧
    t = { s with b := { s.b with regs := t.b.regs, hub := t.b.hub, faults := t.b.faults } } ∧
    t.b.hub = { s.b.hub with framesSent := false } ∧ t.b.rd HUB_TICK.OVR_HUB 0 = 1 ∧ t.b.rd HUB_TICK.OVR_LAST_SRC 0 = 0xFF ∧
    t.b.rd HUB_CAP.DIV_OVR 0 = (s.b.rd HUB_CAP.DIV_OVR 0 + 1) % 2 ^ 32 ∧
    t.b.faults = s.b.faults ++ [{ src := 23, field := 255, detail := 1, off := 400 }] ∧
    RegsBut [HUB_TICK.OVR_HUB.key 0, HUB_TICK.OVR_LAST_SRC.key 0, HUB_TICK.OVR_LAST_TICK.key 0, HUB_CAP.DIV_OVR.key 0] s.b t.b) ∧
  (∀ (f : FieldNo) (s : State), (s.b.fu f).overran = false →
    ∃ t, exec (.limitPlan f) s = .next t ∧ InBlock s t ∧ t.b.agents = s.b.agents ∧
      t.b.slots = s.b.slots ∧ t.b.rails = s.b.rails ∧ (t.b.fu f).winTick = s.tick + 1 ∧
      (t.b.fu f).winCore.head? = some (t.b.fu f).planCore ∧ (t.b.fu f).winSram.head? = some (t.b.fu f).planSram ∧
      t.b.rd F_LIMIT.PLAN_TICK f = (s.tick + 1) % 2 ^ F_LIMIT.PLAN_TICK.width ∧
      t.b.bit F_LIMIT.REFILL_HELD f = (s.b.isOut f || t.b.bit F_LIMIT.FLOOR_OVER f || s.b.bit HUB_CAP.QUIESCED 0) ∧
      (∀ p : SlotNo, s.b.active f p = false →
        (t.b.parcel (pid f p)).plan.q = 1 ∧ (t.b.parcel (pid f p)).plan.refill = 0) ∧
      ((s.b.isOut f || s.b.unmet) = true → ∀ p : SlotNo, (t.b.parcel (pid f p)).plan.q = 1)) ∧
  (∀ (f : FieldNo) (s : State), (s.b.fu f).overran = false →
    ∃ t, exec (.tickOverrun f) s = .next t ∧ InBlock s t ∧ t.b.slots = s.b.slots ∧
      (t.b.fu f).overran = true ∧ (t.b.fu f).winTick = s.tick + 1 ∧
      (t.b.fu f).report = { (s.b.fu f).reportPrev with repeated := true } ∧
      t.b.faults = s.b.faults ++ [{ src := 23, field := f, detail := 0, off := 1930 }] ∧
      t.b.rd HUB_TICK.OVR_LAST_SRC 0 = f ∧
      ∀ p : SlotNo, (t.b.agent (pid f p)).qNext = (s.b.agent (pid f p)).qTarget ∧
        (t.b.agent (pid f p)).refill = (s.b.agent (pid f p)).lastRefill) ∧
  (∀ (f : FieldNo) (s : State), (s.b.fu f).overran = true →
    exec (.limitPlan f) s = .next s ∧ exec (.tickOverrun f) s = .next s)

/-- Counters (R238). COUNTER_UPDATE adds the measured power of the tick to the field's energy and stamps the counters with the tick counted, which is the
one before. HUB_COUNTER_UPDATE counts this tick once all 84 reports are in, and the tick before while one is missing, from the reports
that did arrive: W_ENERGY takes the sum of their powers and the overhead; a tick that has been counted is not counted again.
Which reports the hub counts is the model's reading (log entry 56). -/
def Obligations.CounterUpdates : Prop :=
  (∀ (f : FieldNo) (s : State), (s.b.fu f).mValid = true →
    ∃ t, exec (.counterUpdate f) s = .next t ∧ InBlock s t ∧ t.b.agents = s.b.agents ∧
      t.b.slots = s.b.slots ∧ t.b.rd F_COUNTERS.CNT_TICK f = (s.tick - 1) % 2 ^ F_COUNTERS.CNT_TICK.width ∧
      t.b.rd2 F_COUNTERS.E_FIELD_LO F_COUNTERS.E_FIELD_HI f =
        (s.b.rd2 F_COUNTERS.E_FIELD_LO F_COUNTERS.E_FIELD_HI f + s.b.rd F_EST.M_FIELD f) % 2 ^ 64) ∧
  (∀ s : State, 84 ≤ s.b.hub.arrived.length → (∀ x, s.b.hub.counted = some x → x < s.tick) →
    ∃ t, exec .hubCounterUpdate s = .next t ∧ InBlock s t ∧ t.b.agents = s.b.agents ∧ t.b.slots = s.b.slots ∧
      t.b.hub.counted = some s.tick ∧
      t.b.rd HUB_COUNTERS.CNT_TICK 0 = s.tick % 2 ^ HUB_COUNTERS.CNT_TICK.width ∧
      t.b.rd2 HUB_COUNTERS.W_ENERGY_LO HUB_COUNTERS.W_ENERGY_HI 0 =
        (s.b.rd2 HUB_COUNTERS.W_ENERGY_LO HUB_COUNTERS.W_ENERGY_HI 0 +
          ((allFields.map (fun f => (s.b.repOf f).power)).sum / 16 + s.b.overhead)) % 2 ^ 64) ∧
  (∀ s : State, s.b.hub.arrived.length < 84 → 2 ≤ s.tick → (∀ x, s.b.hub.counted = some x → x < s.tick - 1) →
    ∃ t, exec .hubCounterUpdate s = .next t ∧ InBlock s t ∧ t.b.hub.counted = some (s.tick - 1) ∧
      t.b.rd HUB_COUNTERS.CNT_TICK 0 = (s.tick - 1) % 2 ^ HUB_COUNTERS.CNT_TICK.width ∧
      t.b.rd2 HUB_COUNTERS.W_ENERGY_LO HUB_COUNTERS.W_ENERGY_HI 0 =
        (s.b.rd2 HUB_COUNTERS.W_ENERGY_LO HUB_COUNTERS.W_ENERGY_HI 0 +
          (((allFields.filter (fun f => s.b.hub.arrivedLast.contains f)).map
            (fun f => (mget Report.zero s.b.hub.reportsLast f).power)).sum / 16 + s.b.overhead)) % 2 ^ 64) ∧
  (∀ s : State, s.b.hub.counted = some s.tick → exec .hubCounterUpdate s = .next s)

/-! ### Commands that write pages -/

/-- The block in which the command of opcode `op` has been taken and has written its shadow values. -/
def Sys2Proof.Machine.shadowed (op : Nat) (c : Cmd) (ws : List ShadowWrite) (s : State) : Block :=
  (s.b.begun s.tick op c).each ws (fun b w => b.wrS w.fld w.inst w.val)

/-- The command passes its checks and its pages can take its writes: every TARGET is ahead of the arrival, every page with the values written
lies in its ranges, and no page is held (R40, R379, R385). -/
def Sys2Proof.Machine.PagesTake (op at_ : Nat) (c : Cmd) (pages : List PageNo) (ws : List ShadowWrite) (s : State) : Prop :=
  Passes op c s ∧ ∀ p ∈ pages,
    (atDue (arrivalTick s.tick c.sc p.cls p.inst) (atWord s.tick pages.length at_)).isSome = true ∧
    rangeOk (shadowed op c ws s) p.cls p.inst ((shadowed op c ws s).shadowGet p.inst) = true ∧
    (s.b.page (pageKey p.cls p.inst)).heldBy = none

/-- A page command's next state: the command waits for its commits; the shadow half holds the values written; every page written is held by
the command's port; its commit has captured the shadow, where it arrives in this tick behind no other access, and is on its way where it arrives
later; no value in force of those pages has changed. -/
def Sys2Proof.Machine.HoldsPages (op at_ : Nat) (c : Cmd) (pages : List PageNo) (ws : List ShadowWrite) (s t : State) : Prop :=
  InBlock s t ∧ Waits c (.commits pages.length 0) t ∧ t.b.agents = s.b.agents ∧ t.b.slots = s.b.slots ∧
  t.b.shadow = (shadowed op c ws s).shadow ∧
  ∀ p ∈ pages, (t.b.page (pageKey p.cls p.inst)).heldBy = some (portNo c.port) ∧
    (∀ x ∈ pageRw p.cls, t.b.rd x p.inst = s.b.rd x p.inst) ∧
    (arrivalTick s.tick c.sc p.cls p.inst = s.tick → (s.b.page (pageKey p.cls p.inst)).transit = [] →
      ∃ due, atDue s.tick (atWord s.tick pages.length at_) = some due ∧
        (t.b.page (pageKey p.cls p.inst)).pending =
          some { due := due, vals := (shadowed op c ws s).capture p.cls p.inst, byCmd := some (portNo c.port) }) ∧
    (arrivalTick s.tick c.sc p.cls p.inst ≠ s.tick →
      (t.b.page (pageKey p.cls p.inst)).transit = (s.b.page (pageKey p.cls p.inst)).transit ++
        [{ tick := arrivalTick s.tick c.sc p.cls p.inst, off := arrivalOff c.sc p.cls p.inst
           act := .commit (atWord s.tick pages.length at_) (some (portNo c.port)) }])

/-- The pages of class `cls` of the fields of the command's first set. -/
def Sys2Proof.Machine.fieldPages (cls : Nat) (c : Cmd) : List PageNo := (c.fset 0).map (fun f => ⟨cls, f⟩)

/-- The nine commands that write pages and complete at their effect: where the command passes its checks and the pages can take the
command's values, the values stand in the shadow half, the commits leave, the pages are held and the command waits; nothing of those pages in
force has changed (R39, R379, R385). TRACE_STOP with OPTIONS bit 2 also triggers the running trigger-and-freeze buffers that it names. -/
def Obligations.PageCommandsHoldTheirPages : Prop :=
  (∀ (c : Cmd) (s : State), (capWrites c).isEmpty = false → PagesTake 0x10 (c.arg 2) c [⟨0x1C, 0⟩] (capWrites c) s →
    ∃ t, exec (.setWaferCap c) s = .next t ∧ HoldsPages 0x10 (c.arg 2) c [⟨0x1C, 0⟩] (capWrites c) s t) ∧
  (∀ (c : Cmd) (s : State) (ws : List ShadowWrite),
    ws = (c.fset 0).flatMap (fun f =>
      [(F_LIMIT.STL_CORE, c.arg 3 / 65536), (F_LIMIT.FCL_CORE, c.arg 3), (F_LIMIT.SUS_CORE, c.arg 4), (F_LIMIT.STL_SRAM, c.arg 5 / 65536),
       (F_LIMIT.FCL_SRAM, c.arg 5), (F_LIMIT.SUS_SRAM, c.arg 6), (F_LIMIT.FPL, c.arg 7)].map (fun x => ⟨x.1, f, x.2⟩)) →
    PagesTake 0x11 (c.arg 8) c (fieldPages 0x43 c) ws s →
    ∃ t, exec (.setFieldLimits c) s = .next t ∧ HoldsPages 0x11 (c.arg 8) c (fieldPages 0x43 c) ws s t) ∧
  (∀ (c : Cmd) (s : State) (ws : List ShadowWrite), ws = (c.fset 0).map (fun f => ⟨F_DROOP.MODE_REQ, f, c.arg 3⟩) →
    PagesTake 0x13 (c.arg 4) c (fieldPages 0x45 c) ws s →
    ∃ t, exec (.setMarginMode c) s = .next t ∧ HoldsPages 0x13 (c.arg 4) c (fieldPages 0x45 c) ws s t) ∧
  (∀ (c : Cmd) (s : State) (ws : List ShadowWrite),
    ws = (c.fset 0).flatMap (fun f => mapFlds.map (fun x => ⟨x, f, bitsOf (c.arg 3) x.lo x.width⟩)) →
    PagesTake 0x61 (c.arg 4) c (fieldPages 0x42 c) ws s →
    ∃ t, exec (.modelSelect c) s = .next t ∧ HoldsPages 0x61 (c.arg 4) c (fieldPages 0x42 c) ws s t) ∧
  (∀ (c : Cmd) (s : State) (ws : List ShadowWrite) (v cls : Nat) (codes : List Nat), v = atWord s.tick (c.fset 0).length (c.arg 10) →
    cls = 0x47 + c.arg 3 % 2 → codes = (List.range 6).map (fun k => c.arg (4 + k)) →
    (∀ f ∈ c.fset 0, s.b.datumBad f (c.arg 3 % 2) ((atDue (arrivalTick s.tick c.sc cls f) v).getD 0) codes = none) →
    ws = (c.fset 0).flatMap (fun f => (List.range 6).map (fun k => ⟨F_RAIL.DATUM (c.arg 3 % 2) (k + 2), f, codes.getD k 0⟩)) →
    PagesTake 0xA2 (c.arg 10) c (fieldPages cls c) ws s →
    ∃ t, exec (.datumWrite c) s = .next t ∧ HoldsPages 0xA2 (c.arg 10) c (fieldPages cls c) ws s t) ∧
  (∀ (c : Cmd) (s : State) (ws : List ShadowWrite), fixedSource (c.arg 0 % 32) = false → c.arg 0 / 256 % 16 ≠ 0 → c.arg 0 / 65536 ≠ 0 →
    ws = [⟨HUB_FAULT.N (c.arg 0 % 32), 0, c.arg 0 / 256 % 16⟩, ⟨HUB_FAULT.WINDOW (c.arg 0 % 32), 0, c.arg 0 / 65536⟩] →
    PagesTake 0x91 0 c [⟨0x18, 0⟩] ws s →
    ∃ t, exec (.faultPolicy c) s = .next t ∧ HoldsPages 0x91 0 c [⟨0x18, 0⟩] ws s t) ∧
  (∀ (c : Cmd) (s : State) (pages : List PageNo) (ws : List ShadowWrite), traceArgs c = none →
    pages = (if c.opt 0 then [⟨0x1F, 0⟩] else []) ++ (if c.opt 1 then fieldPages 0x4B c else []) →
    ws = (if c.opt 0 then (List.range 7).flatMap (fun k => wordWrites 0x1F 0 (0x40 + 4 * k) (c.arg (5 + k))) else []) ++
      (if c.opt 1 then c.fset 0 else []).flatMap (fun f => wordWrites 0x4B f 0x40 (c.arg 3) ++ wordWrites 0x4B f 0x44 (c.arg 4)) →
    PagesTake 0x50 (c.arg 12) c pages ws s →
    ∃ t, exec (.traceConfig c) s = .next t ∧ HoldsPages 0x50 (c.arg 12) c pages ws s t) ∧
  (∀ (c : Cmd) (s : State) (pages : List PageNo) (ws : List ShadowWrite), traceArgs c = none →
    pages = ⟨0x1F, 0⟩ :: (if c.opt 1 then fieldPages 0x4B c else []) → ws = ⟨HUB_TRACE.DRAIN_EN, 0, 1⟩ :: captureWrites c 1 →
    PagesTake 0x51 0 c pages ws s →
    ∃ t, exec (.traceStart c) s = .next t ∧ HoldsPages 0x51 0 c pages ws s t) ∧
  (∀ (c : Cmd) (s : State) (pages : List PageNo), traceArgs c = none → c.opt 2 = false →
    pages = (if c.opt 0 then [⟨0x1F, 0⟩] else []) ++ (if c.opt 1 then fieldPages 0x4B c else []) →
    PagesTake 0x52 0 c pages (captureWrites c 0) s →
    ∃ t, exec (.traceStop c) s = .next t ∧ HoldsPages 0x52 0 c pages (captureWrites c 0) s t) ∧
  (∀ (c : Cmd) (s : State) (pages : List PageNo), traceArgs c = none → c.opt 2 = true →
    pages = (if c.opt 0 then [⟨0x1F, 0⟩] else []) ++ (if c.opt 1 then fieldPages 0x4B c else []) →
    PagesTake 0x52 0 c pages (captureWrites c 0) s →
    ∃ t, exec (.traceStop c) s = .next t ∧ InBlock s t ∧ Waits c (.commits pages.length 0) t ∧
      t.b.agents = s.b.agents ∧ t.b.slots = s.b.slots ∧
      (∀ p ∈ pages, (t.b.page (pageKey p.cls p.inst)).heldBy = some (portNo c.port)) ∧
      ∀ k ∈ namedBufs c, (s.b.trace k).st ≠ 2 → (s.b.trace k).st ≠ 3 → s.b.bufOn k = true → s.b.bufPolicy k = 2 →
        (t.b.trace k).st = 2)

/-- Nothing has changed but the command's port, its answer (in the port's page, and CMP of HUB_STATE) and the journal entry that
waits for it. -/
def Sys2Proof.Machine.OnlyAnswer (c : Cmd) (s t : State) : Prop :=
  t = { s with b := { s.b with regs := t.b.regs, ports := t.b.ports, accounts := t.b.accounts, hub := t.b.hub } } ∧
  t.b.hub = { s.b.hub with staged := t.b.hub.staged, ibiPending := t.b.hub.ibiPending } ∧
  t.b.hub.staged.length = s.b.hub.staged.length + 1 ∧
  (∀ (x : Fld) (i : Nat), x.key i / 2 ^ 17 % 256 ≠ 0x13 + portNo c.port → x.key i / 2 ^ 17 % 256 ≠ 0x12 → t.b.rd x i = s.b.rd x i) ∧
  ∀ pt, pt ≠ portNo c.port → t.b.port pt = s.b.port pt

/-! ### Tickets and admission -/

/-- The ticket port. A request taken after the re-presentation window is decided at once: one that fails a check is refused with its code and counted
(R127); one for which a slot is free takes the slot, GRANTED with every named pool debited where the fast path admits it and WAITING
otherwise (R130, R131); one that finds none joins the wafer queue while that has room (R136); and its RESPONSE is queued. A request taken in
the window waits there, as do the messages behind one that waits (R132); while the port is not ready nothing is taken, and a message of type 3 is discarded and counted with
detail 0x03 (R405); the engine takes the oldest message that is ready, in the form of Table 17.5 (R406); at the end of the window no message waits any more, and one that waited alone is handled.
That START and END wait behind a request is the model's reading (log entry 49). -/
def Obligations.TicketPort : Prop :=
  (∀ (f : FieldNo) (m : TkRequest) (ec : BitVec 12) (sc : ScOff) (s : State), (s.b.fu f).inReady = true → 96 ≤ ec.toNat →
    (s.b.fu f).windowIn = [] →
    (s.b.requestCheck f m ≠ 0 →
      ∃ t, exec (.ticketRequest f (.request m) ec sc) s = .next t ∧ InBlock s t ∧ t.b.slots = s.b.slots ∧ t.b.agents = s.b.agents ∧
        (t.b.fu f).outQ = (s.b.fu f).outQ ++ [responseTo m 2 false 0 (s.b.requestCheck f m) true] ∧
        t.b.rd F_TICKET.PROTO_ERR f = (s.b.rd F_TICKET.PROTO_ERR f + 1) % 2 ^ 32) ∧
    (∀ k n, s.b.requestCheck f m = 0 → (s.b.fu f).freeSlot = some k → n = s.b.newSlot f m s.tick false → s.b.fastGrants f n = true →
      ∃ t, exec (.ticketRequest f (.request m) ec sc) s = .next t ∧ InBlock s t ∧ (t.b.slot (tid f k)).st = 2 ∧
        (t.b.slot (tid f k)).charge = n.charge ∧ (t.b.slot (tid f k)).grantTick = s.tick ∧
        (t.b.fu f).outQ = (s.b.fu f).outQ ++ [responseTo m 0 false k 0 true] ∧
        (∀ p ∈ n.parcels, (t.b.agent (pid f p)).pool = (s.b.agent (pid f p)).pool - n.charge) ∧
        ∀ j, j ≠ tid f k → t.b.slot j = s.b.slot j) ∧
    (∀ k n, s.b.requestCheck f m = 0 → (s.b.fu f).freeSlot = some k → n = s.b.newSlot f m s.tick false → s.b.fastGrants f n = false →
      ∃ t, exec (.ticketRequest f (.request m) ec sc) s = .next t ∧ InBlock s t ∧ t.b.slot (tid f k) = n ∧ t.b.agents = s.b.agents ∧
        (t.b.fu f).outQ = (s.b.fu f).outQ ++ [responseTo m 1 false k 0 true] ∧ ∀ j, j ≠ tid f k → t.b.slot j = s.b.slot j) ∧
    (∀ i, s.b.requestCheck f m = 0 → (s.b.fu f).freeSlot = none → s.b.hub.wq.length < 4096 → i = freeIndex s.b.hub.wq s.b.hub.wqNext →
      ∃ t, exec (.ticketRequest f (.request m) ec sc) s = .next t ∧ InBlock s t ∧ t.b.slots = s.b.slots ∧
        t.b.hub.wq = s.b.hub.wq ++ [{ field := f, req := m, reqTick := s.tick, index := i }] ∧
        (t.b.fu f).outQ = (s.b.fu f).outQ ++ [responseTo m 1 true i 0 false])) ∧
  (∀ (f : FieldNo) (m : TkRequest) (ec : BitVec 12) (sc : ScOff) (s : State), (s.b.fu f).inReady = true → ec.toNat < 96 →
    ∃ t, exec (.ticketRequest f (.request m) ec sc) s = .next t ∧ t = { s with b := { s.b with regs := t.b.regs, fields := t.b.fields } } ∧
      RegsBut [F_TICKET.REQUESTS.key f] s.b t.b ∧ t.b.rd F_TICKET.REQUESTS f = (s.b.rd F_TICKET.REQUESTS f + 1) % 2 ^ 32 ∧
      (t.b.fu f).windowIn = (s.b.fu f).windowIn ++ [.request m s.tick] ∧ ∀ k, k ≠ f.val → t.b.fu k = s.b.fu k) ∧
  (∀ (f : FieldNo) (k : TSlotNo) (sc : ScOff) (s : State), (s.b.fu f).inReady = true → (s.b.fu f).windowIn.isEmpty = false →
    (∃ t, exec (.ticketStart f k sc) s = .next t ∧ t = { s with b := { s.b with fields := t.b.fields } } ∧
      (t.b.fu f).windowIn = (s.b.fu f).windowIn ++ [.start k]) ∧
    (∃ t, exec (.ticketEnd f k sc) s = .next t ∧ t = { s with b := { s.b with fields := t.b.fields } } ∧
      (t.b.fu f).windowIn = (s.b.fu f).windowIn ++ [.finish k])) ∧
  (∀ (f : FieldNo) (k : TSlotNo) (x : TkMessage) (ec : BitVec 12) (sc : ScOff) (s : State), (s.b.fu f).inReady = false →
    exec (.ticketRequest f x ec sc) s = .next s ∧ exec (.ticketStart f k sc) s = .next s ∧ exec (.ticketEnd f k sc) s = .next s) ∧
  (∀ (f : FieldNo) (d : BitVec 84) (ec : BitVec 12) (sc : ScOff) (s : State), (s.b.fu f).inReady = true →
    ∃ t, exec (.ticketRequest f (.typeThree d) ec sc) s = .next t ∧
      t = { s with b := { s.b with regs := t.b.regs, fields := t.b.fields, faults := t.b.faults } } ∧
      t.b.fu f = { s.b.fu f with faultNow := (t.b.fu f).faultNow } ∧
      t.b.faults = s.b.faults ++ [{ src := 24, field := f, detail := 3, off := sc }] ∧
      t.b.rd F_TICKET.PROTO_ERR f = (s.b.rd F_TICKET.PROTO_ERR f + 1) % 2 ^ 32) ∧
  (∀ (f : FieldNo) (q : TkOut × List TkOut) (s : State), takeOut false (s.b.fu f).outQ = some q →
    ∃ t, exec (.ticketOutTaken f) s = .next t ∧ t = { s with b := { s.b with fields := t.b.fields } } ∧
      t.b.fu f = { s.b.fu f with outQ := q.2, tkOut := q.1.encode f } ∧ ∀ k, k ≠ f.val → t.b.fu k = s.b.fu k) ∧
  (∀ (f : FieldNo) (s : State), (s.b.fu f).windowIn = [] →
    ∃ t, exec (.representWindowEnd f) s = .next t ∧ t = { s with b := { s.b with fields := t.b.fields } } ∧ (t.b.fu f).windowIn = []) ∧
  (∀ (f : FieldNo) (x : TkIn) (s : State), (s.b.fu f).windowIn = [x] →
    ∃ t, exec (.representWindowEnd f) s = .next t ∧
      t = { s with b := (s.b.modFu f (fun u => { u with windowIn := [] })).handle s.tick (96000 / s.b.mhz) f x })

/-- START of a GRANTED slot makes it RUNNING in this tick with its charge; END of a RUNNING slot ends it in this tick (R138, R140). TICKET_AGED marks one
WAITING ticket that has waited AGE_LIMIT (R134); START_TIMEOUT of a ticket not started in time cancels and counts it (R142); a wafer-queue
answer makes the oldest response that waits for one ready; a move takes the oldest movable entry out of the wafer queue into the free
slot of its field, GRANTED or WAITING, and an empty wafer queue moves nothing (R136).
The ticks stamped at ends are the model's reading of several rules (log entry 48). -/
def Obligations.TicketLife : Prop :=
  (∀ (f : FieldNo) (k : TSlotNo) (sc : ScOff) (s : State), (s.b.fu f).inReady = true → (s.b.fu f).windowIn = [] →
    (s.b.slot (tid f k)).st = 2 → (s.b.slot (tid f k)).ended = false →
    ∃ t, exec (.ticketStart f k sc) s = .next t ∧ InBlock s t ∧ (t.b.slot (tid f k)).st = 3 ∧
      (t.b.slot (tid f k)).startTick = s.tick ∧ (t.b.slot (tid f k)).charge = (s.b.slot (tid f k)).charge) ∧
  (∀ (f : FieldNo) (k : TSlotNo) (sc : ScOff) (s : State), (s.b.fu f).inReady = true → (s.b.fu f).windowIn = [] →
    (s.b.slot (tid f k)).st = 3 → (s.b.slot (tid f k)).ended = false →
    ∃ t, exec (.ticketEnd f k sc) s = .next t ∧ InBlock s t ∧ (t.b.slot (tid f k)).ended = true ∧
      (t.b.slot (tid f k)).endTick = s.tick) ∧
  (∀ (f : FieldNo) (k : TSlotNo) (s : State), (s.b.slot (tid f k)).waiting = true → (s.b.slot (tid f k)).crit = false →
    s.b.rd F_TICKET.AGE_LIMIT f ≤ (s.b.slot (tid f k)).waited →
    ∃ t, exec (.ticketAged f k) s = .next t ∧ t = { s with b := { s.b with slots := t.b.slots } } ∧
      t.b.slot (tid f k) = { s.b.slot (tid f k) with ageDue := true } ∧ ∀ j, j ≠ tid f k → t.b.slot j = s.b.slot j) ∧
  (∀ (f : FieldNo) (k : TSlotNo) (s : State), (s.b.slot (tid f k)).st = 2 → (s.b.slot (tid f k)).ended = false →
    (s.b.slot (tid f k)).grantTick + 256 * s.b.rd F_TICKET.START_TIMEOUT f ≤ s.tick →
    ∃ t, exec (.startTimeout f k) s = .next t ∧ InBlock s t ∧
      t.b.slot (tid f k) = { s.b.slot (tid f k) with
        ended := true, endTick := s.tick, cancelled := true, energy := 0, retireAt := s.tick + 1 } ∧
      t.b.rd F_TICKET.CANCELLED f = (s.b.rd F_TICKET.CANCELLED f + 1) % 2 ^ 32 ∧
      t.b.rd F_TICKET.PROTO_ERR f = (s.b.rd F_TICKET.PROTO_ERR f + 1) % 2 ^ 32 ∧ ∀ j, j ≠ tid f k → t.b.slot j = s.b.slot j) ∧
  (∀ (f : FieldNo) (s : State),
    ∃ t, exec (.waferQueueAnswer f) s = .next t ∧ t = { s with b := { s.b with fields := t.b.fields } } ∧
      t.b.fu f = { s.b.fu f with outQ := answerFirst (s.b.fu f).outQ } ∧ ∀ k, k ≠ f.val → t.b.fu k = s.b.fu k) ∧
  (∀ (e : WqEntry) (k : Nat) (s : State), s.b.hub.wq.find? s.b.movable = some e → (s.b.proc 84).st = 0 →
    (s.b.fu e.field).freeSlot = some k →
    ∃ t, exec .waferQueueMove s = .next t ∧ InBlock s t ∧ t.b.hub.wq = s.b.hub.wq.erase e ∧
      ((t.b.slot (tid e.field k)).st = 1 ∨ (t.b.slot (tid e.field k)).st = 2) ∧ (t.b.slot (tid e.field k)).task = e.req.task.toNat ∧
      t.b.rd HUB_TICKET.WQ_MOVED 0 = (s.b.rd HUB_TICKET.WQ_MOVED 0 + 1) % 2 ^ 32) ∧
  (∀ s : State, s.b.hub.wq = [] → exec .waferQueueMove s = .next s)

/-- TICKET_HANG counts and reports a hang once, with its field, while H0 runs (R146). WAITFOR_BUILD starts a build and waits for it; the build that is
complete, or 8,192 ticks old, becomes valid with at most 32,736 edges (R147, R148). CAP_SHARE_EVAL, at multiples of SHARE_PERIOD only, starts
a new period of every open context; while H0 runs one with a share has its power of the period, and is held from the next boundary on when the
power is over the share and freed at 15/16 of it (R137). CONTEXT_ABORT of an ABORTING context, at the boundary after it became so, retires every
ticket of the job in the fields with ABORTED set and removes the job's entries, and no others, from the wafer queue (R143). -/
def Obligations.HangGraphAndShares : Prop :=
  (∀ (f : FieldNo) (s : State), s.b.rd HUB_WAITFOR.HANG_TICKS 0 ≤ s.b.rd F_TICKET.HANG_AGE f → (s.b.fu f).hangReported = false →
    (s.b.proc 84).st = 0 →
    ∃ t, exec (.ticketHang f) s = .next t ∧ InBlock s t ∧ t.b.slots = s.b.slots ∧ (t.b.fu f).hangReported = true ∧
      t.b.rd HUB_WAITFOR.HANG_COUNT 0 = (s.b.rd HUB_WAITFOR.HANG_COUNT 0 + 1) % 2 ^ HUB_WAITFOR.HANG_COUNT.width ∧
      t.b.rd HUB_WAITFOR.LAST_HANG_FIELD 0 = f) ∧
  (∀ (f : FieldNo) (s : State), (s.b.fu f).hangReported = true → exec (.ticketHang f) s = .next s) ∧
  (∀ (c : Cmd) (s : State), Passes 0x48 c s → s.b.bit HUB_WAITFOR.BUILDING 0 = false → s.b.hub.staged.length < 16 →
    ∃ t, exec (.waitforBuild c) s = .next t ∧ InBlock s t ∧ Waits c .graph t ∧ t.b.bit HUB_WAITFOR.BUILDING 0 = true ∧
      t.b.bit HUB_WAITFOR.VALID 0 = false ∧ t.b.hub.lastBuild = s.tick) ∧
  (∀ s : State, s.b.bit HUB_WAITFOR.BUILDING 0 = true → (s.b.proc 84).st = 0 →
    (84 ≤ s.b.hub.graph.captures.length ∨ s.b.hub.lastBuild + 8192 ≤ s.tick) →
    ∃ t, exec .waitforBuildDone s = .next t ∧ InBlock s t ∧ t.b.bit HUB_WAITFOR.BUILDING 0 = false ∧
      t.b.bit HUB_WAITFOR.VALID 0 = true ∧ t.b.hub.graph.edges.length ≤ 32736 ∧ t.b.slots = s.b.slots) ∧
  (∀ s : State, s.tick % s.b.rd HUB_TICKET.SHARE_PERIOD 0 ≠ 0 → exec .capShareEval s = .next s) ∧
  (∀ s : State, s.tick % s.b.rd HUB_TICKET.SHARE_PERIOD 0 = 0 →
    ∃ t, exec .capShareEval s = .next t ∧ t = { s with b := { s.b with ctxs := t.b.ctxs } } ∧
      (∀ n ∈ s.b.openCtxs, (t.b.ctx n).shareEnergy = (s.b.acct n).energy) ∧
      ∀ (n : CtxNo) (draw share : Nat), (s.b.proc 84).st = 0 → (s.b.ctx n).st = 1 → (s.b.ctx n).capShare ≠ 0 →
        s.b.openCtxs.count n.val = 1 →
        draw = ((s.b.acct n).energy - (s.b.ctx n).shareEnergy) * 125 * 256 →
        share = (s.b.ctx n).capShare * s.b.capMs * (4 * s.b.rd HUB_TICKET.SHARE_PERIOD 0) →
        (t.b.ctx n).jobPower = ((s.b.acct n).energy - (s.b.ctx n).shareEnergy) * 125 / (4 * s.b.rd HUB_TICKET.SHARE_PERIOD 0) ∧
        (share < draw → (t.b.ctx n).dueHeld = some true) ∧
        (draw ≤ share → 16 * draw ≤ 15 * share → (t.b.ctx n).dueHeld = some false)) ∧
  (∀ (n : CtxNo) (s : State), (s.b.ctx n).st = 2 → (s.b.ctx n).abortFrom < s.tick →
    ∃ t, exec (.contextAbort n) s = .next t ∧ InBlock s t ∧ t.b.accounts = s.b.accounts ∧
      t.b.hub.wq = s.b.hub.wq.filter (fun e => jobOf e.req.task.toNat != n.val) ∧
      (∀ m, m ≠ n.val → t.b.ctx m = s.b.ctx m) ∧
      ∀ (f : FieldNo) (k : TSlotNo), jobOf (s.b.slot (tid f k)).task = n.val → 1 ≤ (s.b.slot (tid f k)).st →
        (s.b.slot (tid f k)).st ≤ 3 → (s.b.slot (tid f k)).ended = false →
        (t.b.slot (tid f k)).st = 4 ∧ (t.b.slot (tid f k)).aborted = true ∧ (t.b.slot (tid f k)).retireAt = s.tick + 2) ∧
  (∀ (n : CtxNo) (s : State), (s.b.ctx n).st ≠ 2 → exec (.contextAbort n) s = .next s)

/-! ### Accounts -/

/-- The account commands. ACCOUNT_OPEN of a context that is free keeps the group, share and boost for the boundary and waits for it (R228);
ACCOUNT_CLOSE of an OPEN account makes it CLOSING and waits (R233); ACCOUNT_READ with no buffer answers the status word and changes no account
(R227); JOB_RESTART_NOTE of an account that is not OPEN is BAD_ARG and changes no account (R235). -/
def Obligations.AccountCommands : Prop :=
  (∀ (c : Cmd) (s : State), Passes 0x20 c s →
    (c.arg 0 / 256 % 256 = 0 ∨ c.arg 0 / 256 % 256 = s.b.rd HUB_LOCK.GROUP 0) → (s.b.acct (c.arg 0 % 256)).st ≠ 1 →
    (s.b.acct (c.arg 0 % 256)).st ≠ 2 → (s.b.ctx (c.arg 0 % 256)).st = 0 → (s.b.ctx (c.arg 0 % 256)).due = none →
    ∃ t, exec (.accountOpen c) s = .next t ∧ InBlock s t ∧ Waits c (.opening (c.arg 0 % 256)) t ∧
      (t.b.ctx (c.arg 0 % 256)).due = some 1 ∧ (t.b.ctx (c.arg 0 % 256)).opening = (c.arg 0 / 256 % 256, c.arg 0 / 2 ^ 16 % 256, c.arg 0 / 2 ^ 24 % 8) ∧
      ∀ n, n ≠ c.arg 0 % 256 → t.b.ctx n = s.b.ctx n) ∧
  (∀ (c : Cmd) (s : State), Passes 0x21 c s → (s.b.acct (c.arg 0)).st = 1 →
    ∃ t, exec (.accountClose c) s = .next t ∧ InBlock s t ∧ Waits c (.account (c.arg 0)) t ∧ (t.b.acct (c.arg 0)).st = 2 ∧
      (t.b.ctx (c.arg 0)).due.isSome = true ∧ ∀ n, n ≠ c.arg 0 → t.b.acct n = s.b.acct n) ∧
  (∀ (c : Cmd) (s : State), Passes 0x22 c s → c.bufLen 1 = 0 → s.b.hub.staged.length < 16 →
    ∃ t, exec (.accountRead c) s = .next t ∧ InBlock s t ∧ Answered 0x22 stDone c t ∧
      rspWord c t 0 = (s.b.acct (c.arg 0)).status % 2 ^ 32 ∧ t.b.accounts = s.b.accounts) ∧
  (∀ (c : Cmd) (s : State), Passes 0x28 c s → (s.b.acct (c.arg 0 % 256)).st ≠ 1 → s.b.hub.staged.length < 16 →
    ∃ t, exec (.jobRestartNote c) s = .next t ∧ InBlock s t ∧ Answered 0x28 stBadArg c t ∧ t.b.accounts = s.b.accounts)

/-- JOB_RESTART_NOTE that names an OPEN context and a context whose account is final sets PREV_CTX and RESTARTS of the account named
first, answers DONE, is journaled, and changes nothing else but that account's UPDATE_SEQ (R235). -/
def Obligations.RestartNote : Prop :=
  ∀ (c : Cmd) (s : State), Passes 0x28 c s → (s.b.acct (c.arg 0 % 256)).st = 1 → (s.b.acct (c.arg 0 / 256)).final = true →
    s.b.hub.staged.length < 16 →
    ∃ t, exec (.jobRestartNote c) s = .next t ∧ OnlyAnswer c s t ∧ Answered 0x28 stDone c t ∧
      (t.b.acct (c.arg 0 % 256)).prevCtx = c.arg 0 / 256 ∧
      ((s.b.acct (c.arg 0 / 256)).restarts < 65535 →
        (t.b.acct (c.arg 0 % 256)).restarts = (s.b.acct (c.arg 0 / 256)).restarts + 1) ∧
      t.b.acct (c.arg 0 % 256) = { s.b.acct (c.arg 0 % 256) with
        prevCtx := c.arg 0 / 256, restarts := (t.b.acct (c.arg 0 % 256)).restarts
        updateSeq := ((s.b.acct (c.arg 0 % 256)).updateSeq + 1) % 2 ^ 32 } ∧
      ∀ n, n ≠ c.arg 0 % 256 → t.b.acct n = s.b.acct n

/-- Draining. DRAIN_PASS at a multiple of 64 is stamped and empties the field's collection records, and elsewhere does nothing (R231). DRAIN_FRAME
adds the oldest frame in flight to an OPEN account once, and one applied before changes no account; DRAIN_RESEND sends the frames that
are 34 ticks late again (R231, R232). ACCOUNT_FINAL makes a CLOSING account of a closed context whose passes are done CLOSED, or
ABORTED where it has an abort cause (R233). -/
def Obligations.Draining : Prop :=
  (∀ (f : FieldNo) (s : State), s.tick % 64 = 0 →
    ∃ t, exec (.drainPass f) s = .next t ∧ t = { s with b := { s.b with colls := t.b.colls, fields := t.b.fields } } ∧
      (t.b.fu f).drainStart = s.tick ∧ (∀ k, k ≠ f.val → t.b.fu k = s.b.fu k) ∧ ∀ n : CtxNo, t.b.coll (collNo f n) = Coll.reset) ∧
  (∀ (f : FieldNo) (s : State), s.tick % 64 ≠ 0 → exec (.drainPass f) s = .next s) ∧
  (∀ (f : FieldNo) (d : DrainFrame) (s : State), (s.b.fu f).drainKept.find? (fun d => d.inFlight) = some d →
    (s.b.fu f).drainApplied < d.seqNo → (s.b.acct d.ctx).st = 1 →
    ∃ t, exec (.drainFrame f) s = .next t ∧ InBlock s t ∧ (t.b.fu f).drainApplied = d.seqNo ∧
      t.b.acct d.ctx = { (s.b.acct d.ctx).addCells s.tick d.cells with
        updateSeq := ((s.b.acct d.ctx).updateSeq + 1) % 2 ^ 32 } ∧
      ∀ n, n ≠ d.ctx → t.b.acct n = s.b.acct n) ∧
  (∀ (f : FieldNo) (d : DrainFrame) (s : State), (s.b.fu f).drainKept.find? (fun d => d.inFlight) = some d →
    d.seqNo ≤ (s.b.fu f).drainApplied →
    ∃ t, exec (.drainFrame f) s = .next t ∧ t = { s with b := { s.b with fields := t.b.fields } }) ∧
  (∀ (f : FieldNo) (s : State), ((s.b.fu f).drainKept.filter (fun d => decide (d.sentAt + 34 ≤ s.tick))).isEmpty = false →
    ∃ t, exec (.drainResend f) s = .next t ∧ t = { s with b := { s.b with regs := t.b.regs, fields := t.b.fields } } ∧
      RegsBut [HUB_ACCOUNT.DRAIN_RESEND.key 0] s.b t.b ∧
      (t.b.fu f).drainKept = (s.b.fu f).drainKept.map (fun d => if d.sentAt + 34 ≤ s.tick then { d with inFlight := true } else d)) ∧
  (∀ (n : CtxNo) (s : State), (s.b.acct n).st = 2 → (s.b.ctx n).st = 0 → (s.b.ctx n).due = none → s.b.passesDone n = true →
    ∃ t, exec (.accountFinal n) s = .next t ∧ InBlock s t ∧ t.b.ctxs = s.b.ctxs ∧
      (t.b.acct n).st = (if (s.b.acct n).abortCause = 0 then 3 else 4) ∧ (t.b.acct n).closeTick = s.tick ∧
      (t.b.acct n).energyMj = (s.b.acct n).energyMj ∧ ∀ k, k ≠ n.val → t.b.acct k = s.b.acct k)

/-! ### Temperatures and cooling -/

/-- Sensors. SENSOR_BROKEN of a decided declaration, one boundary event of the sensor in a tick, makes the sensor broken and is sent as one event of
source 8 with the sensor's detail; a broken spare is marked in the cadastre (R155); the numbers of no sensor do nothing. AUTO_REMAP, within 64 ticks of the
declaration or of the processor's return, commits a remap of an active broken parcel to its free spare (R157, R275). SPARE_VALIDATED after
VALIDATE_READS passes puts the reading in use, and a parcel that reads its spare is broken no longer (R156). SENSOR_REMAP of an action that the rules allow
waits for its boundary (R158). -/
def Obligations.SensorEvents : Prop :=
  (∀ (f : FieldNo) (p : SlotNo) (s : State), (s.b.sensor (senParcel f p)).decided = true → (s.b.sensor (senParcel f p)).broken = false →
    (s.b.sensor (senParcel f p)).eventAt ≠ s.tick →
    ∃ t, exec (.sensorBroken f .parcel p) s = .next t ∧
      t = { s with b := { s.b with
        regs := t.b.regs, sensors := t.b.sensors, parcels := t.b.parcels, fields := t.b.fields, faults := t.b.faults } } ∧
      (t.b.sensor (senParcel f p)).broken = true ∧ (t.b.sensor (senParcel f p)).decided = false ∧
      (t.b.sensor (senParcel f p)).declaredAt = s.tick ∧
      t.b.rd F_THERM.BROKEN_EVENTS f = (s.b.rd F_THERM.BROKEN_EVENTS f + 1) % 2 ^ 32 ∧ RegsBut [F_THERM.BROKEN_EVENTS.key f] s.b t.b ∧
      (∀ k, k ≠ senParcel f p → t.b.sensor k = s.b.sensor k) ∧
      t.b.faults = s.b.faults ++ [{ src := 8, field := f, detail := p, off := 0 }]) ∧
  (∀ (f : FieldNo) (i : SlotNo) (s : State), i.val < 8 → (s.b.sensor (senBench f i)).decided = true → (s.b.sensor (senBench f i)).broken = false →
    (s.b.sensor (senBench f i)).eventAt ≠ s.tick →
    ∃ t, exec (.sensorBroken f .bench i) s = .next t ∧ InBlock s t ∧ (t.b.sensor (senBench f i)).broken = true ∧
      t.b.faults = s.b.faults ++ [{ src := 8, field := f, detail := 0x8000 + i, off := 0 }] ∧
      ∀ k, k ≠ senBench f i → t.b.sensor k = s.b.sensor k) ∧
  (∀ (f : FieldNo) (i : SlotNo) (s : State), i.val < 168 → (s.b.sensor (senSpare f i)).decided = true → (s.b.sensor (senSpare f i)).broken = false →
    (s.b.sensor (senSpare f i)).eventAt ≠ s.tick →
    ∃ t, exec (.sensorBroken f .spare i) s = .next t ∧ InBlock s t ∧ (t.b.sensor (senSpare f i)).broken = true ∧
      t.b.faults = s.b.faults ++ [{ src := 8, field := f, detail := 0x4000 + i, off := 0 }] ∧
      (t.b.cadE (pid f (4 * i))).spareBroken = true) ∧
  (∀ (f : FieldNo) (i : SlotNo) (s : State), (168 ≤ i.val → exec (.sensorBroken f .spare i) s = .next s) ∧
    (8 ≤ i.val → exec (.sensorBroken f .bench i) s = .next s)) ∧
  (∀ (f : FieldNo) (p : SlotNo) (s : State), s.b.bit F_THERM.AUTO_REMAP f = true → (s.b.proc f).st = 0 → s.b.active f p = true →
    (s.tick ≤ (s.b.sensor (senParcel f p)).declaredAt + 64 ∨ ∃ n, (s.b.proc f).runTick = some n ∧ s.tick ≤ n + 65) →
    (s.b.sensor (senParcel f p)).broken = true → (s.b.cadE (pid f p)).useSpare = false → (s.b.sensor (senParcel f p)).action = 0 →
    s.b.spareFree f p = true → s.b.spareBad f (p / 4) = false →
    ∃ t, exec (.autoRemap f p) s = .next t ∧ t = { s with b := { s.b with sensors := t.b.sensors } } ∧
      t.b.sensor (senParcel f p) = { s.b.sensor (senParcel f p) with action := 1 } ∧
      ∀ k, k ≠ senParcel f p → t.b.sensor k = s.b.sensor k) ∧
  (∀ (f : FieldNo) (p : SlotNo) (s : State), (s.b.sensor (senParcel f p)).broken = false → exec (.autoRemap f p) s = .next s) ∧
  (∀ (f : FieldNo) (p : SlotNo) (s : State), (s.b.sensor (senParcel f p)).validating = true →
    s.b.rd F_THERM.VALIDATE_READS f ≤ (s.b.sensor (senParcel f p)).passCount → (s.b.sensor (senParcel f p)).eventAt ≠ s.tick →
    ∃ t, exec (.spareValidated f p) s = .next t ∧ InBlock s t ∧ t.b.agents = s.b.agents ∧ t.b.cad = s.b.cad ∧
      (t.b.sensor (senParcel f p)).broken = ((s.b.sensor (senParcel f p)).broken && !(s.b.cadE (pid f p)).useSpare) ∧
      (t.b.sensor (senParcel f p)).validating = false ∧ (t.b.sensor (senParcel f p)).valid = true ∧
      (t.b.sensor (senParcel f p)).temp = (s.b.sensor (senParcel f p)).newTemp ∧
      ∀ k, k ≠ senParcel f p → t.b.sensor k = s.b.sensor k) ∧
  (∀ (c : Cmd) (s : State), Passes 0x68 c s →
    s.b.remapStop (c.arg 0 % 128) (c.arg 0 / 65536 % 1024) (c.arg 0 / 2 ^ 28) = none →
    ∃ t, exec (.sensorRemap c) s = .next t ∧ InBlock s t ∧
      Waits c (.remap (c.arg 0 % 128) (c.arg 0 / 65536 % 1024) (c.arg 0 / 2 ^ 28 + 1)) t ∧
      (t.b.sensor (senParcel (c.arg 0 % 128) (c.arg 0 / 65536 % 1024))).action = c.arg 0 / 2 ^ 28 + 1)

/-- Field temperatures. THERMAL_WARNING enters the warning, counted, and leaves it (R160). THERMAL_THROTTLE_STEP, at multiples of 64 while the field
processor runs, raises a parcel's reduction by 2 up to 50 where its reading lay above THROT_C, and the field's likewise; THERMAL_RESTORE_STEP, at
multiples of 256 while it runs, lowers a parcel's by 1 where it was cool and reads no substitute, and the field's where every benchmark was cool
(R161, R164). BAND_CHANGE puts the code decided on BAND and on the pins (R165). -/
def Obligations.ThermalSteps : Prop :=
  (∀ (f : FieldNo) (s : State), s.b.bit F_THERM.WARN f = false → (s.b.fu f).sawWarn = true →
    ∃ t, exec (.thermalWarning f) s = .next t ∧ InBlock s t ∧ t.b.bit F_THERM.WARN f = true ∧
      t.b.rd F_THERM.WARN_ENTRIES f = (s.b.rd F_THERM.WARN_ENTRIES f + 1) % 2 ^ F_THERM.WARN_ENTRIES.width ∧ t.b.parcels = s.b.parcels) ∧
  (∀ (f : FieldNo) (s : State), s.b.bit F_THERM.WARN f = true → (s.b.fu f).sawAboveClear = false →
    ∃ t, exec (.thermalWarning f) s = .next t ∧ InBlock s t ∧ t.b.bit F_THERM.WARN f = false ∧ t.b.parcels = s.b.parcels) ∧
  (∀ (f : FieldNo) (s : State), s.tick % 64 = 0 → (s.b.proc f).st = 0 → s.b.rd F_THERM.FIELD_RED f < 50 →
    8 * (s.b.rd F_THERM.THROT_C f : Int) < (s.b.fu f).snapField →
    ∃ t, exec (.thermalThrottleStep f) s = .next t ∧ InBlock s t ∧
      t.b.rd F_THERM.FIELD_RED f = min 50 (s.b.rd F_THERM.FIELD_RED f + 2) ∧ t.b.sensors = s.b.sensors) ∧
  (∀ (f : FieldNo) (s : State), s.tick % 64 = 0 → (s.b.proc f).st = 0 →
    ∃ t, exec (.thermalThrottleStep f) s = .next t ∧ InBlock s t ∧ t.b.sensors = s.b.sensors ∧
      ∀ p : SlotNo, s.b.active f p = true → (s.b.parcel (pid f p)).red < 50 →
        (t.b.parcel (pid f p)).red =
          if 8 * (s.b.rd F_THERM.THROT_C f : Int) < mget 0 (s.b.fu f).snapTemps p then min 50 ((s.b.parcel (pid f p)).red + 2)
          else (s.b.parcel (pid f p)).red) ∧
  (∀ (f : FieldNo) (s : State), s.tick % 64 ≠ 0 → exec (.thermalThrottleStep f) s = .next s) ∧
  (∀ (f : FieldNo) (s : State), s.tick % 256 = 0 → (s.b.proc f).st = 0 → (s.b.fu f).benchCoolDone = true →
    ∃ t, exec (.thermalRestoreStep f) s = .next t ∧ InBlock s t ∧
      t.b.rd F_THERM.FIELD_RED f = s.b.rd F_THERM.FIELD_RED f - 1 ∧ t.b.sensors = s.b.sensors ∧
      ∀ p : SlotNo, s.b.active f p = true → (s.b.parcel (pid f p)).cool = true → s.b.substituted f p = false →
        (t.b.parcel (pid f p)).red = (s.b.parcel (pid f p)).red - 1) ∧
  (∀ (f : FieldNo) (s : State), s.tick % 256 ≠ 0 → exec (.thermalRestoreStep f) s = .next s) ∧
  (∀ (f : FieldNo) (s : State), (s.b.fu f).bandNext ≠ s.b.rd F_THERM.BAND f → (s.b.fu f).bandNext < 8 →
    ∃ t, exec (.bandChange f) s = .next t ∧ InBlock s t ∧ t.b.rd F_THERM.BAND f = (s.b.fu f).bandNext ∧
      mget 0 t.b.pins.band f = (s.b.fu f).bandNext ∧ (t.b.fu f).bandTick = some s.tick ∧ t.b.parcels = s.b.parcels) ∧
  (∀ (f : FieldNo) (s : State), (s.b.fu f).bandNext = s.b.rd F_THERM.BAND f → exec (.bandChange f) s = .next s)

/-- Coolant. FLOW_TACH_EDGE timestamps the edge (R166); FLOW_LOSS, one tick after a flow was found lost, cuts PCAP_MS and counts it, and FLOW_RESTORE, one
tick after the flow was found good, lifts the cut (R167); RUNDOWN_END takes COOL_RUNDOWN_N back once the time has passed, every rail is off and every
benchmark is cool (R168); COOL_DEMAND_UPDATE at multiples of 512 shows the mean of p_w in 10 W (R169). -/
def Obligations.CoolantEvents : Prop :=
  (∀ (sc : ScOff) (s : State),
    ∃ t, exec (.flowTachEdge sc) s = .next t ∧ t = { s with b := { s.b with regs := t.b.regs, hub := t.b.hub } } ∧
      t.b.hub.tachLast = s.tick * 2048 + sc ∧ RegsBut [HUB_COOL.TACH_HZ.key 0] s.b t.b) ∧
  (∀ (x : Nat × Nat) (s : State), s.b.hub.flowLost = some x → x.1 < s.tick →
    ∃ t, exec .flowLoss s = .next t ∧ InBlock s t ∧ t.b.hub.flowLost = none ∧ t.b.rd HUB_COOL.FLOW_CUT 0 = 1 ∧
      t.b.rd HUB_CAP.FLOW_CUT 0 = 1 ∧
      t.b.rd HUB_COOL.FLOW_LOSSES 0 = (s.b.rd HUB_COOL.FLOW_LOSSES 0 + 1) % 2 ^ HUB_COOL.FLOW_LOSSES.width ∧ t.b.agents = s.b.agents) ∧
  (∀ s : State, s.b.hub.flowLost = none → exec .flowLoss s = .next s) ∧
  (∀ (n : Nat) (s : State), s.b.hub.restoreAt = some n → n < s.tick →
    ∃ t, exec .flowRestore s = .next t ∧ InBlock s t ∧ t.b.hub.restoreAt = none ∧ t.b.rd HUB_COOL.FLOW_CUT 0 = 0 ∧
      t.b.rd HUB_CAP.FLOW_CUT 0 = 0 ∧ t.b.agents = s.b.agents) ∧
  (∀ (n : Nat) (s : State), s.b.hub.rundownFrom = some n → s.b.rundownSc ≤ (s.tick - n) * 2048 →
    (s.b.rails.all (fun e => e.2.run == 0)) = true → (allFields.all s.b.benchesCool) = true →
    ∃ t, exec .rundownEnd s = .next t ∧ InBlock s t ∧ t.b.agents = s.b.agents ∧ t.b.rails = s.b.rails ∧
      t.b.pins = { s.b.pins with coolRundownN := false } ∧ t.b.rd HUB_COOL.RUNDOWN 0 = 0 ∧ t.b.hub.rundownFrom = none) ∧
  (∀ (n : Nat) (s : State), s.b.hub.rundownFrom = some n → (s.tick - n) * 2048 < s.b.rundownSc → exec .rundownEnd s = .next s) ∧
  (∀ s : State, s.tick % 512 = 0 →
    ∃ t, exec .coolDemandUpdate s = .next t ∧ t = { s with b := { s.b with regs := t.b.regs, hub := t.b.hub } } ∧
      t.b.rd HUB_COOL.COOL_DEMAND 0 = min 65535 (s.b.rd HUB_CAP.AVG_MS 0 / 10000)) ∧
  (∀ s : State, s.tick % 512 ≠ 0 → exec .coolDemandUpdate s = .next s)

/-- Thermal shutdown. THERMAL_SHUTDOWN of a reading above SHUT_C asserts THERM_TRIP_N, forces q = 1 and requests an immediate halt with source 4 (R170); a
later one only marks its field. SHUTDOWN_RAMPDOWN, one tick later, soft-stops every rail that starts or regulates, aborts every OPEN account
(R234), and waits for the acknowledgement (R170, R171). SHUTDOWN_ACK stands (R172). SHUTDOWN_EXIT leaves the SHUTDOWN entered after SELFTEST for
RAMP when acknowledged and cool (R172, R372).
The phase number during the hold is the model's reading (log entry 106). -/
def Obligations.ThermalShutdown : Prop :=
  (∀ (f : FieldNo) (k : SensorKind) (i : SlotNo) (sc : ScOff) (x : Int) (s : State), s.b.tripReading f k i = some x → s.b.hub.tripped = false →
    ∃ t, exec (.thermalShutdown f k i sc) s = .next t ∧ InBlock s t ∧ t.b.hub.tripped = true ∧ t.b.hub.forcedQ = true ∧
      t.b.hub.haltWanted = some 4 ∧ t.b.pins.thermTripN = true ∧ t.b.bit F_THERM.TRIP f = true ∧ t.b.hub.tripRec.isSome = true) ∧
  (∀ (f : FieldNo) (k : SensorKind) (i : SlotNo) (sc : ScOff) (x : Int) (s : State), s.b.tripReading f k i = some x → s.b.hub.tripped = true →
    ∃ t, exec (.thermalShutdown f k i sc) s = .next t ∧ t = { s with b := { s.b with regs := t.b.regs, fields := t.b.fields } } ∧
      t.b.bit F_THERM.TRIP f = true) ∧
  (∀ (f : FieldNo) (k : SensorKind) (i : SlotNo) (sc : ScOff) (s : State), s.b.tripReading f k i = none →
    exec (.thermalShutdown f k i sc) s = .next s) ∧
  (∀ (r : MonRec) (s : State), s.b.hub.tripRec = some r → r.tick < s.tick →
    ∃ t, exec .shutdownRampdown s = .next t ∧ InBlock s t ∧ t.b.hub.tripRec = none ∧ t.b.bit HUB_THERM.ACK_PENDING 0 = true ∧
      t.b.mon.acked = false ∧
      (∀ n, (s.b.acct n).st = 1 → (t.b.acct n).st = 2 ∧ (t.b.acct n).abortCause = 3 ∧ (t.b.ctx n).st = 2) ∧
      ∀ (f : FieldNo) (rl : Rail), (s.b.rail (railOf f (railNo rl))).run = 1 ∨ (s.b.rail (railOf f (railNo rl))).run = 2 →
        (t.b.rail (railOf f (railNo rl))).run = 3) ∧
  (∀ (c : Cmd) (s : State), Passes 0x8A c s → s.b.hub.staged.length < 16 →
    ∃ t, exec (.shutdownAck c) s = .next t ∧ InBlock s t ∧ Answered 0x8A stDone c t ∧ t.b.bit HUB_THERM.ACK_PENDING 0 = false ∧
      t.b.mon.acked = true) ∧
  (∀ s : State, s.b.hub.shutHold = true → s.b.hub.tripped = false → s.b.exitReady = true →
    ∃ t, exec .shutdownExit s = .next t ∧ InBlock s t ∧ t.b.hub.shutHold = false ∧ t.b.rd HUB_STATE.START_PHASE 0 = 6 ∧
      t.b.rails = s.b.rails) ∧
  (∀ s : State, s.b.hub.tripped = true → exec .shutdownExit s = .next s)

/-! ### The contour, lock groups and tie lines -/

/-- Steps. PLL_LOCK is noted on the next step (R205). CONTOUR_STEP_APPLY of a step that is due and ready makes its point the one in force, counted, and
the next waiting step pending; one that is due and not ready is late, and one that is not due waits (R206). PLUMB_ENTRY at its boundary sets
PLUMB_ON with a rate between 1 and 64 (R222, R223). POLICY_EVAL, at most once per 4,096 ticks, is noted; outside a member, a freeze and
plumb mode it announces the lowest of its own target and the requests, where that is below the last point and a step has room (R25, R97, R212).
Where the rules divide by zero the plumb rate is free in its range (log entry 65). -/
def Obligations.ContourEvents : Prop :=
  (∀ (x : Step) (r : List Step) (s : State), s.b.hub.steps = x :: r →
    exec .pllLock s = .next { s with b := { s.b with hub := { s.b.hub with steps := { x with pllLocked := true } :: r } } }) ∧
  (∀ s : State, s.b.hub.steps = [] → exec .pllLock s = .next s ∧ exec .contourStepApply s = .next s) ∧
  (∀ (x : Step) (r : List Step) (s : State), s.b.hub.steps = x :: r → x.due ≤ s.tick → s.b.stepReady x = true → x.point ≤ 26 →
    ∃ t, exec .contourStepApply s = .next t ∧ InBlock s t ∧ t.b.point = x.point ∧ t.b.hub.steps = r ++ s.b.hub.waitSteps.take 1 ∧
      t.b.rd HUB_LOCK.STEPS 0 = (s.b.rd HUB_LOCK.STEPS 0 + 1) % 2 ^ HUB_LOCK.STEPS.width ∧
      t.b.hub.stepTick = some s.tick ∧ t.b.agents = s.b.agents) ∧
  (∀ (x : Step) (r : List Step) (s : State), s.b.hub.steps = x :: r → x.due ≤ s.tick → s.b.stepReady x = false →
    exec .contourStepApply s = .next { s with b := { s.b with hub := { s.b.hub with steps := { x with late := true } :: r } } }) ∧
  (∀ (x : Step) (r : List Step) (s : State), s.b.hub.steps = x :: r → s.tick < x.due → exec .contourStepApply s = .next s) ∧
  (∀ (n : Nat) (s : State), s.b.hub.plumbDue = some n → n ≤ s.tick →
    ∃ t, exec .plumbEntry s = .next t ∧ InBlock s t ∧ t.b.bit HUB_CONTOUR.PLUMB_ON 0 = true ∧ t.b.hub.plumbDue = none ∧
      1 ≤ t.b.rd HUB_CONTOUR.PLUMB_Q 0 ∧ t.b.rd HUB_CONTOUR.PLUMB_Q 0 ≤ 64 ∧ t.b.agents = s.b.agents) ∧
  (∀ s : State, s.b.hub.plumbDue = none → exec .plumbEntry s = .next s) ∧
  (∀ s : State, (∀ n, s.b.hub.policyTick = some n → n + 4096 ≤ s.tick) → (s.b.proc 84).st = 0 →
    ∃ t, exec .policyEval s = .next t ∧ InBlock s t ∧ t.b.hub.policyTick = some s.tick ∧ t.b.agents = s.b.agents ∧ t.b.point = s.b.point) ∧
  (∀ (p due : Nat) (s : State), (∀ n, s.b.hub.policyTick = some n → n + 4096 ≤ s.tick) → (s.b.proc 84).st = 0 →
    s.b.rd HUB_LOCK.ROLE 0 ≠ 2 → s.b.bit HUB_LOCK.FROZEN 0 = false → s.b.bit HUB_CONTOUR.PLUMB_ON 0 = false →
    p = (s.b.policyTarget.toList ++ s.b.hub.requests).foldl min s.b.lastPoint → p < s.b.lastPoint →
    due = s.tick + s.b.stepLead → s.b.stepRoom due = true →
    ∃ t, exec .policyEval s = .next t ∧ InBlock s t ∧ t.b.hub.requests = [] ∧
      t.b.hub.steps = s.b.hub.steps ++ [newStep p s.b.hub.stepIdNext due (scOf due 0) none 0 false]) ∧
  (∀ (n : Nat) (s : State), s.b.hub.policyTick = some n → s.tick < n + 4096 → exec .policyEval s = .next s)

/-- Contour, plumb and group commands. SET_CONTOUR_POINT and FREQ_STEP: a point outside the table is BAD_ARG; a step that is allowed becomes pending for
its tick and the command waits for it (R208, R214). SET_PLUMB commits its three registers and waits: ON at the point in force with no step pending
begins at the next boundary, ON at another point announces the step there, and OFF outside a group ends plumb mode at the next boundary (R222). LOCK_JOIN
of an owner makes its group at once, and one of a member sends JOIN on the port and waits (R209, R210); LOCK_LEAVE of an owner, or of a member
with no down ports, leaves it outside every group (R211). That PLUMB_EN and its fields take effect by a commit is the model's reading (log entry 64). -/
def Obligations.ContourAndLockCommands : Prop :=
  (∀ (c : Cmd) (s : State), s.b.hub.staged.length < 16 → validPoint (c.arg 0) = false →
    (Passes 0x12 c s → ∃ t, exec (.setContourPoint c) s = .next t ∧ InBlock s t ∧ Answered 0x12 stBadArg c t ∧ t.b.hub.steps = s.b.hub.steps) ∧
    (Passes 0x32 c s → ∃ t, exec (.freqStep c) s = .next t ∧ InBlock s t ∧ Answered 0x32 stBadArg c t ∧ t.b.hub.steps = s.b.hub.steps)) ∧
  (∀ (c : Cmd) (s : State), Passes 0x12 c s → validPoint (c.arg 0) = true → s.b.stepBarred = false →
    s.b.stepRoom (s.tick + s.b.stepLead) = true →
    ∃ t, exec (.setContourPoint c) s = .next t ∧ InBlock s t ∧ Waits c (.step true s.b.hub.stepIdNext) t ∧
      t.b.hub.steps = s.b.hub.steps ++
        [newStep (c.arg 0) s.b.hub.stepIdNext (s.tick + s.b.stepLead) (scOf (s.tick + s.b.stepLead) 0) none 0 false] ∧
      t.b.point = s.b.point) ∧
  (∀ (c : Cmd) (due : Nat) (s : State), Passes 0x32 c s → validPoint (c.arg 0) = true → s.b.stepBarred = false →
    due = (if c.tick48 1 = 0 then s.tick + s.b.stepLead else c.tick48 1) → s.tick + s.b.stepLead ≤ due → s.b.stepRoom due = true →
    ∃ t, exec (.freqStep c) s = .next t ∧ InBlock s t ∧ Waits c (.step false s.b.hub.stepIdNext) t ∧
      t.b.hub.steps = s.b.hub.steps ++ [newStep (c.arg 0) s.b.hub.stepIdNext due (scOf due 0) none 0 false] ∧
      t.b.point = s.b.point) ∧
  (∀ (c : Cmd) (s : State) (point power due : Nat) (ws : List ShadowWrite), point = c.arg 0 / 256 % 32 → power = c.arg 0 / 65536 →
    ws = [⟨HUB_CONTOUR.PLUMB_EN, 0, c.arg 0 % 2⟩, ⟨HUB_CONTOUR.PLUMB_POINT, 0, point⟩, ⟨HUB_CONTOUR.PLUMB_POWER, 0, power⟩] →
    PagesTake 0x14 0 c [⟨0x28, 0⟩] ws s → (s.b.page (pageKey 0x28 0)).transit = [] → atDue s.tick 0 = some due →
    validPoint point = true → 10000 * power ≤ min s.b.capMs (10000 * s.b.rd HUB_CAP.PCAP_S 0) → 100 ≤ power →
    s.b.rd HUB_LOCK.ROLE 0 ≠ 2 → s.b.bit HUB_LOCK.FROZEN 0 = false →
    (s.b.bit HUB_CONTOUR.PLUMB_ON 0 = false ∨ c.arg 0 % 2 = 0) → s.b.stepRoom (s.tick + s.b.stepLead) = true →
    ∃ t, exec (.setPlumb c) s = .next t ∧ InBlock s t ∧ Waits c .plumb t ∧ t.b.agents = s.b.agents ∧
      (t.b.page (pageKey 0x28 0)).heldBy = some (portNo c.port) ∧
      (t.b.page (pageKey 0x28 0)).pending =
        some { due := due, vals := (shadowed 0x14 c ws s).capture 0x28 0, byCmd := some (portNo c.port) }) ∧
  (∀ (c : Cmd) (s : State) (point power : Nat) (ws : List ShadowWrite), point = c.arg 0 / 256 % 32 → power = c.arg 0 / 65536 →
    ws = [⟨HUB_CONTOUR.PLUMB_EN, 0, c.arg 0 % 2⟩, ⟨HUB_CONTOUR.PLUMB_POINT, 0, point⟩, ⟨HUB_CONTOUR.PLUMB_POWER, 0, power⟩] →
    PagesTake 0x14 0 c [⟨0x28, 0⟩] ws s →
    validPoint point = true → 10000 * power ≤ min s.b.capMs (10000 * s.b.rd HUB_CAP.PCAP_S 0) → 100 ≤ power →
    s.b.rd HUB_LOCK.ROLE 0 = 0 → s.b.bit HUB_LOCK.FROZEN 0 = false → s.b.bit HUB_CONTOUR.PLUMB_ON 0 = false → s.b.hub.steps = [] →
    ∃ t, exec (.setPlumb c) s = .next t ∧ InBlock s t ∧ Waits c .plumb t ∧
      (c.arg 0 % 2 = 1 → point = s.b.point → t.b.hub.plumbDue = some (s.tick + 1) ∧ t.b.hub.steps = []) ∧
      (c.arg 0 % 2 = 1 → point ≠ s.b.point →
        t.b.hub.steps = [newStep point s.b.hub.stepIdNext (s.tick + s.b.stepLead) (scOf (s.tick + s.b.stepLead) 0) (some power) 0 false]) ∧
      (c.arg 0 % 2 = 0 → t.b.hub.plumbOffAt = some (s.tick + 1) ∧ t.b.hub.plumbDue = none)) ∧
  (∀ (c : Cmd) (s : State), Passes 0x30 c s → c.arg 0 % 256 ≠ 0 → c.arg 0 / 256 % 2 = 0 → s.b.rd HUB_LOCK.GROUP 0 = 0 →
    s.b.bit HUB_LOCK.JOINING 0 = false → s.b.bit HUB_CONTOUR.PLUMB_ON 0 = false → s.b.hub.staged.length < 16 →
    ∃ t, exec (.lockJoin c) s = .next t ∧ InBlock s t ∧ Answered 0x30 stDone c t ∧ t.b.rd HUB_LOCK.GROUP 0 = c.arg 0 % 256 ∧
      t.b.rd HUB_LOCK.ROLE 0 = 1) ∧
  (∀ (c : Cmd) (s : State), Passes 0x30 c s → c.arg 0 % 256 ≠ 0 → c.arg 0 / 256 % 2 = 1 → c.arg 0 / 512 % 8 < 6 → s.b.rd HUB_LOCK.GROUP 0 = 0 →
    s.b.bit HUB_LOCK.JOINING 0 = false → s.b.bit HUB_CONTOUR.PLUMB_ON 0 = false → s.b.tieSt (c.arg 0 / 512 % 8) = tieUp →
    s.b.hub.staged.length < 16 →
    ∃ t, exec (.lockJoin c) s = .next t ∧ InBlock s t ∧ Waits c .join t ∧ t.b.bit HUB_LOCK.JOINING 0 = true ∧
      t.b.rd HUB_LOCK.UP_PORT 0 = c.arg 0 / 512 % 8 ∧ t.b.rd HUB_LOCK.GROUP 0 = 0 ∧
      (t.b.tie (c.arg 0 / 512 % 8)).txSeq = ((s.b.tie (c.arg 0 / 512 % 8)).txSeq + 1) % 256) ∧
  (∀ (c : Cmd) (s : State), Passes 0x31 c s →
    (s.b.rd HUB_LOCK.ROLE 0 = 1 ∨ (s.b.rd HUB_LOCK.ROLE 0 = 2 ∧ s.b.downPorts = [])) → s.b.rd HUB_LOCK.GROUP 0 ≠ 0 → s.b.hub.staged.length < 16 →
    ∃ t, exec (.lockLeave c) s = .next t ∧ InBlock s t ∧ Answered 0x31 stDone c t ∧ t.b.rd HUB_LOCK.GROUP 0 = 0 ∧
      t.b.rd HUB_LOCK.ROLE 0 = 0)

/-- Bring-up of a tie-line port. TIE_ALIGN sends HELLO; HELLO keeps what the far end names and begins the probe rounds; PROBE is answered (in the
same survey cycle: log entry 61); ECHO keeps each round, and the sixteenth gives the latency where the rounds agree within 16 sc and is else a failed
attempt; TIMESTAMP_SEND sends on every active port; TIMESTAMP gives the offset D and makes a probed port UP; CRC errors are counted; and a port goes
DOWN for its cause (R44, R218, R219). -/
def Obligations.TieLineBringUp : Prop :=
  (∀ (k : TieNo) (s : State), s.b.flag HUB_TIE.PORT_EN 0 k = true → s.b.tieSt k = tieAlign' →
    ∃ t, exec (.tieAlign k) s = .next t ∧ InBlock s t ∧ t.b.tieSt k = tieHello ∧ t.b.hub = s.b.hub ∧
      (t.b.tie k).txSeq = ((s.b.tie k).txSeq + 1) % 256) ∧
  (∀ (k : TieNo) (q : Byte) (id : Word) (port grade : Byte) (sc : ScOff) (s : State), s.b.tieSt k = tieHello →
    ∃ t, exec (.hello k q id port grade sc) s = .next t ∧ InBlock s t ∧ t.b.tieSt k = tieProbe ∧ (t.b.tie k).heard = s.tick ∧
      (t.b.tie k).failures = 0 ∧ t.b.rd (HUB_TIE.FAR_ID k) 0 = id.toNat) ∧
  (∀ (k : TieNo) (q : Byte) (t1 : TieTime) (sc : ScOff) (s : State), s.b.tieSt k = tieUp ∨ s.b.tieSt k = tieProbe →
    ∃ t, exec (.probe k q t1 sc) s = .next t ∧ InBlock s t ∧ (t.b.tie k).heard = s.tick ∧
      (t.b.tie k).txSeq = ((s.b.tie k).txSeq + 1) % 256 ∧ t.b.tieSt k = s.b.tieSt k) ∧
  (∀ (k : TieNo) (q : Byte) (t1 t2 t3 : TieTime) (sc : ScOff) (s : State), s.b.tieSt k = tieProbe → (s.b.tie k).rounds.length < 15 →
    ∃ t, exec (.echo k q t1 t2 t3 sc) s = .next t ∧ InBlock s t ∧
      (t.b.tie k).rounds = (s.b.tie k).rounds ++ [(scOf s.tick sc - TieTime.sc t1) - (TieTime.sc t3 - TieTime.sc t2)]) ∧
  (∀ (k : TieNo) (q : Byte) (t1 t2 t3 : TieTime) (sc : ScOff) (l : List Int) (s : State), s.b.tieSt k = tieProbe →
    (s.b.tie k).rounds.length = 15 →
    l = (s.b.tie k).rounds ++ [(scOf s.tick sc - TieTime.sc t1) - (TieTime.sc t3 - TieTime.sc t2)] →
    ∃ t, exec (.echo k q t1 t2 t3 sc) s = .next t ∧ InBlock s t ∧
      (spreadOf l ≤ 16 → (t.b.tie k).rounds = l ∧
        t.b.rd (HUB_TIE.LATENCY k) 0 = ((l.sum + 16) / 32).toNat % 2 ^ (HUB_TIE.LATENCY k).width) ∧
      (16 < spreadOf l → (t.b.tie k).rounds = [] ∧ (t.b.tie k).failures = (s.b.tie k).failures + 1)) ∧
  (∀ (sc : ScOff) (s : State),
    ∃ t, exec (.timestampSend sc) s = .next t ∧ InBlock s t ∧ t.b.hub = s.b.hub ∧
      ∀ k : TieNo, (t.b.tie k).crcInPeriod = 0 ∧
        (s.b.tieActive k = true → (t.b.tie k).txSeq = ((s.b.tie k).txSeq + 1) % 256)) ∧
  (∀ (k : TieNo) (q : Byte) (x : TieTime) (sc : ScOff) (s : State), s.b.tieActive k = true →
    ∃ t, exec (.timestamp k q x sc) s = .next t ∧ InBlock s t ∧ t.b.bit (HUB_TIE.D_VALID k) 0 = true ∧ t.b.tieSt k = tieUp ∧
      t.b.rd2 (HUB_TIE.D_LO k) (HUB_TIE.D_HI k) 0 =
        toCode 64 (scOf s.tick sc - Int.ofNat (s.b.rd (HUB_TIE.LATENCY k) 0) - TieTime.sc x)) ∧
  (∀ (k : TieNo) (s : State),
    ∃ t, exec (.tieCrcError k) s = .next t ∧ t = { s with b := { s.b with regs := t.b.regs, ties := t.b.ties } } ∧
      t.b.tie k = { s.b.tie k with crcInPeriod := (s.b.tie k).crcInPeriod + 1 } ∧
      t.b.rd (HUB_TIE.CRC_ERRS k) 0 = (s.b.rd (HUB_TIE.CRC_ERRS k) 0 + 1) % 2 ^ (HUB_TIE.CRC_ERRS k).width ∧
      RegsBut [(HUB_TIE.CRC_ERRS k).key 0] s.b t.b ∧ ∀ j, j ≠ k.val → t.b.tie j = s.b.tie j) ∧
  (∀ (k : TieNo) (why : TieDownCause) (s : State), s.b.tieSt k ≠ tieDown →
    (match why with
      | .alignment => tieHello ≤ s.b.tieSt k
      | .silence => tieHello ≤ s.b.tieSt k ∧ (s.b.tie k).heard + s.b.rd HUB_TIE.SILENCE_TICKS 0 ≤ s.tick
      | .crc => 16 ≤ (s.b.tie k).crcInPeriod
      | .probe => 4 ≤ (s.b.tie k).failures) →
    ∃ t, exec (.tiePortDown k why) s = .next t ∧ InBlock s t ∧ t.b.tieSt k = tieDown ∧ t.b.bit (HUB_TIE.D_VALID k) 0 = false ∧
      t.b.faults = s.b.faults ++ [{ src := 20, field := 255, detail := k, off := 0 }]) ∧
  (∀ (k : TieNo) (why : TieDownCause) (s : State), s.b.tieSt k = tieDown → exec (.tiePortDown k why) s = .next s)

/-- Group frames. JOIN, LEAVE, SYNC and STEP_REQUEST wait for H0 while it does not run, oldest first, up to 16 (R276). While it runs: JOIN of the own group with
room makes the port a down port and is answered; LEAVE of a down port takes it out, and LEAVE of the up port leaves the wafer outside every group;
SYNC of the up port that names another point counts one LOCK_SKEW event and makes the point pending; STEP_REQUEST at the owner is kept (R210 to R212, R221).
JOIN_ACK: a refusal ends joining, and an acceptance makes the wafer a member that is still joining (R210). STEP of the up port becomes the next pending step,
and one with a point outside the table changes none (R215). STEP_DONE at the owner is kept, and MEMBERS counts those of the step in force; a member passes it
up (R216). FREEZE of the group freezes it; THAW of the up port ends the freeze (R220, R221). -/
def Obligations.GroupFrames : Prop :=
  (∀ (k : TieNo) (q g x y : Byte) (pl : Bool) (id : Word) (sc : ScOff) (s : State), s.b.tieSt k = tieUp → (s.b.proc 84).st ≠ 0 →
    (s.b.tie k).rx.length < 16 →
    (∃ t, exec (.join k q g x id sc) s = .next t ∧ InBlock s t ∧ t.b.hub = s.b.hub ∧
      (t.b.tie k).rx = (s.b.tie k).rx ++ [.join g.toNat x.toNat id.toNat] ∧ (t.b.tie k).heard = s.tick) ∧
    (∃ t, exec (.leave k q g x id sc) s = .next t ∧ InBlock s t ∧ t.b.hub = s.b.hub ∧
      (t.b.tie k).rx = (s.b.tie k).rx ++ [.leave g.toNat x.toNat id.toNat] ∧ (t.b.tie k).heard = s.tick) ∧
    (∃ t, exec (.sync k q g x pl y sc) s = .next t ∧ InBlock s t ∧ t.b.hub = s.b.hub ∧
      (t.b.tie k).rx = (s.b.tie k).rx ++ [.sync g.toNat x.toNat pl y.toNat] ∧ (t.b.tie k).heard = s.tick) ∧
    ∃ t, exec (.stepRequest k q g x id sc) s = .next t ∧ InBlock s t ∧ t.b.hub = s.b.hub ∧
      (t.b.tie k).rx = (s.b.tie k).rx ++ [.request g.toNat x.toNat id.toNat] ∧ (t.b.tie k).heard = s.tick) ∧
  (∀ (k : TieNo) (q g x y : Byte) (pl : Bool) (id : Word) (sc : ScOff) (s : State), s.b.tieSt k = tieUp → (s.b.proc 84).st = 0 →
    s.b.rd HUB_LOCK.GROUP 0 = g.toNat → g.toNat ≠ 0 →
    (s.b.rd HUB_LOCK.DEPTH 0 < 4 → s.b.groupSize < 32 → s.b.hub.steps = [] → s.b.hub.waitSteps = [] →
      ∃ t, exec (.join k q g x id sc) s = .next t ∧ InBlock s t ∧ t.b.flag HUB_LOCK.DOWN_PORTS 0 k = true ∧
        (t.b.tie k).txSeq = ((s.b.tie k).txSeq + 1) % 256) ∧
    (s.b.flag HUB_LOCK.DOWN_PORTS 0 k = true →
      ∃ t, exec (.leave k q g x id sc) s = .next t ∧ InBlock s t ∧ t.b.flag HUB_LOCK.DOWN_PORTS 0 k = false ∧
        t.b.hub = { s.b.hub with known := s.b.hub.known.filter (· != id.toNat) }) ∧
    (s.b.flag HUB_LOCK.DOWN_PORTS 0 k = false → s.b.upPort = some k.val →
      ∃ t, exec (.leave k q g x id sc) s = .next t ∧ InBlock s t ∧ t.b.rd HUB_LOCK.GROUP 0 = 0 ∧ t.b.rd HUB_LOCK.ROLE 0 = 0) ∧
    (s.b.upPort = some k.val → s.b.point ≠ x.toNat → validPoint x.toNat = true → s.b.hub.steps = [] →
      ∃ t, exec (.sync k q g x pl y sc) s = .next t ∧ InBlock s t ∧ t.b.hub.steps.map (fun z => (z.point, z.kind)) = [(x.toNat, 1)] ∧
        t.b.rd HUB_LOCK.SKEW_EVENTS 0 = (s.b.rd HUB_LOCK.SKEW_EVENTS 0 + 1) % 2 ^ HUB_LOCK.SKEW_EVENTS.width ∧
        t.b.faults = s.b.faults ++ [{ src := 21, field := 255, detail := k * 256 + y.toNat, off := sc }]) ∧
    (s.b.rd HUB_LOCK.ROLE 0 = 1 →
      ∃ t, exec (.stepRequest k q g x id sc) s = .next t ∧ InBlock s t ∧
        t.b.hub = { s.b.hub with requests := s.b.hub.requests ++ [x.toNat] })) ∧
  (∀ (k : TieNo) (q g result point : Byte) (pl : Bool) (id : Word) (sc : ScOff) (s : State), s.b.tieSt k = tieUp →
    s.b.bit HUB_LOCK.JOINING 0 = true → s.b.hub.joinPoint = none → s.b.rd HUB_LOCK.UP_PORT 0 = k →
    (result.toNat ≠ 0 → ∃ t, exec (.joinAck k q g result point pl id sc) s = .next t ∧ InBlock s t ∧
      t.b.bit HUB_LOCK.JOINING 0 = false ∧ t.b.rd HUB_LOCK.UP_PORT 0 = 7 ∧ t.b.rd HUB_LOCK.GROUP 0 = s.b.rd HUB_LOCK.GROUP 0) ∧
    (result.toNat = 0 → validPoint point.toNat = true → ∃ t, exec (.joinAck k q g result point pl id sc) s = .next t ∧ InBlock s t ∧
      t.b.bit HUB_LOCK.JOINING 0 = true ∧ t.b.hub.joinPoint = some point.toNat ∧ t.b.rd HUB_LOCK.GROUP 0 = g.toNat ∧
      t.b.rd HUB_LOCK.ROLE 0 = 2 ∧ t.b.rd HUB_LOCK.OWNER_ID 0 = id.toNat ∧ t.b.point = s.b.point)) ∧
  (∀ (k : TieNo) (q g id point : Byte) (pl : Bool) (pw : BitVec 16) (x : TieTime) (sc : ScOff) (s : State), s.b.tieSt k = tieUp →
    s.b.rd HUB_LOCK.GROUP 0 = g.toNat → s.b.upPort = some k.val → validPoint point.toNat = false →
    ∃ t, exec (.step k q g id point pl pw x sc) s = .next t ∧ InBlock s t ∧ t.b.hub = s.b.hub ∧ (t.b.tie k).heard = s.tick) ∧
  (∀ (k : TieNo) (q g id point : Byte) (pl : Bool) (pw : BitVec 16) (x : TieTime) (sc : ScOff) (n : Int) (s : State), s.b.tieSt k = tieUp →
    s.b.rd HUB_LOCK.GROUP 0 = g.toNat → s.b.upPort = some k.val → validPoint point.toNat = true → s.b.hub.steps.length < 2 →
    n = TieTime.sc x + s.b.tieD k →
    ∃ t, exec (.step k q g id point pl pw x sc) s = .next t ∧ InBlock s t ∧ t.b.point = s.b.point ∧
      t.b.hub = { s.b.hub with steps := s.b.hub.steps ++
        [newStep point.toNat id.toNat ((n + 2047) / 2048).toNat n (if pl then some pw.toNat else none) 0 false] }) ∧
  (∀ (k : TieNo) (q g id result : Byte) (skew wid : Word) (sc : ScOff) (s : State), s.b.tieSt k = tieUp →
    s.b.rd HUB_LOCK.GROUP 0 = g.toNat → s.b.rd HUB_LOCK.ROLE 0 = 1 → s.b.rd HUB_LOCK.STEP_ID 0 = id.toNat →
    ∃ t, exec (.stepDone k q g id result skew wid sc) s = .next t ∧ InBlock s t ∧ (id.toNat, skew.toInt, wid.toNat) ∈ t.b.hub.dones ∧
      t.b.rd HUB_LOCK.MEMBERS 0 = (t.b.hub.dones.filter (fun d => d.1 == id.toNat)).length % 2 ^ HUB_LOCK.MEMBERS.width) ∧
  (∀ (k up : TieNo) (q g id result : Byte) (skew wid : Word) (sc : ScOff) (s : State), s.b.tieSt k = tieUp →
    s.b.rd HUB_LOCK.GROUP 0 = g.toNat → s.b.rd HUB_LOCK.ROLE 0 = 2 → s.b.upPort = some up.val → s.b.tieSt up = tieUp → up ≠ k →
    ∃ t, exec (.stepDone k q g id result skew wid sc) s = .next t ∧ InBlock s t ∧ (t.b.tie k).heard = s.tick ∧
      (t.b.tie up).txSeq = ((s.b.tie up).txSeq + 1) % 256) ∧
  (∀ (k : TieNo) (q g : Byte) (id : Word) (sc : ScOff) (s : State), s.b.tieSt k = tieUp → s.b.rd HUB_LOCK.GROUP 0 = g.toNat →
    g.toNat ≠ 0 → ∃ t, exec (.freeze k q g id sc) s = .next t ∧ InBlock s t ∧ t.b.bit HUB_LOCK.FROZEN 0 = true) ∧
  (∀ (k : TieNo) (q g : Byte) (sc : ScOff) (s : State), s.b.tieSt k = tieUp → s.b.rd HUB_LOCK.GROUP 0 = g.toNat → g.toNat ≠ 0 →
    s.b.upPort = some k.val → ∃ t, exec (.thaw k q g sc) s = .next t ∧ InBlock s t ∧ t.b.bit HUB_LOCK.FROZEN 0 = false)

/-! ### Trace buffers and the halt -/

/-- Byte `a` lies outside the `n` bytes from `base`. -/
def Sys2Proof.Machine.outside (base n a : Nat) : Prop := a < base ∨ base + n ≤ a

/-- Records of the next burst of buffer `k`: SYNC, a LOSS record when records were lost, and as many others as the link has room for (R251, R253). -/
def Sys2Proof.Machine.burstLen (b : Block) (now k : Nat) : Nat :=
  1 + (if (b.trace k).lossCount = 0 then 0 else 1) + min (b.linkRoom now k) (b.trace k).recs.length

/-- TRIG_NOW triggers every running buffer whose policy is trigger-and-freeze, keeping at most the pre-trigger records, leaves the others'
records, and shows 0x7F in TRIG_FIELD (R248, R249, R263); the sweep at multiples of 2^23 drops the stale records of every buffer (R250); a burst, where the
ring and the rate have room, takes the records of the buffer next in rotation that the link has room for, and writes host memory only in
the ring at HEAD and at WB_ADDR (R251 to R254).
Triggers under the other policies, and what TRIG_NOW names, are the model's readings (log entries 75 and 76). -/
def Obligations.TraceEvents : Prop :=
  (∀ s : State,
    ∃ t, exec .trigNow s = .next t ∧ t = { s with b := { s.b with regs := t.b.regs, traces := t.b.traces } } ∧
      ∀ k, k < 85 → (s.b.trace k).st ≠ 2 → (s.b.trace k).st ≠ 3 →
        (s.b.bufOn k = true → s.b.bufPolicy k = 2 →
          (t.b.trace k).st = 2 ∧ (t.b.trace k).post = bufPost k ∧ (t.b.trace k).recs.length ≤ bufPre k + 1) ∧
        (s.b.bufOn k = false ∨ s.b.bufPolicy k ≠ 2 → t.b.trace k = s.b.trace k) ∧ t.b.rd HUB_TRACE.TRIG_FIELD 0 = 0x7F) ∧
  (∀ s : State, s.tick % 2 ^ 23 = 0 →
    ∃ t, exec .traceStaleSweep s = .next t ∧ t = { s with b := { s.b with regs := t.b.regs, traces := t.b.traces } } ∧
      ∀ k, k < 85 → (t.b.trace k).recs = (s.b.trace k).recs.filter (fun r => !staleAt s.tick r)) ∧
  (∀ s : State, s.tick % 2 ^ 23 ≠ 0 → exec .traceStaleSweep s = .next s) ∧
  (∀ (k : Nat) (s : State), s.b.bit HUB_TRACE.DRAIN_EN 0 = true → s.b.nextServed s.tick = some k →
    s.b.ringUsed + burstLen s.b s.tick k ≤ s.b.ringRecs → s.b.burstBytes (burstLen s.b s.tick k) ≤ s.b.hub.bucket →
    ∃ t, exec .traceDrainBurst s = .next t ∧ t = { s with host := t.host, b := t.b } ∧
      (t.b.trace k).recs = (s.b.trace k).recs.drop (s.b.linkRoom s.tick k) ∧ (t.b.trace k).lossCount = 0 ∧ (∀ j, j ≠ k → t.b.trace j = s.b.trace j) ∧
      t.b.hub.nextBuf = k ∧ t.b.rd HUB_TRACE.HEAD 0 = (s.b.rd HUB_TRACE.HEAD 0 + burstLen s.b s.tick k) % 2 ^ 32 ∧
      t.b.agents = s.b.agents ∧ t.b.slots = s.b.slots ∧
      ∀ a, (∀ i, i < burstLen s.b s.tick k → outside (s.b.ringBase + 16 * ((s.b.rd HUB_TRACE.HEAD 0 + i) % s.b.ringRecs)) 16 a) →
        (s.b.wbAddr ≠ 0 → outside s.b.wbAddr 8 a) → mget 0 t.host a = mget 0 s.host a) ∧
  (∀ s : State, s.b.bit HUB_TRACE.DRAIN_EN 0 = false → exec .traceDrainBurst s = .next s)

/-- A port whose command waits for `w` has been answered, or keeps its answer while the journal is full. -/
def Sys2Proof.Machine.Completes (w : Wait) (s t : State) : Prop :=
  ∀ pt, pt < 3 → s.b.waitOf pt = w → s.b.hub.staged.length < 14 →
    (∀ fl, (s.b.port pt).flight = some fl → fl.owed = []) → (t.b.port pt).flight = none

/-- The wafer halt. HALT: a scheduled halt is announced, an immediate one requested, one too early is BAD_ARG (R256, R258). HALT_CUT at T stops every agent
with source 1 and offset 0 (R257); IMMEDIATE_HALT that is wanted stops every agent at once, and takes a halt that is releasing back to HALTED (R258, R262);
HALTED_ENTRY, when every field in service has arrived, is HALTED with the smear, and HALT completes (R257); an unconfirmed stop is one fault and one count (R259);
a halt set of the own group requests a halt with source 5, another is only counted (R260); RESUME sets the release tick, or cancels a halt that
waits (R261, R262); HALT_RELEASE restarts the agents of the cadastre that hold a release word, and RESUME completes (R261).
Statuses of HALT and RESUME and a halt set during a halt follow the model's readings (log entries 72 and 73). -/
def Obligations.HaltAndRelease : Prop :=
  (∀ (c : Cmd) (s : State), Passes 0x40 c s → c.arg 0 = 1 → s.tick + s.b.rd HUB_HALT.HALT_LEAD 0 ≤ c.tick48 1 →
    c.tick48 1 ≤ s.tick + 2 ^ 23 → s.b.haltSt = 0 → s.b.hub.haltWanted = none →
    ∃ t, exec (.halt c) s = .next t ∧ InBlock s t ∧ Waits c .halt t ∧ t.b.haltSt = 1 ∧ t.b.hub.sched = some (c.tick48 1) ∧
      t.b.agents = s.b.agents) ∧
  (∀ (c : Cmd) (s : State), Passes 0x40 c s → c.arg 0 = 0 → s.b.haltSt = 0 → s.b.hub.haltWanted = none →
    ∃ t, exec (.halt c) s = .next t ∧ InBlock s t ∧ Waits c .halt t ∧ t.b.haltSt = 0 ∧ t.b.hub.haltWanted = some 2 ∧
      t.b.agents = s.b.agents) ∧
  (∀ (c : Cmd) (s : State), Passes 0x40 c s → c.arg 0 = 1 → c.tick48 1 < s.tick + s.b.rd HUB_HALT.HALT_LEAD 0 →
    s.b.hub.staged.length < 16 →
    ∃ t, exec (.halt c) s = .next t ∧ InBlock s t ∧ Answered 0x40 stBadArg c t ∧ t.b.haltSt = s.b.haltSt) ∧
  (∀ (n : Nat) (s : State), s.b.hub.sched = some n → n ≤ s.tick →
    ∃ t, exec .haltCut s = .next t ∧ InBlock s t ∧ t.b.haltSt = 2 ∧ t.b.hub.sched = none ∧ t.b.hub.wires = true ∧
      t.b.rd HUB_HALT.SOURCE 0 = 1 ∧ t.b.rd HUB_HALT.CUT_OFFSET 0 = 0 ∧
      t.b.rd HUB_HALT.CUT_TICK 0 = s.tick % 2 ^ HUB_HALT.CUT_TICK.width ∧ t.b.slots = s.b.slots ∧ ∀ k, (t.b.agent k).halted = true) ∧
  (∀ s : State, s.b.hub.sched = none → exec .haltCut s = .next s) ∧
  (∀ (why : HaltCause) (sc : ScOff) (s : State), s.b.hub.haltWanted = some (haltCode why) → s.b.haltSt ≤ 1 →
    ∃ t, exec (.immediateHalt why sc) s = .next t ∧ InBlock s t ∧ t.b.haltSt = 2 ∧ t.b.hub.haltWanted = none ∧ t.b.hub.wires = true ∧
      t.b.rd HUB_HALT.SOURCE 0 = haltCode why ∧ t.b.bit HUB_HALT.CONSISTENT 0 = false ∧ t.b.slots = s.b.slots ∧
      ∀ k, (t.b.agent k).halted = true) ∧
  (∀ (why : HaltCause) (sc : ScOff) (s : State), s.b.hub.haltWanted = some (haltCode why) → s.b.haltSt = 4 →
    ∃ t, exec (.immediateHalt why sc) s = .next t ∧ InBlock s t ∧ t.b.haltSt = 3 ∧ t.b.hub.haltWanted = none ∧ t.b.hub.release = none ∧
      t.b.rd HUB_HALT.SOURCE 0 = haltCode why ∧ ∀ k, (t.b.agent k).releaseWord = false ∧ (t.b.agent k).halted = (s.b.agent k).halted) ∧
  (∀ (why : HaltCause) (sc : ScOff) (s : State), s.b.hub.haltWanted ≠ some (haltCode why) → exec (.immediateHalt why sc) s = .next s) ∧
  (∀ (l : List (FieldNo × BitVec 16 × BitVec 16)) (s : State), s.b.haltSt = 2 → s.b.allArrived = true →
    ∃ t, exec (.haltedEntry l) s = .next t ∧ InBlock s t ∧ t.b.haltSt = 3 ∧ t.b.rd HUB_HALT.SMEAR_EC 0 = (smearOf l).1 % 2 ^ HUB_HALT.SMEAR_EC.width ∧
      t.b.agents = s.b.agents ∧ Completes .halt s t) ∧
  (∀ (l : List (FieldNo × BitVec 16 × BitVec 16)) (s : State), s.b.haltSt ≠ 2 → exec (.haltedEntry l) s = .next s) ∧
  (∀ (f : FieldNo) (p : SlotNo) (s : State), 2 ≤ s.b.haltSt →
    ∃ t, exec (.haltTimeout f p) s = .next t ∧
      t = { s with b := { s.b with regs := t.b.regs, fields := t.b.fields, faults := t.b.faults } } ∧
      RegsBut [HUB_HALT.TIMEOUTS.key 0] s.b t.b ∧
      t.b.rd HUB_HALT.TIMEOUTS 0 = (s.b.rd HUB_HALT.TIMEOUTS 0 + 1) % 2 ^ HUB_HALT.TIMEOUTS.width ∧
      t.b.faults = s.b.faults ++ [{ src := 25, field := f, detail := p, off := 0 }]) ∧
  (∀ (f : FieldNo) (p : SlotNo) (s : State), s.b.haltSt < 2 → exec (.haltTimeout f p) s = .next s) ∧
  (∀ (k : TieNo) (g kind : Byte) (sc : ScOff) (s : State), s.b.tieSt k = tieUp → g.toNat = s.b.rd HUB_LOCK.GROUP 0 → g.toNat ≠ 0 →
    kind.toNat = 1 → s.b.haltSt < 2 → s.b.hub.haltWanted = none →
    ∃ t, exec (.tieHaltSet k g kind sc) s = .next t ∧ InBlock s t ∧ t.b.hub.haltWanted = some 5 ∧ t.b.agents = s.b.agents ∧
      t.b.rd HUB_HALT.TIE_RX 0 = (s.b.rd HUB_HALT.TIE_RX 0 + 1) % 2 ^ HUB_HALT.TIE_RX.width) ∧
  (∀ (k : TieNo) (g kind : Byte) (sc : ScOff) (s : State), g.toNat ≠ s.b.rd HUB_LOCK.GROUP 0 →
    ∃ t, exec (.tieHaltSet k g kind sc) s = .next t ∧ OnlyRegs [HUB_HALT.TIE_RX.key 0] s t) ∧
  (∀ (c : Cmd) (u : Nat) (s : State), Passes 0x41 c s → u = (if c.tick48 0 = 0 then s.tick + s.b.rd HUB_HALT.HALT_LEAD 0 else c.tick48 0) →
    s.tick + s.b.rd HUB_HALT.HALT_LEAD 0 ≤ u →
    (s.b.haltSt = 3 → ∃ t, exec (.resume c) s = .next t ∧ InBlock s t ∧ Waits c .resume t ∧ t.b.haltSt = 4 ∧
      t.b.hub.release = some u ∧ t.b.agents = s.b.agents) ∧
    (s.b.haltSt = 1 → s.b.hub.staged.length < 14 → ∃ t, exec (.resume c) s = .next t ∧ InBlock s t ∧ Answered 0x41 stDone c t ∧
      t.b.haltSt = 0 ∧ t.b.hub.sched = none ∧ rspWord c t 0 = u % 2 ^ 32)) ∧
  (∀ (n : Nat) (s : State), s.b.hub.release = some n → n ≤ s.tick →
    ∃ t, exec .haltRelease s = .next t ∧ InBlock s t ∧ t.b.haltSt = 0 ∧ t.b.hub.release = none ∧ t.b.hub.wires = false ∧
      t.b.pins.jobRestartReq = false ∧ t.b.rd HUB_FAULT.RESTART_PENDING 0 = 0 ∧ Completes .resume s t ∧
      ∀ k, (s.b.agent k).halted = true → (s.b.agent k).releaseWord = true → s.b.dead k = false → (t.b.agent k).halted = false) ∧
  (∀ s : State, s.b.hub.release = none → exec .haltRelease s = .next s)

/-! ### Processors and firmware -/

/-- Processor `p` has begun a restart with `cause`, under a hold of HOLD_TICKS (R269, R273). -/
def Sys2Proof.Machine.Restarted (p cause : Nat) (s t : State) : Prop :=
  (t.b.proc p).st = 1 ∧ (t.b.proc p).cause = cause ∧ (t.b.proc p).causeTick = s.tick ∧ (t.b.proc p).holdOn = true ∧
  (t.b.proc p).hold = s.b.rd HUB_FW.HOLD_TICKS 0 ∧ (t.b.proc p).restarts = ((s.b.proc p).restarts + 1) % 2 ^ 32 ∧
  ∀ q, q ≠ p → t.b.proc q = s.b.proc q

/-- Processor events. GATE_CALL of a running processor: a callee that is restarting answers GATE_DOWN, a call in range is made with its entry, arguments and
stack limit and returns, a callee that violates answers GATE_FAULT, and a call out of range counts against its caller (R267, R268). MPU_VIOLATION of a
compartment below its limit stops the compartment and counts it; one of the kernel, a trap, an uncorrectable word and the watchdog restart a processor
that is on no trial image (R268 to R270), and a watchdog that was kicked in time keeps the kick. IMAGE_CHECK, once in a restart, zeroes the data and loads a new image, passes
the code of the old one, or reloads it with cause IMAGE_CHECK (R272). PROCESSOR_RUN then ends the restart. HOLD_EXPIRED makes the hardware safe (R273). The
fourth START_FAIL stops the processor (R274). -/
def Obligations.ProcessorEvents : Prop :=
  (∀ (p : ProcNo) (caller gate : Byte) (args : List Word) (violates : Bool) (sc : ScOff) (sec : List Nat) (callee : Nat) (s : State),
    (s.b.proc p).st = 0 → caller.toNat ≤ compCount p → sec = s.b.secOf p → callee = Config.gateCallee sec gate.toNat →
    gate.toNat < Config.gateCount sec → args.length ≤ 4 → args.length ≤ Config.gateArgs sec gate.toNat →
    ((s.b.proc p).down s.tick callee = true →
      ∃ t, exec (.gateCall p caller gate args violates sc) s = .next t ∧ t = { s with b := { s.b with procs := t.b.procs } } ∧
        (t.b.proc p).gate = 1 ∧ (t.b.proc p).comp = caller.toNat ∧ (t.b.proc p).call = (s.b.proc p).call) ∧
    ((s.b.proc p).down s.tick callee = false →
      ∃ t, exec (.gateCall p caller gate args false sc) s = .next t ∧ t = { s with b := { s.b with procs := t.b.procs } } ∧
        (t.b.proc p).gate = 3 ∧ (t.b.proc p).comp = caller.toNat ∧
        (t.b.proc p).call = (callee, Config.gateEntry sec gate.toNat, args.map (fun a => a.toNat), Config.gateStack sec gate.toNat)) ∧
    ((s.b.proc p).down s.tick callee = false → callee ≠ 0 →
      ((s.b.proc p).compTicks.filter (fun t => decide (s.tick < t + 4096))).length < s.b.rd HUB_FW.COMP_LIMIT 0 →
      ∃ t, exec (.gateCall p caller gate args true sc) s = .next t ∧ InBlock s t ∧ (t.b.proc p).gate = 2 ∧
        (t.b.proc p).compFaults = ((s.b.proc p).compFaults + 1) % 2 ^ 32 ∧ (t.b.proc p).lastComp = callee)) ∧
  (∀ (p : ProcNo) (caller gate : Byte) (args : List Word) (violates : Bool) (sc : ScOff) (sec : List Nat) (s : State),
    (s.b.proc p).st = 0 → caller.toNat ≤ compCount p → caller.toNat ≠ 0 → sec = s.b.secOf p →
    (Config.gateCount sec ≤ gate.toNat ∨ 4 < args.length ∨ Config.gateArgs sec gate.toNat < args.length) →
    ((s.b.proc p).compTicks.filter (fun t => decide (s.tick < t + 4096))).length < s.b.rd HUB_FW.COMP_LIMIT 0 →
    ∃ t, exec (.gateCall p caller gate args violates sc) s = .next t ∧ InBlock s t ∧
      (t.b.proc p).compFaults = ((s.b.proc p).compFaults + 1) % 2 ^ 32 ∧ (t.b.proc p).lastComp = caller.toNat ∧
      (t.b.proc p).call = (s.b.proc p).call) ∧
  (∀ (p : ProcNo) (comp : Byte) (sc : ScOff) (s : State), (s.b.proc p).st = 0 → comp.toNat ≠ 0 → comp.toNat ≤ compCount p →
    ((s.b.proc p).compTicks.filter (fun t => decide (s.tick < t + 4096))).length < s.b.rd HUB_FW.COMP_LIMIT 0 →
    ∃ t, exec (.mpuViolation p comp sc) s = .next t ∧
      t = { s with b := { s.b with fields := t.b.fields, faults := t.b.faults, procs := t.b.procs } } ∧
      (t.b.proc p).st = 0 ∧ (t.b.proc p).comp = 0 ∧
      (t.b.proc p).compFaults = ((s.b.proc p).compFaults + 1) % 2 ^ 32 ∧ (t.b.proc p).lastComp = comp.toNat ∧
      t.b.faults = s.b.faults ++ [{ src := 7, field := procField p, detail := p.val * 256 + comp.toNat, off := sc.val }] ∧
      ∀ q, q ≠ p.val → t.b.proc q = s.b.proc q) ∧
  (∀ (p : ProcNo) (kick : BitVec 48) (sc : ScOff) (s : State), (s.b.proc p).st = 0 → s.b.onTrial p = false →
    (∃ t, exec (.mpuViolation p 0 sc) s = .next t ∧ InBlock s t ∧ Restarted p 1 s t) ∧
    (∃ t, exec (.processorTrap p false sc) s = .next t ∧ InBlock s t ∧ Restarted p 1 s t) ∧
    (∃ t, exec (.processorTrap p true sc) s = .next t ∧ InBlock s t ∧ Restarted p 5 s t) ∧
    (kick.toNat ≤ s.tick → max (s.b.proc p).kick kick.toNat + s.b.rd HUB_FW.WDT_TICKS 0 ≤ s.tick →
      ∃ t, exec (.watchdogExpiry p ⟨kick, sc⟩) s = .next t ∧ InBlock s t ∧ Restarted p 2 s t)) ∧
  (∀ (p : ProcNo) (kick : BitVec 48) (sc : ScOff) (s : State), (s.b.proc p).st = 0 → kick.toNat ≤ s.tick →
    s.tick < max (s.b.proc p).kick kick.toNat + s.b.rd HUB_FW.WDT_TICKS 0 →
    ∃ t, exec (.watchdogExpiry p ⟨kick, sc⟩) s = .next t ∧ t = { s with b := { s.b with procs := t.b.procs } } ∧
      t.b.proc p = { s.b.proc p with kick := max (s.b.proc p).kick kick.toNat } ∧ ∀ q, q ≠ p.val → t.b.proc q = s.b.proc q) ∧
  (∀ (p : ProcNo) (c : Byte) (b : Bool) (kick : BitVec 48) (sc : ScOff) (s : State), (s.b.proc p).st ≠ 0 →
    exec (.mpuViolation p c sc) s = .next s ∧ exec (.processorTrap p b sc) s = .next s ∧ exec (.watchdogExpiry p ⟨kick, sc⟩) s = .next s) ∧
  (∀ (p : ProcNo) (sc : ScOff) (s : State), (s.b.proc p).restarting = true → (s.b.proc p).loaded = false →
    ((s.b.proc p).newImage = true →
      ∃ t, exec (.imageCheck p sc) s = .next t ∧ t = { s with mem := t.mem, b := { s.b with procs := t.b.procs } } ∧
        t.mem = placeSection (s.b.imgOf p) (zeroData (s.b.imgOf p) s.mem p) p ∧ t.b.proc p = { s.b.proc p with loaded := true }) ∧
    ((s.b.proc p).newImage = false →
      Config.sha384 (codeBytes (s.b.imgOf p) (zeroData (s.b.imgOf p) s.mem p) p) = secDigest (s.b.imgOf p) (classSection p) →
      ∃ t, exec (.imageCheck p sc) s = .next t ∧ t = { s with mem := t.mem, b := { s.b with procs := t.b.procs } } ∧
        t.mem = zeroData (s.b.imgOf p) s.mem p ∧ t.b.proc p = { s.b.proc p with loaded := true }) ∧
    ((s.b.proc p).newImage = false → s.b.onTrial p = false →
      Config.sha384 (codeBytes (s.b.imgOf p) (zeroData (s.b.imgOf p) s.mem p) p) ≠ secDigest (s.b.imgOf p) (classSection p) →
      ∃ t, exec (.imageCheck p sc) s = .next t ∧ t = { s with mem := t.mem, b := t.b } ∧
        t.mem = placeSection (s.b.imgOf p) (zeroData (s.b.imgOf p) s.mem p) p ∧
        t.b.proc p = { s.b.proc p with loaded := true, cause := 4 } ∧ ∀ q, q ≠ p.val → t.b.proc q = s.b.proc q)) ∧
  (∀ (p : ProcNo) (sc : ScOff) (s : State), (s.b.proc p).restarting = false ∨ (s.b.proc p).loaded = true → exec (.imageCheck p sc) s = .next s) ∧
  (∀ (p : ProcNo) (sc : ScOff) (s : State), (s.b.proc p).restarting = true → (s.b.proc p).loaded = true → s.b.rollout ≠ 4 →
    ∃ t, exec (.processorRun p sc) s = .next t ∧ InBlock s t ∧ (t.b.proc p).st = 0 ∧ (t.b.proc p).failedStarts = 0 ∧
      (t.b.proc p).runTick = some s.tick ∧ (t.b.proc p).kick = s.tick ∧ (t.b.proc p).newImage = false ∧
      ∀ q, q ≠ p.val → t.b.proc q = s.b.proc q) ∧
  (∀ (p : ProcNo) (sc : ScOff) (s : State), (s.b.proc p).restarting = false ∨ (s.b.proc p).loaded = false →
    exec (.processorRun p sc) s = .next s) ∧
  (∀ (p : ProcNo) (s : State), (s.b.proc p).holdOn = true → (s.b.proc p).hold = 0 → (s.b.proc p).st = 1 → s.b.onTrial p = false →
    ∃ t, exec (.holdExpired p) s = .next t ∧ InBlock s t ∧ t.b.proc p = { s.b.proc p with st := 2, safe := true } ∧
      t.b.rd HUB_FW.EXPIRED 0 = (s.b.rd HUB_FW.EXPIRED 0 + 1) % 2 ^ HUB_FW.EXPIRED.width ∧ ∀ q, q ≠ p.val → t.b.proc q = s.b.proc q) ∧
  (∀ (p : ProcNo) (s : State), (s.b.proc p).holdOn = false → exec (.holdExpired p) s = .next s) ∧
  (∀ (p : ProcNo) (s : State), (s.b.proc p).restarting = true → s.b.rollout ≠ 4 →
    ∃ t, exec (.startFail p) s = .next t ∧ t = { s with b := { s.b with procs := t.b.procs } } ∧
      t.b.proc p = { s.b.proc p with
        failedStarts := (s.b.proc p).failedStarts + 1
        st := if 4 ≤ (s.b.proc p).failedStarts + 1 then 3 else (s.b.proc p).st } ∧
      ∀ q, q ≠ p.val → t.b.proc q = s.b.proc q)

/-- Firmware. FW_STAGE keeps a piece in the DATA area for its port (R380); a whole image goes to slot B, and is staged where it is sound and its interface is the
one in force or accepted, and is else invalid (R279, R280). FW_ACTIVATE of a valid slot B with the same interface starts field 0 on the new image and waits
(R281); PROBATION_END goes on to the next processor, and after the last to the copy; of an FW_RESTART it answers the last one. SLOT_COPY_DONE puts the image
in slot A in force, and raises FUSED_SVN under RATCHET (R283). FW_RESTART restarts one processor, or the first of all (R284). QUOTE writes 608 bytes with
the nonce in them (R287), and only while the key is there (R341). That FW_STAGE ends in its own step and that the image in force changes with the
copy are the model's readings (log entries 83 and 84). -/
def Obligations.FirmwareAndQuotes : Prop :=
  (∀ (c : Cmd) (s : State), Passes 0x70 c s → stageDenied s c = none → s.b.activating = false →
    s.b.stagedElsewhere (portNo c.port) 0x70 0 = false → s.b.bufCheck c 0 0 = none → s.b.hub.staged.length < 15 →
    (c.area = true → c.arg 3 = (s.b.staged (portNo c.port) 0x70 0).length → c.opt 6 = false →
      ∃ t, exec (.fwStage c) s = .next t ∧ InBlock s t ∧ Answered 0x70 stDone c t ∧ t.b.rollout = 1 ∧
        t.b.staged (portNo c.port) 0x70 0 = s.b.staged (portNo c.port) 0x70 0 ++ readBuf s c 0 ∧ t.b.mon = s.b.mon) ∧
    (∀ img, (c.area = false ∧ img = readBuf s c 0) ∨
        (c.area = true ∧ c.opt 6 = true ∧ c.arg 3 = (s.b.staged (portNo c.port) 0x70 0).length ∧
          img = s.b.staged (portNo c.port) 0x70 0 ++ readBuf s c 0) →
      ∃ t, exec (.fwStage c) s = .next t ∧ InBlock s t ∧ t.b.mon.imgB = img ∧
        (if s.b.imageOk img && (imgIface img == imgIface s.b.mon.inForce || c.opt 0) then
          Answered 0x70 stDone c t ∧ t.b.rollout = 2 ∧ t.b.bit HUB_FW.SLOT_B_VALID 0 = true ∧
            t.b.rd HUB_FW.STAGED_VER 0 = imgVer img % 2 ^ 32
        else Answered 0x70 stBadArg c t ∧ t.b.rollout = 0 ∧ t.b.bit HUB_FW.SLOT_B_VALID 0 = false))) ∧
  (∀ (c : Cmd) (s : State), Passes 0x71 c s → s.b.activating = false → s.b.restartsRun = false → s.b.bit HUB_FW.SLOT_B_VALID 0 = true →
    s.b.ifaceNew = false → (s.b.proc 0).st ≠ 3 →
    ∃ t, exec (.fwActivate c) s = .next t ∧ InBlock s t ∧ Waits c .activation t ∧ t.b.rollout = 3 ∧ t.b.rd HUB_FW.BOOT_SLOT 0 = 1 ∧
      t.b.rd HUB_FW.ROLL_NEXT 0 = 0 ∧ Restarted 0 7 s t ∧ (t.b.proc 0).imageB = true) ∧
  (∀ (c : Cmd) (s : State), Passes 0x71 c s → s.b.activating = false → s.b.restartsRun = false → s.b.bit HUB_FW.SLOT_B_VALID 0 = false →
    s.b.hub.staged.length < 16 →
    ∃ t, exec (.fwActivate c) s = .next t ∧ InBlock s t ∧ Answered 0x71 stStateReject c t ∧ t.b.procs = s.b.procs) ∧
  (∀ (p : ProcNo) (s : State), s.b.probationOver s.tick p = true → s.b.ifaceNew = false →
    (s.b.rollout = 3 → s.b.rd HUB_FW.ROLL_NEXT 0 = p → s.b.hub.order = [] →
      ∃ t, exec (.probationEnd p) s = .next t ∧ OnlyRegs [HUB_FW.ROLLOUT.key 0] s t ∧ t.b.rollout = 5) ∧
    (∀ (q : Nat) (r : List Nat), s.b.rollout = 3 → s.b.rd HUB_FW.ROLL_NEXT 0 = p → s.b.hub.order = q :: r → q < 87 → (s.b.proc q).st ≠ 3 →
      ∃ t, exec (.probationEnd p) s = .next t ∧ InBlock s t ∧ t.b.rollout = 3 ∧
        t.b.rd HUB_FW.ROLL_NEXT 0 = q ∧ Restarted q 7 s t ∧ (t.b.proc q).imageB = true) ∧
    (s.b.rollout ≠ 3 → ∃ t, exec (.probationEnd p) s = .next t ∧ InBlock s t ∧ Completes (.restarts [p.val]) s t)) ∧
  (∀ (p : ProcNo) (s : State), s.b.probationOver s.tick p = false → exec (.probationEnd p) s = .next s) ∧
  (∀ s : State, s.b.rollout = 5 →
    ∃ t, exec .slotCopyDone s = .next t ∧ InBlock s t ∧ t.b.rollout = 0 ∧ t.b.rd HUB_FW.BOOT_SLOT 0 = 0 ∧
      t.b.rd HUB_FW.ACTIVE_VER 0 = imgVer s.b.mon.imgB % 2 ^ 32 ∧ t.b.mon.bootSlotB = false ∧ t.b.mon.forceB = false ∧
      t.b.mon.imgA = s.b.mon.imgB ∧ (∀ p : ProcNo, (t.b.proc p).imageB = false) ∧
      t.b.nv.fusedSvn = (if s.b.hub.ratchet then max s.b.nv.fusedSvn (imgSvn s.b.mon.imgB) else s.b.nv.fusedSvn) ∧
      Completes .activation s t) ∧
  (∀ s : State, s.b.rollout ≠ 5 → exec .slotCopyDone s = .next s) ∧
  (∀ (c : Cmd) (l : List Nat) (s : State), Passes 0x72 c s → s.b.activating = false → s.b.restartsRun = false →
    (c.arg 0 ≤ 86 ∧ l = [c.arg 0]) ∨ (c.arg 0 = 0xFF ∧ l = activationOrder) →
    ∃ t, exec (.fwRestart c) s = .next t ∧ InBlock s t ∧ Waits c (.restarts l) t ∧ Restarted (l.headD 0) 6 s t) ∧
  (∀ (c : Cmd) (s : State), Passes 0x72 c s → 86 < c.arg 0 → c.arg 0 ≠ 0xFF → s.b.hub.staged.length < 16 →
    ∃ t, exec (.fwRestart c) s = .next t ∧ InBlock s t ∧ Answered 0x72 stBadArg c t ∧ t.b.procs = s.b.procs) ∧
  (∀ (c : Cmd) (k : List Nat) (s : State), Passes 0x78 c s → c.arg 0 ≤ 32 → s.b.hub.attKey = some k → s.b.bufCheck c 9 608 = none →
    c.area = false → s.b.hub.staged.length < 16 →
    ∃ t, exec (.quote c) s = .next t ∧ t = { s with host := t.host, b := t.b } ∧ Answered 0x78 stDone c t ∧
      rspWord c t 0 = s.b.rd HUB_FW.ATT_KEY_ID 0 ∧
      (∀ a, outside (c.bufAddr 9) 608 a → mget 0 t.host a = mget 0 s.host a) ∧
      ∀ i, i < c.arg 0 → (mget 0 t.host (c.bufAddr 9 + 32 + i)).toNat = c.arg (1 + i / 4) / 2 ^ (8 * (i % 4)) % 256) ∧
  (∀ (c : Cmd) (s : State), Passes 0x78 c s → c.arg 0 ≤ 32 → s.b.hub.attKey = none → s.b.hub.staged.length < 16 →
    ∃ t, exec (.quote c) s = .next t ∧ InBlock s t ∧ Answered 0x78 stStateReject c t)

/-! ### Faults, the monument and loss of power -/

/-- The collector. FAULT_EVENT sets its bit, is counted, and moves the state by its class, which for a source of neither list is severe at N_b events in
its window; a severe one asserts FAULT_N and requests an immediate halt (R292 to R299). COLLECTOR_RECOVERING begins once the wafer has stopped, and
RECOVERY_COMPLETE ends the recovery after the quiet period, the ninth in an hour being sticky (R296, R300, R301). FAULT_BIT_EXPIRE clears a bit W_b after its
latest event, and FAULT_CLEAR clears them all (R302). ENGINE_ERROR counts once until it is re-armed (R401), and a lost clock is one event (R291).
That FAULT_CLEAR of a running episode is refused follows R302; when it records, and that the episode's bits whose window has passed clear as the
recovery completes, is the model's reading (log entry 81). -/
def Obligations.FaultCollector : Prop :=
  (∀ (src : SourceNo) (fld : Option FieldNo) (d : BitVec 16) (sc : ScOff) (s : State),
    ∃ t, exec (.faultEvent src fld d sc) s = .next t ∧ InBlock s t ∧ t.b.agents = s.b.agents ∧ t.b.slots = s.b.slots ∧
      t.b.flag HUB_FAULT.FAULT_STATUS 0 src = true ∧
      t.b.rd (HUB_FAULT.EVT_COUNT src) 0 = (s.b.rd (HUB_FAULT.EVT_COUNT src) 0 + 1) % 2 ^ (HUB_FAULT.EVT_COUNT src).width ∧
      (severeAtFirst src d.toNat = true → t.b.collector = (if s.b.collector = 4 then 4 else 2)) ∧
      (severeAtFirst src d.toNat = true → s.b.collector ≠ 2 → t.b.pins.faultN = true ∧ t.b.pins.jobRestartReq = true ∧
        t.b.hub.haltWanted = some (if s.b.hub.haltWanted = some 4 then 4 else 3)) ∧
      (severeAtFirst src d.toNat = false → neverSevere.contains src.val = true →
        t.b.collector = (if s.b.collector = 0 then 1 else s.b.collector) ∧ t.b.hub.haltWanted = s.b.hub.haltWanted ∧ t.b.pins = s.b.pins) ∧
      ∀ (l : List Nat) (n : Nat), l = mget [] s.b.hub.events src ++ [s.tick] →
        n = ((l.drop (l.length - 16)).filter (fun t => decide (s.tick < t + s.b.window src))).length →
        severeAtFirst src d.toNat = false → neverSevere.contains src.val = false →
        (s.b.rd (HUB_FAULT.N src) 0 ≤ n → t.b.collector = (if s.b.collector = 4 then 4 else 2)) ∧
        (n < s.b.rd (HUB_FAULT.N src) 0 → t.b.collector = (if s.b.collector = 0 then 1 else s.b.collector))) ∧
  (∀ (n : Nat) (s : State), s.b.hub.severeAt = some n → n < s.tick → s.b.collector = 2 → s.b.allArrived = true →
    ∃ t, exec .collectorRecovering s = .next t ∧ t = { s with b := { s.b with regs := t.b.regs, hub := t.b.hub } } ∧ t.b.collector = 3 ∧
      t.b.hub.quietFrom = s.tick) ∧
  (∀ s : State, s.b.collector ≠ 2 → exec .collectorRecovering s = .next s) ∧
  (∀ s : State, s.b.collector = 3 → s.b.hub.quietFrom + 488281 ≤ s.tick →
    ∃ t, exec .recoveryComplete s = .next t ∧ InBlock s t ∧ t.b.agents = s.b.agents ∧
      t.b.rd HUB_FAULT.RECOVERY_COUNT 0 = (s.b.rd HUB_FAULT.RECOVERY_COUNT 0 + 1) % 2 ^ HUB_FAULT.RECOVERY_COUNT.width ∧
      (if ninthRecovery s.b.hub.recoveries s.tick then t.b.collector = 4 ∧ t.b.pins = s.b.pins
        else t.b.collector = (if t.b.rd HUB_FAULT.FAULT_STATUS 0 = 0 then 0 else 1) ∧ t.b.pins.faultN = false ∧
          t.b.rd HUB_FAULT.SEVERE_SRC 0 = 0 ∧
          ∀ src : SourceNo, t.b.flag HUB_FAULT.FAULT_STATUS 0 src = (s.b.flag HUB_FAULT.FAULT_STATUS 0 src &&
            !decide (mget 0 s.b.hub.latest src + s.b.window src ≤ s.tick)))) ∧
  (∀ s : State, s.tick < s.b.hub.quietFrom + 488281 → exec .recoveryComplete s = .next s) ∧
  (∀ (src : SourceNo) (s : State), s.b.flag HUB_FAULT.FAULT_STATUS 0 src = true → s.b.episodeBit src = false →
    mget 0 s.b.hub.latest src + s.b.window src ≤ s.tick →
    ∃ t, exec (.faultBitExpire src) s = .next t ∧ OnlyRegs [HUB_FAULT.FAULT_STATUS.key 0, HUB_FAULT.STATE.key 0] s t ∧
      t.b.flag HUB_FAULT.FAULT_STATUS 0 src = false) ∧
  (∀ (src : SourceNo) (s : State), s.b.flag HUB_FAULT.FAULT_STATUS 0 src = false ∨ s.b.episodeBit src = true →
    exec (.faultBitExpire src) s = .next s) ∧
  (∀ (c : Cmd) (s : State), Passes 0x90 c s → s.b.hub.staged.length < 16 →
    (s.b.collector ≤ 1 → ∃ t, exec (.faultClear c) s = .next t ∧ InBlock s t ∧ Answered 0x90 stDone c t ∧ t.b.collector = 0 ∧
      t.b.rd HUB_FAULT.FAULT_STATUS 0 = 0 ∧ t.b.hub.events = []) ∧
    (s.b.collector = 4 → ∃ t, exec (.faultClear c) s = .next t ∧ InBlock s t ∧ Answered 0x90 stDone c t ∧ t.b.hub.recoveries = [] ∧
      t.b.collector = (if s.b.rd HUB_FAULT.FAULT_STATUS 0 = 0 then 0 else 1) ∧ t.b.pins.faultN = false) ∧
    (s.b.collector = 2 ∨ s.b.collector = 3 → ∃ t, exec (.faultClear c) s = .next t ∧ InBlock s t ∧ Answered 0x90 stStateReject c t ∧
      t.b.collector = s.b.collector ∧ t.b.rd HUB_FAULT.FAULT_STATUS 0 = s.b.rd HUB_FAULT.FAULT_STATUS 0)) ∧
  (∀ (sc : ScOff) (s : State), s.b.hub.engErrHigh = false →
    exec (.engineErrorEdge sc) s = .next { s with b := { s.b with
      hub := { s.b.hub with engErrHigh := true }, faults := s.b.faults ++ [{ src := 31, field := 255, detail := 0, off := sc }] } }) ∧
  (∀ (sc : ScOff) (s : State), s.b.hub.engErrHigh = true → exec (.engineErrorEdge sc) s = .next s) ∧
  (∀ s : State, exec .engineErrorRearm s = .next { s with b := { s.b with hub := { s.b.hub with engErrHigh := false } } }) ∧
  (∀ (w : ClockSource) (sc : ScOff) (s : State),
    exec (.clockLoss w sc) s = .next { s with b := { s.b with
      faults := s.b.faults ++ [{ src := 28, field := 255, detail := clockDetail w, off := sc }] } })

/-- The monument. MONUMENT_PROGRAM_DONE: an event record stands first in the pool, a mirror entry, a shutdown record and a last-fault record first in their
regions (R312, R390); a program that fails for the first time is kept for its retry
(R317). Erases are counted, and a pool block whose erase fails or times out is bad (R313, R317); a waiting
record of an upper tier, or hold-up, suspends an erase (R316, R318); tokens refill once in a tick up to their limits (R314); RECORD_READ delivers whole
records to its buffer (R319); the first-N region is cleared in MANUFACTURE and RETURN only (R312). Loss of input power, also one asserted again after it
ended, stops soft starts at once and every regulating field at P + 1,465, and ends after 16 clear tick marks (R318, R370, R371). That one
row ends the program of a record in both regions, and that the record in progress is kept for the retry, are the model's readings (log entries
89 and 90). -/
def Obligations.MonumentAndPowerLoss : Prop :=
  (∀ (ok : Bool) (s : State), s.b.mon.busy = none → exec (.monumentProgramDone ok) s = .next s) ∧
  (∀ (r : MonRec) (s : State), s.b.mon.busy = some r → r.tier = 3 →
    ∃ t, exec (.monumentProgramDone true) s = .next t ∧ InBlock s t ∧
      t.b.mon.pool = ({ r with
        flags := if s.b.mon.firstN.length < 1024 then r.flags ||| 1 else r.flags, addr := flashPool + 64 * s.b.mon.writePos } ::
          s.b.mon.pool).take 8192 ∧
      t.b.rd HUB_MONUMENT.EVT_WRITTEN 0 = (s.b.rd HUB_MONUMENT.EVT_WRITTEN 0 + 1) % 2 ^ HUB_MONUMENT.EVT_WRITTEN.width ∧
      t.b.agents = s.b.agents) ∧
  (∀ (r : MonRec) (s : State), s.b.mon.busy = some r → r.tier = 4 →
    ∃ t, exec (.monumentProgramDone true) s = .next t ∧ InBlock s t ∧ t.b.mon.mirror =
        ({ r with addr := flashMirror + 32 * (s.b.mon.mirrorPos % 512) } :: s.b.mon.mirror).take 512 ∧
      t.b.mon.pool = s.b.mon.pool ∧ t.b.rd HUB_JOURNAL.LAST_MIRRORED 0 = r.seqNo % 2 ^ HUB_JOURNAL.LAST_MIRRORED.width) ∧
  (∀ (r : MonRec) (s : State), s.b.mon.busy = some r →
    (r.tier = 1 → ∃ t, exec (.monumentProgramDone true) s = .next t ∧ InBlock s t ∧ t.b.mon.pool = s.b.mon.pool ∧
      t.b.mon.shutdowns = ({ (if s.b.mon.acked then r.acked else r) with addr := flashShutdown + 64 * (s.b.mon.shutPos % 256) } ::
        s.b.mon.shutdowns).take 256) ∧
    (r.tier = 2 → ∃ t, exec (.monumentProgramDone true) s = .next t ∧ InBlock s t ∧ t.b.mon.pool = s.b.mon.pool ∧
      t.b.mon.lastFaults = (r.source, { r with addr := flashFault r.source (mget 0 s.b.mon.lfPos r.source % 4) }) :: s.b.mon.lastFaults)) ∧
  (∀ (r : MonRec) (s : State), s.b.mon.busy = some r → s.b.mon.retry = false →
    (∃ t, exec (.monumentProgramDone false) s = .next t ∧ InBlock s t ∧ t.b.mon.busy = some r ∧ t.b.mon.retry = true ∧
      t.b.mon.pool = s.b.mon.pool ∧ t.b.faults = s.b.faults ++ [{ src := 2, field := 255, detail := 1, off := 0 }]) ∧
    ∃ t, exec (.norTimeout false) s = .next t ∧ InBlock s t ∧ t.b.mon.busy = some r ∧ t.b.mon.retry = true ∧
      t.b.mon.pool = s.b.mon.pool ∧ t.b.faults = s.b.faults ++ [{ src := 2, field := 255, detail := 3, off := 0 }]) ∧
  (∀ s : State, s.b.mon.erasing = 1 → s.b.mon.suspended = false →
    (∃ t, exec (.monumentEraseDone true) s = .next t ∧ InBlock s t ∧ t.b.mon.ahead = s.b.mon.ahead + 1 ∧ t.b.mon.badBlocks = s.b.mon.badBlocks ∧
      t.b.rd HUB_MONUMENT.ERASES 0 = (s.b.rd HUB_MONUMENT.ERASES 0 + 1) % 2 ^ HUB_MONUMENT.ERASES.width) ∧
    (∃ t, exec (.monumentEraseDone false) s = .next t ∧ InBlock s t ∧ t.b.mon.badBlocks = s.b.mon.eraseTarget :: s.b.mon.badBlocks ∧
      t.b.mon.ahead = s.b.mon.ahead ∧ t.b.faults = s.b.faults ++ [{ src := 2, field := 255, detail := 2, off := 0 }]) ∧
    ∃ t, exec (.norTimeout true) s = .next t ∧ InBlock s t ∧ t.b.mon.badBlocks = s.b.mon.eraseTarget :: s.b.mon.badBlocks ∧
      t.b.faults = s.b.faults ++ [{ src := 2, field := 255, detail := 3, off := 0 }]) ∧
  (∀ (ok : Bool) (s : State), s.b.mon.erasing = 0 →
    exec (.monumentEraseDone ok) s = .next s ∧ exec (.norTimeout true) s = .next s ∧ exec .eraseSuspend s = .next s) ∧
  (∀ s : State, s.b.mon.erasing ≠ 0 → s.b.mon.suspended = false → (s.b.mon.upperEmpty = false ∨ s.b.holdup = true) →
    ∃ t, exec .eraseSuspend s = .next t ∧ t = { s with b := { s.b with mon := t.b.mon } } ∧ t.b.mon.suspended = true ∧
      t.b.mon.erasing = s.b.mon.erasing ∧ t.b.mon.noErase = s.b.holdup) ∧
  (∀ s : State, s.tick % 512 = 0 → s.b.mon.refillTick ≠ s.tick → (keysOf s.b.mon.tokens).Nodup →
    ∃ t, exec .tokenRefill s = .next t ∧ t = { s with b := { s.b with mon := t.b.mon } } ∧
      t.b.mon = { s.b.mon with
        refillTick := s.tick, waferTokens := min 64 (s.b.mon.waferTokens + 1), tokens := t.b.mon.tokens } ∧
      (s.tick % 1024 ≠ 0 → t.b.mon.tokens = s.b.mon.tokens) ∧
      (s.tick % 1024 = 0 → ∀ e, mget 8 t.b.mon.tokens e = min 8 (mget 8 s.b.mon.tokens e + 1))) ∧
  (∀ s : State, s.tick % 512 ≠ 0 ∨ s.b.mon.refillTick = s.tick → exec .tokenRefill s = .next s) ∧
  (∀ (c : Cmd) (s : State) (x : List MonRec × Nat), Passes 0x88 c s → c.arg 0 % 8 ≠ 0 → c.arg 0 % 8 ≤ 5 → s.b.bufCheck c 3 0 = none →
    c.area = false → s.b.hub.staged.length < 16 →
    x = takeWhole (min (c.arg 2) (c.bufLen 3 / recSize (c.arg 0 % 8))) ((s.b.mon.region (c.arg 0 % 8)).drop (c.arg 1)) →
    ∃ t, exec (.recordRead c) s = .next t ∧ t = { s with host := t.host, b := t.b } ∧ Answered 0x88 stDone c t ∧ t.b.mon = s.b.mon ∧
      rspWord c t 0 = x.1.length % 2 ^ 32 ∧ rspWord c t 1 = x.2 % 2 ^ 32 ∧
      ∀ a, outside (c.bufAddr 3) (x.1.flatMap MonRec.bytes).length a → mget 0 t.host a = mget 0 s.host a) ∧
  (∀ (c : Cmd) (s : State), Passes 0x89 c s → s.b.hub.staged.length < 16 →
    (s.b.nv.lifecycle = 1 ∨ s.b.nv.lifecycle = 3 → ∃ t, exec (.firstRegionClear c) s = .next t ∧ InBlock s t ∧ Answered 0x89 stDone c t ∧
      t.b.mon.firstN = [] ∧ t.b.mon.pool = s.b.mon.pool) ∧
    (s.b.nv.lifecycle ≠ 1 → s.b.nv.lifecycle ≠ 3 → ∃ t, exec (.firstRegionClear c) s = .next t ∧ InBlock s t ∧
      Answered 0x89 stDenied c t ∧ t.b.mon = s.b.mon)) ∧
  (∀ s : State, s.b.holdup = false ∨ s.b.hub.pfAgain = true →
    ∃ t, exec .pwrFailNAssert s = .next t ∧ InBlock s t ∧ t.b.hub.pfSince = some s.tick ∧ t.b.hub.pfPin = true ∧
      t.b.agents = s.b.agents ∧ ∀ f : FieldNo, (s.b.rail (railOf f 0)).run = 1 → (t.b.rail (railOf f 0)).run = 3) ∧
  (∀ s : State, s.b.holdup = true → s.b.hub.pfAgain = false → exec .pwrFailNAssert s = .next s) ∧
  (∀ (i : Vector LastFaultIn 84) (n : Nat) (s : State), s.b.hub.pfSince = some n → s.tick = n + 1465 → s.b.hub.pfPin = true →
    ∃ t, exec (.pwrFailStop i) s = .next t ∧ InBlock s t ∧
      ∀ f : FieldNo, (s.b.rail (railOf f 0)).run = 2 → (t.b.rail (railOf f 0)).run = 0 ∧ (t.b.rail (railOf f 1)).run = 0) ∧
  (∀ (i : Vector LastFaultIn 84) (n : Nat) (s : State), s.b.hub.pfSince = some n → s.tick ≠ n + 1465 →
    exec (.pwrFailStop i) s = .next s) ∧
  (∀ s : State, s.b.holdup = true → 16 ≤ s.b.hub.pfClear →
    ∃ t, exec .pwrFailNDeassert s = .next t ∧ t = { s with b := { s.b with hub := t.b.hub, mon := t.b.mon } } ∧ t.b.holdup = false ∧
      t.b.mon.noErase = false ∧ t.b.hub = { s.b.hub with pfSince := none, pfClear := 0, pfAgain := false }) ∧
  (∀ s : State, s.b.holdup = false → exec .pwrFailNDeassert s = .next s)

/-! ### Memories and self-test -/

/-- First byte of word `w` of memory `k`. -/
def Sys2Proof.Machine.wordAt (k w : Nat) : Nat := memBase k + 16 * w

/-- The word that the scrub of memory `k` reads next. -/
def Sys2Proof.Machine.scrubWord (b : Block) (k : Nat) : Nat := b.rd (memFld k HUB_MEM.SCRUB_POS F_MEM.SCRUB_POS) (memInst k)

/-- The memories. SCRUB_READ goes on to the next word, corrects one wrong bit of 137 and finds two (R322, R323, R327). SOFT_REPAIR of a row that is due repairs it
once (R329, R331). ALIAS_WRITE sets or clears bits of one lane (R324), and one into the secure region from any other compartment than H2's attest
is a violation (R266, R268). MARCH starts the memories it names; MARCH_SEGMENT, when it is due, tests one segment, and leaves every byte outside the shadow when the march is not
destructive; MARCH_DONE ends it with its result (R332 to R335). Tampering wipes the secure region and nothing else (R341).
The order of a march is the model's reading (log entry 99). -/
def Obligations.Memories : Prop :=
  (∀ (m : MemId) (s : State),
    ∃ t, exec (.scrubRead m 0) s = .next t ∧ InBlock s t ∧ t.b.agents = s.b.agents ∧
      scrubWord t.b (memNo m) = if scrubWord s.b (memNo m) + 1 < memWords (memNo m) then scrubWord s.b (memNo m) + 1 else 0) ∧
  (∀ (m : MemId) (k : Fin 137) (s : State),
    ∃ t, exec (.scrubRead m (BitVec.ofNat 137 (2 ^ k.val))) s = .next t ∧ InBlock s t ∧ t.b.agents = s.b.agents ∧
      (t.b.memSt (memNo m)).ueWords = (s.b.memSt (memNo m)).ueWords) ∧
  (∀ (m : MemId) (j k : Fin 137) (s : State), j ≠ k →
    ∃ t, exec (.scrubRead m (BitVec.ofNat 137 (2 ^ j.val + 2 ^ k.val))) s = .next t ∧ t = { s with mem := t.mem, b := t.b } ∧
      (t.b.memSt (memNo m)).ueWords.contains (scrubWord s.b (memNo m)) = true ∧
      ∀ a, outside (wordAt (memNo m) (scrubWord s.b (memNo m))) 16 a → mget 0 t.mem a = mget 0 s.mem a) ∧
  (∀ (m : MemId) (bank : Fin 64) (row : Fin 512) (s : State), (s.b.proc (memOwner (memNo m))).st = 0 →
    (s.b.memSt (memNo m)).repairDue.contains (bank.val, row.val) = true → bank.val < memBanks (memNo m) →
    ((s.b.memSt (memNo m)).inBank bank).length < 4 → (((s.b.memSt (memNo m)).inBank bank).any (fun e => e.2.1 == row.val)) = false →
    ∃ t, exec (.softRepair m bank row) s = .next t ∧ t = { s with b := { s.b with mems := t.b.mems, nv := t.b.nv, mon := t.b.mon } } ∧
      t.b.nv = { s.b.nv with softRows := s.b.nv.softRows ++ [(memNo m, bank.val, row.val)] } ∧
      t.b.memSt (memNo m) = { s.b.memSt (memNo m) with
        repairs := (s.b.memSt (memNo m)).repairs ++ [(bank.val, row.val, false)]
        repairDue := (s.b.memSt (memNo m)).repairDue.filter (· != (bank.val, row.val)) } ∧
      ∀ k, k ≠ memNo m → t.b.memSt k = s.b.memSt k) ∧
  (∀ (m : MemId) (bank : Fin 64) (row : Fin 512) (s : State), (s.b.memSt (memNo m)).repairDue.contains (bank.val, row.val) = false →
    exec (.softRepair m bank row) s = .next s) ∧
  (∀ (p : ProcNo) (comp : Byte) (set : Bool) (addr : BitVec 22) (v : Word) (sc : ScOff) (k off a : Nat) (s : State), (s.b.proc p).st = 0 →
    comp.toNat ≤ compCount p → k = min p.val 84 → off = (if k = 84 then addr.toNat else addr.toNat % 0x80000) / 4 * 4 → a = memBase k + off →
    (secureOff k off = true → p.val = 86 ∧ comp.toNat = compAttest) → (s.b.memSt k).ueWords.contains (off / 16) = false →
    ∃ t, exec (.aliasWrite p set addr ⟨v, comp, sc⟩) s = .next t ∧ t = { s with mem := t.mem } ∧
      laneAt t.mem a = (if set then laneAt s.mem a ||| v.toNat else laneAt s.mem a &&& (0xFFFFFFFF - v.toNat)) ∧
      ∀ x, outside a 4 x → mget 0 t.mem x = mget 0 s.mem x) ∧
  (∀ (p : ProcNo) (comp : Byte) (set : Bool) (addr : BitVec 22) (v : Word) (sc : ScOff) (s : State), (s.b.proc p).st = 0 → 84 ≤ p.val →
    comp.toNat ≤ compCount p → comp.toNat ≠ 0 → 0x3C0000 ≤ addr.toNat → ¬ (p.val = 86 ∧ comp.toNat = compAttest) →
    ((s.b.proc p).compTicks.filter (fun t => decide (s.tick < t + 4096))).length < s.b.rd HUB_FW.COMP_LIMIT 0 →
    ∃ t, exec (.aliasWrite p set addr ⟨v, comp, sc⟩) s = .next t ∧ InBlock s t ∧ (t.b.proc p).lastComp = comp.toNat ∧
      (t.b.proc p).compFaults = ((s.b.proc p).compFaults + 1) % 2 ^ 32) ∧
  (∀ (c : Cmd) (s : State), Passes 0x80 c s → marchDenied s c = none → (marchNames c.words).isEmpty = false →
    ((marchNames c.words).any (fun k => (s.b.memSt k).marching)) = false →
    ∃ t, exec (.march c) s = .next t ∧ InBlock s t ∧ Waits c (.march (marchNames c.words) 0 0 0) t ∧
      ∀ k ∈ marchNames c.words, (t.b.memSt k).marching = true ∧ (t.b.memSt k).seg = 0 ∧ (t.b.memSt k).destructive = c.opt 0) ∧
  (∀ (m : MemId) (s : State), (s.b.memSt (memNo m)).marching = true → (s.b.memSt (memNo m)).seg < memSegs (memNo m) →
    (s.b.memSt (memNo m)).destructive = false → (s.b.memSt (memNo m)).segDue ≤ s.tick →
    ∃ t, exec (.marchSegment m []) s = .next t ∧ t = { s with mem := t.mem, b := { s.b with regs := t.b.regs, mems := t.b.mems } } ∧
      t.b.memSt (memNo m) = { s.b.memSt (memNo m) with
        seg := (s.b.memSt (memNo m)).seg + 1, segDue := s.tick + s.b.segPeriod (memNo m) } ∧
      ∀ a, outside (memBase (memNo m) + 4096 * shadowSeg (memNo m)) 4096 a → mget 0 t.mem a = mget 0 s.mem a) ∧
  (∀ (m : MemId) (l : List (Fin 512)) (s : State), (s.b.memSt (memNo m)).marching = false ∨ s.tick < (s.b.memSt (memNo m)).segDue → exec (.marchSegment m l) s = .next s) ∧
  (∀ (m : MemId) (u : List (Fin 64 × Fin 512)) (s : State), (s.b.memSt (memNo m)).marching = true →
    memSegs (memNo m) ≤ (s.b.memSt (memNo m)).seg → (s.b.memSt (memNo m)).destructive = false →
    ∃ t, exec (.marchDone ⟨m, u⟩) s = .next t ∧ InBlock s t ∧ (t.b.memSt (memNo m)).marching = false ∧
      t.b.rd (memFld (memNo m) HUB_MEM.MARCH_STATE F_MEM.MARCH_STATE) (memInst (memNo m)) =
        if (s.b.memSt (memNo m)).failing.isEmpty then 2 else 3) ∧
  (∀ (m : MemId) (u : List (Fin 64 × Fin 512)) (s : State), (s.b.memSt (memNo m)).marching = false → exec (.marchDone ⟨m, u⟩) s = .next s) ∧
  (∀ (us : BitVec 16) (sc : ScOff) (s : State),
    ∃ t, exec (.tamperNAssert us sc) s = .next t ∧ t = { s with mem := t.mem, b := t.b } ∧ t.b.hub.attKey = none ∧
      t.b.bit HUB_SEC.KEY_VALID 0 = false ∧ t.b.bit HUB_SEC.TAMPER_SEEN 0 = true ∧ t.b.agents = s.b.agents ∧
      t.b.faults = s.b.faults ++ [{ src := 27, field := 255, detail := 0, off := sc }] ∧
      (∀ a, a < 0x40000 → mget 0 t.mem (memBase 84 + 0x3C0000 + a) = 0) ∧
      ∀ a, outside (memBase 84 + 0x3C0000) 0x40000 a → mget 0 t.mem a = mget 0 s.mem a)

/-- Self-test and life cycle. BIST_RUN starts the named fields and waits for them (R342). BIST_COMPLETE leaves the field's result in F_BIST and writes host
memory only for a command that waits for it (R343, R344). LIFECYCLE_ADVANCE: one that its rules allow takes the state and wipes the secure region (R339); one that they
do not allow is DENIED (R339, R340); a fusing record in MANUFACTURE programs the fuses that it names, and one of which a fuse does not read back is UNMET (R340).
Statuses and lengths of LIFECYCLE_ADVANCE follow the model's readings (log entry 103). -/
def Obligations.SelfTestAndLifeCycle : Prop :=
  (∀ (c : Cmd) (s : State), Passes 0x81 c s → ((c.fset 0).any (fun f => (s.b.fu f).bistRunning)) = false → c.bufLen 3 = 0 →
    s.b.bufCheck c 3 0 = none →
    ∃ t, exec (.bistRun c) s = .next t ∧ InBlock s t ∧ Waits c (.bist (c.fset 0) 0 0 0 0) t ∧ t.b.agents = s.b.agents ∧
      ∀ f ∈ c.fset 0, (t.b.fu f).bistRunning = true ∧ t.b.rd F_BIST.STATE f = 1) ∧
  (∀ (f : FieldNo) (i : BistIn) (s : State), (s.b.fu f).bistRunning = true →
    ∃ t, exec (.bistComplete f i) s = .next t ∧ t = { s with host := t.host, b := t.b } ∧ (t.b.fu f).bistRunning = false ∧
      t.b.rd F_BIST.STATE f = (if (s.b.itemsFailed f i.items).isEmpty then 2 else 3) ∧
      t.b.rd F_BIST.RUNS f = (s.b.rd F_BIST.RUNS f + 1) % 2 ^ F_BIST.RUNS.width ∧
      t.b.rd F_BIST.FAILED f = (s.b.itemsFailed f i.items).length % 2 ^ F_BIST.FAILED.width ∧
      ((∀ pt, pt < 3 → (s.b.port pt).flight = none) → t.host = s.host)) ∧
  (∀ (f : FieldNo) (i : BistIn) (s : State), (s.b.fu f).bistRunning = false → exec (.bistComplete f i) s = .next s) ∧
  (∀ (c : Cmd) (u : BitVec 4) (s : State), Passes 0x79 c s → lcDenied s c = none → c.bufLen 1 = 0 → s.b.bufCheck c 1 0 = none →
    (c.arg 0 % 4 = 2 → (s.b.nv.vminFused && s.b.nv.keysFused) = true) → c.arg 0 % 4 ≠ 3 → s.b.hub.staged.length < 16 →
    ∃ t, exec (.lifecycleAdvance ⟨c, u⟩) s = .next t ∧ t = { s with mem := t.mem, b := t.b } ∧ Answered 0x79 stDone c t ∧
      t.b.nv = { s.b.nv with lifecycle := c.arg 0 % 4 } ∧
      (c.arg 0 % 4 ≠ s.b.nv.lifecycle → t.b.hub.attKey = none ∧ ∀ a, a < 0x40000 → mget 0 t.mem (memBase 84 + 0x3C0000 + a) = 0) ∧
      ∀ a, outside (memBase 84 + 0x3C0000) 0x40000 a → mget 0 t.mem a = mget 0 s.mem a) ∧
  (∀ (c : Cmd) (u : BitVec 4) (d : Nat) (s : State), Passes 0x79 c s → lcDenied s c = some d → s.b.hub.staged.length < 16 →
    ∃ t, exec (.lifecycleAdvance ⟨c, u⟩) s = .next t ∧ InBlock s t ∧ Answered 0x79 stDenied c t ∧ t.b.nv = s.b.nv) ∧
  (∀ (c : Cmd) (u : BitVec 4) (r : List Nat) (s : State), Passes 0x79 c s → lcDenied s c = none → s.b.nv.lifecycle = 1 → c.arg 0 % 4 = 1 →
    c.bufLen 1 = 228 → s.b.bufCheck c 1 0 = none → r = readBuf s c 1 → fuseBad s.b.nv.waferId r = none → s.b.nv.fuseClash r = false →
    s.b.hub.staged.length < 16 →
    (s.b.nv.fuseFails r u.toNat = [] →
      ∃ t, exec (.lifecycleAdvance ⟨c, u⟩) s = .next t ∧ InBlock s t ∧ Answered 0x79 stDone c t ∧ t.b.nv = s.b.nv.fuse r (fieldAt r 6 2)) ∧
    (s.b.nv.fuseFails r u.toNat ≠ [] →
      ∃ t, exec (.lifecycleAdvance ⟨c, u⟩) s = .next t ∧ InBlock s t ∧ Answered 0x79 stUnmet c t ∧
        t.b.nv = s.b.nv.fuse r (fuseFlags r u.toNat)))

/-! ### Start-up and the command window -/

/-- The start. BOOT_IMAGE_LOAD ends the first three phases in phase 4, with every processor's section of the boot slot in SRAM, or in phase 3 with no bootable slot
(R350). BOOT_END begins the self-tests of every field and memory (R351, R353). SELFTEST_END goes on to RAMP, or is held in SHUTDOWN while a shutdown is not
acknowledged and cool (R353). GROUP_SOFT_START starts the next group (R355); point 0 is in force at the TAKEOVER (R359). ENGINE_CLOCK_START runs the
clock once every pair has arrived, and calibration goes through its steps and keeps its figures (R360, R361); READY_ENTRY puts the calibrated fields in service
(R362, R363); later fields come back one by one (R365 to R367). The phase number while SHUTDOWN holds the start and the figures after a window without 256 measured ticks
are the model's (log entries 106 and 107). -/
def Obligations.StartUp : Prop :=
  (∀ (i : BootIn) (s : State), s.b.pins.inReset = false → 1 ≤ s.b.phaseNo → s.b.phaseNo ≤ 3 →
    (i.present = false ∨ (s.b.bootable s.b.mon.imgA = false ∧ s.b.bootable s.b.mon.imgB = false) →
      ∃ t, exec (.bootImageLoad i) s = .next t ∧ InBlock s t ∧ t.b.hub.bootFailed = true ∧ t.b.phaseNo = 3 ∧ t.b.agents = s.b.agents) ∧
    (i.present = true → s.b.bootable s.b.mon.imgA = true ∨ s.b.bootable s.b.mon.imgB = true →
      ∃ (useB : Bool) (t : State), exec (.bootImageLoad i) s = .next t ∧ t = { s with mem := t.mem, b := t.b } ∧ t.b.hub.bootFailed = false ∧
        t.b.phaseNo = 4 ∧ t.b.bit HUB_MONUMENT.READY 0 = true ∧ t.b.agents = s.b.agents ∧
        s.b.bootable (s.b.mon.slot useB) = true ∧ t.b.mon.forceB = useB ∧
        t.mem = (List.range 87).foldl (placeSection (s.b.mon.slot useB)) s.mem ∧
        t.b.rd HUB_FW.ACTIVE_VER 0 = imgVer (s.b.mon.slot useB) % 2 ^ 32)) ∧
  (∀ (i : BootIn) (s : State), 3 < s.b.phaseNo → exec (.bootImageLoad i) s = .next s) ∧
  (∀ s : State, s.b.phaseNo = 4 → s.b.hub.bootFailed = false →
    ∃ t, exec .bootEnd s = .next t ∧ InBlock s t ∧ t.b.phaseNo = 5 ∧ t.b.mgr = 2 ∧ t.b.hub.bootDone = true ∧
      t.b.bit HUB_SEC.KEY_VALID 0 = true ∧ (∀ k, k < 85 → (t.b.memSt k).marching = true) ∧
      ∀ f : FieldNo, (t.b.fu f).bistRunning = true) ∧
  (∀ s : State, s.b.phaseNo ≠ 4 → exec .bootEnd s = .next s) ∧
  (∀ s : State, s.b.phaseNo = 5 → (s.b.mems.any (fun e => e.2.marching)) = false → (s.b.fields.any (fun e => e.2.bistRunning)) = false →
    (s.b.mon.acked = true → s.b.mon.shutdownsRead = [] ∨ s.b.exitReady = true → ∃ t, exec .selftestEnd s = .next t ∧
      t = { s with b := { s.b with regs := t.b.regs, hub := t.b.hub } } ∧ t.b.phaseNo = 6 ∧ t.b.hub.group = 0 ∧ t.b.hub.shutHold = s.b.hub.shutHold) ∧
    (s.b.mon.acked = false ∨ (s.b.mon.shutdownsRead ≠ [] ∧ s.b.exitReady = false) → ∃ t, exec .selftestEnd s = .next t ∧ InBlock s t ∧ t.b.phaseNo = 6 ∧ t.b.hub.shutHold = true ∧ t.b.mgr = 8)) ∧
  (∀ s : State, s.b.phaseNo = 6 → s.b.hub.shutHold = false → s.b.hub.tripped = false →
    (7 ≤ s.b.hub.group → s.b.nextGroup ≠ []) →
    (s.b.hub.group = 0 ∨ (s.b.hub.groupTick + 256 ≤ s.tick ∧ s.b.startsEnded = true)) →
    ∃ t, exec .groupSoftStart s = .next t ∧ InBlock s t ∧ t.b.hub.group = s.b.hub.group + 1 ∧ t.b.hub.groupTick = s.tick ∧
      ∀ f ∈ s.b.nextGroup, (t.b.rail (railOf f 0)).run = 1 ∧ (t.b.rail (railOf f 1)).run = 1 ∧ (t.b.fu f).started = true) ∧
  (∀ s : State, s.b.phaseNo ≠ 6 → exec .groupSoftStart s = .next s ∧ exec .takeover s = .next s) ∧
  (∀ s : State, s.b.phaseNo = 6 → s.b.groupsOver s.tick = true →
    ∃ t, exec .takeover s = .next t ∧ InBlock s t ∧ t.b.phaseNo = 7 ∧ t.b.hub.takenOver = true ∧ t.b.point = 0 ∧ t.b.agents = s.b.agents) ∧
  (∀ (f : FieldNo) (s : State), s.b.phaseNo = 7 → s.b.railsOn f = true →
    ((allFields.filter s.b.railsOn).all (fun f => (s.b.repOf f).arrived && !s.b.hub.arrived.contains f)) = true →
    ∃ t, exec .engineClockStart s = .next t ∧ InBlock s t ∧ t.b.hub.clockOn = true ∧ t.b.phaseNo = 8 ∧ (t.b.fu f).calStep = 1 ∧
      (t.b.fu f).bistRunning = true) ∧
  (∀ s : State, s.b.phaseNo ≠ 7 → exec .engineClockStart s = .next s) ∧
  (∀ (f : FieldNo) (s : State), (s.b.fu f).calStep = 1 → (s.b.fu f).bistRunning = false → s.b.phaseNo ≠ 0 →
    s.b.rd F_BIST.RUN_TICK f ≠ s.tick % 2 ^ 32 →
    ∃ t, exec (.calibrationStep f) s = .next t ∧ t = { s with b := { s.b with fields := t.b.fields } } ∧ (t.b.fu f).calStep = 2 ∧
      (t.b.fu f).calFrom = s.tick ∧ ∀ k, k ≠ f.val → t.b.fu k = s.b.fu k) ∧
  (∀ (f : FieldNo) (s : State), (s.b.fu f).calStep = 1 → (s.b.fu f).bistRunning = false → s.b.phaseNo = 0 →
    s.b.rd F_BIST.RUN_TICK f ≠ s.tick % 2 ^ 32 →
    ∃ t, exec (.calibrationStep f) s = .next t ∧ t = { s with b := { s.b with fields := t.b.fields } } ∧
      t.b.fu f = { s.b.fu f with calStep := 0, serviceDue := true }) ∧
  (∀ (f : FieldNo) (k : Nat) (s : State), (s.b.fu f).calStep = k → k = 2 ∨ k = 4 → (s.b.fu f).calFrom + 64 ≤ s.tick →
    ∃ t, exec (.calibrationStep f) s = .next t ∧ t = { s with b := { s.b with fields := t.b.fields } } ∧ (t.b.fu f).calStep = k + 1 ∧
      (t.b.fu f).calFrom = s.tick ∧ (t.b.fu f).calSum = 0) ∧
  (∀ (f : FieldNo) (s : State), (s.b.fu f).calStep = 3 → (s.b.fu f).calFrom + 256 ≤ s.tick →
    ∃ t, exec (.calibrationStep f) s = .next t ∧ t = { s with b := { s.b with fields := t.b.fields } } ∧ (t.b.fu f).calStep = 4 ∧
      (t.b.fu f).calIdle = (s.b.fu f).calSum / max 1 (s.b.fu f).calTicks / 2000) ∧
  (∀ (f : FieldNo) (s : State), (s.b.fu f).calStep = 0 → exec (.calibrationStep f) s = .next s) ∧
  (∀ (f : FieldNo) (x : Nat × Nat) (s : State), (s.b.fu f).calStep = 5 → (s.b.fu f).calFrom + 256 ≤ s.tick →
    x = (if (s.b.fu f).calBad || decide ((s.b.fu f).calTicks < 256) then s.b.gradeFigures f
      else ((s.b.fu f).calSum / (s.b.fu f).calTicks / 2000, (s.b.fu f).calIdle)) →
    ∃ t, exec (.calibrationComplete f) s = .next t ∧ InBlock s t ∧ (t.b.fu f).calStep = 0 ∧ (t.b.fu f).calibrated = true ∧
      t.b.rd F_LIMIT.FLOOR0 f = x.1 % 2 ^ F_LIMIT.FLOOR0.width ∧ t.b.rd F_LIMIT.IDLE0 f = x.2 % 2 ^ F_LIMIT.IDLE0.width) ∧
  (∀ (f : FieldNo) (s : State), (s.b.fu f).calStep ≠ 5 → exec (.calibrationComplete f) s = .next s) ∧
  (∀ s : State, s.b.phaseNo = 9 → s.b.point = s.b.rd HUB_CONTOUR.BOOT_POINT 0 → s.b.hub.steps = [] →
    ∃ t, exec .readyEntry s = .next t ∧ InBlock s t ∧ t.b.phaseNo = 0 ∧
      ∀ f : FieldNo, t.b.isOut f = (s.b.isOut f && !((s.b.fu f).calibrated && s.b.railsOn f))) ∧
  (∀ s : State, s.b.phaseNo ≠ 9 → exec .readyEntry s = .next s) ∧
  (∀ (f : FieldNo) (s : State), (s.b.fu f).serviceDue = true → s.b.railsOn f = true →
    ∃ t, exec (.fieldBackInService f) s = .next t ∧ InBlock s t ∧ t.b.isOut f = false ∧ (t.b.fu f).serviceDue = false ∧
      ∀ g : FieldNo, g ≠ f → t.b.isOut g = s.b.isOut g) ∧
  (∀ (f : FieldNo) (s : State), (s.b.fu f).serviceDue = false → exec (.fieldBackInService f) s = .next s) ∧
  (∀ (f : FieldNo) (s : State), s.b.rd F_ID.OUT_CAUSE f = 7 → s.b.isOut f = true → 1024 ≤ (s.b.fu f).vinGood → s.b.powerOk = true →
    s.b.mgr ≠ 8 → s.b.hub.takenOver = true → s.b.pairUp f = false →
    (s.b.starting.length < 12 → ∃ t, exec (.fieldVinRestart f) s = .next t ∧ InBlock s t ∧ (t.b.rail (railOf f 0)).run = 1 ∧
      (t.b.rail (railOf f 1)).run = 1 ∧ (t.b.fu f).started = true) ∧
    (12 ≤ s.b.starting.length → exec (.fieldVinRestart f) s =
      .next { s with b := s.b.modFu f (fun u => { u with startQueued := true }) })) ∧
  (∀ (f : FieldNo) (s : State), (s.b.fu f).vinGood < 1024 → exec (.fieldVinRestart f) s = .next s)

/-- The window's own commands: PING answers wafer time and the manager state with no journal entry (R381, R389); LEASE takes or releases the
lease, which ends by itself after LEASE_TIMEOUT with one event (R391, R392); QUERY_STATE answers its state word, wafer time, the open
contexts, the fault status and the fields out of service (R381); H1 appends the staged
entries (R389). RAIL_ENABLE queues the named fields for a start, and RAIL_DISABLE stops the named fields that are up, when no named field holds a ticket
(R198). That RELEASE takes no lease is the model's reading (log entry 43). -/
def Obligations.WindowAndRails : Prop :=
  (∀ (c : Cmd) (s : State), Passes 0x01 c s →
    ∃ t, exec (.ping c) s = .next t ∧ InBlock s t ∧ Answered 0x01 stDone c t ∧ rspWord c t 0 = s.tick % 2 ^ 32 ∧
      rspWord c t 1 = s.tick / 2 ^ 32 % 2 ^ 16 + 2 ^ 16 * s.b.mgr ∧ t.b.hub.staged = s.b.hub.staged) ∧
  (∀ (c : Cmd) (s : State), Passes 0x02 c s →
    ∃ t, exec (.lease c) s = .next t ∧ InBlock s t ∧ Answered 0x02 stDone c t ∧
      t.b.flag HUB_LEASE.HELD 0 (portNo c.port) = (!c.opt 0) ∧ rspWord c t 0 = t.b.rd (HUB_LEASE.LEASE_EPOCH (portNo c.port)) 0 ∧
      (c.opt 0 = false → t.b.bit HUB_LEASE.UNATTENDED 0 = false)) ∧
  (∀ (c : Cmd) (s : State), Passes 0x03 c s →
    ∃ t, exec (.queryState c) s = .next t ∧ InBlock s t ∧ Answered 0x03 stDone c t ∧ rspWord c t 0 = s.b.stateWord ∧
      rspWord c t 1 = s.tick % 2 ^ 32 ∧ rspWord c t 4 = s.b.openCount % 2 ^ 32 ∧ rspWord c t 5 = s.b.rd HUB_FAULT.FAULT_STATUS 0 ∧
      rspWord c t 7 = 84 - s.b.inService.length) ∧
  (∀ (p : CmdPort) (s : State), s.b.flag HUB_LEASE.HELD 0 (portNo p) = true → s.b.leaseFrom (portNo p) + s.b.leaseTicks ≤ s.tick →
    ∃ t, exec (.leaseExpiry p) s = .next t ∧ InBlock s t ∧ t.b.flag HUB_LEASE.HELD 0 (portNo p) = false ∧
      t.b.hub.staged.length = s.b.hub.staged.length + 1 ∧ t.b.agents = s.b.agents ∧
      t.b.faults = s.b.faults ++ [{ src := 30, field := 255, detail := portNo p, off := 0 }]) ∧
  (∀ (p : CmdPort) (s : State), s.b.flag HUB_LEASE.HELD 0 (portNo p) = false → exec (.leaseExpiry p) s = .next s) ∧
  (∀ s : State, (s.b.proc 85).st = 0 → (∀ pt, pt < 3 → (s.b.port pt).flight = none) →
    ∃ t, exec .journalAppend s = .next t ∧ InBlock s t ∧ t.b.hub.staged = [] ∧
      t.b.rd HUB_JOURNAL.JOURNAL_WR 0 = (s.b.rd HUB_JOURNAL.JOURNAL_WR 0 + s.b.hub.staged.length) % 2 ^ HUB_JOURNAL.JOURNAL_WR.width) ∧
  (∀ s : State, (s.b.proc 85).st ≠ 0 → exec .journalAppend s = .next s) ∧
  (∀ (c : Cmd) (l : List Nat) (s : State), Passes 0xA0 c s → l = (c.fset 0).filter (fun f => s.b.isOut f) →
    (l.isEmpty = false → ∃ t, exec (.railEnable c) s = .next t ∧ InBlock s t ∧ Waits c (.enable l 0 0) t ∧ t.b.rails = s.b.rails ∧
      ∀ f ∈ l, t.b.bit (F_RAIL.LATCHED_OFF 0) f = false ∧ t.b.bit (F_RAIL.LATCHED_OFF 1) f = false ∧
        (s.b.pairUp f = false → (t.b.fu f).startQueued = true)) ∧
    (l = [] → s.b.hub.staged.length < 15 → ∃ t, exec (.railEnable c) s = .next t ∧ InBlock s t ∧ Answered 0xA0 stDone c t ∧
      t.b.rails = s.b.rails)) ∧
  (∀ (c : Cmd) (s : State), Passes 0xA1 c s → ((c.fset 0).any (fun f => s.b.holdsTickets f)) = false →
    (((c.fset 0).filter (fun f => s.b.pairUp f)).isEmpty = false → ∃ t, exec (.railDisable c) s = .next t ∧ InBlock s t ∧
      Waits c (.disable ((c.fset 0).filter (fun f => s.b.pairUp f)) (c.opt 0)) t ∧
      ∀ f ∈ c.fset 0, (s.b.rail (railOf f 0)).run = 1 ∨ (s.b.rail (railOf f 0)).run = 2 → (t.b.rail (railOf f 0)).run = 3) ∧
    (((c.fset 0).filter (fun f => s.b.pairUp f)) = [] → s.b.hub.staged.length < 15 → ∃ t, exec (.railDisable c) s = .next t ∧ InBlock s t ∧
      Answered 0xA1 stDone c t ∧ t.b.rails = s.b.rails))

/-- RAIL_DISABLE that names a field holding a WAITING, GRANTED or RUNNING ticket answers STATE_REJECT and changes nothing (R368). -/
def Obligations.RailDisableWithTickets : Prop :=
  ∀ (c : Cmd) (s : State), Passes 0xA1 c s → ((c.fset 0).any (fun f => s.b.holdsTickets f)) = true → s.b.hub.staged.length < 16 →
    ∃ t, exec (.railDisable c) s = .next t ∧ OnlyAnswer c s t ∧ Answered 0xA1 stStateReject c t ∧ t.b.accounts = s.b.accounts
end

