-- ==== Sys2Proof/Laws/Map.lean ====
section
/-! SUPPORT. Sparse maps: what a read gives after a write, and that every write keeps the canonical form. -/

namespace Sys2Proof.Machine

variable {α : Type} {d v w : α} {m : List (Nat × α)} {k j : Nat}

theorem keysRise_iff : keysRise m = true ↔ m.Pairwise (fun x y => x.1 < y.1) := by
  induction m with
  | nil => simp [keysRise]
  | cons x r ih =>
    cases r with
    | nil => simp [keysRise]
    | cons y r =>
      have h : keysRise (x :: y :: r) = (decide (x.1 < y.1) && keysRise (y :: r)) := rfl
      rw [h, Bool.and_eq_true, ih, decide_eq_true_eq, List.pairwise_cons (a := x)]
      constructor
      · rintro ⟨h1, h2⟩
        refine ⟨fun z hz => ?_, h2⟩
        rcases List.mem_cons.1 hz with rfl | hz
        · exact h1
        · exact Nat.lt_trans h1 ((List.pairwise_cons.1 h2).1 z hz)
      · rintro ⟨h1, h2⟩
        exact ⟨h1 y (List.mem_cons_self ..), h2⟩

theorem mget_merase_same : mget d (merase m k) k = d := by
  induction m with
  | nil => rfl
  | cons x r ih =>
    by_cases h : x.1 = k
    · simpa [merase, h] using ih
    · simpa [merase, mget, h] using ih

theorem mget_merase_other (h : j ≠ k) : mget d (merase m k) j = mget d m j := by
  induction m with
  | nil => rfl
  | cons x r ih =>
    obtain ⟨a, y⟩ := x
    have ih' : mget d (List.filter (fun e => e.1 != k) r) j = mget d r j := ih
    by_cases h' : a = k
    · subst h'
      simp [merase, mget, ih', Ne.symm h]
    · by_cases h2 : a = j <;> simp [merase, mget, h', h2, ih']
      subst h2
      simp [h, mget]

theorem mget_mins_same (h : ∀ x ∈ m, x.1 ≠ k) : mget d (mins k v m) k = v := by
  induction m with
  | nil => simp [mins, mget]
  | cons x r ih =>
    have hx := h x (List.mem_cons_self ..)
    have hr := ih (fun y hy => h y (List.mem_cons_of_mem _ hy))
    by_cases h' : k < x.1
    · simp [mins, mget, h']
    · simp [mins, mget, h', hx, hr]

theorem mget_mins_other (h : j ≠ k) : mget d (mins k v m) j = mget d m j := by
  induction m with
  | nil => simp [mins, mget, Ne.symm h]
  | cons x r ih =>
    by_cases h' : k < x.1
    · simp [mins, mget, h', Ne.symm h]
    · simp [mins, mget, h', ih]

theorem merase_ne : ∀ x ∈ merase m k, x.1 ≠ k := by
  intro x hx
  simpa using (List.mem_filter.1 hx).2

/-- A read after a write to the same key gives the value written. -/
theorem mget_mput_same [DecidableEq α] : mget d (mput d m k v) k = v := by
  unfold mput
  split
  · rename_i h; rw [h]; exact mget_merase_same
  · exact mget_mins_same merase_ne

/-- A write leaves every other key alone. -/
theorem mget_mput_other [DecidableEq α] {e : α} (h : j ≠ k) : mget e (mput d m k v) j = mget e m j := by
  unfold mput
  split
  · exact mget_merase_other h
  · rw [mget_mins_other h, mget_merase_other h]

theorem mem_mins {x : Nat × α} : x ∈ mins k v m ↔ x = (k, v) ∨ x ∈ m := by
  induction m with
  | nil => simp [mins]
  | cons y r ih =>
    by_cases h : k < y.1
    · simp [mins, h]
    · simp only [mins, if_neg h, List.mem_cons, ih]
      tauto

theorem pairwise_mins (hm : m.Pairwise (fun x y => x.1 < y.1)) (hk : ∀ x ∈ m, x.1 ≠ k) :
    (mins k v m).Pairwise (fun x y => x.1 < y.1) := by
  induction m with
  | nil => simp [mins]
  | cons y r ih =>
    obtain ⟨h1, h2⟩ := List.pairwise_cons.1 hm
    by_cases h : k < y.1
    · simp only [mins, if_pos h, List.pairwise_cons]
      refine ⟨fun z hz => ?_, h1, h2⟩
      rcases List.mem_cons.1 hz with rfl | hz
      · exact h
      · exact Nat.lt_trans h (h1 z hz)
    · simp only [mins, if_neg h, List.pairwise_cons]
      refine ⟨fun z hz => ?_, ih h2 (fun x hx => hk x (List.mem_cons_of_mem _ hx))⟩
      rcases mem_mins.1 hz with rfl | hz
      · have := hk y (List.mem_cons_self ..)
        show y.1 < k
        omega
      · exact h1 z hz

/-- A write keeps the canonical form. -/
theorem mwf_mput [DecidableEq α] (h : mwf d m = true) : mwf d (mput d m k v) = true := by
  simp only [mwf, Bool.and_eq_true, keysRise_iff, List.all_eq_true, bne_iff_ne, ne_eq] at h ⊢
  obtain ⟨h1, h2⟩ := h
  have e1 : (merase m k).Pairwise (fun x y => x.1 < y.1) := h1.sublist List.filter_sublist
  have e2 : ∀ x ∈ merase m k, ¬ x.2 = d := fun x hx => h2 x (List.mem_filter.1 hx).1
  unfold mput
  split
  · exact ⟨e1, e2⟩
  · rename_i hv
    refine ⟨pairwise_mins e1 merase_ne, fun x hx => ?_⟩
    rcases mem_mins.1 hx with rfl | hx
    · exact hv
    · exact e2 x hx

/-- The empty map is canonical. -/
theorem mwf_nil [DecidableEq α] : mwf d ([] : List (Nat × α)) = true := rfl

end Sys2Proof.Machine
end

