-- ==== Sys2Proof/Laws/Memory.lean ====
section
/-!
SUPPORT. Memory: every operation on the two byte maps keeps their canonical form and every byte that it does not name, and what is
written is read back.
-/

namespace Sys2Proof.Machine

open Sys2Proof

theorem Memory.wf_reset : Memory.wf State.reset.mem = true ∧ Memory.wf State.reset.host = true := ⟨rfl, rfl⟩

/-- One byte written keeps the form. -/
theorem Memory.wf_mput {m : List Host.Cell} (k : Nat) (v : Byte) (h : Memory.wf m = true) : Memory.wf (mput 0 m k v) = true := mwf_mput h

/-! ### Runs of bytes -/

theorem putBytes_wf (l : List Nat) : ∀ (m : List Host.Cell) (a : Nat), Memory.wf m = true → Memory.wf (putBytes m a l) = true := by
  induction l with
  | nil => exact fun _ _ h => h
  | cons x r ih => exact fun m a h => ih _ _ (Memory.wf_mput _ _ h)

/-- A byte outside the run stands. -/
theorem putBytes_other (l : List Nat) : ∀ (m : List Host.Cell) (a k : Nat), k < a ∨ a + l.length ≤ k →
    mget 0 (putBytes m a l) k = mget 0 m k := by
  induction l with
  | nil => exact fun _ _ _ _ => rfl
  | cons x r ih =>
    intro m a k h
    simp only [List.length_cons] at h
    rw [putBytes, ih _ _ _ (by omega), mget_mput_other (by omega)]

/-- Byte `i` of the run. -/
theorem putBytes_at (l : List Nat) : ∀ (m : List Host.Cell) (a i : Nat), i < l.length →
    mget 0 (putBytes m a l) (a + i) = BitVec.ofNat 8 (l.getD i 0) := by
  induction l with
  | nil => exact fun _ _ _ h => absurd h (Nat.not_lt_zero _)
  | cons x r ih =>
    intro m a i h
    cases i with
    | zero => rw [putBytes, putBytes_other _ _ _ _ (by omega), Nat.add_zero, mget_mput_same]; rfl
    | succ i =>
      rw [putBytes, show a + (i + 1) = a + 1 + i by omega, ih _ _ _ (by simpa using h)]
      rfl

/-- Reading a run back gives its bytes. -/
theorem getBytes_putBytes (l : List Nat) (m : List Host.Cell) (a : Nat) (h : ∀ x ∈ l, x < 256) :
    getBytes (putBytes m a l) a l.length = l := by
  apply List.ext_getElem
  · simp [getBytes]
  · intro i h1 h2
    have : l[i] < 256 := h _ (List.getElem_mem h2)
    simp only [getBytes, List.getElem_map, List.getElem_range]
    rw [putBytes_at _ _ _ _ h2]
    simp [h2]
    omega

/-! ### The host ring -/

theorem putRing_wf (base n : Nat) (l : List TraceRec) : ∀ (m : List Host.Cell) (k : Nat), Memory.wf m = true →
    Memory.wf (putRing m base n k l) = true := by
  induction l with
  | nil => exact fun _ _ h => h
  | cons r l ih => exact fun m k h => ih _ _ (putBytes_wf _ _ _ h)

/-- A record takes 16 bytes. -/
@[simp] theorem leBytes_length (n : Nat) : ∀ v, (leBytes n v).length = n := by
  induction n with
  | zero => exact fun _ => rfl
  | succ n ih => exact fun v => by simp [leBytes, ih]

@[simp] theorem TraceRec.bytes_length (r : TraceRec) : r.bytes.length = 16 := by simp [TraceRec.bytes]

/-- A byte outside every record written stands. -/
theorem putRing_other (base n a : Nat) (l : List TraceRec) : ∀ (m : List Host.Cell) (k : Nat),
    (∀ i, i < l.length → a < base + 16 * ((k + i) % n) ∨ base + 16 * ((k + i) % n) + 16 ≤ a) →
    mget 0 (putRing m base n k l) a = mget 0 m a := by
  induction l with
  | nil => exact fun _ _ _ => rfl
  | cons r l ih =>
    intro m k h
    rw [putRing, ih, putBytes_other]
    · simpa using h 0 (by simp)
    · intro i hi
      have := h (i + 1) (by simpa using hi)
      rwa [show k + (i + 1) = k + 1 + i by omega] at this

/-! ### SRAM -/

theorem foldl_wf {α : Type} (g : List Host.Cell → α → List Host.Cell) (h : ∀ m x, Memory.wf m = true → Memory.wf (g m x) = true)
    (l : List α) : ∀ m, Memory.wf m = true → Memory.wf (l.foldl g m) = true := by
  induction l with
  | nil => exact fun _ hm => hm
  | cons x l ih => exact fun m hm => ih _ (h m x hm)

theorem foldl_other {α : Type} (g : List Host.Cell → α → List Host.Cell) (k : Nat) (l : List α)
    (h : ∀ m, ∀ x ∈ l, mget 0 (g m x) k = mget 0 m k) : ∀ m, mget 0 (l.foldl g m) k = mget 0 m k := by
  induction l with
  | nil => exact fun _ => rfl
  | cons x l ih =>
    intro m
    rw [List.foldl_cons, ih (fun m y hy => h m y (List.mem_cons_of_mem _ hy)), h m x (List.mem_cons_self ..)]

theorem flipWord_wf (m : List Host.Cell) (a mask : Nat) (h : Memory.wf m = true) : Memory.wf (flipWord m a mask) = true := by
  refine foldl_wf _ (fun m x hm => ?_) _ _ h
  simp only
  split
  · exact hm
  · exact Memory.wf_mput _ _ hm

/-- Flipping touches the 16 bytes of the word alone. -/
theorem flipWord_other (m : List Host.Cell) (a mask k : Nat) (h : k < a ∨ a + 16 ≤ k) : mget 0 (flipWord m a mask) k = mget 0 m k := by
  refine foldl_other _ k _ (fun m x hx => ?_) m
  have hx := List.mem_range.1 hx
  simp only
  split
  · rfl
  · exact mget_mput_other (by omega)

theorem clearBytes_wf (m : List Host.Cell) (a n : Nat) (h : Memory.wf m = true) : Memory.wf (clearBytes m a n) = true := by
  simp only [Memory.wf, mwf, Bool.and_eq_true, keysRise_iff] at h ⊢
  refine ⟨h.1.filter _, ?_⟩
  rw [List.all_eq_true] at h ⊢
  exact fun x hx => h.2 x (List.mem_filter.1 hx).1

/-- Clearing touches the run alone, and the run reads 0. -/
theorem clearBytes_other (m : List Host.Cell) (a n k : Nat) (h : k < a ∨ a + n ≤ k) : mget 0 (clearBytes m a n) k = mget 0 m k := by
  induction m with
  | nil => rfl
  | cons e m ih =>
    by_cases hk : e.1 = k
    · have : (!(decide (a ≤ e.1) && decide (e.1 < a + n))) = true := by simp; omega
      rw [clearBytes, List.filter_cons, if_pos this]
      simp [mget, hk]
    · rw [clearBytes, List.filter_cons]
      split
      · simp only [mget, hk, if_false]; exact ih
      · simp only [mget, hk, if_false]; exact ih

theorem clearBytes_same (m : List Host.Cell) (a n k : Nat) (h : a ≤ k ∧ k < a + n) : mget 0 (clearBytes m a n) k = 0 := by
  induction m with
  | nil => rfl
  | cons e m ih =>
    rw [clearBytes, List.filter_cons]
    split
    · next hp =>
      have : e.1 ≠ k := by
        rintro rfl
        simp at hp
        omega
      simp only [mget, this, if_false]
      exact ih
    · exact ih

theorem copyToShadow_wf (k seg : Nat) (m : List Host.Cell) (h : Memory.wf m = true) : Memory.wf (copyToShadow k seg m) = true :=
  foldl_wf _ (fun _ _ hm => Memory.wf_mput _ _ hm) _ _ (clearBytes_wf _ _ _ h)

/-- A byte outside the shadow stands. -/
theorem copyToShadow_other (k seg a : Nat) (m : List Host.Cell)
    (h : a < memBase k + 4096 * shadowSeg k ∨ memBase k + 4096 * shadowSeg k + 4096 ≤ a) :
    mget 0 (copyToShadow k seg m) a = mget 0 m a := by
  rw [copyToShadow, foldl_other, clearBytes_other _ _ _ _ h]
  intro m' e he
  simp only [List.mem_filter, Bool.and_eq_true, decide_eq_true_eq] at he
  exact mget_mput_other (by omega)

end Sys2Proof.Machine
end

