-- ==== Sys2Proof/Laws/State.lean ====
section
/-! SUPPORT. One lemma per field of the block per update: what the update leaves alone. -/

namespace Sys2Proof.Machine

open Sys2Proof

variable (b : Block)

@[simp] theorem Block.wr_shadow (x : Fld) (i v : Nat) : (b.wr x i v).shadow = b.shadow := rfl
@[simp] theorem Block.wr_pages (x : Fld) (i v : Nat) : (b.wr x i v).pages = b.pages := rfl
@[simp] theorem Block.wr_agents (x : Fld) (i v : Nat) : (b.wr x i v).agents = b.agents := rfl
@[simp] theorem Block.wr_parcels (x : Fld) (i v : Nat) : (b.wr x i v).parcels = b.parcels := rfl
@[simp] theorem Block.wr_cad (x : Fld) (i v : Nat) : (b.wr x i v).cad = b.cad := rfl
@[simp] theorem Block.wr_sensors (x : Fld) (i v : Nat) : (b.wr x i v).sensors = b.sensors := rfl
@[simp] theorem Block.wr_slots (x : Fld) (i v : Nat) : (b.wr x i v).slots = b.slots := rfl
@[simp] theorem Block.wr_ctxs (x : Fld) (i v : Nat) : (b.wr x i v).ctxs = b.ctxs := rfl
@[simp] theorem Block.wr_accounts (x : Fld) (i v : Nat) : (b.wr x i v).accounts = b.accounts := rfl
@[simp] theorem Block.wr_colls (x : Fld) (i v : Nat) : (b.wr x i v).colls = b.colls := rfl
@[simp] theorem Block.wr_models (x : Fld) (i v : Nat) : (b.wr x i v).models = b.models := rfl
@[simp] theorem Block.wr_fields (x : Fld) (i v : Nat) : (b.wr x i v).fields = b.fields := rfl
@[simp] theorem Block.wr_rings (x : Fld) (i v : Nat) : (b.wr x i v).rings = b.rings := rfl
@[simp] theorem Block.wr_rails (x : Fld) (i v : Nat) : (b.wr x i v).rails = b.rails := rfl
@[simp] theorem Block.wr_phases (x : Fld) (i v : Nat) : (b.wr x i v).phases = b.phases := rfl
@[simp] theorem Block.wr_ports (x : Fld) (i v : Nat) : (b.wr x i v).ports = b.ports := rfl
@[simp] theorem Block.wr_traces (x : Fld) (i v : Nat) : (b.wr x i v).traces = b.traces := rfl
@[simp] theorem Block.wr_ties (x : Fld) (i v : Nat) : (b.wr x i v).ties = b.ties := rfl
@[simp] theorem Block.wr_procs (x : Fld) (i v : Nat) : (b.wr x i v).procs = b.procs := rfl
@[simp] theorem Block.wr_mems (x : Fld) (i v : Nat) : (b.wr x i v).mems = b.mems := rfl
@[simp] theorem Block.wr_mon (x : Fld) (i v : Nat) : (b.wr x i v).mon = b.mon := rfl
@[simp] theorem Block.wr_nv (x : Fld) (i v : Nat) : (b.wr x i v).nv = b.nv := rfl
@[simp] theorem Block.wr_hub (x : Fld) (i v : Nat) : (b.wr x i v).hub = b.hub := rfl
@[simp] theorem Block.wr_pins (x : Fld) (i v : Nat) : (b.wr x i v).pins = b.pins := rfl
@[simp] theorem Block.wr_faults (x : Fld) (i v : Nat) : (b.wr x i v).faults = b.faults := rfl
@[simp] theorem Block.wr_free (x : Fld) (i v : Nat) : (b.wr x i v).free = b.free := rfl

@[simp] theorem Block.wrS_regs (x : Fld) (i v : Nat) : (b.wrS x i v).regs = b.regs := rfl
@[simp] theorem Block.wrS_pages (x : Fld) (i v : Nat) : (b.wrS x i v).pages = b.pages := rfl
@[simp] theorem Block.wrS_agents (x : Fld) (i v : Nat) : (b.wrS x i v).agents = b.agents := rfl
@[simp] theorem Block.wrS_parcels (x : Fld) (i v : Nat) : (b.wrS x i v).parcels = b.parcels := rfl
@[simp] theorem Block.wrS_cad (x : Fld) (i v : Nat) : (b.wrS x i v).cad = b.cad := rfl
@[simp] theorem Block.wrS_sensors (x : Fld) (i v : Nat) : (b.wrS x i v).sensors = b.sensors := rfl
@[simp] theorem Block.wrS_slots (x : Fld) (i v : Nat) : (b.wrS x i v).slots = b.slots := rfl
@[simp] theorem Block.wrS_ctxs (x : Fld) (i v : Nat) : (b.wrS x i v).ctxs = b.ctxs := rfl
@[simp] theorem Block.wrS_accounts (x : Fld) (i v : Nat) : (b.wrS x i v).accounts = b.accounts := rfl
@[simp] theorem Block.wrS_colls (x : Fld) (i v : Nat) : (b.wrS x i v).colls = b.colls := rfl
@[simp] theorem Block.wrS_models (x : Fld) (i v : Nat) : (b.wrS x i v).models = b.models := rfl
@[simp] theorem Block.wrS_fields (x : Fld) (i v : Nat) : (b.wrS x i v).fields = b.fields := rfl
@[simp] theorem Block.wrS_rings (x : Fld) (i v : Nat) : (b.wrS x i v).rings = b.rings := rfl
@[simp] theorem Block.wrS_rails (x : Fld) (i v : Nat) : (b.wrS x i v).rails = b.rails := rfl
@[simp] theorem Block.wrS_phases (x : Fld) (i v : Nat) : (b.wrS x i v).phases = b.phases := rfl
@[simp] theorem Block.wrS_ports (x : Fld) (i v : Nat) : (b.wrS x i v).ports = b.ports := rfl
@[simp] theorem Block.wrS_traces (x : Fld) (i v : Nat) : (b.wrS x i v).traces = b.traces := rfl
@[simp] theorem Block.wrS_ties (x : Fld) (i v : Nat) : (b.wrS x i v).ties = b.ties := rfl
@[simp] theorem Block.wrS_procs (x : Fld) (i v : Nat) : (b.wrS x i v).procs = b.procs := rfl
@[simp] theorem Block.wrS_mems (x : Fld) (i v : Nat) : (b.wrS x i v).mems = b.mems := rfl
@[simp] theorem Block.wrS_mon (x : Fld) (i v : Nat) : (b.wrS x i v).mon = b.mon := rfl
@[simp] theorem Block.wrS_nv (x : Fld) (i v : Nat) : (b.wrS x i v).nv = b.nv := rfl
@[simp] theorem Block.wrS_hub (x : Fld) (i v : Nat) : (b.wrS x i v).hub = b.hub := rfl
@[simp] theorem Block.wrS_pins (x : Fld) (i v : Nat) : (b.wrS x i v).pins = b.pins := rfl
@[simp] theorem Block.wrS_faults (x : Fld) (i v : Nat) : (b.wrS x i v).faults = b.faults := rfl
@[simp] theorem Block.wrS_free (x : Fld) (i v : Nat) : (b.wrS x i v).free = b.free := rfl

@[simp] theorem Block.setAgent_regs (k : Nat) (v : Agent) : (b.setAgent k v).regs = b.regs := rfl
@[simp] theorem Block.setAgent_shadow (k : Nat) (v : Agent) : (b.setAgent k v).shadow = b.shadow := rfl
@[simp] theorem Block.setAgent_pages (k : Nat) (v : Agent) : (b.setAgent k v).pages = b.pages := rfl
@[simp] theorem Block.setAgent_parcels (k : Nat) (v : Agent) : (b.setAgent k v).parcels = b.parcels := rfl
@[simp] theorem Block.setAgent_cad (k : Nat) (v : Agent) : (b.setAgent k v).cad = b.cad := rfl
@[simp] theorem Block.setAgent_sensors (k : Nat) (v : Agent) : (b.setAgent k v).sensors = b.sensors := rfl
@[simp] theorem Block.setAgent_slots (k : Nat) (v : Agent) : (b.setAgent k v).slots = b.slots := rfl
@[simp] theorem Block.setAgent_ctxs (k : Nat) (v : Agent) : (b.setAgent k v).ctxs = b.ctxs := rfl
@[simp] theorem Block.setAgent_accounts (k : Nat) (v : Agent) : (b.setAgent k v).accounts = b.accounts := rfl
@[simp] theorem Block.setAgent_colls (k : Nat) (v : Agent) : (b.setAgent k v).colls = b.colls := rfl
@[simp] theorem Block.setAgent_models (k : Nat) (v : Agent) : (b.setAgent k v).models = b.models := rfl
@[simp] theorem Block.setAgent_fields (k : Nat) (v : Agent) : (b.setAgent k v).fields = b.fields := rfl
@[simp] theorem Block.setAgent_rings (k : Nat) (v : Agent) : (b.setAgent k v).rings = b.rings := rfl
@[simp] theorem Block.setAgent_rails (k : Nat) (v : Agent) : (b.setAgent k v).rails = b.rails := rfl
@[simp] theorem Block.setAgent_phases (k : Nat) (v : Agent) : (b.setAgent k v).phases = b.phases := rfl
@[simp] theorem Block.setAgent_ports (k : Nat) (v : Agent) : (b.setAgent k v).ports = b.ports := rfl
@[simp] theorem Block.setAgent_traces (k : Nat) (v : Agent) : (b.setAgent k v).traces = b.traces := rfl
@[simp] theorem Block.setAgent_ties (k : Nat) (v : Agent) : (b.setAgent k v).ties = b.ties := rfl
@[simp] theorem Block.setAgent_procs (k : Nat) (v : Agent) : (b.setAgent k v).procs = b.procs := rfl
@[simp] theorem Block.setAgent_mems (k : Nat) (v : Agent) : (b.setAgent k v).mems = b.mems := rfl
@[simp] theorem Block.setAgent_mon (k : Nat) (v : Agent) : (b.setAgent k v).mon = b.mon := rfl
@[simp] theorem Block.setAgent_nv (k : Nat) (v : Agent) : (b.setAgent k v).nv = b.nv := rfl
@[simp] theorem Block.setAgent_hub (k : Nat) (v : Agent) : (b.setAgent k v).hub = b.hub := rfl
@[simp] theorem Block.setAgent_pins (k : Nat) (v : Agent) : (b.setAgent k v).pins = b.pins := rfl
@[simp] theorem Block.setAgent_faults (k : Nat) (v : Agent) : (b.setAgent k v).faults = b.faults := rfl
@[simp] theorem Block.setAgent_free (k : Nat) (v : Agent) : (b.setAgent k v).free = b.free := rfl

@[simp] theorem Block.setParcel_regs (k : Nat) (v : Parcel) : (b.setParcel k v).regs = b.regs := rfl
@[simp] theorem Block.setParcel_shadow (k : Nat) (v : Parcel) : (b.setParcel k v).shadow = b.shadow := rfl
@[simp] theorem Block.setParcel_pages (k : Nat) (v : Parcel) : (b.setParcel k v).pages = b.pages := rfl
@[simp] theorem Block.setParcel_agents (k : Nat) (v : Parcel) : (b.setParcel k v).agents = b.agents := rfl
@[simp] theorem Block.setParcel_cad (k : Nat) (v : Parcel) : (b.setParcel k v).cad = b.cad := rfl
@[simp] theorem Block.setParcel_sensors (k : Nat) (v : Parcel) : (b.setParcel k v).sensors = b.sensors := rfl
@[simp] theorem Block.setParcel_slots (k : Nat) (v : Parcel) : (b.setParcel k v).slots = b.slots := rfl
@[simp] theorem Block.setParcel_ctxs (k : Nat) (v : Parcel) : (b.setParcel k v).ctxs = b.ctxs := rfl
@[simp] theorem Block.setParcel_accounts (k : Nat) (v : Parcel) : (b.setParcel k v).accounts = b.accounts := rfl
@[simp] theorem Block.setParcel_colls (k : Nat) (v : Parcel) : (b.setParcel k v).colls = b.colls := rfl
@[simp] theorem Block.setParcel_models (k : Nat) (v : Parcel) : (b.setParcel k v).models = b.models := rfl
@[simp] theorem Block.setParcel_fields (k : Nat) (v : Parcel) : (b.setParcel k v).fields = b.fields := rfl
@[simp] theorem Block.setParcel_rings (k : Nat) (v : Parcel) : (b.setParcel k v).rings = b.rings := rfl
@[simp] theorem Block.setParcel_rails (k : Nat) (v : Parcel) : (b.setParcel k v).rails = b.rails := rfl
@[simp] theorem Block.setParcel_phases (k : Nat) (v : Parcel) : (b.setParcel k v).phases = b.phases := rfl
@[simp] theorem Block.setParcel_ports (k : Nat) (v : Parcel) : (b.setParcel k v).ports = b.ports := rfl
@[simp] theorem Block.setParcel_traces (k : Nat) (v : Parcel) : (b.setParcel k v).traces = b.traces := rfl
@[simp] theorem Block.setParcel_ties (k : Nat) (v : Parcel) : (b.setParcel k v).ties = b.ties := rfl
@[simp] theorem Block.setParcel_procs (k : Nat) (v : Parcel) : (b.setParcel k v).procs = b.procs := rfl
@[simp] theorem Block.setParcel_mems (k : Nat) (v : Parcel) : (b.setParcel k v).mems = b.mems := rfl
@[simp] theorem Block.setParcel_mon (k : Nat) (v : Parcel) : (b.setParcel k v).mon = b.mon := rfl
@[simp] theorem Block.setParcel_nv (k : Nat) (v : Parcel) : (b.setParcel k v).nv = b.nv := rfl
@[simp] theorem Block.setParcel_hub (k : Nat) (v : Parcel) : (b.setParcel k v).hub = b.hub := rfl
@[simp] theorem Block.setParcel_pins (k : Nat) (v : Parcel) : (b.setParcel k v).pins = b.pins := rfl
@[simp] theorem Block.setParcel_faults (k : Nat) (v : Parcel) : (b.setParcel k v).faults = b.faults := rfl
@[simp] theorem Block.setParcel_free (k : Nat) (v : Parcel) : (b.setParcel k v).free = b.free := rfl

@[simp] theorem Block.setCadE_regs (k : Nat) (v : Cad) : (b.setCadE k v).regs = b.regs := rfl
@[simp] theorem Block.setCadE_shadow (k : Nat) (v : Cad) : (b.setCadE k v).shadow = b.shadow := rfl
@[simp] theorem Block.setCadE_pages (k : Nat) (v : Cad) : (b.setCadE k v).pages = b.pages := rfl
@[simp] theorem Block.setCadE_agents (k : Nat) (v : Cad) : (b.setCadE k v).agents = b.agents := rfl
@[simp] theorem Block.setCadE_parcels (k : Nat) (v : Cad) : (b.setCadE k v).parcels = b.parcels := rfl
@[simp] theorem Block.setCadE_sensors (k : Nat) (v : Cad) : (b.setCadE k v).sensors = b.sensors := rfl
@[simp] theorem Block.setCadE_slots (k : Nat) (v : Cad) : (b.setCadE k v).slots = b.slots := rfl
@[simp] theorem Block.setCadE_ctxs (k : Nat) (v : Cad) : (b.setCadE k v).ctxs = b.ctxs := rfl
@[simp] theorem Block.setCadE_accounts (k : Nat) (v : Cad) : (b.setCadE k v).accounts = b.accounts := rfl
@[simp] theorem Block.setCadE_colls (k : Nat) (v : Cad) : (b.setCadE k v).colls = b.colls := rfl
@[simp] theorem Block.setCadE_models (k : Nat) (v : Cad) : (b.setCadE k v).models = b.models := rfl
@[simp] theorem Block.setCadE_fields (k : Nat) (v : Cad) : (b.setCadE k v).fields = b.fields := rfl
@[simp] theorem Block.setCadE_rings (k : Nat) (v : Cad) : (b.setCadE k v).rings = b.rings := rfl
@[simp] theorem Block.setCadE_rails (k : Nat) (v : Cad) : (b.setCadE k v).rails = b.rails := rfl
@[simp] theorem Block.setCadE_phases (k : Nat) (v : Cad) : (b.setCadE k v).phases = b.phases := rfl
@[simp] theorem Block.setCadE_ports (k : Nat) (v : Cad) : (b.setCadE k v).ports = b.ports := rfl
@[simp] theorem Block.setCadE_traces (k : Nat) (v : Cad) : (b.setCadE k v).traces = b.traces := rfl
@[simp] theorem Block.setCadE_ties (k : Nat) (v : Cad) : (b.setCadE k v).ties = b.ties := rfl
@[simp] theorem Block.setCadE_procs (k : Nat) (v : Cad) : (b.setCadE k v).procs = b.procs := rfl
@[simp] theorem Block.setCadE_mems (k : Nat) (v : Cad) : (b.setCadE k v).mems = b.mems := rfl
@[simp] theorem Block.setCadE_mon (k : Nat) (v : Cad) : (b.setCadE k v).mon = b.mon := rfl
@[simp] theorem Block.setCadE_nv (k : Nat) (v : Cad) : (b.setCadE k v).nv = b.nv := rfl
@[simp] theorem Block.setCadE_hub (k : Nat) (v : Cad) : (b.setCadE k v).hub = b.hub := rfl
@[simp] theorem Block.setCadE_pins (k : Nat) (v : Cad) : (b.setCadE k v).pins = b.pins := rfl
@[simp] theorem Block.setCadE_faults (k : Nat) (v : Cad) : (b.setCadE k v).faults = b.faults := rfl
@[simp] theorem Block.setCadE_free (k : Nat) (v : Cad) : (b.setCadE k v).free = b.free := rfl

@[simp] theorem Block.setSensor_regs (k : Nat) (v : Sensor) : (b.setSensor k v).regs = b.regs := rfl
@[simp] theorem Block.setSensor_shadow (k : Nat) (v : Sensor) : (b.setSensor k v).shadow = b.shadow := rfl
@[simp] theorem Block.setSensor_pages (k : Nat) (v : Sensor) : (b.setSensor k v).pages = b.pages := rfl
@[simp] theorem Block.setSensor_agents (k : Nat) (v : Sensor) : (b.setSensor k v).agents = b.agents := rfl
@[simp] theorem Block.setSensor_parcels (k : Nat) (v : Sensor) : (b.setSensor k v).parcels = b.parcels := rfl
@[simp] theorem Block.setSensor_cad (k : Nat) (v : Sensor) : (b.setSensor k v).cad = b.cad := rfl
@[simp] theorem Block.setSensor_slots (k : Nat) (v : Sensor) : (b.setSensor k v).slots = b.slots := rfl
@[simp] theorem Block.setSensor_ctxs (k : Nat) (v : Sensor) : (b.setSensor k v).ctxs = b.ctxs := rfl
@[simp] theorem Block.setSensor_accounts (k : Nat) (v : Sensor) : (b.setSensor k v).accounts = b.accounts := rfl
@[simp] theorem Block.setSensor_colls (k : Nat) (v : Sensor) : (b.setSensor k v).colls = b.colls := rfl
@[simp] theorem Block.setSensor_models (k : Nat) (v : Sensor) : (b.setSensor k v).models = b.models := rfl
@[simp] theorem Block.setSensor_fields (k : Nat) (v : Sensor) : (b.setSensor k v).fields = b.fields := rfl
@[simp] theorem Block.setSensor_rings (k : Nat) (v : Sensor) : (b.setSensor k v).rings = b.rings := rfl
@[simp] theorem Block.setSensor_rails (k : Nat) (v : Sensor) : (b.setSensor k v).rails = b.rails := rfl
@[simp] theorem Block.setSensor_phases (k : Nat) (v : Sensor) : (b.setSensor k v).phases = b.phases := rfl
@[simp] theorem Block.setSensor_ports (k : Nat) (v : Sensor) : (b.setSensor k v).ports = b.ports := rfl
@[simp] theorem Block.setSensor_traces (k : Nat) (v : Sensor) : (b.setSensor k v).traces = b.traces := rfl
@[simp] theorem Block.setSensor_ties (k : Nat) (v : Sensor) : (b.setSensor k v).ties = b.ties := rfl
@[simp] theorem Block.setSensor_procs (k : Nat) (v : Sensor) : (b.setSensor k v).procs = b.procs := rfl
@[simp] theorem Block.setSensor_mems (k : Nat) (v : Sensor) : (b.setSensor k v).mems = b.mems := rfl
@[simp] theorem Block.setSensor_mon (k : Nat) (v : Sensor) : (b.setSensor k v).mon = b.mon := rfl
@[simp] theorem Block.setSensor_nv (k : Nat) (v : Sensor) : (b.setSensor k v).nv = b.nv := rfl
@[simp] theorem Block.setSensor_hub (k : Nat) (v : Sensor) : (b.setSensor k v).hub = b.hub := rfl
@[simp] theorem Block.setSensor_pins (k : Nat) (v : Sensor) : (b.setSensor k v).pins = b.pins := rfl
@[simp] theorem Block.setSensor_faults (k : Nat) (v : Sensor) : (b.setSensor k v).faults = b.faults := rfl
@[simp] theorem Block.setSensor_free (k : Nat) (v : Sensor) : (b.setSensor k v).free = b.free := rfl

@[simp] theorem Block.setSlot_regs (k : Nat) (v : Slot) : (b.setSlot k v).regs = b.regs := rfl
@[simp] theorem Block.setSlot_shadow (k : Nat) (v : Slot) : (b.setSlot k v).shadow = b.shadow := rfl
@[simp] theorem Block.setSlot_pages (k : Nat) (v : Slot) : (b.setSlot k v).pages = b.pages := rfl
@[simp] theorem Block.setSlot_agents (k : Nat) (v : Slot) : (b.setSlot k v).agents = b.agents := rfl
@[simp] theorem Block.setSlot_parcels (k : Nat) (v : Slot) : (b.setSlot k v).parcels = b.parcels := rfl
@[simp] theorem Block.setSlot_cad (k : Nat) (v : Slot) : (b.setSlot k v).cad = b.cad := rfl
@[simp] theorem Block.setSlot_sensors (k : Nat) (v : Slot) : (b.setSlot k v).sensors = b.sensors := rfl
@[simp] theorem Block.setSlot_ctxs (k : Nat) (v : Slot) : (b.setSlot k v).ctxs = b.ctxs := rfl
@[simp] theorem Block.setSlot_accounts (k : Nat) (v : Slot) : (b.setSlot k v).accounts = b.accounts := rfl
@[simp] theorem Block.setSlot_colls (k : Nat) (v : Slot) : (b.setSlot k v).colls = b.colls := rfl
@[simp] theorem Block.setSlot_models (k : Nat) (v : Slot) : (b.setSlot k v).models = b.models := rfl
@[simp] theorem Block.setSlot_fields (k : Nat) (v : Slot) : (b.setSlot k v).fields = b.fields := rfl
@[simp] theorem Block.setSlot_rings (k : Nat) (v : Slot) : (b.setSlot k v).rings = b.rings := rfl
@[simp] theorem Block.setSlot_rails (k : Nat) (v : Slot) : (b.setSlot k v).rails = b.rails := rfl
@[simp] theorem Block.setSlot_phases (k : Nat) (v : Slot) : (b.setSlot k v).phases = b.phases := rfl
@[simp] theorem Block.setSlot_ports (k : Nat) (v : Slot) : (b.setSlot k v).ports = b.ports := rfl
@[simp] theorem Block.setSlot_traces (k : Nat) (v : Slot) : (b.setSlot k v).traces = b.traces := rfl
@[simp] theorem Block.setSlot_ties (k : Nat) (v : Slot) : (b.setSlot k v).ties = b.ties := rfl
@[simp] theorem Block.setSlot_procs (k : Nat) (v : Slot) : (b.setSlot k v).procs = b.procs := rfl
@[simp] theorem Block.setSlot_mems (k : Nat) (v : Slot) : (b.setSlot k v).mems = b.mems := rfl
@[simp] theorem Block.setSlot_mon (k : Nat) (v : Slot) : (b.setSlot k v).mon = b.mon := rfl
@[simp] theorem Block.setSlot_nv (k : Nat) (v : Slot) : (b.setSlot k v).nv = b.nv := rfl
@[simp] theorem Block.setSlot_hub (k : Nat) (v : Slot) : (b.setSlot k v).hub = b.hub := rfl
@[simp] theorem Block.setSlot_pins (k : Nat) (v : Slot) : (b.setSlot k v).pins = b.pins := rfl
@[simp] theorem Block.setSlot_faults (k : Nat) (v : Slot) : (b.setSlot k v).faults = b.faults := rfl
@[simp] theorem Block.setSlot_free (k : Nat) (v : Slot) : (b.setSlot k v).free = b.free := rfl

@[simp] theorem Block.setCtx_regs (k : Nat) (v : Ctx) : (b.setCtx k v).regs = b.regs := rfl
@[simp] theorem Block.setCtx_shadow (k : Nat) (v : Ctx) : (b.setCtx k v).shadow = b.shadow := rfl
@[simp] theorem Block.setCtx_pages (k : Nat) (v : Ctx) : (b.setCtx k v).pages = b.pages := rfl
@[simp] theorem Block.setCtx_agents (k : Nat) (v : Ctx) : (b.setCtx k v).agents = b.agents := rfl
@[simp] theorem Block.setCtx_parcels (k : Nat) (v : Ctx) : (b.setCtx k v).parcels = b.parcels := rfl
@[simp] theorem Block.setCtx_cad (k : Nat) (v : Ctx) : (b.setCtx k v).cad = b.cad := rfl
@[simp] theorem Block.setCtx_sensors (k : Nat) (v : Ctx) : (b.setCtx k v).sensors = b.sensors := rfl
@[simp] theorem Block.setCtx_slots (k : Nat) (v : Ctx) : (b.setCtx k v).slots = b.slots := rfl
@[simp] theorem Block.setCtx_accounts (k : Nat) (v : Ctx) : (b.setCtx k v).accounts = b.accounts := rfl
@[simp] theorem Block.setCtx_colls (k : Nat) (v : Ctx) : (b.setCtx k v).colls = b.colls := rfl
@[simp] theorem Block.setCtx_models (k : Nat) (v : Ctx) : (b.setCtx k v).models = b.models := rfl
@[simp] theorem Block.setCtx_fields (k : Nat) (v : Ctx) : (b.setCtx k v).fields = b.fields := rfl
@[simp] theorem Block.setCtx_rings (k : Nat) (v : Ctx) : (b.setCtx k v).rings = b.rings := rfl
@[simp] theorem Block.setCtx_rails (k : Nat) (v : Ctx) : (b.setCtx k v).rails = b.rails := rfl
@[simp] theorem Block.setCtx_phases (k : Nat) (v : Ctx) : (b.setCtx k v).phases = b.phases := rfl
@[simp] theorem Block.setCtx_ports (k : Nat) (v : Ctx) : (b.setCtx k v).ports = b.ports := rfl
@[simp] theorem Block.setCtx_traces (k : Nat) (v : Ctx) : (b.setCtx k v).traces = b.traces := rfl
@[simp] theorem Block.setCtx_ties (k : Nat) (v : Ctx) : (b.setCtx k v).ties = b.ties := rfl
@[simp] theorem Block.setCtx_procs (k : Nat) (v : Ctx) : (b.setCtx k v).procs = b.procs := rfl
@[simp] theorem Block.setCtx_mems (k : Nat) (v : Ctx) : (b.setCtx k v).mems = b.mems := rfl
@[simp] theorem Block.setCtx_mon (k : Nat) (v : Ctx) : (b.setCtx k v).mon = b.mon := rfl
@[simp] theorem Block.setCtx_nv (k : Nat) (v : Ctx) : (b.setCtx k v).nv = b.nv := rfl
@[simp] theorem Block.setCtx_hub (k : Nat) (v : Ctx) : (b.setCtx k v).hub = b.hub := rfl
@[simp] theorem Block.setCtx_pins (k : Nat) (v : Ctx) : (b.setCtx k v).pins = b.pins := rfl
@[simp] theorem Block.setCtx_faults (k : Nat) (v : Ctx) : (b.setCtx k v).faults = b.faults := rfl
@[simp] theorem Block.setCtx_free (k : Nat) (v : Ctx) : (b.setCtx k v).free = b.free := rfl

@[simp] theorem Block.setAcct_regs (k : Nat) (v : Account) : (b.setAcct k v).regs = b.regs := rfl
@[simp] theorem Block.setAcct_shadow (k : Nat) (v : Account) : (b.setAcct k v).shadow = b.shadow := rfl
@[simp] theorem Block.setAcct_pages (k : Nat) (v : Account) : (b.setAcct k v).pages = b.pages := rfl
@[simp] theorem Block.setAcct_agents (k : Nat) (v : Account) : (b.setAcct k v).agents = b.agents := rfl
@[simp] theorem Block.setAcct_parcels (k : Nat) (v : Account) : (b.setAcct k v).parcels = b.parcels := rfl
@[simp] theorem Block.setAcct_cad (k : Nat) (v : Account) : (b.setAcct k v).cad = b.cad := rfl
@[simp] theorem Block.setAcct_sensors (k : Nat) (v : Account) : (b.setAcct k v).sensors = b.sensors := rfl
@[simp] theorem Block.setAcct_slots (k : Nat) (v : Account) : (b.setAcct k v).slots = b.slots := rfl
@[simp] theorem Block.setAcct_ctxs (k : Nat) (v : Account) : (b.setAcct k v).ctxs = b.ctxs := rfl
@[simp] theorem Block.setAcct_colls (k : Nat) (v : Account) : (b.setAcct k v).colls = b.colls := rfl
@[simp] theorem Block.setAcct_models (k : Nat) (v : Account) : (b.setAcct k v).models = b.models := rfl
@[simp] theorem Block.setAcct_fields (k : Nat) (v : Account) : (b.setAcct k v).fields = b.fields := rfl
@[simp] theorem Block.setAcct_rings (k : Nat) (v : Account) : (b.setAcct k v).rings = b.rings := rfl
@[simp] theorem Block.setAcct_rails (k : Nat) (v : Account) : (b.setAcct k v).rails = b.rails := rfl
@[simp] theorem Block.setAcct_phases (k : Nat) (v : Account) : (b.setAcct k v).phases = b.phases := rfl
@[simp] theorem Block.setAcct_ports (k : Nat) (v : Account) : (b.setAcct k v).ports = b.ports := rfl
@[simp] theorem Block.setAcct_traces (k : Nat) (v : Account) : (b.setAcct k v).traces = b.traces := rfl
@[simp] theorem Block.setAcct_ties (k : Nat) (v : Account) : (b.setAcct k v).ties = b.ties := rfl
@[simp] theorem Block.setAcct_procs (k : Nat) (v : Account) : (b.setAcct k v).procs = b.procs := rfl
@[simp] theorem Block.setAcct_mems (k : Nat) (v : Account) : (b.setAcct k v).mems = b.mems := rfl
@[simp] theorem Block.setAcct_mon (k : Nat) (v : Account) : (b.setAcct k v).mon = b.mon := rfl
@[simp] theorem Block.setAcct_nv (k : Nat) (v : Account) : (b.setAcct k v).nv = b.nv := rfl
@[simp] theorem Block.setAcct_hub (k : Nat) (v : Account) : (b.setAcct k v).hub = b.hub := rfl
@[simp] theorem Block.setAcct_pins (k : Nat) (v : Account) : (b.setAcct k v).pins = b.pins := rfl
@[simp] theorem Block.setAcct_faults (k : Nat) (v : Account) : (b.setAcct k v).faults = b.faults := rfl
@[simp] theorem Block.setAcct_free (k : Nat) (v : Account) : (b.setAcct k v).free = b.free := rfl

@[simp] theorem Block.setColl_regs (k : Nat) (v : Coll) : (b.setColl k v).regs = b.regs := rfl
@[simp] theorem Block.setColl_shadow (k : Nat) (v : Coll) : (b.setColl k v).shadow = b.shadow := rfl
@[simp] theorem Block.setColl_pages (k : Nat) (v : Coll) : (b.setColl k v).pages = b.pages := rfl
@[simp] theorem Block.setColl_agents (k : Nat) (v : Coll) : (b.setColl k v).agents = b.agents := rfl
@[simp] theorem Block.setColl_parcels (k : Nat) (v : Coll) : (b.setColl k v).parcels = b.parcels := rfl
@[simp] theorem Block.setColl_cad (k : Nat) (v : Coll) : (b.setColl k v).cad = b.cad := rfl
@[simp] theorem Block.setColl_sensors (k : Nat) (v : Coll) : (b.setColl k v).sensors = b.sensors := rfl
@[simp] theorem Block.setColl_slots (k : Nat) (v : Coll) : (b.setColl k v).slots = b.slots := rfl
@[simp] theorem Block.setColl_ctxs (k : Nat) (v : Coll) : (b.setColl k v).ctxs = b.ctxs := rfl
@[simp] theorem Block.setColl_accounts (k : Nat) (v : Coll) : (b.setColl k v).accounts = b.accounts := rfl
@[simp] theorem Block.setColl_models (k : Nat) (v : Coll) : (b.setColl k v).models = b.models := rfl
@[simp] theorem Block.setColl_fields (k : Nat) (v : Coll) : (b.setColl k v).fields = b.fields := rfl
@[simp] theorem Block.setColl_rings (k : Nat) (v : Coll) : (b.setColl k v).rings = b.rings := rfl
@[simp] theorem Block.setColl_rails (k : Nat) (v : Coll) : (b.setColl k v).rails = b.rails := rfl
@[simp] theorem Block.setColl_phases (k : Nat) (v : Coll) : (b.setColl k v).phases = b.phases := rfl
@[simp] theorem Block.setColl_ports (k : Nat) (v : Coll) : (b.setColl k v).ports = b.ports := rfl
@[simp] theorem Block.setColl_traces (k : Nat) (v : Coll) : (b.setColl k v).traces = b.traces := rfl
@[simp] theorem Block.setColl_ties (k : Nat) (v : Coll) : (b.setColl k v).ties = b.ties := rfl
@[simp] theorem Block.setColl_procs (k : Nat) (v : Coll) : (b.setColl k v).procs = b.procs := rfl
@[simp] theorem Block.setColl_mems (k : Nat) (v : Coll) : (b.setColl k v).mems = b.mems := rfl
@[simp] theorem Block.setColl_mon (k : Nat) (v : Coll) : (b.setColl k v).mon = b.mon := rfl
@[simp] theorem Block.setColl_nv (k : Nat) (v : Coll) : (b.setColl k v).nv = b.nv := rfl
@[simp] theorem Block.setColl_hub (k : Nat) (v : Coll) : (b.setColl k v).hub = b.hub := rfl
@[simp] theorem Block.setColl_pins (k : Nat) (v : Coll) : (b.setColl k v).pins = b.pins := rfl
@[simp] theorem Block.setColl_faults (k : Nat) (v : Coll) : (b.setColl k v).faults = b.faults := rfl
@[simp] theorem Block.setColl_free (k : Nat) (v : Coll) : (b.setColl k v).free = b.free := rfl

@[simp] theorem Block.setModel_regs (k : Nat) (v : Model) : (b.setModel k v).regs = b.regs := rfl
@[simp] theorem Block.setModel_shadow (k : Nat) (v : Model) : (b.setModel k v).shadow = b.shadow := rfl
@[simp] theorem Block.setModel_pages (k : Nat) (v : Model) : (b.setModel k v).pages = b.pages := rfl
@[simp] theorem Block.setModel_agents (k : Nat) (v : Model) : (b.setModel k v).agents = b.agents := rfl
@[simp] theorem Block.setModel_parcels (k : Nat) (v : Model) : (b.setModel k v).parcels = b.parcels := rfl
@[simp] theorem Block.setModel_cad (k : Nat) (v : Model) : (b.setModel k v).cad = b.cad := rfl
@[simp] theorem Block.setModel_sensors (k : Nat) (v : Model) : (b.setModel k v).sensors = b.sensors := rfl
@[simp] theorem Block.setModel_slots (k : Nat) (v : Model) : (b.setModel k v).slots = b.slots := rfl
@[simp] theorem Block.setModel_ctxs (k : Nat) (v : Model) : (b.setModel k v).ctxs = b.ctxs := rfl
@[simp] theorem Block.setModel_accounts (k : Nat) (v : Model) : (b.setModel k v).accounts = b.accounts := rfl
@[simp] theorem Block.setModel_colls (k : Nat) (v : Model) : (b.setModel k v).colls = b.colls := rfl
@[simp] theorem Block.setModel_fields (k : Nat) (v : Model) : (b.setModel k v).fields = b.fields := rfl
@[simp] theorem Block.setModel_rings (k : Nat) (v : Model) : (b.setModel k v).rings = b.rings := rfl
@[simp] theorem Block.setModel_rails (k : Nat) (v : Model) : (b.setModel k v).rails = b.rails := rfl
@[simp] theorem Block.setModel_phases (k : Nat) (v : Model) : (b.setModel k v).phases = b.phases := rfl
@[simp] theorem Block.setModel_ports (k : Nat) (v : Model) : (b.setModel k v).ports = b.ports := rfl
@[simp] theorem Block.setModel_traces (k : Nat) (v : Model) : (b.setModel k v).traces = b.traces := rfl
@[simp] theorem Block.setModel_ties (k : Nat) (v : Model) : (b.setModel k v).ties = b.ties := rfl
@[simp] theorem Block.setModel_procs (k : Nat) (v : Model) : (b.setModel k v).procs = b.procs := rfl
@[simp] theorem Block.setModel_mems (k : Nat) (v : Model) : (b.setModel k v).mems = b.mems := rfl
@[simp] theorem Block.setModel_mon (k : Nat) (v : Model) : (b.setModel k v).mon = b.mon := rfl
@[simp] theorem Block.setModel_nv (k : Nat) (v : Model) : (b.setModel k v).nv = b.nv := rfl
@[simp] theorem Block.setModel_hub (k : Nat) (v : Model) : (b.setModel k v).hub = b.hub := rfl
@[simp] theorem Block.setModel_pins (k : Nat) (v : Model) : (b.setModel k v).pins = b.pins := rfl
@[simp] theorem Block.setModel_faults (k : Nat) (v : Model) : (b.setModel k v).faults = b.faults := rfl
@[simp] theorem Block.setModel_free (k : Nat) (v : Model) : (b.setModel k v).free = b.free := rfl

@[simp] theorem Block.setFu_regs (k : Nat) (v : FieldUnit) : (b.setFu k v).regs = b.regs := rfl
@[simp] theorem Block.setFu_shadow (k : Nat) (v : FieldUnit) : (b.setFu k v).shadow = b.shadow := rfl
@[simp] theorem Block.setFu_pages (k : Nat) (v : FieldUnit) : (b.setFu k v).pages = b.pages := rfl
@[simp] theorem Block.setFu_agents (k : Nat) (v : FieldUnit) : (b.setFu k v).agents = b.agents := rfl
@[simp] theorem Block.setFu_parcels (k : Nat) (v : FieldUnit) : (b.setFu k v).parcels = b.parcels := rfl
@[simp] theorem Block.setFu_cad (k : Nat) (v : FieldUnit) : (b.setFu k v).cad = b.cad := rfl
@[simp] theorem Block.setFu_sensors (k : Nat) (v : FieldUnit) : (b.setFu k v).sensors = b.sensors := rfl
@[simp] theorem Block.setFu_slots (k : Nat) (v : FieldUnit) : (b.setFu k v).slots = b.slots := rfl
@[simp] theorem Block.setFu_ctxs (k : Nat) (v : FieldUnit) : (b.setFu k v).ctxs = b.ctxs := rfl
@[simp] theorem Block.setFu_accounts (k : Nat) (v : FieldUnit) : (b.setFu k v).accounts = b.accounts := rfl
@[simp] theorem Block.setFu_colls (k : Nat) (v : FieldUnit) : (b.setFu k v).colls = b.colls := rfl
@[simp] theorem Block.setFu_models (k : Nat) (v : FieldUnit) : (b.setFu k v).models = b.models := rfl
@[simp] theorem Block.setFu_rings (k : Nat) (v : FieldUnit) : (b.setFu k v).rings = b.rings := rfl
@[simp] theorem Block.setFu_rails (k : Nat) (v : FieldUnit) : (b.setFu k v).rails = b.rails := rfl
@[simp] theorem Block.setFu_phases (k : Nat) (v : FieldUnit) : (b.setFu k v).phases = b.phases := rfl
@[simp] theorem Block.setFu_ports (k : Nat) (v : FieldUnit) : (b.setFu k v).ports = b.ports := rfl
@[simp] theorem Block.setFu_traces (k : Nat) (v : FieldUnit) : (b.setFu k v).traces = b.traces := rfl
@[simp] theorem Block.setFu_ties (k : Nat) (v : FieldUnit) : (b.setFu k v).ties = b.ties := rfl
@[simp] theorem Block.setFu_procs (k : Nat) (v : FieldUnit) : (b.setFu k v).procs = b.procs := rfl
@[simp] theorem Block.setFu_mems (k : Nat) (v : FieldUnit) : (b.setFu k v).mems = b.mems := rfl
@[simp] theorem Block.setFu_mon (k : Nat) (v : FieldUnit) : (b.setFu k v).mon = b.mon := rfl
@[simp] theorem Block.setFu_nv (k : Nat) (v : FieldUnit) : (b.setFu k v).nv = b.nv := rfl
@[simp] theorem Block.setFu_hub (k : Nat) (v : FieldUnit) : (b.setFu k v).hub = b.hub := rfl
@[simp] theorem Block.setFu_pins (k : Nat) (v : FieldUnit) : (b.setFu k v).pins = b.pins := rfl
@[simp] theorem Block.setFu_faults (k : Nat) (v : FieldUnit) : (b.setFu k v).faults = b.faults := rfl
@[simp] theorem Block.setFu_free (k : Nat) (v : FieldUnit) : (b.setFu k v).free = b.free := rfl

@[simp] theorem Block.setRing_regs (k : Nat) (v : Ring) : (b.setRing k v).regs = b.regs := rfl
@[simp] theorem Block.setRing_shadow (k : Nat) (v : Ring) : (b.setRing k v).shadow = b.shadow := rfl
@[simp] theorem Block.setRing_pages (k : Nat) (v : Ring) : (b.setRing k v).pages = b.pages := rfl
@[simp] theorem Block.setRing_agents (k : Nat) (v : Ring) : (b.setRing k v).agents = b.agents := rfl
@[simp] theorem Block.setRing_parcels (k : Nat) (v : Ring) : (b.setRing k v).parcels = b.parcels := rfl
@[simp] theorem Block.setRing_cad (k : Nat) (v : Ring) : (b.setRing k v).cad = b.cad := rfl
@[simp] theorem Block.setRing_sensors (k : Nat) (v : Ring) : (b.setRing k v).sensors = b.sensors := rfl
@[simp] theorem Block.setRing_slots (k : Nat) (v : Ring) : (b.setRing k v).slots = b.slots := rfl
@[simp] theorem Block.setRing_ctxs (k : Nat) (v : Ring) : (b.setRing k v).ctxs = b.ctxs := rfl
@[simp] theorem Block.setRing_accounts (k : Nat) (v : Ring) : (b.setRing k v).accounts = b.accounts := rfl
@[simp] theorem Block.setRing_colls (k : Nat) (v : Ring) : (b.setRing k v).colls = b.colls := rfl
@[simp] theorem Block.setRing_models (k : Nat) (v : Ring) : (b.setRing k v).models = b.models := rfl
@[simp] theorem Block.setRing_fields (k : Nat) (v : Ring) : (b.setRing k v).fields = b.fields := rfl
@[simp] theorem Block.setRing_rails (k : Nat) (v : Ring) : (b.setRing k v).rails = b.rails := rfl
@[simp] theorem Block.setRing_phases (k : Nat) (v : Ring) : (b.setRing k v).phases = b.phases := rfl
@[simp] theorem Block.setRing_ports (k : Nat) (v : Ring) : (b.setRing k v).ports = b.ports := rfl
@[simp] theorem Block.setRing_traces (k : Nat) (v : Ring) : (b.setRing k v).traces = b.traces := rfl
@[simp] theorem Block.setRing_ties (k : Nat) (v : Ring) : (b.setRing k v).ties = b.ties := rfl
@[simp] theorem Block.setRing_procs (k : Nat) (v : Ring) : (b.setRing k v).procs = b.procs := rfl
@[simp] theorem Block.setRing_mems (k : Nat) (v : Ring) : (b.setRing k v).mems = b.mems := rfl
@[simp] theorem Block.setRing_mon (k : Nat) (v : Ring) : (b.setRing k v).mon = b.mon := rfl
@[simp] theorem Block.setRing_nv (k : Nat) (v : Ring) : (b.setRing k v).nv = b.nv := rfl
@[simp] theorem Block.setRing_hub (k : Nat) (v : Ring) : (b.setRing k v).hub = b.hub := rfl
@[simp] theorem Block.setRing_pins (k : Nat) (v : Ring) : (b.setRing k v).pins = b.pins := rfl
@[simp] theorem Block.setRing_faults (k : Nat) (v : Ring) : (b.setRing k v).faults = b.faults := rfl
@[simp] theorem Block.setRing_free (k : Nat) (v : Ring) : (b.setRing k v).free = b.free := rfl

@[simp] theorem Block.setRail_regs (k : Nat) (v : RailSt) : (b.setRail k v).regs = b.regs := rfl
@[simp] theorem Block.setRail_shadow (k : Nat) (v : RailSt) : (b.setRail k v).shadow = b.shadow := rfl
@[simp] theorem Block.setRail_pages (k : Nat) (v : RailSt) : (b.setRail k v).pages = b.pages := rfl
@[simp] theorem Block.setRail_agents (k : Nat) (v : RailSt) : (b.setRail k v).agents = b.agents := rfl
@[simp] theorem Block.setRail_parcels (k : Nat) (v : RailSt) : (b.setRail k v).parcels = b.parcels := rfl
@[simp] theorem Block.setRail_cad (k : Nat) (v : RailSt) : (b.setRail k v).cad = b.cad := rfl
@[simp] theorem Block.setRail_sensors (k : Nat) (v : RailSt) : (b.setRail k v).sensors = b.sensors := rfl
@[simp] theorem Block.setRail_slots (k : Nat) (v : RailSt) : (b.setRail k v).slots = b.slots := rfl
@[simp] theorem Block.setRail_ctxs (k : Nat) (v : RailSt) : (b.setRail k v).ctxs = b.ctxs := rfl
@[simp] theorem Block.setRail_accounts (k : Nat) (v : RailSt) : (b.setRail k v).accounts = b.accounts := rfl
@[simp] theorem Block.setRail_colls (k : Nat) (v : RailSt) : (b.setRail k v).colls = b.colls := rfl
@[simp] theorem Block.setRail_models (k : Nat) (v : RailSt) : (b.setRail k v).models = b.models := rfl
@[simp] theorem Block.setRail_fields (k : Nat) (v : RailSt) : (b.setRail k v).fields = b.fields := rfl
@[simp] theorem Block.setRail_rings (k : Nat) (v : RailSt) : (b.setRail k v).rings = b.rings := rfl
@[simp] theorem Block.setRail_phases (k : Nat) (v : RailSt) : (b.setRail k v).phases = b.phases := rfl
@[simp] theorem Block.setRail_ports (k : Nat) (v : RailSt) : (b.setRail k v).ports = b.ports := rfl
@[simp] theorem Block.setRail_traces (k : Nat) (v : RailSt) : (b.setRail k v).traces = b.traces := rfl
@[simp] theorem Block.setRail_ties (k : Nat) (v : RailSt) : (b.setRail k v).ties = b.ties := rfl
@[simp] theorem Block.setRail_procs (k : Nat) (v : RailSt) : (b.setRail k v).procs = b.procs := rfl
@[simp] theorem Block.setRail_mems (k : Nat) (v : RailSt) : (b.setRail k v).mems = b.mems := rfl
@[simp] theorem Block.setRail_mon (k : Nat) (v : RailSt) : (b.setRail k v).mon = b.mon := rfl
@[simp] theorem Block.setRail_nv (k : Nat) (v : RailSt) : (b.setRail k v).nv = b.nv := rfl
@[simp] theorem Block.setRail_hub (k : Nat) (v : RailSt) : (b.setRail k v).hub = b.hub := rfl
@[simp] theorem Block.setRail_pins (k : Nat) (v : RailSt) : (b.setRail k v).pins = b.pins := rfl
@[simp] theorem Block.setRail_faults (k : Nat) (v : RailSt) : (b.setRail k v).faults = b.faults := rfl
@[simp] theorem Block.setRail_free (k : Nat) (v : RailSt) : (b.setRail k v).free = b.free := rfl

@[simp] theorem Block.setPhase_regs (k : Nat) (v : PhaseSt) : (b.setPhase k v).regs = b.regs := rfl
@[simp] theorem Block.setPhase_shadow (k : Nat) (v : PhaseSt) : (b.setPhase k v).shadow = b.shadow := rfl
@[simp] theorem Block.setPhase_pages (k : Nat) (v : PhaseSt) : (b.setPhase k v).pages = b.pages := rfl
@[simp] theorem Block.setPhase_agents (k : Nat) (v : PhaseSt) : (b.setPhase k v).agents = b.agents := rfl
@[simp] theorem Block.setPhase_parcels (k : Nat) (v : PhaseSt) : (b.setPhase k v).parcels = b.parcels := rfl
@[simp] theorem Block.setPhase_cad (k : Nat) (v : PhaseSt) : (b.setPhase k v).cad = b.cad := rfl
@[simp] theorem Block.setPhase_sensors (k : Nat) (v : PhaseSt) : (b.setPhase k v).sensors = b.sensors := rfl
@[simp] theorem Block.setPhase_slots (k : Nat) (v : PhaseSt) : (b.setPhase k v).slots = b.slots := rfl
@[simp] theorem Block.setPhase_ctxs (k : Nat) (v : PhaseSt) : (b.setPhase k v).ctxs = b.ctxs := rfl
@[simp] theorem Block.setPhase_accounts (k : Nat) (v : PhaseSt) : (b.setPhase k v).accounts = b.accounts := rfl
@[simp] theorem Block.setPhase_colls (k : Nat) (v : PhaseSt) : (b.setPhase k v).colls = b.colls := rfl
@[simp] theorem Block.setPhase_models (k : Nat) (v : PhaseSt) : (b.setPhase k v).models = b.models := rfl
@[simp] theorem Block.setPhase_fields (k : Nat) (v : PhaseSt) : (b.setPhase k v).fields = b.fields := rfl
@[simp] theorem Block.setPhase_rings (k : Nat) (v : PhaseSt) : (b.setPhase k v).rings = b.rings := rfl
@[simp] theorem Block.setPhase_rails (k : Nat) (v : PhaseSt) : (b.setPhase k v).rails = b.rails := rfl
@[simp] theorem Block.setPhase_ports (k : Nat) (v : PhaseSt) : (b.setPhase k v).ports = b.ports := rfl
@[simp] theorem Block.setPhase_traces (k : Nat) (v : PhaseSt) : (b.setPhase k v).traces = b.traces := rfl
@[simp] theorem Block.setPhase_ties (k : Nat) (v : PhaseSt) : (b.setPhase k v).ties = b.ties := rfl
@[simp] theorem Block.setPhase_procs (k : Nat) (v : PhaseSt) : (b.setPhase k v).procs = b.procs := rfl
@[simp] theorem Block.setPhase_mems (k : Nat) (v : PhaseSt) : (b.setPhase k v).mems = b.mems := rfl
@[simp] theorem Block.setPhase_mon (k : Nat) (v : PhaseSt) : (b.setPhase k v).mon = b.mon := rfl
@[simp] theorem Block.setPhase_nv (k : Nat) (v : PhaseSt) : (b.setPhase k v).nv = b.nv := rfl
@[simp] theorem Block.setPhase_hub (k : Nat) (v : PhaseSt) : (b.setPhase k v).hub = b.hub := rfl
@[simp] theorem Block.setPhase_pins (k : Nat) (v : PhaseSt) : (b.setPhase k v).pins = b.pins := rfl
@[simp] theorem Block.setPhase_faults (k : Nat) (v : PhaseSt) : (b.setPhase k v).faults = b.faults := rfl
@[simp] theorem Block.setPhase_free (k : Nat) (v : PhaseSt) : (b.setPhase k v).free = b.free := rfl

@[simp] theorem Block.setPort_regs (k : Nat) (v : PortSt) : (b.setPort k v).regs = b.regs := rfl
@[simp] theorem Block.setPort_shadow (k : Nat) (v : PortSt) : (b.setPort k v).shadow = b.shadow := rfl
@[simp] theorem Block.setPort_pages (k : Nat) (v : PortSt) : (b.setPort k v).pages = b.pages := rfl
@[simp] theorem Block.setPort_agents (k : Nat) (v : PortSt) : (b.setPort k v).agents = b.agents := rfl
@[simp] theorem Block.setPort_parcels (k : Nat) (v : PortSt) : (b.setPort k v).parcels = b.parcels := rfl
@[simp] theorem Block.setPort_cad (k : Nat) (v : PortSt) : (b.setPort k v).cad = b.cad := rfl
@[simp] theorem Block.setPort_sensors (k : Nat) (v : PortSt) : (b.setPort k v).sensors = b.sensors := rfl
@[simp] theorem Block.setPort_slots (k : Nat) (v : PortSt) : (b.setPort k v).slots = b.slots := rfl
@[simp] theorem Block.setPort_ctxs (k : Nat) (v : PortSt) : (b.setPort k v).ctxs = b.ctxs := rfl
@[simp] theorem Block.setPort_accounts (k : Nat) (v : PortSt) : (b.setPort k v).accounts = b.accounts := rfl
@[simp] theorem Block.setPort_colls (k : Nat) (v : PortSt) : (b.setPort k v).colls = b.colls := rfl
@[simp] theorem Block.setPort_models (k : Nat) (v : PortSt) : (b.setPort k v).models = b.models := rfl
@[simp] theorem Block.setPort_fields (k : Nat) (v : PortSt) : (b.setPort k v).fields = b.fields := rfl
@[simp] theorem Block.setPort_rings (k : Nat) (v : PortSt) : (b.setPort k v).rings = b.rings := rfl
@[simp] theorem Block.setPort_rails (k : Nat) (v : PortSt) : (b.setPort k v).rails = b.rails := rfl
@[simp] theorem Block.setPort_phases (k : Nat) (v : PortSt) : (b.setPort k v).phases = b.phases := rfl
@[simp] theorem Block.setPort_traces (k : Nat) (v : PortSt) : (b.setPort k v).traces = b.traces := rfl
@[simp] theorem Block.setPort_ties (k : Nat) (v : PortSt) : (b.setPort k v).ties = b.ties := rfl
@[simp] theorem Block.setPort_procs (k : Nat) (v : PortSt) : (b.setPort k v).procs = b.procs := rfl
@[simp] theorem Block.setPort_mems (k : Nat) (v : PortSt) : (b.setPort k v).mems = b.mems := rfl
@[simp] theorem Block.setPort_mon (k : Nat) (v : PortSt) : (b.setPort k v).mon = b.mon := rfl
@[simp] theorem Block.setPort_nv (k : Nat) (v : PortSt) : (b.setPort k v).nv = b.nv := rfl
@[simp] theorem Block.setPort_hub (k : Nat) (v : PortSt) : (b.setPort k v).hub = b.hub := rfl
@[simp] theorem Block.setPort_pins (k : Nat) (v : PortSt) : (b.setPort k v).pins = b.pins := rfl
@[simp] theorem Block.setPort_faults (k : Nat) (v : PortSt) : (b.setPort k v).faults = b.faults := rfl
@[simp] theorem Block.setPort_free (k : Nat) (v : PortSt) : (b.setPort k v).free = b.free := rfl

@[simp] theorem Block.setTrace_regs (k : Nat) (v : TraceBuf) : (b.setTrace k v).regs = b.regs := rfl
@[simp] theorem Block.setTrace_shadow (k : Nat) (v : TraceBuf) : (b.setTrace k v).shadow = b.shadow := rfl
@[simp] theorem Block.setTrace_pages (k : Nat) (v : TraceBuf) : (b.setTrace k v).pages = b.pages := rfl
@[simp] theorem Block.setTrace_agents (k : Nat) (v : TraceBuf) : (b.setTrace k v).agents = b.agents := rfl
@[simp] theorem Block.setTrace_parcels (k : Nat) (v : TraceBuf) : (b.setTrace k v).parcels = b.parcels := rfl
@[simp] theorem Block.setTrace_cad (k : Nat) (v : TraceBuf) : (b.setTrace k v).cad = b.cad := rfl
@[simp] theorem Block.setTrace_sensors (k : Nat) (v : TraceBuf) : (b.setTrace k v).sensors = b.sensors := rfl
@[simp] theorem Block.setTrace_slots (k : Nat) (v : TraceBuf) : (b.setTrace k v).slots = b.slots := rfl
@[simp] theorem Block.setTrace_ctxs (k : Nat) (v : TraceBuf) : (b.setTrace k v).ctxs = b.ctxs := rfl
@[simp] theorem Block.setTrace_accounts (k : Nat) (v : TraceBuf) : (b.setTrace k v).accounts = b.accounts := rfl
@[simp] theorem Block.setTrace_colls (k : Nat) (v : TraceBuf) : (b.setTrace k v).colls = b.colls := rfl
@[simp] theorem Block.setTrace_models (k : Nat) (v : TraceBuf) : (b.setTrace k v).models = b.models := rfl
@[simp] theorem Block.setTrace_fields (k : Nat) (v : TraceBuf) : (b.setTrace k v).fields = b.fields := rfl
@[simp] theorem Block.setTrace_rings (k : Nat) (v : TraceBuf) : (b.setTrace k v).rings = b.rings := rfl
@[simp] theorem Block.setTrace_rails (k : Nat) (v : TraceBuf) : (b.setTrace k v).rails = b.rails := rfl
@[simp] theorem Block.setTrace_phases (k : Nat) (v : TraceBuf) : (b.setTrace k v).phases = b.phases := rfl
@[simp] theorem Block.setTrace_ports (k : Nat) (v : TraceBuf) : (b.setTrace k v).ports = b.ports := rfl
@[simp] theorem Block.setTrace_ties (k : Nat) (v : TraceBuf) : (b.setTrace k v).ties = b.ties := rfl
@[simp] theorem Block.setTrace_procs (k : Nat) (v : TraceBuf) : (b.setTrace k v).procs = b.procs := rfl
@[simp] theorem Block.setTrace_mems (k : Nat) (v : TraceBuf) : (b.setTrace k v).mems = b.mems := rfl
@[simp] theorem Block.setTrace_mon (k : Nat) (v : TraceBuf) : (b.setTrace k v).mon = b.mon := rfl
@[simp] theorem Block.setTrace_nv (k : Nat) (v : TraceBuf) : (b.setTrace k v).nv = b.nv := rfl
@[simp] theorem Block.setTrace_hub (k : Nat) (v : TraceBuf) : (b.setTrace k v).hub = b.hub := rfl
@[simp] theorem Block.setTrace_pins (k : Nat) (v : TraceBuf) : (b.setTrace k v).pins = b.pins := rfl
@[simp] theorem Block.setTrace_faults (k : Nat) (v : TraceBuf) : (b.setTrace k v).faults = b.faults := rfl
@[simp] theorem Block.setTrace_free (k : Nat) (v : TraceBuf) : (b.setTrace k v).free = b.free := rfl

@[simp] theorem Block.setTie_regs (k : Nat) (v : Tie) : (b.setTie k v).regs = b.regs := rfl
@[simp] theorem Block.setTie_shadow (k : Nat) (v : Tie) : (b.setTie k v).shadow = b.shadow := rfl
@[simp] theorem Block.setTie_pages (k : Nat) (v : Tie) : (b.setTie k v).pages = b.pages := rfl
@[simp] theorem Block.setTie_agents (k : Nat) (v : Tie) : (b.setTie k v).agents = b.agents := rfl
@[simp] theorem Block.setTie_parcels (k : Nat) (v : Tie) : (b.setTie k v).parcels = b.parcels := rfl
@[simp] theorem Block.setTie_cad (k : Nat) (v : Tie) : (b.setTie k v).cad = b.cad := rfl
@[simp] theorem Block.setTie_sensors (k : Nat) (v : Tie) : (b.setTie k v).sensors = b.sensors := rfl
@[simp] theorem Block.setTie_slots (k : Nat) (v : Tie) : (b.setTie k v).slots = b.slots := rfl
@[simp] theorem Block.setTie_ctxs (k : Nat) (v : Tie) : (b.setTie k v).ctxs = b.ctxs := rfl
@[simp] theorem Block.setTie_accounts (k : Nat) (v : Tie) : (b.setTie k v).accounts = b.accounts := rfl
@[simp] theorem Block.setTie_colls (k : Nat) (v : Tie) : (b.setTie k v).colls = b.colls := rfl
@[simp] theorem Block.setTie_models (k : Nat) (v : Tie) : (b.setTie k v).models = b.models := rfl
@[simp] theorem Block.setTie_fields (k : Nat) (v : Tie) : (b.setTie k v).fields = b.fields := rfl
@[simp] theorem Block.setTie_rings (k : Nat) (v : Tie) : (b.setTie k v).rings = b.rings := rfl
@[simp] theorem Block.setTie_rails (k : Nat) (v : Tie) : (b.setTie k v).rails = b.rails := rfl
@[simp] theorem Block.setTie_phases (k : Nat) (v : Tie) : (b.setTie k v).phases = b.phases := rfl
@[simp] theorem Block.setTie_ports (k : Nat) (v : Tie) : (b.setTie k v).ports = b.ports := rfl
@[simp] theorem Block.setTie_traces (k : Nat) (v : Tie) : (b.setTie k v).traces = b.traces := rfl
@[simp] theorem Block.setTie_procs (k : Nat) (v : Tie) : (b.setTie k v).procs = b.procs := rfl
@[simp] theorem Block.setTie_mems (k : Nat) (v : Tie) : (b.setTie k v).mems = b.mems := rfl
@[simp] theorem Block.setTie_mon (k : Nat) (v : Tie) : (b.setTie k v).mon = b.mon := rfl
@[simp] theorem Block.setTie_nv (k : Nat) (v : Tie) : (b.setTie k v).nv = b.nv := rfl
@[simp] theorem Block.setTie_hub (k : Nat) (v : Tie) : (b.setTie k v).hub = b.hub := rfl
@[simp] theorem Block.setTie_pins (k : Nat) (v : Tie) : (b.setTie k v).pins = b.pins := rfl
@[simp] theorem Block.setTie_faults (k : Nat) (v : Tie) : (b.setTie k v).faults = b.faults := rfl
@[simp] theorem Block.setTie_free (k : Nat) (v : Tie) : (b.setTie k v).free = b.free := rfl

@[simp] theorem Block.setProc_regs (k : Nat) (v : Proc) : (b.setProc k v).regs = b.regs := rfl
@[simp] theorem Block.setProc_shadow (k : Nat) (v : Proc) : (b.setProc k v).shadow = b.shadow := rfl
@[simp] theorem Block.setProc_pages (k : Nat) (v : Proc) : (b.setProc k v).pages = b.pages := rfl
@[simp] theorem Block.setProc_agents (k : Nat) (v : Proc) : (b.setProc k v).agents = b.agents := rfl
@[simp] theorem Block.setProc_parcels (k : Nat) (v : Proc) : (b.setProc k v).parcels = b.parcels := rfl
@[simp] theorem Block.setProc_cad (k : Nat) (v : Proc) : (b.setProc k v).cad = b.cad := rfl
@[simp] theorem Block.setProc_sensors (k : Nat) (v : Proc) : (b.setProc k v).sensors = b.sensors := rfl
@[simp] theorem Block.setProc_slots (k : Nat) (v : Proc) : (b.setProc k v).slots = b.slots := rfl
@[simp] theorem Block.setProc_ctxs (k : Nat) (v : Proc) : (b.setProc k v).ctxs = b.ctxs := rfl
@[simp] theorem Block.setProc_accounts (k : Nat) (v : Proc) : (b.setProc k v).accounts = b.accounts := rfl
@[simp] theorem Block.setProc_colls (k : Nat) (v : Proc) : (b.setProc k v).colls = b.colls := rfl
@[simp] theorem Block.setProc_models (k : Nat) (v : Proc) : (b.setProc k v).models = b.models := rfl
@[simp] theorem Block.setProc_fields (k : Nat) (v : Proc) : (b.setProc k v).fields = b.fields := rfl
@[simp] theorem Block.setProc_rings (k : Nat) (v : Proc) : (b.setProc k v).rings = b.rings := rfl
@[simp] theorem Block.setProc_rails (k : Nat) (v : Proc) : (b.setProc k v).rails = b.rails := rfl
@[simp] theorem Block.setProc_phases (k : Nat) (v : Proc) : (b.setProc k v).phases = b.phases := rfl
@[simp] theorem Block.setProc_ports (k : Nat) (v : Proc) : (b.setProc k v).ports = b.ports := rfl
@[simp] theorem Block.setProc_traces (k : Nat) (v : Proc) : (b.setProc k v).traces = b.traces := rfl
@[simp] theorem Block.setProc_ties (k : Nat) (v : Proc) : (b.setProc k v).ties = b.ties := rfl
@[simp] theorem Block.setProc_mems (k : Nat) (v : Proc) : (b.setProc k v).mems = b.mems := rfl
@[simp] theorem Block.setProc_mon (k : Nat) (v : Proc) : (b.setProc k v).mon = b.mon := rfl
@[simp] theorem Block.setProc_nv (k : Nat) (v : Proc) : (b.setProc k v).nv = b.nv := rfl
@[simp] theorem Block.setProc_hub (k : Nat) (v : Proc) : (b.setProc k v).hub = b.hub := rfl
@[simp] theorem Block.setProc_pins (k : Nat) (v : Proc) : (b.setProc k v).pins = b.pins := rfl
@[simp] theorem Block.setProc_faults (k : Nat) (v : Proc) : (b.setProc k v).faults = b.faults := rfl
@[simp] theorem Block.setProc_free (k : Nat) (v : Proc) : (b.setProc k v).free = b.free := rfl

@[simp] theorem Block.setMemSt_regs (k : Nat) (v : MemSt) : (b.setMemSt k v).regs = b.regs := rfl
@[simp] theorem Block.setMemSt_shadow (k : Nat) (v : MemSt) : (b.setMemSt k v).shadow = b.shadow := rfl
@[simp] theorem Block.setMemSt_pages (k : Nat) (v : MemSt) : (b.setMemSt k v).pages = b.pages := rfl
@[simp] theorem Block.setMemSt_agents (k : Nat) (v : MemSt) : (b.setMemSt k v).agents = b.agents := rfl
@[simp] theorem Block.setMemSt_parcels (k : Nat) (v : MemSt) : (b.setMemSt k v).parcels = b.parcels := rfl
@[simp] theorem Block.setMemSt_cad (k : Nat) (v : MemSt) : (b.setMemSt k v).cad = b.cad := rfl
@[simp] theorem Block.setMemSt_sensors (k : Nat) (v : MemSt) : (b.setMemSt k v).sensors = b.sensors := rfl
@[simp] theorem Block.setMemSt_slots (k : Nat) (v : MemSt) : (b.setMemSt k v).slots = b.slots := rfl
@[simp] theorem Block.setMemSt_ctxs (k : Nat) (v : MemSt) : (b.setMemSt k v).ctxs = b.ctxs := rfl
@[simp] theorem Block.setMemSt_accounts (k : Nat) (v : MemSt) : (b.setMemSt k v).accounts = b.accounts := rfl
@[simp] theorem Block.setMemSt_colls (k : Nat) (v : MemSt) : (b.setMemSt k v).colls = b.colls := rfl
@[simp] theorem Block.setMemSt_models (k : Nat) (v : MemSt) : (b.setMemSt k v).models = b.models := rfl
@[simp] theorem Block.setMemSt_fields (k : Nat) (v : MemSt) : (b.setMemSt k v).fields = b.fields := rfl
@[simp] theorem Block.setMemSt_rings (k : Nat) (v : MemSt) : (b.setMemSt k v).rings = b.rings := rfl
@[simp] theorem Block.setMemSt_rails (k : Nat) (v : MemSt) : (b.setMemSt k v).rails = b.rails := rfl
@[simp] theorem Block.setMemSt_phases (k : Nat) (v : MemSt) : (b.setMemSt k v).phases = b.phases := rfl
@[simp] theorem Block.setMemSt_ports (k : Nat) (v : MemSt) : (b.setMemSt k v).ports = b.ports := rfl
@[simp] theorem Block.setMemSt_traces (k : Nat) (v : MemSt) : (b.setMemSt k v).traces = b.traces := rfl
@[simp] theorem Block.setMemSt_ties (k : Nat) (v : MemSt) : (b.setMemSt k v).ties = b.ties := rfl
@[simp] theorem Block.setMemSt_procs (k : Nat) (v : MemSt) : (b.setMemSt k v).procs = b.procs := rfl
@[simp] theorem Block.setMemSt_mon (k : Nat) (v : MemSt) : (b.setMemSt k v).mon = b.mon := rfl
@[simp] theorem Block.setMemSt_nv (k : Nat) (v : MemSt) : (b.setMemSt k v).nv = b.nv := rfl
@[simp] theorem Block.setMemSt_hub (k : Nat) (v : MemSt) : (b.setMemSt k v).hub = b.hub := rfl
@[simp] theorem Block.setMemSt_pins (k : Nat) (v : MemSt) : (b.setMemSt k v).pins = b.pins := rfl
@[simp] theorem Block.setMemSt_faults (k : Nat) (v : MemSt) : (b.setMemSt k v).faults = b.faults := rfl
@[simp] theorem Block.setMemSt_free (k : Nat) (v : MemSt) : (b.setMemSt k v).free = b.free := rfl

@[simp] theorem Block.setPage_regs (k : Nat) (v : Page) : (b.setPage k v).regs = b.regs := rfl
@[simp] theorem Block.setPage_shadow (k : Nat) (v : Page) : (b.setPage k v).shadow = b.shadow := rfl
@[simp] theorem Block.setPage_agents (k : Nat) (v : Page) : (b.setPage k v).agents = b.agents := rfl
@[simp] theorem Block.setPage_parcels (k : Nat) (v : Page) : (b.setPage k v).parcels = b.parcels := rfl
@[simp] theorem Block.setPage_cad (k : Nat) (v : Page) : (b.setPage k v).cad = b.cad := rfl
@[simp] theorem Block.setPage_sensors (k : Nat) (v : Page) : (b.setPage k v).sensors = b.sensors := rfl
@[simp] theorem Block.setPage_slots (k : Nat) (v : Page) : (b.setPage k v).slots = b.slots := rfl
@[simp] theorem Block.setPage_ctxs (k : Nat) (v : Page) : (b.setPage k v).ctxs = b.ctxs := rfl
@[simp] theorem Block.setPage_accounts (k : Nat) (v : Page) : (b.setPage k v).accounts = b.accounts := rfl
@[simp] theorem Block.setPage_colls (k : Nat) (v : Page) : (b.setPage k v).colls = b.colls := rfl
@[simp] theorem Block.setPage_models (k : Nat) (v : Page) : (b.setPage k v).models = b.models := rfl
@[simp] theorem Block.setPage_fields (k : Nat) (v : Page) : (b.setPage k v).fields = b.fields := rfl
@[simp] theorem Block.setPage_rings (k : Nat) (v : Page) : (b.setPage k v).rings = b.rings := rfl
@[simp] theorem Block.setPage_rails (k : Nat) (v : Page) : (b.setPage k v).rails = b.rails := rfl
@[simp] theorem Block.setPage_phases (k : Nat) (v : Page) : (b.setPage k v).phases = b.phases := rfl
@[simp] theorem Block.setPage_ports (k : Nat) (v : Page) : (b.setPage k v).ports = b.ports := rfl
@[simp] theorem Block.setPage_traces (k : Nat) (v : Page) : (b.setPage k v).traces = b.traces := rfl
@[simp] theorem Block.setPage_ties (k : Nat) (v : Page) : (b.setPage k v).ties = b.ties := rfl
@[simp] theorem Block.setPage_procs (k : Nat) (v : Page) : (b.setPage k v).procs = b.procs := rfl
@[simp] theorem Block.setPage_mems (k : Nat) (v : Page) : (b.setPage k v).mems = b.mems := rfl
@[simp] theorem Block.setPage_mon (k : Nat) (v : Page) : (b.setPage k v).mon = b.mon := rfl
@[simp] theorem Block.setPage_nv (k : Nat) (v : Page) : (b.setPage k v).nv = b.nv := rfl
@[simp] theorem Block.setPage_hub (k : Nat) (v : Page) : (b.setPage k v).hub = b.hub := rfl
@[simp] theorem Block.setPage_pins (k : Nat) (v : Page) : (b.setPage k v).pins = b.pins := rfl
@[simp] theorem Block.setPage_faults (k : Nat) (v : Page) : (b.setPage k v).faults = b.faults := rfl
@[simp] theorem Block.setPage_free (k : Nat) (v : Page) : (b.setPage k v).free = b.free := rfl

@[simp] theorem Block.modHub_regs (g : Hub → Hub) : (b.modHub g).regs = b.regs := rfl
@[simp] theorem Block.modHub_shadow (g : Hub → Hub) : (b.modHub g).shadow = b.shadow := rfl
@[simp] theorem Block.modHub_pages (g : Hub → Hub) : (b.modHub g).pages = b.pages := rfl
@[simp] theorem Block.modHub_agents (g : Hub → Hub) : (b.modHub g).agents = b.agents := rfl
@[simp] theorem Block.modHub_parcels (g : Hub → Hub) : (b.modHub g).parcels = b.parcels := rfl
@[simp] theorem Block.modHub_cad (g : Hub → Hub) : (b.modHub g).cad = b.cad := rfl
@[simp] theorem Block.modHub_sensors (g : Hub → Hub) : (b.modHub g).sensors = b.sensors := rfl
@[simp] theorem Block.modHub_slots (g : Hub → Hub) : (b.modHub g).slots = b.slots := rfl
@[simp] theorem Block.modHub_ctxs (g : Hub → Hub) : (b.modHub g).ctxs = b.ctxs := rfl
@[simp] theorem Block.modHub_accounts (g : Hub → Hub) : (b.modHub g).accounts = b.accounts := rfl
@[simp] theorem Block.modHub_colls (g : Hub → Hub) : (b.modHub g).colls = b.colls := rfl
@[simp] theorem Block.modHub_models (g : Hub → Hub) : (b.modHub g).models = b.models := rfl
@[simp] theorem Block.modHub_fields (g : Hub → Hub) : (b.modHub g).fields = b.fields := rfl
@[simp] theorem Block.modHub_rings (g : Hub → Hub) : (b.modHub g).rings = b.rings := rfl
@[simp] theorem Block.modHub_rails (g : Hub → Hub) : (b.modHub g).rails = b.rails := rfl
@[simp] theorem Block.modHub_phases (g : Hub → Hub) : (b.modHub g).phases = b.phases := rfl
@[simp] theorem Block.modHub_ports (g : Hub → Hub) : (b.modHub g).ports = b.ports := rfl
@[simp] theorem Block.modHub_traces (g : Hub → Hub) : (b.modHub g).traces = b.traces := rfl
@[simp] theorem Block.modHub_ties (g : Hub → Hub) : (b.modHub g).ties = b.ties := rfl
@[simp] theorem Block.modHub_procs (g : Hub → Hub) : (b.modHub g).procs = b.procs := rfl
@[simp] theorem Block.modHub_mems (g : Hub → Hub) : (b.modHub g).mems = b.mems := rfl
@[simp] theorem Block.modHub_mon (g : Hub → Hub) : (b.modHub g).mon = b.mon := rfl
@[simp] theorem Block.modHub_nv (g : Hub → Hub) : (b.modHub g).nv = b.nv := rfl
@[simp] theorem Block.modHub_pins (g : Hub → Hub) : (b.modHub g).pins = b.pins := rfl
@[simp] theorem Block.modHub_faults (g : Hub → Hub) : (b.modHub g).faults = b.faults := rfl
@[simp] theorem Block.modHub_free (g : Hub → Hub) : (b.modHub g).free = b.free := rfl

@[simp] theorem Block.modMon_regs (g : Monument → Monument) : (b.modMon g).regs = b.regs := rfl
@[simp] theorem Block.modMon_shadow (g : Monument → Monument) : (b.modMon g).shadow = b.shadow := rfl
@[simp] theorem Block.modMon_pages (g : Monument → Monument) : (b.modMon g).pages = b.pages := rfl
@[simp] theorem Block.modMon_agents (g : Monument → Monument) : (b.modMon g).agents = b.agents := rfl
@[simp] theorem Block.modMon_parcels (g : Monument → Monument) : (b.modMon g).parcels = b.parcels := rfl
@[simp] theorem Block.modMon_cad (g : Monument → Monument) : (b.modMon g).cad = b.cad := rfl
@[simp] theorem Block.modMon_sensors (g : Monument → Monument) : (b.modMon g).sensors = b.sensors := rfl
@[simp] theorem Block.modMon_slots (g : Monument → Monument) : (b.modMon g).slots = b.slots := rfl
@[simp] theorem Block.modMon_ctxs (g : Monument → Monument) : (b.modMon g).ctxs = b.ctxs := rfl
@[simp] theorem Block.modMon_accounts (g : Monument → Monument) : (b.modMon g).accounts = b.accounts := rfl
@[simp] theorem Block.modMon_colls (g : Monument → Monument) : (b.modMon g).colls = b.colls := rfl
@[simp] theorem Block.modMon_models (g : Monument → Monument) : (b.modMon g).models = b.models := rfl
@[simp] theorem Block.modMon_fields (g : Monument → Monument) : (b.modMon g).fields = b.fields := rfl
@[simp] theorem Block.modMon_rings (g : Monument → Monument) : (b.modMon g).rings = b.rings := rfl
@[simp] theorem Block.modMon_rails (g : Monument → Monument) : (b.modMon g).rails = b.rails := rfl
@[simp] theorem Block.modMon_phases (g : Monument → Monument) : (b.modMon g).phases = b.phases := rfl
@[simp] theorem Block.modMon_ports (g : Monument → Monument) : (b.modMon g).ports = b.ports := rfl
@[simp] theorem Block.modMon_traces (g : Monument → Monument) : (b.modMon g).traces = b.traces := rfl
@[simp] theorem Block.modMon_ties (g : Monument → Monument) : (b.modMon g).ties = b.ties := rfl
@[simp] theorem Block.modMon_procs (g : Monument → Monument) : (b.modMon g).procs = b.procs := rfl
@[simp] theorem Block.modMon_mems (g : Monument → Monument) : (b.modMon g).mems = b.mems := rfl
@[simp] theorem Block.modMon_nv (g : Monument → Monument) : (b.modMon g).nv = b.nv := rfl
@[simp] theorem Block.modMon_hub (g : Monument → Monument) : (b.modMon g).hub = b.hub := rfl
@[simp] theorem Block.modMon_pins (g : Monument → Monument) : (b.modMon g).pins = b.pins := rfl
@[simp] theorem Block.modMon_faults (g : Monument → Monument) : (b.modMon g).faults = b.faults := rfl
@[simp] theorem Block.modMon_free (g : Monument → Monument) : (b.modMon g).free = b.free := rfl

@[simp] theorem Block.modNv_regs (g : Nonvol → Nonvol) : (b.modNv g).regs = b.regs := rfl
@[simp] theorem Block.modNv_shadow (g : Nonvol → Nonvol) : (b.modNv g).shadow = b.shadow := rfl
@[simp] theorem Block.modNv_pages (g : Nonvol → Nonvol) : (b.modNv g).pages = b.pages := rfl
@[simp] theorem Block.modNv_agents (g : Nonvol → Nonvol) : (b.modNv g).agents = b.agents := rfl
@[simp] theorem Block.modNv_parcels (g : Nonvol → Nonvol) : (b.modNv g).parcels = b.parcels := rfl
@[simp] theorem Block.modNv_cad (g : Nonvol → Nonvol) : (b.modNv g).cad = b.cad := rfl
@[simp] theorem Block.modNv_sensors (g : Nonvol → Nonvol) : (b.modNv g).sensors = b.sensors := rfl
@[simp] theorem Block.modNv_slots (g : Nonvol → Nonvol) : (b.modNv g).slots = b.slots := rfl
@[simp] theorem Block.modNv_ctxs (g : Nonvol → Nonvol) : (b.modNv g).ctxs = b.ctxs := rfl
@[simp] theorem Block.modNv_accounts (g : Nonvol → Nonvol) : (b.modNv g).accounts = b.accounts := rfl
@[simp] theorem Block.modNv_colls (g : Nonvol → Nonvol) : (b.modNv g).colls = b.colls := rfl
@[simp] theorem Block.modNv_models (g : Nonvol → Nonvol) : (b.modNv g).models = b.models := rfl
@[simp] theorem Block.modNv_fields (g : Nonvol → Nonvol) : (b.modNv g).fields = b.fields := rfl
@[simp] theorem Block.modNv_rings (g : Nonvol → Nonvol) : (b.modNv g).rings = b.rings := rfl
@[simp] theorem Block.modNv_rails (g : Nonvol → Nonvol) : (b.modNv g).rails = b.rails := rfl
@[simp] theorem Block.modNv_phases (g : Nonvol → Nonvol) : (b.modNv g).phases = b.phases := rfl
@[simp] theorem Block.modNv_ports (g : Nonvol → Nonvol) : (b.modNv g).ports = b.ports := rfl
@[simp] theorem Block.modNv_traces (g : Nonvol → Nonvol) : (b.modNv g).traces = b.traces := rfl
@[simp] theorem Block.modNv_ties (g : Nonvol → Nonvol) : (b.modNv g).ties = b.ties := rfl
@[simp] theorem Block.modNv_procs (g : Nonvol → Nonvol) : (b.modNv g).procs = b.procs := rfl
@[simp] theorem Block.modNv_mems (g : Nonvol → Nonvol) : (b.modNv g).mems = b.mems := rfl
@[simp] theorem Block.modNv_mon (g : Nonvol → Nonvol) : (b.modNv g).mon = b.mon := rfl
@[simp] theorem Block.modNv_hub (g : Nonvol → Nonvol) : (b.modNv g).hub = b.hub := rfl
@[simp] theorem Block.modNv_pins (g : Nonvol → Nonvol) : (b.modNv g).pins = b.pins := rfl
@[simp] theorem Block.modNv_faults (g : Nonvol → Nonvol) : (b.modNv g).faults = b.faults := rfl
@[simp] theorem Block.modNv_free (g : Nonvol → Nonvol) : (b.modNv g).free = b.free := rfl

@[simp] theorem Block.modPins_regs (g : Pins → Pins) : (b.modPins g).regs = b.regs := rfl
@[simp] theorem Block.modPins_shadow (g : Pins → Pins) : (b.modPins g).shadow = b.shadow := rfl
@[simp] theorem Block.modPins_pages (g : Pins → Pins) : (b.modPins g).pages = b.pages := rfl
@[simp] theorem Block.modPins_agents (g : Pins → Pins) : (b.modPins g).agents = b.agents := rfl
@[simp] theorem Block.modPins_parcels (g : Pins → Pins) : (b.modPins g).parcels = b.parcels := rfl
@[simp] theorem Block.modPins_cad (g : Pins → Pins) : (b.modPins g).cad = b.cad := rfl
@[simp] theorem Block.modPins_sensors (g : Pins → Pins) : (b.modPins g).sensors = b.sensors := rfl
@[simp] theorem Block.modPins_slots (g : Pins → Pins) : (b.modPins g).slots = b.slots := rfl
@[simp] theorem Block.modPins_ctxs (g : Pins → Pins) : (b.modPins g).ctxs = b.ctxs := rfl
@[simp] theorem Block.modPins_accounts (g : Pins → Pins) : (b.modPins g).accounts = b.accounts := rfl
@[simp] theorem Block.modPins_colls (g : Pins → Pins) : (b.modPins g).colls = b.colls := rfl
@[simp] theorem Block.modPins_models (g : Pins → Pins) : (b.modPins g).models = b.models := rfl
@[simp] theorem Block.modPins_fields (g : Pins → Pins) : (b.modPins g).fields = b.fields := rfl
@[simp] theorem Block.modPins_rings (g : Pins → Pins) : (b.modPins g).rings = b.rings := rfl
@[simp] theorem Block.modPins_rails (g : Pins → Pins) : (b.modPins g).rails = b.rails := rfl
@[simp] theorem Block.modPins_phases (g : Pins → Pins) : (b.modPins g).phases = b.phases := rfl
@[simp] theorem Block.modPins_ports (g : Pins → Pins) : (b.modPins g).ports = b.ports := rfl
@[simp] theorem Block.modPins_traces (g : Pins → Pins) : (b.modPins g).traces = b.traces := rfl
@[simp] theorem Block.modPins_ties (g : Pins → Pins) : (b.modPins g).ties = b.ties := rfl
@[simp] theorem Block.modPins_procs (g : Pins → Pins) : (b.modPins g).procs = b.procs := rfl
@[simp] theorem Block.modPins_mems (g : Pins → Pins) : (b.modPins g).mems = b.mems := rfl
@[simp] theorem Block.modPins_mon (g : Pins → Pins) : (b.modPins g).mon = b.mon := rfl
@[simp] theorem Block.modPins_nv (g : Pins → Pins) : (b.modPins g).nv = b.nv := rfl
@[simp] theorem Block.modPins_hub (g : Pins → Pins) : (b.modPins g).hub = b.hub := rfl
@[simp] theorem Block.modPins_faults (g : Pins → Pins) : (b.modPins g).faults = b.faults := rfl
@[simp] theorem Block.modPins_free (g : Pins → Pins) : (b.modPins g).free = b.free := rfl

@[simp] theorem Block.modHub_same (g : Hub → Hub) : (b.modHub g).hub = g b.hub := rfl
@[simp] theorem Block.modMon_same (g : Monument → Monument) : (b.modMon g).mon = g b.mon := rfl
@[simp] theorem Block.modNv_same (g : Nonvol → Nonvol) : (b.modNv g).nv = g b.nv := rfl
@[simp] theorem Block.modPins_same (g : Pins → Pins) : (b.modPins g).pins = g b.pins := rfl

end Sys2Proof.Machine
end

