-- ==== Sys2Proof/Laws/Ops.lean ====
section
/-! SUPPORT. The named operations: a read after a write of the same record or field, and of another one. -/

namespace Sys2Proof.Machine

open Sys2Proof

/-! ### Register fields -/

/-- A read after a write of the same field gives the bits that the field keeps. -/
theorem Block.rd_wr_same (b : Block) (x : Fld) (i v : Nat) : (b.wr x i v).rd x i = v % 2 ^ x.width := by
  simp [Block.rd, Block.wr, lowBits, mget_mput_same]

/-- A field under another key reads as before. -/
theorem Block.rd_wr_other (b : Block) {x y : Fld} {i j : Nat} (v : Nat) (h : y.key j ≠ x.key i) :
    (b.wr x i v).rd y j = b.rd y j := by
  simp [Block.rd, Block.wr, mget_mput_other h]

theorem Block.rdS_wrS_same (b : Block) (x : Fld) (i v : Nat) : (b.wrS x i v).rdS x i = v % 2 ^ x.width := by
  simp [Block.rdS, Block.wrS, lowBits, mget_mput_same]

theorem Block.rdS_wrS_other (b : Block) {x y : Fld} {i j : Nat} (v : Nat) (h : y.key j ≠ x.key i) :
    (b.wrS x i v).rdS y j = b.rdS y j := by
  simp [Block.rdS, Block.wrS, mget_mput_other h]

/-- A read depends on the present values alone. -/
theorem Block.rd_congr {a b : Block} (h : b.regs = a.regs) (x : Fld) (i : Nat) : b.rd x i = a.rd x i := by
  simp [Block.rd, h]

/-- Two fields of one instance of different page, offset or low bit have different keys, while the parts keep within their places. -/
theorem Fld.key_ne {x y : Fld} {i j : Nat} (hx : x.page < 256 ∧ x.off < 4096 ∧ x.lo < 32) (hy : y.page < 256 ∧ y.off < 4096 ∧ y.lo < 32)
    (h : i ≠ j ∨ x.page ≠ y.page ∨ x.off ≠ y.off ∨ x.lo ≠ y.lo) : x.key i ≠ y.key j := by
  unfold Fld.key; omega

theorem Block.modHub_rd (b : Block) (g : Hub → Hub) (x : Fld) (i : Nat) : (b.modHub g).rd x i = b.rd x i := rfl

/-! ### Numbered records -/

@[simp] theorem Block.agent_setAgent_same (b : Block) (k : Nat) (v : Agent) : (b.setAgent k v).agent k = v := mget_mput_same
theorem Block.agent_setAgent_other (b : Block) {k j : Nat} (v : Agent) (h : j ≠ k) : (b.setAgent k v).agent j = b.agent j := mget_mput_other h
@[simp] theorem Block.agent_modAgent_same (b : Block) (k : Nat) (u : Agent → Agent) : (b.modAgent k u).agent k = u (b.agent k) := mget_mput_same
theorem Block.agent_modAgent_other (b : Block) {k j : Nat} (u : Agent → Agent) (h : j ≠ k) : (b.modAgent k u).agent j = b.agent j := mget_mput_other h

@[simp] theorem Block.parcel_setParcel_same (b : Block) (k : Nat) (v : Parcel) : (b.setParcel k v).parcel k = v := mget_mput_same
theorem Block.parcel_setParcel_other (b : Block) {k j : Nat} (v : Parcel) (h : j ≠ k) : (b.setParcel k v).parcel j = b.parcel j := mget_mput_other h
@[simp] theorem Block.parcel_modParcel_same (b : Block) (k : Nat) (u : Parcel → Parcel) : (b.modParcel k u).parcel k = u (b.parcel k) := mget_mput_same
theorem Block.parcel_modParcel_other (b : Block) {k j : Nat} (u : Parcel → Parcel) (h : j ≠ k) : (b.modParcel k u).parcel j = b.parcel j := mget_mput_other h

@[simp] theorem Block.cadE_setCadE_same (b : Block) (k : Nat) (v : Cad) : (b.setCadE k v).cadE k = v := mget_mput_same
theorem Block.cadE_setCadE_other (b : Block) {k j : Nat} (v : Cad) (h : j ≠ k) : (b.setCadE k v).cadE j = b.cadE j := mget_mput_other h
@[simp] theorem Block.cadE_modCadE_same (b : Block) (k : Nat) (u : Cad → Cad) : (b.modCadE k u).cadE k = u (b.cadE k) := mget_mput_same
theorem Block.cadE_modCadE_other (b : Block) {k j : Nat} (u : Cad → Cad) (h : j ≠ k) : (b.modCadE k u).cadE j = b.cadE j := mget_mput_other h

@[simp] theorem Block.sensor_setSensor_same (b : Block) (k : Nat) (v : Sensor) : (b.setSensor k v).sensor k = v := mget_mput_same
theorem Block.sensor_setSensor_other (b : Block) {k j : Nat} (v : Sensor) (h : j ≠ k) : (b.setSensor k v).sensor j = b.sensor j := mget_mput_other h
@[simp] theorem Block.sensor_modSensor_same (b : Block) (k : Nat) (u : Sensor → Sensor) : (b.modSensor k u).sensor k = u (b.sensor k) := mget_mput_same
theorem Block.sensor_modSensor_other (b : Block) {k j : Nat} (u : Sensor → Sensor) (h : j ≠ k) : (b.modSensor k u).sensor j = b.sensor j := mget_mput_other h

@[simp] theorem Block.slot_setSlot_same (b : Block) (k : Nat) (v : Slot) : (b.setSlot k v).slot k = v := mget_mput_same
theorem Block.slot_setSlot_other (b : Block) {k j : Nat} (v : Slot) (h : j ≠ k) : (b.setSlot k v).slot j = b.slot j := mget_mput_other h
@[simp] theorem Block.slot_modSlot_same (b : Block) (k : Nat) (u : Slot → Slot) : (b.modSlot k u).slot k = u (b.slot k) := mget_mput_same
theorem Block.slot_modSlot_other (b : Block) {k j : Nat} (u : Slot → Slot) (h : j ≠ k) : (b.modSlot k u).slot j = b.slot j := mget_mput_other h

@[simp] theorem Block.ctx_setCtx_same (b : Block) (k : Nat) (v : Ctx) : (b.setCtx k v).ctx k = v := mget_mput_same
theorem Block.ctx_setCtx_other (b : Block) {k j : Nat} (v : Ctx) (h : j ≠ k) : (b.setCtx k v).ctx j = b.ctx j := mget_mput_other h
@[simp] theorem Block.ctx_modCtx_same (b : Block) (k : Nat) (u : Ctx → Ctx) : (b.modCtx k u).ctx k = u (b.ctx k) := mget_mput_same
theorem Block.ctx_modCtx_other (b : Block) {k j : Nat} (u : Ctx → Ctx) (h : j ≠ k) : (b.modCtx k u).ctx j = b.ctx j := mget_mput_other h

@[simp] theorem Block.acct_setAcct_same (b : Block) (k : Nat) (v : Account) : (b.setAcct k v).acct k = v := mget_mput_same
theorem Block.acct_setAcct_other (b : Block) {k j : Nat} (v : Account) (h : j ≠ k) : (b.setAcct k v).acct j = b.acct j := mget_mput_other h
@[simp] theorem Block.acct_modAcct_same (b : Block) (k : Nat) (u : Account → Account) : (b.modAcct k u).acct k = u (b.acct k) := mget_mput_same
theorem Block.acct_modAcct_other (b : Block) {k j : Nat} (u : Account → Account) (h : j ≠ k) : (b.modAcct k u).acct j = b.acct j := mget_mput_other h

@[simp] theorem Block.coll_setColl_same (b : Block) (k : Nat) (v : Coll) : (b.setColl k v).coll k = v := mget_mput_same
theorem Block.coll_setColl_other (b : Block) {k j : Nat} (v : Coll) (h : j ≠ k) : (b.setColl k v).coll j = b.coll j := mget_mput_other h
@[simp] theorem Block.coll_modColl_same (b : Block) (k : Nat) (u : Coll → Coll) : (b.modColl k u).coll k = u (b.coll k) := mget_mput_same
theorem Block.coll_modColl_other (b : Block) {k j : Nat} (u : Coll → Coll) (h : j ≠ k) : (b.modColl k u).coll j = b.coll j := mget_mput_other h

@[simp] theorem Block.model_setModel_same (b : Block) (k : Nat) (v : Model) : (b.setModel k v).model k = v := mget_mput_same
theorem Block.model_setModel_other (b : Block) {k j : Nat} (v : Model) (h : j ≠ k) : (b.setModel k v).model j = b.model j := mget_mput_other h
@[simp] theorem Block.model_modModel_same (b : Block) (k : Nat) (u : Model → Model) : (b.modModel k u).model k = u (b.model k) := mget_mput_same
theorem Block.model_modModel_other (b : Block) {k j : Nat} (u : Model → Model) (h : j ≠ k) : (b.modModel k u).model j = b.model j := mget_mput_other h

@[simp] theorem Block.fu_setFu_same (b : Block) (k : Nat) (v : FieldUnit) : (b.setFu k v).fu k = v := mget_mput_same
theorem Block.fu_setFu_other (b : Block) {k j : Nat} (v : FieldUnit) (h : j ≠ k) : (b.setFu k v).fu j = b.fu j := mget_mput_other h
@[simp] theorem Block.fu_modFu_same (b : Block) (k : Nat) (u : FieldUnit → FieldUnit) : (b.modFu k u).fu k = u (b.fu k) := mget_mput_same
theorem Block.fu_modFu_other (b : Block) {k j : Nat} (u : FieldUnit → FieldUnit) (h : j ≠ k) : (b.modFu k u).fu j = b.fu j := mget_mput_other h

@[simp] theorem Block.ring_setRing_same (b : Block) (k : Nat) (v : Ring) : (b.setRing k v).ring k = v := mget_mput_same
theorem Block.ring_setRing_other (b : Block) {k j : Nat} (v : Ring) (h : j ≠ k) : (b.setRing k v).ring j = b.ring j := mget_mput_other h
@[simp] theorem Block.ring_modRing_same (b : Block) (k : Nat) (u : Ring → Ring) : (b.modRing k u).ring k = u (b.ring k) := mget_mput_same
theorem Block.ring_modRing_other (b : Block) {k j : Nat} (u : Ring → Ring) (h : j ≠ k) : (b.modRing k u).ring j = b.ring j := mget_mput_other h

@[simp] theorem Block.rail_setRail_same (b : Block) (k : Nat) (v : RailSt) : (b.setRail k v).rail k = v := mget_mput_same
theorem Block.rail_setRail_other (b : Block) {k j : Nat} (v : RailSt) (h : j ≠ k) : (b.setRail k v).rail j = b.rail j := mget_mput_other h
@[simp] theorem Block.rail_modRail_same (b : Block) (k : Nat) (u : RailSt → RailSt) : (b.modRail k u).rail k = u (b.rail k) := mget_mput_same
theorem Block.rail_modRail_other (b : Block) {k j : Nat} (u : RailSt → RailSt) (h : j ≠ k) : (b.modRail k u).rail j = b.rail j := mget_mput_other h

@[simp] theorem Block.phase_setPhase_same (b : Block) (k : Nat) (v : PhaseSt) : (b.setPhase k v).phase k = v := mget_mput_same
theorem Block.phase_setPhase_other (b : Block) {k j : Nat} (v : PhaseSt) (h : j ≠ k) : (b.setPhase k v).phase j = b.phase j := mget_mput_other h
@[simp] theorem Block.phase_modPhase_same (b : Block) (k : Nat) (u : PhaseSt → PhaseSt) : (b.modPhase k u).phase k = u (b.phase k) := mget_mput_same
theorem Block.phase_modPhase_other (b : Block) {k j : Nat} (u : PhaseSt → PhaseSt) (h : j ≠ k) : (b.modPhase k u).phase j = b.phase j := mget_mput_other h

@[simp] theorem Block.port_setPort_same (b : Block) (k : Nat) (v : PortSt) : (b.setPort k v).port k = v := mget_mput_same
theorem Block.port_setPort_other (b : Block) {k j : Nat} (v : PortSt) (h : j ≠ k) : (b.setPort k v).port j = b.port j := mget_mput_other h
@[simp] theorem Block.port_modPort_same (b : Block) (k : Nat) (u : PortSt → PortSt) : (b.modPort k u).port k = u (b.port k) := mget_mput_same
theorem Block.port_modPort_other (b : Block) {k j : Nat} (u : PortSt → PortSt) (h : j ≠ k) : (b.modPort k u).port j = b.port j := mget_mput_other h

@[simp] theorem Block.trace_setTrace_same (b : Block) (k : Nat) (v : TraceBuf) : (b.setTrace k v).trace k = v := mget_mput_same
theorem Block.trace_setTrace_other (b : Block) {k j : Nat} (v : TraceBuf) (h : j ≠ k) : (b.setTrace k v).trace j = b.trace j := mget_mput_other h
@[simp] theorem Block.trace_modTrace_same (b : Block) (k : Nat) (u : TraceBuf → TraceBuf) : (b.modTrace k u).trace k = u (b.trace k) := mget_mput_same
theorem Block.trace_modTrace_other (b : Block) {k j : Nat} (u : TraceBuf → TraceBuf) (h : j ≠ k) : (b.modTrace k u).trace j = b.trace j := mget_mput_other h

@[simp] theorem Block.tie_setTie_same (b : Block) (k : Nat) (v : Tie) : (b.setTie k v).tie k = v := mget_mput_same
theorem Block.tie_setTie_other (b : Block) {k j : Nat} (v : Tie) (h : j ≠ k) : (b.setTie k v).tie j = b.tie j := mget_mput_other h
@[simp] theorem Block.tie_modTie_same (b : Block) (k : Nat) (u : Tie → Tie) : (b.modTie k u).tie k = u (b.tie k) := mget_mput_same
theorem Block.tie_modTie_other (b : Block) {k j : Nat} (u : Tie → Tie) (h : j ≠ k) : (b.modTie k u).tie j = b.tie j := mget_mput_other h

@[simp] theorem Block.proc_setProc_same (b : Block) (k : Nat) (v : Proc) : (b.setProc k v).proc k = v := mget_mput_same
theorem Block.proc_setProc_other (b : Block) {k j : Nat} (v : Proc) (h : j ≠ k) : (b.setProc k v).proc j = b.proc j := mget_mput_other h
@[simp] theorem Block.proc_modProc_same (b : Block) (k : Nat) (u : Proc → Proc) : (b.modProc k u).proc k = u (b.proc k) := mget_mput_same
theorem Block.proc_modProc_other (b : Block) {k j : Nat} (u : Proc → Proc) (h : j ≠ k) : (b.modProc k u).proc j = b.proc j := mget_mput_other h

@[simp] theorem Block.memSt_setMemSt_same (b : Block) (k : Nat) (v : MemSt) : (b.setMemSt k v).memSt k = v := mget_mput_same
theorem Block.memSt_setMemSt_other (b : Block) {k j : Nat} (v : MemSt) (h : j ≠ k) : (b.setMemSt k v).memSt j = b.memSt j := mget_mput_other h
@[simp] theorem Block.memSt_modMemSt_same (b : Block) (k : Nat) (u : MemSt → MemSt) : (b.modMemSt k u).memSt k = u (b.memSt k) := mget_mput_same
theorem Block.memSt_modMemSt_other (b : Block) {k j : Nat} (u : MemSt → MemSt) (h : j ≠ k) : (b.modMemSt k u).memSt j = b.memSt j := mget_mput_other h

@[simp] theorem Block.page_setPage_same (b : Block) (k : Nat) (v : Page) : (b.setPage k v).page k = v := mget_mput_same
theorem Block.page_setPage_other (b : Block) {k j : Nat} (v : Page) (h : j ≠ k) : (b.setPage k v).page j = b.page j := mget_mput_other h
@[simp] theorem Block.page_modPage_same (b : Block) (k : Nat) (u : Page → Page) : (b.modPage k u).page k = u (b.page k) := mget_mput_same
theorem Block.page_modPage_other (b : Block) {k j : Nat} (u : Page → Page) (h : j ≠ k) : (b.modPage k u).page j = b.page j := mget_mput_other h

/-! ### Folds -/

/-- What every step of a fold keeps, the fold keeps. -/
theorem Block.each_keeps {α β : Type} (p : Block → β) (g : Block → α → Block) (h : ∀ b x, p (g b x) = p b) (l : List α) (b : Block) :
    p (b.each l g) = p b := by
  unfold Block.each
  induction l generalizing b with
  | nil => rfl
  | cons x r ih => rw [List.foldl_cons, ih, h]

theorem Block.each_nil {α : Type} (b : Block) (g : Block → α → Block) : b.each [] g = b := rfl
theorem Block.each_cons {α : Type} (b : Block) (x : α) (l : List α) (g : Block → α → Block) : b.each (x :: l) g = (g b x).each l g := rfl

@[simp] theorem Block.cond_true (b : Block) (g : Block → Block) : b.cond true g = g b := rfl
@[simp] theorem Block.cond_false (b : Block) (g : Block → Block) : b.cond false g = b := rfl

end Sys2Proof.Machine
end

