-- ==== Sys2Proof/Tests/Slice0.lean ====
section
/-!
SUPPORT. Small tests of the model: ill-formed operands that WellFormed refuses, a witness for the hypotheses of every
statement, and single steps against figures of the specification.
-/

namespace Sys2Proof.Tests

set_option Elab.async false

open Sys2Proof Sys2Proof.Machine

/-! ### Small states -/

/-- The reset block at tick `n` as `g` changes it. -/
def at_ (n : Nat) (g : Block → Block) : State := { State.reset with tick := n, b := g Block.reset }

/-- A block that runs: manager state RUN, phase READY, no field marked out that `g` does not mark. -/
def run (n : Nat) (g : Block → Block) : State :=
  at_ n (fun b => g (((b.wr HUB_STATE.MGR_STATE 0 4).wr HUB_STATE.START_PHASE 0 0).modPins (fun p => { p with inReset := false })))

/-- A command with its words, from the front. -/
def cmd (port : CmdPort) (opts : Nat) (l : List Nat) : Cmd :=
  { port := port, seq := 7, opts := BitVec.ofNat 8 opts, args := Vector.ofFn (fun i : Fin 15 => BitVec.ofNat 32 (l.getD i 0)), sc := 0 }

/-- A fault's readings, all 0. -/
def noReadings : LastFaultIn :=
  { vin := 0, vCore := 0, vSram := 0, iph := Vector.ofFn (fun _ => 0), tph := Vector.ofFn (fun _ => 0), foldback := 0, faultPins := 0
    elapsed := 0, sc := 0 }

/-- The premise `Passes`, decided. -/
def passes (op : Nat) (c : Cmd) (s : State) : Bool :=
  (s.b.port (portNo c.port)).flight.isNone && (s.b.downOwner op c).isNone && legal op c.opts.toNat s.b.mgr s.b.hub.sched.isSome &&
  (badWord op c).isNone && (badBuf op c).isNone && (match fsetAt op with
    | some k => !(c.fset k).isEmpty
    | none => true)

theorem passes_spec {op : Nat} {c : Cmd} {s : State} (h : passes op c s = true) : Passes op c s := by
  simp only [passes, Bool.and_eq_true, Option.isNone_iff_eq_none] at h
  obtain ⟨⟨⟨⟨⟨h1, h2⟩, h3⟩, h4⟩, h5⟩, h6⟩ := h
  refine ⟨h1, h2, h3, h4, h5, fun k hk => ?_⟩
  rw [hk] at h6
  simpa using h6

/-! ### Ill-formed operands (WellFormed) -/

def twice : Latched := { field := 0, slot := 0, events := Vector.ofFn (fun _ => Vector.ofFn (fun _ => 1)), faulty := 0 }
def mark : TickIn := { latched := [], bench := [], vin := [], flowOk := true, pwrFail := false }

theorem test_wf_mark : Instr.wf (.tickMark mark) = true := by decide +kernel
theorem test_wf_latched : Instr.wf (.tickMark { mark with latched := [twice, twice] }) = false := by decide +kernel
theorem test_wf_bench : Instr.wf (.tickMark { mark with bench := [⟨1, 2, true, 0⟩, ⟨1, 2, true, 8⟩] }) = false := by decide +kernel
theorem test_wf_vin : Instr.wf (.tickMark { mark with vin := [(3, 0), (3, 1)] }) = false := by decide +kernel
theorem test_wf_ring : Instr.wf (.upwardFrame 0 1 true [⟨55, false, false, 0⟩]) = false := by decide +kernel
theorem test_wf_words : Instr.wf (.upwardFrame 0 1 true [⟨56, false, false, 0⟩, ⟨56, false, false, 1⟩]) = false := by decide +kernel
theorem test_wf_arrivals : Instr.wf (.haltedEntry [(0, 1, 2), (0, 3, 4)]) = false := by decide +kernel
theorem test_wf_rows : Instr.wf (.marchSegment .hub [4, 4]) = false := by decide +kernel
theorem test_wf_unread : Instr.wf (.marchDone ⟨.hub, [(1, 4), (1, 4)]⟩) = false := by decide +kernel
theorem test_wf_items : Instr.wf (.bistComplete 0 ⟨[⟨0, 3, 0, 0⟩]⟩) = false := by decide +kernel
theorem test_wf_repeat : Instr.wf (.bistComplete 0 ⟨[⟨4, 3, 0, 0⟩, ⟨4, 3, 0, 1⟩]⟩) = false := by decide +kernel

/-! ### Witnesses: the step, the window and the I3C target -/

theorem wit_StepKeepsInvariant :
    (run 5 id).Inv ∧ Sys2Proof.Machine.step { run 5 id with pending := [.rstdaa] } = exec .rstdaa (run 5 id) := by
  refine ⟨⟨?_, ?_, ?_⟩, rfl⟩ <;> decide +kernel

theorem wit_WaferTimeMoves : (run (2 ^ 48 - 1) id).b.pins.inReset = false ∧
    (at_ 0 (fun b => b.modPins (fun p => { p with inReset := true }))).b.pins.inReset = true ∧
    ∃ t, exec .flagsRead State.reset = .next t := ⟨rfl, rfl, _, rfl⟩

theorem wit_OnlyNamedCommandsWriteMemory : ∃ t, exec (.trigNow) State.reset = .next t ∧ writesHost .trigNow = false ∧
    writesMem .trigNow = false := ⟨_, rfl, rfl, rfl⟩

theorem wit_OnlyNamedCommandsChangeParcelsAndTickets : ∃ t, exec .pllLock State.reset = .next t ∧ resets .pllLock = false ∧
    mayAgents .pllLock = false ∧ mayParcels .pllLock = false ∧ maySensors .pllLock = false ∧ mayCad .pllLock = false ∧
    maySlots .pllLock = false ∧ mayCtxs .pllLock = false ∧ mayAccounts .pllLock = false ∧ mayColls .pllLock = false :=
  ⟨_, rfl, rfl, rfl, rfl, rfl, rfl, rfl, rfl, rfl, rfl⟩

theorem wit_OnlyNamedCommandsChangeHardware : ∃ t, exec .pllLock State.reset = .next t ∧ resets .pllLock = false ∧
    mayShadow .pllLock = false ∧ mayRings .pllLock = false ∧ mayRails .pllLock = false ∧ mayPhases .pllLock = false ∧
    mayTies .pllLock = false ∧ mayProcs .pllLock = false ∧ mayMems .pllLock = false ∧ mayModels .pllLock = false ∧
    mayNv .pllLock = false ∧ mayPins .pllLock = false :=
  ⟨_, rfl, rfl, rfl, rfl, rfl, rfl, rfl, rfl, rfl, rfl, rfl, rfl⟩

theorem wit_RegisterWriteByAccessCode :
    ((run 5 id).b.page (pageKey 0x1C 0)).heldBy = none ∧ ((run 5 id).b.page (pageKey 0x1C 0)).transit = [] ∧ ((run 5 (fun b => b.modProc 86 (fun q => { q with st := 3 }))).b.proc 86).st ≠ 0 := by
  decide +kernel

theorem wit_WaferTimeReadsWhole : ((run (2 ^ 40 + 5) id).b.page (pageKey 0x11 0)).transit = [] := by decide +kernel

theorem wit_FieldReadAfterWrite : (F_RAIL.REF 0).key 1 ≠ HUB_TICK.OVR_HUB.key 0 := by decide +kernel

/-- A commit on its way to field 83's sensor page until tick 6. -/
def on6 : Transit := { tick := 6, off := 46, act := .commit (2 ^ 31 + 9) none }
def onWay (_t _o : Nat) (b : Block) : Block := b.modPage (pageKey 0x46 83) (fun p => { p with transit := [on6] })

theorem wit_CommitArrivalCancelAndReload :
    (pageRw (0x40 + 6)).isEmpty = false ∧ ((run 5 id).b.page (pageKey (0x40 + 6) 83)).heldBy = none ∧
    ((run 5 id).b.page (pageKey (0x40 + 6) 83)).transit = [] ∧ arrivalTick 5 0 (0x40 + 6) 83 = 5 ∧
    arrivalTick 5 2047 (0x40 + 6) 83 = 6 ∧
    ((run 5 (onWay 6 46)).b.page (pageKey (0x40 + 6) 83)).transit = [on6] ∧ on6.arrived 5 0 = false ∧
    atDue (arrivalTick 5 0 (0x40 + 6) 83) (2 ^ 31 + 5 + 8388607) = some (5 + 8388607) ∧
    rangeOk (run 5 id).b (0x40 + 6) 83 ((run 5 id).b.shadowGet 83) = true ∧
    atDue (arrivalTick 5 0 (0x40 + 6) 83) (2 ^ 31 + 5) = none := by decide +kernel

/-- A commit of field 83's sensor page that falls due at tick 9. -/
def comm : Pending := { due := 9, vals := [(F_THERM.THROT_C.key 83, 77)], byCmd := none }

/-- Field 83's processor runs and its trace captures firmware points, keep newest. -/
def tracing (b : Block) : Block := ((b.wr F_TRACE.CAPTURE 83 1).wr F_TRACE.GROUP_EN 83 0x40).modTrace 83 TraceBuf.armed

theorem wit_SingleRegisterEvents :
    ((run 5 id).b.rd HUB_TRACE.HEAD 0 + 2 ^ 32 - (0 : Word).toNat) % 2 ^ 32 ≤ (run 5 id).b.ringRecs ∧
    (0x7FFFFFFF : Word).toNat / 2 ^ 24 < 0x80 ∧ 0x80 ≤ (0x80000001 : Word).toNat / 2 ^ 24 ∧ ((run 5 tracing).b.proc 83).st = 0 ∧
    (run 5 tracing).b.bufOn 83 = true ∧ (run 5 tracing).b.bufGroups 83 = 0x40 ∧ (run 5 tracing).b.bufPolicy 83 = 0 ∧
    (run 5 tracing).b.rd F_TRACE.TRIG_MASK 83 = 0 ∧ ((run 5 tracing).b.trace 83).recs.length < 2048 ∧
    (0x80000000 : Word).toNat.testBit 31 = true := by decide +kernel

theorem wit_CommitTakesEffect :
    ((run 9 (fun b => b.modPage (pageKey 0x46 83) (fun p => { p with pending := some comm }))).b.page (pageKey 0x46 83)).pending = some comm ∧
    ((run 9 (fun b => b.modPage (pageKey 0x46 83) (fun p => { p with pending := some comm }))).b.page (pageKey 0x46 83)).heldBy = none ∧
    comm.byCmd = none ∧ tickReached 9 comm.due = true ∧ tickReached 8 comm.due = false ∧
    ((run 9 (fun b => b.modPage (pageKey 0x46 83) (fun p => { p with pending := some comm }))).b.page (pageKey 0x46 83)).transit = [] ∧
    (run 9 (fun b => b.modPage (pageKey 0x46 83) (fun p => { p with pending := some comm }))).b.commitStop 9 0x46 83 comm = none ∧
    ((run 9 (fun b => b.modPage (pageKey 0x46 83) (fun p => { p with pending := some comm, heldBy := some 3 }))).b.page (pageKey 0x46 83)).heldBy.isSome = true ∧
    0x46 ∉ [0x17, 0x1C, 0x1E, 0x1F, 0x28, 0x43, 0x45, 0x47, 0x48, 0x49, 0x4B] ∧ ((run 8 id).b.page (pageKey 0x46 83)).pending = none := by
  decide +kernel


/-! ### Witnesses: the I3C target and the agents -/

/-- A hub as `g` changes it. -/
def hubAt (n : Nat) (g : Hub → Hub) : State := run n (fun b => b.modHub g)

theorem wit_I3cAddressAndInterrupts : (run 5 id).b.hub.dynAddr = none ∧ (hubAt 5 (fun h => { h with dynAddr := some 9 })).b.hub.dynAddr ≠ none := by
  decide +kernel

theorem wit_I3cCommonCommands : (run 5 id).b.hub.mwl < 65536 ∧ (hubAt 5 (fun h => { h with mrl := 65535 })).b.hub.mrl < 65536 := by
  decide +kernel

theorem wit_I3cAddressAndInterrupts_window :
    (hubAt 5 (fun h => { h with ibiOn := true, ibiPending := 4 })).b.hub.ibiOn = true ∧
    (hubAt 5 (fun h => { h with ibiOn := true, ibiPending := 4 })).b.hub.ibiPending ≠ 0 ∧ (run 5 id).b.hub.ibiPending = 0 ∧
    (hubAt 5 (fun h => { h with winAddr := 0x3FFF })).b.winOffset < 0x4000 ∧
    (hubAt 5 (fun h => { h with winAddr := 0x407C })).b.winOffset = 0x4040 + 4 * 15 ∧
    (hubAt 5 (fun h => { h with winAddr := 0x1040 })).b.winOffset = 0x1040 ∧ ((run 5 id).b.page (pageKey 0x11 0)).transit = [] ∧
    target (hubAt 5 (fun h => { h with winAddr := 0x7FFFFF0 })).b.winOffset = .unmapped ∧
    0x5000 ≤ (hubAt 5 (fun h => { h with winAddr := 0x5000 })).b.winOffset := by decide +kernel

theorem wit_I3cAddressAndInterrupts_private :
    (0x04, [(hubAt 5 (fun h => { h with i3cIndex := 4 })).b.mgr]) ∈ i3cRegs (hubAt 5 (fun h => { h with i3cIndex := 4 })) ∧
    (0x04 : Nat) ≠ 0x0C ∧ (hubAt 5 (fun h => { h with i3cIndex := 4 })).b.hub.i3cIndex = 4 ∧
    0x28 ≤ (hubAt 5 (fun h => { h with i3cIndex := 255 })).b.hub.i3cIndex ∧ (hubAt 5 (fun h => { h with i3cIndex := 255 })).b.hub.i3cIndex < 256 := by
  refine ⟨?_, ?_, ?_, ?_, ?_⟩
  · simp [i3cRegs]
  all_goals decide +kernel

/-- A private read that begins inside COOL_DEMAND (Table 17.7). -/
theorem test_privateRead_inside :
    (privateRead 0 2 (run 5 (fun b => (b.modHub (fun h => { h with i3cIndex := 7 })).wr HUB_COOL.COOL_DEMAND 0 0x1234))).hub.i3cOut = [0x12, 0x00] := by
  decide +kernel

/-- A private read of WIN_ADDR and then WIN_DATA: TICK_LO at 0x1040; WIN_ADDR moves on by 4 (R411). -/
theorem test_privateRead_window :
    (let b := privateRead 0 8 (hubAt 5 (fun h => { h with i3cIndex := 0x20, winAddr := 0x1040 }));
     (b.hub.i3cOut, b.hub.winAddr, b.hub.i3cIndex)) = ([0x40, 0x10, 0, 0, 5, 0, 0, 0], 0x1044, 0x28) := by
  decide +kernel

theorem wit_GateOpensExactlyQ : (64 ≤ 63 + 1) ∧ (0 + 63 < 64) ∧ (64 ≤ 64) ∧ (63 < 64) := by decide

/-- Agent 671 of field 83 as `g` changes it. -/
def agentAt (n : Nat) (g : Agent → Agent) : State := run n (fun b => b.modAgent (pid 83 671) g)

theorem wit_DroopEvents :
    (agentAt 5 (fun a => { a with armed := true, released := true })).b.armedBy 83 671 false = true ∧
    (agentAt 5 (fun a => { a with armed := true, released := true })).b.armedBy 83 671 true = true ∧
    (agentAt 5 (fun a => { a with released := true })).b.blind 5 83 0 = false ∧
    (0 : BitVec 6).toNat < (run 5 id).b.rd F_DROOP.T1_MARGIN 83 ∧ (0 : BitVec 6).toNat < (run 5 id).b.rd F_DROOP.T2_MARGIN 83 := by
  decide +kernel

/-- A DENSE ticket that runs on parcel 671 of field 83. -/
def dense (b : Block) : Block :=
  b.modSlot (tid 83 0) (fun t => { t with st := 3, cls := 1, first := 671, ran := true, startTick := 3 })

theorem wit_AgentEvents :
    ((agentAt 5 (fun a => { a with clamp := 1 })).b.agent (pid 83 671)).clamp ≠ 0 ∧ (run 5 id).b.matrixRunning 83 671 = false ∧
    (run 5 dense).b.matrixRunning 83 671 = true ∧ ((agentAt 5 (fun a => { a with shaping := true })).b.agent (pid 83 671)).shaping = true ∧
    ((agentAt 5 (fun a => { a with released := true })).b.agent (pid 83 671)).released = true ∧
    ((agentAt 5 (fun a => { a with released := true })).b.agent (pid 83 671)).idle = true := by decide +kernel

/-- A T2 word. -/
def word2 : DroopWord := { t2 := true, ec := 0, second := false, margin := 0, qSet := 1, qApp := 1, repeats := 2, tick := 4 }

theorem wit_DroopEvents_words :
    ((agentAt 5 (fun a => { a with words := [word2] })).b.agent (pid 83 671)).words = [word2] ∧ word2.t2 = true ∧
    ({ word2 with t2 := false } : DroopWord).t2 = false := by decide +kernel

/-- A parcel that waits for the word with a start step of 5. -/
def wait5 : Waiting := { cls := 1, crit := false, marks := 0, delayed := false, climbing := false }
def allowAt (n : Nat) : State :=
  run 5 (fun b => ((b.modAgent (pid 83 671) (fun a => { a with qRamp := 16, waiting := some wait5 })).modRing (ringOf 83 671)
    (fun r => { r with allow := n })).wr F_DROOP.STEP_DENSE 83 5)

theorem wit_AllowanceWordAndRampMark :
    ((allowAt 5).b.agent (pid 83 671)).debit = [] ∧ ((allowAt 5).b.agent (pid 83 671)).waiting = some wait5 ∧
    (if wait5.crit then 0 else ((allowAt 5).b.ring (ringOf 83 671)).resv) + (allowAt 5).b.startStep 83 671 wait5.cls ≤ ((allowAt 5).b.ring (ringOf 83 671)).allow ∧
    ((allowAt 4).b.ring (ringOf 83 671)).allow < (if wait5.crit then 0 else ((allowAt 4).b.ring (ringOf 83 671)).resv) + (allowAt 4).b.startStep 83 671 wait5.cls ∧
    ((agentAt 5 (fun a => { a with qTarget := 1, qRamp := 9 })).b.agent (pid 83 671)).qTarget ≤
      ((agentAt 5 (fun a => { a with qTarget := 1, qRamp := 9 })).b.agent (pid 83 671)).qRamp ∧
    ((run 5 id).b.agent (pid 83 671)).qRamp ≤ ((run 5 id).b.agent (pid 83 671)).qTarget := by decide +kernel

/-! ### Witnesses: rails and phases -/

/-- Field 83's rails with `run` and reference given, VSRAM's target 1000. -/
def railsAt (m v : Nat) : Block → Block := fun b =>
  ((b.modRail (railOf 83 0) (fun r => { r with run := m, refv := v })).modRail (railOf 83 1) (fun r => { r with run := m, refv := v })).wr
    (F_RAIL.TARGET 1) 83 1000

theorem wit_ReferencesNeverCross :
    ((run 5 (railsAt 2 1995)).b.rail (railOf 83 0)).refv ≤ ((run 5 (railsAt 2 1995)).b.rail (railOf 83 1)).refv ∧
    ((run 5 (railsAt 2 1998)).b.rail (railOf 83 (railNo .sram))).run = 2 ∧
    2000 = stepToward ((run 5 (railsAt 2 1998)).b.rail (railOf 83 (railNo .sram))).refv ((run 5 (railsAt 2 1998)).b.refTarget 83 (railNo .sram)) ∧
    2000 ≠ ((run 5 (railsAt 2 1998)).b.rail (railOf 83 (railNo .sram))).refv ∧
    ((run 5 (railsAt 2 1998)).b.rail (railOf 83 0)).refv ≤ 2000 := by decide +kernel

theorem wit_RailEvents :
    ((run 5 (railsAt 2 2000)).b.rail (railOf 83 (railNo .sram))).run = 2 ∧
    ((run 5 (railsAt 2 2000)).b.rail (railOf 83 (railNo .sram))).refv = (run 5 (railsAt 2 2000)).b.refTarget 83 (railNo .sram) ∧
    (run 5 (railsAt 2 2000)).b.bit (F_RAIL.ARRIVED (railNo .sram)) 83 = false ∧
    (run 5 (railsAt 2 2000)).b.bit (F_RAIL.BRAKING (railNo .sram)) 83 = false ∧
    (run 5 (fun b => b.wr (F_RAIL.BRAKE_EN 1) 83 1)).b.bit (F_RAIL.BRAKE_EN (railNo .sram)) 83 = true ∧
    (run 5 (fun b => b.wr (F_RAIL.BRAKING 1) 83 1)).b.bit (F_RAIL.BRAKING (railNo .sram)) 83 = true ∧
    (run 5 (fun b => b.wr (F_RAIL.ON 1) 83 1)).b.bit (F_RAIL.ON (railNo .sram)) 83 = true ∧
    ((run 5 id).b.rail (railOf 83 (railNo .sram))).uvCounted = false ∧
    ((run 5 (fun b => b.modRail (railOf 83 1) (fun r => { r with uvCounted := true }))).b.rail (railOf 83 (railNo .sram))).uvCounted = true := by
  decide +kernel

/-- Phase 19 ACTIVE with the other phases of its rail, at 126 °C; `n` is MIN_PHASES. -/
def hot19 (n : Nat) (b : Block) : Block :=
  ((b.each (List.range 20) (fun b p => b.wr (F_PHASE.STATE p) 83 0)).wr (F_PHASE.TMON 19) 83 126).wr (F_RAIL.MIN_PHASES 1) 83 n

theorem wit_PhaseEvents_hot :
    ((run 5 (hot19 3)).b.phase (phOf 83 19)).hot = false ∧ (run 5 (hot19 3)).b.rd F_PHASE.OT_C 83 < (run 5 (hot19 3)).b.rd (F_PHASE.TMON 19) 83 ∧
    (run 5 (hot19 3)).b.rd (F_RAIL.MIN_PHASES (phaseRail 19)) 83 < (run 5 (hot19 3)).b.nActive 83 (phaseRail 19) ∧
    (run 5 (hot19 3)).b.rd (F_PHASE.STATE 19) 83 = phActive ∧
    (run 5 (hot19 4)).b.nActive 83 (phaseRail 19) ≤ (run 5 (hot19 4)).b.rd (F_RAIL.MIN_PHASES (phaseRail 19)) 83 ∧
    (run 5 id).b.rd (F_PHASE.TMON 19) 83 + (run 5 id).b.rd F_PHASE.OT_HYS 83 < (run 5 id).b.rd F_PHASE.OT_C 83 ∧
    (run 5 (hot19 3)).b.rd F_PHASE.OT_C 83 ≤ (run 5 (hot19 3)).b.rd (F_PHASE.TMON 19) 83 + (run 5 (hot19 3)).b.rd F_PHASE.OT_HYS 83 ∧
    ((run 5 (fun b => b.modPhase (phOf 83 19) (fun p => { p with hot := true }))).b.phase (phOf 83 19)).hot = true := by decide +kernel

theorem wit_PhaseEvents :
    ((run 5 (fun b => b.modPhase (phOf 83 19) (fun p => { p with foldRun := 65535 }))).b.phase (phOf 83 19)).ocHeld = false ∧
    (run 5 (fun b => b.modPhase (phOf 83 19) (fun p => { p with foldRun := 65535 }))).b.rd F_PHASE.OC_CYCLES 83 ≤
      ((run 5 (fun b => b.modPhase (phOf 83 19) (fun p => { p with foldRun := 65535 }))).b.phase (phOf 83 19)).foldRun ∧
    ((run 5 (fun b => b.modPhase (phOf 83 19) (fun p => { p with ocHeld := true }))).b.phase (phOf 83 19)).ocHeld = true ∧
    (run 5 (fun b => b.each (List.range 20) (fun b p => b.wr (F_PHASE.STATE p) 83 0))).b.rd (F_RAIL.MIN_PHASES (phaseRail 19)) 83 <
      (run 5 (fun b => b.each (List.range 20) (fun b p => b.wr (F_PHASE.STATE p) 83 0))).b.nActive 83 (phaseRail 19) ∧
    (run 5 (fun b => b.each (List.range 20) (fun b p => b.wr (F_PHASE.STATE p) 83 0))).b.rd (F_PHASE.STATE 19) 83 = phActive ∧
    (run 5 (fun b => b.each (List.range 20) (fun b p => b.wr (F_PHASE.STATE p) 83 0))).b.rd (F_PHASE.STATE 0) 83 ≠ phFailed := by decide +kernel

/-- A pair that regulates at its target, with VCORE's ramp at rest. -/
def regulating : Block → Block := fun b =>
  ((railsAt 2 2000 b).modRail (railOf 83 0) (fun r => { r with run := 2, refv := 2000, rampFrom := 100 })).wr (F_PHASE.STATE 3) 83 0

theorem wit_ModulationAndTargets :
    ((run 5 regulating).b.rail (railOf 83 (railNo .core))).run ≠ 0 ∧ (run 5 regulating).b.bit (F_RAIL.BRAKING (railNo .core)) 83 = false ∧
    2 * (0 : BitVec 16).toNat * 1000000 + 8 * (run 5 regulating).b.rampAt 83 (railNo .core) 100 <
      ((run 5 regulating).b.rail (railOf 83 (railNo .core))).refv * 1000000 ∧
    (((run 5 regulating).b.rotation 83 (railNo .core)).filter
      (fun p => decide (((run 5 regulating).b.phase (phOf 83 p)).pulseEnd + 480 ≤ 8 * 100))).find?
      (fun p => !(run 5 regulating).b.overLimit 83 (railNo .core) (0 : BitVec 16).toNat
        ((Vector.ofFn (fun _ : Fin 20 => (0 : BitVec 8))).toList.getD p 0).toNat) ≠ none ∧
    (run 5 (fun b => b.wr (F_RAIL.BRAKING 0) 83 1)).b.bit (F_RAIL.BRAKING (railNo .core)) 83 = true ∧
    (run 5 (fun b => b.wr (F_RAIL.ON 1) 83 1)).b.restoreDue 83 (railNo .sram) .fast = true ∧
    (hubAt 5 (fun h => { h with takenOver := true })).b.hub.takenOver = true ∧ (run 5 id).b.hub.takenOver = false ∧
    (run 64 regulating).tick % 64 = 0 ∧ ((run 64 regulating).b.rail (railOf 83 (railNo .core))).balAt ≠ some 64 ∧
    ((run 64 regulating).b.proc 83).st = 0 ∧ ((run 64 regulating).b.rail (railOf 83 (railNo .core))).balBroken = false ∧
    (run 65 regulating).tick % 64 ≠ 0 := by decide +kernel

/-- A pair that regulates, with the phase limits and the readings of a short. -/
def shortIn : LastFaultIn := { noReadings with foldback := BitVec.ofNat 20 0xFFFFF, elapsed := 1000 }
def starting (n : Nat) : Block → Block := fun b => (b.wr (F_RAIL.SOFTSTART 1) 83 1).modFu 83 (fun u => { u with startTick := n })

theorem wit_PairStopsAndStarts_causes :
    ((run 5 (fun b => starting 5 (railsAt 1 2000 b))).b.shorted 83 (railNo .sram) shortIn) = true ∧
    ((run 5 (fun b => starting 5 (railsAt 1 2000 b))).b.bit (F_RAIL.SOFTSTART (railNo .sram)) 83) = true ∧
    ((run (2 ^ 20) (starting 5)).b.startOverdue (2 ^ 20) 83 (railNo .sram) noReadings) = true ∧
    ((run 5 (fun b => (railsAt 2 2000 b).wr (F_RAIL.ON 1) 83 1)).b.shorted 83 (railNo .sram) shortIn) = true ∧
    ((run 5 (railsAt 2 2000)).b.fu 83).latchAt = none ∧ ((run 5 (railsAt 2 2000)).b.rail (railOf 83 (railNo .sram))).run ≠ 4 ∧
    (run 5 (fun b => (railsAt 1 2000 b).wr (F_RAIL.TARGET 0) 83 1000)).b.atTarget 83 0 = true ∧
    (run 5 (fun b => (railsAt 1 2000 b).wr (F_RAIL.TARGET 0) 83 1000)).b.atTarget 83 1 = true ∧
    ((run 5 (railsAt 3 0)).b.rail (railOf 83 0)).refv = 0 ∧ ((run 5 (railsAt 3 0)).b.rail (railOf 83 1)).refv = 0 := by decide +kernel

theorem wit_PairStopsAndStarts :
    ((run 5 (railsAt 2 2000)).b.rail (railOf 83 (railNo .sram))).run ≠ 0 ∧
    (run 5 (fun b => b.wr (F_RAIL.SOFTSTART 1) 83 1)).b.bit (F_RAIL.SOFTSTART (railNo .sram)) 83 = true ∧
    (run 5 (fun b => b.wr (F_RAIL.ON 1) 83 1)).b.bit (F_RAIL.ON (railNo .sram)) 83 = true ∧
    (run 5 (fun b => b.wr (F_RAIL.ON 1) 83 1)).b.bit (F_RAIL.SOFTSTART (railNo .sram)) 83 = false ∧
    (run 5 (railsAt 2 2000)).b.pairUp 83 = true ∧
    (run 5 (fun b => b.each (List.range 20) (fun b p => b.wr (F_PHASE.STATE p) 83 2))).b.phasesLeft 83 (railNo .sram) <
      (run 5 (fun b => b.wr (F_RAIL.MIN_PHASES 1) 83 1)).b.rd (F_RAIL.MIN_PHASES (railNo .sram)) 83 ∧
    ((run 5 (railsAt 3 0)).b.rail (railOf 83 0)).run = 3 ∧ ((run 5 (railsAt 3 0)).b.rail (railOf 83 1)).run = 3 ∧
    ((run 5 (railsAt 1 0)).b.rail (railOf 83 0)).run = 1 ∧ ((run 5 (railsAt 1 0)).b.rail (railOf 83 1)).run = 1 := by decide +kernel

theorem wit_MeasurementEvents :
    (run 5 id).b.bit (F_PHASE.CHAN_INVALID 19) 83 = false ∧
    (run 5 (fun b => b.wr (F_PHASE.CHAN_INVALID 19) 83 1)).b.bit (F_PHASE.CHAN_INVALID 19) 83 = true ∧
    256 ≤ ((run 5 (fun b => b.modPhase (phOf 83 19) (fun p => { p with goodTicks := 256 }))).b.phase (phOf 83 19)).goodTicks ∧
    (run 5 id).b.chanCause 83 19 = false ∧ ((run 5 id).b.phase (phOf 83 19)).goodTicks < 256 ∧
    (run 5 (fun b => b.wr (F_PHASE.FAULT_PIN 19) 83 1)).b.chanCause 83 19 = true ∧
    (run 5 id).b.railMeasured 83 0 = true ∧ (run 5 id).b.railMeasured 83 1 = true ∧
    (run 5 (fun b => b.wr (F_PHASE.CHAN_INVALID 19) 83 1)).b.railMeasured 83 1 = false ∧
    (run 1024 id).tick % 1024 = 0 ∧ (run 1025 id).tick % 1024 ≠ 0 := by decide +kernel

/-- Field unit 83 as `g` changes it. -/
def fieldAt83 (n : Nat) (g : FieldUnit → FieldUnit) : State := run n (fun b => b.modFu 83 g)
def solved : RecalResult := { slot := 0, wb := [], gain := 1, share := 2, success := true, atBound := false, byCmd := false, skipped := false, lost := false, due := 512 }
/-- Four kept sub-windows of the last window, which field 83's RECALIBRATE is waiting for. -/
def askedFor (u : FieldUnit) : FieldUnit :=
  { u with mValid := true, recalAsk := some 1, lastSubs := List.replicate 4 { z := List.replicate 32 0, r := 0, m := 0, n := 24 } }

theorem wit_Recalibration :
    (fieldAt83 512 (fun u => { u with mValid := true, recalAsk := some 1 })).b.recalFrozen 83 = false ∧
    ((fieldAt83 512 (fun u => { u with mValid := true, recalAsk := some 1 })).b.proc 83).st = 0 ∧
    ((fieldAt83 512 (fun u => { u with mValid := true, recalAsk := some 1 })).b.fu 83).recalAsk = some 1 ∧ 1 < 512 / 256 ∧
    (keptSubs ((fieldAt83 512 (fun u => { u with mValid := true, recalAsk := some 1 })).b.fu 83).lastSubs).length < 4 ∧
    ((fieldAt83 512 (fun u => { u with mValid := true, recal := some solved })).b.fu 83).recal = some solved ∧
    solved.skipped = false ∧ solved.due ≤ 512 ∧ solved.lost = false ∧ solved.byCmd = false ∧ solved.slot < 4 ∧
    4 ≤ (keptSubs ((fieldAt83 512 askedFor).b.fu 83).lastSubs).length ∧ ((fieldAt83 512 askedFor).b.fu 83).windowBroken = false ∧
    (fieldAt83 512 askedFor).b.recalFrozen 83 = false ∧ ((fieldAt83 512 askedFor).b.fu 83).recalAsk = some 1 ∧
    (run 512 (fun b => b.modFu 83 (fun u => { u with mValid := false, recal := some solved }))).b.recalFrozen 83 = true := by
  decide +kernel

/-- FSET words that name field 83 alone. -/
def only83 : List Nat := [0, 0, 2 ^ 19]

theorem wit_Recalibration_command : Passes 0x62 (cmd .bmc 0 only83) (run 512 id) ∧ (run 512 id).b.hub.staged.length < 16 :=
  ⟨passes_spec (by decide +kernel), by decide +kernel⟩

/-- A model image of 772 bytes, all weights 0. -/
def imgHead : List Nat := leBytes 4 0x334D4757 ++ leBytes 2 1 ++ [0, 0] ++ leBytes 4 772
def imgBody : List Nat := imgHead ++ List.replicate 756 0
def img : List Nat := imgBody ++ leBytes 4 1586085020

/-- The CRC of a run of zeros, 63 bytes at a time. -/
theorem crc_zeros {c e m : Nat} (d n : Nat) (hm : m = 63 + n) (h : (List.replicate 63 0).foldl (crc32Byte 0x82F63B78) c = d)
    (h' : (List.replicate n 0).foldl (crc32Byte 0x82F63B78) d = e) : (List.replicate m 0).foldl (crc32Byte 0x82F63B78) c = e := by
  rw [hm, ← List.replicate_append_replicate, List.foldl_append, h, h']

theorem img_crc : crc32c imgBody = 1586085020 := by
  have h : imgHead.foldl (crc32Byte 0x82F63B78) 0xFFFFFFFF = 1810261309 := by decide +kernel
  have h' : (List.replicate 756 0).foldl (crc32Byte 0x82F63B78) 1810261309 = 2708882275 :=
    crc_zeros 2637120266 693 rfl (by decide +kernel) <|
    crc_zeros 47166967 630 rfl (by decide +kernel) <|
    crc_zeros 491885786 567 rfl (by decide +kernel) <|
    crc_zeros 2796099499 504 rfl (by decide +kernel) <|
    crc_zeros 1995911210 441 rfl (by decide +kernel) <|
    crc_zeros 2489136253 378 rfl (by decide +kernel) <|
    crc_zeros 3057658680 315 rfl (by decide +kernel) <|
    crc_zeros 1075091429 252 rfl (by decide +kernel) <|
    crc_zeros 3249842615 189 rfl (by decide +kernel) <|
    crc_zeros 2363130125 126 rfl (by decide +kernel) <|
    crc_zeros 3003715959 63 rfl (by decide +kernel) <|
    (by decide +kernel)
  rw [crc32c, imgBody, List.foldl_append, h, h']
  rfl

theorem img_ok : imageError img = none := by
  have h4 : crc32c (img.take (fieldAt img 0x08 4 - 4)) = fieldAt img (fieldAt img 0x08 4 - 4) 4 := by
    rw [show img.take (fieldAt img 0x08 4 - 4) = imgBody by decide +kernel, img_crc]
    decide +kernel
  have h1 : fieldAt img 0 4 = 0x334D4757 ∧ fieldAt img 4 2 = 1 := by decide +kernel
  have h3 : ¬ (fieldAt img 0x08 4 % 4 ≠ 0 ∨ fieldAt img 0x08 4 < 772 ∨ 16384 < fieldAt img 0x08 4 ∨
      ((imgFlags img).testBit 0 ∧ fieldAt img 0x08 4 < 2116) ∨ fieldAt img 0x08 4 ≠ img.length) := by decide +kernel
  have h5 : ¬ (15 < imgS1 img ∨ 15 < imgS2 img ∨ 15 < imgSb img) := by decide +kernel
  have h6 : (!(zeros img 0x13 1 && zeros img 0x18 40 && zeros img 0x2B0 80 && decide (imgFlags img < 4) &&
      ((imgFlags img).testBit 1 || zeros img 0x270 64))) = false := by decide +kernel
  have h7 : ((List.range 64).any (fun k => decide (127 < img.getD (0x270 + k) 0))) = false := by decide +kernel
  simp only [imageError]
  rw [if_neg (not_not.2 h1.1), if_neg (not_not.2 h1.2), if_neg h3, if_neg (not_not.2 h4), if_neg h5, h6, h7]
  rfl

/-- MODEL_LOAD of slot `k` into field 83 from host address 0x1000. -/
def loadCmd (k : Nat) : Cmd := cmd .host 0 ([k] ++ only83 ++ [0x1000, 0, 772])
def withImage : State := { run 512 id with host := putBytes [] 0x1000 img }

theorem wit_ModelLoading_bad : Passes 0x60 (loadCmd 0) withImage ∧ (loadCmd 0).arg 0 = 0 ∧ withImage.b.hub.staged.length < 16 :=
  ⟨passes_spec (by decide +kernel), by decide +kernel, by decide +kernel⟩

theorem wit_ModelLoading_good : Passes 0x60 (loadCmd 3) withImage ∧ (loadCmd 3).arg 0 ≠ 0 ∧ (loadCmd 3).area = false ∧
    (loadCmd 3).arg 0 < 4 ∧ withImage.b.hub.staged.length < 15 ∧
    (((loadCmd 3).fset 1).any (fun f => withImage.b.flag F_MODEL.SLOT_STATE f (4 * (loadCmd 3).arg 0 + 2))) = false ∧
    withImage.b.stagedElsewhere (portNo (loadCmd 3).port) 0x60 ((loadCmd 3).arg 0) = false ∧
    withImage.b.bufCheck (loadCmd 3) 4 0 = none ∧ imageError (readBuf withImage (loadCmd 3) 4) = none := by
  refine ⟨passes_spec (by decide +kernel), by decide +kernel, by decide +kernel, by decide +kernel, by decide +kernel,
    by decide +kernel, by decide +kernel, by decide +kernel, ?_⟩
  have : readBuf withImage (loadCmd 3) 4 = getBytes (putBytes [] 0x1000 img) 0x1000 img.length := by
    rw [readBuf, if_neg (by decide +kernel), show (loadCmd 3).bufAddr 4 = 0x1000 by decide +kernel,
      show (loadCmd 3).bufLen 4 = img.length by decide +kernel]
    simp only [withImage]
  rw [this, getBytes_putBytes _ _ _ (by decide +kernel), img_ok]

/-- A piece of an image in the DATA area, and an image of zeros. -/
def pieceCmd : Cmd := cmd .host 0x80 ([3] ++ only83 ++ [0x1000, 0, 4])
theorem wit_ModelLoading_piece : Passes 0x60 pieceCmd (run 512 id) ∧ pieceCmd.arg 0 = 3 ∧ pieceCmd.area = true ∧ pieceCmd.opt 6 = false ∧
    pieceCmd.arg 9 = ((run 512 id).b.staged (portNo pieceCmd.port) 0x60 (pieceCmd.arg 0)).length ∧
    (run 512 id).b.bufCheck pieceCmd 4 0 = none ∧ (imageError (readBuf (run 512 id) { pieceCmd with opts := 0 } 4)).isSome = true :=
  ⟨passes_spec (by decide +kernel), by decide +kernel, by decide +kernel, by decide +kernel, by decide +kernel, by decide +kernel,
    by decide +kernel⟩

/-- Port `pt` holds a command that waits for `w`. -/
def waiting (pt : Nat) (w : Wait) (b : Block) : Block :=
  b.setPort pt { flight := some { flightOf 1 0x60 (loadCmd 3) with begun := true, wait := w } }

theorem wit_ModelLoading_swap :
    (run 9 (waiting 0 (.modelSwap 3 [83] 9))).b.waitOf (portNo .host) = .modelSwap 3 [83] 9 ∧
    ((run 9 (waiting 0 (.modelSwap 3 [83] 9))).b.port (portNo .host)).flight.isSome = true ∧
    (flightOf 1 0x60 (loadCmd 3)).owed = [] ∧ ([83] : List Nat).Nodup ∧ 8 < 9 := by decide +kernel

theorem wit_RingFrames : (run 5 (fun b => b.wr (F_RAIL.ON 1) 83 1)).b.railsOn 83 = true ∧ (run 5 id).b.railsOn 83 = false := by
  decide +kernel

theorem wit_RingFrames_plan :
    (run 5 (fun b => (b.wr (F_RAIL.ON 1) 83 1).modFu 83 (fun u => { u with winTick := 6 }))).b.railsOn 83 = true ∧
    ((fieldAt83 5 (fun u => { u with winTick := 6 })).b.fu 83).overran = false := by decide +kernel

theorem wit_DivisionAndPlan : ((run 5 id).b.fu 83).overran = false ∧ (run 5 (fun b => b.modCadE (pid 83 671) (fun c => { c with flag := 1 }))).b.active 83 671 = false ∧
    ((fieldAt83 5 (fun u => { u with overran := true })).b.fu 83).overran = true ∧
    ((run 5 (fun b => b.wr HUB_CAP.MS_UNMET 0 1)).b.unmet || (run 5 id).b.isOut 83) = true := by decide +kernel

theorem wit_RingFrames_downward :
    (run 5 (fun b => (b.wr (F_RAIL.ON 1) 83 1).modFu 83 (fun u => { u with winTick := 6 }))).b.railsOn 83 = true ∧
    ((run 5 (fun b => (b.wr (F_RAIL.ON 1) 83 1).modFu 83 (fun u => { u with winTick := 6 }))).b.fu 83).winTick = 6 := by decide +kernel

theorem wit_LinkFrames : ((run 5 id).b.fu 83).report.triggered = false ∧
    ((fieldAt83 5 (fun u => { u with report := { u.report with triggered := true } })).b.fu 83).report.triggered = true ∧
    (hubAt 5 (fun h => { h with framesSent := true })).b.hub.framesSent = true := by decide +kernel

theorem wit_CounterUpdates : ((fieldAt83 5 (fun u => { u with mValid := true })).b.fu 83).mValid = true ∧ (run 5 id).b.hub.counted = none ∧
    (hubAt 5 (fun h => { h with counted := some 5 })).b.hub.counted = some (hubAt 5 (fun h => { h with counted := some 5 })).tick ∧ 84 ≤ (hubAt 5 (fun h => { h with arrived := List.range 84 })).b.hub.arrived.length ∧
    (hubAt 5 (fun h => { h with arrived := List.range 83 })).b.hub.arrived.length < 84 := by decide +kernel

/-! ### Witnesses: commands that write pages -/

/-- The pages can take the values. -/
def taken (op : Nat) (c : Cmd) (s : State) (at_ : Nat) (l : List PageNo) (ws : List ShadowWrite) : Bool := l.all (fun p =>
  (atDue (arrivalTick s.tick c.sc p.cls p.inst) (atWord s.tick l.length at_)).isSome &&
  rangeOk (shadowed op c ws s) p.cls p.inst ((shadowed op c ws s).shadowGet p.inst) && (s.b.page (pageKey p.cls p.inst)).heldBy.isNone)

theorem taken_spec {op : Nat} {c : Cmd} {s : State} {at_ : Nat} {l : List PageNo} {ws : List ShadowWrite} (hp : passes op c s = true)
    (h : taken op c s at_ l ws = true) : PagesTake op at_ c l ws s := by
  refine ⟨passes_spec hp, fun p hm => ?_⟩
  have := List.all_eq_true.mp h p hm
  simp only [Bool.and_eq_true, Option.isNone_iff_eq_none] at this
  exact ⟨this.1.1, this.1.2, this.2⟩

theorem wit_page_setWaferCap : PagesTake 0x10 ((cmd .host 1 [1000 + 65536 * 1200]).arg 2) (cmd .host 1 [1000 + 65536 * 1200]) [⟨0x1C, 0⟩]
    (capWrites (cmd .host 1 [1000 + 65536 * 1200])) (run 5 id) ∧ (capWrites (cmd .host 1 [1000 + 65536 * 1200])).isEmpty = false :=
  ⟨taken_spec (by decide +kernel) (by decide +kernel), by decide +kernel⟩

/-- SET_FIELD_LIMITS of field 83: VCORE 2560/2560/2560 A/64, VSRAM 640, FPL 6400. -/
def limCmd : Cmd := cmd .bmc 0 (only83 ++ [2560 + 65536 * 2560, 2560, 640 + 65536 * 640, 640, 6400, 0])
def limWrites : List ShadowWrite := (limCmd.fset 0).flatMap (fun f =>
  [(F_LIMIT.STL_CORE, limCmd.arg 3 / 65536), (F_LIMIT.FCL_CORE, limCmd.arg 3), (F_LIMIT.SUS_CORE, limCmd.arg 4),
   (F_LIMIT.STL_SRAM, limCmd.arg 5 / 65536), (F_LIMIT.FCL_SRAM, limCmd.arg 5), (F_LIMIT.SUS_SRAM, limCmd.arg 6),
   (F_LIMIT.FPL, limCmd.arg 7)].map (fun x => ⟨x.1, f, x.2⟩))
theorem wit_page_setFieldLimits : PagesTake 0x11 (limCmd.arg 8) limCmd (fieldPages 0x43 limCmd) limWrites (run 5 id) :=
  taken_spec (by decide +kernel) (by decide +kernel)

def marginCmd : Cmd := cmd .host 0 (only83 ++ [1, 0])
theorem wit_page_setMarginMode : PagesTake 0x13 (marginCmd.arg 4) marginCmd (fieldPages 0x45 marginCmd)
    ((marginCmd.fset 0).map (fun f => ⟨F_DROOP.MODE_REQ, f, marginCmd.arg 3⟩)) (run 5 id) :=
  taken_spec (by decide +kernel) (by decide +kernel)

/-- MODEL_SELECT of slot 0 for every class of field 83. -/
def selCmd : Cmd := cmd .host 0 (only83 ++ [0, 0])
theorem wit_page_modelSelect : PagesTake 0x61 (selCmd.arg 4) selCmd (fieldPages 0x42 selCmd)
    ((selCmd.fset 0).flatMap (fun f => mapFlds.map (fun x => ⟨x, f, bitsOf (selCmd.arg 3) x.lo x.width⟩))) (run 5 id) :=
  taken_spec (by decide +kernel) (by decide +kernel)

/-- DATUM_WRITE of D2 to D7 of VSRAM of field 83. -/
def datumCmd : Cmd := cmd .host 0 (only83 ++ [1, 100, 100, 100, 100, 100, 100, 0])
def datumCodes : List Nat := (List.range 6).map (fun k => datumCmd.arg (4 + k))
theorem wit_page_datumWrite : PagesTake 0xA2 (datumCmd.arg 10) datumCmd (fieldPages (0x47 + datumCmd.arg 3 % 2) datumCmd)
    ((datumCmd.fset 0).flatMap (fun f => (List.range 6).map (fun k => ⟨F_RAIL.DATUM (datumCmd.arg 3 % 2) (k + 2), f, datumCodes.getD k 0⟩)))
    (run 5 id) ∧ (∀ f ∈ datumCmd.fset 0, (run 5 id).b.datumBad f (datumCmd.arg 3 % 2)
      ((atDue (arrivalTick 5 datumCmd.sc (0x47 + datumCmd.arg 3 % 2) f) (atWord 5 (datumCmd.fset 0).length (datumCmd.arg 10))).getD 0)
      datumCodes = none) :=
  ⟨taken_spec (by decide +kernel) (by decide +kernel), by decide +kernel⟩

/-- FAULT_POLICY of source 15: N 3, W 2. -/
def policyCmd : Cmd := cmd .host 0 [15 + 256 * 3 + 65536 * 2]
theorem wit_page_faultPolicy : PagesTake 0x91 0 policyCmd [⟨0x18, 0⟩]
    [⟨HUB_FAULT.N (policyCmd.arg 0 % 32), 0, policyCmd.arg 0 / 256 % 16⟩,
     ⟨HUB_FAULT.WINDOW (policyCmd.arg 0 % 32), 0, policyCmd.arg 0 / 65536⟩] (run 5 id) ∧
    fixedSource (policyCmd.arg 0 % 32) = false ∧ policyCmd.arg 0 / 256 % 16 ≠ 0 ∧ policyCmd.arg 0 / 65536 ≠ 0 :=
  ⟨taken_spec (by decide +kernel) (by decide +kernel), by decide +kernel⟩

/-- TRACE_CONFIG, TRACE_START and TRACE_STOP of field 83 and the hub buffer. -/
def confCmd : Cmd := cmd .host 3 (only83 ++ [1, 0xFF, 0x1000, 0, 400 * 65536 + 16 * 256 + 8 * 16, 1])
theorem wit_page_traceConfig : PagesTake 0x50 (confCmd.arg 12) confCmd (⟨0x1F, 0⟩ :: fieldPages 0x4B confCmd)
    ((List.range 7).flatMap (fun k => wordWrites 0x1F 0 (0x40 + 4 * k) (confCmd.arg (5 + k))) ++
      (confCmd.fset 0).flatMap (fun f => wordWrites 0x4B f 0x40 (confCmd.arg 3) ++ wordWrites 0x4B f 0x44 (confCmd.arg 4))) (run 5 id) ∧
    traceArgs confCmd = none ∧ confCmd.opt 0 = true ∧ confCmd.opt 1 = true :=
  ⟨taken_spec (by decide +kernel) (by decide +kernel), by decide +kernel⟩

def startCmd : Cmd := cmd .host 3 only83
theorem wit_page_traceStart : PagesTake 0x51 0 startCmd (⟨0x1F, 0⟩ :: fieldPages 0x4B startCmd)
    (⟨HUB_TRACE.DRAIN_EN, 0, 1⟩ :: captureWrites startCmd 1) (run 5 id) ∧ traceArgs startCmd = none ∧ startCmd.opt 1 = true :=
  ⟨taken_spec (by decide +kernel) (by decide +kernel), by decide +kernel⟩

def stopCmd (o : Nat) : Cmd := cmd .host o only83
theorem wit_page_traceStop : PagesTake 0x52 0 (stopCmd 3) (⟨0x1F, 0⟩ :: fieldPages 0x4B (stopCmd 3)) (captureWrites (stopCmd 3) 0) (run 5 id) ∧
    traceArgs (stopCmd 3) = none ∧ (stopCmd 3).opt 0 = true ∧ (stopCmd 3).opt 1 = true ∧ (stopCmd 3).opt 2 = false :=
  ⟨taken_spec (by decide +kernel) (by decide +kernel), by decide +kernel⟩

theorem wit_page_traceStop_freeze : PagesTake 0x52 0 (stopCmd 6) (fieldPages 0x4B (stopCmd 6)) (captureWrites (stopCmd 6) 0) (run 5 id) ∧
    traceArgs (stopCmd 6) = none ∧ (stopCmd 6).opt 0 = false ∧ (stopCmd 6).opt 1 = true ∧ (stopCmd 6).opt 2 = true ∧
    83 ∈ namedBufs (stopCmd 6) :=
  ⟨taken_spec (by decide +kernel) (by decide +kernel), by decide +kernel⟩


/-! ### Witnesses: tickets, accounts and draining -/

def ready83 : State := run 5 id

/-- Slot 0 of field 83 as `g` changes it. -/
def slotAt (n : Nat) (g : Slot → Slot) : State :=
  run n (fun b => b.modSlot (tid 83 0) g)

theorem wit_TicketPort : (ready83.b.fu 83).inReady = true ∧ (0 : BitVec 12).toNat < 96 ∧ (ready83.b.fu 83).windowIn = [] ∧
    ((fieldAt83 5 (fun u => { u with windowIn := [.start 3] })).b.fu 83).inReady = true ∧
    ((fieldAt83 5 (fun u => { u with windowIn := [.start 3] })).b.fu 83).windowIn.isEmpty = false ∧
    ((fieldAt83 5 (fun u => { u with windowIn := List.replicate 16 (.start 3) })).b.fu 83).inReady = false ∧
    takeOut false ((fieldAt83 5 (fun u => { u with outQ := [.grant 1 2 3] })).b.fu 83).outQ = some (.grant 1 2 3, []) ∧
    ((fieldAt83 5 (fun u => { u with windowIn := [.start 3] })).b.fu 83).windowIn = [.start 3] := by decide +kernel

/-- Table 17.5, bit by bit: a REFUSE with every named field at its top, and a GRANT. -/
theorem test_encode_response : (TkOut.response 0xFFFFFFFF 127 1023 2 true 0xFFF 0xFF true).encode 0 = (0, 0xffffffffffffdfffff000) := by decide
theorem test_encode_grant : (TkOut.grant 1 2 1023).encode 83 = (1, 0x1a6010000003ff) := by decide

/-- A request of one COMPAT parcel of field 83; `filled` holds pools, is in service and released. -/
def reqOk : TkRequest := { task := 5, field := 83, first := 671, countM1 := 0, cls := 5, crit := false, prio := 7, prior := 1000 }
def filled (pool : Nat) (b : Block) : Block :=
  (((b.wr F_ID.MARKED_OUT 83 0).wr (F_RAIL.ON 0) 83 1).wr (F_RAIL.ON 1) 83 1).modAgent (pid 83 671)
    (fun a => { a with released := true, pool := pool }) |>.modCtx 0 (fun x => { x with st := 1 })
def slotNew (s : State) : Slot := s.b.newSlot 83 reqOk s.tick false
theorem wit_TicketPort_requests :
    ((run 5 (filled 1000000)).b.fu 83).inReady = true ∧ (96 : BitVec 12).toNat = 96 ∧ ((run 5 (filled 1000000)).b.fu 83).windowIn = [] ∧
    (run 5 (filled 1000000)).b.requestCheck 83 { reqOk with field := 82 } ≠ 0 ∧ (run 5 (filled 1000000)).b.requestCheck 83 reqOk = 0 ∧
    ((run 5 (filled 1000000)).b.fu 83).freeSlot = some 0 ∧ (run 5 (filled 1000000)).b.fastGrants 83 (slotNew (run 5 (filled 1000000))) = true ∧
    (run 5 (filled 0)).b.fastGrants 83 (slotNew (run 5 (filled 0))) = false ∧
    ((run 5 (fun b => b.modFu 83 (fun u => { u with fresh := 1024 }))).b.fu 83).freeSlot = none ∧
    (run 5 (filled 0)).b.hub.wq.length < 4096 := by decide +kernel

def tkReq : TkRequest := reqOk
def queued : WqEntry := { field := 83, req := tkReq, reqTick := 3, index := 0 }

def moving : State := run 5 (fun b => (b.wr F_ID.MARKED_OUT 83 0).modHub (fun h => { h with wq := [queued] }))

theorem wit_TicketLife :
    ((slotAt 5 (fun t => { t with st := 2 })).b.fu 83).inReady = true ∧ ((slotAt 5 (fun t => { t with st := 2 })).b.fu 83).windowIn = [] ∧
    ((slotAt 5 (fun t => { t with st := 2 })).b.slot (tid 83 0)).st = 2 ∧ ((slotAt 5 (fun t => { t with st := 2 })).b.slot (tid 83 0)).ended = false ∧
    ((slotAt 5 (fun t => { t with st := 3 })).b.slot (tid 83 0)).st = 3 ∧
    ((slotAt 5 (fun t => { t with st := 3 })).b.slot (tid 83 0)).ended = false ∧
    ((slotAt 5 (fun t => { t with st := 1, waited := 2 ^ 32 })).b.slot (tid 83 0)).waiting = true ∧
    ((slotAt 5 (fun t => { t with st := 1, waited := 2 ^ 32 })).b.slot (tid 83 0)).crit = false ∧
    (slotAt 5 (fun t => { t with st := 1, waited := 2 ^ 32 })).b.rd F_TICKET.AGE_LIMIT 83 ≤
      ((slotAt 5 (fun t => { t with st := 1, waited := 2 ^ 32 })).b.slot (tid 83 0)).waited ∧
    ((slotAt (2 ^ 30) (fun t => { t with st := 2, grantTick := 9 })).b.slot (tid 83 0)).grantTick +
      256 * (slotAt (2 ^ 30) (fun t => { t with st := 2, grantTick := 9 })).b.rd F_TICKET.START_TIMEOUT 83 ≤
      (slotAt (2 ^ 30) (fun t => { t with st := 2, grantTick := 9 })).tick ∧
    moving.b.hub.wq.find? moving.b.movable = some queued ∧
    (moving.b.proc 84).st = 0 ∧
    (moving.b.fu queued.field).freeSlot = some 0 ∧ (run 5 id).b.hub.wq = [] := by decide +kernel

def hung : State := run 5 (fun b => b.wr F_TICKET.HANG_AGE 83 (2 ^ 32 - 1))
def building : State := run 9000 (fun b => (b.wr HUB_WAITFOR.BUILDING 0 1).modHub (fun h => { h with lastBuild := 808 }))
def aborting : State := run 5 (fun b => (b.modCtx 255 (fun x => { x with st := 2 })).modHub (fun h => { h with wq := [queued] }))

/-- Context 255 is OPEN with a share. -/
def shared255 (n : Nat) : State := run n (fun b => (b.modCtx 255 (fun x => { x with st := 1, capShare := 1 })).modAcct 255 (fun a => { a with st := 1 }))
theorem wit_HangGraphAndShares_share :
    (shared255 0).tick % (shared255 0).b.rd HUB_TICKET.SHARE_PERIOD 0 = 0 ∧ ((shared255 0).b.ctx 255).capShare ≠ 0 ∧
    (shared255 0).b.openCtxs.count 255 = 1 ∧ ((shared255 0).b.proc 84).st = 0 ∧
    16 * (((shared255 0).b.acct 255).energy - ((shared255 0).b.ctx 255).shareEnergy) * 125 * 256 ≤
      15 * (((shared255 0).b.ctx 255).capShare * (shared255 0).b.capMs * (4 * (shared255 0).b.rd HUB_TICKET.SHARE_PERIOD 0)) := by
  decide +kernel

theorem wit_HangGraphAndShares :
    hung.b.rd HUB_WAITFOR.HANG_TICKS 0 ≤ hung.b.rd F_TICKET.HANG_AGE 83 ∧ (hung.b.fu 83).hangReported = false ∧ (hung.b.proc 84).st = 0 ∧
    ((fieldAt83 5 (fun u => { u with hangReported := true })).b.fu 83).hangReported = true ∧
    passes 0x48 (cmd .host 0 []) (run 5 id) = true ∧ (run 5 id).b.bit HUB_WAITFOR.BUILDING 0 = false ∧
    building.b.bit HUB_WAITFOR.BUILDING 0 = true ∧ (building.b.proc 84).st = 0 ∧ building.b.hub.lastBuild + 8192 ≤ building.tick ∧
    (run 1 id).tick % (run 1 id).b.rd HUB_TICKET.SHARE_PERIOD 0 ≠ 0 ∧ (run 0 id).tick % (run 0 id).b.rd HUB_TICKET.SHARE_PERIOD 0 = 0 ∧
    (aborting.b.ctx 255).st = 2 ∧ (aborting.b.ctx 255).abortFrom < aborting.tick ∧ (aborting.b.ctx 0).st ≠ 2 := by decide +kernel

/-- The account of context 255, and the context, as given. -/
def acctAt (n : Nat) (g : Account → Account) : State := run n (fun b => b.modAcct 255 g)
def openCmd : Cmd := cmd .host 0 [255 + 65536 * 100]
def readCmd : Cmd := cmd .host 0 [255]
def noteCmd : Cmd := cmd .host 0 [255 + 256 * 254]
def reopened : State := run 5 (fun b => (b.modAcct 255 (fun a => { a with st := 1 })).modAcct 254 (fun a => { a with st := 4, restarts := 65534 }))

theorem wit_AccountCommands :
    passes 0x20 openCmd (run 5 id) = true ∧ openCmd.arg 0 / 256 % 256 = 0 ∧ ((run 5 id).b.acct (openCmd.arg 0 % 256)).st = 0 ∧
    ((run 5 id).b.ctx (openCmd.arg 0 % 256)).st = 0 ∧ ((run 5 id).b.ctx (openCmd.arg 0 % 256)).due = none ∧
    passes 0x21 readCmd (acctAt 5 (fun a => { a with st := 1 })) = true ∧ ((acctAt 5 (fun a => { a with st := 1 })).b.acct (readCmd.arg 0)).st = 1 ∧
    passes 0x22 readCmd (acctAt 5 (fun a => { a with st := 1 })) = true ∧ readCmd.bufLen 1 = 0 ∧
    passes 0x28 noteCmd (run 5 id) = true ∧ ((run 5 id).b.acct (noteCmd.arg 0 % 256)).st ≠ 1 ∧ (run 5 id).b.hub.staged.length < 16 := by
  decide +kernel

theorem wit_RestartNote :
    passes 0x28 noteCmd reopened = true ∧ (reopened.b.acct (noteCmd.arg 0 % 256)).st = 1 ∧ (reopened.b.acct (noteCmd.arg 0 / 256)).final = true ∧
    reopened.b.hub.staged.length < 16 ∧ (reopened.b.acct (noteCmd.arg 0 / 256)).restarts < 65535 := by decide +kernel

def frame : DrainFrame := { seqNo := 4, ctx := 255, cells := Coll.reset, sentAt := 9, inFlight := true }
def draining (done : Nat) : State := run 43 (fun b =>
  (b.modAcct 255 (fun a => { a with st := 1 })).modFu 83 (fun u => { u with drainKept := [frame], drainApplied := done }))
def closing : State := run 43 (fun b => (b.modAcct 255 (fun a => { a with st := 2 })).each allFields
  (fun b f => b.modFu f (fun u => { u with drainStart := 64 })))

theorem wit_Draining :
    (run 64 id).tick % 64 = 0 ∧ (run 127 id).tick % 64 ≠ 0 ∧ ((draining 3).b.fu 83).drainKept.find? (fun d => d.inFlight) = some frame ∧
    ((draining 3).b.fu 83).drainApplied < frame.seqNo ∧ ((draining 3).b.acct frame.ctx).st = 1 ∧
    ((draining 4).b.fu 83).drainKept.find? (fun d => d.inFlight) = some frame ∧ frame.seqNo ≤ ((draining 4).b.fu 83).drainApplied ∧
    (((draining 4).b.fu 83).drainKept.filter (fun d => decide (d.sentAt + 34 ≤ 43))).isEmpty = false ∧
    (closing.b.acct 255).st = 2 ∧ (closing.b.ctx 255).st = 0 ∧ (closing.b.ctx 255).due = none ∧ closing.b.passesDone 255 = true := by
  decide +kernel

/-! ### Witnesses: temperatures, the contour and tie lines -/

/-- Sensor `n` as `g` changes it. -/
def sensorAt (n : Nat) (g : Sensor → Sensor) : State := run 5 (fun b => b.modSensor n g)
def decide1 (r : Sensor) : Sensor := { r with decided := true }
/-- Parcel 671 of field 83 is active and its sensor broken. -/
def remapable : State := run 5 (fun b => b.modSensor (senParcel 83 671) (fun r => { r with broken := true, bistPass := true }))
def remapCmd : Cmd := cmd .host 0 [83 + 65536 * 671]

theorem wit_SensorEvents :
    ((sensorAt (senParcel 83 671) decide1).b.sensor (senParcel 83 671)).decided = true ∧
    ((sensorAt (senParcel 83 671) decide1).b.sensor (senParcel 83 671)).broken = false ∧
    ((sensorAt (senParcel 83 671) decide1).b.sensor (senParcel 83 671)).eventAt ≠ 5 ∧
    ((sensorAt (senBench 83 7) decide1).b.sensor (senBench 83 7)).eventAt ≠ 5 ∧
    ((sensorAt (senSpare 83 167) decide1).b.sensor (senSpare 83 167)).eventAt ≠ 5 ∧ (167 : Nat) < 168 ∧
    remapable.tick ≤ (remapable.b.sensor (senParcel 83 671)).declaredAt + 64 ∧
    ((sensorAt (senBench 83 7) decide1).b.sensor (senBench 83 7)).decided = true ∧
    ((sensorAt (senSpare 83 167) decide1).b.sensor (senSpare 83 167)).decided = true ∧
    remapable.b.bit F_THERM.AUTO_REMAP 83 = true ∧ (remapable.b.proc 83).st = 0 ∧ remapable.b.active 83 671 = true ∧
    (remapable.b.sensor (senParcel 83 671)).broken = true ∧ (remapable.b.cadE (pid 83 671)).useSpare = false ∧
    (remapable.b.sensor (senParcel 83 671)).action = 0 ∧ remapable.b.spareFree 83 671 = true ∧ remapable.b.spareBad 83 (671 / 4) = false ∧
    (run 5 id).b.rd F_THERM.VALIDATE_READS 83 ≤
      ((sensorAt (senParcel 83 671) (fun r => { r with validating := true, passCount := 255 })).b.sensor (senParcel 83 671)).passCount ∧
    passes 0x68 remapCmd remapable = true ∧
    remapable.b.remapStop (remapCmd.arg 0 % 128) (remapCmd.arg 0 / 65536 % 1024) (remapCmd.arg 0 / 2 ^ 28) = none := by decide +kernel

theorem wit_ThermalSteps :
    (run 5 id).b.bit F_THERM.WARN 83 = false ∧ ((fieldAt83 5 (fun u => { u with sawWarn := true })).b.fu 83).sawWarn = true ∧
    (run 5 (fun b => b.wr F_THERM.WARN 83 1)).b.bit F_THERM.WARN 83 = true ∧ ((run 5 id).b.fu 83).sawAboveClear = false ∧
    (run 64 id).tick % 64 = 0 ∧ (run 64 id).b.rd F_THERM.FIELD_RED 83 < 50 ∧
    8 * ((run 64 id).b.rd F_THERM.THROT_C 83 : Int) < ((fieldAt83 64 (fun u => { u with snapField := 2000 })).b.fu 83).snapField ∧
    (run 256 id).tick % 256 = 0 ∧ ((fieldAt83 256 (fun u => { u with benchCoolDone := true })).b.fu 83).benchCoolDone = true ∧
    ((fieldAt83 256 (fun u => { u with bandNext := 7 })).b.fu 83).bandNext ≠ (run 256 id).b.rd F_THERM.BAND 83 ∧
    (run 64 id).b.active 83 671 = true ∧ ((run 64 id).b.parcel (pid 83 671)).red < 50 ∧ (run 256 id).b.substituted 83 671 = false ∧
    ((run 256 (fun b => b.modParcel (pid 83 671) (fun p => { p with cool := true }))).b.parcel (pid 83 671)).cool = true := by decide +kernel

def runningDown : State := run (2 ^ 40) (fun b => b.modHub (fun h => { h with rundownFrom := some 1 }))

theorem wit_CoolantEvents :
    (hubAt 5 (fun h => { h with flowLost := some (4, 1) })).b.hub.flowLost = some (4, 1) ∧ (run 5 id).b.hub.flowLost = none ∧
    (hubAt 5 (fun h => { h with restoreAt := some 4 })).b.hub.restoreAt = some 4 ∧ runningDown.b.hub.rundownFrom = some 1 ∧
    runningDown.b.rundownSc ≤ (runningDown.tick - 1) * 2048 ∧ (runningDown.b.rails.all (fun e => e.2.run == 0)) = true ∧
    (allFields.all runningDown.b.benchesCool) = true ∧ (2 - 1) * 2048 < runningDown.b.rundownSc ∧
    (run 512 id).tick % 512 = 0 ∧ (run 511 id).tick % 512 ≠ 0 := by decide +kernel

/-- A reading of parcel 671 of field 83 above SHUT_C twice. -/
def hot : State := sensorAt (senParcel 83 671) (fun r => { r with shutCount := 2, temp := 1100 })
def tripped (n : Nat) : MonRec :=
  { tier := 1, code := 0x70, tick := n, offset := 0, source := 1, suppressed := 0, flags := 0, seqNo := 0, data := [], whole := true }

theorem wit_ThermalShutdown :
    hot.b.tripReading 83 .parcel 671 = some 1100 ∧ hot.b.hub.tripped = false ∧ hot.b.tripReading 83 .spare 671 = none ∧
    (hubAt 5 (fun h => { h with tripRec := some (tripped 4) })).b.hub.tripRec = some (tripped 4) ∧ (tripped 4).tick < 5 ∧
    passes 0x8A (cmd .bmc 0 []) (run 5 (fun b => b.wr HUB_STATE.MGR_STATE 0 8)) = true ∧
    (run 5 (fun b => (b.modHub (fun h => { h with shutHold := true })).modMon (fun m => { m with acked := true }))).b.exitReady = true ∧
    (hubAt 5 (fun h => { h with tripped := true })).b.hub.tripped = true ∧
    (run 5 (fun b => b.modAcct 255 (fun a => { a with st := 1 }))).b.tripReading 83 .parcel 671 = none ∧
    ((run 5 (railsAt 2 2000)).b.rail (railOf 83 (railNo .sram))).run = 2 := by decide +kernel

/-- A pending step to `p`, due at tick 5. -/
def stepTo (p : Nat) (locked : Bool) : Step :=
  { point := p, stepId := 9, due := 5, target := 5 * 2048, plumb := false, plumbPower := 0, pllLocked := locked, late := false, kind := 0, off := false }
def stepping (p : Nat) (locked : Bool) : State := hubAt 5 (fun h => { h with steps := [stepTo p locked] })

/-- Above its caps at point 26, with nothing pending. -/
def unmet26 : State := run 5 (fun b => (b.wr HUB_CAP.MS_UNMET 0 1).wr HUB_LOCK.POINT 0 26)
theorem wit_ContourEvents_announce :
    unmet26.b.hub.policyTick = none ∧ (unmet26.b.proc 84).st = 0 ∧ unmet26.b.rd HUB_LOCK.ROLE 0 ≠ 2 ∧
    unmet26.b.bit HUB_LOCK.FROZEN 0 = false ∧ unmet26.b.bit HUB_CONTOUR.PLUMB_ON 0 = false ∧
    (unmet26.b.policyTarget.toList ++ unmet26.b.hub.requests).foldl min unmet26.b.lastPoint < unmet26.b.lastPoint ∧
    unmet26.b.stepRoom (unmet26.tick + unmet26.b.stepLead) = true := by decide +kernel

theorem wit_ContourEvents :
    (stepping 0 true).b.hub.steps = [stepTo 0 true] ∧ (stepTo 0 true).due ≤ (stepping 0 true).tick ∧
    (stepping 0 true).b.stepReady (stepTo 0 true) = true ∧ (stepTo 0 true).point ≤ 26 ∧
    (stepping 26 false).b.stepReady (stepTo 26 false) = false ∧ (run 5 id).b.hub.steps = [] ∧ 4 < (stepTo 0 true).due ∧
    (hubAt 5 (fun h => { h with plumbDue := some 5 })).b.hub.plumbDue = some 5 ∧
    (hubAt 4100 (fun h => { h with policyTick := some 4 })).b.hub.policyTick = some 4 ∧ 4 + 4096 ≤ 4100 ∧ 4099 < 4 + 4096 ∧
    ((run 5 id).b.proc 84).st = 0 := by decide +kernel

/-- The hub alone in group 3, its owner. -/
def owner : State := run 5 (fun b => (b.wr HUB_LOCK.GROUP 0 3).wr HUB_LOCK.ROLE 0 1)
/-- A wafer whose power cap admits `PLUMB_POWER` 100 (1 kW). -/
def capped : State := run 5 (fun b => (b.wr HUB_CAP.PCAP_S 0 4000).wr HUB_CAP.PCAP_MS 0 4000)
def plumbCmd (s : State) : Cmd := cmd .host 0 [1 + 256 * s.b.point + 65536 * 100]

theorem wit_ContourAndLockCommands :
    passes 0x12 (cmd .host 0 [27]) (run 5 id) = true ∧ validPoint ((cmd .host 0 [27]).arg 0) = false ∧ passes 0x32 (cmd .host 0 [27]) (run 5 id) = true ∧
    passes 0x12 (cmd .host 0 [26]) (run 5 id) = true ∧ validPoint ((cmd .host 0 [26]).arg 0) = true ∧ (run 5 id).b.stepBarred = false ∧
    (run 5 id).b.stepRoom ((run 5 id).tick + (run 5 id).b.stepLead) = true ∧ passes 0x32 (cmd .host 0 [26, 9000]) (run 5 id) = true ∧
    (cmd .host 0 [26, 9000]).tick48 1 ≠ 0 ∧ (run 5 id).tick + (run 5 id).b.stepLead ≤ (cmd .host 0 [26, 9000]).tick48 1 ∧
    (run 5 id).b.stepRoom ((cmd .host 0 [26, 9000]).tick48 1) = true ∧
    atDue 5 0 = some 6 ∧ (capped.b.page (pageKey 0x28 0)).transit = [] ∧ (plumbCmd capped).arg 0 % 2 = 1 ∧ (plumbCmd capped).arg 0 / 256 % 32 = capped.b.point ∧
    validPoint capped.b.point = true ∧ 10000 * ((plumbCmd capped).arg 0 / 65536) ≤ min capped.b.capMs (10000 * capped.b.rd HUB_CAP.PCAP_S 0) ∧
    100 ≤ (plumbCmd capped).arg 0 / 65536 ∧ capped.b.rd HUB_LOCK.ROLE 0 = 0 ∧ (cmd .host 0 [0 + 256 * 26 + 65536 * 100]).arg 0 % 2 = 0 ∧
    (cmd .host 0 [1 + 256 * 26 + 65536 * 100]).arg 0 / 256 % 32 ≠ capped.b.point ∧ capped.b.bit HUB_CONTOUR.PLUMB_ON 0 = false ∧
    capped.b.stepRoom (capped.tick + capped.b.stepLead) = true ∧
    capped.b.bit HUB_LOCK.FROZEN 0 = false ∧ capped.b.hub.steps = [] ∧ (capped.b.page (pageKey 0x28 0)).heldBy = none ∧
    passes 0x30 (cmd .host 0 [3]) (run 5 id) = true ∧ (cmd .host 0 [3]).arg 0 % 256 ≠ 0 ∧ (run 5 id).b.rd HUB_LOCK.GROUP 0 = 0 ∧
    (run 5 id).b.bit HUB_CONTOUR.PLUMB_ON 0 = false ∧ (run 5 id).b.bit HUB_LOCK.JOINING 0 = false ∧
    passes 0x31 (cmd .host 0 []) owner = true ∧ owner.b.rd HUB_LOCK.ROLE 0 = 1 ∧ owner.b.rd HUB_LOCK.GROUP 0 ≠ 0 := by decide +kernel

theorem wit_ContourAndLockCommands_plumb : PagesTake 0x14 0 (plumbCmd capped) [⟨0x28, 0⟩]
    [⟨HUB_CONTOUR.PLUMB_EN, 0, (plumbCmd capped).arg 0 % 2⟩, ⟨HUB_CONTOUR.PLUMB_POINT, 0, (plumbCmd capped).arg 0 / 256 % 32⟩,
      ⟨HUB_CONTOUR.PLUMB_POWER, 0, (plumbCmd capped).arg 0 / 65536⟩] capped :=
  taken_spec (by decide +kernel) (by decide +kernel)

/-- LOCK_JOIN of group 3 as a member by port 5. -/
def memberCmd : Cmd := cmd .host 0 [3 + 256 + 512 * 5]

/-- Tie port 5 in state `st`. -/
def tieAt (st : Nat) : State := run 5 (fun b => (b.setFlag HUB_TIE.PORT_EN 0 5 true).wr (HUB_TIE.STATE 5) 0 st)

theorem wit_TieLineBringUp :
    (tieAt tieAlign').b.flag HUB_TIE.PORT_EN 0 5 = true ∧ (tieAt tieAlign').b.tieSt 5 = tieAlign' ∧ (tieAt tieHello).b.tieSt 5 = tieHello ∧
    (tieAt tieUp).b.tieSt 5 = tieUp ∧ (tieAt tieProbe).b.tieSt 5 = tieProbe ∧ ((tieAt tieProbe).b.tie 5).rounds.length < 15 ∧
    (tieAt tieUp).b.tieActive 5 = true ∧ (tieAt tieUp).b.tieSt 5 ≠ tieDown ∧
    16 ≤ ((run 5 (fun b => b.modTie 5 (fun t => { t with crcInPeriod := 16 }))).b.tie 5).crcInPeriod ∧ (tieAt tieDown).b.tieSt 5 = tieDown ∧
    passes 0x30 memberCmd (tieAt tieUp) = true ∧ memberCmd.arg 0 % 256 ≠ 0 ∧ memberCmd.arg 0 / 256 % 2 = 1 ∧ memberCmd.arg 0 / 512 % 8 = 5 ∧
    ((run 5 (fun b => b.modTie 5 (fun t => { t with rounds := List.replicate 15 0 }))).b.tie 5).rounds.length = 15 ∧
    spreadOf [0, 16] ≤ 16 ∧ 16 < spreadOf [0, 17] ∧ tieHello ≤ (tieAt tieUp).b.tieSt 5 ∧
    ((tieAt tieUp).b.tie 5).heard + (tieAt tieUp).b.rd HUB_TIE.SILENCE_TICKS 0 ≤ 2 ^ 40 ∧
    4 ≤ ((run 5 (fun b => b.modTie 5 (fun t => { t with failures := 4 }))).b.tie 5).failures := by
  decide +kernel

/-- Tie port 5 up, in a group of number 3 with `role`, as `g` changes it. -/
def grouped (role : Nat) (g : Block → Block) : State := run 5 (fun b =>
  g (((((b.setFlag HUB_TIE.PORT_EN 0 5 true).wr (HUB_TIE.STATE 5) 0 tieUp).wr HUB_LOCK.GROUP 0 3).wr HUB_LOCK.ROLE 0 role).wr HUB_LOCK.UP_PORT 0 5))
def joining : State := grouped 0 (fun b => (b.wr HUB_LOCK.GROUP 0 0).wr HUB_LOCK.JOINING 0 1)
def h0Down : State := grouped 1 (fun b => b.modProc 84 (fun p => { p with st := 1 }))

theorem wit_GroupFrames :
    h0Down.b.tieSt 5 = tieUp ∧ (h0Down.b.proc 84).st ≠ 0 ∧ (h0Down.b.tie 5).rx = [] ∧ joining.b.tieSt 5 = tieUp ∧
    joining.b.bit HUB_LOCK.JOINING 0 = true ∧ joining.b.rd HUB_LOCK.UP_PORT 0 = 5 ∧ (1 : Byte).toNat ≠ 0 ∧
    (BitVec.ofNat 8 joining.b.point).toNat = joining.b.point ∧ (grouped 2 id).b.tieSt 5 = tieUp ∧
    (grouped 2 id).b.rd HUB_LOCK.GROUP 0 = (3 : Byte).toNat ∧ (grouped 2 id).b.upPort = some 5 ∧ validPoint (27 : Byte).toNat = false ∧
    validPoint (26 : Byte).toNat = true ∧ (grouped 2 id).b.hub.steps = [] ∧ (grouped 1 id).b.rd HUB_LOCK.ROLE 0 = 1 ∧
    (grouped 1 id).b.rd HUB_LOCK.STEP_ID 0 = (0 : Byte).toNat ∧ (3 : Byte).toNat ≠ 0 ∧
    (h0Down.b.tie 5).rx.length < 16 ∧ ((grouped 2 id).b.proc 84).st = 0 ∧ (grouped 2 id).b.rd HUB_LOCK.DEPTH 0 < 4 ∧
    (grouped 2 id).b.groupSize < 32 ∧ (grouped 2 id).b.hub.waitSteps = [] ∧
    (grouped 1 (fun b => b.setFlag HUB_LOCK.DOWN_PORTS 0 5 true)).b.flag HUB_LOCK.DOWN_PORTS 0 5 = true ∧
    (grouped 2 id).b.flag HUB_LOCK.DOWN_PORTS 0 5 = false ∧ (grouped 2 id).b.point ≠ (26 : Byte).toNat ∧ joining.b.hub.joinPoint = none ∧
    (grouped 2 (fun b => b.wr HUB_LOCK.UP_PORT 0 4)).b.upPort = some 4 ∧
    (grouped 2 (fun b => (b.wr HUB_LOCK.UP_PORT 0 4).wr (HUB_TIE.STATE 4) 0 tieUp)).b.tieSt 4 = tieUp := by decide +kernel

/-! ### Witnesses: trace, halt, processors and firmware -/

def someRec : TraceRec := { code := 0x10, tick := 4, parcel := 1, offset := 7, aux := 0, dataA := 2, dataB := 3 }
/-- Field 83's buffer runs, with one record, the host ring being placed with a bucket of 4,096 bytes. -/
def traced (policy : Nat) : State := run 5 (fun b => ((((((tracing b).wr F_TRACE.POLICY 83 policy).wr HUB_TRACE.DRAIN_EN 0 1).wr
  HUB_TRACE.WB_ADDR_LO 0 64).modTrace 83 (fun t => { t with recs := [someRec] })).wr HUB_TRACE.RING_BASE_LO 0 0x10000).modHub
    (fun h => { h with bucket := 4096 }))

theorem wit_TraceEvents :
    ((traced 2).b.trace 83).st ≠ 2 ∧ ((traced 2).b.trace 83).st ≠ 3 ∧ (traced 2).b.bufOn 83 = true ∧ (traced 2).b.bufPolicy 83 = 2 ∧
    (traced 0).b.bufPolicy 83 ≠ 2 ∧ (run (2 ^ 23) id).tick % 2 ^ 23 = 0 ∧ (run 5 id).tick % 2 ^ 23 ≠ 0 ∧
    (traced 0).b.bit HUB_TRACE.DRAIN_EN 0 = true ∧ (traced 0).b.nextServed 5 = some 83 ∧
    (traced 0).b.ringUsed + burstLen (traced 0).b 5 83 ≤ (traced 0).b.ringRecs ∧
    (traced 0).b.burstBytes (burstLen (traced 0).b 5 83) ≤ (traced 0).b.hub.bucket ∧ (run 5 id).b.bit HUB_TRACE.DRAIN_EN 0 = false := by decide +kernel

/-- HALT of kind `k` at tick `n`. -/
def haltCmd (k n : Nat) : Cmd := cmd .host 0 [k, n]
def haltAt (st : Nat) (g : Block → Block) : State := run 5 (fun b => g (b.wr HUB_HALT.STATE 0 st))
/-- Every field has reported the halt's arrival. -/
def arrivedAll (b : Block) : Block :=
  b.modHub (fun h => { h with reports := allFields.map (fun f => (f, { Report.zero with haltArrived := true })) })
/-- A wafer that is HALTED. -/
def held : Block → Block := fun b => (b.wr HUB_HALT.STATE 0 3).wr HUB_STATE.MGR_STATE 0 6
def stopped83 (b : Block) : Block := b.modAgent (pid 83 671) (fun a => { a with halted := true, releaseWord := true })

theorem wit_HaltAndRelease :
    passes 0x40 (haltCmd 1 9) (run 5 id) = true ∧ 5 + (run 5 id).b.rd HUB_HALT.HALT_LEAD 0 ≤ (haltCmd 1 9).tick48 1 ∧ (run 5 id).b.haltSt = 0 ∧
    (run 5 id).b.hub.haltWanted = none ∧ passes 0x40 (haltCmd 0 0) (run 5 id) = true ∧ passes 0x40 (haltCmd 1 8) (run 5 id) = true ∧
    (haltCmd 1 8).tick48 1 < 5 + (run 5 id).b.rd HUB_HALT.HALT_LEAD 0 ∧
    (hubAt 5 (fun h => { h with sched := some 5 })).b.hub.sched = some 5 ∧
    (hubAt 5 (fun h => { h with haltWanted := some 3 })).b.hub.haltWanted = some (haltCode .severe) ∧
    (hubAt 5 (fun h => { h with haltWanted := some 3 })).b.haltSt ≤ 1 ∧ (haltAt 4 (fun b => b.modHub (fun h => { h with haltWanted := some 3 }))).b.haltSt = 4 ∧
    (run 5 id).b.hub.haltWanted ≠ some (haltCode .severe) ∧ 2 ≤ (haltAt 2 id).b.haltSt ∧ (haltAt 1 id).b.haltSt < 2 ∧
    (haltAt 2 arrivedAll).b.haltSt = 2 ∧ (haltAt 2 arrivedAll).b.allArrived = true ∧
    (haltAt 2 (waiting 0 .halt)).b.waitOf 0 = .halt ∧ (grouped 1 id).b.tieSt 5 = tieUp ∧ (3 : Byte).toNat = (grouped 1 id).b.rd HUB_LOCK.GROUP 0 ∧
    (grouped 1 id).b.haltSt < 2 ∧ (grouped 1 id).b.hub.haltWanted = none ∧ (4 : Byte).toNat ≠ (grouped 1 id).b.rd HUB_LOCK.GROUP 0 ∧
    passes 0x41 (cmd .host 0 []) (run 5 held) = true ∧ (cmd .host 0 []).tick48 0 = 0 ∧ (run 5 held).b.haltSt = 3 ∧
    passes 0x41 (cmd .host 0 []) (haltAt 1 (fun b => b.modHub (fun h => { h with sched := some 900 }))) = true ∧ (haltAt 1 id).b.haltSt = 1 ∧
    (haltAt 4 (fun b => (stopped83 b).modHub (fun h => { h with release := some 5 }))).b.hub.release = some 5 ∧
    ((haltAt 4 stopped83).b.agent (pid 83 671)).halted = true ∧ ((haltAt 4 stopped83).b.agent (pid 83 671)).releaseWord = true ∧ (haltAt 4 stopped83).b.dead (pid 83 671) = false ∧
    (run 5 id).b.hub.release = none := by
  decide +kernel

/-- Processor 86 as `g` changes it. -/
def procAt (n : Nat) (g : Proc → Proc) : State := run n (fun b => b.modProc 86 g)

/-- GATE_CALL of gate 1 by compartment 1 of processor 86: how many gates an image has, and where they lead, is in the image alone, so the clauses of a
call in range ask that it has this gate. -/
theorem wit_ProcessorEvents_gate (sec : List Nat) (h : 2 ≤ Config.gateCount sec) (callee : Nat) :
    (1 : Byte).toNat < Config.gateCount sec ∧ ([] : List Word).length ≤ Config.gateArgs sec (1 : Byte).toNat ∧ (1 : Byte).toNat ≤ compCount 86 ∧
    ((procAt 5 (fun q => { q with compDown := [(callee, 9)] })).b.proc 86).down 5 callee = true ∧
    ((procAt 5 id).b.proc 86).down 5 callee = false := by
  have e : ((procAt 5 (fun q => { q with compDown := [(callee, 9)] })).b.proc 86).compDown = [(callee, 9)] := rfl
  have e' : ((procAt 5 id).b.proc 86).compDown = [] := rfl
  exact ⟨h, Nat.zero_le _, by decide, by simp [Proc.down, e, mget], by simp [Proc.down, e', mget]⟩

theorem wit_ProcessorEvents :
    ((run 5 id).b.proc 86).st = 0 ∧ 4 < (List.replicate 5 (0 : Word)).length ∧ (1 : Byte).toNat ≠ 0 ∧ (1 : Byte).toNat ≤ compCount 86 ∧
    (run 5 id).b.onTrial 86 = false ∧ (5 : BitVec 48).toNat ≤ (run 5000000 id).tick ∧
    max ((run 5000000 id).b.proc 86).kick (5 : BitVec 48).toNat + (run 5000000 id).b.rd HUB_FW.WDT_TICKS 0 ≤ 5000000 ∧
    (run 5 id).tick < max ((run 5 id).b.proc 86).kick (5 : BitVec 48).toNat + (run 5 id).b.rd HUB_FW.WDT_TICKS 0 ∧
    ((procAt 5 (fun q => { q with st := 1 })).b.proc 86).loaded = false ∧ ((procAt 5 (fun q => { q with st := 1 })).b.proc 86).newImage = false ∧
    ((procAt 5 (fun q => { q with st := 1, newImage := true })).b.proc 86).newImage = true ∧
    (procAt 5 (fun q => { q with st := 1 })).b.onTrial 86 = false ∧
    ((procAt 5 (fun q => { q with st := 1, loaded := true })).b.proc 86).loaded = true ∧
    ((procAt 5 (fun q => { q with st := 1, loaded := true })).b.proc 86).restarting = true ∧
    (((run 5 id).b.proc 86).compTicks.filter (fun t => decide (5 < t + 4096))).length < (run 5 id).b.rd HUB_FW.COMP_LIMIT 0 ∧
    (run 5 id).b.rollout ≠ 3 ∧ ((procAt 5 (fun q => { q with st := 1 })).b.proc 86).st ≠ 0 ∧
    ((procAt 5 (fun q => { q with st := 1 })).b.proc 86).restarting = true ∧ ((run 5 id).b.proc 86).restarting = false ∧
    (run 5 id).b.rollout ≠ 4 ∧ ((procAt 5 (fun q => { q with st := 1, holdOn := true })).b.proc 86).holdOn = true ∧
    ((procAt 5 (fun q => { q with st := 1, holdOn := true })).b.proc 86).hold = 0 ∧ ((run 5 id).b.proc 86).holdOn = false := by decide +kernel

/-- FW_STAGE of `n` bytes at offset `off`. -/
def stageCmd (opts off n : Nat) : Cmd := cmd .host opts [0x1000, 0, n, off]
def slotB (b : Block) : Block := b.wr HUB_FW.SLOT_B_VALID 0 1
def rolling (l : List Nat) : State := run 5000 (fun b =>
  ((b.wr HUB_FW.ROLLOUT 0 3).wr HUB_FW.ROLL_NEXT 0 83).modHub (fun h => { h with order := l }) |>.modProc 83 (fun q => { q with runTick := some 900 }))
def quoteCmd : Cmd := cmd .host 0 ([32] ++ List.replicate 8 0x01020304 ++ [0x2000, 0, 608])
/-- The reset hub holds no attestation key. -/
def wiped : State := run 5 id
def keyed : State := hubAt 5 (fun h => { h with attKey := some [1] })

theorem wit_FirmwareAndQuotes :
    passes 0x70 (stageCmd 0x80 0 1024) (run 5 id) = true ∧ stageDenied (run 5 id) (stageCmd 0x80 0 1024) = none ∧
    (run 5 id).b.activating = false ∧ (run 5 id).b.stagedElsewhere 0 0x70 0 = false ∧ (run 5 id).b.bufCheck (stageCmd 0x80 0 1024) 0 0 = none ∧
    (stageCmd 0x80 0 1024).area = true ∧ (stageCmd 0x80 0 1024).arg 3 = ((run 5 id).b.staged 0 0x70 0).length ∧ (stageCmd 0x80 0 1024).opt 6 = false ∧
    passes 0x70 (stageCmd 0 0 64) (run 5 id) = true ∧ stageDenied (run 5 id) (stageCmd 0 0 64) = none ∧
    (run 5 id).b.bufCheck (stageCmd 0 0 64) 0 0 = none ∧ (stageCmd 0 0 64).area = false ∧
    passes 0x71 (cmd .host 0 []) (run 5 slotB) = true ∧ (run 5 slotB).b.restartsRun = false ∧ (run 5 slotB).b.bit HUB_FW.SLOT_B_VALID 0 = true ∧
    (run 5 slotB).b.ifaceNew = false ∧ (run 5 slotB).b.restartsRun = false ∧ ((run 5 slotB).b.proc 0).st ≠ 3 ∧ (run 5 id).b.hub.staged.length < 15 ∧
    (stageCmd 0 0 64).opt 6 = false ∧ (stageCmd 0xC0 0 1024).area = true ∧ (stageCmd 0xC0 0 1024).opt 6 = true ∧ passes 0x70 (stageCmd 0xC0 0 1024) (run 5 id) = true ∧ passes 0x71 (cmd .host 0 []) (run 5 id) = true ∧ (run 5 id).b.bit HUB_FW.SLOT_B_VALID 0 = false ∧
    (rolling []).b.probationOver 5000 83 = true ∧ (rolling []).b.rollout = 3 ∧ (rolling []).b.rd HUB_FW.ROLL_NEXT 0 = 83 ∧
    (rolling [86]).b.hub.order = [86] ∧ 86 < 87 ∧ ((rolling [86]).b.proc 86).st ≠ 3 ∧ (rolling [86]).b.probationOver 5000 83 = true ∧ (rolling [86]).b.ifaceNew = false ∧
    ((rolling []).b.wr HUB_FW.ROLLOUT 0 0).probationOver 5000 83 = true ∧ ((rolling []).b.wr HUB_FW.ROLLOUT 0 0).rollout ≠ 3 ∧ (cmd .host 0 [86]).arg 0 ≤ 86 ∧ passes 0x72 (cmd .host 0 [0xFF]) (run 5 id) = true ∧ (cmd .host 0 [0xFF]).arg 0 = 0xFF ∧ (run 5 id).b.probationOver 5 83 = false ∧ (run 5 (fun b => b.wr HUB_FW.ROLLOUT 0 5)).b.rollout = 5 ∧
    passes 0x72 (cmd .host 0 [86]) (run 5 id) = true ∧ passes 0x72 (cmd .host 0 [87]) (run 5 id) = true ∧ 86 < (cmd .host 0 [87]).arg 0 ∧
    passes 0x78 quoteCmd keyed = true ∧ quoteCmd.arg 0 ≤ 32 ∧ keyed.b.hub.attKey = some [1] ∧ keyed.b.bufCheck quoteCmd 9 608 = none ∧ quoteCmd.area = false ∧
    passes 0x78 quoteCmd wiped = true ∧ wiped.b.hub.attKey = none := by decide +kernel

/-! ### Witnesses: faults, the monument, memories, self-test, start-up and the window -/

def collAt (n st : Nat) (g : Hub → Hub) : State := run n (fun b => (b.wr HUB_FAULT.STATE 0 st).modHub g)

theorem wit_FaultCollector :
    severeAtFirst 7 0 = false ∧ neverSevere.contains 7 = false ∧ 1 < (run 5 id).b.rd (HUB_FAULT.N 7) 0 ∧
    (run 5 (fun b => b.wr (HUB_FAULT.N 7) 0 1)).b.rd (HUB_FAULT.N 7) 0 ≤
      (((mget [] (run 5 (fun b => b.wr (HUB_FAULT.N 7) 0 1)).b.hub.events 7 ++ [5]).drop (1 - 16)).filter
        (fun t => decide (5 < t + (run 5 id).b.window 7))).length ∧
    severeAtFirst 18 (2 ^ 15) = true ∧ (collAt 5 4 id).b.collector = 4 ∧
    (collAt 5 2 id).b.collector = 2 ∧ (run (2 ^ 40) (fun b => b.setFlag HUB_FAULT.FAULT_STATUS 0 31 true)).b.episodeBit 31 = false ∧ (run 5 id).b.collector ≠ 2 ∧ severeAtFirst 30 0 = false ∧
    neverSevere.contains 30 = true ∧
    (collAt 5 2 (fun h => { h with severeAt := some 4, reports := ((arrivedAll Block.reset).hub).reports })).b.hub.severeAt = some 4 ∧
    (collAt 5 2 (fun h => { h with severeAt := some 4, reports := ((arrivedAll Block.reset).hub).reports })).b.collector = 2 ∧
    (collAt 5 2 (fun h => { h with severeAt := some 4, reports := ((arrivedAll Block.reset).hub).reports })).b.allArrived = true ∧
    (collAt 488284 3 (fun h => { h with quietFrom := 3 })).b.collector = 3 ∧ 3 + 488281 ≤ 488284 ∧ 488283 < 3 + 488281 ∧
    (run (2 ^ 40) (fun b => b.setFlag HUB_FAULT.FAULT_STATUS 0 31 true)).b.flag HUB_FAULT.FAULT_STATUS 0 31 = true ∧
    mget 0 (run (2 ^ 40) (fun b => b.setFlag HUB_FAULT.FAULT_STATUS 0 31 true)).b.hub.latest 31 + (run (2 ^ 40) id).b.window 31 ≤ 2 ^ 40 ∧
    (run 5 id).b.flag HUB_FAULT.FAULT_STATUS 0 31 = false ∧ passes 0x90 (cmd .debug 0 []) (collAt 5 1 id) = true ∧
    (collAt 5 1 id).b.collector ≤ 1 ∧ passes 0x90 (cmd .debug 0 []) (collAt 5 4 id) = true ∧ (collAt 5 4 id).b.collector = 4 ∧
    passes 0x90 (cmd .debug 0 []) (collAt 5 3 id) = true ∧ (run 5 id).b.hub.engErrHigh = false ∧
    (hubAt 5 (fun h => { h with engErrHigh := true })).b.hub.engErrHigh = true := by decide +kernel

def monAt (n : Nat) (g : Monument → Monument) : State := run n (fun b => b.modMon g)
def event : MonRec := { tripped 4 with tier := 3, code := 0x20 }
def mirrored : MonRec := { tripped 4 with tier := 4, seqNo := 77 }
def readMon : Cmd := cmd .host 0 [1, 0, 2, 0x1000, 0, 128]
def failing (n : Nat) : State := run n (fun b => b.modHub (fun h => { h with pfSince := some 5, pfPin := true }))

theorem wit_MonumentAndPowerLoss :
    (monAt 5 (fun m => { m with busy := some event })).b.mon.busy = some event ∧ event.tier = 3 ∧ (run 5 id).b.mon.busy = none ∧
    ({ event with tier := 1 } : MonRec).tier = 1 ∧ ({ event with tier := 2 } : MonRec).tier = 2 ∧ 1024 % 512 = 0 ∧ (monAt 1024 id).b.mon.refillTick ≠ 1024 ∧
    (monAt 5 (fun m => { m with erasing := 1 })).b.mon.erasing ≠ 0 ∧ (hubAt 5 (fun h => { h with pfSince := some 2, pfAgain := true })).b.hub.pfAgain = true ∧
    (failing 1471).b.holdup = true ∧ (failing 1471).b.hub.pfAgain = false ∧ (failing 1471).tick ≠ 5 + 1465 ∧
    (run 5 (fun b => b.modNv (fun n => { n with lifecycle := 3 }))).b.nv.lifecycle = 3 ∧
    (monAt 5 (fun m => { m with busy := some mirrored })).b.mon.busy = some mirrored ∧ mirrored.tier = 4 ∧
    (monAt 5 (fun m => { m with busy := some event })).b.mon.retry = false ∧ (monAt 5 (fun m => { m with erasing := 1 })).b.mon.erasing = 1 ∧
    (monAt 5 (fun m => { m with erasing := 1 })).b.mon.suspended = false ∧ (run 5 id).b.mon.erasing = 0 ∧
    (monAt 5 (fun m => { m with erasing := 1, queue := [tripped 4] })).b.mon.upperEmpty = false ∧
    (keysOf (monAt 1024 (fun m => { m with tokens := [(0x28, 7)] })).b.mon.tokens).Nodup ∧ (513 : Nat) % 512 ≠ 0 ∧
    passes 0x88 readMon (run 5 id) = true ∧ readMon.arg 0 % 8 ≠ 0 ∧ readMon.arg 0 % 8 ≤ 5 ∧ (run 5 id).b.bufCheck readMon 3 0 = none ∧
    readMon.area = false ∧ passes 0x89 (cmd .debug 0 []) (run 5 id) = true ∧
    (run 5 (fun b => b.modNv (fun n => { n with lifecycle := 1 }))).b.nv.lifecycle = 1 ∧
    (run 5 (fun b => b.modNv (fun n => { n with lifecycle := 2 }))).b.nv.lifecycle = 2 ∧ (run 5 id).b.holdup = false ∧
    (failing 1470).b.holdup = true ∧ (failing 1470).b.hub.pfSince = some 5 ∧ (failing 1470).tick = 5 + 1465 ∧ (failing 1470).b.hub.pfPin = true ∧
    16 ≤ (hubAt 5 (fun h => { h with pfSince := some 2, pfClear := 16 })).b.hub.pfClear := by decide +kernel

def memAt (k : Nat) (g : MemSt → MemSt) : State := run 5 (fun b => b.modMemSt k g)
def marchCmd (opts : Nat) : Cmd := cmd .host opts [1, 0, 0, 2 ^ 19]

theorem wit_Memories :
    ((136 : Fin 137) ≠ 0) ∧ ((run 5 id).b.proc (memOwner (memNo .hub))).st = 0 ∧
    ((memAt 84 (fun m => { m with repairDue := [(63, 511)] })).b.memSt (memNo .hub)).repairDue.contains (63, 511) = true ∧
    (63 < memBanks (memNo .hub)) ∧ (((memAt 84 id).b.memSt (memNo .hub)).inBank 63).length < 4 ∧
    ((((memAt 84 id).b.memSt (memNo .hub)).inBank 63).any (fun e => e.2.1 == 511)) = false ∧
    ((memAt 84 id).b.memSt (memNo .hub)).repairDue.contains (63, 511) = false ∧ ((run 5 id).b.proc 86).st = 0 ∧ min 86 84 = 84 ∧
    secureOff 84 0x3FFFFC = true ∧ (5 : Byte).toNat ≤ compCount 86 ∧ (BitVec.ofNat 8 compAttest).toNat = compAttest ∧ compAttest ≤ compCount 86 ∧
    0x3C0000 ≤ (0x3C0000 : BitVec 22).toNat ∧ ¬ ((86 : Nat) = 86 ∧ (1 : Byte).toNat = compAttest) ∧
    (((run 5 id).b.proc 86).compTicks.filter (fun t => decide (5 < t + 4096))).length < (run 5 id).b.rd HUB_FW.COMP_LIMIT 0 ∧
    ((memAt 83 (fun m => { m with marching := true })).b.memSt 83).segDue ≤ 5 ∧
    5 < ((memAt 83 (fun m => { m with marching := true, segDue := 6 })).b.memSt 83).segDue ∧ ((memAt 84 id).b.memSt 84).ueWords.contains (0x3FFFFC / 16) = false ∧
    passes 0x80 (marchCmd 0) (run 5 id) = true ∧ marchDenied (run 5 id) (marchCmd 0) = none ∧ (marchNames (marchCmd 0).words).isEmpty = false ∧
    ((marchNames (marchCmd 0).words).any (fun k => ((run 5 id).b.memSt k).marching)) = false ∧
    ((memAt 83 (fun m => { m with marching := true })).b.memSt (memNo (.field 83))).marching = true ∧
    ((memAt 83 (fun m => { m with marching := true })).b.memSt (memNo (.field 83))).seg < memSegs (memNo (.field 83)) ∧
    ((memAt 83 (fun m => { m with marching := true })).b.memSt (memNo (.field 83))).destructive = false ∧
    memSegs 83 ≤ ((memAt 83 (fun m => { m with marching := true, seg := 4096 })).b.memSt 83).seg ∧
    ((run 5 id).b.memSt 83).marching = false := by decide +kernel

def bistCmd : Cmd := cmd .host 0 only83
def lcState (lc : Nat) (g : Nonvol → Nonvol) : State := run 5 (fun b => b.modNv (fun n => g { n with lifecycle := lc }))
def lcCmd (l : List Nat) : Cmd := cmd .debug 0x80 l
def fusedNv (n : Nonvol) : Nonvol :=
  { n with vmin := (List.range 27).map (fun k => (k, 90)), fwKey := some [1], debugKey := some [2], returnKey := some [3] }

theorem wit_SelfTestAndLifeCycle :
    passes 0x81 bistCmd (run 5 id) = true ∧ ((bistCmd.fset 0).any (fun f => ((run 5 id).b.fu f).bistRunning)) = false ∧ bistCmd.bufLen 3 = 0 ∧
    (run 5 id).b.bufCheck bistCmd 3 0 = none ∧ ((fieldAt83 5 (fun u => { u with bistRunning := true })).b.fu 83).bistRunning = true ∧
    ((run 5 id).b.fu 83).bistRunning = false ∧ (∀ pt : Fin 3, ((fieldAt83 5 (fun u => { u with bistRunning := true })).b.port pt).flight = none) ∧
    passes 0x79 (lcCmd [1]) (lcState 0 id) = true ∧ lcDenied (lcState 0 id) (lcCmd [1]) = none ∧ (lcCmd [1]).bufLen 1 = 0 ∧
    (lcState 0 id).b.bufCheck (lcCmd [1]) 1 0 = none ∧ (lcCmd [1]).arg 0 % 4 ≠ 3 ∧ (lcCmd [1]).arg 0 % 4 ≠ (lcState 0 id).b.nv.lifecycle ∧
    passes 0x79 (lcCmd [2]) (lcState 1 fusedNv) = true ∧ lcDenied (lcState 1 fusedNv) (lcCmd [2]) = none ∧
    ((lcState 1 fusedNv).b.nv.vminFused && (lcState 1 fusedNv).b.nv.keysFused) = true ∧
    lcDenied (lcState 0 id) (lcCmd [2]) = some 0 ∧ passes 0x79 (lcCmd [2]) (lcState 0 id) = true := by decide +kernel

/-- A fusing record that names the Vmin codes, all 0. -/
def fuseHead : List Nat := leBytes 4 0x5A574757 ++ leBytes 2 1 ++ leBytes 2 1 ++ leBytes 4 0
def fuseBody : List Nat := fuseHead ++ List.replicate 212 0
def fuseRec : List Nat := fuseBody ++ leBytes 4 2888477345

theorem fuse_crc : crc32c fuseBody = 2888477345 := by
  have h : fuseHead.foldl (crc32Byte 0x82F63B78) 0xFFFFFFFF = 980253153 := by decide +kernel
  have h' : (List.replicate 212 0).foldl (crc32Byte 0x82F63B78) 980253153 = 1406489950 :=
    crc_zeros 1284304677 149 rfl (by decide +kernel) <|
    crc_zeros 1618221518 86 rfl (by decide +kernel) <|
    crc_zeros 2814670050 23 rfl (by decide +kernel) <|
    (by decide +kernel)
  rw [crc32c, fuseBody, List.foldl_append, h, h']
  rfl

theorem fuse_ok : fuseBad 0 fuseRec = none := by
  have h8 : fieldAt fuseRec 0xE0 4 = crc32c (fuseRec.take 0xE0) := by
    rw [show fuseRec.take 0xE0 = fuseBody by decide +kernel, fuse_crc]
    decide +kernel
  have h1 : fieldAt fuseRec 0 4 = 0x5A574757 ∧ fieldAt fuseRec 4 2 = 1 ∧ ¬ 16 ≤ fieldAt fuseRec 6 2 ∧ fieldAt fuseRec 8 4 = 0 ∧
      fieldAt fuseRec 0xC 4 = 0 ∧ fieldAt fuseRec 0x46 10 = 0 ∧
      (List.range 27).any (fun p => decide (512 ≤ recVmin fuseRec p)) = false ∧
      ((List.range 27).any (fun p => decide (90 < recVmin fuseRec p))) = false := by decide +kernel
  obtain ⟨a, b, c, d, e, f, g, i⟩ := h1
  simp only [fuseBad]
  rw [i, if_neg (by simp only [a, b, c, d, e, f, g, h8]; simp)]
  rfl

/-- The record in the DATA area of the debug port. -/
def withRecord : State := run 5 (fun b => (b.modNv (fun n => { n with lifecycle := 1 })).each (List.range 57)
  (fun b k => b.wr (HUB_CMD.DATA 2 k) 0 (fieldAt fuseRec (4 * k) 4)))
def fuseCmd : Cmd := lcCmd [1, 0, 0, 228]

theorem wit_SelfTestAndLifeCycle_fuse :
    Passes 0x79 fuseCmd withRecord ∧ lcDenied withRecord fuseCmd = none ∧ withRecord.b.nv.lifecycle = 1 ∧ fuseCmd.arg 0 % 4 = 1 ∧
    fuseCmd.bufLen 1 = 228 ∧ withRecord.b.bufCheck fuseCmd 1 0 = none ∧ fuseBad withRecord.b.nv.waferId (readBuf withRecord fuseCmd 1) = none ∧
    withRecord.b.nv.fuseClash (readBuf withRecord fuseCmd 1) = false ∧ withRecord.b.nv.fuseFails (readBuf withRecord fuseCmd 1) 0 = [] ∧
    withRecord.b.nv.fuseFails (readBuf withRecord fuseCmd 1) 1 ≠ [] ∧ withRecord.b.hub.staged.length < 16 := by
  have hb : readBuf withRecord fuseCmd 1 = fuseRec := by decide +kernel
  rw [hb]
  exact ⟨passes_spec (by decide +kernel), by decide +kernel, by decide +kernel, by decide +kernel, by decide +kernel, by decide +kernel,
    fuse_ok, by decide +kernel, by decide +kernel, by decide +kernel, by decide +kernel⟩

/-- Start-up phase `k`. -/
def phaseAt (n k : Nat) (g : Block → Block) : State := run n (fun b => g (b.wr HUB_STATE.START_PHASE 0 k))
def pairs83 : Block → Block := fun b => b.wr (F_RAIL.ON 1) 83 1
/-- Field 83 alone has its rails on and has reported their arrival. -/
def arrived83 (b : Block) : Block := (pairs83 b).modHub (fun h => { h with reports := [(83, { Report.zero with arrived := true })] })

def bootIn : BootIn :=
  { present := false, erases := true, suspends := true, flashId := 0, tppMax := 0, suspendUs := 0, endurance := 100000 }

/-- Field 83 stopped by VIN_UV whose input has been good long enough, after the takeover; `l` fields are starting. -/
def restartable (l : List Nat) : State := run 5000 (fun b =>
  ((((b.wr F_ID.OUT_CAUSE 83 7).wr F_ID.MARKED_OUT 83 1).modFu 83 (fun u => { u with vinGood := 1024 })).modHub
    (fun h => { h with takenOver := true })).each l (fun b f => b.modRail (railOf f 0) (fun r => { r with run := 1 })))

/-- A flash that answers and a bootable slot A: the signature and the hashes are opaque, so the clause of a start that goes on asks for them. -/
theorem wit_StartUp_image (h : (phaseAt 5 2 id).b.bootable [] = true) :
    ({ bootIn with present := true } : BootIn).present = true ∧ (phaseAt 5 2 id).b.bootable (phaseAt 5 2 id).b.mon.imgA = true := ⟨rfl, h⟩

theorem wit_StartUp :
    bootIn.present = false ∧ 3 < (phaseAt 5 4 id).b.phaseNo ∧ (phaseAt 5 5 (fun b => b.modMon (fun m => { m with shutdowns := [tripped 4] }))).b.mon.shutdownsRead ≠ [] ∧
    (phaseAt 300 6 (fun b => b.modHub (fun h => { h with group := 1, groupTick := 44 }))).b.startsEnded = true ∧
    (phaseAt 300 6 (fun b => b.modHub (fun h => { h with group := 1, groupTick := 44 }))).b.hub.groupTick + 256 ≤ 300 ∧
    (phaseAt 5 8 id).b.rd F_BIST.RUN_TICK 83 ≠ 5 % 2 ^ 32 ∧ ((phaseAt 5 8 (fun b => b.modFu 83 (fun u => { u with calStep := 1 }))).b.fu 83).bistRunning = false ∧
    ((phaseAt 64 8 (fun b => b.modFu 83 (fun u => { u with calStep := 2 }))).b.fu 83).calFrom + 64 ≤ 64 ∧
    ((phaseAt 256 8 (fun b => b.modFu 83 (fun u => { u with calStep := 5, calTicks := 255 }))).b.fu 83).calTicks < 256 ∧
    1024 ≤ ((restartable []).b.fu 83).vinGood ∧ ((run 5 id).b.fu 83).serviceDue = false ∧
    (phaseAt 5 2 id).b.pins.inReset = false ∧ (phaseAt 5 2 id).b.phaseNo = 2 ∧ (phaseAt 5 4 id).b.phaseNo = 4 ∧
    (phaseAt 5 4 id).b.hub.bootFailed = false ∧ (phaseAt 5 5 id).b.phaseNo = 5 ∧ ((phaseAt 5 5 id).b.mems.any (fun e => e.2.marching)) = false ∧
    ((phaseAt 5 5 id).b.fields.any (fun e => e.2.bistRunning)) = false ∧ (phaseAt 5 5 id).b.mon.acked = true ∧
    (phaseAt 5 5 id).b.mon.shutdownsRead = [] ∧ (phaseAt 5 5 (fun b => b.modMon (fun m => { m with acked := false }))).b.mon.acked = false ∧
    (phaseAt 5 6 id).b.hub.shutHold = false ∧ (phaseAt 5 6 id).b.hub.tripped = false ∧ (phaseAt 5 6 id).b.hub.group = 0 ∧
    (phaseAt 300000 6 (fun b => b.modHub (fun h => { h with group := 7 }))).b.groupsOver 300000 = true ∧
    (phaseAt 5 7 arrived83).b.railsOn 83 = true ∧
    ((allFields.filter (phaseAt 5 7 arrived83).b.railsOn).all (fun f => ((phaseAt 5 7 arrived83).b.repOf f).arrived && !(phaseAt 5 7 arrived83).b.hub.arrived.contains f)) = true ∧
    ((phaseAt 5 8 (fun b => b.modFu 83 (fun u => { u with calStep := 1 }))).b.fu 83).calStep = 1 ∧ (phaseAt 5 8 id).b.phaseNo ≠ 0 ∧
    ((phaseAt 256 8 (fun b => b.modFu 83 (fun u => { u with calStep := 3 }))).b.fu 83).calFrom + 256 ≤ 256 ∧
    ((phaseAt 256 8 (fun b => b.modFu 83 (fun u => { u with calStep := 5, calTicks := 256 }))).b.fu 83).calBad = false ∧
    ((phaseAt 256 8 (fun b => b.modFu 83 (fun u => { u with calStep := 5, calTicks := 256 }))).b.fu 83).calTicks ≠ 0 ∧
    (phaseAt 5 9 (fun b => b.wr HUB_CONTOUR.BOOT_POINT 0 b.point)).b.phaseNo = 9 ∧
    (phaseAt 5 9 (fun b => b.wr HUB_CONTOUR.BOOT_POINT 0 b.point)).b.point =
      (phaseAt 5 9 (fun b => b.wr HUB_CONTOUR.BOOT_POINT 0 b.point)).b.rd HUB_CONTOUR.BOOT_POINT 0 ∧ (phaseAt 5 9 id).b.hub.steps = [] ∧
    ((run 5 (fun b => (pairs83 b).modFu 83 (fun u => { u with serviceDue := true }))).b.fu 83).serviceDue = true ∧
    (restartable []).b.rd F_ID.OUT_CAUSE 83 = 7 ∧ (restartable []).b.isOut 83 = true ∧ ((restartable []).b.fu 83).vinGood = 1024 ∧
    (restartable []).b.powerOk = true ∧ (restartable []).b.mgr ≠ 8 ∧ (restartable []).b.hub.takenOver = true ∧
    (restartable []).b.pairUp 83 = false ∧ (restartable []).b.starting.length < 12 ∧ 12 ≤ (restartable (List.range 12)).b.starting.length ∧
    ((run 5 id).b.fu 83).vinGood < 1024 := by decide +kernel

def leaseAt (n : Nat) : State := run n (fun b => b.setFlag HUB_LEASE.HELD 0 2 true)
def railCmd : Cmd := cmd .bmc 0 only83
def outOf83 (b : Block) : Block := b.wr F_ID.MARKED_OUT 83 1

theorem wit_WindowAndRails :
    passes 0x01 (cmd .debug 0 []) (run 5 id) = true ∧ passes 0x02 (cmd .debug 0 []) (run 5 id) = true ∧
    passes 0x02 (cmd .debug 1 []) (run 5 id) = true ∧ passes 0x03 (cmd .bmc 0 []) (run 5 id) = true ∧
    (leaseAt (2 ^ 40)).b.flag HUB_LEASE.HELD 0 (portNo .debug) = true ∧
    (leaseAt (2 ^ 40)).b.leaseFrom (portNo .debug) + (leaseAt (2 ^ 40)).b.leaseTicks ≤ 2 ^ 40 ∧ ((run 5 id).b.proc 85).st = 0 ∧
    (∀ pt : Fin 3, ((run 5 id).b.port pt).flight = none) ∧ passes 0xA0 railCmd (run 5 outOf83) = true ∧
    ((railCmd.fset 0).filter (fun f => (run 5 outOf83).b.isOut f)).isEmpty = false ∧
    passes 0xA0 railCmd (run 5 (fun b => b.wr F_ID.MARKED_OUT 83 0)) = true ∧
    (railCmd.fset 0).filter (fun f => (run 5 (fun b => b.wr F_ID.MARKED_OUT 83 0)).b.isOut f) = [] ∧ (run 5 id).b.hub.staged.length < 15 ∧
    passes 0xA1 railCmd (run 5 (railsAt 2 2000)) = true ∧ ((railCmd.fset 0).any (fun f => (run 5 (railsAt 2 2000)).b.holdsTickets f)) = false ∧
    ((railCmd.fset 0).filter (fun f => (run 5 (railsAt 2 2000)).b.pairUp f)).isEmpty = false ∧
    passes 0xA1 railCmd (run 5 id) = true ∧ ((railCmd.fset 0).any (fun f => (run 5 id).b.holdsTickets f)) = false ∧
    (railCmd.fset 0).filter (fun f => (run 5 id).b.pairUp f) = [] := by decide +kernel

theorem wit_RailDisableWithTickets :
    passes 0xA1 railCmd (run 5 dense) = true ∧ ((railCmd.fset 0).any (fun f => (run 5 dense).b.holdsTickets f)) = true ∧
    (run 5 dense).b.hub.staged.length < 16 := by decide +kernel

/-! ### Steps and figures against the examples of the specification -/

/-- The state after a step. -/
def next (i : Instr) (s : State) : State := match exec i s with
  | .next t => t
  | _ => State.reset

/-- Example after R41: a commit that leaves for field 62 at offset 1,800 of tick 5,000 arrives in tick 5,001 and takes effect at 5,002. -/
theorem test_commit_example : arrivalTick 5000 1800 0x43 62 = 5001 ∧ atDue 5001 0 = some 5002 ∧ arrivalTick 5000 1700 0x43 62 = 5000 ∧
    atDue 5000 0 = some 5001 := by decide +kernel

/-- Example after R45: D = +3,417,600,512 sc takes a step of the owner's tick 900,000 to the member's tick 2,568,751. -/
theorem test_step_example :
    (next (.step 5 0 3 7 22 false 0 ⟨900000, 0⟩ 0)
      (grouped 2 (fun b => b.wr2 (HUB_TIE.D_LO 5) (HUB_TIE.D_HI 5) 0 3417600512))).b.hub.steps.map (fun x => x.due) = [2568751] := by
  decide +kernel

/-- Table 3.6: constants and features of counters 0, 4 and 6, and the temperature and leakage features. -/
theorem test_features_example :
    kC 2253 3 = 238292 ∧ kC 2253 4 = 119146 ∧ kC 2253 6 = 59573 ∧ kM 2253 = 15250661 ∧ qf (actC 27000) (kC 2253 0) = 96 ∧
    actM 0 1712 = 107 ∧ qf (actM 0 1712) (kM 2253) = 97 ∧ qf (actC 40000) (kC 2253 4) = 71 ∧ actM 4 2600 = 81 ∧
    qf (actC 96000) (kC 2253 6) = 85 ∧ qf (actM 6 6200) (kM 2253) = 87 ∧ tempFeature 628 = 37 ∧ tempFeature 616 = 34 ∧
    leakIndex 628 = 41 ∧ defaultLeak.getD 41 0 = 26 := by decide +kernel

/-- The same example: the network's shifts, rho and the reported power. -/
theorem test_reported_example : rshift 21921 2 = 5480 ∧ rshift 8132 2 = 2033 ∧ rhoOf true 4310000 4289600 = 16306 ∧
    reportedOf true true 4310000 4289600 7746 16306 640 = 7709 := by decide +kernel

/-- Example after R78: from 1 toward 64 the first mark gives 5 and the eighth 33. -/
theorem test_ramp_example : (rampSum 64 4 1).2 = 33 ∧
    ((next (.rampMark 0) (agentAt 5 (fun a => { a with qTarget := 64, qRamp := 1, released := true, halted := false }))).b.agent
      (pid 83 671)).qRamp = 5 := by decide +kernel

/-- Example after R82, in 1/64 A: 16 × 480 − 15 × 500 = 180 A. -/
theorem test_allowance_example : (allowances 0 (64 * 480) 0 false (List.replicate 15 (64 * 500))).2.1 = 64 * 180 := by decide +kernel

/-- A parcel of Table 4.5. -/
def loadOf (k : Nat) : Load :=
  { slot := k, base := 640, dyn := 8960, capPl := 64, cap := 64, crit := decide (k < 200), weight := 8, held := true, scaled := 0 }

/-- Table 4.5: the uniform level is 49; the non-critical one 42. -/
theorem test_level_example : level false ((List.range 640).map loadOf) (64 * (4800000 - 640 * 640)) = 49 ∧
    level false ((List.range 440).map (fun k => loadOf (k + 200))) (64 * (4390400 - 1792000)) = 42 := by decide +kernel

/-- Table 6.9: a request of 5,600 credit units on 16 parcels is charged 64 each and granted slot 37. -/
theorem test_grant_example :
    let s := run 6400 (fun b => (((b.wr F_ID.MARKED_OUT 17 0).modCtx 5 (fun x => { x with st := 1 })).modFu 17
      (fun u => { u with fresh := 37 })).each ((List.range 16).map (· + 320)) (fun b p => b.modAgent (pid 17 p) (fun a => { a with pool := 100 })))
    let m : TkRequest := { task := 0x05001A2C, field := 17, first := 320, countM1 := 15, cls := 1, crit := false, prio := 2, prior := 5600 }
    let t := next (.ticketRequest 17 (.request m) 700 600) s
    (t.b.slot (tid 17 37)).st = 2 ∧ (t.b.slot (tid 17 37)).charge = 64 ∧ (t.b.agent (pid 17 335)).pool = 36 ∧
      (t.b.agent (pid 17 336)).pool = 0 := by decide +kernel

/-- Tables 6.9 and 10.3: ACTUAL, and what its frame adds to account 5. -/
theorem test_billing_example : actualOf 2472960 = 4946 ∧
    (let s := run 6495 (fun b => (b.modAcct 5 (fun a => { a with st := 1, energyMj := 12, energyFrac := 15000 })).modFu 17 (fun u => { u with
      drainKept := [{ frame with ctx := 5, cells := { Coll.reset with energy := 4946, busy := 320, retired := 1 } }], drainApplied := 3 }))
    let a := (next (.drainFrame 17) s).b.acct 5
    a.energyMj = 13 ∧ a.energyFrac = 4321 ∧ a.busyPt = 320 ∧ a.retired = 1) := by decide +kernel

/-- Table 7.4: two throttle steps leave 13,248 of a local limit of 14,400. -/
theorem test_throttle_example : (run 5 (fun b => b.modParcel (pid 23 412) (fun p => { p with red := 4 }))).b.parcelLimit 23 412 = 13248 := by
  decide +kernel

/-- Example after R177, references in 0.125 mV: 833 and 888 steps of 0.125 ns. -/
theorem test_on_time_example :
    let b := (run 5 (fun b => ((b.modFu 17 (fun u => { u with vin := 12000, vinValid := true })).modRail (railOf 17 0) (fun r => { r with refv := 6000 })).modRail
      (railOf 17 1) (fun r => { r with refv := 6400 }))).b
    b.onTime 17 0 0 = 833 ∧ b.onTime 17 1 16 = 888 := by decide +kernel

/-- Example after R223: GRADE_IDLE 768, GRADE_DYN 9,680, 22.0 kW and 500 W give q_plumb 37 and PLUMB_REFILL 13. -/
theorem test_plumb_example :
    let b := Block.reset
    let b := (b.wr (HUB_CONTOUR.GRADE_IDLE b.point) 0 768).wr (HUB_CONTOUR.GRADE_DYN b.point) 0 9680
    let b := ((b.wr HUB_CONTOUR.PLUMB_POWER 0 2200).wr HUB_CAP.WAFER_OVH 0 50).wr HUB_CAP.PCAP_MS 0 4000
    let b := (b.wr HUB_CAP.PCAP_S 0 4000).modHub (fun h => { h with plumbDue := some 5 })
    let t := next .plumbEntry (run 5 (fun _ => b))
    t.b.rd HUB_CONTOUR.PLUMB_Q 0 = 37 ∧ t.b.rd HUB_CONTOUR.PLUMB_REFILL 0 = 13 := by decide +kernel

/-- Table 12.4: the restart of field processor 23 from tick 1,000,000 to tick 1,000,610 took 1,250 µs. -/
theorem test_restart_example :
    let t := next (.processorTrap 23 false 812) (run 1000000 id)
    let u := { t with tick := 1000610, b := t.b.modProc 23 (fun q => { q with loaded := true }) }
    (t.b.proc 23).hold = 4096 ∧ ((next (.processorRun 23 1900) u).b.proc 23).lastUs = 1250 := by decide +kernel

/-- Table 15.3: at Vmin code 20 and VSRAM_CODE 40, WIDE mode has targets 32 and 40; Table 16.10: a lease of 1,000 ms lasts 488,281 ticks. -/
theorem test_targets_example :
    (run 5 (fun b => ((b.wr (HUB_CONTOUR.VMIN_FUSED b.point) 0 20).wr (HUB_CONTOUR.VSRAM_CODE b.point) 0 40).modFu 17
      (fun u => { u with wide := true }))).b.targetCodes 5 17 = (32, 40) ∧ State.reset.b.leaseTicks = 488281 := by decide +kernel

/-- Examples of Register pages: F_LIMIT of field 62 takes STL_CORE 1,920 and FCL_CORE 2,200; the cadastre entry of parcel 11,724. -/
theorem test_pages_example :
    (let t := next (.registerWrite .fabric 0x004E3040 0x0F 0x07800898 0) (run 5 id)
    t.b.shadowGet 62 F_LIMIT.STL_CORE = 1920 ∧ t.b.shadowGet 62 F_LIMIT.FCL_CORE = 2200 ∧
      t.b.rd F_LIMIT.FCL_CORE 62 = (run 5 id).b.rd F_LIMIT.FCL_CORE 62) ∧
    target 0x008B7300 = .sram 17 0x64B00 ∧ target 0x048E4B00 = .sram 17 0x64B00 ∧ target 0x020884A0 = .sram 17 0x504A0 ∧
    (run 5 id).b.neighbours 17 300 = [299, 301, 272, 328] := by decide +kernel

/-- The block has no instruction words. -/
theorem test_no_words : decodeTableWord 16 0 = none ∧ State.reset.withFetchWord 16 0 = State.reset := ⟨rfl, rfl⟩

/-- The end of Table 13.4: the episode's bits are older than their windows when the recovery completes, so the collector is NORMAL. -/
theorem test_recovery_example :
    let s := run 688281 (fun b => ((((b.wr HUB_FAULT.STATE 0 3).setFlag HUB_FAULT.FAULT_STATUS 0 0 true).setFlag HUB_FAULT.SEVERE_SRC 0 0 true).setFaultN
      true).modHub (fun h => { h with quietFrom := 200000, latest := [(0, 1)] }))
    let t := next .recoveryComplete s
    t.b.collector = 0 ∧ t.b.pins.faultN = false ∧ t.b.rd HUB_FAULT.RECOVERY_COUNT 0 = 1 := by decide +kernel

end Sys2Proof.Tests
end

