-- ==== Sys2Proof/Proofs/IssueGate.lean ====
section
/-! SUPPORT. The issue gate (R75): what a cycle does, what a run of cycles conserves, and that 64 cycles at rate `q` open it `q` times. -/

namespace Sys2Proof.Machine

variable {q acc : Nat}

theorem gateCycle_of_le (h : 64 ≤ acc + q) : gateCycle q acc = (acc + q - 64, true) := if_pos h

theorem gateCycle_of_lt (h : acc + q < 64) : gateCycle q acc = (acc + q, false) := if_neg (Nat.not_le.mpr h)

/-- A cycle adds the rate, and an open gate takes 64 away. -/
theorem gateCycle_conserves (q acc : Nat) : (gateCycle q acc).1 + 64 * (gateCycle q acc).2.toNat = acc + q := by
  obtain h | h := Nat.lt_or_ge (acc + q) 64
  · simp [gateCycle_of_lt h]
  · simp [gateCycle_of_le h, Nat.sub_add_cancel h]

theorem gateCycle_acc_lt (hq : q ≤ 64) (ha : acc < 64) : (gateCycle q acc).1 < 64 := by
  obtain h | h := Nat.lt_or_ge (acc + q) 64
  · simpa [gateCycle_of_lt h] using h
  · rw [gateCycle_of_le h]
    omega

theorem gateRun_succ_acc (q n acc : Nat) : (gateRun q (n + 1) acc).1 = (gateRun q n (gateCycle q acc).1).1 := rfl

theorem gateRun_succ_opens (q n acc : Nat) :
    (gateRun q (n + 1) acc).2 = (gateRun q n (gateCycle q acc).1).2 + (gateCycle q acc).2.toNat := rfl

/-- `n` cycles add `n` times the rate, and each open one takes 64 away. -/
theorem gateRun_conserves (q n acc : Nat) : (gateRun q n acc).1 + 64 * (gateRun q n acc).2 = acc + n * q := by
  induction n generalizing acc with
  | zero => simp [gateRun]
  | succ n ih =>
    have hrest := ih (gateCycle q acc).1
    have hcycle := gateCycle_conserves q acc
    rw [gateRun_succ_acc, gateRun_succ_opens, Nat.succ_mul n q]
    omega

theorem gateRun_acc_lt (hq : q ≤ 64) (n : Nat) (ha : acc < 64) : (gateRun q n acc).1 < 64 := by
  induction n generalizing acc with
  | zero => exact ha
  | succ n ih => exact ih (gateCycle_acc_lt hq ha)

/-- The accumulator after 64 cycles is below 64 and congruent to its start modulo 64: it is the start, and all that was added was
taken away by open cycles. -/
theorem gateRun_64 (hq : q ≤ 64) (ha : acc < 64) : gateRun q 64 acc = (acc, q) := by
  have hsum := gateRun_conserves q 64 acc
  have hlt := gateRun_acc_lt hq 64 ha
  apply Prod.ext <;> dsimp only <;> omega

theorem Agent.reset_acc_getD {k : Nat} (hk : k < 16) : Agent.reset.acc.getD k 0 = 4 * k := by
  simp [Agent.reset, hk]

/-- Settles O19: what is added to an accumulator leaves it 64 at a time, one open cycle each, and it never reaches 64. -/
theorem gateOpensExactlyQ : Obligations.GateOpensExactlyQ :=
  ⟨fun _ _ => ⟨gateCycle_of_le, gateCycle_of_lt⟩, fun _ _ hq ha => gateRun_64 hq ha, fun _ hk => Agent.reset_acc_getD hk⟩

end Sys2Proof.Machine
end

