-- ==== Sys2Proof/Proofs/CommandAnswer.lean ====
section
/-!
SUPPORT. A command that passes every check: the block in which it is carried out (R375), what its final status writes (R377) and
what both leave alone.
-/

namespace Sys2Proof.Machine

open Sys2Proof

/-! ### The pages of the registers -/

/-- The parts of the field's key keep within their places. -/
abbrev Fld.Fits (x : Fld) : Prop := x.page < 256 ∧ x.off < 4096 ∧ x.lo < 32

/-- A register field in the command page of port `p`. -/
abbrev Fld.OnPort (p : CmdPort) (x : Fld) : Prop := x.page = 0x13 + portNo p ∧ x.Fits

/-- A field of the response: of the port's page, before the word of PORT_STATE (Table 16.12). -/
abbrev Fld.OfResponse (p : CmdPort) (x : Fld) : Prop := x.OnPort p ∧ x.off < 0xAC

theorem Fld.page_of_key {x : Fld} (hx : x.Fits) (i : Nat) : x.key i / 2 ^ 17 % 256 = x.page := by
  obtain ⟨hpage, hoff, hlo⟩ := hx
  unfold Fld.key
  omega

theorem Block.rd_wr_otherPage (b : Block) {x y : Fld} {i j : Nat} (v : Nat) (hx : x.Fits) (hy : y.key j / 2 ^ 17 % 256 ≠ x.page) :
    (b.wr x i v).rd y j = b.rd y j :=
  b.rd_wr_other v fun hkey => hy (by rw [hkey, Fld.page_of_key hx])

theorem Block.rd_wr_otherOff (b : Block) {x y : Fld} {i j : Nat} (v : Nat) (hx : x.Fits) (hy : y.Fits)
    (h : y.page ≠ x.page ∨ y.off ≠ x.off) : (b.wr x i v).rd y j = b.rd y j :=
  b.rd_wr_other v (Fld.key_ne hy hx (.inr (h.imp_right .inl)))

section Fields

variable (p : CmdPort)

theorem rspSeq_ofResponse : (HUB_CMD.RSP_SEQ (portNo p)).OfResponse p := by cases p <;> decide
theorem rspOpcode_ofResponse : (HUB_CMD.RSP_OPCODE (portNo p)).OfResponse p := by cases p <;> decide
theorem rspStatus_ofResponse : (HUB_CMD.RSP_STATUS (portNo p)).OfResponse p := by cases p <;> decide
theorem rspDetail_ofResponse : (HUB_CMD.RSP_DETAIL (portNo p)).OfResponse p := by cases p <;> decide
theorem held_onPort : (HUB_CMD.HELD (portNo p)).OnPort p := by cases p <;> decide
theorem portState_onPort : (HUB_CMD.PORT_STATE (portNo p)).OnPort p := by cases p <;> decide
theorem submits_onPort : (HUB_CMD.SUBMITS (portNo p)).OnPort p := by cases p <;> decide
theorem submitTick_onPort : (HUB_CMD.SUBMIT_TICK (portNo p)).OnPort p := by cases p <;> decide
theorem finalTick_onPort : (HUB_CMD.FINAL_TICK (portNo p)).OnPort p := by cases p <;> decide

theorem rspData_onPort {k : Nat} (hk : k < 8) : (HUB_CMD.RSP_DATA (portNo p) k).OnPort p := by
  have hp : portNo p < 3 := by cases p <;> decide
  refine ⟨rfl, ?_⟩
  simp only [Fld.Fits, HUB_CMD.RSP_DATA]
  omega

end Fields

/-! ### What an answer leaves alone -/

/-- From `a` to `b` nothing has changed but registers in the page of port `p` and in HUB_STATE, the port itself, the accounts, the
journal entries that wait and the pending interrupts: `OnlyAnswer` without its count of journal entries, for any part of a command. -/
structure Block.AnswerFrame (p : CmdPort) (a b : Block) : Prop where
  block : b = { a with regs := b.regs, ports := b.ports, accounts := b.accounts, hub := b.hub }
  hub : b.hub = { a.hub with staged := b.hub.staged, ibiPending := b.hub.ibiPending }
  regs : ∀ (x : Fld) (i : Nat), x.key i / 2 ^ 17 % 256 ≠ 0x13 + portNo p → x.key i / 2 ^ 17 % 256 ≠ 0x12 → b.rd x i = a.rd x i
  ports : ∀ pt, pt ≠ portNo p → b.port pt = a.port pt

namespace Block.AnswerFrame

variable {p : CmdPort} {a b d : Block}

theorem refl (p : CmdPort) (b : Block) : AnswerFrame p b b := ⟨rfl, rfl, fun _ _ _ _ => rfl, fun _ _ => rfl⟩

theorem trans (hab : AnswerFrame p a b) (hbd : AnswerFrame p b d) : AnswerFrame p a d where
  block := hbd.block.trans (by rw [hab.block])
  hub := hbd.hub.trans (by rw [hab.hub])
  regs x i hport hstate := (hbd.regs x i hport hstate).trans (hab.regs x i hport hstate)
  ports pt hpt := (hbd.ports pt hpt).trans (hab.ports pt hpt)

theorem wr_onPort (h : AnswerFrame p a b) {x : Fld} (hx : x.OnPort p) (v : Nat) : AnswerFrame p a (b.wr x 0 v) :=
  h.trans ⟨rfl, rfl, fun _ _ hport _ => b.rd_wr_otherPage v hx.2 (by rwa [hx.1]), fun _ _ => rfl⟩

theorem setFlag_cmp (h : AnswerFrame p a b) (k : Nat) (v : Bool) : AnswerFrame p a (b.setFlag HUB_STATE.CMP 0 k v) :=
  h.trans ⟨rfl, rfl, fun _ _ _ hstate => b.rd_wr_otherPage _ (by decide) hstate, fun _ _ => rfl⟩

theorem setPort (h : AnswerFrame p a b) (v : PortSt) : AnswerFrame p a (b.setPort (portNo p) v) :=
  h.trans ⟨rfl, rfl, fun _ _ _ _ => rfl, fun _ hpt => b.port_setPort_other v hpt⟩

theorem changeAcct (h : AnswerFrame p a b) (n : Nat) (g : Account → Account) : AnswerFrame p a (b.changeAcct n g) :=
  h.trans ⟨rfl, rfl, fun _ _ _ _ => rfl, fun _ _ => rfl⟩

theorem each {α : Type} {g : Block → α → Block} {l : List α} (hg : ∀ x ∈ l, ∀ b, AnswerFrame p a b → AnswerFrame p a (g b x))
    (h : AnswerFrame p a b) : AnswerFrame p a (b.each l g) := by
  induction l generalizing b with
  | nil => exact h
  | cons x l ih => exact ih (fun y hy => hg y (List.mem_cons_of_mem _ hy)) (hg x (List.mem_cons_self ..) b h)

end Block.AnswerFrame

/-! ### Taking a command (R375, R378) -/

section Begun

variable (b : Block) (now op : Nat) (c : Cmd)

@[simp] theorem Block.begun_hub : (b.begun now op c).hub = b.hub := rfl
@[simp] theorem Block.begun_accounts : (b.begun now op c).accounts = b.accounts := rfl

@[simp] theorem Block.begun_flight :
    ((b.begun now op c).port (portNo c.port)).flight = some { flightOf now op c with begun := true } := by
  have hport : ((b.submit now (portNo c.port) (flightOf now op c)).wrB (HUB_CMD.HELD (portNo c.port)) 0 false).port
      (portNo c.port) = { flight := some (flightOf now op c) } := by
    show (b.setPort (portNo c.port) { flight := some (flightOf now op c) }).port (portNo c.port) = _
    exact b.port_setPort_same ..
  rw [begun, port_modPort_same, hport]
  rfl

theorem Block.begun_frame : AnswerFrame c.port b (b.begun now op c) :=
  (((((AnswerFrame.refl c.port b).setPort _).wr_onPort (portState_onPort _) _).wr_onPort (submits_onPort _) _).wr_onPort
    (submitTick_onPort _) _).wr_onPort (held_onPort _) _ |>.setPort _

/-- Taking a command writes registers of its port's page alone. -/
theorem Block.begun_rd {x : Fld} {i : Nat} (h : x.key i / 2 ^ 17 % 256 ≠ 0x13 + portNo c.port) :
    (b.begun now op c).rd x i = b.rd x i := by
  have hport (b : Block) (k : Nat) (v : PortSt) : (b.setPort k v).rd x i = b.rd x i := rfl
  have hwr (b : Block) {y : Fld} (hy : y.OnPort c.port) (v : Nat) : (b.wr y 0 v).rd x i = b.rd x i :=
    b.rd_wr_otherPage v hy.2 (by rwa [hy.1])
  simp only [begun, submit, inc, add, wrB, modPort, hport, hwr _ (held_onPort _), hwr _ (submitTick_onPort _),
    hwr _ (submits_onPort _), hwr _ (portState_onPort _)]

theorem Block.begun_mgr : (b.begun now op c).mgr = b.mgr := by
  refine begun_rd b now op c ?_
  have hpage : HUB_STATE.MGR_STATE.key 0 / 2 ^ 17 % 256 = 0x12 := by decide
  omega

variable {b now op c} {s : State}

theorem Passes.check_begun (h : Passes op c s) (now : Nat) : (s.b.begun now op c).check op c none = none := by
  have hres : (s.b.begun now op c).reserved (portNo c.port) = false := by simp [Block.reserved, flightOf]
  simp only [Block.check, Block.begun_mgr, Block.begun_hub, h.legal, hres, h.words, h.buf]
  cases hk : fsetAt op with
  | none => rfl
  | some k => simp [h.fields k hk]

/-- A command that passes every check is carried out in the block `begun`. -/
theorem Passes.runCmd_eq (h : Passes op c s) (body : Nat → State → State) :
    runCmd op c s none body = body (portNo c.port) { s with b := s.b.begun s.tick op c } := by
  have howners : (s.b.submit s.tick (portNo c.port) (flightOf s.tick op c)).downOwner op c = none := h.owners
  have hcheck := h.check_begun s.tick
  rw [Block.begun] at hcheck
  simp only [runCmd, h.idle, howners, hcheck]
  rfl

theorem Passes.runCmdB_eq (h : Passes op c s) (body : Nat → Nat → Block → Block) :
    runCmdB op c s none body = { s with b := body s.tick (portNo c.port) (s.b.begun s.tick op c) } := h.runCmd_eq _

end Begun

/-! ### The final status (R377, R389) -/

/-- The response registers of a status. -/
def Block.writeResponse (b : Block) (pt : Nat) (fl : Flight) (status detail : Nat) (data : List Nat) : Block :=
  ((((b.wr (HUB_CMD.RSP_DETAIL pt) 0 detail).each (List.range 8) (fun b k => b.wr (HUB_CMD.RSP_DATA pt k) 0 (data.getD k 0))).wr
    (HUB_CMD.RSP_SEQ pt) 0 fl.seqNo).wr (HUB_CMD.RSP_OPCODE pt) 0 fl.op).wr (HUB_CMD.RSP_STATUS pt) 0 status

/-- The journal entry of a status, and the interrupt toward the BMC where its port is the BMC's. -/
def Block.reportStatus (b : Block) (now pt : Nat) (fl : Flight) (status detail : Nat) : Block :=
  (b.cond (journaled fl.op status)
    (fun b => b.modHub (fun h => { h with staged := h.staged ++ [journalOf now pt fl status detail] }))).cond (pt == 1) (fun b => b.ibi 1)

/-- The port is free again. -/
def Block.freePort (b : Block) (now pt : Nat) : Block :=
  (((b.wr (HUB_CMD.PORT_STATE pt) 0 0).wrB (HUB_CMD.HELD pt) 0 false).wr (HUB_CMD.FINAL_TICK pt) 0 now).setPort pt { flight := none }

section Status

variable {b : Block} {now op pt status detail : Nat} {fl : Flight} {data : List Nat}

theorem Block.status_of_final (h : status ≠ stAccepted) :
    b.status now pt fl status detail data =
      (((b.writeResponse pt fl status detail data).setFlag HUB_STATE.CMP 0 pt true).reportStatus now pt fl status
        detail).freePort now pt := by
  rw [Block.status, if_neg h]
  rfl

/-- A status is written at once while the journal has room and the command owes none. -/
theorem Block.answer_of_room (hfl : (b.port pt).flight = some fl) (hroom : b.hub.staged.length < 16) (howed : fl.owed = []) :
    b.answer now pt status detail data = b.status now pt fl status detail data := by
  simp [Block.answer, hfl, howed, Nat.not_le.mpr hroom]

theorem Block.ibi_cases (b : Block) (k : Nat) :
    b.ibi k = b ∨ b.ibi k = b.modHub (fun h => { h with ibiPending := h.ibiPending ||| 2 ^ k }) := by
  unfold Block.ibi
  split
  · exact .inr rfl
  · exact .inl rfl

/-- An interrupt toward the BMC shows in the hub's pending causes alone. -/
theorem Block.cond_ibi_eq (b : Block) (v : Bool) (k : Nat) :
    ∃ n, b.cond v (fun b => b.ibi k) = b.modHub (fun h => { h with ibiPending := n }) := by
  cases v with
  | false => exact ⟨b.hub.ibiPending, rfl⟩
  | true =>
    obtain h | h := b.ibi_cases k
    · exact ⟨b.hub.ibiPending, h⟩
    · exact ⟨_, h⟩

/-- What a status stages for the journal. -/
def stagedBy (now pt : Nat) (fl : Flight) (status detail : Nat) : List JEntry :=
  if journaled fl.op status then [journalOf now pt fl status detail] else []

theorem Block.reportStatus_eq (b : Block) (now pt : Nat) (fl : Flight) (status detail : Nat) :
    ∃ n, b.reportStatus now pt fl status detail =
      b.modHub (fun h => { h with staged := h.staged ++ stagedBy now pt fl status detail, ibiPending := n }) := by
  have hstaged : b.cond (journaled fl.op status)
      (fun b => b.modHub (fun h => { h with staged := h.staged ++ [journalOf now pt fl status detail] })) =
        b.modHub (fun h => { h with staged := h.staged ++ stagedBy now pt fl status detail }) := by
    cases hj : journaled fl.op status <;> simp [stagedBy, hj, Block.modHub]
  obtain ⟨n, hn⟩ := Block.cond_ibi_eq
    (b.modHub (fun h => { h with staged := h.staged ++ stagedBy now pt fl status detail })) (pt == 1) 1
  exact ⟨n, by rw [Block.reportStatus, hstaged, hn]; rfl⟩

@[simp] theorem Block.reportStatus_staged (b : Block) :
    (b.reportStatus now pt fl status detail).hub.staged = b.hub.staged ++ stagedBy now pt fl status detail := by
  obtain ⟨n, hn⟩ := b.reportStatus_eq now pt fl status detail
  rw [hn, Block.modHub_same]

@[simp] theorem Block.reportStatus_accounts (b : Block) : (b.reportStatus now pt fl status detail).accounts = b.accounts := by
  obtain ⟨n, hn⟩ := b.reportStatus_eq now pt fl status detail
  rw [hn, Block.modHub_accounts]

@[simp] theorem Block.reportStatus_rd (b : Block) (x : Fld) (i : Nat) :
    (b.reportStatus now pt fl status detail).rd x i = b.rd x i := by
  obtain ⟨n, hn⟩ := b.reportStatus_eq now pt fl status detail
  rw [hn, Block.modHub_rd]

/-- What no register write changes, the response leaves alone. -/
theorem Block.writeResponse_keeps {β : Type} (part : Block → β) (hpart : ∀ b x i v, part (Block.wr b x i v) = part b) :
    part (b.writeResponse pt fl status detail data) = part b := by
  have hdata := Block.each_keeps part (fun b k => b.wr (HUB_CMD.RSP_DATA pt k) 0 (data.getD k 0)) (fun _ _ => hpart ..)
  rw [Block.writeResponse, hpart, hpart, hpart, hdata, hpart]

@[simp] theorem Block.writeResponse_hub : (b.writeResponse pt fl status detail data).hub = b.hub :=
  Block.writeResponse_keeps Block.hub fun _ _ _ _ => rfl

@[simp] theorem Block.writeResponse_accounts : (b.writeResponse pt fl status detail data).accounts = b.accounts :=
  Block.writeResponse_keeps Block.accounts fun _ _ _ _ => rfl

@[simp] theorem Block.freePort_hub : (b.freePort now pt).hub = b.hub := rfl
@[simp] theorem Block.freePort_accounts : (b.freePort now pt).accounts = b.accounts := rfl

/-- A final status stages its journal entry. -/
theorem Block.status_staged (h : status ≠ stAccepted) :
    (b.status now pt fl status detail data).hub.staged = b.hub.staged ++ stagedBy now pt fl status detail := by
  rw [Block.status_of_final h, Block.freePort_hub, Block.reportStatus_staged, Block.setFlag, Block.wr_hub, Block.writeResponse_hub]

theorem Block.status_accounts (h : status ≠ stAccepted) : (b.status now pt fl status detail data).accounts = b.accounts := by
  rw [Block.status_of_final h, Block.freePort_accounts, Block.reportStatus_accounts, Block.setFlag, Block.wr_accounts,
    Block.writeResponse_accounts]

theorem Block.status_flight (h : status ≠ stAccepted) : ((b.status now pt fl status detail data).port pt).flight = none := by
  rw [Block.status_of_final h, Block.freePort, Block.port_setPort_same]

end Status

section PortStatus

variable (p : CmdPort) (b : Block) (now status detail : Nat) (fl : Flight) (data : List Nat)

theorem Block.writeResponse_frame : AnswerFrame p b (b.writeResponse (portNo p) fl status detail data) :=
  ((((AnswerFrame.refl p b).wr_onPort (rspDetail_ofResponse p).1 _).each
    (fun _ hk _ hb => hb.wr_onPort (rspData_onPort p (List.mem_range.mp hk)) _)).wr_onPort (rspSeq_ofResponse p).1 _).wr_onPort
    (rspOpcode_ofResponse p).1 _ |>.wr_onPort (rspStatus_ofResponse p).1 _

theorem Block.freePort_frame : AnswerFrame p b (b.freePort now (portNo p)) :=
  (((AnswerFrame.refl p b).wr_onPort (portState_onPort p) _).wr_onPort (held_onPort p) _).wr_onPort (finalTick_onPort p) _
    |>.setPort _

theorem Block.reportStatus_frame : AnswerFrame p b (b.reportStatus now (portNo p) fl status detail) := by
  obtain ⟨n, hn⟩ := b.reportStatus_eq now (portNo p) fl status detail
  rw [hn]
  exact ⟨rfl, rfl, fun _ _ _ _ => rfl, fun _ _ => rfl⟩

variable {status} (h : status ≠ stAccepted)

include h

theorem Block.status_frame : AnswerFrame p b (b.status now (portNo p) fl status detail data) := by
  rw [Block.status_of_final h]
  exact (((b.writeResponse_frame p status detail fl data).setFlag_cmp _ _).trans
    (reportStatus_frame p _ now status detail fl)).trans (freePort_frame p _ now)

/-- What follows the response leaves its registers as written. -/
theorem Block.status_rd_response {x : Fld} (hx : x.OfResponse p) :
    (b.status now (portNo p) fl status detail data).rd x 0 = (b.writeResponse (portNo p) fl status detail data).rd x 0 := by
  obtain ⟨⟨hpage, hfits⟩, hoff⟩ := hx
  have hwr (b : Block) {y : Fld} (hy : y.OnPort p) (hyoff : 0xAC ≤ y.off) (v : Nat) : (b.wr y 0 v).rd x 0 = b.rd x 0 :=
    b.rd_wr_otherOff v hy.2 hfits (.inr (by omega))
  have hcmp (b : Block) (k : Nat) : (b.setFlag HUB_STATE.CMP 0 k true).rd x 0 = b.rd x 0 :=
    b.rd_wr_otherOff _ (by decide) hfits (.inl (by rw [hpage, HUB_STATE.CMP]; dsimp only; omega))
  have hport (b : Block) (v : PortSt) : (b.setPort (portNo p) v).rd x 0 = b.rd x 0 := rfl
  rw [Block.status_of_final h, Block.freePort, hport, hwr _ (finalTick_onPort p) (show 0xAC ≤ 0xBC by decide), Block.wrB,
    hwr _ (held_onPort p) (Nat.le_refl _), hwr _ (portState_onPort p) (Nat.le_refl _), Block.reportStatus_rd, hcmp]

theorem Block.status_rd_rspStatus :
    (b.status now (portNo p) fl status detail data).rd (HUB_CMD.RSP_STATUS (portNo p)) 0 = status % 2 ^ 8 := by
  rw [b.status_rd_response p now detail fl data h (rspStatus_ofResponse p)]
  exact Block.rd_wr_same ..

theorem Block.status_rd_rspOpcode :
    (b.status now (portNo p) fl status detail data).rd (HUB_CMD.RSP_OPCODE (portNo p)) 0 = fl.op % 2 ^ 8 := by
  rw [b.status_rd_response p now detail fl data h (rspOpcode_ofResponse p), Block.writeResponse,
    Block.rd_wr_other _ _ (by cases p <;> decide)]
  exact Block.rd_wr_same ..

theorem Block.status_rd_rspSeq :
    (b.status now (portNo p) fl status detail data).rd (HUB_CMD.RSP_SEQ (portNo p)) 0 = fl.seqNo % 2 ^ 16 := by
  rw [b.status_rd_response p now detail fl data h (rspSeq_ofResponse p), Block.writeResponse,
    Block.rd_wr_other _ _ (by cases p <;> decide), Block.rd_wr_other _ _ (by cases p <;> decide)]
  exact Block.rd_wr_same ..

end PortStatus

section Final

/-- Command `c`, taken in state `s`, has come to block `b`, has changed no more than an answer may, and can be answered at once: the
journal has room. -/
structure Block.ReadyToAnswer (op : Nat) (c : Cmd) (s : State) (b : Block) : Prop where
  frame : AnswerFrame c.port s.b b
  hub : b.hub = s.b.hub
  flight : (b.port (portNo c.port)).flight = some { flightOf s.tick op c with begun := true }
  room : s.b.hub.staged.length < 16

namespace Block.ReadyToAnswer

variable {b : Block} {s : State} {c : Cmd} {op status : Nat} (hb : b.ReadyToAnswer op c s) (detail : Nat) (data : List Nat)

include hb

theorem answer_eq_status : b.answer s.tick (portNo c.port) status detail data =
    b.status s.tick (portNo c.port) { flightOf s.tick op c with begun := true } status detail data :=
  answer_of_room hb.flight (hb.hub ▸ hb.room) rfl

variable (hfinal : status ≠ stAccepted)

include hfinal

theorem answer_accounts : (b.answer s.tick (portNo c.port) status detail data).accounts = b.accounts := by
  rw [hb.answer_eq_status, status_accounts hfinal]

theorem onlyAnswer (hjournal : journaled op status = true) :
    OnlyAnswer c s { s with b := b.answer s.tick (portNo c.port) status detail data } := by
  rw [hb.answer_eq_status]
  obtain ⟨hblock, hhub, hregs, hports⟩ := hb.frame.trans (b.status_frame c.port s.tick detail _ data hfinal)
  refine ⟨congrArg (fun b => { s with b := b }) hblock, hhub, ?_, hregs, hports⟩
  simp [status_staged hfinal, stagedBy, flightOf, hjournal, hb.hub]

theorem answered (hop : op < 256) (hstatus : status < 256) :
    Answered op status c { s with b := b.answer s.tick (portNo c.port) status detail data } := by
  rw [hb.answer_eq_status]
  refine ⟨status_flight hfinal, ?_, ?_, ?_⟩
  · rw [status_rd_rspStatus _ _ _ _ _ _ hfinal]
    exact Nat.mod_eq_of_lt hstatus
  · rw [status_rd_rspSeq _ _ _ _ _ _ hfinal]
    exact Nat.mod_eq_of_lt c.seq.isLt
  · rw [status_rd_rspOpcode _ _ _ _ _ _ hfinal]
    exact Nat.mod_eq_of_lt hop

end Block.ReadyToAnswer

end Final

end Sys2Proof.Machine
end

