-- ==== Sys2Proof/Proofs/RestartNote.lean ====
section
/-! SUPPORT. JOB_RESTART_NOTE (R235): what the accounts hold once it has linked the account of a restarted run to that of the run before. -/

namespace Sys2Proof.Machine

open Sys2Proof

theorem Block.acct_changeAcct_same (b : Block) (n : Nat) (g : Account → Account) :
    (b.changeAcct n g).acct n = { g (b.acct n) with updateSeq := lowBits 32 ((b.acct n).updateSeq + 1) } :=
  b.acct_modAcct_same ..

theorem Block.acct_changeAcct_other (b : Block) {n k : Nat} (g : Account → Account) (h : k ≠ n) :
    (b.changeAcct n g).acct k = b.acct k :=
  b.acct_modAcct_other _ h

theorem Block.changeAcct_port (b : Block) (n pt : Nat) (g : Account → Account) : (b.changeAcct n g).port pt = b.port pt := rfl

/-- An account depends on the accounts alone. -/
theorem Block.acct_congr {a b : Block} (h : b.accounts = a.accounts) (n : Nat) : b.acct n = a.acct n := by
  simp [Block.acct, h]

@[simp] theorem Block.begun_acct (b : Block) (now op : Nat) (c : Cmd) (n : Nat) : (b.begun now op c).acct n = b.acct n :=
  Block.acct_congr (b.begun_accounts now op c) n

/-- The block once account `n` names account `m` as that of the run before. -/
def Block.linkRun (b : Block) (n m : Nat) : Block :=
  b.changeAcct n fun a => { a with prevCtx := m, restarts := lowBits 16 ((b.acct m).restarts + 1) }

/-- The block in which the command has linked its two accounts and has still to answer. -/
def restartLinked (c : Cmd) (s : State) : Block := (s.b.begun s.tick 0x28 c).linkRun (c.arg 0 % 256) (c.arg 0 / 256)

section Linked

variable {c : Cmd} {s : State}

/-- The command links the account, which is OPEN, to the one that is final, and answers DONE. -/
theorem exec_jobRestartNote_of_final (hpass : Passes 0x28 c s) (hopen : (s.b.acct (c.arg 0 % 256)).st = 1)
    (hfinal : (s.b.acct (c.arg 0 / 256)).final = true) :
    exec (.jobRestartNote c) s = .next { s with b := (restartLinked c s).answer s.tick (portNo c.port) stDone 0 [] } := by
  have hchecks : ¬ (((s.b.begun s.tick 0x28 c).acct (c.arg 0 % 256)).st ≠ 1 ∨
      (!((s.b.begun s.tick 0x28 c).acct (c.arg 0 / 256)).final) = true) := by
    simp [hopen, hfinal]
  show execJobRestartNote c s = _
  rw [execJobRestartNote, hpass.runCmdB_eq]
  exact congrArg (fun b => Host.Outcome.next { s with b := b }) (if_neg hchecks)

theorem restartLinked_ready (hroom : s.b.hub.staged.length < 16) : (restartLinked c s).ReadyToAnswer 0x28 c s where
  frame := by
    rw [restartLinked, Block.linkRun]
    exact (s.b.begun_frame s.tick 0x28 c).changeAcct _ _
  hub := rfl
  flight := by rw [restartLinked, Block.linkRun, Block.changeAcct_port, Block.begun_flight]
  room := hroom

theorem restartLinked_acct_named : (restartLinked c s).acct (c.arg 0 % 256) = { s.b.acct (c.arg 0 % 256) with
    prevCtx := c.arg 0 / 256, restarts := ((s.b.acct (c.arg 0 / 256)).restarts + 1) % 2 ^ 16
    updateSeq := ((s.b.acct (c.arg 0 % 256)).updateSeq + 1) % 2 ^ 32 } := by
  rw [restartLinked, Block.linkRun, Block.acct_changeAcct_same]
  simp only [Block.begun_acct, lowBits]

theorem restartLinked_acct_other {n : Nat} (hn : n ≠ c.arg 0 % 256) : (restartLinked c s).acct n = s.b.acct n := by
  rw [restartLinked, Block.linkRun, Block.acct_changeAcct_other _ _ hn, Block.begun_acct]

end Linked

/-- Settles O40: the link changes one account, its final status changes none, and neither writes more than an answer may. -/
theorem restartNote : Obligations.RestartNote := by
  intro c s hpass hopen hfinal hroom
  have hready := restartLinked_ready (c := c) hroom
  have hacct (n : Nat) : ((restartLinked c s).answer s.tick (portNo c.port) stDone 0 []).acct n = (restartLinked c s).acct n :=
    Block.acct_congr (hready.answer_accounts 0 [] (by decide)) n
  have hnamed := (hacct _).trans restartLinked_acct_named
  refine ⟨_, exec_jobRestartNote_of_final hpass hopen hfinal, ?_, ?_, ?_, ?_, ?_, ?_⟩
  · exact hready.onlyAnswer 0 [] (by decide) rfl
  · exact hready.answered 0 [] (by decide) (by decide) (by decide)
  · rw [hnamed]
  · intro hlt
    rw [hnamed]
    exact Nat.mod_eq_of_lt (Nat.succ_lt_succ hlt)
  · rw [hnamed]
  · exact fun n hn => (hacct n).trans (restartLinked_acct_other hn)

end Sys2Proof.Machine
end

