-- ==== Sys2Proof/Proofs/RailDisable.lean ====
section
/-! SUPPORT. RAIL_DISABLE of a field that holds a ticket (R368): the command is refused in the block in which it was taken. -/

namespace Sys2Proof.Machine

open Sys2Proof

/-- The tickets that a field holds depend on the ticket slots alone. -/
theorem Block.holdsTickets_congr {a b : Block} (h : b.slots = a.slots) (f : Nat) : b.holdsTickets f = a.holdsTickets f := by
  simp only [Block.holdsTickets, Block.slotsOf, Block.slot, h]

@[simp] theorem Block.begun_holdsTickets (b : Block) (now op : Nat) (c : Cmd) (f : Nat) :
    (b.begun now op c).holdsTickets f = b.holdsTickets f :=
  Block.holdsTickets_congr rfl f

/-- A command that has only been taken can be answered. -/
theorem Block.begun_ready (op : Nat) (c : Cmd) {s : State} (hroom : s.b.hub.staged.length < 16) :
    (s.b.begun s.tick op c).ReadyToAnswer op c s where
  frame := s.b.begun_frame s.tick op c
  hub := s.b.begun_hub s.tick op c
  flight := s.b.begun_flight s.tick op c
  room := hroom

/-- The command goes no further than its first test: it answers STATE_REJECT before it touches a rail. -/
theorem exec_railDisable_of_holdsTickets {c : Cmd} {s : State} (hpass : Passes 0xA1 c s)
    (htickets : (c.fset 0).any (fun f => s.b.holdsTickets f) = true) :
    exec (.railDisable c) s = .next { s with
      b := (s.b.begun s.tick 0xA1 c).answer s.tick (portNo c.port) stStateReject s.b.mgr [] } := by
  have hheld : (c.fset 0).any (fun f => (s.b.begun s.tick 0xA1 c).holdsTickets f) = true := by
    simpa only [Block.begun_holdsTickets] using htickets
  show execRailDisable c s = _
  rw [execRailDisable, hpass.runCmdB_eq, ← s.b.begun_mgr s.tick 0xA1 c]
  exact congrArg (fun b => Host.Outcome.next { s with b := b }) (if_pos hheld)

/-- Settles O60: taking the command and its final status write no more than an answer may, and neither writes an account. -/
theorem railDisableWithTickets : Obligations.RailDisableWithTickets := by
  intro c s hpass htickets hroom
  have hready := Block.begun_ready 0xA1 c hroom
  refine ⟨_, exec_railDisable_of_holdsTickets hpass htickets, ?_, ?_, ?_⟩
  · exact hready.onlyAnswer _ [] (by decide) rfl
  · exact hready.answered _ [] (by decide) (by decide) (by decide)
  · exact (hready.answer_accounts _ [] (by decide)).trans (s.b.begun_accounts s.tick 0xA1 c)

end Sys2Proof.Machine
end

section
/-!
SUPPORT. What an operation may change, part by part: the parts of the machine, the relation "all but the parts of `S` stand", and
the rules by which it passes through the model's operations.
-/

namespace Sys2Proof.Machine

open Sys2Proof

/-- The parts of a state: those of the block, and what stands beside it. -/
inductive Part where
  | regs | shadow | pages | agents | parcels | cad | sensors | slots | ctxs | accounts | colls | models | fields | rings | rails | phases
  | ports | traces | ties | procs | mems | mon | nv | hub | pins | faults | free | tick | mem | host
  deriving DecidableEq

/-- Part `p` is the same in both blocks. -/
def Part.SameIn (a b : Block) : Part → Prop
  | .regs => b.regs = a.regs
  | .shadow => b.shadow = a.shadow
  | .pages => b.pages = a.pages
  | .agents => b.agents = a.agents
  | .parcels => b.parcels = a.parcels
  | .cad => b.cad = a.cad
  | .sensors => b.sensors = a.sensors
  | .slots => b.slots = a.slots
  | .ctxs => b.ctxs = a.ctxs
  | .accounts => b.accounts = a.accounts
  | .colls => b.colls = a.colls
  | .models => b.models = a.models
  | .fields => b.fields = a.fields
  | .rings => b.rings = a.rings
  | .rails => b.rails = a.rails
  | .phases => b.phases = a.phases
  | .ports => b.ports = a.ports
  | .traces => b.traces = a.traces
  | .ties => b.ties = a.ties
  | .procs => b.procs = a.procs
  | .mems => b.mems = a.mems
  | .mon => b.mon = a.mon
  | .nv => b.nv = a.nv
  | .hub => b.hub = a.hub
  | .pins => b.pins = a.pins
  | .faults => b.faults = a.faults
  | .free => b.free = a.free
  | .tick | .mem | .host => True

/-- From block `a` to block `b` every part outside `S` stands. -/
structure Block.Keeps (S : List Part) (a b : Block) : Prop where
  same : ∀ p, p ∉ S → p.SameIn a b

/-- From state `s` to state `t` the queue and every part outside `S` stand. -/
structure State.Keeps (S : List Part) (s t : State) : Prop where
  block : s.b.Keeps S t.b
  tick : .tick ∉ S → t.tick = s.tick
  mem : .mem ∉ S → t.mem = s.mem
  host : .host ∉ S → t.host = s.host
  pending : t.pending = s.pending

/-- The command answers a next state in which the queue and every part outside `S` stand. -/
def Answers (S : List Part) (s : State) (o : Host.Outcome State Fault Refusal) : Prop := ∃ t, o = .next t ∧ s.Keeps S t

variable {S T : List Part} {a b c : Block} {s t u : State}

theorem Part.SameIn.refl (p : Part) (b : Block) : p.SameIn b b := by cases p <;> trivial

theorem Part.SameIn.symm {p : Part} (h : p.SameIn a b) : p.SameIn b a := by
  cases p <;> first | exact Eq.symm h | trivial

theorem Part.SameIn.trans {p : Part} (h : p.SameIn a b) (h' : p.SameIn b c) : p.SameIn a c := by
  cases p <;> first | exact Eq.trans h' h | trivial

namespace Block

/-- Only the outermost operation matters to `simp`: it does not look into the two blocks. -/
@[congr] theorem keeps_congr (S : List Part) (a b : Block) : a.Keeps S b = a.Keeps S b := rfl

@[simp] theorem Keeps.refl (S : List Part) (b : Block) : b.Keeps S b := ⟨fun p _ => Part.SameIn.refl p b⟩

theorem Keeps.mono (hS : T ⊆ S) (h : a.Keeps T b) : a.Keeps S b := ⟨fun p hp => h.same p fun hT => hp (hS hT)⟩

theorem Keeps.trans (h : a.Keeps S b) (h' : b.Keeps S c) : a.Keeps S c := ⟨fun p hp => (h.same p hp).trans (h'.same p hp)⟩

theorem Keeps.symm (h : a.Keeps S b) : b.Keeps S a := ⟨fun p hp => (h.same p hp).symm⟩

/-- Where an operation keeps all but parts of `S`, the block after it has kept as much as the block before it. -/
theorem Keeps.step (hS : T ⊆ S) (h : b.Keeps T c) : a.Keeps S c ↔ a.Keeps S b :=
  ⟨fun h' => h'.trans (h.mono hS).symm, fun h' => h'.trans (h.mono hS)⟩

@[simp] theorem keeps_ite {q : Prop} [Decidable q] : a.Keeps S (if q then b else c) ↔ if q then a.Keeps S b else a.Keeps S c := by
  split <;> rfl

@[simp] theorem keeps_cond {q : Bool} {g : Block → Block} (hg : ∀ b : Block, b.Keeps S (g b)) :
    a.Keeps S (b.cond q g) ↔ a.Keeps S b := by
  cases q
  · rfl
  · exact Keeps.step (List.Subset.refl S) (hg b)

theorem foldl_keeps {α : Type} {g : Block → α → Block} (hg : ∀ (b : Block) x, b.Keeps S (g b x)) (l : List α) (b : Block) : b.Keeps S (l.foldl g b) := by
  induction l generalizing b with
  | nil => exact Keeps.refl S b
  | cons x l ih => exact (hg b x).trans (ih _)

@[simp] theorem keeps_foldl {α : Type} {g : Block → α → Block} {l : List α} (hg : ∀ (b : Block) x, b.Keeps S (g b x)) :
    a.Keeps S (l.foldl g b) ↔ a.Keeps S b := Keeps.step (List.Subset.refl S) (foldl_keeps hg l b)

@[simp] theorem keeps_each {α : Type} {g : Block → α → Block} {l : List α} (hg : ∀ (b : Block) x, b.Keeps S (g b x)) :
    a.Keeps S (b.each l g) ↔ a.Keeps S b := keeps_foldl hg

end Block

namespace State

@[congr] theorem keeps_congr (S : List Part) (s t : State) : s.Keeps S t = s.Keeps S t := rfl

@[simp] theorem Keeps.refl (S : List Part) (s : State) : s.Keeps S s := ⟨Block.Keeps.refl S s.b, fun _ => rfl, fun _ => rfl, fun _ => rfl, rfl⟩

theorem Keeps.mono (hS : T ⊆ S) (h : s.Keeps T t) : s.Keeps S t :=
  ⟨h.block.mono hS, fun hp => h.tick fun hT => hp (hS hT), fun hp => h.mem fun hT => hp (hS hT), fun hp => h.host fun hT => hp (hS hT),
    h.pending⟩

theorem Keeps.trans (h : s.Keeps S t) (h' : t.Keeps S u) : s.Keeps S u :=
  ⟨h.block.trans h'.block, fun hp => (h'.tick hp).trans (h.tick hp), fun hp => (h'.mem hp).trans (h.mem hp),
    fun hp => (h'.host hp).trans (h.host hp), h'.pending.trans h.pending⟩

/-- The block changes last. -/
theorem Keeps.withBlock (h : s.Keeps S t) (hb : t.b.Keeps S b) : s.Keeps S { t with b := b } :=
  ⟨h.block.trans hb, h.tick, h.mem, h.host, h.pending⟩

/-- Where an operation keeps all but parts of `S`, the state after it has kept as much as the state before it. -/
theorem Keeps.step (hS : T ⊆ S) (h : t.Keeps T u) : s.Keeps S u ↔ s.Keeps S t := by
  refine ⟨fun h' => h'.trans ?_, fun h' => h'.trans (h.mono hS)⟩
  have h := h.mono hS
  exact ⟨h.block.symm, fun hp => (h.tick hp).symm, fun hp => (h.mem hp).symm, fun hp => (h.host hp).symm, h.pending.symm⟩

@[simp] theorem keeps_mk {tick : Nat} {mem host : List Host.Cell} {l : List Instr} :
    s.Keeps S ⟨tick, mem, host, b, l⟩ ↔ s.b.Keeps S b ∧ (.tick ∉ S → tick = s.tick) ∧ (.mem ∉ S → mem = s.mem) ∧
      (.host ∉ S → host = s.host) ∧ l = s.pending :=
  ⟨fun ⟨h1, h2, h3, h4, h5⟩ => ⟨h1, h2, h3, h4, h5⟩, fun ⟨h1, h2, h3, h4, h5⟩ => ⟨h1, h2, h3, h4, h5⟩⟩

@[simp] theorem keeps_ite {q : Prop} [Decidable q] : s.Keeps S (if q then t else u) ↔ if q then s.Keeps S t else s.Keeps S u := by
  split <;> rfl

end State

@[congr] theorem answers_congr (S : List Part) (s : State) (o : Host.Outcome State Fault Refusal) : Answers S s o = Answers S s o := rfl

@[simp] theorem answers_next : Answers S s (.next t) ↔ s.Keeps S t :=
  ⟨fun ⟨_, h, hk⟩ => Host.Outcome.next.inj h ▸ hk, fun h => ⟨t, rfl, h⟩⟩

@[simp] theorem answers_onB {g : Nat → Block → Block} : Answers S s (onB s g) ↔ s.b.Keeps S (g s.tick s.b) := by
  simp [onB]

@[simp] theorem answers_ite {q : Prop} [Decidable q] {o o' : Host.Outcome State Fault Refusal} :
    Answers S s (if q then o else o') ↔ if q then Answers S s o else Answers S s o' := by
  split <;> rfl

end Sys2Proof.Machine
end

section
/-!
SUPPORT. What each operation of the block may change: one rule per operation, in the order of the model. The rules are simp lemmas that take the
outermost operation off, so that an operation made of others is walked through by `simp` once its branches are split.
-/

namespace Sys2Proof.Machine

open Sys2Proof

variable {S : List Part} {b₀ : Block}

namespace Block

/-! ### Machine/Ops.lean -/

@[simp] theorem keeps_setAgent (hS : [.agents] ⊆ S) (b : Block) (k : Nat) (v : Agent) :
    b₀.Keeps S (b.setAgent k v) ↔ b₀.Keeps S b := Keeps.step hS ⟨fun p _ => by cases p <;> trivial⟩

@[simp] theorem keeps_modAgent (hS : [.agents] ⊆ S) (b : Block) (k : Nat) (g : Agent → Agent) :
    b₀.Keeps S (b.modAgent k g) ↔ b₀.Keeps S b := Keeps.step hS (by unfold Block.modAgent; simp)

@[simp] theorem keeps_setParcel (hS : [.parcels] ⊆ S) (b : Block) (k : Nat) (v : Parcel) :
    b₀.Keeps S (b.setParcel k v) ↔ b₀.Keeps S b := Keeps.step hS ⟨fun p _ => by cases p <;> trivial⟩

@[simp] theorem keeps_modParcel (hS : [.parcels] ⊆ S) (b : Block) (k : Nat) (g : Parcel → Parcel) :
    b₀.Keeps S (b.modParcel k g) ↔ b₀.Keeps S b := Keeps.step hS (by unfold Block.modParcel; simp)

@[simp] theorem keeps_setCadE (hS : [.cad] ⊆ S) (b : Block) (k : Nat) (v : Cad) : b₀.Keeps S (b.setCadE k v) ↔ b₀.Keeps S b :=
  Keeps.step hS ⟨fun p _ => by cases p <;> trivial⟩

@[simp] theorem keeps_modCadE (hS : [.cad] ⊆ S) (b : Block) (k : Nat) (g : Cad → Cad) : b₀.Keeps S (b.modCadE k g) ↔ b₀.Keeps S b :=
  Keeps.step hS (by unfold Block.modCadE; simp)

@[simp] theorem keeps_setSensor (hS : [.sensors] ⊆ S) (b : Block) (k : Nat) (v : Sensor) :
    b₀.Keeps S (b.setSensor k v) ↔ b₀.Keeps S b := Keeps.step hS ⟨fun p _ => by cases p <;> trivial⟩

@[simp] theorem keeps_modSensor (hS : [.sensors] ⊆ S) (b : Block) (k : Nat) (g : Sensor → Sensor) :
    b₀.Keeps S (b.modSensor k g) ↔ b₀.Keeps S b := Keeps.step hS (by unfold Block.modSensor; simp)

@[simp] theorem keeps_setSlot (hS : [.slots] ⊆ S) (b : Block) (k : Nat) (v : Slot) : b₀.Keeps S (b.setSlot k v) ↔ b₀.Keeps S b :=
  Keeps.step hS ⟨fun p _ => by cases p <;> trivial⟩

@[simp] theorem keeps_modSlot (hS : [.slots] ⊆ S) (b : Block) (k : Nat) (g : Slot → Slot) :
    b₀.Keeps S (b.modSlot k g) ↔ b₀.Keeps S b := Keeps.step hS (by unfold Block.modSlot; simp)

@[simp] theorem keeps_setCtx (hS : [.ctxs] ⊆ S) (b : Block) (k : Nat) (v : Ctx) : b₀.Keeps S (b.setCtx k v) ↔ b₀.Keeps S b :=
  Keeps.step hS ⟨fun p _ => by cases p <;> trivial⟩

@[simp] theorem keeps_modCtx (hS : [.ctxs] ⊆ S) (b : Block) (k : Nat) (g : Ctx → Ctx) : b₀.Keeps S (b.modCtx k g) ↔ b₀.Keeps S b :=
  Keeps.step hS (by unfold Block.modCtx; simp)

@[simp] theorem keeps_setAcct (hS : [.accounts] ⊆ S) (b : Block) (k : Nat) (v : Account) :
    b₀.Keeps S (b.setAcct k v) ↔ b₀.Keeps S b := Keeps.step hS ⟨fun p _ => by cases p <;> trivial⟩

@[simp] theorem keeps_modAcct (hS : [.accounts] ⊆ S) (b : Block) (k : Nat) (g : Account → Account) :
    b₀.Keeps S (b.modAcct k g) ↔ b₀.Keeps S b := Keeps.step hS (by unfold Block.modAcct; simp)

@[simp] theorem keeps_setColl (hS : [.colls] ⊆ S) (b : Block) (k : Nat) (v : Coll) : b₀.Keeps S (b.setColl k v) ↔ b₀.Keeps S b :=
  Keeps.step hS ⟨fun p _ => by cases p <;> trivial⟩

@[simp] theorem keeps_modColl (hS : [.colls] ⊆ S) (b : Block) (k : Nat) (g : Coll → Coll) :
    b₀.Keeps S (b.modColl k g) ↔ b₀.Keeps S b := Keeps.step hS (by unfold Block.modColl; simp)

@[simp] theorem keeps_setModel (hS : [.models] ⊆ S) (b : Block) (k : Nat) (v : Model) :
    b₀.Keeps S (b.setModel k v) ↔ b₀.Keeps S b := Keeps.step hS ⟨fun p _ => by cases p <;> trivial⟩

@[simp] theorem keeps_modModel (hS : [.models] ⊆ S) (b : Block) (k : Nat) (g : Model → Model) :
    b₀.Keeps S (b.modModel k g) ↔ b₀.Keeps S b := Keeps.step hS (by unfold Block.modModel; simp)

@[simp] theorem keeps_setFu (hS : [.fields] ⊆ S) (b : Block) (k : Nat) (v : FieldUnit) : b₀.Keeps S (b.setFu k v) ↔ b₀.Keeps S b :=
  Keeps.step hS ⟨fun p _ => by cases p <;> trivial⟩

@[simp] theorem keeps_modFu (hS : [.fields] ⊆ S) (b : Block) (k : Nat) (g : FieldUnit → FieldUnit) :
    b₀.Keeps S (b.modFu k g) ↔ b₀.Keeps S b := Keeps.step hS (by unfold Block.modFu; simp)

@[simp] theorem keeps_setRing (hS : [.rings] ⊆ S) (b : Block) (k : Nat) (v : Ring) : b₀.Keeps S (b.setRing k v) ↔ b₀.Keeps S b :=
  Keeps.step hS ⟨fun p _ => by cases p <;> trivial⟩

@[simp] theorem keeps_modRing (hS : [.rings] ⊆ S) (b : Block) (k : Nat) (g : Ring → Ring) :
    b₀.Keeps S (b.modRing k g) ↔ b₀.Keeps S b := Keeps.step hS (by unfold Block.modRing; simp)

@[simp] theorem keeps_setRail (hS : [.rails] ⊆ S) (b : Block) (k : Nat) (v : RailSt) : b₀.Keeps S (b.setRail k v) ↔ b₀.Keeps S b :=
  Keeps.step hS ⟨fun p _ => by cases p <;> trivial⟩

@[simp] theorem keeps_modRail (hS : [.rails] ⊆ S) (b : Block) (k : Nat) (g : RailSt → RailSt) :
    b₀.Keeps S (b.modRail k g) ↔ b₀.Keeps S b := Keeps.step hS (by unfold Block.modRail; simp)

@[simp] theorem keeps_setPhase (hS : [.phases] ⊆ S) (b : Block) (k : Nat) (v : PhaseSt) :
    b₀.Keeps S (b.setPhase k v) ↔ b₀.Keeps S b := Keeps.step hS ⟨fun p _ => by cases p <;> trivial⟩

@[simp] theorem keeps_modPhase (hS : [.phases] ⊆ S) (b : Block) (k : Nat) (g : PhaseSt → PhaseSt) :
    b₀.Keeps S (b.modPhase k g) ↔ b₀.Keeps S b := Keeps.step hS (by unfold Block.modPhase; simp)

@[simp] theorem keeps_setPort (hS : [.ports] ⊆ S) (b : Block) (k : Nat) (v : PortSt) : b₀.Keeps S (b.setPort k v) ↔ b₀.Keeps S b :=
  Keeps.step hS ⟨fun p _ => by cases p <;> trivial⟩

@[simp] theorem keeps_modPort (hS : [.ports] ⊆ S) (b : Block) (k : Nat) (g : PortSt → PortSt) :
    b₀.Keeps S (b.modPort k g) ↔ b₀.Keeps S b := Keeps.step hS (by unfold Block.modPort; simp)

@[simp] theorem keeps_setTrace (hS : [.traces] ⊆ S) (b : Block) (k : Nat) (v : TraceBuf) :
    b₀.Keeps S (b.setTrace k v) ↔ b₀.Keeps S b := Keeps.step hS ⟨fun p _ => by cases p <;> trivial⟩

@[simp] theorem keeps_modTrace (hS : [.traces] ⊆ S) (b : Block) (k : Nat) (g : TraceBuf → TraceBuf) :
    b₀.Keeps S (b.modTrace k g) ↔ b₀.Keeps S b := Keeps.step hS (by unfold Block.modTrace; simp)

@[simp] theorem keeps_setTie (hS : [.ties] ⊆ S) (b : Block) (k : Nat) (v : Tie) : b₀.Keeps S (b.setTie k v) ↔ b₀.Keeps S b :=
  Keeps.step hS ⟨fun p _ => by cases p <;> trivial⟩

@[simp] theorem keeps_modTie (hS : [.ties] ⊆ S) (b : Block) (k : Nat) (g : Tie → Tie) : b₀.Keeps S (b.modTie k g) ↔ b₀.Keeps S b :=
  Keeps.step hS (by unfold Block.modTie; simp)

@[simp] theorem keeps_setProc (hS : [.procs] ⊆ S) (b : Block) (k : Nat) (v : Proc) : b₀.Keeps S (b.setProc k v) ↔ b₀.Keeps S b :=
  Keeps.step hS ⟨fun p _ => by cases p <;> trivial⟩

@[simp] theorem keeps_modProc (hS : [.procs] ⊆ S) (b : Block) (k : Nat) (g : Proc → Proc) :
    b₀.Keeps S (b.modProc k g) ↔ b₀.Keeps S b := Keeps.step hS (by unfold Block.modProc; simp)

@[simp] theorem keeps_setMemSt (hS : [.mems] ⊆ S) (b : Block) (k : Nat) (v : MemSt) : b₀.Keeps S (b.setMemSt k v) ↔ b₀.Keeps S b :=
  Keeps.step hS ⟨fun p _ => by cases p <;> trivial⟩

@[simp] theorem keeps_modMemSt (hS : [.mems] ⊆ S) (b : Block) (k : Nat) (g : MemSt → MemSt) :
    b₀.Keeps S (b.modMemSt k g) ↔ b₀.Keeps S b := Keeps.step hS (by unfold Block.modMemSt; simp)

@[simp] theorem keeps_setPage (hS : [.pages] ⊆ S) (b : Block) (k : Nat) (v : Page) : b₀.Keeps S (b.setPage k v) ↔ b₀.Keeps S b :=
  Keeps.step hS ⟨fun p _ => by cases p <;> trivial⟩

@[simp] theorem keeps_modPage (hS : [.pages] ⊆ S) (b : Block) (k : Nat) (g : Page → Page) :
    b₀.Keeps S (b.modPage k g) ↔ b₀.Keeps S b := Keeps.step hS (by unfold Block.modPage; simp)

@[simp] theorem keeps_modHub (hS : [.hub] ⊆ S) (b : Block) (g : Hub → Hub) : b₀.Keeps S (b.modHub g) ↔ b₀.Keeps S b :=
  Keeps.step hS ⟨fun p _ => by cases p <;> trivial⟩

@[simp] theorem keeps_modMon (hS : [.mon] ⊆ S) (b : Block) (g : Monument → Monument) : b₀.Keeps S (b.modMon g) ↔ b₀.Keeps S b :=
  Keeps.step hS ⟨fun p _ => by cases p <;> trivial⟩

@[simp] theorem keeps_modNv (hS : [.nv] ⊆ S) (b : Block) (g : Nonvol → Nonvol) : b₀.Keeps S (b.modNv g) ↔ b₀.Keeps S b :=
  Keeps.step hS ⟨fun p _ => by cases p <;> trivial⟩

@[simp] theorem keeps_modPins (hS : [.pins] ⊆ S) (b : Block) (g : Pins → Pins) : b₀.Keeps S (b.modPins g) ↔ b₀.Keeps S b :=
  Keeps.step hS ⟨fun p _ => by cases p <;> trivial⟩

@[simp] theorem keeps_wr (hS : [.regs] ⊆ S) (b : Block) (fd : Fld) (i v : Nat) : b₀.Keeps S (b.wr fd i v) ↔ b₀.Keeps S b :=
  Keeps.step hS ⟨fun p _ => by cases p <;> trivial⟩

@[simp] theorem keeps_wrS (hS : [.shadow] ⊆ S) (b : Block) (fd : Fld) (i v : Nat) : b₀.Keeps S (b.wrS fd i v) ↔ b₀.Keeps S b :=
  Keeps.step hS ⟨fun p _ => by cases p <;> trivial⟩

@[simp] theorem keeps_wrB (hS : [.regs] ⊆ S) (b : Block) (fd : Fld) (i : Nat) (v : Bool) :
    b₀.Keeps S (b.wrB fd i v) ↔ b₀.Keeps S b := Keeps.step hS (by unfold Block.wrB; simp)

@[simp] theorem keeps_add (hS : [.regs] ⊆ S) (b : Block) (fd : Fld) (i n : Nat) : b₀.Keeps S (b.add fd i n) ↔ b₀.Keeps S b :=
  Keeps.step hS (by unfold Block.add; simp)

@[simp] theorem keeps_inc (hS : [.regs] ⊆ S) (b : Block) (fd : Fld) (i : Nat) : b₀.Keeps S (b.inc fd i) ↔ b₀.Keeps S b :=
  Keeps.step hS (by unfold Block.inc; simp)

@[simp] theorem keeps_addSat (hS : [.regs] ⊆ S) (b : Block) (fd : Fld) (i n : Nat) : b₀.Keeps S (b.addSat fd i n) ↔ b₀.Keeps S b :=
  Keeps.step hS (by unfold Block.addSat; simp)

@[simp] theorem keeps_wrZ (hS : [.regs] ⊆ S) (b : Block) (fd : Fld) (i : Nat) (v : Int) :
    b₀.Keeps S (b.wrZ fd i v) ↔ b₀.Keeps S b := Keeps.step hS (by unfold Block.wrZ; simp)

@[simp] theorem keeps_raise (hS : [.regs] ⊆ S) (b : Block) (fd : Fld) (i v : Nat) : b₀.Keeps S (b.raise fd i v) ↔ b₀.Keeps S b :=
  Keeps.step hS (by unfold Block.raise; simp)

@[simp] theorem keeps_setFlag (hS : [.regs] ⊆ S) (b : Block) (fd : Fld) (i k : Nat) (v : Bool) :
    b₀.Keeps S (b.setFlag fd i k v) ↔ b₀.Keeps S b := Keeps.step hS (by unfold Block.setFlag; simp)

@[simp] theorem keeps_wr2 (hS : [.regs] ⊆ S) (b : Block) (lo hi : Fld) (i v : Nat) : b₀.Keeps S (b.wr2 lo hi i v) ↔ b₀.Keeps S b :=
  Keeps.step hS (by unfold Block.wr2; simp)

@[simp] theorem keeps_add2 (hS : [.regs] ⊆ S) (b : Block) (lo hi : Fld) (i v : Nat) :
    b₀.Keeps S (b.add2 lo hi i v) ↔ b₀.Keeps S b := Keeps.step hS (by unfold Block.add2; simp)

@[simp] theorem keeps_evalMgr (hS : [.regs] ⊆ S) (b : Block) (now : Nat) : b₀.Keeps S (b.evalMgr now) ↔ b₀.Keeps S b :=
  Keeps.step hS (by unfold Block.evalMgr; simp)

@[simp] theorem keeps_fresh (hS : [.free] ⊆ S) (b : Block) : b₀.Keeps S b.fresh.2 ↔ b₀.Keeps S b :=
  Keeps.step hS ⟨fun p _ => by cases p <;> trivial⟩

@[simp] theorem keeps_addFault (hS : [.faults] ⊆ S) (b : Block) (l : List FaultWord) : b₀.Keeps S { b with faults := l } ↔ b₀.Keeps S b :=
  Keeps.step hS ⟨fun p _ => by cases p <;> trivial⟩

@[simp] theorem keeps_fault (hS : [.fields, .faults] ⊆ S) (b : Block) (src field detail off : Nat) :
    b₀.Keeps S (b.fault src field detail off) ↔ b₀.Keeps S b := Keeps.step hS (by unfold fault; simp)

@[simp] theorem keeps_pageErr (hS : [.pages] ⊆ S) (b : Block) (key k : Nat) : b₀.Keeps S (b.pageErr key k) ↔ b₀.Keeps S b :=
  Keeps.step hS (by unfold Block.pageErr; simp)

/-! ### Machine/Records.lean -/

@[simp] theorem keeps_putTrace (hS : [.regs, .traces] ⊆ S) (b : Block) (k : Nat) (t : TraceBuf) (written : Bool) :
    b₀.Keeps S (b.putTrace k t written) ↔ b₀.Keeps S b := Keeps.step hS (by unfold Block.putTrace; simp)

@[simp] theorem keeps_triggerOn (hS : [.regs, .traces] ⊆ S) (b : Block) (now off k kind code parcel first : Nat) :
    b₀.Keeps S (b.triggerOn now off k kind code parcel first) ↔ b₀.Keeps S b := Keeps.step hS (by unfold Block.triggerOn; simp)

@[simp] theorem keeps_trigger (hS : [.regs, .traces] ⊆ S) (b : Block) (now off k kind code parcel first : Nat) :
    b₀.Keeps S (b.trigger now off k kind code parcel first) ↔ b₀.Keeps S b := Keeps.step hS (by unfold Block.trigger; simp)

@[simp] theorem keeps_writeRec (hS : [.regs, .fields, .traces] ⊆ S) (b : Block) (now off k : Nat) (r : TraceRec) :
    b₀.Keeps S (b.writeRec now off k r) ↔ b₀.Keeps S b := Keeps.step hS (by unfold Block.writeRec; simp)

@[simp] theorem keeps_record (hS : [.regs, .fields, .traces] ⊆ S) (b : Block) (k now off code parcel aux dataA dataB : Nat) :
    b₀.Keeps S (b.record k now off code parcel aux dataA dataB) ↔ b₀.Keeps S b := Keeps.step hS (by unfold Block.record; simp)

@[simp] theorem keeps_hubTrigger (hS : [.regs] ⊆ S) (b : Block) (now : Nat) : b₀.Keeps S (b.hubTrigger now) ↔ b₀.Keeps S b :=
  Keeps.step hS (by unfold Block.hubTrigger; simp)

@[simp] theorem keeps_monStart (hS : [.mon] ⊆ S) (b : Block) : b₀.Keeps S b.monStart ↔ b₀.Keeps S b :=
  Keeps.step hS (by unfold Block.monStart; dsimp only; (repeat' split) <;> simp)

@[simp] theorem keeps_monQueue (hS : [.mon] ⊆ S) (b : Block) (front : Bool) (r : MonRec) :
    b₀.Keeps S (b.monQueue front r) ↔ b₀.Keeps S b := Keeps.step hS (by unfold Block.monQueue; simp)

@[simp] theorem keeps_monEventAt (hS : [.regs, .mon] ⊆ S) (b : Block) (front : Bool) (now off e source : Nat) (data : List Nat) :
    b₀.Keeps S (b.monEventAt front now off e source data) ↔ b₀.Keeps S b := Keeps.step hS (by unfold Block.monEventAt; simp)

@[simp] theorem keeps_monEvent (hS : [.regs, .mon] ⊆ S) (b : Block) (now off e source : Nat) (data : List Nat) :
    b₀.Keeps S (b.monEvent now off e source data) ↔ b₀.Keeps S b := Keeps.step hS (by unfold Block.monEvent; simp)

@[simp] theorem keeps_monRecord (hS : [.mon] ⊆ S) (b : Block) (r : MonRec) : b₀.Keeps S (b.monRecord r) ↔ b₀.Keeps S b :=
  Keeps.step hS (by unfold Block.monRecord; simp)

@[simp] theorem keeps_headerWrite (hS : [.mon] ⊆ S) (b : Block) (now : Nat) : b₀.Keeps S (b.headerWrite now) ↔ b₀.Keeps S b :=
  Keeps.step hS (by unfold Block.headerWrite; simp)

@[simp] theorem keeps_saveStore (hS : [.mon] ⊆ S) (b : Block) (now : Nat) (cal : Bool) :
    b₀.Keeps S (b.saveStore now cal) ↔ b₀.Keeps S b := Keeps.step hS (by unfold Block.saveStore; simp)

@[simp] theorem keeps_logEntry (hS : [.procs, .free] ⊆ S) (b : Block) (p now off level comp code : Nat) :
    b₀.Keeps S (b.logEntry p now off level comp code) ↔ b₀.Keeps S b := Keeps.step hS (by unfold logEntry Block.cond; split <;> simp)

/-! ### Machine/Commit.lean -/

@[simp] theorem keeps_commitArrive (hS : [.pages] ⊆ S) (b : Block) (arr cls inst v : Nat) (byCmd : Option Nat) :
    b₀.Keeps S (b.commitArrive arr cls inst v byCmd) ↔ b₀.Keeps S b :=
  Keeps.step hS (by unfold Block.commitArrive; dsimp only; (repeat' split) <;> simp)

@[simp] theorem keeps_commitSend (hS : [.pages] ⊆ S) (b : Block) (now sc cls inst v : Nat) (byCmd : Option Nat) :
    b₀.Keeps S (b.commitSend now sc cls inst v byCmd) ↔ b₀.Keeps S b := Keeps.step hS (by unfold Block.commitSend; simp)

@[simp] theorem keeps_cancelCommit (hS : [.pages] ⊆ S) (b : Block) (cls inst : Nat) :
    b₀.Keeps S (b.cancelCommit cls inst) ↔ b₀.Keeps S b := Keeps.step hS (by unfold Block.cancelCommit; simp)

@[simp] theorem keeps_reloadShadow (hS : [.shadow, .pages] ⊆ S) (b : Block) (cls inst : Nat) :
    b₀.Keeps S (b.reloadShadow cls inst) ↔ b₀.Keeps S b := Keeps.step hS (by unfold Block.reloadShadow; simp)

/-! ### Machine/Command.lean -/

@[simp] theorem keeps_ibi (hS : [.hub] ⊆ S) (b : Block) (k : Nat) : b₀.Keeps S (b.ibi k) ↔ b₀.Keeps S b :=
  Keeps.step hS (by unfold Block.ibi; simp)

@[simp] theorem keeps_status (hS : [.regs, .ports, .hub] ⊆ S) (b : Block) (now pt : Nat) (fl : Flight) (status detail : Nat)
    (data : List Nat) : b₀.Keeps S (b.status now pt fl status detail data) ↔ b₀.Keeps S b :=
  Keeps.step hS (by unfold Block.status; simp)

@[simp] theorem keeps_answer (hS : [.regs, .ports, .hub] ⊆ S) (b : Block) (now pt status detail : Nat) (data : List Nat) :
    b₀.Keeps S (b.answer now pt status detail data) ↔ b₀.Keeps S b := Keeps.step hS (by unfold Block.answer; split <;> simp)

@[simp] theorem keeps_done (hS : [.regs, .ports, .hub] ⊆ S) (b : Block) (now pt : Nat) (data : List Nat) :
    b₀.Keeps S (b.done now pt data) ↔ b₀.Keeps S b := Keeps.step hS (by unfold Block.done; simp)

@[simp] theorem keeps_stop (hS : [.regs, .ports, .hub] ⊆ S) (b : Block) (now pt status detail : Nat) :
    b₀.Keeps S (b.stop now pt status detail) ↔ b₀.Keeps S b := Keeps.step hS (by unfold Block.stop; simp)

@[simp] theorem keeps_accept (hS : [.regs, .ports, .hub] ⊆ S) (b : Block) (now pt : Nat) (data : List Nat) :
    b₀.Keeps S (b.accept now pt data) ↔ b₀.Keeps S b := Keeps.step hS (by unfold Block.accept; simp)

@[simp] theorem keeps_await (hS : [.ports] ⊆ S) (b : Block) (pt : Nat) (w : Wait) : b₀.Keeps S (b.await pt w) ↔ b₀.Keeps S b :=
  Keeps.step hS (by unfold Block.await; simp)

@[simp] theorem keeps_completeWhere (hS : [.regs, .ports, .hub] ⊆ S) (b : Block) (now : Nat)
    (g : Wait → Option (Nat × Nat × List Nat)) : b₀.Keeps S (b.completeWhere now g) ↔ b₀.Keeps S b :=
  Keeps.step hS (by unfold Block.completeWhere; simp (disch := (intros; split <;> simp)))

@[simp] theorem keeps_submit (hS : [.regs, .ports] ⊆ S) (b : Block) (now pt : Nat) (fl : Flight) :
    b₀.Keeps S (b.submit now pt fl) ↔ b₀.Keeps S b := Keeps.step hS (by unfold Block.submit; simp)

@[simp] theorem keeps_drop (hS : [.regs] ⊆ S) (b : Block) (pt : Nat) : b₀.Keeps S (b.drop pt) ↔ b₀.Keeps S b :=
  Keeps.step hS (by unfold Block.drop; simp)

@[simp] theorem keeps_putArea (hS : [.regs] ⊆ S) (b : Block) (pt : Nat) (bytes : List Nat) :
    b₀.Keeps S (b.putArea pt bytes) ↔ b₀.Keeps S b := Keeps.step hS (by unfold Block.putArea; simp)

theorem commitByCmd_keeps {b c : Block} {now sc pt at_ : Nat} {pages : List PageNo} {ws : List ShadowWrite}
    (h : b.commitByCmd now sc pt at_ pages ws = .ok c) : b.Keeps [.shadow, .pages] c := by
  unfold commitByCmd at h
  dsimp only at h
  split at h
  · cases h
  · split at h
    · cases h
    · split at h
      · cases h
      · cases h
        simp

@[simp] theorem keeps_cmdPages (hS : [.regs, .shadow, .pages, .ports, .hub] ⊆ S) (b : Block) (now sc pt at_ atWordNo dataWord : Nat)
    (pages : List PageNo) (ws : List ShadowWrite) :
    b₀.Keeps S (b.cmdPages now sc pt at_ atWordNo dataWord pages ws) ↔ b₀.Keeps S b := Keeps.step hS (by
  unfold cmdPages
  split
  · simp
  · simp
  · simp
  · next h => exact .trans ((commitByCmd_keeps h).mono (by simp)) (by simp))

/-! ### Machine/Sensors.lean -/

@[simp] theorem keeps_testDeviations (hS : [.sensors, .fields] ⊆ S) (b : Block) (now f : Nat) :
    b₀.Keeps S (b.testDeviations now f) ↔ b₀.Keeps S b :=
  Keeps.step hS (by unfold Block.testDeviations; simp (maxDischargeDepth := 5))

/-! ### Machine/Estimate.lean -/

@[simp] theorem keeps_shapeNumbers (hS : [.regs] ⊆ S) (b : Block) (f : Nat) : b₀.Keeps S (b.shapeNumbers f) ↔ b₀.Keeps S b :=
  Keeps.step hS (by unfold Block.shapeNumbers; simp)

@[simp] theorem keeps_setBypass (hS : [.regs] ⊆ S) (b : Block) (f slot : Nat) (wb : List Int) :
    b₀.Keeps S (b.setBypass f slot wb) ↔ b₀.Keeps S b := Keeps.step hS (by unfold Block.setBypass; simp)

@[simp] theorem keeps_captureProbe (hS : [.regs, .fields] ⊆ S) (b : Block) (f s : Nat) (o : NetOut) :
    b₀.Keeps S (b.captureProbe f s o) ↔ b₀.Keeps S b := Keeps.step hS (by unfold Block.captureProbe; simp)

@[simp] theorem keeps_estimate (hS : [.regs, .parcels, .fields] ⊆ S) (b : Block) (f s : Nat) :
    b₀.Keeps S (b.estimate f s) ↔ b₀.Keeps S b := Keeps.step hS (by unfold Block.estimate; simp)

/-! ### Machine/TicketOps.lean -/

@[simp] theorem keeps_modColl' (hS : [.colls] ⊆ S) (b : Block) (f n : Nat) (g : Coll → Coll) :
    b₀.Keeps S (b.modColl' f n g) ↔ b₀.Keeps S b := Keeps.step hS (by unfold Block.modColl'; simp)

@[simp] theorem keeps_resetHang (hS : [.regs, .fields] ⊆ S) (b : Block) (f : Nat) : b₀.Keeps S (b.resetHang f) ↔ b₀.Keeps S b :=
  Keeps.step hS (by unfold Block.resetHang; simp)

@[simp] theorem keeps_bill (hS : [.regs, .slots, .colls, .fields, .traces] ⊆ S) (b : Block) (f n : Nat) :
    b₀.Keeps S (b.bill f n) ↔ b₀.Keeps S b := Keeps.step hS (by unfold Block.bill; simp)

/-! ### Machine/Measure.lean -/

@[simp] theorem keeps_chanLost (hS : [.regs, .fields, .phases, .faults] ⊆ S) (b : Block) (f p : Nat) :
    b₀.Keeps S (b.chanLost f p) ↔ b₀.Keeps S b := Keeps.step hS (by unfold Block.chanLost; simp)

@[simp] theorem keeps_railCurrent (hS : [.free] ⊆ S) (b : Block) (f rl : Nat) (imon : Nat → Int) :
    b₀.Keeps S (b.railCurrent f rl imon).2 ↔ b₀.Keeps S b := by
  unfold railCurrent
  split
  · rfl
  · exact keeps_fresh hS b

@[simp] theorem keeps_setEstMode (hS : [.regs, .fields, .faults] ⊆ S) (b : Block) (f new why : Nat) :
    b₀.Keeps S (b.setEstMode f new why) ↔ b₀.Keeps S b := Keeps.step hS (by unfold Block.setEstMode; simp)

@[simp] theorem keeps_countModes (hS : [.regs, .fields] ⊆ S) (b : Block) (f e m : Nat) :
    b₀.Keeps S (b.countModes f e m) ↔ b₀.Keeps S b := Keeps.step hS (by unfold Block.countModes; simp)

@[simp] theorem keeps_countSafe (hS : [.regs, .fields] ⊆ S) (b : Block) (f : Nat) : b₀.Keeps S (b.countSafe f) ↔ b₀.Keeps S b :=
  Keeps.step hS (by unfold Block.countSafe; simp)

@[simp] theorem keeps_report (hS : [.parcels] ⊆ S) (b : Block) (f : Nat) (mValid : Bool) (e m rho : Nat) :
    b₀.Keeps S (b.report f mValid e m rho) ↔ b₀.Keeps S b := Keeps.step hS (by unfold Block.report; simp)

@[simp] theorem keeps_addShares (hS : [.slots] ⊆ S) (b : Block) (f t : Nat) : b₀.Keeps S (b.addShares f t) ↔ b₀.Keeps S b :=
  Keeps.step hS (by unfold Block.addShares; simp)

@[simp] theorem keeps_billDue (hS : [.regs, .slots, .colls, .fields, .traces] ⊆ S) (b : Block) (now f : Nat) :
    b₀.Keeps S (b.billDue now f) ↔ b₀.Keeps S b := Keeps.step hS (by unfold Block.billDue; simp)

@[simp] theorem keeps_limitRecord (hS : [.regs, .fields, .traces] ⊆ S) (b : Block) (f now off kind figure pmax : Nat) :
    b₀.Keeps S (b.limitRecord f now off kind figure pmax) ↔ b₀.Keeps S b := Keeps.step hS (by unfold Block.limitRecord; simp)

@[simp] theorem keeps_checkExceed (hS : [.regs, .fields, .traces] ⊆ S) (b : Block) (f now core sram : Nat) :
    b₀.Keeps S (b.checkExceed f now core sram) ↔ b₀.Keeps S b := Keeps.step hS (by unfold Block.checkExceed; simp)

@[simp] theorem keeps_addUse (hS : [.fields] ⊆ S) (b : Block) (f : Nat) : b₀.Keeps S (b.addUse f) ↔ b₀.Keeps S b :=
  Keeps.step hS (by unfold Block.addUse; simp)

@[simp] theorem keeps_accumulate (hS : [.regs, .fields] ⊆ S) (b : Block) (f t : Nat) (contributes : Bool) (m share : Nat) :
    b₀.Keeps S (b.accumulate f t contributes m share) ↔ b₀.Keeps S b := Keeps.step hS (by unfold Block.accumulate; simp)

@[simp] theorem keeps_putMeasure (hS : [.regs, .fields, .phases, .free] ⊆ S) (b : Block) (f : Nat) (m : MeasIn) :
    b₀.Keeps S (b.putMeasure f m) ↔ b₀.Keeps S b := Keeps.step hS (by unfold putMeasure; simp)

@[simp] theorem keeps_calSample (hS : [.fields] ⊆ S) (b : Block) (f m : Nat) (ok : Bool) :
    b₀.Keeps S (b.calSample f m ok) ↔ b₀.Keeps S b := Keeps.step hS (by unfold Block.calSample; simp)

@[simp] theorem keeps_measure (hS : [.regs, .parcels, .sensors, .slots, .colls, .fields, .phases, .traces, .free] ⊆ S) (b : Block)
    (now f : Nat) (mi : MeasIn) : b₀.Keeps S (b.measure now f mi) ↔ b₀.Keeps S b := Keeps.step hS (by
  unfold measure
  refine (keeps_calSample (by simp) ..).2 ((keeps_accumulate (by simp) ..).2 ((keeps_cond fun b => ?_).2 ?_))
  · simp
  · refine (keeps_checkExceed (by simp) ..).2 ((keeps_modFu (by simp) ..).2 ((keeps_billDue (by simp) ..).2 ?_))
    refine (keeps_addShares (by simp) ..).2 ((keeps_testDeviations (by simp) ..).2 ((keeps_report (by simp) ..).2 ?_))
    refine (keeps_modFu (by simp) ..).2 ((keeps_wrZ (by simp) ..).2 ((keeps_wr (by simp) ..).2 ?_))
    refine (keeps_wr (by simp) ..).2 ((keeps_wr (by simp) ..).2 ((keeps_wr (by simp) ..).2 ?_))
    exact (keeps_putMeasure (by simp) ..).2 (Keeps.refl _ _))

/-! ### Machine/Recal.lean -/

@[simp] theorem keeps_resetRls (hS : [.fields] ⊆ S) (b : Block) (f slot : Nat) : b₀.Keeps S (b.resetRls f slot) ↔ b₀.Keeps S b :=
  Keeps.step hS (by unfold Block.resetRls; simp)

@[simp] theorem keeps_skipRecal (hS : [.regs, .fields] ⊆ S) (b : Block) (f slot : Nat) (broken : Bool) :
    b₀.Keeps S (b.skipRecal f slot broken) ↔ b₀.Keeps S b := Keeps.step hS (by unfold Block.skipRecal; simp)

@[simp] theorem keeps_recalSolve (hS : [.regs, .fields, .faults] ⊆ S) (b : Block) (now f : Nat) (byCmd : Bool) :
    b₀.Keeps S (b.recalSolve now f byCmd) ↔ b₀.Keeps S b := Keeps.step hS (by unfold Block.recalSolve; simp)

@[simp] theorem keeps_recalDone (hS : [.regs, .ports, .hub] ⊆ S) (b : Block) (now f : Nat) :
    b₀.Keeps S (b.recalDone now f) ↔ b₀.Keeps S b :=
  Keeps.step hS (by unfold Block.recalDone; simp (disch := (intros; split <;> simp)))

@[simp] theorem keeps_recalReset (hS : [.regs, .fields] ⊆ S) (b : Block) (f : Nat) : b₀.Keeps S (b.recalReset f) ↔ b₀.Keeps S b :=
  Keeps.step hS (by unfold Block.recalReset; simp)

/-! ### Machine/Models.lean -/

@[simp] theorem keeps_showImage (hS : [.regs, .fields] ⊆ S) (b : Block) (now f slot : Nat) (img : List Nat) :
    b₀.Keeps S (b.showImage now f slot img) ↔ b₀.Keeps S b := Keeps.step hS (by unfold Block.showImage; simp)

@[simp] theorem keeps_loadDefault (hS : [.regs, .models, .fields] ⊆ S) (b : Block) (now f : Nat) (img : List Nat) :
    b₀.Keeps S (b.loadDefault now f img) ↔ b₀.Keeps S b := Keeps.step hS (by unfold Block.loadDefault; simp)

@[simp] theorem keeps_swapModel (hS : [.regs, .fields] ⊆ S) (b : Block) (now f slot : Nat) :
    b₀.Keeps S (b.swapModel now f slot) ↔ b₀.Keeps S b := Keeps.step hS (by unfold Block.swapModel; simp)

@[simp] theorem keeps_unstage (hS : [.hub] ⊆ S) (b : Block) (pt op slot : Nat) : b₀.Keeps S (b.unstage pt op slot) ↔ b₀.Keeps S b :=
  Keeps.step hS (by unfold Block.unstage; simp)

@[simp] theorem keeps_stage (hS : [.hub] ⊆ S) (b : Block) (pt op slot : Nat) (fset bytes : List Nat) :
    b₀.Keeps S (b.stage pt op slot fset bytes) ↔ b₀.Keeps S b := Keeps.step hS (by unfold Block.stage; simp)

@[simp] theorem keeps_putStandby (hS : [.regs, .models] ⊆ S) (b : Block) (f slot : Nat) (img : List Nat) (ok : Bool) :
    b₀.Keeps S (b.putStandby f slot img ok) ↔ b₀.Keeps S b := Keeps.step hS (by unfold Block.putStandby; simp)

@[simp] theorem keeps_loadImage (hS : [.regs, .models, .ports, .hub] ⊆ S) (b : Block) (now pt slot tick : Nat) (fields : List Nat)
    (img : List Nat) : b₀.Keeps S (b.loadImage now pt slot tick fields img) ↔ b₀.Keeps S b :=
  Keeps.step hS (by unfold Block.loadImage; split <;> simp)

/-! ### Machine/Limits.lean -/

@[simp] theorem keeps_formReport (hS : [.regs, .fields] ⊆ S) (b : Block) (f : Nat) : b₀.Keeps S (b.formReport f) ↔ b₀.Keeps S b :=
  Keeps.step hS (by unfold Block.formReport; simp)

@[simp] theorem keeps_putPlan (hS : [.parcels] ⊆ S) (b : Block) (f s q base dyn cap refill reason : Nat) (crit : Bool) :
    b₀.Keeps S (b.putPlan f s q base dyn cap refill reason crit) ↔ b₀.Keeps S b := Keeps.step hS (by unfold Block.putPlan; simp)

@[simp] theorem keeps_predictions (hS : [.regs] ⊆ S) (b : Block) (f : Nat) (p : Load) :
    b₀.Keeps S (b.predictions f p) ↔ b₀.Keeps S b := Keeps.step hS (by unfold Block.predictions; simp)

@[simp] theorem keeps_putLimits (hS : [.regs] ⊆ S) (b : Block) (f t : Nat) (w : Term) (o : PlanOut) (allowC allowS : Int)
    (pc ps : Nat) : b₀.Keeps S (b.putLimits f t w o allowC allowS pc ps) ↔ b₀.Keeps S b :=
  Keeps.step hS (by unfold Block.putLimits; simp)

@[simp] theorem keeps_putAverages (hS : [.regs] ⊆ S) (b : Block) (f : Nat) : b₀.Keeps S (b.putAverages f) ↔ b₀.Keeps S b :=
  Keeps.step hS (by unfold Block.putAverages; simp)

@[simp] theorem keeps_putDemand (hS : [.regs] ⊆ S) (b : Block) (f : Nat) (l : List Load) (elec therm : Int) :
    b₀.Keeps S (b.putDemand f l elec therm) ↔ b₀.Keeps S b := Keeps.step hS (by unfold Block.putDemand; simp)

@[simp] theorem keeps_limitPlan (hS : [.regs, .parcels, .fields, .traces] ⊆ S) (b : Block) (now f : Nat) :
    b₀.Keeps S (b.limitPlan now f) ↔ b₀.Keeps S b := Keeps.step hS (by
  unfold limitPlan
  refine (keeps_cond fun b => (keeps_limitRecord (by simp) ..).2 (Keeps.refl ..)).2 ?_
  refine (keeps_cond fun b => (keeps_limitRecord (by simp) ..).2 (Keeps.refl ..)).2 ?_
  refine (keeps_cond fun b => (keeps_limitRecord (by simp) ..).2 (Keeps.refl ..)).2 ?_
  refine (keeps_wr (by simp) ..).2 ((keeps_wr (by simp) ..).2 ((keeps_wr (by simp) ..).2 ?_))
  refine (keeps_cond fun b => (keeps_inc (by simp) ..).2 (Keeps.refl ..)).2 ?_
  refine (keeps_wrB (by simp) ..).2 ((keeps_wrB (by simp) ..).2 ((keeps_putDemand (by simp) ..).2 ?_))
  refine (keeps_putAverages (by simp) ..).2 ((keeps_putLimits (by simp) ..).2 ((keeps_modFu (by simp) ..).2 ?_))
  refine (keeps_each fun b s => (keeps_modParcel (by simp) ..).2 (Keeps.refl ..)).2 ?_
  refine (keeps_each fun b s => (keeps_putPlan (by simp) ..).2 (Keeps.refl ..)).2 ?_
  refine (keeps_each fun b x => (keeps_putPlan (by simp) ..).2 (Keeps.refl ..)).2 ?_
  refine (keeps_each fun b s => (keeps_add2 (by simp) ..).2 (Keeps.refl ..)).2 ?_
  refine (keeps_each fun b p => (keeps_predictions (by simp) ..).2 (Keeps.refl ..)).2 ?_
  exact (keeps_formReport (by simp) ..).2 (Keeps.refl ..))

@[simp] theorem keeps_markOverrun (hS : [.regs] ⊆ S) (b : Block) (now f : Nat) : b₀.Keeps S (b.markOverrun now f) ↔ b₀.Keeps S b :=
  Keeps.step hS (by unfold Block.markOverrun; simp)

@[simp] theorem keeps_repeatPlan (hS : [.agents, .parcels] ⊆ S) (b : Block) (f s : Nat) (planned : Bool) :
    b₀.Keeps S (b.repeatPlan f s planned) ↔ b₀.Keeps S b := Keeps.step hS (by unfold Block.repeatPlan; simp)

/-! ### Machine/CapDivision.lean -/

@[simp] theorem keeps_capDivision (hS : [.regs, .hub] ⊆ S) (b : Block) (n : Nat) : b₀.Keeps S (b.capDivision n) ↔ b₀.Keeps S b :=
  Keeps.step hS (by unfold Block.capDivision; simp)

/-! ### Machine/Agents.lean -/

@[simp] theorem keeps_gatesTo (hS : [.agents] ⊆ S) (b : Block) (f s ec : Nat) : b₀.Keeps S (b.gatesTo f s ec) ↔ b₀.Keeps S b :=
  Keeps.step hS (by unfold Block.gatesTo; simp)

@[simp] theorem keeps_droopEvent (hS : [.agents] ⊆ S) (b : Block) (now f s : Nat) (t2 second : Bool) (margin ec : Nat) :
    b₀.Keeps S (b.droopEvent now f s t2 second margin ec) ↔ b₀.Keeps S b := Keeps.step hS (by unfold Block.droopEvent; simp)

@[simp] theorem keeps_droopRecord (hS : [.regs, .fields, .traces] ⊆ S) (b : Block) (f s : Nat) (w : DroopWord) :
    b₀.Keeps S (b.droopRecord f s w) ↔ b₀.Keeps S b := Keeps.step hS (by unfold Block.droopRecord; simp)

@[simp] theorem keeps_takeWord (hS : [.regs, .fields, .traces] ⊆ S) (b : Block) (f s : Nat) (w : DroopWord) :
    b₀.Keeps S (b.takeWord f s w) ↔ b₀.Keeps S b := Keeps.step hS (by unfold Block.takeWord; simp)

@[simp] theorem keeps_parcelStart (hS : [.agents] ⊆ S) (b : Block) (f s cls : Nat) (crit unticketed : Bool) :
    b₀.Keeps S (b.parcelStart f s cls crit unticketed) ↔ b₀.Keeps S b := Keeps.step hS (by unfold Block.parcelStart; simp)

@[simp] theorem keeps_waitCritical (hS : [.agents] ⊆ S) (b : Block) (f s : Nat) (crit : Bool) :
    b₀.Keeps S (b.waitCritical f s crit) ↔ b₀.Keeps S b := Keeps.step hS (by unfold Block.waitCritical; simp)

@[simp] theorem keeps_debitOne (hS : [.rings] ⊆ S) (b : Block) (f s : Nat) (d : Nat × Bool) :
    b₀.Keeps S (b.debitOne f s d) ↔ b₀.Keeps S b := Keeps.step hS (by unfold Block.debitOne; simp)

@[simp] theorem keeps_debitPass (hS : [.agents, .rings] ⊆ S) (b : Block) (f s : Nat) :
    b₀.Keeps S (b.debitPass f s) ↔ b₀.Keeps S b := Keeps.step hS (by unfold Block.debitPass; simp)

@[simp] theorem keeps_drawPass (hS : [.regs, .agents, .rings] ⊆ S) (b : Block) (f s : Nat) :
    b₀.Keeps S (b.drawPass f s) ↔ b₀.Keeps S b := Keeps.step hS (by unfold Block.drawPass; split <;> simp)

@[simp] theorem keeps_rampAgent (hS : [.regs, .agents] ⊆ S) (b : Block) (f s : Nat) (held : Bool) :
    b₀.Keeps S (b.rampAgent f s held) ↔ b₀.Keeps S b :=
  Keeps.step hS (by unfold Block.rampAgent; dsimp only; (repeat' split) <;> simp)

/-! ### Machine/Regulator.lean -/

@[simp] theorem keeps_setPhaseState (hS : [.regs, .rails, .phases] ⊆ S) (b : Block) (now f p st : Nat) :
    b₀.Keeps S (b.setPhaseState now f p st) ↔ b₀.Keeps S b := Keeps.step hS (by unfold Block.setPhaseState; simp)

@[simp] theorem keeps_restoreAll (hS : [.regs, .rails, .phases] ⊆ S) (b : Block) (now f rl : Nat) :
    b₀.Keeps S (b.restoreAll now f rl) ↔ b₀.Keeps S b := Keeps.step hS (by unfold Block.restoreAll; simp)

@[simp] theorem keeps_allActive (hS : [.regs, .rails, .phases] ⊆ S) (b : Block) (now f rl : Nat) (held : Bool) :
    b₀.Keeps S (b.allActive now f rl held) ↔ b₀.Keeps S b := Keeps.step hS (by unfold Block.allActive; simp)

@[simp] theorem keeps_shedAdd (hS : [.regs, .rails, .phases] ⊆ S) (b : Block) (now f rl : Nat) :
    b₀.Keeps S (b.shedAdd now f rl) ↔ b₀.Keeps S b := Keeps.step hS (by unfold Block.shedAdd; dsimp only; (repeat' split) <;> simp)

@[simp] theorem keeps_select (hS : [.regs, .fields, .traces] ⊆ S) (b : Block) (now f rl k : Nat) :
    b₀.Keeps S (b.select now f rl k) ↔ b₀.Keeps S b := Keeps.step hS (by unfold Block.select; simp)

@[simp] theorem keeps_seqSelect (hS : [.regs, .fields, .traces] ⊆ S) (b : Block) (now f rl code : Nat) :
    b₀.Keeps S (b.seqSelect now f rl code) ↔ b₀.Keeps S b := Keeps.step hS (by unfold Block.seqSelect; simp)

@[simp] theorem keeps_retarget (hS : [.regs, .fields, .traces] ⊆ S) (b : Block) (now f : Nat) :
    b₀.Keeps S (b.retarget now f) ↔ b₀.Keeps S b := Keeps.step hS (by unfold Block.retarget; simp)

@[simp] theorem keeps_withhold (hS : [.phases] ⊆ S) (b : Block) (f rl p t : Nat) :
    b₀.Keeps S (b.withhold f rl p t) ↔ b₀.Keeps S b := Keeps.step hS (by unfold Block.withhold; simp)

@[simp] theorem keeps_lastFault (hS : [.regs, .mon] ⊆ S) (b : Block) (now f cause rail phase : Nat) (i : LastFaultIn) :
    b₀.Keeps S (b.lastFault now f cause rail phase i) ↔ b₀.Keeps S b := Keeps.step hS (by unfold Block.lastFault; simp)

@[simp] theorem keeps_agentsOff (hS : [.agents] ⊆ S) (b : Block) (f : Nat) : b₀.Keeps S (b.agentsOff f) ↔ b₀.Keeps S b :=
  Keeps.step hS ⟨fun p _ => by cases p <;> trivial⟩

@[simp] theorem keeps_startRundown (hS : [.hub] ⊆ S) (b : Block) (now : Nat) : b₀.Keeps S (b.startRundown now) ↔ b₀.Keeps S b :=
  Keeps.step hS (by unfold Block.startRundown; simp)

@[simp] theorem keeps_railFlagsOff (hS : [.regs] ⊆ S) (b : Block) (f rl : Nat) : b₀.Keeps S (b.railFlagsOff f rl) ↔ b₀.Keeps S b :=
  Keeps.step hS (by unfold Block.railFlagsOff; simp)

@[simp] theorem keeps_railOff (hS : [.regs, .rails] ⊆ S) (b : Block) (f rl : Nat) : b₀.Keeps S (b.railOff f rl) ↔ b₀.Keeps S b :=
  Keeps.step hS (by unfold Block.railOff; simp)

@[simp] theorem keeps_pairOff (hS : [.regs, .agents, .fields, .rails] ⊆ S) (b : Block) (f : Nat) :
    b₀.Keeps S (b.pairOff f) ↔ b₀.Keeps S b := Keeps.step hS (by unfold Block.pairOff; simp)

@[simp] theorem keeps_disableDone (hS : [.regs, .ports, .hub] ⊆ S) (b : Block) (now f : Nat) :
    b₀.Keeps S (b.disableDone now f) ↔ b₀.Keeps S b :=
  Keeps.step hS (by unfold Block.disableDone; simp (disch := (intros; split <;> simp)))

@[simp] theorem keeps_enableDone (hS : [.regs, .ports, .hub] ⊆ S) (b : Block) (now f : Nat) (back : Bool) :
    b₀.Keeps S (b.enableDone now f back) ↔ b₀.Keeps S b :=
  Keeps.step hS (by unfold Block.enableDone; simp (disch := (intros; split <;> simp)))

@[simp] theorem keeps_latchOff (hS : [.regs, .fields, .rails, .ports, .mon, .hub] ⊆ S) (b : Block) (now f cause rail phase : Nat)
    (i : LastFaultIn) : b₀.Keeps S (b.latchOff now f cause rail phase i) ↔ b₀.Keeps S b :=
  Keeps.step hS (by unfold Block.latchOff; simp)

@[simp] theorem keeps_latchMark (hS : [.regs, .agents, .fields, .rails, .ports, .hub] ⊆ S) (b : Block) (now f : Nat) :
    b₀.Keeps S (b.latchMark now f) ↔ b₀.Keeps S b := Keeps.step hS (by unfold Block.latchMark; split <;> simp)

@[simp] theorem keeps_vinStop (hS : [.regs, .agents, .fields, .rails, .ports, .mon, .hub, .faults] ⊆ S) (b : Block) (now f : Nat)
    (i : LastFaultIn) : b₀.Keeps S (b.vinStop now f i) ↔ b₀.Keeps S b := Keeps.step hS (by unfold Block.vinStop; simp)

@[simp] theorem keeps_softStart (hS : [.regs, .fields, .rails, .phases, .hub, .pins] ⊆ S) (b : Block) (now f : Nat) :
    b₀.Keeps S (b.softStart now f) ↔ b₀.Keeps S b := Keeps.step hS (by unfold Block.softStart; simp)

@[simp] theorem keeps_softStop (hS : [.regs, .fields, .rails] ⊆ S) (b : Block) (now f cause : Nat) :
    b₀.Keeps S (b.softStop now f cause) ↔ b₀.Keeps S b := Keeps.step hS (by unfold Block.softStop; simp (maxDischargeDepth := 5))

@[simp] theorem keeps_enableField (hS : [.regs, .fields, .mon, .nv] ⊆ S) (b : Block) (now f : Nat) :
    b₀.Keeps S (b.enableField now f) ↔ b₀.Keeps S b := Keeps.step hS (by unfold Block.enableField; simp)

/-! ### Machine/Margin.lean -/

@[simp] theorem keeps_staggerStop (hS : [.regs, .agents] ⊆ S) (b : Block) (f : Nat) : b₀.Keeps S (b.staggerStop f) ↔ b₀.Keeps S b :=
  Keeps.step hS (by unfold Block.staggerStop; simp)

@[simp] theorem keeps_shapeStop (hS : [.agents] ⊆ S) (b : Block) (f : Nat) : b₀.Keeps S (b.shapeStop f) ↔ b₀.Keeps S b :=
  Keeps.step hS (by unfold Block.shapeStop; simp)

@[simp] theorem keeps_followEnables (hS : [.regs, .agents] ⊆ S) (b : Block) (f : Nat) :
    b₀.Keeps S (b.followEnables f) ↔ b₀.Keeps S b := Keeps.step hS (by unfold Block.followEnables; simp)

@[simp] theorem keeps_t2Enter (hS : [.regs, .fields, .faults] ⊆ S) (b : Block) (now f : Nat) :
    b₀.Keeps S (b.t2Enter now f) ↔ b₀.Keeps S b := Keeps.step hS (by unfold Block.t2Enter; simp)

@[simp] theorem keeps_evalMargin (hS : [.regs, .agents, .fields, .traces, .faults] ⊆ S) (b : Block) (now f : Nat) :
    b₀.Keeps S (b.evalMargin now f) ↔ b₀.Keeps S b := Keeps.step hS (by unfold Block.evalMargin; simp)

/-! ### Machine/Tickets.lean -/

@[simp] theorem keeps_ticketError (hS : [.regs, .fields, .faults] ⊆ S) (b : Block) (now f code task off : Nat) :
    b₀.Keeps S (b.ticketError now f code task off) ↔ b₀.Keeps S b := Keeps.step hS (by unfold Block.ticketError; simp)

@[simp] theorem keeps_send (hS : [.fields] ⊆ S) (b : Block) (f : Nat) (o : TkOut) : b₀.Keeps S (b.send f o) ↔ b₀.Keeps S b :=
  Keeps.step hS (by unfold Block.send; simp)

@[simp] theorem keeps_modQueue (hS : [.fields] ⊆ S) (b : Block) (f q : Nat) (g : List Nat → List Nat) :
    b₀.Keeps S (b.modQueue f q g) ↔ b₀.Keeps S b := Keeps.step hS (by unfold Block.modQueue; simp)

@[simp] theorem keeps_dequeue (hS : [.fields] ⊆ S) (b : Block) (f k : Nat) : b₀.Keeps S (b.dequeue f k) ↔ b₀.Keeps S b :=
  Keeps.step hS (by unfold Block.dequeue; simp)

@[simp] theorem keeps_grant (hS : [.regs, .agents, .slots, .fields, .traces, .hub] ⊆ S) (b : Block) (now off f k : Nat)
    (fast aged : Bool) : b₀.Keeps S (b.grant now off f k fast aged) ↔ b₀.Keeps S b := Keeps.step hS (by unfold Block.grant; simp)

@[simp] theorem keeps_place (hS : [.regs, .agents, .slots, .fields, .traces, .hub] ⊆ S) (b : Block) (now off f k : Nat)
    (m : TkRequest) (reqTick : Nat) (wq : Bool) : b₀.Keeps S (b.place now off f k m reqTick wq) ↔ b₀.Keeps S b :=
  Keeps.step hS (by unfold Block.place; simp)

@[simp] theorem keeps_waferAppend (hS : [.regs, .fields, .hub] ⊆ S) (b : Block) (f : Nat) (m : TkRequest) (reqTick : Nat) :
    b₀.Keeps S (b.waferAppend f m reqTick) ↔ b₀.Keeps S b := Keeps.step hS (by unfold Block.waferAppend; simp)

@[simp] theorem keeps_decideReq (hS : [.regs, .agents, .slots, .fields, .traces, .hub, .faults] ⊆ S) (b : Block) (now off f : Nat)
    (m : TkRequest) (reqTick : Nat) : b₀.Keeps S (b.decideReq now off f m reqTick) ↔ b₀.Keeps S b :=
  Keeps.step hS (by unfold Block.decideReq; split <;> simp)

@[simp] theorem keeps_ticketStart (hS : [.regs, .agents, .parcels, .slots, .fields, .traces, .faults] ⊆ S) (b : Block)
    (now f k off : Nat) : b₀.Keeps S (b.ticketStart now f k off) ↔ b₀.Keeps S b :=
  Keeps.step hS (by unfold Block.ticketStart; simp (maxDischargeDepth := 5))

@[simp] theorem keeps_cancelTicket (hS : [.regs, .agents, .slots, .fields] ⊆ S) (b : Block) (now f k : Nat) :
    b₀.Keeps S (b.cancelTicket now f k) ↔ b₀.Keeps S b := Keeps.step hS (by unfold Block.cancelTicket; simp)

@[simp] theorem keeps_ticketEnd (hS : [.regs, .agents, .parcels, .slots, .fields, .traces, .faults] ⊆ S) (b : Block)
    (now f k off : Nat) : b₀.Keeps S (b.ticketEnd now f k off) ↔ b₀.Keeps S b := Keeps.step hS (by unfold Block.ticketEnd; simp)

@[simp] theorem keeps_handle (hS : [.regs, .agents, .parcels, .slots, .fields, .traces, .hub, .faults] ⊆ S) (b : Block)
    (now off f : Nat) (x : TkIn) : b₀.Keeps S (b.handle now off f x) ↔ b₀.Keeps S b := Keeps.step hS (by cases x <;> simp [handle])

@[simp] theorem keeps_inbound (hS : [.regs, .agents, .parcels, .slots, .fields, .traces, .hub, .faults] ⊆ S) (b : Block)
    (now off f : Nat) (wait : Bool) (x : TkIn) :
    b₀.Keeps S (b.inbound now off f wait x) ↔ b₀.Keeps S b := Keeps.step hS (by unfold inbound; split <;> simp)

theorem presentQueue_keeps (now f : Nat) (l : List Nat) (i most : Nat) (b : Block) :
    b.Keeps [.regs, .agents, .slots, .fields, .traces, .hub] (presentQueue now f l i most b).2 := by
  induction l generalizing i b with
  | nil => simp [presentQueue]
  | cons k rest ih =>
    unfold presentQueue
    dsimp only
    (repeat' split)
    · exact ih _ _
    · exact Keeps.refl _ _
    · exact .trans (by simp) (ih _ _)
    · exact Keeps.refl _ _

theorem foldl_snd_keeps {α β : Type} {g : α × Block → β → α × Block} (hg : ∀ (x : α × Block) y, x.2.Keeps S (g x y).2) (l : List β) (x : α × Block) :
    x.2.Keeps S (l.foldl g x).2 := by
  induction l generalizing x with
  | nil => exact Keeps.refl _ _
  | cons y l ih => exact (hg x y).trans (ih _)

@[simp] theorem keeps_represent (hS : [.regs, .agents, .slots, .fields, .traces, .hub] ⊆ S) (b : Block) (now f : Nat) :
    b₀.Keeps S (b.represent now f) ↔ b₀.Keeps S b := Keeps.step hS (by
  unfold represent
  split
  · simp
  · exact foldl_snd_keeps (x := (0, b)) (fun _ _ => presentQueue_keeps ..) _)

/-! ### Machine/WaitFor.lean -/

@[simp] theorem keeps_startBuild (hS : [.regs, .hub] ⊆ S) (b : Block) (now trigger fld : Nat) :
    b₀.Keeps S (b.startBuild now trigger fld) ↔ b₀.Keeps S b := Keeps.step hS (by unfold Block.startBuild; simp)

@[simp] theorem keeps_captureEdges (hS : [.hub] ⊆ S) (b : Block) (now : Nat) : b₀.Keeps S (b.captureEdges now) ↔ b₀.Keeps S b :=
  Keeps.step hS (by unfold Block.captureEdges; simp)

@[simp] theorem keeps_shareEval (hS : [.ctxs] ⊆ S) (b : Block) (period n : Nat) :
    b₀.Keeps S (b.shareEval period n) ↔ b₀.Keeps S b := Keeps.step hS (by unfold Block.shareEval; simp)

@[simp] theorem keeps_abortTicket (hS : [.regs, .slots, .colls, .fields, .traces] ⊆ S) (b : Block) (now f k : Nat) :
    b₀.Keeps S (b.abortTicket now f k) ↔ b₀.Keeps S b := Keeps.step hS (by unfold Block.abortTicket; simp)

/-! ### Machine/Accounts.lean -/

@[simp] theorem keeps_changeAcct (hS : [.accounts] ⊆ S) (b : Block) (n : Nat) (g : Account → Account) :
    b₀.Keeps S (b.changeAcct n g) ↔ b₀.Keeps S b := Keeps.step hS (by unfold Block.changeAcct; simp)

@[simp] theorem keeps_openAccount (hS : [.regs, .ctxs, .accounts, .ports, .hub] ⊆ S) (b : Block) (now n : Nat) :
    b₀.Keeps S (b.openAccount now n) ↔ b₀.Keeps S b := Keeps.step hS (by unfold Block.openAccount; simp)

@[simp] theorem keeps_closeAccount (hS : [.ctxs, .accounts] ⊆ S) (b : Block) (n cause : Nat) :
    b₀.Keeps S (b.closeAccount n cause) ↔ b₀.Keeps S b := Keeps.step hS (by unfold Block.closeAccount; simp)

@[simp] theorem keeps_abortAccount (hS : [.ctxs, .accounts] ⊆ S) (b : Block) (now n cause : Nat) :
    b₀.Keeps S (b.abortAccount now n cause) ↔ b₀.Keeps S b := Keeps.step hS (by unfold Block.abortAccount; simp)

@[simp] theorem keeps_acceptClose (hS : [.regs, .ports, .hub] ⊆ S) (b : Block) (now n : Nat) :
    b₀.Keeps S (b.acceptClose now n) ↔ b₀.Keeps S b :=
  Keeps.step hS (by unfold Block.acceptClose; simp (disch := (intros; split <;> simp)))

@[simp] theorem keeps_ctxBoundary (hS : [.regs, .ctxs, .accounts, .ports, .hub] ⊆ S) (b : Block) (now n : Nat) :
    b₀.Keeps S (b.ctxBoundary now n) ↔ b₀.Keeps S b :=
  Keeps.step hS (by unfold Block.ctxBoundary; dsimp only; (repeat' split) <;> simp)

@[simp] theorem keeps_drainError (hS : [.regs, .fields, .faults] ⊆ S) (b : Block) (now f : Nat) :
    b₀.Keeps S (b.drainError now f) ↔ b₀.Keeps S b := Keeps.step hS (by unfold Block.drainError; simp)

@[simp] theorem keeps_countParcel (hS : [.regs, .colls, .fields] ⊆ S) (b : Block) (f t s : Nat) (l : List (Nat × Slot))
    (mValid : Bool) : b₀.Keeps S (b.countParcel f t s l mValid) ↔ b₀.Keeps S b := Keeps.step hS (by unfold Block.countParcel; simp)

@[simp] theorem keeps_countBreach (hS : [.regs, .hub] ⊆ S) (b : Block) (f t : Nat) :
    b₀.Keeps S (b.countBreach f t) ↔ b₀.Keeps S b := Keeps.step hS (by unfold Block.countBreach; simp)

/-! ### Machine/Thermal.lean -/

@[simp] theorem keeps_publishLevel (hS : [.regs, .hub] ⊆ S) (b : Block) : b₀.Keeps S b.publishLevel ↔ b₀.Keeps S b :=
  Keeps.step hS (by unfold Block.publishLevel; simp)

@[simp] theorem keeps_thermalIrq (hS : [.regs] ⊆ S) (b : Block) (en : Fld) : b₀.Keeps S (b.thermalIrq en) ↔ b₀.Keeps S b :=
  Keeps.step hS (by unfold Block.thermalIrq; simp)

@[simp] theorem keeps_putCad (hS : [.cad, .mon, .nv] ⊆ S) (b : Block) (now f s : Nat) (g : Cad → Cad) :
    b₀.Keeps S (b.putCad now f s g) ↔ b₀.Keeps S b := Keeps.step hS (by unfold Block.putCad; simp)

@[simp] theorem keeps_undoRemap (hS : [.cad, .sensors, .mon, .nv] ⊆ S) (b : Block) (now f g : Nat) :
    b₀.Keeps S (b.undoRemap now f g) ↔ b₀.Keeps S b := Keeps.step hS (by unfold Block.undoRemap; simp (maxDischargeDepth := 5))

@[simp] theorem keeps_liftSubstitute (hS : [.regs, .parcels, .hub] ⊆ S) (b : Block) (f s : Nat) :
    b₀.Keeps S (b.liftSubstitute f s) ↔ b₀.Keeps S b := Keeps.step hS (by unfold Block.liftSubstitute; simp)

@[simp] theorem keeps_liftDues (hS : [.parcels] ⊆ S) (b : Block) (f : Nat) : b₀.Keeps S (b.liftDues f) ↔ b₀.Keeps S b :=
  Keeps.step hS (by unfold Block.liftDues; simp)

@[simp] theorem keeps_remapBoundary (hS : [.regs, .parcels, .cad, .sensors, .ports, .mon, .nv, .hub] ⊆ S) (b : Block)
    (now f s : Nat) : b₀.Keeps S (b.remapBoundary now f s) ↔ b₀.Keeps S b :=
  Keeps.step hS (by unfold Block.remapBoundary; dsimp only; (repeat' split) <;> simp)

@[simp] theorem keeps_putThermLim (hS : [.regs] ⊆ S) (b : Block) (f : Nat) : b₀.Keeps S (b.putThermLim f) ↔ b₀.Keeps S b :=
  Keeps.step hS (by unfold Block.putThermLim; simp)

@[simp] theorem keeps_throttleSlot (hS : [.regs, .parcels] ⊆ S) (b : Block) (f s : Nat) (limit : Int) :
    b₀.Keeps S (b.throttleSlot f s limit) ↔ b₀.Keeps S b := Keeps.step hS (by unfold Block.throttleSlot; simp)

@[simp] theorem keeps_flowSample (hS : [.regs, .hub] ⊆ S) (b : Block) (now : Nat) (ok : Bool) :
    b₀.Keeps S (b.flowSample now ok) ↔ b₀.Keeps S b := Keeps.step hS (by unfold Block.flowSample; simp)

/-! ### Machine/Tie.lean -/

@[simp] theorem keeps_tieRecord (hS : [.regs, .fields, .traces] ⊆ S) (b : Block) (now off code k type seqNo : Nat) :
    b₀.Keeps S (b.tieRecord now off code k type seqNo) ↔ b₀.Keeps S b := Keeps.step hS (by unfold Block.tieRecord; simp)

@[simp] theorem keeps_sendFrame (hS : [.regs, .fields, .traces, .ties] ⊆ S) (b : Block) (now off k type : Nat) (payload : List Nat)
    : b₀.Keeps S (b.sendFrame now off k type payload) ↔ b₀.Keeps S b := Keeps.step hS (by unfold Block.sendFrame; simp)

@[simp] theorem keeps_sendAll (hS : [.regs, .fields, .traces, .ties] ⊆ S) (b : Block) (now off : Nat) (ports : List Nat)
    (type : Nat) (payload : List Nat) : b₀.Keeps S (b.sendAll now off ports type payload) ↔ b₀.Keeps S b :=
  Keeps.step hS (by unfold Block.sendAll; simp)

@[simp] theorem keeps_outsideGroup (hS : [.regs, .ports, .ties, .hub] ⊆ S) (b : Block) (now : Nat) :
    b₀.Keeps S (b.outsideGroup now) ↔ b₀.Keeps S b := Keeps.step hS (by unfold Block.outsideGroup; simp (maxDischargeDepth := 5))

@[simp] theorem keeps_leaveGroup (hS : [.regs, .fields, .ports, .traces, .ties, .hub] ⊆ S) (b : Block) (now off cause : Nat) :
    b₀.Keeps S (b.leaveGroup now off cause) ↔ b₀.Keeps S b := Keeps.step hS (by unfold Block.leaveGroup; simp)

@[simp] theorem keeps_freezeGroup (hS : [.regs, .fields, .traces, .ties, .hub] ⊆ S) (b : Block) (now off k : Nat) (who : Nat) :
    b₀.Keeps S (b.freezeGroup now off k who) ↔ b₀.Keeps S b := Keeps.step hS (by unfold Block.freezeGroup; simp)

@[simp] theorem keeps_countThaw (hS : [.regs, .fields, .traces, .ties, .hub] ⊆ S) (b : Block) (now off : Nat) :
    b₀.Keeps S (b.countThaw now off) ↔ b₀.Keeps S b := Keeps.step hS (by unfold Block.countThaw; simp)

@[simp] theorem keeps_sendThaw (hS : [.regs, .fields, .traces, .ties, .hub] ⊆ S) (b : Block) (now off : Nat) :
    b₀.Keeps S (b.sendThaw now off) ↔ b₀.Keeps S b := Keeps.step hS (by unfold Block.sendThaw; simp)

@[simp] theorem keeps_restorePort (hS : [.regs, .fields, .traces, .ties, .hub] ⊆ S) (b : Block) (now off k : Nat) :
    b₀.Keeps S (b.restorePort now off k) ↔ b₀.Keeps S b := Keeps.step hS (by unfold Block.restorePort; simp)

@[simp] theorem keeps_portDown (hS : [.regs, .fields, .traces, .ties, .hub] ⊆ S) (b : Block) (now off k : Nat) :
    b₀.Keeps S (b.portDown now off k) ↔ b₀.Keeps S b := Keeps.step hS (by unfold Block.portDown; simp)

@[simp] theorem keeps_sendProbe (hS : [.regs, .fields, .traces, .ties] ⊆ S) (b : Block) (now off k : Nat) :
    b₀.Keeps S (b.sendProbe now off k) ↔ b₀.Keeps S b := Keeps.step hS (by unfold Block.sendProbe; simp)

@[simp] theorem keeps_receive (hS : [.regs, .fields, .traces, .ties] ⊆ S) (b : Block) (now off k type seqNo : Nat) (l : List Nat)
    {g : Block → Block} (hg : ∀ b : Block, b.Keeps S (g b)) :
    b₀.Keeps S (b.receive now off k type seqNo l g) ↔ b₀.Keeps S b := by
  refine Keeps.step (List.Subset.refl S) ?_
  unfold receive
  split
  · refine Keeps.trans ?_ (hg _)
    simp only [List.cons_subset] at hS
    simp [hS]
  · simp

@[simp] theorem keeps_retrain (hS : [.regs, .ties] ⊆ S) (b : Block) (now : Nat) : b₀.Keeps S (b.retrain now) ↔ b₀.Keeps S b :=
  Keeps.step hS (by unfold Block.retrain; simp)

/-! ### Machine/Contour.lean -/

@[simp] theorem keeps_stepRecord (hS : [.regs, .fields, .traces] ⊆ S) (b : Block) (now off kind plumb new old id due : Nat) :
    b₀.Keeps S (b.stepRecord now off kind plumb new old id due) ↔ b₀.Keeps S b := Keeps.step hS (by unfold Block.stepRecord; simp)

@[simp] theorem keeps_addStep (hS : [.regs, .fields, .traces, .hub] ⊆ S) (b : Block) (now off : Nat) (x : Step) :
    b₀.Keeps S (b.addStep now off x) ↔ b₀.Keeps S b := Keeps.step hS (by unfold Block.addStep; simp)

@[simp] theorem keeps_announce (hS : [.regs, .fields, .traces, .ties, .hub] ⊆ S) (b : Block) (now off point due : Nat)
    (plumb : Option Nat) (ends : Bool) : b₀.Keeps S (b.announce now off point due plumb ends) ↔ b₀.Keeps S b :=
  Keeps.step hS (by unfold Block.announce; simp)

@[simp] theorem keeps_stepCmd (hS : [.regs, .fields, .ports, .traces, .ties, .hub] ⊆ S) (b : Block) (now off pt point due : Nat)
    (byTick : Bool) : b₀.Keeps S (b.stepCmd now off pt point due byTick) ↔ b₀.Keeps S b :=
  Keeps.step hS (by unfold Block.stepCmd; simp)

@[simp] theorem keeps_countDones (hS : [.regs, .hub] ⊆ S) (b : Block) : b₀.Keeps S b.countDones ↔ b₀.Keeps S b :=
  Keeps.step hS (by unfold Block.countDones; simp)

@[simp] theorem keeps_reportStep (hS : [.regs, .fields, .traces, .ties, .hub, .faults, .free] ⊆ S) (b : Block) (now : Nat) (x : Step) :
    b₀.Keeps S (b.reportStep now x) ↔ b₀.Keeps S b := Keeps.step hS (by
  unfold reportStep
  split
  · simp
  · by_cases h : x.kind = 1 <;> simp [h])

@[simp] theorem keeps_joined (hS : [.regs, .ports, .hub] ⊆ S) (b : Block) (now : Nat) : b₀.Keeps S (b.joined now) ↔ b₀.Keeps S b :=
  Keeps.step hS (by unfold Block.joined; simp)

@[simp] theorem keeps_applyStep (hS : [.regs, .fields, .ports, .traces, .ties, .hub, .faults, .free] ⊆ S) (b : Block) (now : Nat)
    (x : Step) : b₀.Keeps S (b.applyStep now x) ↔ b₀.Keeps S b := Keeps.step hS (by unfold Block.applyStep; simp)

@[simp] theorem keeps_plumbEnd (hS : [.regs, .ports, .hub] ⊆ S) (b : Block) (now : Nat) :
    b₀.Keeps S (b.plumbEnd now) ↔ b₀.Keeps S b := Keeps.step hS (by unfold Block.plumbEnd; split <;> simp)

@[simp] theorem keeps_plumbSoon (hS : [.hub] ⊆ S) (b : Block) (now : Nat) (on : Bool) :
    b₀.Keeps S (b.plumbSoon now on) ↔ b₀.Keeps S b := Keeps.step hS (by unfold Block.plumbSoon; simp)

/-! ### Machine/Lock.lean -/

@[simp] theorem keeps_learn (hS : [.hub] ⊆ S) (b : Block) (id : Nat) : b₀.Keeps S (b.learn id) ↔ b₀.Keeps S b :=
  Keeps.step hS (by unfold Block.learn; simp)

@[simp] theorem keeps_takeJoin (hS : [.regs, .fields, .traces, .ties, .hub] ⊆ S) (b : Block) (now off k g id : Nat) :
    b₀.Keeps S (b.takeJoin now off k g id) ↔ b₀.Keeps S b := Keeps.step hS (by unfold Block.takeJoin; simp)

@[simp] theorem keeps_catchUp (hS : [.regs, .fields, .traces, .hub] ⊆ S) (b : Block) (now off point : Nat) (plumb : Bool)
    (id kind : Nat) : b₀.Keeps S (b.catchUp now off point plumb id kind) ↔ b₀.Keeps S b :=
  Keeps.step hS (by unfold Block.catchUp; simp)

@[simp] theorem keeps_joinBoundary (hS : [.regs, .ports, .hub] ⊆ S) (b : Block) (now : Nat) :
    b₀.Keeps S (b.joinBoundary now) ↔ b₀.Keeps S b := Keeps.step hS (by unfold Block.joinBoundary; simp)

@[simp] theorem keeps_takeLeave (hS : [.regs, .fields, .ports, .traces, .ties, .hub] ⊆ S) (b : Block) (now off k g cause id : Nat) :
    b₀.Keeps S (b.takeLeave now off k g cause id) ↔ b₀.Keeps S b := Keeps.step hS (by unfold Block.takeLeave; simp)

@[simp] theorem keeps_takeSync (hS : [.regs, .fields, .traces, .ties, .hub, .faults] ⊆ S) (b : Block) (now off k g point : Nat)
    (plumb : Bool) (id : Nat) : b₀.Keeps S (b.takeSync now off k g point plumb id) ↔ b₀.Keeps S b :=
  Keeps.step hS (by unfold Block.takeSync; simp)

@[simp] theorem keeps_takeRequest (hS : [.regs, .fields, .traces, .ties, .hub] ⊆ S) (b : Block) (now off g point id : Nat) :
    b₀.Keeps S (b.takeRequest now off g point id) ↔ b₀.Keeps S b := Keeps.step hS (by unfold Block.takeRequest; simp)

@[simp] theorem keeps_takeHeld (hS : [.regs, .fields, .ports, .traces, .ties, .hub, .faults] ⊆ S) (b : Block) (now off k : Nat) (x : HeldFrame) :
    b₀.Keeps S (b.takeHeld now off k x) ↔ b₀.Keeps S b := Keeps.step hS (by cases x <;> simp [takeHeld])

@[simp] theorem keeps_forH0 (hS : [.regs, .fields, .ports, .traces, .ties, .hub, .faults] ⊆ S) (b : Block) (now off k : Nat) (x : HeldFrame) :
    b₀.Keeps S (b.forH0 now off k x) ↔ b₀.Keeps S b := Keeps.step hS (by unfold forH0; split <;> simp)

@[simp] theorem keeps_drainHeld (hS : [.regs, .fields, .ports, .traces, .ties, .hub, .faults] ⊆ S) (b : Block) (now off : Nat) :
    b₀.Keeps S (b.drainHeld now off) ↔ b₀.Keeps S b := Keeps.step hS (by unfold drainHeld; simp (disch := (intros; split <;> simp)))

/-! ### Machine/Trace.lean -/

@[simp] theorem keeps_captureChange (hS : [.regs, .fields, .traces] ⊆ S) (b : Block) (now k : Nat) (was : Bool) :
    b₀.Keeps S (b.captureChange now k was) ↔ b₀.Keeps S b := Keeps.step hS (by unfold Block.captureChange; simp)

@[simp] theorem keeps_triggerAll (hS : [.regs, .traces] ⊆ S) (b : Block) (now off kind : Nat) (l : List Nat) :
    b₀.Keeps S (b.triggerAll now off kind l) ↔ b₀.Keeps S b := Keeps.step hS (by unfold Block.triggerAll; simp)

@[simp] theorem keeps_trigNow (hS : [.regs, .traces] ⊆ S) (b : Block) (now off : Nat) :
    b₀.Keeps S (b.trigNow now off) ↔ b₀.Keeps S b := Keeps.step hS (by unfold Block.trigNow; simp)

@[simp] theorem keeps_followTrigger (hS : [.regs, .fields, .traces] ⊆ S) (b : Block) (now : Nat) :
    b₀.Keeps S (b.followTrigger now) ↔ b₀.Keeps S b := Keeps.step hS (by unfold Block.followTrigger; simp (maxDischargeDepth := 5))

@[simp] theorem keeps_sweep (hS : [.regs, .traces] ⊆ S) (b : Block) (now k : Nat) : b₀.Keeps S (b.sweep now k) ↔ b₀.Keeps S b :=
  Keeps.step hS (by unfold Block.sweep; dsimp only; (repeat' split) <;> simp)

@[simp] theorem keeps_fwPoint (hS : [.regs, .fields, .traces] ⊆ S) (b : Block) (p now off v : Nat) :
    b₀.Keeps S (b.fwPoint p now off v) ↔ b₀.Keeps S b := Keeps.step hS (by unfold Block.fwPoint; simp)

@[simp] theorem keeps_linkUse (hS : [.fields] ⊆ S) (b : Block) (now k n : Nat) : b₀.Keeps S (b.linkUse now k n) ↔ b₀.Keeps S b :=
  Keeps.step hS (by unfold Block.linkUse; simp)

@[simp] theorem keeps_drainIrq (hS : [.regs] ⊆ S) (b : Block) (before : Nat) : b₀.Keeps S (b.drainIrq before) ↔ b₀.Keeps S b :=
  Keeps.step hS (by unfold Block.drainIrq; simp)

@[simp] theorem keeps_writeTail (hS : [.regs, .pages] ⊆ S) (b : Block) (v : Nat) : b₀.Keeps S (b.writeTail v) ↔ b₀.Keeps S b :=
  Keeps.step hS (by unfold Block.writeTail; simp)

/-! ### Machine/Halt.lean -/

@[simp] theorem keeps_eachAgent (hS : [.agents] ⊆ S) (b : Block) (g : Agent → Agent) : b₀.Keeps S (b.eachAgent g) ↔ b₀.Keeps S b :=
  Keeps.step hS (by unfold Block.eachAgent; simp)

@[simp] theorem keeps_cancelHalt (hS : [.regs, .agents, .ports, .hub] ⊆ S) (b : Block) (now : Nat) :
    b₀.Keeps S (b.cancelHalt now) ↔ b₀.Keeps S b := Keeps.step hS (by unfold Block.cancelHalt; simp)

@[simp] theorem keeps_takeCut (hS : [.regs, .hub] ⊆ S) (b : Block) (now off source : Nat) (consistent : Bool) :
    b₀.Keeps S (b.takeCut now off source consistent) ↔ b₀.Keeps S b := Keeps.step hS (by unfold Block.takeCut; simp)

@[simp] theorem keeps_sendSet (hS : [.regs, .fields, .traces, .ties] ⊆ S) (b : Block) (now off g k : Nat) :
    b₀.Keeps S (b.sendSet now off g k) ↔ b₀.Keeps S b := Keeps.step hS (by unfold Block.sendSet; simp)

@[simp] theorem keeps_sendSets (hS : [.regs, .fields, .traces, .ties] ⊆ S) (b : Block) (now off : Nat) (from_ : Option Nat) :
    b₀.Keeps S (b.sendSets now off from_) ↔ b₀.Keeps S b := Keeps.step hS (by unfold Block.sendSets; simp)

@[simp] theorem keeps_immediateHalt (hS : [.regs, .agents, .fields, .ports, .traces, .ties, .hub] ⊆ S) (b : Block)
    (now off code : Nat) : b₀.Keeps S (b.immediateHalt now off code) ↔ b₀.Keeps S b :=
  Keeps.step hS (by unfold Block.immediateHalt; simp)

@[simp] theorem keeps_putArrival (hS : [.regs, .fields, .traces] ⊆ S) (b : Block) (x : FieldNo × BitVec 16 × BitVec 16) :
    b₀.Keeps S (b.putArrival x) ↔ b₀.Keeps S b := Keeps.step hS (by unfold Block.putArrival; simp)

@[simp] theorem keeps_restartParcel (hS : [.agents] ⊆ S) (b : Block) (k : Nat) : b₀.Keeps S (b.restartParcel k) ↔ b₀.Keeps S b :=
  Keeps.step hS (by unfold Block.restartParcel; dsimp only; (repeat' split) <;> simp)

@[simp] theorem keeps_releaseAgents (hS : [.agents] ⊆ S) (b : Block) : b₀.Keeps S b.releaseAgents ↔ b₀.Keeps S b :=
  Keeps.step hS (by unfold Block.releaseAgents; simp)

@[simp] theorem keeps_enterRamp (hS : [.regs, .hub] ⊆ S) (b : Block) (now : Nat) : b₀.Keeps S (b.enterRamp now) ↔ b₀.Keeps S b :=
  Keeps.step hS (by unfold Block.enterRamp; simp)

/-! ### Machine/Faults.lean -/

@[simp] theorem keeps_setFaultN (hS : [.regs, .hub, .pins] ⊆ S) (b : Block) (v : Bool) :
    b₀.Keeps S (b.setFaultN v) ↔ b₀.Keeps S b := Keeps.step hS (by unfold Block.setFaultN; simp)

@[simp] theorem keeps_history (hS : [.regs, .hub] ⊆ S) (b : Block) (now off src fld cls after detail : Nat) :
    b₀.Keeps S (b.history now off src fld cls after detail) ↔ b₀.Keeps S b := Keeps.step hS (by unfold Block.history; simp)

@[simp] theorem keeps_severeResponse (hS : [.regs, .hub, .pins] ⊆ S) (b : Block) (now : Nat) :
    b₀.Keeps S (b.severeResponse now) ↔ b₀.Keeps S b := Keeps.step hS (by unfold Block.severeResponse; simp)

@[simp] theorem keeps_declareSevere (hS : [.regs, .traces, .mon, .hub, .pins] ⊆ S) (b : Block) (now off st src fld : Nat) :
    b₀.Keeps S (b.declareSevere now off st src fld) ↔ b₀.Keeps S b :=
  Keeps.step hS (by unfold Block.declareSevere; simp (maxDischargeDepth := 5))

@[simp] theorem keeps_collect (hS : [.regs, .traces, .mon, .hub, .pins] ⊆ S) (b : Block) (now off src fld detail : Nat) :
    b₀.Keeps S (b.collect now off src fld detail) ↔ b₀.Keeps S b := Keeps.step hS (by unfold Block.collect; simp)

@[simp] theorem keeps_endEpisode (hS : [.regs, .hub, .pins] ⊆ S) (b : Block) : b₀.Keeps S b.endEpisode ↔ b₀.Keeps S b :=
  Keeps.step hS (by unfold Block.endEpisode; simp)

@[simp] theorem keeps_bitsCleared (hS : [.regs] ⊆ S) (b : Block) : b₀.Keeps S b.bitsCleared ↔ b₀.Keeps S b :=
  Keeps.step hS (by unfold Block.bitsCleared; simp)

@[simp] theorem keeps_clearStatus (hS : [.regs, .hub] ⊆ S) (b : Block) (v : Nat) : b₀.Keeps S (b.clearStatus v) ↔ b₀.Keeps S b :=
  Keeps.step hS (by unfold Block.clearStatus; simp)

/-! ### Machine/Firmware.lean -/

@[simp] theorem keeps_extend (hS : [.regs, .hub] ⊆ S) (b : Block) (now k : Nat) (d : List Nat) :
    b₀.Keeps S (b.extend now k d) ↔ b₀.Keeps S b := Keeps.step hS (by unfold Block.extend; simp)

@[simp] theorem keeps_enterComp (hS : [.procs] ⊆ S) (b : Block) (p comp : Nat) : b₀.Keeps S (b.enterComp p comp) ↔ b₀.Keeps S b :=
  Keeps.step hS (by unfold Block.enterComp; simp)

@[simp] theorem keeps_causeFault (hS : [.fields, .faults, .free] ⊆ S) (b : Block) (off p cause : Nat) :
    b₀.Keeps S (b.causeFault off p cause) ↔ b₀.Keeps S b := Keeps.step hS (by unfold causeFault; simp)

@[simp] theorem keeps_breakLoops (hS : [.fields, .rails] ⊆ S) (b : Block) (f : Nat) : b₀.Keeps S (b.breakLoops f) ↔ b₀.Keeps S b :=
  Keeps.step hS (by unfold Block.breakLoops; dsimp only; (repeat' split) <;> simp)

@[simp] theorem keeps_restartRecord (hS : [.regs, .fields, .traces, .free] ⊆ S) (b : Block) (now off : Nat) :
    b₀.Keeps S (b.restartRecord now off) ↔ b₀.Keeps S b := Keeps.step hS (by unfold restartRecord; simp)

@[simp] theorem keeps_beginRestart (hS : [.regs, .fields, .rails, .traces, .procs, .mon, .free] ⊆ S) (b : Block)
    (now off p cause : Nat) : b₀.Keeps S (b.beginRestart now off p cause) ↔ b₀.Keeps S b :=
  Keeps.step hS (by unfold Block.beginRestart; simp)

@[simp] theorem keeps_setImage (hS : [.procs] ⊆ S) (b : Block) (p : Nat) (slotB : Bool) :
    b₀.Keeps S (b.setImage p slotB) ↔ b₀.Keeps S b := Keeps.step hS (by unfold Block.setImage; simp)

@[simp] theorem keeps_startOn (hS : [.regs, .fields, .rails, .traces, .procs, .mon, .hub, .free] ⊆ S) (b : Block)
    (now off p cause : Nat) (slotB : Bool) : b₀.Keeps S (b.startOn now off p cause slotB) ↔ b₀.Keeps S b :=
  Keeps.step hS (by unfold Block.startOn; simp)

@[simp] theorem keeps_rollNext (hS : [.regs, .fields, .rails, .ports, .traces, .procs, .mon, .hub, .free] ⊆ S) (b : Block)
    (now off : Nat) : b₀.Keeps S (b.rollNext now off) ↔ b₀.Keeps S b :=
  Keeps.step hS (by unfold Block.rollNext; dsimp only; (repeat' split) <;> simp)

@[simp] theorem keeps_rollBackFrom (hS : [.regs, .fields, .rails, .ports, .traces, .procs, .mon, .hub, .free] ⊆ S) (b : Block)
    (now off p : Nat) : b₀.Keeps S (b.rollBackFrom now off p) ↔ b₀.Keeps S b := Keeps.step hS (by unfold Block.rollBackFrom; simp)

@[simp] theorem keeps_restart (hS : [.regs, .fields, .rails, .ports, .traces, .procs, .mon, .hub, .faults, .free] ⊆ S) (b : Block)
    (now off p cause : Nat) : b₀.Keeps S (b.restart now off p cause) ↔ b₀.Keeps S b := Keeps.step hS (by unfold Block.restart; simp)

@[simp] theorem keeps_violation (hS : [.regs, .fields, .rails, .ports, .traces, .procs, .mon, .hub, .faults, .free] ⊆ S) (b : Block)
    (now off p comp : Nat) : b₀.Keeps S (b.violation now off p comp) ↔ b₀.Keeps S b :=
  Keeps.step hS (by unfold Block.violation; simp)

@[simp] theorem keeps_imageBad (hS : [.regs, .fields, .rails, .ports, .traces, .procs, .mon, .hub, .faults, .free] ⊆ S) (b : Block)
    (now off p : Nat) : b₀.Keeps S (b.imageBad now off p) ↔ b₀.Keeps S b := Keeps.step hS (by unfold Block.imageBad; simp)

@[simp] theorem keeps_newModel (hS : [.regs, .models, .fields] ⊆ S) (b : Block) (now p : Nat) :
    b₀.Keeps S (b.newModel now p) ↔ b₀.Keeps S b := Keeps.step hS (by unfold Block.newModel; simp)

@[simp] theorem keeps_busyHeld (hS : [.regs, .ports, .hub] ⊆ S) (b : Block) (now p : Nat) :
    b₀.Keeps S (b.busyHeld now p) ↔ b₀.Keeps S b :=
  Keeps.step hS (by unfold Block.busyHeld; simp (disch := (intros; split <;> simp)))

@[simp] theorem keeps_stageImage (hS : [.regs, .ports, .mon, .hub] ⊆ S) (b : Block) (now pt : Nat) (img : List Nat)
    (ifaceNew : Bool) : b₀.Keeps S (b.stageImage now pt img ifaceNew) ↔ b₀.Keeps S b :=
  Keeps.step hS (by unfold Block.stageImage; simp)

@[simp] theorem keeps_startOnB (hS : [.regs, .fields, .rails, .traces, .procs, .mon, .hub, .free] ⊆ S) (b : Block) (now off p : Nat)
    : b₀.Keeps S (b.startOnB now off p) ↔ b₀.Keeps S b := Keeps.step hS (by unfold Block.startOnB; simp)

@[simp] theorem keeps_activateNext (hS : [.regs, .fields, .rails, .traces, .procs, .mon, .hub, .free] ⊆ S) (b : Block)
    (now off : Nat) : b₀.Keeps S (b.activateNext now off) ↔ b₀.Keeps S b :=
  Keeps.step hS (by unfold Block.activateNext; dsimp only; (repeat' split) <;> simp)

@[simp] theorem keeps_nextRestart (hS : [.regs, .fields, .rails, .ports, .traces, .procs, .mon, .hub, .faults, .free] ⊆ S) (b : Block)
    (now p : Nat) : b₀.Keeps S (b.nextRestart now p) ↔ b₀.Keeps S b := Keeps.step hS (by
  unfold nextRestart
  refine (keeps_each fun b pt => ?_).2 (Keeps.refl ..)
  split
  · split
    · simp
    · split <;> simp
  · simp)

/-! ### Machine/Monument.lean -/

@[simp] theorem keeps_storeEvent (hS : [.regs, .mon] ⊆ S) (b : Block) (now : Nat) (r : MonRec) :
    b₀.Keeps S (b.storeEvent now r) ↔ b₀.Keeps S b := Keeps.step hS (by unfold Block.storeEvent; simp)

@[simp] theorem keeps_showHeaders (hS : [.regs] ⊆ S) (b : Block) : b₀.Keeps S b.showHeaders ↔ b₀.Keeps S b :=
  Keeps.step hS (by unfold Block.showHeaders; simp)

@[simp] theorem keeps_storeRecord (hS : [.regs, .mon] ⊆ S) (b : Block) (now : Nat) (r : MonRec) :
    b₀.Keeps S (b.storeRecord now r) ↔ b₀.Keeps S b := Keeps.step hS (by unfold Block.storeRecord; split <;> simp)

@[simp] theorem keeps_resumeErase (hS : [.mon] ⊆ S) (b : Block) : b₀.Keeps S b.resumeErase ↔ b₀.Keeps S b :=
  Keeps.step hS (by unfold Block.resumeErase; simp)

@[simp] theorem keeps_monNext (hS : [.mon] ⊆ S) (b : Block) : b₀.Keeps S b.monNext ↔ b₀.Keeps S b :=
  Keeps.step hS (by unfold Block.monNext; simp)

@[simp] theorem keeps_norError (hS : [.regs, .fields, .faults] ⊆ S) (b : Block) (detail : Nat) :
    b₀.Keeps S (b.norError detail) ↔ b₀.Keeps S b := Keeps.step hS (by unfold Block.norError; simp)

@[simp] theorem keeps_programFail (hS : [.regs, .fields, .mon, .faults] ⊆ S) (b : Block) (detail : Nat) :
    b₀.Keeps S (b.programFail detail) ↔ b₀.Keeps S b :=
  Keeps.step hS (by unfold Block.programFail; dsimp only; (repeat' split) <;> simp)

@[simp] theorem keeps_eraseFailed (hS : [.regs, .fields, .mon, .faults] ⊆ S) (b : Block) (now detail : Nat) :
    b₀.Keeps S (b.eraseFailed now detail) ↔ b₀.Keeps S b := Keeps.step hS (by unfold Block.eraseFailed; simp)

@[simp] theorem keeps_crcSkipped (hS : [.regs, .fields, .faults] ⊆ S) (b : Block) (code n : Nat) :
    b₀.Keeps S (b.crcSkipped code n) ↔ b₀.Keeps S b := Keeps.step hS (by unfold Block.crcSkipped; simp)

/-! ### Machine/Memory.lean -/

@[simp] theorem keeps_ueRead (hS : [.regs, .fields, .faults] ⊆ S) (b : Block) (k w : Nat) (raise : Bool) :
    b₀.Keeps S (b.ueRead k w raise) ↔ b₀.Keeps S b := Keeps.step hS (by unfold Block.ueRead; simp)

@[simp] theorem keeps_ceCount (hS : [.regs, .fields, .mems, .faults] ⊆ S) (b : Block) (k : Nat) :
    b₀.Keeps S (b.ceCount k) ↔ b₀.Keeps S b := Keeps.step hS (by unfold Block.ceCount; simp)

@[simp] theorem keeps_ceBlockStart (hS : [.regs, .mems] ⊆ S) (b : Block) : b₀.Keeps S b.ceBlockStart ↔ b₀.Keeps S b :=
  Keeps.step hS (by unfold Block.ceBlockStart; simp (maxDischargeDepth := 5))

@[simp] theorem keeps_scrubNext (hS : [.regs, .mems] ⊆ S) (b : Block) (k : Nat) : b₀.Keeps S (b.scrubNext k) ↔ b₀.Keeps S b :=
  Keeps.step hS (by unfold Block.scrubNext; simp)

@[simp] theorem keeps_noteFixed (hS : [.mems] ⊆ S) (b : Block) (k w : Nat) : b₀.Keeps S (b.noteFixed k w) ↔ b₀.Keeps S b :=
  Keeps.step hS (by unfold Block.noteFixed; simp)

@[simp] theorem keeps_repairRow (hS : [.fields, .mems, .mon, .nv, .faults] ⊆ S) (b : Block) (now k bank row : Nat) :
    b₀.Keeps S (b.repairRow now k bank row) ↔ b₀.Keeps S b := Keeps.step hS (by unfold Block.repairRow; simp)

@[simp] theorem keeps_marchStart (hS : [.regs, .mems] ⊆ S) (b : Block) (k : Nat) (destructive : Bool) :
    b₀.Keeps S (b.marchStart k destructive) ↔ b₀.Keeps S b := Keeps.step hS (by unfold Block.marchStart; simp)

@[simp] theorem keeps_marchRow (hS : [.regs, .fields, .mems, .mon, .nv, .faults] ⊆ S) (b : Block) (now k bank row : Nat) :
    b₀.Keeps S (b.marchRow now k bank row) ↔ b₀.Keeps S b := Keeps.step hS (by unfold Block.marchRow; simp)

@[simp] theorem keeps_fuseRows (hS : [.cad, .fields, .mems, .mon, .nv, .faults] ⊆ S) (b : Block) (now k : Nat)
    (unread : List (Nat × Nat)) : b₀.Keeps S (b.fuseRows now k unread) ↔ b₀.Keeps S b :=
  Keeps.step hS (by unfold Block.fuseRows; simp (maxDischargeDepth := 5))

theorem emptied_keeps (b : Block) (slots : List (Nat × Slot)) (colls : List (Nat × Coll)) (traces : List (Nat × TraceBuf)) :
    b.Keeps [.slots, .colls, .traces] { b with slots := slots, colls := colls, traces := traces } := ⟨fun p _ => by cases p <;> trivial⟩

theorem noAccounts_keeps (b : Block) : b.Keeps [.accounts] { b with accounts := [] } := ⟨fun p _ => by cases p <;> trivial⟩

@[simp] theorem keeps_emptyMem (hS : [.regs, .slots, .accounts, .colls, .fields, .traces, .mems, .hub] ⊆ S) (b : Block) (k : Nat) :
    b₀.Keeps S (b.emptyMem k) ↔ b₀.Keeps S b := Keeps.step hS (by
  unfold emptyMem
  dsimp only
  split
  · simp [Keeps.step _ (noAccounts_keeps _)]
  · simp [Keeps.step _ (emptied_keeps _ _ _ _)])

@[simp] theorem keeps_marchReport (hS : [.regs, .ports, .hub] ⊆ S) (b : Block) (now k : Nat) :
    b₀.Keeps S (b.marchReport now k) ↔ b₀.Keeps S b :=
  Keeps.step hS (by unfold Block.marchReport; simp (disch := (intros; split <;> simp)))

/-! ### Machine/SelfTest.lean -/

@[simp] theorem keeps_bistStart (hS : [.regs, .fields] ⊆ S) (b : Block) (items : List Nat) (f : Nat) :
    b₀.Keeps S (b.bistStart items f) ↔ b₀.Keeps S b := Keeps.step hS (by unfold Block.bistStart; simp)

@[simp] theorem keeps_itemFailed (hS : [.regs, .cad, .sensors, .fields, .rails, .phases, .mon, .nv, .faults] ⊆ S) (b : Block)
    (now f : Nat) (x : Nat × Nat) : b₀.Keeps S (b.itemFailed now f x) ↔ b₀.Keeps S b :=
  Keeps.step hS (by unfold Block.itemFailed; split <;> simp)

@[simp] theorem keeps_itemsPassed (hS : [.regs, .cad, .sensors, .fields, .rails, .phases, .mon, .nv] ⊆ S) (b : Block) (now f : Nat)
    (failed : List (Nat × Nat)) : b₀.Keeps S (b.itemsPassed now f failed) ↔ b₀.Keeps S b :=
  Keeps.step hS (by unfold Block.itemsPassed; simp)

@[simp] theorem keeps_putTrims (hS : [.cad, .mon, .nv] ⊆ S) (b : Block) (now f : Nat) (failed : List (Nat × Nat))
    (l : List BistItem) : b₀.Keeps S (b.putTrims now f failed l) ↔ b₀.Keeps S b := Keeps.step hS (by unfold Block.putTrims; simp)

@[simp] theorem keeps_putBist (hS : [.regs, .fields, .faults] ⊆ S) (b : Block) (now f : Nat) (failed : List (Nat × Nat))
    (untested : Nat) : b₀.Keeps S (b.putBist now f failed untested) ↔ b₀.Keeps S b := Keeps.step hS (by unfold Block.putBist; simp)

@[simp] theorem keeps_fuseUnread (hS : [.fields, .nv, .faults] ⊆ S) (b : Block) (rec_ : List Nat) (unread : Nat) :
    b₀.Keeps S (b.fuseUnread rec_ unread) ↔ b₀.Keeps S b := Keeps.step hS (by unfold Block.fuseUnread; simp)

/-! ### Machine/StartUp.lean -/

@[simp] theorem keeps_putFloor (hS : [.regs] ⊆ S) (b : Block) : b₀.Keeps S b.putFloor ↔ b₀.Keeps S b :=
  Keeps.step hS (by unfold Block.putFloor; simp)

@[simp] theorem keeps_loadFuses (hS : [.regs, .mems] ⊆ S) (b : Block) : b₀.Keeps S b.loadFuses ↔ b₀.Keeps S b :=
  Keeps.step hS (by unfold Block.loadFuses; simp)

@[simp] theorem keeps_setPhaseNo (hS : [.regs] ⊆ S) (b : Block) (k : Nat) : b₀.Keeps S (b.setPhaseNo k) ↔ b₀.Keeps S b :=
  Keeps.step hS (by unfold Block.setPhaseNo; simp)

@[simp] theorem keeps_openFlash (hS : [.regs, .fields, .mon, .faults] ⊆ S) (b : Block) (now : Nat) (i : BootIn) :
    b₀.Keeps S (b.openFlash now i) ↔ b₀.Keeps S b := Keeps.step hS (by unfold Block.openFlash; simp)

@[simp] theorem keeps_readStores (hS : [.fields, .mon, .nv, .faults] ⊆ S) (b : Block) : b₀.Keeps S b.readStores ↔ b₀.Keeps S b :=
  Keeps.step hS (by unfold Block.readStores; dsimp only; (repeat' split) <;> simp)

@[simp] theorem keeps_bootOn (hS : [.regs, .procs, .mon, .hub] ⊆ S) (b : Block) (now : Nat) (useB : Bool) :
    b₀.Keeps S (b.bootOn now useB) ↔ b₀.Keeps S b := Keeps.step hS (by unfold Block.bootOn; simp)

@[simp] theorem keeps_showStaged (hS : [.regs] ⊆ S) (b : Block) (valid : Bool) : b₀.Keeps S (b.showStaged valid) ↔ b₀.Keeps S b :=
  Keeps.step hS (by unfold Block.showStaged; simp)

theorem putContour_keeps (b : Block) (k v : Nat) :
    b.Keeps [.regs, .shadow] { b with regs := mins k v (merase b.regs k), shadow := mins k v (merase b.shadow k) } :=
  ⟨fun p _ => by cases p <;> trivial⟩

@[simp] theorem keeps_buildContour (hS : [.regs, .shadow] ⊆ S) (b : Block) : b₀.Keeps S b.buildContour ↔ b₀.Keeps S b :=
  Keeps.step hS (by unfold buildContour; simp [putContour_keeps])

@[simp] theorem keeps_load2 (hS : [.regs, .shadow] ⊆ S) (b : Block) (fd : Fld) (i v : Nat) :
    b₀.Keeps S (b.load2 fd i v) ↔ b₀.Keeps S b := Keeps.step hS (by unfold Block.load2; simp)

@[simp] theorem keeps_loadField (hS : [.regs, .shadow, .cad, .models, .fields] ⊆ S) (b : Block) (now f : Nat) :
    b₀.Keeps S (b.loadField now f) ↔ b₀.Keeps S b :=
  Keeps.step hS (by unfold Block.loadField; simp (disch := (intros; (repeat' split) <;> simp)))

@[simp] theorem keeps_fillCad (hS : [.mon, .nv] ⊆ S) (b : Block) (now : Nat) : b₀.Keeps S (b.fillCad now) ↔ b₀.Keeps S b :=
  Keeps.step hS (by unfold Block.fillCad; simp)

@[simp] theorem keeps_queueStart (hS : [.regs] ⊆ S) (b : Block) (f : Nat) : b₀.Keeps S (b.queueStart f) ↔ b₀.Keeps S b :=
  Keeps.step hS (by unfold Block.queueStart; simp)

@[simp] theorem keeps_softEntries (hS : [.mems] ⊆ S) (b : Block) : b₀.Keeps S b.softEntries ↔ b₀.Keeps S b :=
  Keeps.step hS (by unfold Block.softEntries; simp (maxDischargeDepth := 5))

@[simp] theorem keeps_endActivation (hS : [.regs, .fields, .rails, .ports, .traces, .procs, .mon, .hub, .free] ⊆ S) (b : Block)
    (now : Nat) : b₀.Keeps S (b.endActivation now) ↔ b₀.Keeps S b := Keeps.step hS (by unfold Block.endActivation; simp)

@[simp] theorem keeps_lateStart (hS : [.regs, .fields, .rails, .phases, .traces, .hub, .pins] ⊆ S) (b : Block) (now f : Nat) :
    b₀.Keeps S (b.lateStart now f) ↔ b₀.Keeps S b := Keeps.step hS (by unfold Block.lateStart; simp)

@[simp] theorem keeps_calibrate (hS : [.regs, .fields] ⊆ S) (b : Block) (now f : Nat) :
    b₀.Keeps S (b.calibrate now f) ↔ b₀.Keeps S b := Keeps.step hS (by unfold Block.calibrate; simp)

@[simp] theorem keeps_calibrationOver (hS : [.regs, .fields, .traces, .ties, .hub] ⊆ S) (b : Block) (now : Nat) :
    b₀.Keeps S (b.calibrationOver now) ↔ b₀.Keeps S b := Keeps.step hS (by unfold Block.calibrationOver; simp)

@[simp] theorem keeps_putCalibration (hS : [.regs, .mon, .nv] ⊆ S) (b : Block) (now f : Nat) (x : Nat × Nat) :
    b₀.Keeps S (b.putCalibration now f x) ↔ b₀.Keeps S b := Keeps.step hS (by unfold Block.putCalibration; simp)

@[simp] theorem keeps_keepReference (hS : [.regs, .mon, .nv] ⊆ S) (b : Block) (now f : Nat) :
    b₀.Keeps S (b.keepReference now f) ↔ b₀.Keeps S b := Keeps.step hS (by unfold Block.keepReference; simp)

@[simp] theorem keeps_enterService (hS : [.regs, .agents, .slots, .fields, .traces, .hub] ⊆ S) (b : Block) (now f : Nat) :
    b₀.Keeps S (b.enterService now f) ↔ b₀.Keeps S b := Keeps.step hS (by unfold Block.enterService; simp)

/-! ### Machine/Window.lean -/

@[simp] theorem keeps_setLease (hS : [.regs] ⊆ S) (b : Block) (now p : Nat) (v : Bool) :
    b₀.Keeps S (b.setLease now p v) ↔ b₀.Keeps S b := Keeps.step hS (by unfold Block.setLease; simp)

@[simp] theorem keeps_putExpiry (hS : [.regs] ⊆ S) (b : Block) (p : Nat) : b₀.Keeps S (b.putExpiry p) ↔ b₀.Keeps S b :=
  Keeps.step hS (by unfold Block.putExpiry; simp)

@[simp] theorem keeps_takeLease (hS : [.regs, .hub] ⊆ S) (b : Block) (now p : Nat) :
    b₀.Keeps S (b.takeLease now p) ↔ b₀.Keeps S b := Keeps.step hS (by unfold Block.takeLease; simp)

@[simp] theorem keeps_freshes (hS : [.free] ⊆ S) (b : Block) (n : Nat) : b₀.Keeps S (b.freshes n).2 ↔ b₀.Keeps S b := by
  induction n generalizing b with
  | zero => rfl
  | succ n ih => rw [freshes, ih, keeps_fresh hS]

@[simp] theorem keeps_append (hS : [.regs, .mon, .hub] ⊆ S) (b : Block) (e : JEntry) : b₀.Keeps S (b.append e) ↔ b₀.Keeps S b :=
  Keeps.step hS (by unfold Block.append; simp)

@[simp] theorem keeps_payOwed (hS : [.regs, .ports, .hub] ⊆ S) (b : Block) (now pt : Nat) :
    b₀.Keeps S (b.payOwed now pt) ↔ b₀.Keeps S b := Keeps.step hS (by unfold Block.payOwed; split <;> simp)

/-! ### Machine/Pages.lean -/

@[simp] theorem keeps_landing (hS : .hub ∈ S) (b : Block) (path : Path) (cls : Nat) {g : Block → Block} (hg : ∀ b : Block, b.Keeps S (g b)) :
    b₀.Keeps S (b.landing path cls g) ↔ b₀.Keeps S b := by
  refine Keeps.step (List.Subset.refl S) ?_
  unfold landing
  split
  · simp [hS]
  · exact hg b

@[simp] theorem keeps_pageDone (hS : [.regs, .ports, .hub] ⊆ S) (b : Block) (now pt : Nat) :
    b₀.Keeps S (b.pageDone now pt) ↔ b₀.Keeps S b := Keeps.step hS (by unfold Block.pageDone; dsimp only; (repeat' split) <;> simp)

@[simp] theorem keeps_pageFailed (hS : [.regs, .pages, .ports, .hub] ⊆ S) (b : Block) (now pt : Nat) (x : CommitStop) :
    b₀.Keeps S (b.pageFailed now pt x) ↔ b₀.Keeps S b := Keeps.step hS (by unfold Block.pageFailed; simp)

@[simp] theorem keeps_followDisable (hS : [.regs, .rails, .phases] ⊆ S) (b : Block) (now f : Nat) :
    b₀.Keeps S (b.followDisable now f) ↔ b₀.Keeps S b := Keeps.step hS (by unfold Block.followDisable; simp)

@[simp] theorem keeps_followDatums (hS : [.regs, .fields, .traces, .mon, .nv] ⊆ S) (b : Block) (now f rl : Nat) (was : Nat → Nat) :
    b₀.Keeps S (b.followDatums now f rl was) ↔ b₀.Keeps S b := Keeps.step hS (by unfold Block.followDatums; simp)

@[simp] theorem keeps_followContour (hS : [.regs, .fields, .traces, .mon, .nv] ⊆ S) (b : Block) (now : Nat) :
    b₀.Keeps S (b.followContour now) ↔ b₀.Keeps S b := Keeps.step hS (by unfold Block.followContour; simp)

@[simp] theorem keeps_followPorts (hS : [.regs, .fields, .traces, .ties, .hub] ⊆ S) (b : Block) (now : Nat) (was : Nat) :
    b₀.Keeps S (b.followPorts now was) ↔ b₀.Keeps S b := Keeps.step hS (by unfold Block.followPorts; simp (maxDischargeDepth := 5))

@[simp] theorem keeps_commitEffects (hS : [.regs, .agents, .fields, .rails, .phases, .traces, .ties, .mon, .nv, .hub, .faults] ⊆ S)
    (b old : Block) (now cls inst : Nat) : b₀.Keeps S (b.commitEffects old now cls inst) ↔ b₀.Keeps S b :=
  Keeps.step hS (by unfold Block.commitEffects; split <;> simp)

@[simp] theorem keeps_putCommit (hS : [.regs, .pages] ⊆ S) (b : Block) (now cls inst : Nat) (p : Pending) :
    b₀.Keeps S (b.putCommit now cls inst p) ↔ b₀.Keeps S b := Keeps.step hS (by unfold Block.putCommit; simp)

@[simp] theorem keeps_dropCommit (hS : [.regs, .pages, .ports, .hub] ⊆ S) (b : Block) (now cls inst : Nat) (p : Pending)
    (x : CommitStop) : b₀.Keeps S (b.dropCommit now cls inst p x) ↔ b₀.Keeps S b :=
  Keeps.step hS (by unfold Block.dropCommit; dsimp only; (repeat' split) <;> simp)

@[simp] theorem keeps_dropPartner (hS : [.regs, .pages, .ports, .hub] ⊆ S) (b : Block) (now cls inst : Nat) (x : CommitStop) :
    b₀.Keeps S (b.dropPartner now cls inst x) ↔ b₀.Keeps S b := Keeps.step hS (by
  unfold dropPartner
  split
  · split
    · split <;> simp
    · simp
  · simp)

@[simp] theorem keeps_commitAt
    (hS : [.regs, .pages, .agents, .fields, .rails, .phases, .ports, .traces, .ties, .mon, .nv, .hub, .faults] ⊆ S) (b : Block)
    (now cls inst : Nat) : b₀.Keeps S (b.commitAt now cls inst) ↔ b₀.Keeps S b :=
  Keeps.step hS (by unfold Block.commitAt; dsimp only; (repeat' split) <;> simp)

@[simp] theorem keeps_hostShadow (hS : [.shadow, .pages] ⊆ S) (b : Block) (x : Fld) (inst v : Nat) :
    b₀.Keeps S (b.hostShadow x inst v) ↔ b₀.Keeps S b := Keeps.step hS (by unfold Block.hostShadow; simp)

@[simp] theorem keeps_landCommit (hS : [.regs, .pages, .ports, .hub] ⊆ S) (b : Block) (now arr cls inst v : Nat)
    (byCmd : Option Nat) : b₀.Keeps S (b.landCommit now arr cls inst v byCmd) ↔ b₀.Keeps S b :=
  Keeps.step hS (by unfold Block.landCommit; split <;> simp)

@[simp] theorem keeps_landOne (hS : [.regs, .shadow, .pages, .ports, .hub] ⊆ S) (b : Block) (now cls inst : Nat) (t : Transit) :
    b₀.Keeps S (b.landOne now cls inst t) ↔ b₀.Keeps S b := Keeps.step hS (by unfold Block.landOne; split <;> simp)

@[simp] theorem keeps_landWhile (hS : [.regs, .shadow, .pages, .ports, .hub] ⊆ S) (b : Block) (now cls inst : Nat)
    (g : Transit → Bool) : b₀.Keeps S (b.landWhile now cls inst g) ↔ b₀.Keeps S b := Keeps.step hS (by unfold Block.landWhile; simp)

@[simp] theorem keeps_behind (hS : [.regs, .shadow, .pages, .ports, .hub] ⊆ S) (b : Block) (now sc : Nat) (path : Path)
    (cls inst : Nat) (act : TransitAct) {g : Block → Block} (hg : ∀ b : Block, b.Keeps S (g b)) :
    b₀.Keeps S (b.behind now sc path cls inst act g) ↔ b₀.Keeps S b := by
  simp only [List.cons_subset] at hS
  refine Keeps.step (List.Subset.refl S) ?_
  unfold behind
  dsimp only
  split
  · exact .trans (by simp [hS]) (hg _)
  · simp [hS]

@[simp] theorem keeps_pageCommit (hS : [.regs, .shadow, .pages, .ports, .hub] ⊆ S) (b : Block) (now sc : Nat) (path : Path)
    (cls inst v : Nat) : b₀.Keeps S (b.pageCommit now sc path cls inst v) ↔ b₀.Keeps S b :=
  Keeps.step hS (by unfold Block.pageCommit; simp)

@[simp] theorem keeps_writeSubmit (hS : [.regs, .ports, .hub] ⊆ S) (b : Block) (now pt v : Nat) :
    b₀.Keeps S (b.writeSubmit now pt v) ↔ b₀.Keeps S b := Keeps.step hS (by unfold Block.writeSubmit; simp)

@[simp] theorem keeps_armProbe (hS : [.regs, .fields] ⊆ S) (b : Block) (f v : Nat) : b₀.Keeps S (b.armProbe f v) ↔ b₀.Keeps S b :=
  Keeps.step hS (by unfold Block.armProbe; simp)

@[simp] theorem keeps_writeRwl (hS : [.regs, .pages, .fields] ⊆ S) (b : Block) (path : Path) (x : Fld) (inst v : Nat) :
    b₀.Keeps S (b.writeRwl path x inst v) ↔ b₀.Keeps S b := Keeps.step hS (by unfold Block.writeRwl; simp)

@[simp] theorem keeps_writeWo (hS : [.regs, .fields, .ports, .traces, .hub] ⊆ S) (b : Block) (now sc : Nat) (path : Path) (x : Fld)
    (inst v : Nat) : b₀.Keeps S (b.writeWo now sc path x inst v) ↔ b₀.Keeps S b := Keeps.step hS (by
  unfold writeWo
  split
  · simp
  · split
    · simp
    · split
      · split <;> simp
      · simp)

@[simp] theorem keeps_writeOrder (hS : [.regs] ⊆ S) (b : Block) (path : Path) (x : Fld) (inst v : Nat) :
    b₀.Keeps S (b.writeOrder path x inst v) ↔ b₀.Keeps S b := Keeps.step hS (by unfold Block.writeOrder; split <;> simp)

@[simp] theorem keeps_writeFld (hS : [.regs, .shadow, .pages, .fields, .ports, .traces, .hub] ⊆ S) (b : Block) (now sc : Nat)
    (path : Path) (x : Fld) (inst v : Nat) (live : Bool) : b₀.Keeps S (b.writeFld now sc path x inst v live) ↔ b₀.Keeps S b :=
  Keeps.step hS (by unfold Block.writeFld; split <;> simp)

@[simp] theorem keeps_writeHeader (hS : [.regs, .shadow, .pages, .ports, .hub] ⊆ S) (b : Block) (now sc : Nat) (path : Path)
    (cls inst off v : Nat) : b₀.Keeps S (b.writeHeader now sc path cls inst off v) ↔ b₀.Keeps S b := Keeps.step hS (by
  unfold writeHeader
  split
  · simp (maxDischargeDepth := 3)
  all_goals simp)

@[simp] theorem keeps_writeWord (hS : [.regs, .shadow, .pages, .fields, .ports, .traces, .hub] ⊆ S) (b : Block) (now sc : Nat)
    (path : Path) (cls inst o v : Nat) : b₀.Keeps S (b.writeWord now sc path cls inst o v) ↔ b₀.Keeps S b :=
  Keeps.step hS (by unfold Block.writeWord; simp)

@[simp] theorem keeps_writeAt (hS : [.regs, .shadow, .pages, .fields, .ports, .traces, .hub] ⊆ S) (b : Block) (now sc : Nat)
    (path : Path) (a v : Nat) : b₀.Keeps S (b.writeAt now sc path a v) ↔ b₀.Keeps S b :=
  Keeps.step hS (by unfold Block.writeAt; split <;> simp)

@[simp] theorem keeps_respond (hS : [.hub] ⊆ S) (b : Block) (data err : Nat) : b₀.Keeps S (b.respond data err) ↔ b₀.Keeps S b :=
  Keeps.step hS (by unfold Block.respond; simp)

@[simp] theorem keeps_write (hS : [.regs, .shadow, .pages, .fields, .ports, .traces, .hub] ⊆ S) (b : Block) (now sc : Nat)
    (path : Path) (a be v : Nat) : b₀.Keeps S (b.write now sc path a be v) ↔ b₀.Keeps S b :=
  Keeps.step hS (by unfold Block.write; split <;> simp)

/-! ### Machine/I3c.lean -/

@[simp] theorem keeps_i3cByte (hS : [.hub] ⊆ S) (b : Block) (i v : Nat) : b₀.Keeps S (b.i3cByte i v) ↔ b₀.Keeps S b :=
  Keeps.step hS (by unfold Block.i3cByte; simp)

@[simp] theorem keeps_winNext (hS : [.hub] ⊆ S) (b : Block) : b₀.Keeps S b.winNext ↔ b₀.Keeps S b :=
  Keeps.step hS (by unfold Block.winNext; simp)

@[simp] theorem keeps_winWrite (hS : [.regs, .shadow, .pages, .fields, .ports, .traces, .hub] ⊆ S) (b : Block) (now sc v : Nat) :
    b₀.Keeps S (b.winWrite now sc v) ↔ b₀.Keeps S b := Keeps.step hS (by unfold Block.winWrite; simp)

@[simp] theorem keeps_privateWrite (hS : [.regs, .shadow, .pages, .fields, .ports, .traces, .hub] ⊆ S) (b : Block)
    (now sc i be v : Nat) : b₀.Keeps S (b.privateWrite now sc i be v) ↔ b₀.Keeps S b :=
  Keeps.step hS (by unfold Block.privateWrite; simp)

@[simp] theorem keeps_takeAddr (hS : [.hub] ⊆ S) (b : Block) (a : Nat) : b₀.Keeps S (b.takeAddr a) ↔ b₀.Keeps S b :=
  Keeps.step hS (by unfold Block.takeAddr; simp)

@[simp] theorem keeps_answerOpen (hS : [.hub, .free] ⊆ S) (b : Block) (n : Nat) : b₀.Keeps S (b.answerOpen n) ↔ b₀.Keeps S b :=
  Keeps.step hS (by unfold Block.answerOpen; simp)

/-! ### Machine/Survey.lean -/

@[simp] theorem keeps_latchActivity (hS : [.agents] ⊆ S) (b : Block) (l : List Latched) :
    b₀.Keeps S (b.latchActivity l) ↔ b₀.Keeps S b := Keeps.step hS (by unfold Block.latchActivity; simp (maxDischargeDepth := 5))

@[simp] theorem keeps_latchMargins (hS : [.agents] ⊆ S) (b : Block) (l : List (FieldNo × SlotNo × BitVec 6)) :
    b₀.Keeps S (b.latchMargins l) ↔ b₀.Keeps S b := Keeps.step hS (by unfold Block.latchMargins; simp (maxDischargeDepth := 5))

@[simp] theorem keeps_gatesEnd (hS : [.agents] ⊆ S) (b : Block) (f : Nat) : b₀.Keeps S (b.gatesEnd f) ↔ b₀.Keeps S b :=
  Keeps.step hS (by unfold Block.gatesEnd; simp)

@[simp] theorem keeps_pinsClear (hS : [.regs] ⊆ S) (b : Block) (l : List (FieldNo × PhaseNo)) :
    b₀.Keeps S (b.pinsClear l) ↔ b₀.Keeps S b := Keeps.step hS (by unfold Block.pinsClear; simp)

@[simp] theorem keeps_takeBench (hS : [.sensors] ⊆ S) (b : Block) (x : BenchIn) : b₀.Keeps S (b.takeBench x) ↔ b₀.Keeps S b :=
  Keeps.step hS (by unfold Block.takeBench; simp)

@[simp] theorem keeps_latchBenches (hS : [.sensors] ⊆ S) (b : Block) (tick : Nat) (l : List BenchIn) :
    b₀.Keeps S (b.latchBenches tick l) ↔ b₀.Keeps S b := Keeps.step hS (by unfold Block.latchBenches; simp (maxDischargeDepth := 5))

@[simp] theorem keeps_snapReadings (hS : [.fields] ⊆ S) (b : Block) (now f : Nat) :
    b₀.Keeps S (b.snapReadings now f) ↔ b₀.Keeps S b := Keeps.step hS (by unfold Block.snapReadings; simp)

@[simp] theorem keeps_coolMark (hS : [.fields] ⊆ S) (b : Block) (now f : Nat) : b₀.Keeps S (b.coolMark now f) ↔ b₀.Keeps S b :=
  Keeps.step hS (by unfold Block.coolMark; simp)

@[simp] theorem keeps_holdReadings (hS : [.sensors] ⊆ S) (b : Block) : b₀.Keeps S b.holdReadings ↔ b₀.Keeps S b :=
  Keeps.step hS (by unfold Block.holdReadings; simp)

@[simp] theorem keeps_closeParcels (hS : [.parcels] ⊆ S) (b : Block) (f : Nat) : b₀.Keeps S (b.closeParcels f) ↔ b₀.Keeps S b :=
  Keeps.step hS (by unfold Block.closeParcels; simp)

@[simp] theorem keeps_closeField (hS : [.fields] ⊆ S) (b : Block) (f : Nat) : b₀.Keeps S (b.closeField f) ↔ b₀.Keeps S b :=
  Keeps.step hS (by unfold Block.closeField; simp)

@[simp] theorem keeps_agentsMark (hS : [.agents] ⊆ S) (b : Block) (f : Nat) : b₀.Keeps S (b.agentsMark f) ↔ b₀.Keeps S b :=
  Keeps.step hS (by unfold Block.agentsMark; simp)

@[simp] theorem keeps_loadCad (hS : [.cad] ⊆ S) (b : Block) (f : Nat) : b₀.Keeps S (b.loadCad f) ↔ b₀.Keeps S b :=
  Keeps.step hS (by unfold Block.loadCad; simp)

@[simp] theorem keeps_releaseMark (hS : [.regs, .agents, .cad, .fields] ⊆ S) (b : Block) (now f : Nat) :
    b₀.Keeps S (b.releaseMark now f) ↔ b₀.Keeps S b := Keeps.step hS (by unfold Block.releaseMark; simp)

@[simp] theorem keeps_budgetMark (hS : [.regs, .fields] ⊆ S) (b : Block) (f : Nat) : b₀.Keeps S (b.budgetMark f) ↔ b₀.Keeps S b :=
  Keeps.step hS (by unfold Block.budgetMark; split <;> simp)

@[simp] theorem keeps_quiesceMark (hS : [.regs] ⊆ S) (b : Block) : b₀.Keeps S b.quiesceMark ↔ b₀.Keeps S b :=
  Keeps.step hS (by unfold Block.quiesceMark; simp)

@[simp] theorem keeps_outMark (hS : [.regs, .fields, .mon] ⊆ S) (b : Block) (now f : Nat) :
    b₀.Keeps S (b.outMark now f) ↔ b₀.Keeps S b := Keeps.step hS (by unfold Block.outMark; split <;> simp)

@[simp] theorem keeps_startWaiting (hS : [.regs, .fields, .rails, .phases, .traces, .hub, .pins] ⊆ S) (b : Block) (now : Nat) :
    b₀.Keeps S (b.startWaiting now) ↔ b₀.Keeps S b := Keeps.step hS (by unfold Block.startWaiting; simp (maxDischargeDepth := 5))

@[simp] theorem keeps_retireMark (hS : [.regs, .slots, .colls, .fields, .traces] ⊆ S) (b : Block) (now f : Nat) :
    b₀.Keeps S (b.retireMark now f) ↔ b₀.Keeps S b :=
  Keeps.step hS (by unfold Block.retireMark; simp (disch := (intros; split <;> simp)))

@[simp] theorem keeps_ageMark (hS : [.slots] ⊆ S) (b : Block) (f : Nat) : b₀.Keeps S (b.ageMark f) ↔ b₀.Keeps S b :=
  Keeps.step hS (by unfold Block.ageMark; simp)

@[simp] theorem keeps_hangMark (hS : [.regs, .fields] ⊆ S) (b : Block) (f : Nat) : b₀.Keeps S (b.hangMark f) ↔ b₀.Keeps S b :=
  Keeps.step hS (by unfold Block.hangMark; simp)

@[simp] theorem keeps_severeMark (hS : [.ctxs, .accounts] ⊆ S) (b : Block) (now : Nat) :
    b₀.Keeps S (b.severeMark now) ↔ b₀.Keeps S b := Keeps.step hS (by unfold Block.severeMark; split <;> simp)

@[simp] theorem keeps_phasesMark (hS : [.regs, .phases] ⊆ S) (b : Block) (f : Nat) : b₀.Keeps S (b.phasesMark f) ↔ b₀.Keeps S b :=
  Keeps.step hS (by unfold Block.phasesMark; simp (disch := (intros; split <;> simp)))

@[simp] theorem keeps_vinMark (hS : [.fields, .faults] ⊆ S) (b : Block) (i : TickIn) (f : Nat) :
    b₀.Keeps S (b.vinMark i f) ↔ b₀.Keeps S b := Keeps.step hS (by unfold Block.vinMark; dsimp only; (repeat' split) <;> simp)

@[simp] theorem keeps_reportsMark (hS : [.fields, .hub, .faults] ⊆ S) (b : Block) (now : Nat) :
    b₀.Keeps S (b.reportsMark now) ↔ b₀.Keeps S b := Keeps.step hS (by unfold Block.reportsMark; simp)

@[simp] theorem keeps_procsMark (hS : [.regs, .parcels, .procs, .hub] ⊆ S) (b : Block) (now : Nat) :
    b₀.Keeps S (b.procsMark now) ↔ b₀.Keeps S b := Keeps.step hS (by unfold Block.procsMark; simp (maxDischargeDepth := 5))

@[simp] theorem keeps_drainMark (hS : [.regs, .hub] ⊆ S) (b : Block) (now : Nat) : b₀.Keeps S (b.drainMark now) ↔ b₀.Keeps S b :=
  Keeps.step hS (by unfold Block.drainMark; simp)

@[simp] theorem keeps_powerMark (hS : [.hub] ⊆ S) (b : Block) (pf : Bool) : b₀.Keeps S (b.powerMark pf) ↔ b₀.Keeps S b :=
  Keeps.step hS (by unfold Block.powerMark; simp)

@[simp] theorem keeps_commitsMark
    (hS : [.regs, .shadow, .pages, .agents, .fields, .rails, .phases, .ports, .traces, .ties, .mon, .nv, .hub, .faults] ⊆ S)
    (b : Block) (now : Nat) : b₀.Keeps S (b.commitsMark now) ↔ b₀.Keeps S b := Keeps.step hS (by unfold Block.commitsMark; simp)

@[simp] theorem keeps_fieldEnds (hS : [.agents, .parcels, .sensors, .slots, .fields, .faults] ⊆ S) (b : Block) (now : Nat)
    (i : TickIn) (f : Nat) : b₀.Keeps S (b.fieldEnds now i f) ↔ b₀.Keeps S b := Keeps.step hS (by unfold Block.fieldEnds; simp)

@[simp] theorem keeps_fieldBegins
    (hS : [.regs, .agents, .parcels, .cad, .sensors, .slots, .colls, .fields, .rails, .phases, .ports, .traces, .mon, .nv, .hub, .faults] ⊆ S)
    (b : Block) (now f : Nat) : b₀.Keeps S (b.fieldBegins now f) ↔ b₀.Keeps S b := Keeps.step hS (by unfold Block.fieldBegins; simp)

@[simp] theorem keeps_tickMark
    (hS : [.regs, .shadow, .pages, .agents, .parcels, .cad, .sensors, .slots, .ctxs, .accounts, .colls, .fields, .rails, .phases, .ports, .traces, .ties, .procs, .mems, .mon, .nv, .hub, .pins, .faults] ⊆ S)
    (b : Block) (now : Nat) (i : TickIn) : b₀.Keeps S (b.tickMark now i) ↔ b₀.Keeps S b :=
  Keeps.step hS (by unfold Block.tickMark; simp (maxDischargeDepth := 5))

@[simp] theorem keeps_takeActivity (hS : [.parcels] ⊆ S) (b : Block) (f s : Nat) : b₀.Keeps S (b.takeActivity f s) ↔ b₀.Keeps S b :=
  Keeps.step hS (by unfold Block.takeActivity; simp)

@[simp] theorem keeps_takeWordOf (hS : [.parcels, .sensors, .fields] ⊆ S) (b : Block) (now f : Nat) (w : TravWord) :
    b₀.Keeps S (b.takeWordOf now f w) ↔ b₀.Keeps S b := Keeps.step hS (by unfold Block.takeWordOf; simp)

@[simp] theorem keeps_resumeLate (hS : [.regs, .agents] ⊆ S) (b : Block) (f s : Nat) :
    b₀.Keeps S (b.resumeLate f s) ↔ b₀.Keeps S b := Keeps.step hS (by unfold Block.resumeLate; simp)

@[simp] theorem keeps_takeDown (hS : [.regs, .agents] ⊆ S) (b : Block) (f s : Nat) (planned arm rel : Bool) :
    b₀.Keeps S (b.takeDown f s planned arm rel) ↔ b₀.Keeps S b := Keeps.step hS (by unfold Block.takeDown; simp)

end Block

end Sys2Proof.Machine
end

section
/-!
SUPPORT. What each command may change: one lemma per command, by the rules of the operations that its meaning calls.
-/

namespace Sys2Proof.Machine

open Sys2Proof

variable {S : List Part}

/-! ### The command window -/

namespace State

theorem keeps_runCmd (hS : [.regs, .ports, .hub] ⊆ S) {op : Nat} {c : Cmd} {s : State} {denied : Option Nat} {body : Nat → State → State}
    (hbody : ∀ pt (s : State), s.Keeps S (body pt s)) : s.Keeps S (runCmd op c s denied body) := by
  simp only [List.cons_subset] at hS
  unfold runCmd
  dsimp only
  split
  · simp [hS]
  · next b hb =>
    have hb : s.b.Keeps S b := by
      split at hb
      · cases hb
        simp [hS]
      · split at hb <;> cases hb
        simp
    split
    · split <;> simp [hS, hb]
    · split
      · simp [hS, hb]
      · exact .trans (by simp [hS, hb]) (hbody _ _)

@[simp] theorem keeps_runCmdB (hS : [.regs, .ports, .hub] ⊆ S) {op : Nat} {c : Cmd} {s : State} {denied : Option Nat}
    {body : Nat → Nat → Block → Block} (hbody : ∀ now pt (b : Block), b.Keeps S (body now pt b)) :
    s.Keeps S (runCmdB op c s denied body) :=
  keeps_runCmd hS fun pt s => by simp [hbody]

theorem writeBuf_keeps (s : State) (c : Cmd) (k : Nat) (bytes : List Nat) : s.Keeps [.regs, .host] (writeBuf s c k bytes) := by
  unfold writeBuf
  split <;> simp

theorem drainBurst_keeps (k : Nat) (l : List TraceRec) (s : State) :
    s.Keeps [.regs, .fields, .traces, .hub, .host] (drainBurst k l s) := by
  simp [drainBurst]

theorem wipe_keeps (us : Nat) (s : State) : s.Keeps [.regs, .mems, .hub, .mem] (wipe us s) := by
  simp [wipe]

theorem bistReport_keeps (f pt : Nat) (s : State) : s.Keeps [.regs, .ports, .hub, .host] (bistReport f pt s) := by
  unfold bistReport
  split
  · simp
  · split
    · split
      · simp
      · dsimp only
        split
        · split
          · simp
          · exact .withBlock ((writeBuf_keeps ..).mono (by simp)) (by simp)
        · simp
    · simp

theorem advance_keeps (want sc : Nat) (s : State) : s.Keeps [.regs, .mems, .mon, .nv, .hub, .free, .mem] (advance want sc s) := by
  unfold advance
  have hfresh : s.Keeps [.free] { s with b := s.b.fresh.2 } := by simp
  exact .withBlock ((hfresh.mono (by simp)).trans ((wipe_keeps ..).mono (by simp))) (by simp)

theorem withFuses_keeps (l : List Nat) (sc : Nat) (s : State) : s.Keeps [.regs, .mon, .nv] (withFuses l sc s) := by
  unfold withFuses
  split <;> simp

end State

theorem readPage_keeps (s : State) (path : Path) (sc cls inst o : Nat) :
    s.b.Keeps [.regs, .shadow, .pages, .ports, .hub] (readPage s path sc cls inst o).2 := by
  unfold readPage
  dsimp only
  split
  · simp
  · split <;> simp

theorem readAt_keeps (s : State) (path : Path) (sc a : Nat) :
    s.b.Keeps [.regs, .shadow, .pages, .fields, .ports, .hub, .faults] (readAt s path sc a).2.2 := by
  unfold readAt
  split
  · simp
  · split
    · simp
    · exact (readPage_keeps ..).mono (by simp)
    · split <;> simp

theorem readRequest_keeps (s : State) (path : Path) (sc a be : Nat) :
    s.b.Keeps [.regs, .shadow, .pages, .fields, .ports, .hub, .faults] (readRequest s path sc a be).2.2 := by
  unfold readRequest
  dsimp only
  split
  · simp
  · exact readAt_keeps ..
  · split
    · exact (readAt_keeps s path sc (a / 8 * 8)).trans (readAt_keeps { s with b := (readAt s path sc (a / 8 * 8)).2.2 } ..)
    · exact readAt_keeps ..

theorem winRead_keeps (sc : Nat) (s : State) : s.b.Keeps [.regs, .shadow, .pages, .fields, .ports, .hub, .faults] (winRead sc s) := by
  unfold winRead
  exact (readAt_keeps s .i3c sc s.b.winOffset).trans (by simp)

theorem privateRead_keeps (sc n : Nat) (s : State) :
    s.b.Keeps [.regs, .shadow, .pages, .fields, .ports, .hub, .faults] (privateRead sc n s) := by
  unfold privateRead
  dsimp only
  split
  · exact (winRead_keeps sc s).trans (by simp)
  · simp

/-- A step of reset changes every part of the block it likes, and wafer time. -/
abbrev resetParts : List Part :=
  [.regs, .shadow, .pages, .agents, .parcels, .cad, .sensors, .slots, .ctxs, .accounts, .colls, .models, .fields, .rings, .rails, .phases,
    .ports, .traces, .ties, .procs, .mems, .mon, .nv, .hub, .pins, .faults, .free, .tick]

theorem Block.resetParts_keeps (a b : Block) : a.Keeps resetParts b := ⟨fun p _ => by cases p <;> trivial⟩

theorem answers_runCmd (hS : [.regs, .ports, .hub] ⊆ S) {op : Nat} {c : Cmd} {s : State} {denied : Option Nat} {body : Nat → State → State}
    (hbody : ∀ pt (s : State), s.Keeps S (body pt s)) : Answers S s (.next (runCmd op c s denied body)) :=
  answers_next.2 (State.keeps_runCmd hS hbody)

/-! ### Machine/Estimate.lean -/

theorem execProbeSlot_answers (f : FieldNo) (v : Word) (s : State) : Answers [.regs, .fields] s (execProbeSlot f v s) := by
  unfold execProbeSlot
  simp

/-! ### Machine/Measure.lean -/

theorem execMeasurementComplete_answers (f : FieldNo) (m : MeasIn) (s : State) :
    Answers [.regs, .parcels, .sensors, .slots, .colls, .fields, .phases, .traces, .free] s (execMeasurementComplete f m s) := by
  unfold execMeasurementComplete
  simp

theorem execChannelInvalid_answers (f : FieldNo) (p : PhaseNo) (s : State) :
    Answers [.regs, .fields, .phases, .faults] s (execChannelInvalid f p s) := by unfold execChannelInvalid; simp

theorem execChannelRestored_answers (f : FieldNo) (p : PhaseNo) (s : State) :
    Answers [.regs, .phases] s (execChannelRestored f p s) := by unfold execChannelRestored; simp

/-! ### Machine/Recal.lean -/

theorem execRecalSolve_answers (f : FieldNo) (s : State) : Answers [.regs, .fields, .faults] s (execRecalSolve f s) := by
  unfold execRecalSolve
  simp

theorem execRecalInstall_answers (f : FieldNo) (s : State) : Answers [.regs, .fields, .ports, .hub] s (execRecalInstall f s) := by
  simp only [execRecalInstall, answers_onB]
  (repeat' split) <;> simp

theorem execRecalibrate_answers (c : Cmd) (s : State) : Answers [.regs, .fields, .ports, .hub] s (execRecalibrate c s) :=
  by unfold execRecalibrate; simp (disch := (intros; (repeat' split) <;> simp))

/-! ### Machine/Models.lean -/

theorem execModelSwap_answers (port : CmdPort) (s : State) : Answers [.regs, .fields, .ports, .hub] s (execModelSwap port s) := by
  simp only [execModelSwap, answers_onB]
  (repeat' split) <;> simp

theorem execModelLoad_answers (c : Cmd) (s : State) : Answers [.regs, .models, .ports, .hub] s (execModelLoad c s) := by
  unfold execModelLoad
  refine answers_runCmd (by simp) fun pt s => ?_
  dsimp only
  (repeat' split) <;> simp

theorem execModelSelect_answers (c : Cmd) (s : State) : Answers [.regs, .shadow, .pages, .ports, .hub] s (execModelSelect c s) := by
  unfold execModelSelect
  simp

/-! ### Machine/Limits.lean -/

theorem execLimitPlan_answers (f : FieldNo) (s : State) : Answers [.regs, .parcels, .fields, .traces] s (execLimitPlan f s) := by
  unfold execLimitPlan
  simp

theorem execTickOverrun_answers (f : FieldNo) (s : State) :
    Answers [.regs, .agents, .parcels, .fields, .faults] s (execTickOverrun f s) :=
  by unfold execTickOverrun; simp (disch := (intros; split <;> simp))

theorem execSetFieldLimits_answers (c : Cmd) (s : State) :
    Answers [.regs, .shadow, .pages, .ports, .hub] s (execSetFieldLimits c s) := by unfold execSetFieldLimits; simp

/-! ### Machine/CapDivision.lean -/

theorem execFieldReport_answers (f : FieldNo) (crcOk : Bool) (s : State) :
    Answers [.regs, .fields, .hub, .faults] s (execFieldReport f crcOk s) := by unfold execFieldReport; simp

theorem execCapDivision_answers (s : State) : Answers [.regs, .hub] s (execCapDivision s) := by unfold execCapDivision; simp

theorem execHubTickOverrun_answers (s : State) : Answers [.regs, .fields, .hub, .faults] s (execHubTickOverrun s) := by
  unfold execHubTickOverrun
  simp

theorem execBudgetFrame_answers (f : FieldNo) (crcOk : Bool) (s : State) :
    Answers [.fields, .faults] s (execBudgetFrame f crcOk s) := by unfold execBudgetFrame; simp

theorem execSetWaferCap_answers (c : Cmd) (s : State) : Answers [.regs, .shadow, .pages, .ports, .hub] s (execSetWaferCap c s) := by
  unfold execSetWaferCap
  simp

/-! ### Machine/Agents.lean -/

theorem execDroopT1Event_answers (f : FieldNo) (p : SlotNo) (second : Bool) (margin : BitVec 6) (ec : BitVec 12) (s : State) :
    Answers [.agents] s (execDroopT1Event f p second margin ec s) := by unfold execDroopT1Event; simp

theorem execDroopT2Event_answers (f : FieldNo) (p : SlotNo) (second : Bool) (margin : BitVec 6) (ec : BitVec 12) (s : State) :
    Answers [.agents] s (execDroopT2Event f p second margin ec s) := by unfold execDroopT2Event; simp

theorem execClampReleaseCount_answers (f : FieldNo) (p : SlotNo) (s : State) : Answers [.agents] s (execClampReleaseCount f p s) := by
  unfold execClampReleaseCount
  simp

theorem execDroopEventWord_answers (f : FieldNo) (p : SlotNo) (s : State) :
    Answers [.regs, .agents, .fields, .traces] s (execDroopEventWord f p s) := by
  simp only [execDroopEventWord, answers_onB]
  (repeat' split) <;> simp

theorem execParcelIdle_answers (f : FieldNo) (p : SlotNo) (s : State) : Answers [.agents] s (execParcelIdle f p s) := by
  unfold execParcelIdle
  simp

theorem execUnticketedStart_answers (f : FieldNo) (p : SlotNo) (s : State) :
    Answers [.regs, .agents] s (execUnticketedStart f p s) := by unfold execUnticketedStart; simp

theorem execShapeStep_answers (f : FieldNo) (p : SlotNo) (s : State) : Answers [.agents] s (execShapeStep f p s) := by
  unfold execShapeStep
  simp

theorem execAllowanceWordPass_answers (f : FieldNo) (p : SlotNo) (s : State) :
    Answers [.regs, .agents, .rings] s (execAllowanceWordPass f p s) := by unfold execAllowanceWordPass; simp

theorem execRampMark_answers (k : Fin 8) (s : State) : Answers [.regs, .agents, .rings] s (execRampMark k s) :=
  by unfold execRampMark; simp (disch := (intros; (repeat' split) <;> simp))

/-! ### Machine/Regulator.lean -/

theorem execPhaseRestoreAll_answers (f : FieldNo) (r : Rail) (why : RestoreCause) (s : State) :
    Answers [.regs, .rails, .phases] s (execPhaseRestoreAll f r why s) := by unfold execPhaseRestoreAll; simp

theorem execAllowanceWordReturn_answers (f : FieldNo) (r : RingNo) (s : State) :
    Answers [.fields, .rings] s (execAllowanceWordReturn f r s) := by unfold execAllowanceWordReturn; simp

theorem execContourTargetSelect_answers (f : FieldNo) (s : State) :
    Answers [.regs, .fields, .traces] s (execContourTargetSelect f s) := by unfold execContourTargetSelect; simp

theorem execRefSlewStep_answers (f : FieldNo) (r : Rail) (s : State) : Answers [.regs, .rails] s (execRefSlewStep f r s) := by
  unfold execRefSlewStep
  simp

theorem execRailArrival_answers (f : FieldNo) (r : Rail) (s : State) : Answers [.regs] s (execRailArrival f r s) := by
  unfold execRailArrival
  simp

theorem execModulatorTrigger_answers (f : FieldNo) (r : Rail) (t : Nat) (vout : BitVec 16) (amps : Vector (BitVec 8) 20) (s : State)
    : Answers [.rails, .phases] s (execModulatorTrigger f r t vout amps s) := by
  simp only [execModulatorTrigger, answers_onB]
  (repeat' split) <;> simp

theorem execBrakeStart_answers (f : FieldNo) (r : Rail) (s : State) : Answers [.regs] s (execBrakeStart f r s) := by
  unfold execBrakeStart
  simp

theorem execBrakeEnd_answers (f : FieldNo) (r : Rail) (t : Nat) (s : State) : Answers [.regs, .rails] s (execBrakeEnd f r t s) := by
  unfold execBrakeEnd
  simp

theorem execBalancePeriodEnd_answers (f : FieldNo) (r : Rail) (s : State) :
    Answers [.regs, .fields, .rails, .phases, .faults] s (execBalancePeriodEnd f r s) :=
  by unfold execBalancePeriodEnd; simp (disch := (intros; (repeat' split) <;> simp))

theorem execRailOv_answers (f : FieldNo) (r : Rail) (i : LastFaultIn) (s : State) :
    Answers [.regs, .fields, .rails, .ports, .mon, .hub, .faults] s (execRailOv f r i s) := by unfold execRailOv; simp

theorem execRailUv_answers (f : FieldNo) (r : Rail) (s : State) : Answers [.regs, .fields, .rails, .faults] s (execRailUv f r s) := by
  unfold execRailUv
  simp

theorem execRailUvReturn_answers (f : FieldNo) (r : Rail) (s : State) : Answers [.rails] s (execRailUvReturn f r s) := by
  unfold execRailUvReturn
  simp

theorem execPhaseOc_answers (f : FieldNo) (p : PhaseNo) (s : State) :
    Answers [.regs, .fields, .phases, .faults] s (execPhaseOc f p s) := by unfold execPhaseOc; simp

theorem execPhaseOt_answers (f : FieldNo) (p : PhaseNo) (s : State) :
    Answers [.regs, .fields, .rails, .phases, .faults] s (execPhaseOt f p s) := by unfold execPhaseOt; simp

theorem execPhaseOtClear_answers (f : FieldNo) (p : PhaseNo) (s : State) : Answers [.regs, .phases] s (execPhaseOtClear f p s) := by
  unfold execPhaseOtClear
  simp

theorem execPhFaultNAssert_answers (f : FieldNo) (p : PhaseNo) (i : LastFaultIn) (s : State) :
    Answers [.regs, .fields, .rails, .phases, .mon, .faults] s (execPhFaultNAssert f p i s) := by unfold execPhFaultNAssert; simp

theorem execLatchOff_answers (f : FieldNo) (why : LatchCause) (r : Rail) (i : LastFaultIn) (s : State) :
    Answers [.regs, .fields, .rails, .ports, .mon, .hub, .faults] s (execLatchOff f why r i s) := by
  unfold execLatchOff
  split <;> simp

theorem execVinStop_answers (f : FieldNo) (i : LastFaultIn) (s : State) :
    Answers [.regs, .agents, .fields, .rails, .ports, .mon, .hub, .faults] s (execVinStop f i s) := by unfold execVinStop; simp

theorem execSoftStartEnd_answers (f : FieldNo) (s : State) : Answers [.regs, .agents, .fields, .rails] s (execSoftStartEnd f s) := by
  unfold execSoftStartEnd
  simp

theorem execRailStopDone_answers (f : FieldNo) (s : State) :
    Answers [.regs, .agents, .fields, .rails, .ports, .hub] s (execRailStopDone f s) := by unfold execRailStopDone; simp

theorem execDatumWrite_answers (c : Cmd) (s : State) : Answers [.regs, .shadow, .pages, .ports, .hub] s (execDatumWrite c s) :=
  by unfold execDatumWrite; simp (disch := (intros; (repeat' split) <;> simp))

theorem execRailEnable_answers (c : Cmd) (s : State) : Answers [.regs, .fields, .ports, .mon, .nv, .hub] s (execRailEnable c s) :=
  by unfold execRailEnable; simp (disch := (intros; (repeat' split) <;> simp))

theorem execRailDisable_answers (c : Cmd) (s : State) :
    Answers [.regs, .fields, .rails, .ports, .mon, .nv, .hub] s (execRailDisable c s) := by
  unfold execRailDisable
  simp (maxDischargeDepth := 5)

/-! ### Machine/Margin.lean -/

theorem execT2BlockEnd_answers (f : FieldNo) (s : State) :
    Answers [.regs, .agents, .fields, .traces, .faults] s (execT2BlockEnd f s) := by unfold execT2BlockEnd; simp

theorem execEstModeChange_answers (f : FieldNo) (s : State) :
    Answers [.regs, .agents, .fields, .traces, .faults] s (execEstModeChange f s) := by unfold execEstModeChange; simp

theorem execSetMarginMode_answers (c : Cmd) (s : State) :
    Answers [.regs, .shadow, .pages, .ports, .hub] s (execSetMarginMode c s) := by unfold execSetMarginMode; simp

/-! ### Machine/Tickets.lean -/

theorem execTicketOutTaken_answers (f : FieldNo) (s : State) : Answers [.fields] s (execTicketOutTaken f s) := by
  simp only [execTicketOutTaken, answers_onB]
  (repeat' split) <;> simp

theorem execTicketRequest_answers (port : FieldNo) (x : TkMessage) (ec : BitVec 12) (sc : ScOff) (s : State) :
    Answers [.regs, .agents, .parcels, .slots, .fields, .traces, .hub, .faults] s (execTicketRequest port x ec sc s) := by
  unfold execTicketRequest
  split <;> simp

theorem execRepresentWindowEnd_answers (f : FieldNo) (s : State) :
    Answers [.regs, .agents, .parcels, .slots, .fields, .traces, .hub, .faults] s (execRepresentWindowEnd f s) := by
  unfold execRepresentWindowEnd
  simp

theorem execTicketStart_answers (f : FieldNo) (k : TSlotNo) (sc : ScOff) (s : State) :
    Answers [.regs, .agents, .parcels, .slots, .fields, .traces, .hub, .faults] s (execTicketStart f k sc s) := by
  unfold execTicketStart
  simp

theorem execTicketEnd_answers (f : FieldNo) (k : TSlotNo) (sc : ScOff) (s : State) :
    Answers [.regs, .agents, .parcels, .slots, .fields, .traces, .hub, .faults] s (execTicketEnd f k sc s) := by
  unfold execTicketEnd
  simp

theorem execTicketAged_answers (f : FieldNo) (k : TSlotNo) (s : State) : Answers [.slots] s (execTicketAged f k s) := by
  unfold execTicketAged
  simp

theorem execStartTimeout_answers (f : FieldNo) (k : TSlotNo) (s : State) :
    Answers [.regs, .agents, .slots, .fields, .faults] s (execStartTimeout f k s) := by unfold execStartTimeout; simp

theorem execWaferQueueAnswer_answers (f : FieldNo) (s : State) : Answers [.fields] s (execWaferQueueAnswer f s) := by
  unfold execWaferQueueAnswer
  simp

theorem execWaferQueueMove_answers (s : State) :
    Answers [.regs, .agents, .slots, .fields, .traces, .hub] s (execWaferQueueMove s) := by
  simp only [execWaferQueueMove, answers_onB]
  (repeat' split) <;> simp

/-! ### Machine/WaitFor.lean -/

theorem execWaitforBuild_answers (c : Cmd) (s : State) : Answers [.regs, .ports, .hub] s (execWaitforBuild c s) := by
  unfold execWaitforBuild
  simp

theorem execWaitforBuildDone_answers (s : State) : Answers [.regs, .ports, .hub] s (execWaitforBuildDone s) := by
  unfold execWaitforBuildDone
  simp

theorem execTicketHang_answers (f : FieldNo) (s : State) : Answers [.regs, .fields, .traces, .mon, .hub] s (execTicketHang f s) := by
  unfold execTicketHang
  simp

theorem execCapShareEval_answers (s : State) : Answers [.ctxs] s (execCapShareEval s) := by unfold execCapShareEval; simp

theorem execContextAbort_answers (n : CtxNo) (s : State) :
    Answers [.regs, .slots, .ctxs, .colls, .fields, .traces, .hub] s (execContextAbort n s) := by
  unfold execContextAbort
  simp (maxDischargeDepth := 5)

/-! ### Machine/Accounts.lean -/

theorem execAccountOpen_answers (c : Cmd) (s : State) : Answers [.regs, .ctxs, .ports, .hub] s (execAccountOpen c s) := by
  unfold execAccountOpen
  simp

theorem execAccountClose_answers (c : Cmd) (s : State) : Answers [.regs, .ctxs, .accounts, .ports, .hub] s (execAccountClose c s) := by
  unfold execAccountClose
  simp

theorem execAccountRead_answers (c : Cmd) (s : State) : Answers [.regs, .ports, .hub, .host] s (execAccountRead c s) := by
  unfold execAccountRead
  refine answers_runCmd (by simp) fun pt s => ?_
  dsimp only
  split
  · simp
  · split
    · simp
    · exact .withBlock ((State.writeBuf_keeps ..).mono (by simp)) (by simp)

theorem execJobRestartNote_answers (c : Cmd) (s : State) : Answers [.regs, .accounts, .ports, .hub] s (execJobRestartNote c s) := by
  unfold execJobRestartNote
  simp

theorem execDrainPass_answers (f : FieldNo) (s : State) : Answers [.colls, .fields] s (execDrainPass f s) := by
  unfold execDrainPass
  simp

theorem execDrainFrame_answers (f : FieldNo) (s : State) : Answers [.regs, .accounts, .fields, .faults] s (execDrainFrame f s) := by
  simp only [execDrainFrame, answers_onB]
  (repeat' split) <;> simp

theorem execDrainResend_answers (f : FieldNo) (s : State) : Answers [.regs, .fields] s (execDrainResend f s) := by
  unfold execDrainResend
  simp

theorem execAccountFinal_answers (n : CtxNo) (s : State) : Answers [.regs, .accounts, .ports, .hub] s (execAccountFinal n s) := by
  unfold execAccountFinal
  simp

theorem execCounterUpdate_answers (f : FieldNo) (s : State) : Answers [.regs, .colls, .fields, .hub] s (execCounterUpdate f s) := by
  unfold execCounterUpdate
  simp

theorem execHubCounterUpdate_answers (s : State) : Answers [.regs, .hub] s (execHubCounterUpdate s) := by
  unfold execHubCounterUpdate
  simp

/-! ### Machine/Thermal.lean -/

theorem execCoolDemandUpdate_answers (s : State) : Answers [.regs, .hub] s (execCoolDemandUpdate s) := by
  unfold execCoolDemandUpdate
  simp

theorem execSensorBroken_answers (f : FieldNo) (k : SensorKind) (index : SlotNo) (s : State) :
    Answers [.regs, .parcels, .cad, .sensors, .fields, .mon, .nv, .faults] s (execSensorBroken f k index s) :=
  by simp only [execSensorBroken, answers_onB]; (repeat' split) <;> simp (disch := (intros; (repeat' split) <;> simp))

theorem execAutoRemap_answers (f : FieldNo) (p : SlotNo) (s : State) : Answers [.sensors] s (execAutoRemap f p s) := by
  unfold execAutoRemap
  simp

theorem execSpareValidated_answers (f : FieldNo) (p : SlotNo) (s : State) :
    Answers [.regs, .parcels, .sensors, .hub] s (execSpareValidated f p s) := by unfold execSpareValidated; simp

theorem execSensorRemap_answers (c : Cmd) (s : State) : Answers [.regs, .sensors, .ports, .hub] s (execSensorRemap c s) :=
  by unfold execSensorRemap; simp (disch := (intros; (repeat' split) <;> simp))

theorem execThermalWarning_answers (f : FieldNo) (s : State) : Answers [.regs, .mon, .hub] s (execThermalWarning f s) := by
  unfold execThermalWarning
  simp

theorem execThermalThrottleStep_answers (f : FieldNo) (s : State) :
    Answers [.regs, .parcels, .fields, .traces, .hub] s (execThermalThrottleStep f s) := by unfold execThermalThrottleStep; simp

theorem execThermalRestoreStep_answers (f : FieldNo) (s : State) : Answers [.regs, .parcels, .hub] s (execThermalRestoreStep f s) := by
  unfold execThermalRestoreStep
  simp

theorem execBandChange_answers (f : FieldNo) (s : State) : Answers [.regs, .fields, .traces, .pins] s (execBandChange f s) := by
  unfold execBandChange
  simp

theorem execFlowTachEdge_answers (sc : ScOff) (s : State) : Answers [.regs, .hub] s (execFlowTachEdge sc s) := by
  unfold execFlowTachEdge
  simp

theorem execFlowLoss_answers (s : State) : Answers [.regs, .fields, .hub, .faults] s (execFlowLoss s) := by
  simp only [execFlowLoss, answers_onB]
  (repeat' split) <;> simp

theorem execFlowRestore_answers (s : State) : Answers [.regs, .hub] s (execFlowRestore s) := by
  simp only [execFlowRestore, answers_onB]
  (repeat' split) <;> simp

theorem execRundownEnd_answers (s : State) : Answers [.regs, .hub, .pins] s (execRundownEnd s) := by
  simp only [execRundownEnd, answers_onB]
  (repeat' split) <;> simp

theorem execThermalShutdown_answers (f : FieldNo) (k : SensorKind) (index : SlotNo) (sc : ScOff) (s : State) :
    Answers [.regs, .fields, .hub, .pins] s (execThermalShutdown f k index sc s) := by
  simp only [execThermalShutdown, answers_onB]
  (repeat' split) <;> simp

/-! ### Machine/Tie.lean -/

theorem execTieAlign_answers (k : TieNo) (s : State) : Answers [.regs, .fields, .traces, .ties] s (execTieAlign k s) := by
  unfold execTieAlign
  simp

theorem execHello_answers (k : TieNo) (q : Byte) (farId : Word) (farPort farGrade : Byte) (sc : ScOff) (s : State) :
    Answers [.regs, .fields, .traces, .ties] s (execHello k q farId farPort farGrade sc s) := by unfold execHello; simp

theorem execProbe_answers (k : TieNo) (q : Byte) (t1 : TieTime) (sc : ScOff) (s : State) :
    Answers [.regs, .fields, .traces, .ties] s (execProbe k q t1 sc s) := by unfold execProbe; simp

theorem execEcho_answers (k : TieNo) (q : Byte) (t1 t2 t3 : TieTime) (sc : ScOff) (s : State) :
    Answers [.regs, .fields, .traces, .ties] s (execEcho k q t1 t2 t3 sc s) := by unfold execEcho; simp (maxDischargeDepth := 5)

theorem execTimestampSend_answers (sc : ScOff) (s : State) : Answers [.regs, .fields, .traces, .ties] s (execTimestampSend sc s) := by
  unfold execTimestampSend
  simp

theorem execTimestamp_answers (k : TieNo) (q : Byte) (sent : TieTime) (sc : ScOff) (s : State) :
    Answers [.regs, .fields, .traces, .ties, .hub] s (execTimestamp k q sent sc s) := by unfold execTimestamp; simp

theorem execTieCrcError_answers (k : TieNo) (s : State) : Answers [.regs, .ties] s (execTieCrcError k s) := by
  unfold execTieCrcError
  simp

theorem execTiePortDown_answers (k : TieNo) (why : TieDownCause) (s : State) :
    Answers [.regs, .fields, .traces, .ties, .hub, .faults] s (execTiePortDown k why s) := by unfold execTiePortDown; simp

/-! ### Machine/Contour.lean -/

theorem execSetContourPoint_answers (c : Cmd) (s : State) :
    Answers [.regs, .fields, .ports, .traces, .ties, .hub] s (execSetContourPoint c s) := by unfold execSetContourPoint; simp

theorem execFreqStep_answers (c : Cmd) (s : State) : Answers [.regs, .fields, .ports, .traces, .ties, .hub] s (execFreqStep c s) := by
  unfold execFreqStep
  simp

theorem execPllLock_answers (s : State) : Answers [.hub] s (execPllLock s) := by unfold execPllLock; simp

theorem execContourStepApply_answers (s : State) :
    Answers [.regs, .fields, .ports, .traces, .ties, .hub, .faults, .free] s (execContourStepApply s) := by
  simp only [execContourStepApply, answers_onB]
  (repeat' split) <;> simp

theorem execPlumbEntry_answers (s : State) : Answers [.regs, .ports, .hub, .free] s (execPlumbEntry s) := by
  simp only [execPlumbEntry, answers_onB]
  (repeat' split) <;> simp

theorem execSetPlumb_answers (c : Cmd) (s : State) :
    Answers [.regs, .shadow, .pages, .fields, .ports, .traces, .ties, .hub] s (execSetPlumb c s) := by
  unfold execSetPlumb
  refine answers_next.2 (State.keeps_runCmdB (by simp) fun now pt b => ?_)
  dsimp only
  split
  · simp
  · split
    · simp
    · split
      · simp
      · split
        · simp
        · simp
        · next h =>
          refine .trans ((Block.commitByCmd_keeps h).mono (by simp)) ?_
          split <;> simp

theorem execPolicyEval_answers (s : State) : Answers [.regs, .fields, .traces, .ties, .hub] s (execPolicyEval s) := by
  unfold execPolicyEval
  simp

/-! ### Machine/Lock.lean -/

theorem execLockJoin_answers (c : Cmd) (s : State) : Answers [.regs, .fields, .ports, .traces, .ties, .hub] s (execLockJoin c s) := by
  unfold execLockJoin
  simp

theorem execLockLeave_answers (c : Cmd) (s : State) :
    Answers [.regs, .fields, .ports, .traces, .ties, .hub] s (execLockLeave c s) := by unfold execLockLeave; simp

theorem execJoinAck_answers (k : TieNo) (q : Byte) (g result point : Byte) (plumb : Bool) (ownerId : Word) (sc : ScOff) (s : State)
    : Answers [.regs, .fields, .ports, .traces, .ties, .hub, .free] s (execJoinAck k q g result point plumb ownerId sc s) :=
  by unfold execJoinAck; simp (disch := (intros; (repeat' split) <;> simp))

theorem execJoin_answers (k : TieNo) (q : Byte) (g depth : Byte) (id : Word) (sc : ScOff) (s : State) :
    Answers [.regs, .fields, .ports, .traces, .ties, .hub, .faults] s (execJoin k q g depth id sc s) := by unfold execJoin; simp

theorem execLeave_answers (k : TieNo) (q : Byte) (g cause : Byte) (id : Word) (sc : ScOff) (s : State) :
    Answers [.regs, .fields, .ports, .traces, .ties, .hub, .faults] s (execLeave k q g cause id sc s) := by unfold execLeave; simp

theorem execSync_answers (k : TieNo) (q : Byte) (g point : Byte) (plumb : Bool) (id : Byte) (sc : ScOff) (s : State) :
    Answers [.regs, .fields, .ports, .traces, .ties, .hub, .faults] s (execSync k q g point plumb id sc s) := by
  unfold execSync
  simp

theorem execStepRequest_answers (k : TieNo) (q : Byte) (g point : Byte) (id : Word) (sc : ScOff) (s : State) :
    Answers [.regs, .fields, .ports, .traces, .ties, .hub, .faults] s (execStepRequest k q g point id sc s) := by
  unfold execStepRequest
  simp

theorem execStep_answers (k : TieNo) (q : Byte) (g id point : Byte) (plumb : Bool) (power : BitVec 16) (target : TieTime)
    (sc : ScOff) (s : State) : Answers [.regs, .fields, .traces, .ties, .hub] s (execStep k q g id point plumb power target sc s) := by
  unfold execStep
  simp

theorem execStepDone_answers (k : TieNo) (q : Byte) (g id result : Byte) (skew : Word) (wid : Word) (sc : ScOff) (s : State) :
    Answers [.regs, .fields, .traces, .ties, .hub] s (execStepDone k q g id result skew wid sc s) := by unfold execStepDone; simp

theorem execFreeze_answers (k : TieNo) (q : Byte) (g : Byte) (id : Word) (sc : ScOff) (s : State) :
    Answers [.regs, .fields, .traces, .ties, .hub] s (execFreeze k q g id sc s) := by unfold execFreeze; simp

theorem execThaw_answers (k : TieNo) (q : Byte) (g : Byte) (sc : ScOff) (s : State) :
    Answers [.regs, .fields, .traces, .ties, .hub] s (execThaw k q g sc s) := by unfold execThaw; simp

/-! ### Machine/Trace.lean -/

theorem execTrigNow_answers (s : State) : Answers [.regs, .traces] s (execTrigNow s) := by unfold execTrigNow; simp

theorem execTraceStaleSweep_answers (s : State) : Answers [.regs, .traces] s (execTraceStaleSweep s) :=
  by unfold execTraceStaleSweep; simp (disch := (intros; (repeat' split) <;> simp))

theorem execFwPoint_answers (p : ProcNo) (v : Word) (sc : ScOff) (s : State) :
    Answers [.regs, .fields, .traces] s (execFwPoint p v sc s) := by unfold execFwPoint; simp

theorem execTraceDrainBurst_answers (s : State) :
    Answers [.regs, .fields, .traces, .hub, .free, .host] s (execTraceDrainBurst s) := by
  unfold execTraceDrainBurst
  split
  · simp
  · split
    · simp
    · next k _ =>
      have hfresh : s.Keeps [.free] { s with b := s.b.fresh.2 } := by simp
      have hburst := (hfresh.mono (by simp)).trans ((State.drainBurst_keeps k (s.b.fresh.2.burst s.tick (s.b.fresh.1 % 2048) k) _).mono
        (show _ ⊆ [.regs, .fields, .traces, .hub, .free, .host] by simp))
      simp [hburst]

theorem execTail_answers (v : Word) (s : State) : Answers [.regs, .pages] s (execTail v s) := by unfold execTail; simp

theorem execTraceConfig_answers (c : Cmd) (s : State) : Answers [.regs, .shadow, .pages, .ports, .hub] s (execTraceConfig c s) := by
  unfold execTraceConfig
  split <;> simp

theorem execTraceStart_answers (c : Cmd) (s : State) : Answers [.regs, .shadow, .pages, .ports, .hub] s (execTraceStart c s) := by
  unfold execTraceStart
  split <;> simp

theorem execTraceStop_answers (c : Cmd) (s : State) :
    Answers [.regs, .shadow, .pages, .ports, .traces, .hub] s (execTraceStop c s) :=
  by unfold execTraceStop; simp (disch := (intros; (repeat' split) <;> simp))

/-! ### Machine/Halt.lean -/

theorem execHalt_answers (c : Cmd) (s : State) : Answers [.regs, .ports, .hub] s (execHalt c s) := by unfold execHalt; simp

theorem execHaltCut_answers (s : State) : Answers [.regs, .agents, .hub] s (execHaltCut s) := by
  simp only [execHaltCut, answers_onB]
  (repeat' split) <;> simp

theorem execImmediateHalt_answers (why : HaltCause) (sc : ScOff) (s : State) :
    Answers [.regs, .agents, .fields, .ports, .traces, .ties, .hub] s (execImmediateHalt why sc s) := by
  unfold execImmediateHalt
  simp

theorem execTieHaltSet_answers (k : TieNo) (group kind : Byte) (sc : ScOff) (s : State) :
    Answers [.regs, .fields, .traces, .ties, .hub] s (execTieHaltSet k group kind sc s) := by unfold execTieHaltSet; simp

theorem execHaltedEntry_answers (arrivals : List (FieldNo × BitVec 16 × BitVec 16)) (s : State) :
    Answers [.regs, .fields, .ports, .traces, .hub] s (execHaltedEntry arrivals s) := by unfold execHaltedEntry; simp

theorem execHaltTimeout_answers (f : FieldNo) (p : SlotNo) (s : State) :
    Answers [.regs, .fields, .faults] s (execHaltTimeout f p s) := by unfold execHaltTimeout; simp

theorem execResume_answers (c : Cmd) (s : State) : Answers [.regs, .agents, .ports, .hub] s (execResume c s) := by
  unfold execResume
  simp

theorem execHaltRelease_answers (s : State) :
    Answers [.regs, .agents, .fields, .ports, .traces, .hub, .pins] s (execHaltRelease s) := by
  simp only [execHaltRelease, answers_onB]
  (repeat' split) <;> simp

theorem execShutdownAck_answers (c : Cmd) (s : State) : Answers [.regs, .ports, .mon, .hub] s (execShutdownAck c s) := by
  unfold execShutdownAck
  simp

theorem execShutdownExit_answers (s : State) : Answers [.regs, .hub] s (execShutdownExit s) := by unfold execShutdownExit; simp

/-! ### Machine/Faults.lean -/

theorem execFaultEvent_answers (src : SourceNo) (fld : Option FieldNo) (detail : BitVec 16) (sc : ScOff) (s : State) :
    Answers [.regs, .fields, .traces, .mon, .hub, .pins, .faults] s (execFaultEvent src fld detail sc s) := by
  unfold execFaultEvent
  simp

theorem execCollectorRecovering_answers (s : State) : Answers [.regs, .hub] s (execCollectorRecovering s) := by
  simp only [execCollectorRecovering, answers_onB]
  (repeat' split) <;> simp

theorem execRecoveryComplete_answers (s : State) : Answers [.regs, .mon, .hub, .pins] s (execRecoveryComplete s) := by
  unfold execRecoveryComplete
  simp

theorem execFaultBitExpire_answers (src : SourceNo) (s : State) : Answers [.regs] s (execFaultBitExpire src s) := by
  unfold execFaultBitExpire
  simp

theorem execFaultStatusW1c_answers (v : Word) (s : State) : Answers [.regs, .hub] s (execFaultStatusW1c v s) := by
  unfold execFaultStatusW1c
  simp

theorem execFaultClear_answers (c : Cmd) (s : State) : Answers [.regs, .ports, .mon, .hub, .pins] s (execFaultClear c s) := by
  unfold execFaultClear
  simp

theorem execFaultPolicy_answers (c : Cmd) (s : State) : Answers [.regs, .shadow, .pages, .ports, .hub] s (execFaultPolicy c s) := by
  unfold execFaultPolicy
  simp

theorem execEngineErrorEdge_answers (sc : ScOff) (s : State) : Answers [.fields, .hub, .faults] s (execEngineErrorEdge sc s) := by
  unfold execEngineErrorEdge
  simp

theorem execEngineErrorRearm_answers (s : State) : Answers [.hub] s (execEngineErrorRearm s) := by unfold execEngineErrorRearm; simp

theorem execClockLoss_answers (what : ClockSource) (sc : ScOff) (s : State) :
    Answers [.fields, .faults] s (execClockLoss what sc s) := by unfold execClockLoss; simp

/-! ### Machine/Firmware.lean -/

theorem execMpuViolation_answers (p : ProcNo) (comp : Byte) (sc : ScOff) (s : State) :
    Answers [.regs, .fields, .rails, .ports, .traces, .procs, .mon, .hub, .faults, .free] s (execMpuViolation p comp sc s) := by
  unfold execMpuViolation
  simp

theorem execGateCall_answers (p : ProcNo) (caller gate : Byte) (args : List Word) (violates : Bool) (sc : ScOff) (s : State) :
    Answers [.regs, .fields, .rails, .ports, .traces, .procs, .mon, .hub, .faults, .free] s (execGateCall p caller gate args violates sc s) := by
  unfold execGateCall
  simp

theorem execProcessorTrap_answers (p : ProcNo) (uncorrectable : Bool) (sc : ScOff) (s : State) :
    Answers [.regs, .fields, .rails, .ports, .traces, .procs, .mon, .hub, .faults, .free] s (execProcessorTrap p uncorrectable sc s) := by
  unfold execProcessorTrap
  simp

theorem execWatchdogExpiry_answers (p : ProcNo) (i : WatchIn) (s : State) :
    Answers [.regs, .fields, .rails, .ports, .traces, .procs, .mon, .hub, .faults, .free] s (execWatchdogExpiry p i s) := by
  unfold execWatchdogExpiry
  simp

theorem execImageCheck_answers (p : ProcNo) (sc : ScOff) (s : State) :
    Answers [.regs, .fields, .rails, .ports, .traces, .procs, .mon, .hub, .faults, .free, .mem] s (execImageCheck p sc s) := by
  unfold execImageCheck
  simp

theorem execProcessorRun_answers (p : ProcNo) (sc : ScOff) (s : State) :
    Answers [.regs, .models, .fields, .rails, .ports, .traces, .ties, .procs, .mon, .hub, .faults, .free] s (execProcessorRun p sc s) := by
  unfold execProcessorRun
  simp

theorem execHoldExpired_answers (p : ProcNo) (s : State) :
    Answers [.regs, .fields, .rails, .ports, .traces, .procs, .mon, .hub, .faults, .free] s (execHoldExpired p s) := by
  unfold execHoldExpired
  simp

theorem execStartFail_answers (p : ProcNo) (s : State) :
    Answers [.regs, .fields, .rails, .ports, .traces, .procs, .mon, .hub, .free] s (execStartFail p s) := by
  unfold execStartFail
  simp (maxDischargeDepth := 5)

theorem execFwStage_answers (c : Cmd) (s : State) : Answers [.regs, .ports, .mon, .hub] s (execFwStage c s) := by
  unfold execFwStage
  refine answers_runCmd (by simp) fun pt s => ?_
  dsimp only
  (repeat' split) <;> simp

theorem execFwActivate_answers (c : Cmd) (s : State) :
    Answers [.regs, .fields, .rails, .ports, .traces, .procs, .mon, .hub, .pins, .free] s (execFwActivate c s) :=
  by unfold execFwActivate; simp (disch := (intros; (repeat' split) <;> simp))

theorem execProbationEnd_answers (p : ProcNo) (s : State) :
    Answers [.regs, .fields, .rails, .ports, .traces, .procs, .mon, .hub, .faults, .free] s (execProbationEnd p s) := by
  unfold execProbationEnd
  simp

theorem execSlotCopyDone_answers (s : State) : Answers [.regs, .ports, .procs, .mon, .nv, .hub] s (execSlotCopyDone s) := by
  unfold execSlotCopyDone
  simp (maxDischargeDepth := 5)

theorem execFwRestart_answers (c : Cmd) (s : State) :
    Answers [.regs, .fields, .rails, .ports, .traces, .procs, .mon, .hub, .faults, .free] s (execFwRestart c s) := by
  unfold execFwRestart
  simp

theorem execQuote_answers (c : Cmd) (s : State) : Answers [.regs, .ports, .hub, .host] s (execQuote c s) := by
  unfold execQuote
  refine answers_runCmd (by simp) fun pt s => ?_
  dsimp only
  split
  · simp
  · split
    · simp
    · split
      · simp
      · exact .withBlock ((State.writeBuf_keeps ..).mono (by simp)) (by simp)

/-! ### Machine/Monument.lean -/

theorem execMonumentProgramDone_answers (ok : Bool) (s : State) :
    Answers [.regs, .fields, .mon, .faults] s (execMonumentProgramDone ok s) := by
  simp only [execMonumentProgramDone, answers_onB]
  (repeat' split) <;> simp

theorem execMonumentEraseDone_answers (ok : Bool) (s : State) :
    Answers [.regs, .fields, .mon, .faults] s (execMonumentEraseDone ok s) := by unfold execMonumentEraseDone; simp

theorem execNorTimeout_answers (erase : Bool) (s : State) : Answers [.regs, .fields, .mon, .faults] s (execNorTimeout erase s) := by
  unfold execNorTimeout
  simp

theorem execEraseSuspend_answers (s : State) : Answers [.mon] s (execEraseSuspend s) := by unfold execEraseSuspend; simp

theorem execTokenRefill_answers (s : State) : Answers [.mon] s (execTokenRefill s) := by unfold execTokenRefill; simp

theorem execRecordRead_answers (c : Cmd) (s : State) :
    Answers [.regs, .fields, .ports, .hub, .faults, .host] s (execRecordRead c s) := by
  unfold execRecordRead
  refine answers_runCmd (by simp) fun pt s => ?_
  dsimp only
  split
  · simp
  · split
    · simp
    · exact .withBlock ((State.writeBuf_keeps ..).mono (by simp)) (by simp)

theorem execFirstRegionClear_answers (c : Cmd) (s : State) : Answers [.regs, .ports, .mon, .hub] s (execFirstRegionClear c s) := by
  unfold execFirstRegionClear
  simp

theorem execPwrFailNAssert_answers (s : State) : Answers [.regs, .fields, .rails, .mon, .hub] s (execPwrFailNAssert s) := by
  unfold execPwrFailNAssert
  simp

theorem execPwrFailStop_answers (i : Vector LastFaultIn 84) (s : State) :
    Answers [.regs, .agents, .fields, .rails, .ports, .mon, .hub, .faults] s (execPwrFailStop i s) := by
  simp only [execPwrFailStop, answers_onB]
  (repeat' split) <;> simp

theorem execPwrFailNDeassert_answers (s : State) : Answers [.mon, .hub] s (execPwrFailNDeassert s) := by
  unfold execPwrFailNDeassert
  simp

/-! ### Machine/Memory.lean -/

theorem execScrubRead_answers (m : MemId) (flips : BitVec 137) (s : State) :
    Answers [.regs, .fields, .mems, .faults, .mem] s (execScrubRead m flips s) := by unfold execScrubRead; split <;> simp

theorem execAliasWrite_answers (p : ProcNo) (set : Bool) (addr : BitVec 22) (i : AliasIn) (s : State) :
    Answers [.regs, .fields, .rails, .ports, .traces, .procs, .mon, .hub, .faults, .free, .mem] s (execAliasWrite p set addr i s) := by
  unfold execAliasWrite
  simp

theorem execSoftRepair_answers (m : MemId) (bank : Fin 64) (row : Fin 512) (s : State) :
    Answers [.fields, .mems, .mon, .nv, .faults] s (execSoftRepair m bank row s) := by unfold execSoftRepair; simp

theorem execMarch_answers (c : Cmd) (s : State) : Answers [.regs, .ports, .mems, .hub] s (execMarch c s) :=
  by unfold execMarch; simp (disch := (intros; (repeat' split) <;> simp))

theorem execMarchSegment_answers (m : MemId) (failing : List (Fin 512)) (s : State) :
    Answers [.regs, .fields, .mems, .mon, .nv, .faults, .mem] s (execMarchSegment m failing s) := by unfold execMarchSegment; simp

theorem execMarchDone_answers (i : MarchEnd) (s : State) :
    Answers [.regs, .cad, .slots, .accounts, .colls, .fields, .rails, .ports, .traces, .procs, .mems, .mon, .nv, .hub, .faults, .free] s (execMarchDone i s) :=
  by unfold execMarchDone; simp (disch := (intros; (repeat' split) <;> simp))

theorem execTamperNAssert_answers (us : BitVec 16) (sc : ScOff) (s : State) :
    Answers [.regs, .fields, .mems, .hub, .faults, .mem] s (execTamperNAssert us sc s) :=
  answers_next.2 (.withBlock ((State.wipe_keeps ..).mono (by simp)) (by simp))

/-! ### Machine/SelfTest.lean -/

theorem execBistRun_answers (c : Cmd) (s : State) : Answers [.regs, .fields, .ports, .hub] s (execBistRun c s) :=
  by unfold execBistRun; simp (disch := (intros; (repeat' split) <;> simp))

theorem State.foldl_keeps {α : Type} {S : List Part} {g : State → α → State} (hg : ∀ (s : State) x, s.Keeps S (g s x)) (l : List α) (s : State) :
    s.Keeps S (l.foldl g s) := by
  induction l generalizing s with
  | nil => exact .refl S s
  | cons x l ih => exact (hg s x).trans (ih _)

theorem execBistComplete_answers (f : FieldNo) (i : BistIn) (s : State) :
    Answers [.regs, .cad, .sensors, .fields, .rails, .phases, .ports, .mon, .nv, .hub, .faults, .host] s (execBistComplete f i s) := by
  unfold execBistComplete
  split
  · simp
  · refine answers_next.2 (.trans (.withBlock (.refl _ s) ?_) (State.foldl_keeps (fun s pt => (State.bistReport_keeps ..).mono (by simp)) _ _))
    simp

/-- What an advance that passes every check leaves: the fuses that its record names, and the new life-cycle state. -/
theorem State.advanced_keeps (l : List Nat) (lc want sc : Nat) (s : State) : s.Keeps [.regs, .mems, .mon, .nv, .hub, .free, .mem]
    (if want = lc then withFuses l sc s else advance want sc (withFuses l sc s)) := by
  split
  · exact (State.withFuses_keeps ..).mono (by simp)
  · exact .trans ((State.withFuses_keeps l sc s).mono (by simp)) (State.advance_keeps ..)

theorem execLifecycleAdvance_answers (i : AdvanceIn) (s : State) :
    Answers [.regs, .fields, .ports, .mems, .mon, .nv, .hub, .faults, .free, .mem] s (execLifecycleAdvance i s) := by
  unfold execLifecycleAdvance
  refine answers_runCmd (by simp) fun pt s => ?_
  dsimp only
  generalize (if s.b.nv.lifecycle = 1 then readBuf s i.c 1 else []) = record
  generalize (if record.isEmpty then s.b.nv else s.b.nv.fuse record (fieldAt record 6 2)) = after
  split
  · simp
  · split
    · simp
    · split
      · simp
      · have hdone := (State.advanced_keeps record s.b.nv.lifecycle (i.c.arg 0 % 4) i.c.sc s).mono
          (show _ ⊆ [.regs, .fields, .ports, .mems, .mon, .nv, .hub, .faults, .free, .mem] by simp)
        split
        · simp
        · split
          · simp
          · split
            · simp
            · split
              · simp
              · exact hdone.withBlock (by simp)

/-! ### Machine/StartUp.lean -/

theorem execSurvRstNAssert_answers (s : State) : Answers resetParts s (execSurvRstNAssert s) :=
  answers_next.2 ⟨Block.resetParts_keeps .., fun h => absurd (by simp) h, fun _ => rfl, fun _ => rfl, rfl⟩

theorem execVsurvLoss_answers (s : State) : Answers (.mem :: resetParts) s (execVsurvLoss s) :=
  answers_next.2 ⟨(Block.resetParts_keeps ..).mono (by simp), fun h => absurd (by simp) h, fun h => absurd (by simp) h, fun _ => rfl, rfl⟩

theorem execSurvRstNRelease_answers (strap : BitVec 3) (s : State) : Answers resetParts s (execSurvRstNRelease strap s) :=
  answers_next.2 ⟨Block.resetParts_keeps .., fun h => absurd (by simp) h, fun _ => rfl, fun _ => rfl, rfl⟩

theorem execBootImageLoad_answers (i : BootIn) (s : State) :
    Answers [.regs, .fields, .procs, .mon, .nv, .hub, .faults, .mem] s (execBootImageLoad i s) := by unfold execBootImageLoad; simp

theorem execBootEnd_answers (s : State) :
    Answers [.regs, .shadow, .cad, .models, .fields, .mems, .mon, .nv, .hub] s (execBootEnd s) := by unfold execBootEnd; simp

theorem execSelftestEnd_answers (s : State) : Answers [.regs, .hub] s (execSelftestEnd s) := by unfold execSelftestEnd; simp

theorem execShutdownRampdown_answers (s : State) :
    Answers [.regs, .ctxs, .accounts, .fields, .rails, .ports, .traces, .ties, .procs, .mon, .hub, .free] s (execShutdownRampdown s) := by
  simp only [execShutdownRampdown, answers_onB]
  (repeat' split) <;> simp

theorem execGroupSoftStart_answers (s : State) : Answers [.regs, .fields, .rails, .phases, .hub, .pins] s (execGroupSoftStart s) := by
  unfold execGroupSoftStart
  simp

theorem execFieldVinRestart_answers (f : FieldNo) (s : State) :
    Answers [.regs, .fields, .rails, .phases, .traces, .hub, .pins] s (execFieldVinRestart f s) := by
  unfold execFieldVinRestart
  simp

theorem execTakeover_answers (s : State) : Answers [.regs, .fields, .traces, .hub] s (execTakeover s) := by
  unfold execTakeover
  simp

theorem execEngineClockStart_answers (s : State) : Answers [.regs, .fields, .traces, .ties, .hub] s (execEngineClockStart s) := by
  unfold execEngineClockStart
  simp

theorem execCalibrationStep_answers (f : FieldNo) (s : State) : Answers [.fields] s (execCalibrationStep f s) := by
  simp only [execCalibrationStep, answers_onB]
  (repeat' split) <;> simp

theorem execCalibrationComplete_answers (f : FieldNo) (s : State) :
    Answers [.regs, .fields, .traces, .ties, .mon, .nv, .hub] s (execCalibrationComplete f s) := by
  unfold execCalibrationComplete
  simp

theorem execReadyEntry_answers (s : State) : Answers [.regs, .agents, .slots, .fields, .traces, .mon, .hub] s (execReadyEntry s) := by
  unfold execReadyEntry
  simp

theorem execFieldBackInService_answers (f : FieldNo) (s : State) :
    Answers [.regs, .agents, .slots, .fields, .ports, .traces, .mon, .hub] s (execFieldBackInService f s) := by
  unfold execFieldBackInService
  simp

/-! ### Machine/Window.lean -/

theorem execPing_answers (c : Cmd) (s : State) : Answers [.regs, .ports, .hub] s (execPing c s) := by unfold execPing; simp

theorem execLease_answers (c : Cmd) (s : State) : Answers [.regs, .ports, .hub] s (execLease c s) := by unfold execLease; simp

theorem execLeaseExpiry_answers (p : CmdPort) (s : State) :
    Answers [.regs, .fields, .hub, .faults, .free] s (execLeaseExpiry p s) := by unfold execLeaseExpiry; simp

theorem execQueryState_answers (c : Cmd) (s : State) : Answers [.regs, .ports, .hub] s (execQueryState c s) := by
  unfold execQueryState
  simp

theorem execJournalAppend_answers (s : State) : Answers [.regs, .ports, .mon, .hub] s (execJournalAppend s) := by
  unfold execJournalAppend
  simp

/-! ### Machine/Pages.lean -/

theorem execPageCommit_answers (path : Path) (pg : PageId) (v : Word) (sc : ScOff) (s : State) :
    Answers [.regs, .shadow, .pages, .ports, .hub] s (execPageCommit path pg v sc s) :=
  by unfold execPageCommit; simp (disch := (intros; (repeat' split) <;> simp))

theorem execCancel_answers (path : Path) (pg : PageId) (s : State) :
    Answers [.regs, .shadow, .pages, .ports, .hub] s (execCancel path pg s) := by unfold execCancel; simp (maxDischargeDepth := 5)

theorem execReload_answers (path : Path) (pg : PageId) (s : State) :
    Answers [.regs, .shadow, .pages, .ports, .hub] s (execReload path pg s) := by unfold execReload; simp (maxDischargeDepth := 5)

theorem execCommitEffect_answers (pg : PageId) (s : State) :
    Answers [.regs, .shadow, .pages, .agents, .fields, .rails, .phases, .ports, .traces, .ties, .mon, .nv, .hub, .faults] s (execCommitEffect pg s) := by
  unfold execCommitEffect
  simp

/-! ### Machine/I3c.lean -/

theorem execWinData_answers (write : Option Word) (sc : ScOff) (s : State) :
    Answers [.regs, .shadow, .pages, .fields, .ports, .traces, .hub, .faults] s (execWinData write sc s) := by
  unfold execWinData
  split
  · simp
  · exact answers_next.2 (.withBlock (.refl _ s) ((winRead_keeps sc s).mono (by simp)))

theorem execFlagsRead_answers (s : State) : Answers [.hub] s (execFlagsRead s) := by unfold execFlagsRead; simp

theorem execLowWordRead_answers (path : Path) (addr : BitVec 27) (be : Byte) (sc : ScOff) (s : State) :
    Answers [.regs, .shadow, .pages, .fields, .ports, .hub, .faults] s (execLowWordRead path addr be sc s) := by
  unfold execLowWordRead
  split
  · exact answers_next.2 (.withBlock (.refl _ s) (privateRead_keeps ..))
  · exact answers_next.2 (.withBlock (.refl _ s) ((readRequest_keeps s path sc addr.toNat be.toNat).trans (by simp)))

theorem execRegisterWrite_answers (path : Path) (addr : BitVec 27) (be : Byte) (v : BitVec 64) (sc : ScOff) (s : State) :
    Answers [.regs, .shadow, .pages, .fields, .ports, .traces, .hub] s (execRegisterWrite path addr be v sc s) := by
  unfold execRegisterWrite
  split <;> simp

theorem execEntdaa_answers (addr : BitVec 7) (s : State) : Answers [.hub] s (execEntdaa addr s) := by unfold execEntdaa; simp

theorem execSetdasa_answers (addr : BitVec 7) (s : State) : Answers [.hub] s (execSetdasa addr s) := by unfold execSetdasa; simp

theorem execRstdaa_answers (s : State) : Answers [.hub] s (execRstdaa s) := by unfold execRstdaa; simp

theorem execEnec_answers (events : Byte) (s : State) : Answers [.hub] s (execEnec events s) := by unfold execEnec; simp

theorem execDisec_answers (events : Byte) (s : State) : Answers [.hub] s (execDisec events s) := by unfold execDisec; simp

theorem execGetpid_answers (s : State) : Answers [.hub, .free] s (execGetpid s) := by unfold execGetpid; simp

theorem execGetbcr_answers (s : State) : Answers [.hub, .free] s (execGetbcr s) := by unfold execGetbcr; simp

theorem execGetdcr_answers (s : State) : Answers [.hub, .free] s (execGetdcr s) := by unfold execGetdcr; simp

theorem execGetstatus_answers (s : State) : Answers [.hub, .free] s (execGetstatus s) := by unfold execGetstatus; simp

theorem execSetmwl_answers (n : BitVec 16) (s : State) : Answers [.hub] s (execSetmwl n s) := by unfold execSetmwl; simp

theorem execGetmwl_answers (s : State) : Answers [.hub] s (execGetmwl s) := by unfold execGetmwl; simp

theorem execSetmrl_answers (n : BitVec 16) (s : State) : Answers [.hub] s (execSetmrl n s) := by unfold execSetmrl; simp

theorem execGetmrl_answers (s : State) : Answers [.hub] s (execGetmrl s) := by unfold execGetmrl; simp

theorem execIbiDelivery_answers (s : State) : Answers [.hub] s (execIbiDelivery s) := by unfold execIbiDelivery; simp

/-! ### Machine/Survey.lean -/

theorem execTickMark_answers (i : TickIn) (s : State) :
    Answers [.regs, .shadow, .pages, .agents, .parcels, .cad, .sensors, .slots, .ctxs, .accounts, .colls, .fields, .rails, .phases, .ports, .traces, .ties, .procs, .mems, .mon, .nv, .hub, .pins, .faults, .tick] s (execTickMark i s) := by
  unfold execTickMark
  simp

theorem execUpwardFrame_answers (f : FieldNo) (r : RingNo) (crcOk : Bool) (words : List TravWord) (s : State) :
    Answers [.regs, .parcels, .sensors, .fields, .faults] s (execUpwardFrame f r crcOk words s) :=
  by unfold execUpwardFrame; simp (disch := (intros; (repeat' split) <;> simp))

theorem execDownwardFrame_answers (f : FieldNo) (r : RingNo) (crcOk : Bool) (s : State) :
    Answers [.regs, .agents] s (execDownwardFrame f r crcOk s) := by unfold execDownwardFrame; simp

end Sys2Proof.Machine
end

section
/-!
SUPPORT. What each command may change, in the terms of the three whole-machine frames, and the statements that follow from it.
-/

namespace Sys2Proof.Machine

open Sys2Proof

/-- The commands that move wafer time, beside reset. -/
def ticks : Instr → Bool
  | .tickMark _ => true
  | _ => false

/-- Command `c` may change part `p`: what the whole-machine statements name for the parts that they speak of, and anything of the others. -/
def mayChange (c : Instr) : Part → Bool
  | .agents => resets c || mayAgents c
  | .parcels => resets c || mayParcels c
  | .sensors => resets c || maySensors c
  | .cad => resets c || mayCad c
  | .slots => resets c || maySlots c
  | .ctxs => resets c || mayCtxs c
  | .accounts => resets c || mayAccounts c
  | .colls => resets c || mayColls c
  | .shadow => resets c || mayShadow c
  | .rings => resets c || mayRings c
  | .rails => resets c || mayRails c
  | .phases => resets c || mayPhases c
  | .ties => resets c || mayTies c
  | .procs => resets c || mayProcs c
  | .mems => resets c || mayMems c
  | .models => resets c || mayModels c
  | .nv => resets c || mayNv c
  | .pins => resets c || mayPins c
  | .tick => resets c || ticks c
  | .mem => writesMem c
  | .host => writesHost c
  | _ => true

theorem Answers.within {S : List Part} {s : State} {o : Host.Outcome State Fault Refusal} {q : Part → Bool} (h : Answers S s o)
    (hS : S.all q = true) : ∃ S, Answers S s o ∧ S.all q = true := ⟨S, h, hS⟩

/-- Every command answers, and changes none but parts that it may change: one line per command, each by what its meaning may change. -/
theorem exec_answers (c : Instr) (s : State) : ∃ S, Answers S s (exec c s) ∧ S.all (mayChange c) = true := by
  cases c with
  | survRstNAssert => exact (execSurvRstNAssert_answers ..).within rfl
  | survRstNRelease => exact (execSurvRstNRelease_answers ..).within rfl
  | vsurvLoss => exact (execVsurvLoss_answers ..).within rfl
  | tickMark => exact (execTickMark_answers ..).within rfl
  | rampMark => exact (execRampMark_answers ..).within rfl
  | allowanceWordPass => exact (execAllowanceWordPass_answers ..).within rfl
  | allowanceWordReturn => exact (execAllowanceWordReturn_answers ..).within rfl
  | phaseRestoreAll => exact (execPhaseRestoreAll_answers ..).within rfl
  | upwardFrame => exact (execUpwardFrame_answers ..).within rfl
  | thermalShutdown => exact (execThermalShutdown_answers ..).within rfl
  | sensorBroken => exact (execSensorBroken_answers ..).within rfl
  | downwardFrame => exact (execDownwardFrame_answers ..).within rfl
  | fieldReport => exact (execFieldReport_answers ..).within rfl
  | budgetFrame => exact (execBudgetFrame_answers ..).within rfl
  | capDivision => exact (execCapDivision_answers ..).within rfl
  | hubTickOverrun => exact (execHubTickOverrun_answers ..).within rfl
  | limitPlan => exact (execLimitPlan_answers ..).within rfl
  | tickOverrun => exact (execTickOverrun_answers ..).within rfl
  | measurementComplete => exact (execMeasurementComplete_answers ..).within rfl
  | estModeChange => exact (execEstModeChange_answers ..).within rfl
  | channelInvalid => exact (execChannelInvalid_answers ..).within rfl
  | channelRestored => exact (execChannelRestored_answers ..).within rfl
  | counterUpdate => exact (execCounterUpdate_answers ..).within rfl
  | hubCounterUpdate => exact (execHubCounterUpdate_answers ..).within rfl
  | recalSolve => exact (execRecalSolve_answers ..).within rfl
  | recalInstall => exact (execRecalInstall_answers ..).within rfl
  | recalibrate => exact (execRecalibrate_answers ..).within rfl
  | modelLoad => exact (execModelLoad_answers ..).within rfl
  | modelSwap => exact (execModelSwap_answers ..).within rfl
  | modelSelect => exact (execModelSelect_answers ..).within rfl
  | droopT1Event => exact (execDroopT1Event_answers ..).within rfl
  | droopT2Event => exact (execDroopT2Event_answers ..).within rfl
  | clampReleaseCount => exact (execClampReleaseCount_answers ..).within rfl
  | droopEventWord => exact (execDroopEventWord_answers ..).within rfl
  | t2BlockEnd => exact (execT2BlockEnd_answers ..).within rfl
  | shapeStep => exact (execShapeStep_answers ..).within rfl
  | parcelIdle => exact (execParcelIdle_answers ..).within rfl
  | unticketedStart => exact (execUnticketedStart_answers ..).within rfl
  | ticketRequest => exact (execTicketRequest_answers ..).within rfl
  | representWindowEnd => exact (execRepresentWindowEnd_answers ..).within rfl
  | ticketStart => exact (execTicketStart_answers ..).within rfl
  | ticketEnd => exact (execTicketEnd_answers ..).within rfl
  | ticketOutTaken => exact (execTicketOutTaken_answers ..).within rfl
  | ticketAged => exact (execTicketAged_answers ..).within rfl
  | startTimeout => exact (execStartTimeout_answers ..).within rfl
  | waferQueueMove => exact (execWaferQueueMove_answers ..).within rfl
  | ticketHang => exact (execTicketHang_answers ..).within rfl
  | waitforBuild => exact (execWaitforBuild_answers ..).within rfl
  | waitforBuildDone => exact (execWaitforBuildDone_answers ..).within rfl
  | capShareEval => exact (execCapShareEval_answers ..).within rfl
  | contextAbort => exact (execContextAbort_answers ..).within rfl
  | policyEval => exact (execPolicyEval_answers ..).within rfl
  | thermalWarning => exact (execThermalWarning_answers ..).within rfl
  | thermalThrottleStep => exact (execThermalThrottleStep_answers ..).within rfl
  | thermalRestoreStep => exact (execThermalRestoreStep_answers ..).within rfl
  | bandChange => exact (execBandChange_answers ..).within rfl
  | autoRemap => exact (execAutoRemap_answers ..).within rfl
  | spareValidated => exact (execSpareValidated_answers ..).within rfl
  | sensorRemap => exact (execSensorRemap_answers ..).within rfl
  | flowTachEdge => exact (execFlowTachEdge_answers ..).within rfl
  | flowLoss => exact (execFlowLoss_answers ..).within rfl
  | flowRestore => exact (execFlowRestore_answers ..).within rfl
  | coolDemandUpdate => exact (execCoolDemandUpdate_answers ..).within rfl
  | rundownEnd => exact (execRundownEnd_answers ..).within rfl
  | shutdownRampdown => exact (execShutdownRampdown_answers ..).within rfl
  | shutdownAck => exact (execShutdownAck_answers ..).within rfl
  | shutdownExit => exact (execShutdownExit_answers ..).within rfl
  | modulatorTrigger => exact (execModulatorTrigger_answers ..).within rfl
  | brakeStart => exact (execBrakeStart_answers ..).within rfl
  | brakeEnd => exact (execBrakeEnd_answers ..).within rfl
  | railOv => exact (execRailOv_answers ..).within rfl
  | railUv => exact (execRailUv_answers ..).within rfl
  | phaseOc => exact (execPhaseOc_answers ..).within rfl
  | phaseOt => exact (execPhaseOt_answers ..).within rfl
  | phaseOtClear => exact (execPhaseOtClear_answers ..).within rfl
  | phFaultNAssert => exact (execPhFaultNAssert_answers ..).within rfl
  | balancePeriodEnd => exact (execBalancePeriodEnd_answers ..).within rfl
  | refSlewStep => exact (execRefSlewStep_answers ..).within rfl
  | railArrival => exact (execRailArrival_answers ..).within rfl
  | softStartEnd => exact (execSoftStartEnd_answers ..).within rfl
  | latchOff => exact (execLatchOff_answers ..).within rfl
  | vinStop => exact (execVinStop_answers ..).within rfl
  | railStopDone => exact (execRailStopDone_answers ..).within rfl
  | railEnable => exact (execRailEnable_answers ..).within rfl
  | railDisable => exact (execRailDisable_answers ..).within rfl
  | datumWrite => exact (execDatumWrite_answers ..).within rfl
  | contourTargetSelect => exact (execContourTargetSelect_answers ..).within rfl
  | pllLock => exact (execPllLock_answers ..).within rfl
  | contourStepApply => exact (execContourStepApply_answers ..).within rfl
  | plumbEntry => exact (execPlumbEntry_answers ..).within rfl
  | setContourPoint => exact (execSetContourPoint_answers ..).within rfl
  | freqStep => exact (execFreqStep_answers ..).within rfl
  | setPlumb => exact (execSetPlumb_answers ..).within rfl
  | lockJoin => exact (execLockJoin_answers ..).within rfl
  | lockLeave => exact (execLockLeave_answers ..).within rfl
  | tieAlign => exact (execTieAlign_answers ..).within rfl
  | timestampSend => exact (execTimestampSend_answers ..).within rfl
  | timestamp => exact (execTimestamp_answers ..).within rfl
  | probe => exact (execProbe_answers ..).within rfl
  | echo => exact (execEcho_answers ..).within rfl
  | hello => exact (execHello_answers ..).within rfl
  | join => exact (execJoin_answers ..).within rfl
  | joinAck => exact (execJoinAck_answers ..).within rfl
  | leave => exact (execLeave_answers ..).within rfl
  | step => exact (execStep_answers ..).within rfl
  | stepDone => exact (execStepDone_answers ..).within rfl
  | stepRequest => exact (execStepRequest_answers ..).within rfl
  | freeze => exact (execFreeze_answers ..).within rfl
  | thaw => exact (execThaw_answers ..).within rfl
  | sync => exact (execSync_answers ..).within rfl
  | tieHaltSet => exact (execTieHaltSet_answers ..).within rfl
  | tiePortDown => exact (execTiePortDown_answers ..).within rfl
  | accountOpen => exact (execAccountOpen_answers ..).within rfl
  | accountClose => exact (execAccountClose_answers ..).within rfl
  | accountRead => exact (execAccountRead_answers ..).within rfl
  | jobRestartNote => exact (execJobRestartNote_answers ..).within rfl
  | drainPass => exact (execDrainPass_answers ..).within rfl
  | drainFrame => exact (execDrainFrame_answers ..).within rfl
  | drainResend => exact (execDrainResend_answers ..).within rfl
  | accountFinal => exact (execAccountFinal_answers ..).within rfl
  | trigNow => exact (execTrigNow_answers ..).within rfl
  | traceStaleSweep => exact (execTraceStaleSweep_answers ..).within rfl
  | traceDrainBurst => exact (execTraceDrainBurst_answers ..).within rfl
  | tail => exact (execTail_answers ..).within rfl
  | fwPoint => exact (execFwPoint_answers ..).within rfl
  | traceConfig => exact (execTraceConfig_answers ..).within rfl
  | traceStart => exact (execTraceStart_answers ..).within rfl
  | traceStop => exact (execTraceStop_answers ..).within rfl
  | halt => exact (execHalt_answers ..).within rfl
  | haltCut => exact (execHaltCut_answers ..).within rfl
  | immediateHalt => exact (execImmediateHalt_answers ..).within rfl
  | haltedEntry => exact (execHaltedEntry_answers ..).within rfl
  | haltTimeout => exact (execHaltTimeout_answers ..).within rfl
  | resume => exact (execResume_answers ..).within rfl
  | haltRelease => exact (execHaltRelease_answers ..).within rfl
  | gateCall => exact (execGateCall_answers ..).within rfl
  | mpuViolation => exact (execMpuViolation_answers ..).within rfl
  | processorTrap => exact (execProcessorTrap_answers ..).within rfl
  | watchdogExpiry => exact (execWatchdogExpiry_answers ..).within rfl
  | imageCheck => exact (execImageCheck_answers ..).within rfl
  | processorRun => exact (execProcessorRun_answers ..).within rfl
  | holdExpired => exact (execHoldExpired_answers ..).within rfl
  | startFail => exact (execStartFail_answers ..).within rfl
  | fwStage => exact (execFwStage_answers ..).within rfl
  | fwActivate => exact (execFwActivate_answers ..).within rfl
  | probationEnd => exact (execProbationEnd_answers ..).within rfl
  | slotCopyDone => exact (execSlotCopyDone_answers ..).within rfl
  | fwRestart => exact (execFwRestart_answers ..).within rfl
  | quote => exact (execQuote_answers ..).within rfl
  | faultEvent => exact (execFaultEvent_answers ..).within rfl
  | collectorRecovering => exact (execCollectorRecovering_answers ..).within rfl
  | recoveryComplete => exact (execRecoveryComplete_answers ..).within rfl
  | faultBitExpire => exact (execFaultBitExpire_answers ..).within rfl
  | faultStatusW1c => exact (execFaultStatusW1c_answers ..).within rfl
  | faultClear => exact (execFaultClear_answers ..).within rfl
  | faultPolicy => exact (execFaultPolicy_answers ..).within rfl
  | engineErrorEdge => exact (execEngineErrorEdge_answers ..).within rfl
  | clockLoss => exact (execClockLoss_answers ..).within rfl
  | tamperNAssert => exact (execTamperNAssert_answers ..).within rfl
  | monumentProgramDone => exact (execMonumentProgramDone_answers ..).within rfl
  | monumentEraseDone => exact (execMonumentEraseDone_answers ..).within rfl
  | eraseSuspend => exact (execEraseSuspend_answers ..).within rfl
  | tokenRefill => exact (execTokenRefill_answers ..).within rfl
  | recordRead => exact (execRecordRead_answers ..).within rfl
  | firstRegionClear => exact (execFirstRegionClear_answers ..).within rfl
  | pwrFailNAssert => exact (execPwrFailNAssert_answers ..).within rfl
  | pwrFailStop => exact (execPwrFailStop_answers ..).within rfl
  | pwrFailNDeassert => exact (execPwrFailNDeassert_answers ..).within rfl
  | scrubRead m flips => exact (execScrubRead_answers m flips s).within rfl
  | softRepair => exact (execSoftRepair_answers ..).within rfl
  | aliasWrite => exact (execAliasWrite_answers ..).within rfl
  | march => exact (execMarch_answers ..).within rfl
  | marchSegment => exact (execMarchSegment_answers ..).within rfl
  | marchDone => exact (execMarchDone_answers ..).within rfl
  | bistRun => exact (execBistRun_answers ..).within rfl
  | bistComplete => exact (execBistComplete_answers ..).within rfl
  | lifecycleAdvance => exact (execLifecycleAdvance_answers ..).within rfl
  | bootImageLoad => exact (execBootImageLoad_answers ..).within rfl
  | bootEnd => exact (execBootEnd_answers ..).within rfl
  | selftestEnd => exact (execSelftestEnd_answers ..).within rfl
  | groupSoftStart => exact (execGroupSoftStart_answers ..).within rfl
  | takeover => exact (execTakeover_answers ..).within rfl
  | engineClockStart => exact (execEngineClockStart_answers ..).within rfl
  | calibrationStep => exact (execCalibrationStep_answers ..).within rfl
  | calibrationComplete => exact (execCalibrationComplete_answers ..).within rfl
  | readyEntry => exact (execReadyEntry_answers ..).within rfl
  | fieldBackInService => exact (execFieldBackInService_answers ..).within rfl
  | fieldVinRestart => exact (execFieldVinRestart_answers ..).within rfl
  | ping => exact (execPing_answers ..).within rfl
  | lease => exact (execLease_answers ..).within rfl
  | queryState => exact (execQueryState_answers ..).within rfl
  | leaseExpiry => exact (execLeaseExpiry_answers ..).within rfl
  | journalAppend => exact (execJournalAppend_answers ..).within rfl
  | setWaferCap => exact (execSetWaferCap_answers ..).within rfl
  | setFieldLimits => exact (execSetFieldLimits_answers ..).within rfl
  | setMarginMode => exact (execSetMarginMode_answers ..).within rfl
  | pageCommit => exact (execPageCommit_answers ..).within rfl
  | commitEffect => exact (execCommitEffect_answers ..).within rfl
  | cancel => exact (execCancel_answers ..).within rfl
  | reload => exact (execReload_answers ..).within rfl
  | lowWordRead => exact (execLowWordRead_answers ..).within rfl
  | probeSlot => exact (execProbeSlot_answers ..).within rfl
  | registerWrite => exact (execRegisterWrite_answers ..).within rfl
  | winData => exact (execWinData_answers ..).within rfl
  | flagsRead => exact (execFlagsRead_answers ..).within rfl
  | entdaa => exact (execEntdaa_answers ..).within rfl
  | setdasa => exact (execSetdasa_answers ..).within rfl
  | rstdaa => exact (execRstdaa_answers ..).within rfl
  | enec => exact (execEnec_answers ..).within rfl
  | disec => exact (execDisec_answers ..).within rfl
  | getpid => exact (execGetpid_answers ..).within rfl
  | getbcr => exact (execGetbcr_answers ..).within rfl
  | getdcr => exact (execGetdcr_answers ..).within rfl
  | getstatus => exact (execGetstatus_answers ..).within rfl
  | setmwl => exact (execSetmwl_answers ..).within rfl
  | getmwl => exact (execGetmwl_answers ..).within rfl
  | setmrl => exact (execSetmrl_answers ..).within rfl
  | getmrl => exact (execGetmrl_answers ..).within rfl
  | waferQueueAnswer => exact (execWaferQueueAnswer_answers ..).within rfl
  | engineErrorRearm => exact (execEngineErrorRearm_answers ..).within rfl
  | railUvReturn => exact (execRailUvReturn_answers ..).within rfl
  | ibiDelivery => exact (execIbiDelivery_answers ..).within rfl
  | tieCrcError => exact (execTieCrcError_answers ..).within rfl
  | norTimeout => exact (execNorTimeout_answers ..).within rfl

section Answered

variable {c : Instr} {s t : State} (h : exec c s = .next t)

include h

/-- All parts stand that the command that has run may not change. -/
theorem exec_keeps : ∃ S, s.Keeps S t ∧ ∀ {p}, mayChange c p = false → p ∉ S := by
  obtain ⟨S, ⟨u, hu, hk⟩, hS⟩ := exec_answers c s
  cases h.symm.trans hu
  exact ⟨S, hk, fun hp hmem => by simp [List.all_eq_true.1 hS _ hmem] at hp⟩

theorem exec_sameIn {p : Part} (hp : mayChange c p = false) : p.SameIn s.b t.b :=
  have ⟨_, hk, hS⟩ := exec_keeps h
  hk.block.same p (hS hp)

theorem exec_sameMem (hp : writesMem c = false) : t.mem = s.mem :=
  have ⟨_, hk, hS⟩ := exec_keeps h
  hk.mem (hS hp)

theorem exec_sameHost (hp : writesHost c = false) : t.host = s.host :=
  have ⟨_, hk, hS⟩ := exec_keeps h
  hk.host (hS hp)

theorem exec_sameTick (hp : (resets c || ticks c) = false) : t.tick = s.tick :=
  have ⟨_, hk, hS⟩ := exec_keeps h
  hk.tick (hS hp)

end Answered

/-- Settles O2. -/
theorem everyCommandAnswers : Obligations.EveryCommandAnswers := fun c s =>
  have ⟨_, ⟨t, ht, hk⟩, _⟩ := exec_answers c s
  ⟨t, ht, hk.pending⟩

/-- Settles O6. -/
theorem onlyNamedCommandsWriteMemory : Obligations.OnlyNamedCommandsWriteMemory := fun _ _ _ h =>
  ⟨exec_sameHost h, exec_sameMem h⟩

/-- A part for which only reset and the commands of `g` are named. -/
theorem exec_sameUnless {c : Instr} {s t : State} (h : exec c s = .next t) (p : Part) {g : Instr → Bool}
    (hg : mayChange c p = (resets c || g c)) (hr : resets c = false) (hc : g c = false) : p.SameIn s.b t.b :=
  exec_sameIn h (by rw [hg, hr, hc]; rfl)

/-- Settles O7. -/
theorem onlyNamedCommandsChangeParcelsAndTickets : Obligations.OnlyNamedCommandsChangeParcelsAndTickets := fun _ _ _ h =>
  ⟨exec_sameUnless h .agents rfl, exec_sameUnless h .parcels rfl, exec_sameUnless h .sensors rfl, exec_sameUnless h .cad rfl,
    exec_sameUnless h .slots rfl, exec_sameUnless h .ctxs rfl, exec_sameUnless h .accounts rfl, exec_sameUnless h .colls rfl⟩

/-- Settles O8. -/
theorem onlyNamedCommandsChangeHardware : Obligations.OnlyNamedCommandsChangeHardware := fun _ _ _ h =>
  ⟨exec_sameUnless h .shadow rfl, exec_sameUnless h .rings rfl, exec_sameUnless h .rails rfl, exec_sameUnless h .phases rfl,
    exec_sameUnless h .ties rfl, exec_sameUnless h .procs rfl, exec_sameUnless h .mems rfl, exec_sameUnless h .models rfl,
    exec_sameUnless h .nv rfl, exec_sameUnless h .pins rfl⟩

theorem exec_tickMark_of_inReset {i : TickIn} {s : State} (h : s.b.pins.inReset = true) : exec (.tickMark i) s = .next s := if_pos h

theorem exec_tickMark {i : TickIn} {s : State} (h : s.b.pins.inReset = false) :
    exec (.tickMark i) s = .next { s with tick := (s.tick + 1) % 2 ^ 48, b := s.b.tickMark ((s.tick + 1) % 2 ^ 48) i } :=
  if_neg (by simp [h])

/-- Settles O5. -/
theorem waferTimeMoves : Obligations.WaferTimeMoves := by
  refine ⟨fun i s h => ⟨_, exec_tickMark h, rfl, rfl, rfl, rfl⟩, fun i s h => exec_tickMark_of_inReset h, fun c s t h => ?_⟩
  split
  · next i =>
    cases hr : s.b.pins.inReset
    · cases (exec_tickMark hr).symm.trans h
      rfl
    · cases (exec_tickMark_of_inReset hr).symm.trans h
      rfl
  · cases h
    rfl
  · cases h
    rfl
  · cases h
    rfl
  · next hmark hassert hrelease hloss =>
    refine exec_sameTick h ?_
    cases c <;> first | rfl | simp at hmark hassert hrelease hloss

end Sys2Proof.Machine
end

section
/-!
SUPPORT. The canonical form of both memories: every operation that writes one keeps it, and with it the invariant of a state.
-/

namespace Sys2Proof.Machine

open Sys2Proof

/-! ### Operations on the state -/

/-- Both memories are canonical. -/
structure State.Canonical (s : State) : Prop where
  mem : Memory.wf s.mem = true
  host : Memory.wf s.host = true

/-- The outcome's next state has canonical memories. -/
def NextCanonical (o : Host.Outcome State Fault Refusal) : Prop := ∀ t, o = .next t → t.Canonical

theorem nextCanonical_next {t : State} (h : t.Canonical) : NextCanonical (.next t) := fun _ ht => Host.Outcome.next.inj ht ▸ h

/-- What a command row leaves: the state with another block, or what its body leaves of such a state. -/
theorem runCmd_induct {P : State → Prop} {op : Nat} {c : Cmd} {s : State} {denied : Option Nat} {body : Nat → State → State}
    (hblock : ∀ b, P { s with b := b }) (hbody : ∀ pt b, P (body pt { s with b := b })) : P (runCmd op c s denied body) := by
  unfold runCmd
  dsimp only
  split
  · exact hblock _
  · split
    · split
      · exact hblock _
      · exact hblock _
    · split
      · exact hblock _
      · exact hbody _ _

theorem zeroData_wf (img : List Nat) (p : Nat) {m : List Host.Cell} (h : Memory.wf m = true) : Memory.wf (zeroData img m p) = true :=
  clearBytes_wf _ _ _ (clearBytes_wf _ _ _ h)

theorem placeSection_wf (img : List Nat) (p : Nat) {m : List Host.Cell} (h : Memory.wf m = true) : Memory.wf (placeSection img m p) = true :=
  putBytes_wf _ _ _ h

theorem wf_ite {q : Prop} [Decidable q] {m m' : List Host.Cell} (h : Memory.wf m = true) (h' : Memory.wf m' = true) :
    Memory.wf (if q then m else m') = true := by
  split
  · exact h
  · exact h'

theorem canonical_mk {tick : Nat} {mem host : List Host.Cell} {b : Block} {l : List Instr} :
    State.Canonical ⟨tick, mem, host, b, l⟩ ↔ Memory.wf mem = true ∧ Memory.wf host = true :=
  ⟨fun h => ⟨h.mem, h.host⟩, fun h => ⟨h.1, h.2⟩⟩

namespace State.Canonical

variable {s : State} (h : s.Canonical)

include h

theorem withBlock (b : Block) : State.Canonical { s with b := b } := ⟨h.mem, h.host⟩

theorem withMem {m : List Host.Cell} (hm : Memory.wf m = true) (b : Block) : State.Canonical { s with mem := m, b := b } := ⟨hm, h.host⟩

theorem writeBuf (c : Cmd) (k : Nat) (bytes : List Nat) : (writeBuf s c k bytes).Canonical := by
  unfold Machine.writeBuf
  split
  · exact h.withBlock _
  · exact ⟨h.mem, putBytes_wf _ _ _ h.host⟩

theorem drainBurst (k : Nat) (l : List TraceRec) : (drainBurst k l s).Canonical := by
  have hring := fun base n head => putRing_wf base n l s.host head h.host
  unfold Machine.drainBurst
  rw [canonical_mk]
  exact ⟨h.mem, wf_ite (hring _ _ _) (putBytes_wf _ _ _ (hring _ _ _))⟩

theorem wipe (us : Nat) : (wipe us s).Canonical := ⟨clearBytes_wf _ _ _ h.mem, h.host⟩

theorem bistReport (f pt : Nat) : (bistReport f pt s).Canonical := by
  unfold Machine.bistReport
  dsimp only
  split
  · exact h
  · split
    · split
      · exact h
      · split
        · refine State.Canonical.withBlock ?_ _
          split
          · exact h
          · exact h.writeBuf _ _ _
        · exact h.withBlock _
    · exact h

theorem bistReports (f : Nat) (l : List Nat) : (l.foldl (fun s pt => Machine.bistReport f pt s) s).Canonical := by
  induction l generalizing s with
  | nil => exact h
  | cons pt l ih => exact ih (h.bistReport f pt)

theorem withFuses (l : List Nat) (sc : Nat) : (withFuses l sc s).Canonical := by
  unfold Machine.withFuses
  split
  · exact h
  · exact h.withBlock _

theorem advance (want sc : Nat) : (advance want sc s).Canonical :=
  ((h.withBlock _).wipe _).withBlock _

end State.Canonical

/-! ### The commands that write a memory -/

section Commands

variable {s : State} (h : s.Canonical)

include h

/-- A command row whose body keeps the form. -/
theorem runCmd_canonical {op : Nat} {c : Cmd} {denied : Option Nat} {body : Nat → State → State}
    (hbody : ∀ pt (s : State), s.Canonical → (body pt s).Canonical) : NextCanonical (.next (runCmd op c s denied body)) :=
  nextCanonical_next (runCmd_induct h.withBlock fun pt b => hbody pt _ (h.withBlock b))

theorem execAccountRead_canonical (c : Cmd) : NextCanonical (execAccountRead c s) := by
  refine runCmd_canonical h fun pt s h => ?_
  dsimp only
  (repeat' split)
  · exact h.withBlock _
  · exact h.withBlock _
  · exact (h.writeBuf ..).withBlock _

theorem execQuote_canonical (c : Cmd) : NextCanonical (execQuote c s) := by
  refine runCmd_canonical h fun pt s h => ?_
  dsimp only
  (repeat' split)
  · exact h.withBlock _
  · exact h.withBlock _
  · exact h.withBlock _
  · exact (h.writeBuf ..).withBlock _

theorem execRecordRead_canonical (c : Cmd) : NextCanonical (execRecordRead c s) := by
  refine runCmd_canonical h fun pt s h => ?_
  dsimp only
  (repeat' split)
  · exact h.withBlock _
  · exact h.withBlock _
  · exact (h.writeBuf ..).withBlock _

theorem execBistComplete_canonical (f : FieldNo) (i : BistIn) : NextCanonical (execBistComplete f i s) := by
  unfold execBistComplete
  split
  · exact nextCanonical_next h
  · exact nextCanonical_next ((h.withBlock _).bistReports ..)

theorem execTraceDrainBurst_canonical : NextCanonical (execTraceDrainBurst s) := by
  unfold execTraceDrainBurst
  dsimp only
  (repeat' split) <;> refine nextCanonical_next ?_
  · exact h
  · exact h
  · exact h.withBlock _
  · exact h
  · exact (h.withBlock _).drainBurst ..

theorem execVsurvLoss_canonical : NextCanonical (execVsurvLoss s) := nextCanonical_next ⟨rfl, h.host⟩

theorem execScrubRead_canonical (m : MemId) (flips : BitVec 137) : NextCanonical (execScrubRead m flips s) := by
  unfold execScrubRead
  dsimp only
  split
  all_goals exact nextCanonical_next (h.withMem (flipWord_wf _ _ _ h.mem) _)

theorem execAliasWrite_canonical (p : ProcNo) (set : Bool) (addr : BitVec 22) (i : AliasIn) :
    NextCanonical (execAliasWrite p set addr i s) := by
  unfold execAliasWrite
  dsimp only
  generalize (if min p.val 84 = 84 then addr.toNat else addr.toNat % 0x80000) / 4 * 4 = off
  split
  · exact nextCanonical_next h
  · split
    · exact nextCanonical_next (h.withBlock _)
    · split
      · exact nextCanonical_next (h.withBlock _)
      · exact nextCanonical_next ⟨putBytes_wf _ _ _ h.mem, h.host⟩

theorem execMarchSegment_canonical (m : MemId) (failing : List (Fin 512)) : NextCanonical (execMarchSegment m failing s) := by
  unfold execMarchSegment
  dsimp only
  split
  · exact nextCanonical_next h
  · refine nextCanonical_next (h.withMem ?_ _)
    (repeat' split)
    · exact clearBytes_wf _ _ _ h.mem
    · exact clearBytes_wf _ _ _ h.mem
    · exact copyToShadow_wf _ _ _ h.mem

theorem execTamperNAssert_canonical (us : BitVec 16) (sc : ScOff) : NextCanonical (execTamperNAssert us sc s) :=
  nextCanonical_next ((h.wipe _).withBlock _)

theorem execLifecycleAdvance_canonical (i : AdvanceIn) : NextCanonical (execLifecycleAdvance i s) := by
  refine runCmd_canonical h fun pt s h => ?_
  dsimp only
  generalize (if s.b.nv.lifecycle = 1 then readBuf s i.c 1 else []) = record
  generalize (if record.isEmpty then s.b.nv else s.b.nv.fuse record (fieldAt record 6 2)) = after
  split
  · exact h.withBlock _
  · split
    · exact h.withBlock _
    · split
      · exact h.withBlock _
      · (repeat' split)
        · exact h.withBlock _
        · exact h.withBlock _
        · exact h.withBlock _
        · exact h.withBlock _
        · exact (h.withFuses ..).withBlock _
        · exact ((h.withFuses ..).advance ..).withBlock _

theorem execImageCheck_canonical (p : ProcNo) (sc : ScOff) : NextCanonical (execImageCheck p sc s) := by
  unfold execImageCheck
  dsimp only
  (repeat' split) <;> refine nextCanonical_next ?_
  · exact h
  · exact h.withMem (placeSection_wf _ _ (zeroData_wf _ _ h.mem)) _
  · exact h.withMem (zeroData_wf _ _ h.mem) _
  · exact h.withMem (placeSection_wf _ _ (zeroData_wf _ _ h.mem)) _

theorem execBootImageLoad_canonical (i : BootIn) : NextCanonical (execBootImageLoad i s) := by
  unfold execBootImageLoad
  dsimp only
  (repeat' split) <;> refine nextCanonical_next ?_
  · exact h
  · exact h.withBlock _
  all_goals exact h.withMem (foldl_wf _ (fun _ _ hm => placeSection_wf _ _ hm) _ _ h.mem) _

/-- No command breaks the form: one that writes neither memory leaves both, and the others write them by operations that keep it. -/
theorem exec_canonical {c : Instr} {t : State} (ht : exec c s = .next t) : t.Canonical := by
  cases hmem : writesMem c
  · cases hhost : writesHost c
    · exact ⟨exec_sameMem ht hmem ▸ h.mem, exec_sameHost ht hhost ▸ h.host⟩
    · cases c with
      | accountRead c => exact execAccountRead_canonical h c t ht
      | quote c => exact execQuote_canonical h c t ht
      | recordRead c => exact execRecordRead_canonical h c t ht
      | bistComplete f i => exact execBistComplete_canonical h f i t ht
      | traceDrainBurst => exact execTraceDrainBurst_canonical h t ht
      | _ => cases hhost
  · cases c with
    | vsurvLoss => exact execVsurvLoss_canonical h t ht
    | scrubRead m flips => exact execScrubRead_canonical h m flips t ht
    | aliasWrite p set addr i => exact execAliasWrite_canonical h p set addr i t ht
    | marchSegment m failing => exact execMarchSegment_canonical h m failing t ht
    | tamperNAssert us sc => exact execTamperNAssert_canonical h us sc t ht
    | lifecycleAdvance i => exact execLifecycleAdvance_canonical h i t ht
    | imageCheck p sc => exact execImageCheck_canonical h p sc t ht
    | bootImageLoad i => exact execBootImageLoad_canonical h i t ht
    | _ => cases hmem

end Commands

/-! ### The invariant -/

theorem exec_tick_lt {c : Instr} {s t : State} (hs : s.tick < 2 ^ 48) (ht : exec c s = .next t) : t.tick < 2 ^ 48 := by
  rw [waferTimeMoves.2.2 c s t ht]
  split
  · split
    · exact hs
    · exact Nat.mod_lt _ (by decide)
  · decide
  · decide
  · decide
  · exact hs

theorem exec_inv {c : Instr} {s t : State} (h : s.Inv) (ht : exec c s = .next t) : t.Inv := by
  obtain ⟨hmem, hhost, htick⟩ := h
  obtain ⟨hmem', hhost'⟩ := exec_canonical ⟨hmem, hhost⟩ ht
  exact ⟨hmem', hhost', exec_tick_lt htick ht⟩

theorem step_of_cons {c : Instr} {rest : List Instr} {s : State} (h : s.pending = c :: rest) :
    step s = exec c { s with pending := rest } := by
  rw [step, h]

theorem step_of_nil {s : State} (h : s.pending = []) : step s = .next s := by
  rw [step, h]

/-- Settles O1. -/
theorem stepRunsFrontCommand : Obligations.StepRunsFrontCommand :=
  ⟨fun c rest s => step_of_cons (s := { s with pending := c :: rest }) rfl, fun s => step_of_nil (s := { s with pending := [] }) rfl⟩

/-- Settles O3: the command that runs keeps the invariant, and taking it off the queue touches neither memory nor wafer time. -/
theorem stepKeepsInvariant : Obligations.StepKeepsInvariant := by
  intro s t h ht
  cases hq : s.pending with
  | nil => exact Host.Outcome.next.inj ((step_of_nil hq).symm.trans ht) ▸ h
  | cons c rest => exact exec_inv (s := { s with pending := rest }) h ((step_of_cons hq).symm.trans ht)

/-- Settles O4. -/
theorem resetMeetsInvariant : Obligations.ResetMeetsInvariant := ⟨Memory.wf_reset.1, Memory.wf_reset.2, Nat.two_pow_pos 48⟩

end Sys2Proof.Machine
end

section
/-!
SUPPORT. What a kept part gives its readers, and the register fields: which of them a write leaves alone.
-/

namespace Sys2Proof.Machine

open Sys2Proof

variable {S : List Part} {a b : Block} {s t : State}

/-! ### What a kept part gives -/

namespace Block.Keeps

variable (h : a.Keeps S b)
include h

theorem rd (hS : .regs ∉ S) (x : Fld) (i : Nat) : b.rd x i = a.rd x i := rd_congr (h.same .regs hS) x i

theorem bit (hS : .regs ∉ S) (x : Fld) (i : Nat) : b.bit x i = a.bit x i := by rw [Block.bit, Block.bit, h.rd hS]

theorem flag (hS : .regs ∉ S) (x : Fld) (i k : Nat) : b.flag x i k = a.flag x i k := by rw [Block.flag, Block.flag, h.rd hS]

theorem rdS (hS : .shadow ∉ S) (x : Fld) (i : Nat) : b.rdS x i = a.rdS x i := by
  rw [Block.rdS, Block.rdS, show b.shadow = a.shadow from h.same .shadow hS]

theorem page (hS : .pages ∉ S) (k : Nat) : b.page k = a.page k := congrArg (mget Page.reset · k) (h.same .pages hS)

theorem agent (hS : .agents ∉ S) (k : Nat) : b.agent k = a.agent k := congrArg (mget Agent.reset · k) (h.same .agents hS)

theorem parcel (hS : .parcels ∉ S) (k : Nat) : b.parcel k = a.parcel k := congrArg (mget Parcel.reset · k) (h.same .parcels hS)

theorem cadE (hS : .cad ∉ S) (k : Nat) : b.cadE k = a.cadE k := congrArg (mget Cad.reset · k) (h.same .cad hS)

theorem sensor (hS : .sensors ∉ S) (k : Nat) : b.sensor k = a.sensor k := congrArg (mget Sensor.reset · k) (h.same .sensors hS)

theorem slot (hS : .slots ∉ S) (k : Nat) : b.slot k = a.slot k := congrArg (mget Slot.reset · k) (h.same .slots hS)

theorem ctx (hS : .ctxs ∉ S) (k : Nat) : b.ctx k = a.ctx k := congrArg (mget Ctx.reset · k) (h.same .ctxs hS)

theorem acct (hS : .accounts ∉ S) (k : Nat) : b.acct k = a.acct k := acct_congr (h.same .accounts hS) k

theorem coll (hS : .colls ∉ S) (k : Nat) : b.coll k = a.coll k := congrArg (mget Coll.reset · k) (h.same .colls hS)

theorem model (hS : .models ∉ S) (k : Nat) : b.model k = a.model k := congrArg (mget Model.reset · k) (h.same .models hS)

theorem fu (hS : .fields ∉ S) (k : Nat) : b.fu k = a.fu k := congrArg (mget FieldUnit.reset · k) (h.same .fields hS)

theorem ring (hS : .rings ∉ S) (k : Nat) : b.ring k = a.ring k := congrArg (mget Ring.reset · k) (h.same .rings hS)

theorem rail (hS : .rails ∉ S) (k : Nat) : b.rail k = a.rail k := congrArg (mget RailSt.reset · k) (h.same .rails hS)

theorem phase (hS : .phases ∉ S) (k : Nat) : b.phase k = a.phase k := congrArg (mget PhaseSt.reset · k) (h.same .phases hS)

theorem port (hS : .ports ∉ S) (k : Nat) : b.port k = a.port k := congrArg (mget PortSt.reset · k) (h.same .ports hS)

theorem trace (hS : .traces ∉ S) (k : Nat) : b.trace k = a.trace k := congrArg (mget TraceBuf.reset · k) (h.same .traces hS)

theorem tie (hS : .ties ∉ S) (k : Nat) : b.tie k = a.tie k := congrArg (mget Tie.reset · k) (h.same .ties hS)

theorem proc (hS : .procs ∉ S) (k : Nat) : b.proc k = a.proc k := congrArg (mget Proc.reset · k) (h.same .procs hS)

theorem memSt (hS : .mems ∉ S) (k : Nat) : b.memSt k = a.memSt k := congrArg (mget MemSt.reset · k) (h.same .mems hS)

theorem hub (hS : .hub ∉ S) : b.hub = a.hub := h.same .hub hS

theorem pins (hS : .pins ∉ S) : b.pins = a.pins := h.same .pins hS

theorem nv (hS : .nv ∉ S) : b.nv = a.nv := h.same .nv hS

theorem mon (hS : .mon ∉ S) : b.mon = a.mon := h.same .mon hS

theorem faults (hS : .faults ∉ S) : b.faults = a.faults := h.same .faults hS

end Block.Keeps

/-- Block `a` with the parts of `S` taken from `b`. -/
def Block.graft (S : List Part) (a b : Block) : Block where
  regs := if S.contains .regs then b.regs else a.regs
  shadow := if S.contains .shadow then b.shadow else a.shadow
  pages := if S.contains .pages then b.pages else a.pages
  agents := if S.contains .agents then b.agents else a.agents
  parcels := if S.contains .parcels then b.parcels else a.parcels
  cad := if S.contains .cad then b.cad else a.cad
  sensors := if S.contains .sensors then b.sensors else a.sensors
  slots := if S.contains .slots then b.slots else a.slots
  ctxs := if S.contains .ctxs then b.ctxs else a.ctxs
  accounts := if S.contains .accounts then b.accounts else a.accounts
  colls := if S.contains .colls then b.colls else a.colls
  models := if S.contains .models then b.models else a.models
  fields := if S.contains .fields then b.fields else a.fields
  rings := if S.contains .rings then b.rings else a.rings
  rails := if S.contains .rails then b.rails else a.rails
  phases := if S.contains .phases then b.phases else a.phases
  ports := if S.contains .ports then b.ports else a.ports
  traces := if S.contains .traces then b.traces else a.traces
  ties := if S.contains .ties then b.ties else a.ties
  procs := if S.contains .procs then b.procs else a.procs
  mems := if S.contains .mems then b.mems else a.mems
  mon := if S.contains .mon then b.mon else a.mon
  nv := if S.contains .nv then b.nv else a.nv
  hub := if S.contains .hub then b.hub else a.hub
  pins := if S.contains .pins then b.pins else a.pins
  faults := if S.contains .faults then b.faults else a.faults
  free := if S.contains .free then b.free else a.free

theorem eq_ite_of_same {α : Type} {p : Part} {x y : α} (h : p ∉ S → y = x) : y = if S.contains p then y else x := by
  by_cases hp : p ∈ S <;> simp [hp, h]

theorem Block.Keeps.eq_graft (h : a.Keeps S b) : b = a.graft S b := by
  have keep (p : Part) {α : Type} {x y : α} (hp : p.SameIn a b = (y = x)) : y = if S.contains p then y else x :=
    eq_ite_of_same fun hS => hp ▸ h.same p hS
  cases b
  exact Block.mk.injEq .. ▸ ⟨keep .regs rfl, keep .shadow rfl, keep .pages rfl, keep .agents rfl, keep .parcels rfl, keep .cad rfl, keep .sensors rfl, keep .slots rfl, keep .ctxs rfl, keep .accounts rfl, keep .colls rfl, keep .models rfl, keep .fields rfl, keep .rings rfl, keep .rails rfl, keep .phases rfl, keep .ports rfl, keep .traces rfl, keep .ties rfl, keep .procs rfl, keep .mems rfl, keep .mon rfl, keep .nv rfl, keep .hub rfl, keep .pins rfl, keep .faults rfl, keep .free rfl⟩

/-- A command that keeps wafer time and both memories has changed the parts of `S` in the block, and nothing else. -/
theorem State.Keeps.eq_graft (h : s.Keeps S t) (htick : .tick ∉ S := by decide) (hmem : .mem ∉ S := by decide)
    (hhost : .host ∉ S := by decide) : t = { s with b := s.b.graft S t.b } := by
  obtain ⟨tick, mem, host, b, pending⟩ := t
  obtain ⟨hb, h1, h2, h3, h4⟩ := h
  cases h1 htick; cases h2 hmem; cases h3 hhost; cases h4
  exact congrArg (State.mk _ _ _ · _) hb.eq_graft

theorem State.Keeps.inBlock (h : s.Keeps S t) (htick : .tick ∉ S := by decide) (hmem : .mem ∉ S := by decide)
    (hhost : .host ∉ S := by decide) : InBlock s t := by
  obtain ⟨tick, mem, host, b, pending⟩ := t
  obtain ⟨hb, h1, h2, h3, h4⟩ := h
  cases h1 htick; cases h2 hmem; cases h3 hhost; cases h4
  rfl

theorem State.Keeps.sameRegs (h : s.Keeps S t) (hregs : .regs ∉ S := by decide) (hshadow : .shadow ∉ S := by decide) : SameRegs s t :=
  ⟨h.block.same .regs hregs, h.block.same .shadow hshadow⟩

/-- A next state, with its block rewritten. -/
theorem next_block {o : Host.Outcome State Fault Refusal} (ho : o = .next { s with b := a }) (h : a = b) : o = .next { s with b := b } :=
  h ▸ ho

theorem Block.Keeps.withBlock_eq_graft (h : s.b.Keeps S b) : ({ s with b := b } : State) = { s with b := s.b.graft S b } :=
  congrArg (fun b => { s with b := b }) h.eq_graft

@[simp] theorem inBlock_mk (s : State) (b : Block) : InBlock s { s with b := b } := rfl

theorem Block.cond_of_true {q : Bool} (h : q = true) (g : Block → Block) : b.cond q g = g b := h ▸ Block.cond_true b g

theorem Block.cond_of_false {q : Bool} (h : q = false) (g : Block → Block) : b.cond q g = b := h ▸ Block.cond_false b g

/-! ### Register fields apart -/

/-- Two fields keep within their places, and differ in page, offset or low bit: no write of the one changes the other. -/
def Fld.apart (x y : Fld) : Bool :=
  decide (x.page < 256 ∧ x.off < 4096 ∧ x.lo < 32) && decide (y.page < 256 ∧ y.off < 4096 ∧ y.lo < 32) &&
    decide (y.page ≠ x.page ∨ y.off ≠ x.off ∨ y.lo ≠ x.lo)

theorem Fld.apart_iff {x y : Fld} : x.apart y = true ↔ x.Fits ∧ y.Fits ∧ (y.page ≠ x.page ∨ y.off ≠ x.off ∨ y.lo ≠ x.lo) := by
  simp only [Fld.apart, Fld.Fits, Bool.and_eq_true, decide_eq_true_eq, and_assoc]

theorem Fld.key_ne_of_apart {x y : Fld} (h : x.apart y = true) (i j : Nat) : y.key j ≠ x.key i := by
  obtain ⟨hx, hy, hne⟩ := Fld.apart_iff.1 h
  exact Fld.key_ne hy hx (.inr hne)

theorem Fld.key_inj {x : Fld} {i j : Nat} : x.key i = x.key j ↔ i = j := by
  constructor
  · intro h; unfold Fld.key at h; omega
  · rintro rfl; rfl

namespace Block

theorem rd_wr_apart {x y : Fld} (h : x.apart y = true) (b : Block) (i j v : Nat) : (b.wr x i v).rd y j = b.rd y j :=
  rd_wr_other b v (Fld.key_ne_of_apart h i j)

theorem rd_add_apart {x y : Fld} (h : x.apart y = true) (b : Block) (i j n : Nat) : (b.add x i n).rd y j = b.rd y j := rd_wr_apart h ..

theorem rd_inc_apart {x y : Fld} (h : x.apart y = true) (b : Block) (i j : Nat) : (b.inc x i).rd y j = b.rd y j := rd_wr_apart h ..

theorem rd_addSat_apart {x y : Fld} (h : x.apart y = true) (b : Block) (i j n : Nat) : (b.addSat x i n).rd y j = b.rd y j :=
  rd_wr_apart h ..

theorem rd_wrB_apart {x y : Fld} (h : x.apart y = true) (b : Block) (i j : Nat) (v : Bool) : (b.wrB x i v).rd y j = b.rd y j :=
  rd_wr_apart h ..

theorem rd_wrZ_apart {x y : Fld} (h : x.apart y = true) (b : Block) (i j : Nat) (v : Int) : (b.wrZ x i v).rd y j = b.rd y j :=
  rd_wr_apart h ..

theorem rd_setFlag_apart {x y : Fld} (h : x.apart y = true) (b : Block) (i j k : Nat) (v : Bool) :
    (b.setFlag x i k v).rd y j = b.rd y j := rd_wr_apart h ..

theorem rd_raise_apart {x y : Fld} (h : x.apart y = true) (b : Block) (i j v : Nat) : (b.raise x i v).rd y j = b.rd y j := by
  unfold raise
  split
  · exact rd_wr_apart h ..
  · rfl

theorem rd_inc_same (b : Block) (x : Fld) (i : Nat) : (b.inc x i).rd x i = (b.rd x i + 1) % 2 ^ x.width := rd_wr_same ..

theorem rd_add_same (b : Block) (x : Fld) (i n : Nat) : (b.add x i n).rd x i = (b.rd x i + n) % 2 ^ x.width := rd_wr_same ..

theorem rd_wr_instance {x : Fld} {i j : Nat} (h : j ≠ i) (b : Block) (v : Nat) : (b.wr x i v).rd x j = b.rd x j :=
  rd_wr_other b v fun hk => h (Fld.key_inj.1 hk)

theorem rd_lt (b : Block) (x : Fld) (i : Nat) : b.rd x i < 2 ^ x.width := by
  unfold Block.rd lowBits
  exact Nat.mod_lt _ (Nat.two_pow_pos _)

end Block

/-! ### What else than the named fields stands -/

variable {ks : List Nat} {c : Block}

@[simp] theorem RegsBut.refl (ks : List Nat) (b : Block) : RegsBut ks b b := fun _ _ _ => rfl

theorem RegsBut.trans (h : RegsBut ks a b) (h' : RegsBut ks b c) : RegsBut ks a c := fun x i hk => (h' x i hk).trans (h x i hk)

theorem RegsBut.mono {ks' : List Nat} (hk : ks ⊆ ks') (h : RegsBut ks a b) : RegsBut ks' a b := fun x i hi => h x i fun hm => hi (hk hm)

theorem regsBut_wr {x : Fld} {i : Nat} (hk : x.key i ∈ ks) (v : Nat) : RegsBut ks a (b.wr x i v) ↔ RegsBut ks a b := by
  have h : ∀ y j, y.key j ∉ ks → (b.wr x i v).rd y j = b.rd y j := fun y j hy => b.rd_wr_other v fun e => hy (by rwa [e])
  exact ⟨fun h' y j hy => (h y j hy).symm.trans (h' y j hy), fun h' y j hy => (h y j hy).trans (h' y j hy)⟩

/-- Where the registers stand, the named fields are as before too. -/
theorem regsBut_of_keeps (h : b.Keeps S c) (hS : .regs ∉ S) : RegsBut ks a c ↔ RegsBut ks a b :=
  ⟨fun h' x i hk => (h.rd hS x i).symm.trans (h' x i hk), fun h' x i hk => (h.rd hS x i).trans (h' x i hk)⟩

theorem Block.Keeps.regsBut (h : a.Keeps S b) (hS : .regs ∉ S := by decide) : RegsBut ks a b := fun x i _ => h.rd hS x i

end Sys2Proof.Machine
end

section
/-!
SUPPORT. The machine after reset, the steps of reset, and register fields read after a write (O9, O10, O11).
-/

namespace Sys2Proof.Machine

open Sys2Proof

/-! ### Folds that set one value -/

namespace Block

variable {α β : Type} {p : Block → β} {g : Block → α → Block} {v : β}

/-- What every step of a fold keeps holds after it. -/
theorem each_inv {I : Block → Prop} {l : List α} (hI : ∀ y ∈ l, ∀ b, I b → I (g b y)) {b : Block} (hb : I b) : I (b.each l g) := by
  induction l generalizing b with
  | nil => exact hb
  | cons y l ih => exact ih (fun z hz => hI z (List.mem_cons_of_mem y hz)) (hI y List.mem_cons_self b hb)

/-- A fold in which the step of `x` sets the value `v`, and every other step sets it too or leaves it, all under an invariant `I`. -/
theorem each_reaches_of {I : Block → Prop} {l : List α} {x : α} (hI : ∀ y ∈ l, ∀ b, I b → I (g b y)) (hx : ∀ b, I b → p (g b x) = v)
    (hg : ∀ y ∈ l, ∀ b, I b → p (g b y) = v ∨ p (g b y) = p b) (hl : x ∈ l) {b : Block} (hb : I b) : p (b.each l g) = v := by
  induction l generalizing b with
  | nil => cases hl
  | cons y l ih =>
    have hI' : ∀ z ∈ l, ∀ b, I b → I (g b z) := fun z hz => hI z (List.mem_cons_of_mem y hz)
    have hg' : ∀ z ∈ l, ∀ b, I b → p (g b z) = v ∨ p (g b z) = p b := fun z hz => hg z (List.mem_cons_of_mem y hz)
    have hy := hI y List.mem_cons_self b hb
    rcases List.mem_cons.1 hl with rfl | hl
    · exact (each_inv (I := fun b => I b ∧ p b = v) (fun z hz b h => ⟨hI' z hz b h.1, (hg' z hz b h.1).elim id fun e => e.trans h.2⟩)
        ⟨hy, hx b hb⟩).2
    · exact ih hI' hg' hl hy

theorem each_reaches {x : α} (hx : ∀ b, p (g b x) = v) (hg : ∀ b y, p (g b y) = v ∨ p (g b y) = p b) {l : List α} (hl : x ∈ l)
    (b : Block) : p (b.each l g) = v :=
  each_reaches_of (I := fun _ => True) (fun _ _ _ h => h) (fun b _ => hx b) (fun y _ b _ => hg b y) hl trivial

end Block

theorem fieldNo_mem_allFields (f : FieldNo) : f.val ∈ allFields := List.mem_range.2 f.isLt

/-! ### Settling O9 and O11 -/

theorem State.reset_rd (x : Fld) (i : Nat) : State.reset.b.rd x i = x.reset % 2 ^ x.width := rfl

theorem State.reset_agent (k : Nat) : State.reset.b.agent k = Agent.reset := rfl

/-- Settles O9: a register that nothing has written reads its reset value, and an unlisted agent is as at reset. -/
theorem resetState : Obligations.ResetState :=
  ⟨rfl, rfl, State.reset_rd .., State.reset_rd ..,
    fun f => ⟨beq_iff_eq.2 (State.reset_rd F_ID.MARKED_OUT f), beq_eq_false_iff_ne.2 (State.reset_rd (F_RAIL.ON 1) f ▸ Nat.zero_ne_one)⟩,
    fun _ _ => ⟨rfl, rfl, rfl, rfl⟩, rfl, rfl, rfl, rfl⟩

/-- Settles O11: a write and a read go to the entry of the field's key, and each half of the registers has a list of its own. -/
theorem fieldReadAfterWrite : Obligations.FieldReadAfterWrite := fun b x i v =>
  ⟨b.rd_wr_same x i v, b.rdS_wrS_same x i v, fun _ _ h => ⟨b.rd_wr_other v h, b.rdS_wrS_other v h⟩, fun _ _ => ⟨rfl, rfl⟩⟩

/-! ### The steps of reset -/

/-- Both rails' selects of every field take the straps. -/
def Block.strapped (b : Block) (v : Nat) : Block :=
  b.each allFields (fun b f => (b.wr (F_RAIL.VSEL 0) f v).wr (F_RAIL.VSEL 1) f v)

theorem Block.rd_wr_vsel {b : Block} {r r' v : Nat} (hr : r < 2) (hr' : r' < 2) (f j : Nat) :
    (b.wr (F_RAIL.VSEL r) f v).rd (F_RAIL.VSEL r') j = if r' = r ∧ j = f then v % 8 else b.rd (F_RAIL.VSEL r') j := by
  split
  case isTrue h => rw [h.1, h.2, Block.rd_wr_same]; rfl
  case isFalse h =>
    refine Block.rd_wr_other b v fun hk => h ?_
    simp only [Fld.key, F_RAIL.VSEL] at hk
    omega

theorem Block.rd_strapped (b : Block) {r : Nat} (hr : r < 2) (v : BitVec 3) (f : FieldNo) :
    (b.strapped v.toNat).rd (F_RAIL.VSEL r) f = v.toNat := by
  have hv : v.toNat % 8 = v.toNat := Nat.mod_eq_of_lt v.isLt
  refine Block.each_reaches (p := fun b => b.rd (F_RAIL.VSEL r) f) (x := f.val) (fun b => ?_) (fun b y => ?_)
    (fieldNo_mem_allFields f) b
  · obtain rfl | rfl : r = 0 ∨ r = 1 := by omega
    all_goals simp [Block.rd_wr_vsel, hv]
  · simp only [Block.rd_wr_vsel Nat.one_lt_two hr, Block.rd_wr_vsel Nat.two_pos hr, hv]
    split_ifs <;> simp

theorem Block.loadFuses_keeps (b : Block) : b.Keeps [.mems, .regs] b.loadFuses := by
  unfold Block.loadFuses
  simp

/-- The block once SURV_RST_N is released: reset, with the fuses loaded and the straps taken. -/
theorem exec_survRstNRelease (v : BitVec 3) (s : State) :
    exec (.survRstNRelease v) s = .next { s with tick := 0, b := (s.b.afterReset false).loadFuses.strapped v.toNat } := rfl

theorem Block.strapped_keeps (b : Block) (v : Nat) : b.Keeps [.regs] (b.strapped v) := by
  unfold Block.strapped
  simp

/-- Settles O10: each step of reset makes the block anew around the stores, and the release then loads fuses and straps. -/
theorem resetSteps : Obligations.ResetSteps := by
  refine ⟨fun s => ⟨holdReset false s, rfl, rfl, rfl, rfl, rfl, rfl, rfl, rfl, rfl, rfl, rfl⟩,
    fun s => ⟨holdReset true s, rfl, rfl, rfl, rfl, rfl, rfl, rfl, rfl, rfl⟩,
    fun v s => ⟨_, exec_survRstNRelease v s, rfl, rfl, rfl, rfl, ?_, ?_, fun f => ?_⟩⟩
  · have h := (Block.loadFuses_keeps (s.b.afterReset false)).pins (by decide)
    rw [(Block.strapped_keeps _ _).pins (by decide), h]
    rfl
  · have h := (Block.loadFuses_keeps (s.b.afterReset false)).nv (by decide)
    rw [(Block.strapped_keeps _ _).nv (by decide), h]
    rfl
  · exact ⟨Block.rd_strapped _ Nat.two_pos v f, Block.rd_strapped _ Nat.one_lt_two v f⟩

end Sys2Proof.Machine
end

section
/-!
SUPPORT. The register window: a page to which nothing is on its way, one lane of a request, and the writes and reads of the fabric
(O12, O13).
-/

namespace Sys2Proof.Machine

open Sys2Proof

namespace Block

variable {b : Block} {now sc cls inst : Nat} {path : Path}

/-! ### A page to which no access is on its way -/

section NoTransit

variable (h : (b.page (pageKey cls inst)).transit = [])
include h

theorem landWhile_of_empty (g : Transit → Bool) : b.landWhile now cls inst g = b := by
  simp [landWhile, h]

theorem behind_of_empty (act : TransitAct) (g : Block → Block) : b.behind now sc path cls inst act g = g b := by
  rw [behind, landWhile_of_empty h]
  simp [h]

end NoTransit

theorem hostShadow_of_free {x : Fld} (h : (b.page (pageKey x.page inst)).heldBy = none) (v : Nat) :
    b.hostShadow x inst v = b.wrS x inst v := by
  simp [hostShadow, h]

/-- A write of an RW field from the fabric, to a page that nothing holds and to which nothing is on its way. -/
theorem writeFld_rw {x : Fld} (hx : x.access = .rw) (hheld : (b.page (pageKey x.page inst)).heldBy = none)
    (htransit : (b.page (pageKey x.page inst)).transit = []) (v : Nat) :
    b.writeFld now sc .fabric x inst v false = b.wrS x inst v := by
  simp [writeFld, hx, behind_of_empty htransit, pathOfHost, hostShadow_of_free hheld]

/-! ### One lane of a request -/

theorem lanesOf_low {a : Nat} (ha : a % 4 = 0) : lanesOf 0x0F a = some [0] := by simp [lanesOf, ha]

theorem lanesOf_high {a : Nat} (ha : a % 4 = 0) : lanesOf 0xF0 a = some [1] := by simp [lanesOf, ha]

/-- A write of the low lane of an aligned word of a page, from the fabric. -/
theorem write_low {a o : Nat} (ha : a % 8 = 0) (htarget : target a = .page cls inst o) (v : Nat) :
    b.write now sc .fabric a 0x0F v = (b.writeWord now sc .fabric cls inst o (v % 2 ^ 32)).respond 0 rfOk := by
  have hword : a / 8 * 8 = a := by omega
  simp [write, lanesOf_low (show a % 4 = 0 by omega), hword, htarget, each, writeAt, landing, bitsOf]

theorem respond_keeps (b : Block) (data err : Nat) : b.Keeps [.hub] (b.respond data err) := by
  unfold respond
  simp

end Block

theorem exec_registerWrite_low {a : BitVec 27} {cls inst o : Nat} (ha : a.toNat % 8 = 0) (htarget : target a.toNat = .page cls inst o)
    (v : BitVec 64) (sc : ScOff) (s : State) :
    exec (.registerWrite .fabric a 0x0F#8 v sc) s =
      .next { s with b := (s.b.writeWord s.tick sc .fabric cls inst o (v.toNat % 2 ^ 32)).respond 0 rfOk } := by
  rw [← Block.write_low ha htarget]
  rfl

/-- The word of HUB_CAP 0x040 holds its two caps. -/
theorem flds_hubCap_caps : (pageFlds 0x1C).filter (fun x => x.off == 0x040) = [HUB_CAP.PCAP_S, HUB_CAP.PCAP_MS] := by decide

theorem flds_ovrMap0 : (pageFlds 0x11).filter (fun x => x.off == 0x050) = [HUB_TICK.OVR_MAP0] := by decide

theorem flds_tickLo : (pageFlds 0x11).filter (fun x => x.off == 0x040) = [HUB_TICK.TICK_LO] := by decide

namespace Block

variable {b : Block} {now sc : Nat}

/-- A write at a body offset of a page's shadow half goes to the fields of that word in turn. -/
theorem writeWord_body {path : Path} {cls inst o : Nat} {l : List Fld} (ho : 0x040 ≤ o ∧ o < 0x800)
    (hl : (pageFlds cls).filter (fun x => x.off == o) = l) (v : Nat) :
    b.writeWord now sc path cls inst o v = b.each l (fun b x => b.writeFld now sc path x inst (bitsOf v x.lo x.width) false) := by
  have hmod : o % 0x800 = o := Nat.mod_eq_of_lt ho.2
  simp [writeWord, hmod, hl, Nat.not_lt.2 ho.1, Nat.not_le.2 ho.2]

theorem writeWord_caps (hheld : (b.page (pageKey 0x1C 0)).heldBy = none) (htransit : (b.page (pageKey 0x1C 0)).transit = []) (v : Nat) :
    b.writeWord now sc .fabric 0x1C 0 0x040 v = (b.wrS HUB_CAP.PCAP_S 0 (bitsOf v 16 16)).wrS HUB_CAP.PCAP_MS 0 (bitsOf v 0 16) := by
  rw [writeWord_body (by decide) flds_hubCap_caps, each_cons, each_cons, each_nil, writeFld_rw (x := HUB_CAP.PCAP_S) rfl hheld htransit]
  exact writeFld_rw rfl hheld htransit _

theorem writeWord_ovrMap0 (v : Nat) : b.writeWord now sc .fabric 0x11 0 0x050 v =
    b.wr HUB_TICK.OVR_MAP0 0 (b.rd HUB_TICK.OVR_MAP0 0 &&& (2 ^ 32 - 1 - lowBits 32 (bitsOf v 0 32))) := by
  rw [writeWord_body (by decide) flds_ovrMap0]
  rfl

theorem writeWord_tickLo (v : Nat) : b.writeWord now sc .fabric 0x11 0 0x040 v = b := by
  rw [writeWord_body (by decide) flds_tickLo]
  rfl

end Block

/-- Settles O12: the write of one lane goes to the fields of its word, and each field acts by its access code. -/
theorem registerWriteByAccessCode : Obligations.RegisterWriteByAccessCode := by
  refine ⟨fun v sc s hheld htransit => ⟨_, exec_registerWrite_low (cls := 0x1C) (inst := 0) (o := 0x040) rfl rfl v sc s, rfl, ?_, ?_⟩,
    fun v sc s => ⟨_, exec_registerWrite_low (cls := 0x11) (inst := 0) (o := 0x050) rfl rfl v sc s, rfl, ?_, ?_, ?_⟩,
    fun v sc s => ⟨_, exec_registerWrite_low (cls := 0x11) (inst := 0) (o := 0x040) rfl rfl v sc s, rfl, ?_, rfl⟩,
    fun p addr be v sc s hp => ?_⟩
  · rw [Block.writeWord_caps hheld htransit]
    rfl
  · rw [Block.writeWord_caps hheld htransit]
    exact (Block.rdS_wrS_same _ HUB_CAP.PCAP_MS 0 _).trans (by simp [HUB_CAP.PCAP_MS, bitsOf])
  · rw [Block.writeWord_ovrMap0]
    refine (Block.rd_wr_same _ HUB_TICK.OVR_MAP0 0 _).trans ?_
    rw [Nat.mod_eq_of_lt (Nat.and_le_left.trans_lt (s.b.rd_lt HUB_TICK.OVR_MAP0 0))]
    simp [bitsOf, lowBits]
  · rw [Block.writeWord_ovrMap0]
    exact (regsBut_wr (List.mem_singleton.2 rfl) _).2 (RegsBut.refl _ _)
  · rw [Block.writeWord_ovrMap0]
    rfl
  · rw [Block.writeWord_tickLo]
    exact ⟨rfl, rfl⟩
  · simp [exec, execRegisterWrite, onB, hp]

/-! ### The low word of wafer time latches the high one -/

theorem flds_tickHi : (pageFlds 0x11).filter (fun x => x.off == 0x044) = [HUB_TICK.TICK_HI] := by decide

theorem Block.pageWord_tickLo (b : Block) (now : Nat) : b.pageWord now 0x11 0 0x040 = now % 2 ^ 32 := by
  simp [Block.pageWord, flds_tickLo, Block.present, Block.viewHub, HUB_TICK.TICK_LO, lowBits]

theorem Block.pageWord_tickHi (b : Block) (now : Nat) : b.pageWord now 0x11 0 0x044 = now / 2 ^ 32 % 65536 := by
  simp [Block.pageWord, flds_tickHi, Block.present, Block.viewHub, HUB_TICK.TICK_HI, lowBits]

theorem pairKey_tickLo : pairKey 0x11 0x040 = some 0x040 := by decide

theorem pairKey_tickHi : pairKey 0x11 0x044 = none := by decide

@[simp] theorem Page.latch_setLatch (p : Page) (path key high : Nat) : (p.setLatch path key high).latch path = some (key, high) := by
  simp [Page.latch, Page.setLatch]

/-- The block after a read of the low word of wafer time: the high word is latched, and so is the offset. -/
def timeLatched (path : Path) (sc : Nat) (s : State) : Block :=
  (s.b.modPage (pageKey 0x11 0) (fun p => p.setLatch (pathNo path) 0x040 (s.tick / 2 ^ 32 % 65536))).wr HUB_TICK.TICK_OFFSET 0 sc

theorem timeLatched_page (path : Path) (sc : Nat) (s : State) : (timeLatched path sc s).page (pageKey 0x11 0) =
    (s.b.page (pageKey 0x11 0)).setLatch (pathNo path) 0x040 (s.tick / 2 ^ 32 % 65536) := by
  simp [timeLatched, Block.page, Block.modPage, Block.setPage, mget_mput_same]

theorem readPage_tickLo {s : State} (h : (s.b.page (pageKey 0x11 0)).transit = []) (path : Path) (sc : Nat) :
    readPage s path sc 0x11 0 0x040 = (s.tick % 2 ^ 32, timeLatched path sc s) := by
  simp [readPage, Block.landWhile_of_empty h, pairKey_tickLo, Block.pageWord_tickLo, Block.pageWord_tickHi, timeLatched]

/-- A read of the high word returns what the same path's read of the low word has latched. -/
theorem readPage_tickHi {s : State} {path : Path} {high : Nat} (h : (s.b.page (pageKey 0x11 0)).transit = [])
    (hlatch : (s.b.page (pageKey 0x11 0)).latch (pathNo path) = some (0x040, high)) (sc : Nat) :
    (readPage s path sc 0x11 0 0x044).1 = high := by
  simp [readPage, Block.landWhile_of_empty h, pairKey_tickLo, pairKey_tickHi, hlatch]

theorem readAt_page {s : State} {a cls inst o : Nat} (ha : a % 4 = 0) (htarget : target a = .page cls inst o) (path : Path) (sc : Nat) :
    readAt s path sc a = ((readPage s path sc cls inst o).1, rfOk, (readPage s path sc cls inst o).2) := by
  simp [readAt, ha, htarget]

theorem exec_lowWordRead_fabric (a : BitVec 27) (be : Byte) (sc : ScOff) (s : State) :
    exec (.lowWordRead .fabric a be sc) s = .next { s with
      b := (readRequest s .fabric sc a.toNat be.toNat).2.2.respond (readRequest s .fabric sc a.toNat be.toNat).1
        (readRequest s .fabric sc a.toNat be.toNat).2.1 } := rfl

theorem readRequest_tickLo {s : State} (h : (s.b.page (pageKey 0x11 0)).transit = []) (path : Path) (sc : Nat) :
    readRequest s path sc 0x1040 0x0F = (s.tick % 2 ^ 32, rfOk, timeLatched path sc s) := by
  simp [readRequest, Block.lanesOf_low, readAt_page (a := 0x1040) (cls := 0x11) (inst := 0) (o := 0x040) rfl rfl, readPage_tickLo h]

theorem readRequest_tickHi {s : State} {path : Path} {high : Nat} (h : (s.b.page (pageKey 0x11 0)).transit = [])
    (hlatch : (s.b.page (pageKey 0x11 0)).latch (pathNo path) = some (0x040, high)) (sc : Nat) :
    (readRequest s path sc 0x1044 0xF0).1 = high * 2 ^ 32 := by
  simp [readRequest, Block.lanesOf_high, readAt_page (a := 0x1044) (cls := 0x11) (inst := 0) (o := 0x044) rfl rfl, readPage_tickHi h hlatch]

/-- Settles O13: the read of the low word keeps the high word of its instant for the next read of the path. -/
theorem waferTimeReadsWhole : Obligations.WaferTimeReadsWhole := by
  intro sc sc' s n h
  have hlow := exec_lowWordRead_fabric 0x1040#27 0x0F#8 sc s
  rw [show (0x1040#27).toNat = 0x1040 from rfl, show (0x0F#8).toNat = 0x0F from rfl, readRequest_tickLo h] at hlow
  refine ⟨_, hlow, rfl, rfl, rfl, _, exec_lowWordRead_fabric .., ?_⟩
  refine readRequest_tickHi (path := .fabric) ?_ ?_ sc'
  · exact (congrArg Page.transit (timeLatched_page .fabric sc s)).trans h
  · exact (congrArg (Page.latch · 0) (timeLatched_page .fabric sc s)).trans (Page.latch_setLatch ..)

end Sys2Proof.Machine
end

section
/-!
SUPPORT. Accesses that arrive at a page, and commits that take effect (O14, O15).
-/

namespace Sys2Proof.Machine

open Sys2Proof

/-! ### The RW fields of one page -/

/-- The class bytes of the pages (Table 18.3). -/
abbrev IsClass (cls : Nat) : Prop := cls < 0x50

theorem pageCls_isClass (pg : PageId) : IsClass (pageCls pg) := by
  cases pg with
  | hub i => simp only [pageCls, IsClass]; omega
  | field f i => simp only [pageCls, IsClass]; omega

/-- Any two of the fields are one field, or apart. -/
def pairwiseApart (l : List Fld) : Bool := l.all fun x => l.all fun y => decide (x = y) || x.apart y

theorem pageRw_pairwiseApart (k : Fin 0x50) : pairwiseApart (pageRw k) = true := by
  revert k; decide

theorem eq_of_key_eq {cls : Nat} (hcls : IsClass cls) {x y : Fld} (hx : x ∈ pageRw cls) (hy : y ∈ pageRw cls) {i : Nat}
    (h : y.key i = x.key i) : x = y := by
  have hall := List.all_eq_true.1 (List.all_eq_true.1 (pageRw_pairwiseApart ⟨cls, hcls⟩) x hx) y hy
  rcases Bool.or_eq_true_iff.1 hall with heq | hapart
  · exact of_decide_eq_true heq
  · exact absurd h (Fld.key_ne_of_apart hapart i i)

namespace Block

variable {b : Block} {now sc cls inst : Nat}

/-! ### CANCEL and RELOAD of a page that no command holds -/

theorem cancelCommit_of_free (h : (b.page (pageKey cls inst)).heldBy = none) :
    b.cancelCommit cls inst = b.modPage (pageKey cls inst) (fun p => { p with pending := none }) := by
  simp [cancelCommit, h]

theorem reloadShadow_of_free (h : (b.page (pageKey cls inst)).heldBy = none) :
    b.reloadShadow cls inst = b.each (pageRw cls) (fun b x => b.wrS x inst (b.rd x inst)) := by
  simp [reloadShadow, h]

/-- RELOAD gives every RW field of the shadow the value in force. -/
theorem rdS_reload (hcls : IsClass cls) {x : Fld} (hx : x ∈ pageRw cls) :
    (b.each (pageRw cls) (fun b x => b.wrS x inst (b.rd x inst))).rdS x inst = b.rd x inst := by
  refine each_reaches_of (p := fun b => b.rdS x inst) (g := fun b x => b.wrS x inst (b.rd x inst)) (v := b.rd x inst)
    (I := fun c => c.regs = b.regs) (fun _ _ _ h => h) (fun c hc => ?_) (fun y hy c hc => ?_) hx rfl
  · exact (rdS_wrS_same ..).trans ((Nat.mod_eq_of_lt (c.rd_lt x inst)).trans (rd_congr hc x inst))
  · by_cases hkey : x.key inst = y.key inst
    · cases eq_of_key_eq hcls hy hx hkey
      exact .inl ((rdS_wrS_same ..).trans ((Nat.mod_eq_of_lt (c.rd_lt x inst)).trans (rd_congr hc x inst)))
    · exact .inr (rdS_wrS_other _ _ hkey)

/-! ### A commit that leaves a page's path -/

section Arrive

variable (hrw : (pageRw cls).isEmpty = false) (hheld : (b.page (pageKey cls inst)).heldBy = none)
include hrw hheld

/-- A commit from host software that passes its checks is pending. -/
theorem commitArrive_passes {due v : Nat} (hdue : atDue now v = some due) (hrange : rangeOk b cls inst (b.shadowGet inst) = true) :
    b.commitArrive now cls inst v none = b.modPage (pageKey cls inst) (fun p => { p with
      pending := some { due := due, vals := b.capture cls inst, byCmd := none } }) := by
  have herr : b.arrivalErr now cls inst v none = none := by simp [arrivalErr, hheld, hdue, hrange]
  simp only [commitArrive, hrw, herr, hdue]
  rfl

theorem commitArrive_late {v : Nat} (hdue : atDue now v = none) :
    b.commitArrive now cls inst v none = b.pageErr (pageKey cls inst) 0 := by
  have herr : b.arrivalErr now cls inst v none = some 0 := by simp [arrivalErr, hheld, hdue]
  simp only [commitArrive, hrw, herr]
  rfl

end Arrive

end Block

theorem exec_pageCommit_fabric (pg : PageId) (v : Word) (sc : ScOff) {s : State}
    (h : (s.b.page (pageKey (pageCls pg) (pageInst pg))).transit = []) : exec (.pageCommit .fabric pg v sc) s =
    .next { s with b := s.b.commitSend s.tick sc (pageCls pg) (pageInst pg) v.toNat none } := by
  simp [exec, execPageCommit, onB, Block.landing, Block.writes, Block.pageCommit, Block.landWhile_of_empty h, ownPath]

theorem exec_cancel_fabric (pg : PageId) (s : State) : exec (.cancel .fabric pg) s = .next { s with
    b := s.b.behind s.tick 0 .fabric (pageCls pg) (pageInst pg) .cancel (fun b => b.cancelCommit (pageCls pg) (pageInst pg)) } := rfl

theorem exec_reload_fabric (pg : PageId) (s : State) : exec (.reload .fabric pg) s = .next { s with
    b := s.b.behind s.tick 0 .fabric (pageCls pg) (pageInst pg) .reload (fun b => b.reloadShadow (pageCls pg) (pageInst pg)) } := rfl

/-- An access of the fabric that finds another on its way follows it. -/
theorem Block.behind_waits {b : Block} {now sc cls inst : Nat} {x : Transit} {act : TransitAct} (g : Block → Block)
    (hx : (b.page (pageKey cls inst)).transit = [x]) (harr : x.arrived now sc = false) :
    b.behind now sc .fabric cls inst act g = (b.modPage (pageKey cls inst) (fun p => { p with transit := [x] })).modPage (pageKey cls inst)
      (fun p => { p with transit := [x, { tick := arrivalTick now sc cls inst, off := arrivalOff sc cls inst, act := act }] }) := by
  have hland : b.landWhile now cls inst (fun t => t.arrived now sc) = b.modPage (pageKey cls inst) (fun p => { p with transit := [x] }) := by
    simp [landWhile, hx, harr, Block.each]
  rw [Block.behind, hland]
  simp [ownPath, Block.modPage]

/-- Settles O14: a commit that arrives is captured or dropped, one that does not is on its way, and an access behind it follows. -/
theorem commitArrivalCancelAndReload : Obligations.CommitArrivalCancelAndReload := by
  refine ⟨fun f k v sc s hrw hheld htransit => ⟨fun due hnow hdue hrange => ?_, fun hnow hdue => ?_, fun hlater => ?_⟩,
    fun f k s hheld htransit => ⟨⟨_, exec_cancel_fabric .., ?_⟩, ⟨_, exec_reload_fabric .., ?_⟩⟩,
    fun f k x s hx harr => ⟨⟨_, exec_cancel_fabric .., ?_⟩, ⟨_, exec_reload_fabric .., ?_⟩⟩⟩
  · refine ⟨_, exec_pageCommit_fabric (.field f k) v sc htransit, rfl, ?_⟩
    simp only [Block.commitSend, pageCls, pageInst, hnow, htransit, and_self, if_true, Block.commitArrive_passes hrw hheld hdue hrange]
    exact ⟨⟨rfl, rfl⟩, by simp, fun key hkey => Block.page_modPage_other _ _ hkey⟩
  · refine ⟨_, exec_pageCommit_fabric (.field f k) v sc htransit, rfl, ?_⟩
    simp only [Block.commitSend, pageCls, pageInst, hnow, htransit, and_self, if_true, Block.commitArrive_late hrw hheld hdue]
    exact ⟨⟨rfl, rfl⟩, by simp [Block.pageErr], by simp [Block.pageErr]⟩
  · refine ⟨_, exec_pageCommit_fabric (.field f k) v sc htransit, rfl, ?_⟩
    simp only [Block.commitSend, pageCls, pageInst, hlater, false_and, if_false]
    exact ⟨⟨rfl, rfl⟩, by simp [htransit], fun key hkey => Block.page_modPage_other _ _ hkey⟩
  · simp only [pageCls, pageInst, Block.behind_of_empty htransit, Block.cancelCommit_of_free hheld]
    exact ⟨rfl, ⟨rfl, rfl⟩, by simp, fun key hkey => Block.page_modPage_other _ _ hkey⟩
  · simp only [pageCls, pageInst, Block.behind_of_empty htransit, Block.reloadShadow_of_free hheld]
    refine ⟨?_, fun y hy => Block.rdS_reload (pageCls_isClass (.field f k)) hy⟩
    have hkeeps : s.b.Keeps [.shadow] (s.b.each (pageRw (0x40 + k.val)) (fun b x => b.wrS x f (b.rd x f))) := by simp
    exact congrArg (fun b => { s with b := b }) hkeeps.eq_graft
  · simp only [pageCls, pageInst, Block.behind_waits _ hx harr]
    exact ⟨rfl, ⟨rfl, rfl⟩, by simp⟩
  · simp only [pageCls, pageInst, Block.behind_waits _ hx harr]
    exact ⟨rfl, ⟨rfl, rfl⟩, by simp⟩

/-! ### COMMIT_EFFECT -/

section Effect

variable {s : State} {pg : PageId} {p : Pending}

theorem exec_commitEffect (h : (s.b.page (pageKey (pageCls pg) (pageInst pg))).transit = []) :
    exec (.commitEffect pg) s = .next { s with b := s.b.commitAt s.tick (pageCls pg) (pageInst pg) } := by
  simp [exec, execCommitEffect, onB, Block.landWhile_of_empty h]

namespace Block

variable {b : Block} {now cls inst : Nat}

theorem dueCommit_of_due (hpend : (b.page (pageKey cls inst)).pending = some p) (hdue : tickReached now p.due = true)
    (hh1 : cls = 0x1F → (b.proc 85).st = 0) : b.dueCommit now cls inst = some p := by
  by_cases hc : cls = 0x1F
  · simp [dueCommit, hpend, hdue, hh1 hc]
  · simp [dueCommit, hpend, hdue, hc]

theorem dueCommit_none (h : ∀ p, (b.page (pageKey cls inst)).pending = some p → tickReached now p.due = false) :
    b.dueCommit now cls inst = none := by
  cases hpend : (b.page (pageKey cls inst)).pending with
  | none => simp [dueCommit, hpend]
  | some p => simp [dueCommit, hpend, h p hpend]

/-- A commit that passes the checks of the boundary: its values, what they bring with them, and the end of its command. -/
theorem commitAt_of_passes (hdue : b.dueCommit now cls inst = some p) (hstop : b.commitStop now cls inst p = none) :
    b.commitAt now cls inst = (p.byCmd.elim id fun pt b => b.pageDone now pt) ((b.putCommit now cls inst p).commitEffects b now cls inst) := by
  simp only [commitAt, hdue, hstop]
  cases p.byCmd <;> rfl

theorem putCommit_page (b : Block) (now cls inst : Nat) (p : Pending) :
    (b.putCommit now cls inst p).page (pageKey cls inst) = { b.page (pageKey cls inst) with pending := none, heldBy := none, stamp := now } := by
  have hkeeps : b.Keeps [.regs] (b.each (pageRw cls) (fun b x => b.wr x inst (mget (b.rd x inst) p.vals (x.key inst)))) := by simp
  rw [putCommit, page_modPage_same, hkeeps.page (by decide)]

theorem putCommit_page_other {key : Nat} (h : key ≠ pageKey cls inst) : (b.putCommit now cls inst p).page key = b.page key := by
  have hkeeps : b.Keeps [.regs] (b.each (pageRw cls) (fun b x => b.wr x inst (mget (b.rd x inst) p.vals (x.key inst)))) := by simp
  rw [putCommit, page_modPage_other _ _ h, hkeeps.page (by decide)]

/-- What a commit brings with it, and the end of its command, leave the headers alone. -/
theorem commitAt_page (hdue : b.dueCommit now cls inst = some p) (hstop : b.commitStop now cls inst p = none) (key : Nat) :
    (b.commitAt now cls inst).page key = (b.putCommit now cls inst p).page key := by
  have hkeeps : (b.putCommit now cls inst p).Keeps [.regs, .agents, .fields, .rails, .phases, .ports, .traces, .ties, .mon, .nv, .hub, .faults]
      (b.commitAt now cls inst) := by
    rw [commitAt_of_passes hdue hstop]
    cases p.byCmd <;> simp
  exact hkeeps.page (by decide) key

theorem mget_mget_mod (d n k : Nat) (m : List (Nat × Nat)) : mget (mget d m k % n) m k % n = mget d m k % n := by
  induction m with
  | nil => exact Nat.mod_mod d n
  | cons e m ih =>
    simp only [mget]
    split
    · rfl
    · exact ih

/-- The captured values come into force. -/
theorem rd_putCommit (hcls : IsClass cls) {x : Fld} (hx : x ∈ pageRw cls) :
    (b.putCommit now cls inst p).rd x inst = mget (b.rd x inst) p.vals (x.key inst) % 2 ^ x.width := by
  let g := fun (c : Block) (y : Fld) => c.wr y inst (mget (c.rd y inst) p.vals (y.key inst))
  let v := mget (b.rd x inst) p.vals (x.key inst) % 2 ^ x.width
  have hset : ∀ c : Block, c.rd x inst = b.rd x inst ∨ c.rd x inst = v → (g c x).rd x inst = v := fun c hc => by
    rw [rd_wr_same]
    rcases hc with hc | hc <;> rw [hc]
    exact mget_mget_mod ..
  have hstep : ∀ y ∈ pageRw cls, ∀ c : Block, c.rd x inst = b.rd x inst ∨ c.rd x inst = v →
      (g c y).rd x inst = v ∨ (g c y).rd x inst = c.rd x inst := fun y hy c hc => by
    by_cases hkey : x.key inst = y.key inst
    · cases eq_of_key_eq hcls hy hx hkey
      exact .inl (hset c hc)
    · exact .inr (rd_wr_other _ _ hkey)
  exact each_reaches_of (p := fun b => b.rd x inst) (fun y hy c hc => (hstep y hy c hc).elim .inr fun e => hc.imp e.trans e.trans) hset
    hstep hx (.inl rfl)

theorem putCommit_regsBut (b : Block) (now cls inst : Nat) (p : Pending) :
    RegsBut ((pageRw cls).map fun x => x.key inst) b (b.putCommit now cls inst p) := fun y i hy =>
  each_inv (I := fun c => c.rd y i = b.rd y i) (fun x hx c hc =>
    (rd_wr_other c _ fun hkey => hy (List.mem_map.2 ⟨x, hx, hkey.symm⟩)).trans hc) rfl

theorem putCommit_keeps (b : Block) (now cls inst : Nat) (p : Pending) : b.Keeps [.regs, .pages] (b.putCommit now cls inst p) := by simp

/-- A commit that a command's hold has overtaken is dropped. -/
theorem commitAt_of_overtaken (hdue : b.dueCommit now cls inst = some p) (hcmd : p.byCmd = none)
    (hheld : (b.page (pageKey cls inst)).heldBy.isSome = true) (hcls : cls ≠ 0x47 ∧ cls ≠ 0x48) :
    b.commitAt now cls inst = (b.modPage (pageKey cls inst) (fun h => { h with pending := none })).pageErr (pageKey cls inst) 5 := by
  have hstop : b.commitStop now cls inst p = some .held := by simp [commitStop, overtaken, hheld, hcmd]
  simp [commitAt, hdue, hstop, dropPartner, hcls.1, hcls.2, dropCommit, hcmd, CommitStop.bit]

end Block

/-- The pages whose commit brings nothing else with it. -/
theorem Block.commitEffects_of_plain {cls : Nat} (h : cls ∉ [0x17, 0x1C, 0x1E, 0x1F, 0x28, 0x43, 0x45, 0x47, 0x48, 0x49, 0x4B])
    (b old : Block) (now inst : Nat) : b.commitEffects old now cls inst = b := by
  unfold Block.commitEffects
  split
  case h_12 => rfl
  all_goals exact absurd (by decide) h

/-- Settles O15: a due commit that passes puts its values in force, one that a hold has overtaken is dropped, and one not due waits. -/
theorem commitTakesEffect : Obligations.CommitTakesEffect := by
  refine ⟨fun pg p s htransit hpend hdue hh1 hstop => ⟨_, exec_commitEffect htransit, rfl, ?_⟩,
    fun pg p s htransit hpend hdue hcmd hstop hplain => ⟨_, exec_commitEffect htransit, ?_⟩,
    fun pg p s htransit hpend hdue hcmd hheld hcls => ⟨_, exec_commitEffect htransit, rfl, ?_⟩, fun pg s htransit hnot => ?_⟩
  · have hdue := Block.dueCommit_of_due hpend hdue hh1
    rw [Block.commitAt_page hdue hstop, Block.putCommit_page]
    exact ⟨rfl, rfl, rfl⟩
  · have hdue := Block.dueCommit_of_due hpend hdue fun h => absurd (by rw [h]; decide) hplain
    rw [Block.commitAt_of_passes hdue hstop, hcmd, Block.commitEffects_of_plain hplain]
    simp only [Option.elim_none, id_eq]
    exact ⟨congrArg (fun b => { s with b := b }) (Block.putCommit_keeps ..).eq_graft, Block.putCommit_regsBut _ _ _ _ _,
      fun x hx => Block.rd_putCommit (pageCls_isClass pg) hx, fun key hkey => Block.putCommit_page_other hkey⟩
  · simp only [List.mem_cons, List.not_mem_nil, or_false, not_or] at hcls
    have hdue := Block.dueCommit_of_due hpend hdue fun h => absurd h hcls.1
    rw [Block.commitAt_of_overtaken hdue hcmd hheld hcls.2]
    exact ⟨⟨rfl, rfl⟩, by simp [Block.pageErr], by simp [Block.pageErr]⟩
  · rw [exec_commitEffect htransit, Block.commitAt, Block.dueCommit_none hnot]

end Effect

end Sys2Proof.Machine
end

section
/-!
SUPPORT. Single registers that act when written, and a record written to a trace buffer (O16).
-/

namespace Sys2Proof.Machine

open Sys2Proof

namespace Block

/-! ### Bits of a register -/

/-- A bit that is cleared reads clear, and no other bit changes. -/
theorem flag_setFlag_false {b : Block} {x : Fld} {i j k : Nat} (hj : j < x.width) :
    (b.setFlag x i j false).flag x i k = (b.flag x i k && !decide (k = j)) := by
  have hlt : 2 ^ j < 2 ^ x.width := Nat.pow_lt_pow_right Nat.one_lt_two hj
  have hmask : 2 ^ x.width - 1 - 2 ^ j = 2 ^ x.width - (2 ^ j + 1) := by omega
  have hsmall : b.rd x i &&& (2 ^ x.width - (2 ^ j + 1)) < 2 ^ x.width := Nat.and_le_left.trans_lt (b.rd_lt x i)
  have hrd : (b.setFlag x i j false).rd x i = b.rd x i &&& (2 ^ x.width - (2 ^ j + 1)) := by
    rw [setFlag, rd_wr_same, hmask]
    exact Nat.mod_eq_of_lt hsmall
  rw [flag, flag, hrd, Nat.testBit_and, Nat.testBit_two_pow_sub_succ hlt, Nat.testBit_two_pow]
  by_cases hk : k < x.width
  · simp [hk, eq_comm]
  · have hclear : (b.rd x i).testBit k = false :=
      Nat.testBit_lt_two_pow ((b.rd_lt x i).trans_le (Nat.pow_le_pow_right Nat.two_pos (not_lt.1 hk)))
    simp [hclear]

/-- One bit of FAULT_STATUS cleared, with the events counted under it. -/
def clearBit (b : Block) (k : Nat) : Block :=
  (b.setFlag HUB_FAULT.FAULT_STATUS 0 k false).modHub (fun h => { h with events := merase h.events k })

/-- The bits that a write of FAULT_STATUS clears. -/
def clearable (b : Block) (v : Nat) : List Nat :=
  (List.range 32).filter (fun k => v.testBit k && b.flag HUB_FAULT.FAULT_STATUS 0 k && !b.episodeBit k)

theorem clearStatus_eq (b : Block) (v : Nat) : b.clearStatus v = (b.each (b.clearable v) clearBit).bitsCleared := rfl

theorem flag_clearBit {b : Block} {j : Nat} (hj : j < 32) (k : Nat) :
    (b.clearBit j).flag HUB_FAULT.FAULT_STATUS 0 k = (b.flag HUB_FAULT.FAULT_STATUS 0 k && !decide (k = j)) := flag_setFlag_false hj

theorem flag_bitsCleared (b : Block) (k : Nat) :
    b.bitsCleared.flag HUB_FAULT.FAULT_STATUS 0 k = b.flag HUB_FAULT.FAULT_STATUS 0 k := by
  rw [bitsCleared]
  cases (b.collector == colDegraded && b.rd HUB_FAULT.FAULT_STATUS 0 == 0)
  · rfl
  · exact congrArg (Nat.testBit · k) (rd_wr_apart (by decide) b 0 0 _)

/-- A write of FAULT_STATUS leaves a bit clear that it writes as 1, unless the open episode holds it. -/
theorem flag_clearStatus {b : Block} {v k : Nat} (hk : k < 32) (hv : v.testBit k = true) (hep : b.episodeBit k = false) :
    (b.clearStatus v).flag HUB_FAULT.FAULT_STATUS 0 k = false := by
  have hlt : ∀ j ∈ b.clearable v, j < 32 := fun j hj => List.mem_range.1 (List.mem_filter.1 hj).1
  rw [clearStatus_eq, flag_bitsCleared]
  by_cases hset : b.flag HUB_FAULT.FAULT_STATUS 0 k = true
  · have hmem : k ∈ b.clearable v := List.mem_filter.2 ⟨List.mem_range.2 hk, by simp [hv, hset, hep]⟩
    refine each_reaches_of (p := fun b => b.flag HUB_FAULT.FAULT_STATUS 0 k) (I := fun _ => True) (fun _ _ _ h => h)
      (fun c _ => by simp [flag_clearBit hk]) (fun j hj c _ => ?_) hmem trivial
    by_cases hkj : k = j <;> simp [flag_clearBit (hlt j hj), hkj]
  · refine each_inv (I := fun c => c.flag HUB_FAULT.FAULT_STATUS 0 k = false) (fun j hj c hc => ?_) (Bool.eq_false_iff.2 hset)
    rw [flag_clearBit (hlt j hj), hc, Bool.false_and]

/-! ### A record written to a field's buffer -/

variable {b : Block} {f : FieldNo}

theorem bufOn_field (b : Block) (f : FieldNo) : b.bufOn f = b.bit F_TRACE.CAPTURE f := if_neg (by omega)

end Block

/-- A buffer that overwrites takes the record as its newest while it has room. -/
theorem TraceBuf.put_of_room {t : TraceBuf} {cap : Nat} (r : TraceRec) (h : t.recs.length < cap) :
    t.put cap 0 r = (t.store cap r, true) := by
  have hstore : t.storeNewest cap r = t.store cap r := by
    unfold TraceBuf.storeNewest
    split <;> simp [Nat.not_le.2 h]
  simp [TraceBuf.put, hstore]

namespace Block

variable {b : Block} {f : FieldNo} {now off : Nat} {r : TraceRec}

theorem putTrace_keeps (b : Block) (k : Nat) (t : TraceBuf) (w : Bool) : b.Keeps [.regs, .traces] (b.putTrace k t w) := by simp

@[simp] theorem putTrace_trace_same (b : Block) (k : Nat) (t : TraceBuf) (w : Bool) : (b.putTrace k t w).trace k = t := by
  have h : (b.setTrace k t).Keeps [.regs] (b.putTrace k t w) := by unfold putTrace; simp
  rw [h.trace (by decide), trace_setTrace_same]

theorem putTrace_trace_other {k j : Nat} (hj : j ≠ k) (b : Block) (t : TraceBuf) (w : Bool) : (b.putTrace k t w).trace j = b.trace j := by
  have h : (b.setTrace k t).Keeps [.regs] (b.putTrace k t w) := by unfold putTrace; simp
  rw [h.trace (by decide), trace_setTrace_other _ _ hj]

/-- The counts that a field's buffer keeps are none of its trigger's fields. -/
theorem putTrace_trigMask (b : Block) (f : FieldNo) (t : TraceBuf) (w : Bool) :
    (b.putTrace f t w).rd F_TRACE.TRIG_MASK f = b.rd F_TRACE.TRIG_MASK f := by
  have hf : f.val ≠ 84 := by omega
  rw [putTrace, if_neg hf, rd_raise_apart (by decide), rd_add_apart (by decide), rd_add_apart (by decide)]
  exact (by simp : b.Keeps [.traces] (b.setTrace f t)).rd (by decide) ..

/-- Without a trigger a record goes to a field's running buffer and does nothing else. -/
theorem writeRec_field (hpol : b.bufPolicy f = 0) (hmask : b.rd F_TRACE.TRIG_MASK f = 0) (hroom : (b.trace f).recs.length < 2048) :
    b.writeRec now off f r = b.putTrace f ((b.trace f).store 2048 r) true := by
  have hf : f.val ≠ 84 := by omega
  have hput : (b.trace f).put (bufCap f) 0 r = ((b.trace f).store 2048 r, true) := by
    rw [bufCap, if_neg hf, TraceBuf.put_of_room r hroom]
  have hnone : (b.putTrace f ((b.trace f).store 2048 r) true).trigMatch f r = false := by
    simp [trigMatch, hf, putTrace_trigMask, hmask]
  simp [writeRec, hpol, hput, hnone]

theorem traceGroup_firmware {code : Nat} (h : 0x80 ≤ code) : traceGroup code = some 6 := by
  have hle : ¬ code ≤ 4 := by omega
  have hne (n : Nat) (hn : n < 0x80 := by decide) : ¬ code = n := by omega
  simp [traceGroup, hle, h, hne 8, hne 9, hne 16, hne 17, hne 18, hne 19, hne 20, hne 32, hne 33, hne 40, hne 41, hne 42]

/-- FW_POINT of a field's processor writes one record for a code of 0x80 or above (R245). -/
theorem fwPoint_field {v : Nat} (hv : v < 2 ^ 32) (hcode : 0x80 ≤ v / 2 ^ 24) (hrun : (b.proc f).st = 0) (hon : b.bufOn f = true)
    (hgroup : (b.bufGroups f).testBit 6 = true) (hpol : b.bufPolicy f = 0) (hmask : b.rd F_TRACE.TRIG_MASK f = 0)
    (hroom : (b.trace f).recs.length < 2048) :
    b.fwPoint f now off v = b.putTrace f ((b.trace f).store 2048
      ⟨v / 2 ^ 24, now % 2 ^ 24, srcField f, off, 0, v % 2 ^ 24, b.rd F_TRACE.FW_DATA f⟩) true := by
  have hmod : v / 2 ^ 24 % 256 = v / 2 ^ 24 := Nat.mod_eq_of_lt (by omega)
  have hk : min f.val 84 = f.val := by omega
  have hlow : lowBits 32 (v % 2 ^ 24) = v % 2 ^ 24 := Nat.mod_eq_of_lt (by omega)
  have hdata : lowBits 32 (b.rd F_TRACE.FW_DATA f) = b.rd F_TRACE.FW_DATA f := Nat.mod_eq_of_lt (b.rd_lt ..)
  have hbranch : ¬((b.proc f).st ≠ 0 ∨ v / 2 ^ 24 % 256 < 0x80) := by rw [hmod]; omega
  rw [fwPoint, if_neg hbranch, hk, if_pos f.isLt, procSource, if_pos f.isLt, hmod, record, traceGroup_firmware hcode, hon, hlow, hdata]
  simp [hgroup, writeRec_field hpol hmask hroom, lowBits]

end Block

theorem Block.writeTail_of_le {b : Block} {v : Nat} (hv : v < 2 ^ 32)
    (h : (b.rd HUB_TRACE.HEAD 0 + 2 ^ 32 - v) % 2 ^ 32 ≤ b.ringRecs) : b.writeTail v = b.wr HUB_TRACE.TAIL 0 v := by
  simp only [Block.writeTail, Nat.mod_eq_of_lt hv, if_neg (Nat.not_lt.2 h)]

theorem Block.writeTail_of_lt {b : Block} {v : Nat} (hv : v < 2 ^ 32)
    (h : b.ringRecs < (b.rd HUB_TRACE.HEAD 0 + 2 ^ 32 - v) % 2 ^ 32) : b.writeTail v = b.pageErr (pageKey 0x1F 0) 4 := by
  simp only [Block.writeTail, Nat.mod_eq_of_lt hv, if_pos h]

theorem Block.fwPoint_of_lt {b : Block} {p now off v : Nat} (hv : v < 2 ^ 32) (h : v / 2 ^ 24 < 0x80) : b.fwPoint p now off v = b :=
  if_pos (.inr (by omega))

theorem Block.armProbe_keeps (b : Block) (f v : Nat) : b.Keeps [.regs, .fields] (b.armProbe f v) := by
  unfold Block.armProbe
  simp

theorem Block.armProbe_regsBut (b : Block) (f v : Nat) : RegsBut [F_EST.PROBE_SLOT.key f, F_EST.PROBE_DONE.key f] b (b.armProbe f v) := by
  have hfu : ∀ (b : Block) (g : FieldUnit → FieldUnit), b.Keeps [.fields] (b.modFu f g) := fun b g => by simp
  exact (regsBut_of_keeps (hfu ..) (by decide)).2 ((regsBut_wr (by simp) _).2 ((regsBut_wr (by simp) _).2 (.refl _ _)))

theorem exec_probeSlot (f : FieldNo) (v : Word) (s : State) :
    exec (.probeSlot f v) s = .next { s with b := s.b.armProbe f v.toNat } := rfl

theorem exec_tail (v : Word) (s : State) : exec (.tail v) s = .next { s with b := s.b.writeTail v.toNat } := rfl

theorem exec_fwPoint (p : ProcNo) (v : Word) (sc : ScOff) (s : State) :
    exec (.fwPoint p v sc) s = .next { s with b := s.b.fwPoint p s.tick sc v.toNat } := rfl

theorem exec_faultStatusW1c (v : Word) (s : State) : exec (.faultStatusW1c v) s = .next { s with b := s.b.clearStatus v.toNat } := rfl

/-- Settles O16: each register acts as it is written, and changes nothing but what it acts on. -/
theorem singleRegisterEvents : Obligations.SingleRegisterEvents := by
  refine ⟨fun f v s => ⟨_, exec_probeSlot f v s, ?_, ?_, ?_, ?_⟩, fun v s h => ⟨_, next_block (exec_tail v s) (Block.writeTail_of_le v.isLt h), ?_, ?_⟩,
    fun v s h => ⟨_, next_block (exec_tail v s) (Block.writeTail_of_lt v.isLt h), ?_, ?_, ?_⟩,
    fun p v sc s hv => next_block (exec_fwPoint p v sc s) (Block.fwPoint_of_lt v.isLt hv),
    fun p v sc s hv hrun hon hgroup hpol hmask hroom =>
      ⟨_, next_block (exec_fwPoint _ v sc s) (Block.fwPoint_field v.isLt hv hrun hon hgroup hpol hmask hroom), ?_, ?_, ?_⟩,
    fun v k s hv hep => ⟨_, exec_faultStatusW1c v s, ?_, ?_⟩⟩
  · exact Block.Keeps.withBlock_eq_graft (Block.armProbe_keeps ..)
  · exact congrArg FieldUnit.probe (Block.fu_modFu_same ..)
  · exact Block.rd_wr_same (s.b.wr F_EST.PROBE_SLOT f v.toNat) F_EST.PROBE_DONE f 0
  · exact Block.armProbe_regsBut s.b f v.toNat
  · exact ⟨rfl, (regsBut_wr (by simp) _).2 (.refl _ _)⟩
  · exact (Block.rd_wr_same ..).trans (Nat.mod_eq_of_lt v.isLt)
  · rfl
  · exact ⟨rfl, rfl⟩
  · exact congrArg Page.err (Block.page_modPage_same ..)
  · exact Block.Keeps.withBlock_eq_graft (Block.putTrace_keeps ..)
  · simp [TraceBuf.store]
  · exact fun k hk => Block.putTrace_trace_other hk ..
  · rfl
  · exact Block.flag_clearStatus k.isLt hv hep

end Sys2Proof.Machine
end

section
/-!
SUPPORT. The I3C target: common commands, addresses, in-band interrupts, reads and the window (O17, O18).
-/

namespace Sys2Proof.Machine

open Sys2Proof

/-! ### Common command codes -/

theorem Block.freshes_keeps (b : Block) (n : Nat) : b.Keeps [.free] (b.freshes n).2 := by simp

theorem Block.freshes_length (b : Block) (n : Nat) : (b.freshes n).1.length = n := by
  induction n generalizing b with
  | zero => rfl
  | succ n ih => exact congrArg (· + 1) (ih b.fresh.2)

/-- An answer whose bytes are open: that many bytes, and nothing else of the machine changes but the free values. -/
theorem Block.answerOpen_hub (b : Block) (n : Nat) :
    (b.answerOpen n).hub = { b.hub with i3cOut := (b.freshes n).1.map (lowBits 8) } := by
  rw [Block.answerOpen, Block.modHub_same, (Block.freshes_keeps b n).hub (by decide)]

theorem Block.answerOpen_keeps (b : Block) (n : Nat) : b.Keeps [.hub, .free] (b.answerOpen n) := by simp

theorem exec_openCode {c : Instr} {n : Nat} (h : (c, n) ∈ [(Instr.getpid, 6), (Instr.getbcr, 1), (Instr.getdcr, 1), (Instr.getstatus, 2)])
    (s : State) : exec c s = .next { s with b := s.b.answerOpen n } := by
  simp only [List.mem_cons, Prod.mk.injEq, List.not_mem_nil, or_false] at h
  obtain ⟨rfl, rfl⟩ | ⟨rfl, rfl⟩ | ⟨rfl, rfl⟩ | ⟨rfl, rfl⟩ := h <;> rfl

theorem exec_enec (e : Byte) (s : State) : exec (.enec e) s =
    .next { s with b := { s.b with hub := { s.b.hub with ibiOn := s.b.hub.ibiOn || e.toNat.testBit 0 } } } := by
  cases h : e.toNat.testBit 0 <;> simp [exec, execEnec, onB, h, Block.modHub]

theorem exec_disec (e : Byte) (s : State) : exec (.disec e) s =
    .next { s with b := { s.b with hub := { s.b.hub with ibiOn := s.b.hub.ibiOn && !e.toNat.testBit 0 } } } := by
  cases h : e.toNat.testBit 0 <;> simp [exec, execDisec, onB, h, Block.modHub]

theorem beBytes2_value {v : Nat} (h : v < 65536) : 256 * (v / 256 % 256) + v % 256 = v := by omega

/-- Settles O17: each code sets or reads the one part of the target that it names. -/
theorem i3cCommonCommands : Obligations.I3cCommonCommands := by
  refine ⟨fun n s => ⟨rfl, rfl⟩, fun s => ⟨_, rfl, rfl, fun h => ⟨_, _, rfl, beBytes2_value h⟩⟩,
    fun s => ⟨_, rfl, rfl, fun h => ⟨_, _, rfl, beBytes2_value h⟩⟩, fun e s => ⟨_, exec_enec e s, rfl, rfl⟩,
    fun e s => ⟨_, exec_disec e s, rfl, rfl⟩, fun s x hx => ⟨_, exec_openCode hx s, rfl, ⟨?_, ?_⟩, ?_, ?_, ?_⟩⟩
  · exact (Block.answerOpen_keeps ..).same .regs (by decide)
  · exact (Block.answerOpen_keeps ..).same .shadow (by decide)
  · simp [Block.answerOpen_hub, Block.freshes_length]
  · simp only [Block.answerOpen_hub, List.mem_map]
    rintro _ ⟨z, -, rfl⟩
    exact Nat.mod_lt _ (by decide)
  · simp [Block.answerOpen_hub]

/-! ### The window (R411) -/

namespace Block

variable {b : Block} {now sc : Nat}

theorem flds_desc (k : Fin 16) : (pageFlds 0x14).filter (fun x => x.off == 0x040 + 4 * k.val) = [HUB_CMD.DESC 1 k] := by
  revert k
  decide

theorem writeWord_desc (k : Fin 16) {v : Nat} (hv : v < 2 ^ 32) :
    b.writeWord now sc .i3c 0x14 0 (0x040 + 4 * k.val) v = b.wr (HUB_CMD.DESC 1 k) 0 v := by
  have hoff : (0x040 + 4 * k.val) ≥ 0x040 ∧ 0x040 + 4 * k.val < 0x800 := by omega
  rw [writeWord_body hoff (flds_desc k)]
  have hword : bitsOf v 0 32 = v := by simp [bitsOf]; omega
  have hother : HUB_CMD.DESC 1 k ≠ HUB_TRACE.TAIL ∧ HUB_CMD.DESC 1 k ≠ F_EST.PROBE_SLOT ∧ HUB_CMD.DESC 1 k ≠ HUB_TRACE.FW_DATA ∧
      HUB_CMD.DESC 1 k ≠ F_TRACE.FW_DATA := by
    simp [HUB_CMD.DESC, HUB_TRACE.TAIL, F_EST.PROBE_SLOT, HUB_TRACE.FW_DATA, F_TRACE.FW_DATA]
  obtain ⟨h1, h2, h3, h4⟩ := hother
  show b.writeFld now sc .i3c (HUB_CMD.DESC 1 k) 0 (bitsOf v 0 32) false = _
  rw [hword]
  show b.writeRwl .i3c (HUB_CMD.DESC 1 k) 0 v = _
  simp [writeRwl, h1, h2, h3, h4]

theorem winWrite_desc {k : Fin 16} (h : b.winOffset = 0x4040 + 4 * k.val) {v : Nat} (hv : v < 2 ^ 32) :
    b.winWrite now sc v = (b.wr (HUB_CMD.DESC 1 k) 0 v).winNext := by
  have hin : 0x4000 ≤ b.winOffset ∧ b.winOffset < 0x5000 := by omega
  have hoff : b.winOffset - 0x4000 = 0x040 + 4 * k.val := by omega
  simp only [winWrite, if_pos hin, hoff, writeWord_desc k hv]

theorem winWrite_outside (h : b.winOffset < 0x4000 ∨ 0x5000 ≤ b.winOffset) (v : Nat) :
    b.winWrite now sc v = (b.modHub (fun h => { h with winErr := true })).winNext := by
  simp only [winWrite]
  rw [if_neg (by omega)]

theorem winNext_keeps (b : Block) : b.Keeps [.hub] b.winNext := by simp

end Block

theorem exec_winData_write (v : Word) (sc : ScOff) (s : State) :
    exec (.winData (some v) sc) s = .next { s with b := s.b.winWrite s.tick sc v.toNat } := rfl

theorem exec_winData_read (sc : ScOff) (s : State) : exec (.winData none sc) s = .next { s with b := winRead sc s } := rfl

/-- A read of WIN_DATA that the fabric port would answer. -/
theorem winRead_of_ok {s : State} {sc d : Nat} {b : Block} (h : readAt s .i3c sc s.b.winOffset = (d, rfOk, b)) :
    winRead sc s = (b.modHub (fun h => { h with i3cOut := leBytes 4 d })).winNext := by
  simp [winRead, h, Block.modHub]

theorem winRead_tickLo {s : State} (sc : Nat) (h : s.b.winOffset = 0x1040) (htransit : (s.b.page (pageKey 0x11 0)).transit = []) :
    winRead sc s = ((timeLatched .i3c sc s).modHub (fun h => { h with i3cOut := leBytes 4 (s.tick % 2 ^ 32) })).winNext :=
  winRead_of_ok (by rw [h, readAt_page (cls := 0x11) (inst := 0) (o := 0x040) rfl rfl, readPage_tickLo htransit])

theorem winRead_of_unmapped {s : State} (sc : Nat) (h : target s.b.winOffset = .unmapped) :
    winRead sc s = (s.b.modHub (fun h => { h with i3cOut := [0, 0, 0, 0], winErr := true })).winNext := by
  have haligned : s.b.winOffset % 4 = 0 := by simp [Block.winOffset]
  have hread : readAt s .i3c sc s.b.winOffset = (0, rfUnmapped, s.b) := by simp [readAt, haligned, h]
  simp [winRead, hread, rfOk, rfUnmapped, leBytes, Block.modHub]

/-! ### Private reads (R410) -/

theorem takeWhile_bytes {n : Nat} (hn : n ≤ 4) :
    ((List.range 8).takeWhile (fun k => (BitVec.ofNat 8 (2 ^ n - 1)).toNat.testBit k)).length = n := by
  revert n
  decide

theorem exec_lowWordRead_i3c (a : BitVec 27) (be : Byte) (sc : ScOff) (s : State) : exec (.lowWordRead .i3c a be sc) s =
    .next { s with b := privateRead sc ((List.range 8).takeWhile (fun k => be.toNat.testBit k)).length s } := rfl

/-- A read that reaches neither WIN_DATA nor FLAGS. -/
theorem privateRead_plain {s : State} {sc n : Nat} (h : ∀ k < n, (s.b.hub.i3cIndex + k) % 256 ≠ 0x24 ∧ (s.b.hub.i3cIndex + k) % 256 ≠ 0x0C) :
    privateRead sc n s = s.b.modHub (fun h => { h with
      i3cOut := (List.range n).map (fun k => i3cAt s ((s.b.hub.i3cIndex + k) % 256)), i3cIndex := (s.b.hub.i3cIndex + n) % 256 }) := by
  have hwin : ((List.range n).map (fun k => (s.b.hub.i3cIndex + k) % 256)).contains 0x24 = false := by
    simpa using fun k hk => (h k hk).1
  have hflags : ((List.range n).map (fun k => (s.b.hub.i3cIndex + k) % 256)).contains 0x0C = false := by
    simpa using fun k hk => (h k hk).2
  simp only [privateRead, hwin, hflags]
  simp [Block.modHub]

/-- No register reaches up to WIN_DATA, and none but FLAGS itself reaches FLAGS. -/
theorem i3cRegs_range {s : State} {k : Nat} {r : List Nat} (h : (k, r) ∈ i3cRegs s) :
    r.length ≤ 4 ∧ k + r.length ≤ 0x24 ∧ (k = 0x0C ∨ k + r.length ≤ 0x0C ∨ 0x0C < k) := by
  simp only [i3cRegs, List.mem_cons, Prod.mk.injEq, List.not_mem_nil, or_false] at h
  rcases h with ⟨rfl, rfl⟩ | ⟨rfl, rfl⟩ | ⟨rfl, rfl⟩ | ⟨rfl, rfl⟩ | ⟨rfl, rfl⟩ | ⟨rfl, rfl⟩ | ⟨rfl, rfl⟩ | ⟨rfl, rfl⟩ | ⟨rfl, rfl⟩ |
    ⟨rfl, rfl⟩ | ⟨rfl, rfl⟩ | ⟨rfl, rfl⟩ | ⟨rfl, rfl⟩ | ⟨rfl, rfl⟩
  all_goals simp

/-- The registers' ranges do not meet: each byte of a listed register is that register's. -/
theorem i3cAt_listed {s : State} {k : Nat} {r : List Nat} (h : (k, r) ∈ i3cRegs s) {j : Nat} (hj : j < r.length) :
    i3cAt s (k + j) = r.getD j 0 := by
  simp only [i3cRegs, List.mem_cons, Prod.mk.injEq, List.not_mem_nil, or_false] at h
  rcases h with ⟨rfl, rfl⟩ | ⟨rfl, rfl⟩ | ⟨rfl, rfl⟩ | ⟨rfl, rfl⟩ | ⟨rfl, rfl⟩ | ⟨rfl, rfl⟩ | ⟨rfl, rfl⟩ | ⟨rfl, rfl⟩ | ⟨rfl, rfl⟩ |
    ⟨rfl, rfl⟩ | ⟨rfl, rfl⟩ | ⟨rfl, rfl⟩ | ⟨rfl, rfl⟩ | ⟨rfl, rfl⟩
  all_goals
    simp only [leBytes_length, List.length_cons, List.length_nil] at hj
    interval_cases j <;> simp [i3cAt, i3cRegs, leBytes]

theorem i3cAt_unlisted {s : State} {i : Nat} (h : 0x24 ≤ i) : i3cAt s i = 0 := by
  have hnone : (i3cRegs s).findSome? (fun r => if r.1 ≤ i ∧ i < r.1 + r.2.length then some (r.2.getD (i - r.1) 0) else none) = none := by
    refine List.findSome?_eq_none_iff.2 fun r hr => if_neg ?_
    have hrange := (i3cRegs_range hr).2.1
    omega
  rw [i3cAt, hnone]
  rfl

/-- A read of a whole register but FLAGS returns its bytes. -/
theorem privateRead_register {s : State} {sc k : Nat} {r : List Nat} (h : (k, r) ∈ i3cRegs s) (hk : k ≠ 0x0C)
    (hindex : s.b.hub.i3cIndex = k) :
    privateRead sc r.length s = { s.b with hub := { s.b.hub with i3cOut := r, i3cIndex := k + r.length } } := by
  obtain ⟨-, hend, hflags⟩ := i3cRegs_range h
  have hbytes : (List.range r.length).map (fun j => i3cAt s ((k + j) % 256)) = r := by
    refine List.ext_getElem (by simp) fun j hj hj' => ?_
    have hmod : (k + j) % 256 = k + j := Nat.mod_eq_of_lt (by omega)
    simp [hmod, i3cAt_listed h hj', List.getElem?_eq_getElem hj']
  rw [privateRead_plain (by rw [hindex]; omega), hindex, hbytes, Nat.mod_eq_of_lt (show k + r.length < 256 by omega)]
  rfl

theorem Block.takeAddr_of_none {b : Block} (h : b.hub.dynAddr = none) (a : Nat) :
    b.takeAddr a = { b with hub := { b.hub with dynAddr := some a } } := by simp [Block.takeAddr, h, Block.modHub]

theorem Block.takeAddr_of_held {b : Block} (h : b.hub.dynAddr ≠ none) (a : Nat) : b.takeAddr a = b := by
  simp [Block.takeAddr, Option.isNone_eq_false_iff.2 (Option.isSome_iff_ne_none.2 h)]

theorem exec_ibiDelivery (s : State) : exec .ibiDelivery s = .next { s with
    b := s.b.cond (s.b.hub.ibiOn && s.b.hub.ibiPending != 0)
      (fun b => { b with hub := { b.hub with i3cOut := [b.hub.ibiPending], ibiPending := 0 } }) } := rfl

/-- Settles O18: the addresses and the interrupt are the target's own, and the window is the register window of a page or none. -/
theorem i3cAddressAndInterrupts : Obligations.I3cAddressAndInterrupts := by
  refine ⟨fun a s h => ⟨?_, ?_⟩, fun a s h => ⟨?_, ?_⟩, fun s => rfl, fun s hon hpend => ?_, fun s h => ?_,
    fun s => ⟨_, rfl, rfl, ⟨rfl, rfl⟩, rfl, rfl⟩, fun a sc s k r h hk hindex => ?_, fun a sc s hlo hhi => ?_,
    fun k v sc s h => ⟨_, next_block (exec_winData_write v sc s) (Block.winWrite_desc h v.isLt), rfl, ?_, ?_, rfl, rfl⟩,
    fun v sc s h => ⟨_, next_block (exec_winData_write v sc s) (Block.winWrite_outside h _), rfl, ⟨rfl, rfl⟩, rfl, rfl⟩,
    fun sc s h htransit => ⟨_, next_block (exec_winData_read sc s) (winRead_tickLo sc h htransit), rfl, rfl, rfl, rfl⟩,
    fun sc s h => ⟨_, next_block (exec_winData_read sc s) (winRead_of_unmapped sc h), rfl, ⟨rfl, rfl⟩, rfl, rfl, rfl⟩⟩
  · simp [exec, execEntdaa, onB, Block.takeAddr_of_none h]
  · simp [exec, execSetdasa, onB, Block.takeAddr_of_none h]
  · simp [exec, execEntdaa, onB, Block.takeAddr_of_held h]
  · simp [exec, execSetdasa, onB, Block.takeAddr_of_held h]
  · exact next_block (exec_ibiDelivery s) (Block.cond_of_true (by simp [hon, hpend]) _)
  · exact next_block (exec_ibiDelivery s) (Block.cond_of_false (by rcases h with h | h <;> simp [h]) _)
  · rw [exec_lowWordRead_i3c, takeWhile_bytes (i3cRegs_range h).1, privateRead_register h hk hindex]
  · rw [exec_lowWordRead_i3c, show (0x01#8) = BitVec.ofNat 8 (2 ^ 1 - 1) from rfl, takeWhile_bytes (by decide),
      privateRead_plain (fun k hk => by omega)]
    have hmod : s.b.hub.i3cIndex % 256 = s.b.hub.i3cIndex := Nat.mod_eq_of_lt hhi
    simp [hmod, i3cAt_unlisted (Nat.le_trans (by decide) hlo), Block.modHub]
  · exact (regsBut_of_keeps (Block.winNext_keeps _) (by decide)).2 ((regsBut_wr (by simp) _).2 (.refl _ _))
  · exact ((Block.winNext_keeps _).rd (by decide) ..).trans ((Block.rd_wr_same ..).trans (Nat.mod_eq_of_lt v.isLt))

end Sys2Proof.Machine
end

section
/-!
SUPPORT. Which register fields an operation may change: the fields of the pages `P`, by the operations' rules, as `Keeps` says it of the
parts.
-/

namespace Sys2Proof.Machine

open Sys2Proof

/-- From block `a` to block `b` every register field off the pages `P` reads as before. -/
structure Block.RegsOff (P : List Nat) (a b : Block) : Prop where
  same : ∀ (y : Fld) (j : Nat), y.Fits → y.page ∉ P → b.rd y j = a.rd y j

namespace Block

variable {ks : List Nat} {P Q : List Nat} {S : List Part} {a b c : Block}

/-- Only the outermost operation matters to `simp`: it does not look into the two blocks. -/
@[congr] theorem regsOff_congr (P : List Nat) (a b : Block) : a.RegsOff P b = a.RegsOff P b := rfl

@[simp] theorem RegsOff.refl (P : List Nat) (b : Block) : b.RegsOff P b := ⟨fun _ _ _ _ => rfl⟩

theorem RegsOff.trans (h : a.RegsOff P b) (h' : b.RegsOff P c) : a.RegsOff P c :=
  ⟨fun y j hy hp => (h'.same y j hy hp).trans (h.same y j hy hp)⟩

theorem RegsOff.symm (h : a.RegsOff P b) : b.RegsOff P a := ⟨fun y j hy hp => (h.same y j hy hp).symm⟩

theorem RegsOff.mono (hQ : Q ⊆ P) (h : a.RegsOff Q b) : a.RegsOff P b :=
  ⟨fun y j hy hp => h.same y j hy fun hq => hp (hQ hq)⟩

theorem RegsOff.rd (h : a.RegsOff P b) {y : Fld} (hy : y.Fits ∧ y.page ∉ P) (j : Nat) : b.rd y j = a.rd y j := h.same y j hy.1 hy.2

theorem RegsOff.bit (h : a.RegsOff P b) {y : Fld} (hy : y.Fits ∧ y.page ∉ P) (j : Nat) : b.bit y j = a.bit y j := by
  rw [Block.bit, Block.bit, h.rd hy]

/-- Where an operation writes the pages `P` alone, the block after it has kept as much as the block before it. -/
theorem RegsOff.step (hQ : Q ⊆ P) (h : b.RegsOff Q c) : a.RegsOff P c ↔ a.RegsOff P b :=
  ⟨fun h' => h'.trans (h.mono hQ).symm, fun h' => h'.trans (h.mono hQ)⟩

theorem Keeps.regsOff (h : a.Keeps S b) (hS : .regs ∉ S) (P : List Nat) : a.RegsOff P b := ⟨fun y j _ _ => h.rd hS y j⟩

theorem regsOff_of_keeps (h : b.Keeps S c) (hS : .regs ∉ S) : a.RegsOff P c ↔ a.RegsOff P b := RegsOff.step (List.Subset.refl P) (h.regsOff hS P)

/-- A block whose registers are those of `b`. -/
theorem regsOff_iff (h : c.regs = b.regs) : a.RegsOff P c ↔ a.RegsOff P b :=
  RegsOff.step (List.Subset.refl P) ⟨fun y j _ _ => rd_congr h y j⟩

@[simp] theorem regsOff_ite {q : Prop} [Decidable q] : a.RegsOff P (if q then b else c) ↔ if q then a.RegsOff P b else a.RegsOff P c := by
  split <;> rfl

@[simp] theorem regsOff_cond {q : Bool} {g : Block → Block} (hg : ∀ b : Block, b.RegsOff P (g b)) :
    a.RegsOff P (b.cond q g) ↔ a.RegsOff P b := by
  cases q
  · rfl
  · exact RegsOff.step (List.Subset.refl P) (hg b)

@[simp] theorem regsOff_foldl {α : Type} {g : Block → α → Block} {l : List α} (hg : ∀ (b : Block) x, b.RegsOff P (g b x)) :
    a.RegsOff P (l.foldl g b) ↔ a.RegsOff P b := by
  refine RegsOff.step (List.Subset.refl P) ?_
  induction l generalizing b with
  | nil => exact .refl P b
  | cons x l ih => exact (hg b x).trans ih

@[simp] theorem regsOff_each {α : Type} {g : Block → α → Block} {l : List α} (hg : ∀ (b : Block) x, b.RegsOff P (g b x)) :
    a.RegsOff P (b.each l g) ↔ a.RegsOff P b := regsOff_foldl hg

/-! ### Writes of a field change the registers alone -/

section Writes

variable (b : Block) (x : Fld) (i : Nat)

theorem wr_keeps (v : Nat) : b.Keeps [.regs] (b.wr x i v) := by simp
theorem wrB_keeps (v : Bool) : b.Keeps [.regs] (b.wrB x i v) := by simp
theorem wrZ_keeps (v : Int) : b.Keeps [.regs] (b.wrZ x i v) := by simp
theorem add_keeps (n : Nat) : b.Keeps [.regs] (b.add x i n) := by simp
theorem inc_keeps : b.Keeps [.regs] (b.inc x i) := by simp
theorem addSat_keeps (n : Nat) : b.Keeps [.regs] (b.addSat x i n) := by simp
theorem setFlag_keeps (k : Nat) (v : Bool) : b.Keeps [.regs] (b.setFlag x i k v) := by simp
theorem raise_keeps (v : Nat) : b.Keeps [.regs] (b.raise x i v) := by simp

end Writes

/-! ### Changes of one record change its part alone -/

section Mods

variable (b : Block) (k : Nat)

theorem modAgent_keeps (g : Agent → Agent) : b.Keeps [.agents] (b.modAgent k g) := by simp
theorem modParcel_keeps (g : Parcel → Parcel) : b.Keeps [.parcels] (b.modParcel k g) := by simp
theorem modCadE_keeps (g : Cad → Cad) : b.Keeps [.cad] (b.modCadE k g) := by simp
theorem modSensor_keeps (g : Sensor → Sensor) : b.Keeps [.sensors] (b.modSensor k g) := by simp
theorem modSlot_keeps (g : Slot → Slot) : b.Keeps [.slots] (b.modSlot k g) := by simp
theorem modCtx_keeps (g : Ctx → Ctx) : b.Keeps [.ctxs] (b.modCtx k g) := by simp
theorem modAcct_keeps (g : Account → Account) : b.Keeps [.accounts] (b.modAcct k g) := by simp
theorem modColl_keeps (g : Coll → Coll) : b.Keeps [.colls] (b.modColl k g) := by simp
theorem modModel_keeps (g : Model → Model) : b.Keeps [.models] (b.modModel k g) := by simp
theorem modFu_keeps (g : FieldUnit → FieldUnit) : b.Keeps [.fields] (b.modFu k g) := by simp
theorem modRing_keeps (g : Ring → Ring) : b.Keeps [.rings] (b.modRing k g) := by simp
theorem modRail_keeps (g : RailSt → RailSt) : b.Keeps [.rails] (b.modRail k g) := by simp
theorem modPhase_keeps (g : PhaseSt → PhaseSt) : b.Keeps [.phases] (b.modPhase k g) := by simp
theorem modPort_keeps (g : PortSt → PortSt) : b.Keeps [.ports] (b.modPort k g) := by simp
theorem modTrace_keeps (g : TraceBuf → TraceBuf) : b.Keeps [.traces] (b.modTrace k g) := by simp
theorem modTie_keeps (g : Tie → Tie) : b.Keeps [.ties] (b.modTie k g) := by simp
theorem modProc_keeps (g : Proc → Proc) : b.Keeps [.procs] (b.modProc k g) := by simp
theorem modMemSt_keeps (g : MemSt → MemSt) : b.Keeps [.mems] (b.modMemSt k g) := by simp
theorem modPage_keeps (g : Page → Page) : b.Keeps [.pages] (b.modPage k g) := by simp

theorem modHub_keeps (g : Hub → Hub) : b.Keeps [.hub] (b.modHub g) := by simp
theorem modMon_keeps (g : Monument → Monument) : b.Keeps [.mon] (b.modMon g) := by simp
theorem modNv_keeps (g : Nonvol → Nonvol) : b.Keeps [.nv] (b.modNv g) := by simp
theorem modPins_keeps (g : Pins → Pins) : b.Keeps [.pins] (b.modPins g) := by simp

end Mods

theorem fault_keeps (b : Block) (src field detail off : Nat) : b.Keeps [.fields, .faults] (b.fault src field detail off) := by simp

/-! ### Writes of a field of the pages `P` -/

section Write

variable {x : Fld} (hx : x.Fits ∧ x.page ∈ P)
include hx

@[simp] theorem regsOff_wr (i v : Nat) : a.RegsOff P (b.wr x i v) ↔ a.RegsOff P b := by
  refine RegsOff.step (List.Subset.refl P) ⟨fun y j hy hp => rd_wr_otherPage b v hx.1 ?_⟩
  rw [Fld.page_of_key hy]
  exact fun h => hp (h ▸ hx.2)

@[simp] theorem regsOff_wrB (i : Nat) (v : Bool) : a.RegsOff P (b.wrB x i v) ↔ a.RegsOff P b := regsOff_wr hx ..
@[simp] theorem regsOff_wrZ (i : Nat) (v : Int) : a.RegsOff P (b.wrZ x i v) ↔ a.RegsOff P b := regsOff_wr hx ..
@[simp] theorem regsOff_add (i n : Nat) : a.RegsOff P (b.add x i n) ↔ a.RegsOff P b := regsOff_wr hx ..
@[simp] theorem regsOff_inc (i : Nat) : a.RegsOff P (b.inc x i) ↔ a.RegsOff P b := regsOff_wr hx ..
@[simp] theorem regsOff_addSat (i n : Nat) : a.RegsOff P (b.addSat x i n) ↔ a.RegsOff P b := regsOff_wr hx ..
@[simp] theorem regsOff_setFlag (i k : Nat) (v : Bool) : a.RegsOff P (b.setFlag x i k v) ↔ a.RegsOff P b := regsOff_wr hx ..
@[simp] theorem regsOff_raise (i v : Nat) : a.RegsOff P (b.raise x i v) ↔ a.RegsOff P b := by
  unfold raise
  split
  · exact regsOff_wr hx ..
  · rfl

end Write

@[simp] theorem regsOff_wr2 {lo hi : Fld} (hlo : lo.Fits ∧ lo.page ∈ P) (hhi : hi.Fits ∧ hi.page ∈ P) (i v : Nat) :
    a.RegsOff P (b.wr2 lo hi i v) ↔ a.RegsOff P b := (regsOff_wr hhi ..).trans (regsOff_wr hlo ..)

@[simp] theorem regsOff_add2 {lo hi : Fld} (hlo : lo.Fits ∧ lo.page ∈ P) (hhi : hi.Fits ∧ hi.page ∈ P) (i v : Nat) :
    a.RegsOff P (b.add2 lo hi i v) ↔ a.RegsOff P b := regsOff_wr2 hlo hhi ..

/-! ### Operations on the records, which write no register -/

section Records

variable (k : Nat)

@[simp] theorem regsOff_setAgent (v : Agent) : a.RegsOff P (b.setAgent k v) ↔ a.RegsOff P b := regsOff_iff rfl
@[simp] theorem regsOff_modAgent (g : Agent → Agent) : a.RegsOff P (b.modAgent k g) ↔ a.RegsOff P b := regsOff_iff rfl
@[simp] theorem regsOff_setParcel (v : Parcel) : a.RegsOff P (b.setParcel k v) ↔ a.RegsOff P b := regsOff_iff rfl
@[simp] theorem regsOff_modParcel (g : Parcel → Parcel) : a.RegsOff P (b.modParcel k g) ↔ a.RegsOff P b := regsOff_iff rfl
@[simp] theorem regsOff_setCadE (v : Cad) : a.RegsOff P (b.setCadE k v) ↔ a.RegsOff P b := regsOff_iff rfl
@[simp] theorem regsOff_modCadE (g : Cad → Cad) : a.RegsOff P (b.modCadE k g) ↔ a.RegsOff P b := regsOff_iff rfl
@[simp] theorem regsOff_setSensor (v : Sensor) : a.RegsOff P (b.setSensor k v) ↔ a.RegsOff P b := regsOff_iff rfl
@[simp] theorem regsOff_modSensor (g : Sensor → Sensor) : a.RegsOff P (b.modSensor k g) ↔ a.RegsOff P b := regsOff_iff rfl
@[simp] theorem regsOff_setSlot (v : Slot) : a.RegsOff P (b.setSlot k v) ↔ a.RegsOff P b := regsOff_iff rfl
@[simp] theorem regsOff_modSlot (g : Slot → Slot) : a.RegsOff P (b.modSlot k g) ↔ a.RegsOff P b := regsOff_iff rfl
@[simp] theorem regsOff_setCtx (v : Ctx) : a.RegsOff P (b.setCtx k v) ↔ a.RegsOff P b := regsOff_iff rfl
@[simp] theorem regsOff_modCtx (g : Ctx → Ctx) : a.RegsOff P (b.modCtx k g) ↔ a.RegsOff P b := regsOff_iff rfl
@[simp] theorem regsOff_setAcct (v : Account) : a.RegsOff P (b.setAcct k v) ↔ a.RegsOff P b := regsOff_iff rfl
@[simp] theorem regsOff_modAcct (g : Account → Account) : a.RegsOff P (b.modAcct k g) ↔ a.RegsOff P b := regsOff_iff rfl
@[simp] theorem regsOff_setColl (v : Coll) : a.RegsOff P (b.setColl k v) ↔ a.RegsOff P b := regsOff_iff rfl
@[simp] theorem regsOff_modColl (g : Coll → Coll) : a.RegsOff P (b.modColl k g) ↔ a.RegsOff P b := regsOff_iff rfl
@[simp] theorem regsOff_setModel (v : Model) : a.RegsOff P (b.setModel k v) ↔ a.RegsOff P b := regsOff_iff rfl
@[simp] theorem regsOff_modModel (g : Model → Model) : a.RegsOff P (b.modModel k g) ↔ a.RegsOff P b := regsOff_iff rfl
@[simp] theorem regsOff_setFu (v : FieldUnit) : a.RegsOff P (b.setFu k v) ↔ a.RegsOff P b := regsOff_iff rfl
@[simp] theorem regsOff_modFu (g : FieldUnit → FieldUnit) : a.RegsOff P (b.modFu k g) ↔ a.RegsOff P b := regsOff_iff rfl
@[simp] theorem regsOff_setRing (v : Ring) : a.RegsOff P (b.setRing k v) ↔ a.RegsOff P b := regsOff_iff rfl
@[simp] theorem regsOff_modRing (g : Ring → Ring) : a.RegsOff P (b.modRing k g) ↔ a.RegsOff P b := regsOff_iff rfl
@[simp] theorem regsOff_setRail (v : RailSt) : a.RegsOff P (b.setRail k v) ↔ a.RegsOff P b := regsOff_iff rfl
@[simp] theorem regsOff_modRail (g : RailSt → RailSt) : a.RegsOff P (b.modRail k g) ↔ a.RegsOff P b := regsOff_iff rfl
@[simp] theorem regsOff_setPhase (v : PhaseSt) : a.RegsOff P (b.setPhase k v) ↔ a.RegsOff P b := regsOff_iff rfl
@[simp] theorem regsOff_modPhase (g : PhaseSt → PhaseSt) : a.RegsOff P (b.modPhase k g) ↔ a.RegsOff P b := regsOff_iff rfl
@[simp] theorem regsOff_setPort (v : PortSt) : a.RegsOff P (b.setPort k v) ↔ a.RegsOff P b := regsOff_iff rfl
@[simp] theorem regsOff_modPort (g : PortSt → PortSt) : a.RegsOff P (b.modPort k g) ↔ a.RegsOff P b := regsOff_iff rfl
@[simp] theorem regsOff_setTrace (v : TraceBuf) : a.RegsOff P (b.setTrace k v) ↔ a.RegsOff P b := regsOff_iff rfl
@[simp] theorem regsOff_modTrace (g : TraceBuf → TraceBuf) : a.RegsOff P (b.modTrace k g) ↔ a.RegsOff P b := regsOff_iff rfl
@[simp] theorem regsOff_setTie (v : Tie) : a.RegsOff P (b.setTie k v) ↔ a.RegsOff P b := regsOff_iff rfl
@[simp] theorem regsOff_modTie (g : Tie → Tie) : a.RegsOff P (b.modTie k g) ↔ a.RegsOff P b := regsOff_iff rfl
@[simp] theorem regsOff_setProc (v : Proc) : a.RegsOff P (b.setProc k v) ↔ a.RegsOff P b := regsOff_iff rfl
@[simp] theorem regsOff_modProc (g : Proc → Proc) : a.RegsOff P (b.modProc k g) ↔ a.RegsOff P b := regsOff_iff rfl
@[simp] theorem regsOff_setMemSt (v : MemSt) : a.RegsOff P (b.setMemSt k v) ↔ a.RegsOff P b := regsOff_iff rfl
@[simp] theorem regsOff_modMemSt (g : MemSt → MemSt) : a.RegsOff P (b.modMemSt k g) ↔ a.RegsOff P b := regsOff_iff rfl
@[simp] theorem regsOff_setPage (v : Page) : a.RegsOff P (b.setPage k v) ↔ a.RegsOff P b := regsOff_iff rfl
@[simp] theorem regsOff_modPage (g : Page → Page) : a.RegsOff P (b.modPage k g) ↔ a.RegsOff P b := regsOff_iff rfl

end Records

/-! ### The same of a list of keys, and of one field -/

section Records

variable (k : Nat)

@[simp] theorem regsBut_setAgent (v : Agent) : RegsBut ks a (b.setAgent k v) ↔ RegsBut ks a b := .rfl
@[simp] theorem regsBut_modAgent (g : Agent → Agent) : RegsBut ks a (b.modAgent k g) ↔ RegsBut ks a b := .rfl
@[simp] theorem regsBut_setParcel (v : Parcel) : RegsBut ks a (b.setParcel k v) ↔ RegsBut ks a b := .rfl
@[simp] theorem regsBut_modParcel (g : Parcel → Parcel) : RegsBut ks a (b.modParcel k g) ↔ RegsBut ks a b := .rfl
@[simp] theorem regsBut_setCadE (v : Cad) : RegsBut ks a (b.setCadE k v) ↔ RegsBut ks a b := .rfl
@[simp] theorem regsBut_modCadE (g : Cad → Cad) : RegsBut ks a (b.modCadE k g) ↔ RegsBut ks a b := .rfl
@[simp] theorem regsBut_setSensor (v : Sensor) : RegsBut ks a (b.setSensor k v) ↔ RegsBut ks a b := .rfl
@[simp] theorem regsBut_modSensor (g : Sensor → Sensor) : RegsBut ks a (b.modSensor k g) ↔ RegsBut ks a b := .rfl
@[simp] theorem regsBut_setSlot (v : Slot) : RegsBut ks a (b.setSlot k v) ↔ RegsBut ks a b := .rfl
@[simp] theorem regsBut_modSlot (g : Slot → Slot) : RegsBut ks a (b.modSlot k g) ↔ RegsBut ks a b := .rfl
@[simp] theorem regsBut_setCtx (v : Ctx) : RegsBut ks a (b.setCtx k v) ↔ RegsBut ks a b := .rfl
@[simp] theorem regsBut_modCtx (g : Ctx → Ctx) : RegsBut ks a (b.modCtx k g) ↔ RegsBut ks a b := .rfl
@[simp] theorem regsBut_setAcct (v : Account) : RegsBut ks a (b.setAcct k v) ↔ RegsBut ks a b := .rfl
@[simp] theorem regsBut_modAcct (g : Account → Account) : RegsBut ks a (b.modAcct k g) ↔ RegsBut ks a b := .rfl
@[simp] theorem regsBut_setColl (v : Coll) : RegsBut ks a (b.setColl k v) ↔ RegsBut ks a b := .rfl
@[simp] theorem regsBut_modColl (g : Coll → Coll) : RegsBut ks a (b.modColl k g) ↔ RegsBut ks a b := .rfl
@[simp] theorem regsBut_setModel (v : Model) : RegsBut ks a (b.setModel k v) ↔ RegsBut ks a b := .rfl
@[simp] theorem regsBut_modModel (g : Model → Model) : RegsBut ks a (b.modModel k g) ↔ RegsBut ks a b := .rfl
@[simp] theorem regsBut_setFu (v : FieldUnit) : RegsBut ks a (b.setFu k v) ↔ RegsBut ks a b := .rfl
@[simp] theorem regsBut_modFu (g : FieldUnit → FieldUnit) : RegsBut ks a (b.modFu k g) ↔ RegsBut ks a b := .rfl
@[simp] theorem regsBut_setRing (v : Ring) : RegsBut ks a (b.setRing k v) ↔ RegsBut ks a b := .rfl
@[simp] theorem regsBut_modRing (g : Ring → Ring) : RegsBut ks a (b.modRing k g) ↔ RegsBut ks a b := .rfl
@[simp] theorem regsBut_setRail (v : RailSt) : RegsBut ks a (b.setRail k v) ↔ RegsBut ks a b := .rfl
@[simp] theorem regsBut_modRail (g : RailSt → RailSt) : RegsBut ks a (b.modRail k g) ↔ RegsBut ks a b := .rfl
@[simp] theorem regsBut_setPhase (v : PhaseSt) : RegsBut ks a (b.setPhase k v) ↔ RegsBut ks a b := .rfl
@[simp] theorem regsBut_modPhase (g : PhaseSt → PhaseSt) : RegsBut ks a (b.modPhase k g) ↔ RegsBut ks a b := .rfl
@[simp] theorem regsBut_setPort (v : PortSt) : RegsBut ks a (b.setPort k v) ↔ RegsBut ks a b := .rfl
@[simp] theorem regsBut_modPort (g : PortSt → PortSt) : RegsBut ks a (b.modPort k g) ↔ RegsBut ks a b := .rfl
@[simp] theorem regsBut_setTrace (v : TraceBuf) : RegsBut ks a (b.setTrace k v) ↔ RegsBut ks a b := .rfl
@[simp] theorem regsBut_modTrace (g : TraceBuf → TraceBuf) : RegsBut ks a (b.modTrace k g) ↔ RegsBut ks a b := .rfl
@[simp] theorem regsBut_setTie (v : Tie) : RegsBut ks a (b.setTie k v) ↔ RegsBut ks a b := .rfl
@[simp] theorem regsBut_modTie (g : Tie → Tie) : RegsBut ks a (b.modTie k g) ↔ RegsBut ks a b := .rfl
@[simp] theorem regsBut_setProc (v : Proc) : RegsBut ks a (b.setProc k v) ↔ RegsBut ks a b := .rfl
@[simp] theorem regsBut_modProc (g : Proc → Proc) : RegsBut ks a (b.modProc k g) ↔ RegsBut ks a b := .rfl
@[simp] theorem regsBut_setMemSt (v : MemSt) : RegsBut ks a (b.setMemSt k v) ↔ RegsBut ks a b := .rfl
@[simp] theorem regsBut_modMemSt (g : MemSt → MemSt) : RegsBut ks a (b.modMemSt k g) ↔ RegsBut ks a b := .rfl
@[simp] theorem regsBut_setPage (v : Page) : RegsBut ks a (b.setPage k v) ↔ RegsBut ks a b := .rfl
@[simp] theorem regsBut_modPage (g : Page → Page) : RegsBut ks a (b.modPage k g) ↔ RegsBut ks a b := .rfl
@[simp] theorem rd_setAgent (v : Agent) (x : Fld) (i : Nat) : (b.setAgent k v).rd x i = b.rd x i := rfl
@[simp] theorem rd_modAgent (g : Agent → Agent) (x : Fld) (i : Nat) : (b.modAgent k g).rd x i = b.rd x i := rfl
@[simp] theorem rd_setParcel (v : Parcel) (x : Fld) (i : Nat) : (b.setParcel k v).rd x i = b.rd x i := rfl
@[simp] theorem rd_modParcel (g : Parcel → Parcel) (x : Fld) (i : Nat) : (b.modParcel k g).rd x i = b.rd x i := rfl
@[simp] theorem rd_setCadE (v : Cad) (x : Fld) (i : Nat) : (b.setCadE k v).rd x i = b.rd x i := rfl
@[simp] theorem rd_modCadE (g : Cad → Cad) (x : Fld) (i : Nat) : (b.modCadE k g).rd x i = b.rd x i := rfl
@[simp] theorem rd_setSensor (v : Sensor) (x : Fld) (i : Nat) : (b.setSensor k v).rd x i = b.rd x i := rfl
@[simp] theorem rd_modSensor (g : Sensor → Sensor) (x : Fld) (i : Nat) : (b.modSensor k g).rd x i = b.rd x i := rfl
@[simp] theorem rd_setSlot (v : Slot) (x : Fld) (i : Nat) : (b.setSlot k v).rd x i = b.rd x i := rfl
@[simp] theorem rd_modSlot (g : Slot → Slot) (x : Fld) (i : Nat) : (b.modSlot k g).rd x i = b.rd x i := rfl
@[simp] theorem rd_setCtx (v : Ctx) (x : Fld) (i : Nat) : (b.setCtx k v).rd x i = b.rd x i := rfl
@[simp] theorem rd_modCtx (g : Ctx → Ctx) (x : Fld) (i : Nat) : (b.modCtx k g).rd x i = b.rd x i := rfl
@[simp] theorem rd_setAcct (v : Account) (x : Fld) (i : Nat) : (b.setAcct k v).rd x i = b.rd x i := rfl
@[simp] theorem rd_modAcct (g : Account → Account) (x : Fld) (i : Nat) : (b.modAcct k g).rd x i = b.rd x i := rfl
@[simp] theorem rd_setColl (v : Coll) (x : Fld) (i : Nat) : (b.setColl k v).rd x i = b.rd x i := rfl
@[simp] theorem rd_modColl (g : Coll → Coll) (x : Fld) (i : Nat) : (b.modColl k g).rd x i = b.rd x i := rfl
@[simp] theorem rd_setModel (v : Model) (x : Fld) (i : Nat) : (b.setModel k v).rd x i = b.rd x i := rfl
@[simp] theorem rd_modModel (g : Model → Model) (x : Fld) (i : Nat) : (b.modModel k g).rd x i = b.rd x i := rfl
@[simp] theorem rd_setFu (v : FieldUnit) (x : Fld) (i : Nat) : (b.setFu k v).rd x i = b.rd x i := rfl
@[simp] theorem rd_modFu (g : FieldUnit → FieldUnit) (x : Fld) (i : Nat) : (b.modFu k g).rd x i = b.rd x i := rfl
@[simp] theorem rd_setRing (v : Ring) (x : Fld) (i : Nat) : (b.setRing k v).rd x i = b.rd x i := rfl
@[simp] theorem rd_modRing (g : Ring → Ring) (x : Fld) (i : Nat) : (b.modRing k g).rd x i = b.rd x i := rfl
@[simp] theorem rd_setRail (v : RailSt) (x : Fld) (i : Nat) : (b.setRail k v).rd x i = b.rd x i := rfl
@[simp] theorem rd_modRail (g : RailSt → RailSt) (x : Fld) (i : Nat) : (b.modRail k g).rd x i = b.rd x i := rfl
@[simp] theorem rd_setPhase (v : PhaseSt) (x : Fld) (i : Nat) : (b.setPhase k v).rd x i = b.rd x i := rfl
@[simp] theorem rd_modPhase (g : PhaseSt → PhaseSt) (x : Fld) (i : Nat) : (b.modPhase k g).rd x i = b.rd x i := rfl
@[simp] theorem rd_setPort (v : PortSt) (x : Fld) (i : Nat) : (b.setPort k v).rd x i = b.rd x i := rfl
@[simp] theorem rd_modPort (g : PortSt → PortSt) (x : Fld) (i : Nat) : (b.modPort k g).rd x i = b.rd x i := rfl
@[simp] theorem rd_setTrace (v : TraceBuf) (x : Fld) (i : Nat) : (b.setTrace k v).rd x i = b.rd x i := rfl
@[simp] theorem rd_modTrace (g : TraceBuf → TraceBuf) (x : Fld) (i : Nat) : (b.modTrace k g).rd x i = b.rd x i := rfl
@[simp] theorem rd_setTie (v : Tie) (x : Fld) (i : Nat) : (b.setTie k v).rd x i = b.rd x i := rfl
@[simp] theorem rd_modTie (g : Tie → Tie) (x : Fld) (i : Nat) : (b.modTie k g).rd x i = b.rd x i := rfl
@[simp] theorem rd_setProc (v : Proc) (x : Fld) (i : Nat) : (b.setProc k v).rd x i = b.rd x i := rfl
@[simp] theorem rd_modProc (g : Proc → Proc) (x : Fld) (i : Nat) : (b.modProc k g).rd x i = b.rd x i := rfl
@[simp] theorem rd_setMemSt (v : MemSt) (x : Fld) (i : Nat) : (b.setMemSt k v).rd x i = b.rd x i := rfl
@[simp] theorem rd_modMemSt (g : MemSt → MemSt) (x : Fld) (i : Nat) : (b.modMemSt k g).rd x i = b.rd x i := rfl
@[simp] theorem rd_setPage (v : Page) (x : Fld) (i : Nat) : (b.setPage k v).rd x i = b.rd x i := rfl
@[simp] theorem rd_modPage (g : Page → Page) (x : Fld) (i : Nat) : (b.modPage k g).rd x i = b.rd x i := rfl

end Records

@[simp] theorem regsBut_modHub (g : Hub → Hub) : RegsBut ks a (b.modHub g) ↔ RegsBut ks a b := .rfl
@[simp] theorem regsBut_modMon (g : Monument → Monument) : RegsBut ks a (b.modMon g) ↔ RegsBut ks a b := .rfl
@[simp] theorem regsBut_modNv (g : Nonvol → Nonvol) : RegsBut ks a (b.modNv g) ↔ RegsBut ks a b := .rfl
@[simp] theorem regsBut_modPins (g : Pins → Pins) : RegsBut ks a (b.modPins g) ↔ RegsBut ks a b := .rfl
@[simp] theorem rd_modHub (g : Hub → Hub) (x : Fld) (i : Nat) : (b.modHub g).rd x i = b.rd x i := rfl
@[simp] theorem rd_modMon (g : Monument → Monument) (x : Fld) (i : Nat) : (b.modMon g).rd x i = b.rd x i := rfl
@[simp] theorem rd_modNv (g : Nonvol → Nonvol) (x : Fld) (i : Nat) : (b.modNv g).rd x i = b.rd x i := rfl
@[simp] theorem rd_modPins (g : Pins → Pins) (x : Fld) (i : Nat) : (b.modPins g).rd x i = b.rd x i := rfl

@[simp] theorem rd_fault (src field detail off : Nat) (x : Fld) (i : Nat) : (b.fault src field detail off).rd x i = b.rd x i :=
  (fault_keeps ..).rd (by decide) x i

@[simp] theorem regsBut_fault (src field detail off : Nat) : RegsBut ks a (b.fault src field detail off) ↔ RegsBut ks a b :=
  regsBut_of_keeps (fault_keeps ..) (by decide)

section Write

variable {x : Fld} {i : Nat} (hk : x.key i ∈ ks)
include hk

theorem regsBut_wrB (v : Bool) : RegsBut ks a (b.wrB x i v) ↔ RegsBut ks a b := regsBut_wr hk _
theorem regsBut_wrZ (v : Int) : RegsBut ks a (b.wrZ x i v) ↔ RegsBut ks a b := regsBut_wr hk _
theorem regsBut_add (n : Nat) : RegsBut ks a (b.add x i n) ↔ RegsBut ks a b := regsBut_wr hk _
theorem regsBut_inc : RegsBut ks a (b.inc x i) ↔ RegsBut ks a b := regsBut_wr hk _
theorem regsBut_addSat (n : Nat) : RegsBut ks a (b.addSat x i n) ↔ RegsBut ks a b := regsBut_wr hk _
theorem regsBut_setFlag (k : Nat) (v : Bool) : RegsBut ks a (b.setFlag x i k v) ↔ RegsBut ks a b := regsBut_wr hk _

end Write

@[simp] theorem faults_fault (b : Block) (src field detail off : Nat) : (b.fault src field detail off).faults =
    b.faults ++ [{ src := src, field := field, detail := lowBits 16 detail, off := off }] := by
  simp only [fault]
  split <;> rfl

@[simp] theorem bit_wrB_same (b : Block) {x : Fld} (hx : x.width = 1) (i : Nat) (v : Bool) : (b.wrB x i v).bit x i = v := by
  rw [bit, wrB, rd_wr_same, hx]
  cases v <;> rfl

theorem bit_wr_apart {x y : Fld} (h : x.apart y = true) (b : Block) (i j v : Nat) : (b.wr x i v).bit y j = b.bit y j := by
  rw [bit, bit, rd_wr_apart h]

theorem bit_wrB_apart {x y : Fld} (h : x.apart y = true) (b : Block) (i j : Nat) (v : Bool) : (b.wrB x i v).bit y j = b.bit y j :=
  bit_wr_apart h ..

theorem bit_inc_apart {x y : Fld} (h : x.apart y = true) (b : Block) (i j : Nat) : (b.inc x i).bit y j = b.bit y j := bit_wr_apart h ..

@[simp] theorem regsOff_modHub (g : Hub → Hub) : a.RegsOff P (b.modHub g) ↔ a.RegsOff P b := regsOff_iff rfl
@[simp] theorem regsOff_modMon (g : Monument → Monument) : a.RegsOff P (b.modMon g) ↔ a.RegsOff P b := regsOff_iff rfl
@[simp] theorem regsOff_modNv (g : Nonvol → Nonvol) : a.RegsOff P (b.modNv g) ↔ a.RegsOff P b := regsOff_iff rfl
@[simp] theorem regsOff_modPins (g : Pins → Pins) : a.RegsOff P (b.modPins g) ↔ a.RegsOff P b := regsOff_iff rfl

@[simp] theorem regsOff_fault (src field detail off : Nat) : a.RegsOff P (b.fault src field detail off) ↔ a.RegsOff P b :=
  regsOff_of_keeps (S := [.fields, .faults]) (by simp) (by decide)

/-! ### Trace records write the trace's pages -/

@[simp] theorem regsOff_putTrace (hP : [0x1F, 0x4B] ⊆ P) (k : Nat) (t : TraceBuf) (w : Bool) :
    a.RegsOff P (b.putTrace k t w) ↔ a.RegsOff P b := by
  refine RegsOff.step hP ?_
  unfold putTrace
  split <;> simp (disch := decide)

@[simp] theorem regsOff_triggerOn (hP : [0x1F, 0x4B] ⊆ P) (now off k kind code parcel first : Nat) :
    a.RegsOff P (b.triggerOn now off k kind code parcel first) ↔ a.RegsOff P b := by
  refine RegsOff.step hP ?_
  unfold triggerOn
  simp (disch := decide)

@[simp] theorem regsOff_writeRec (hP : [0x1F, 0x4B] ⊆ P) (now off k : Nat) (r : TraceRec) :
    a.RegsOff P (b.writeRec now off k r) ↔ a.RegsOff P b := by
  refine RegsOff.step hP ?_
  unfold writeRec
  simp (disch := decide)

@[simp] theorem regsOff_record (hP : [0x1F, 0x4B] ⊆ P) (k now off code parcel aux dataA dataB : Nat) :
    a.RegsOff P (b.record k now off code parcel aux dataA dataB) ↔ a.RegsOff P b := by
  refine RegsOff.step hP ?_
  unfold record
  simp (disch := decide)

end Block

end Sys2Proof.Machine
end

section
/-!
SUPPORT. The parcel agents: droop clamps, droop words, idling, the climb, the allowance word and the ramp mark (O20, O21, O22).
-/

namespace Sys2Proof.Machine

open Sys2Proof

/-! ### What running the gates leaves of an agent -/

namespace Agent

variable (a : Agent) (q ec : Nat)

/-- The gates' accumulators apart, running them changes nothing. -/
theorem runGates_eq : ∃ acc gates gateEc, a.runGates q ec = { a with acc := acc, gates := gates, gateEc := gateEc } := by
  unfold runGates
  split
  · exact ⟨a.acc, a.gates, a.gateEc, rfl⟩
  · exact ⟨_, _, _, rfl⟩

@[simp] theorem runGates_qDroop : (a.runGates q ec).qDroop = a.qDroop := by obtain ⟨_, _, _, h⟩ := a.runGates_eq q ec; rw [h]
@[simp] theorem runGates_qRamp : (a.runGates q ec).qRamp = a.qRamp := by obtain ⟨_, _, _, h⟩ := a.runGates_eq q ec; rw [h]
@[simp] theorem runGates_qTarget : (a.runGates q ec).qTarget = a.qTarget := by obtain ⟨_, _, _, h⟩ := a.runGates_eq q ec; rw [h]
@[simp] theorem runGates_loads : (a.runGates q ec).loads = a.loads := by obtain ⟨_, _, _, h⟩ := a.runGates_eq q ec; rw [h]
@[simp] theorem runGates_shape : (a.runGates q ec).shape = a.shape := by
  obtain ⟨_, _, _, h⟩ := a.runGates_eq q ec
  rw [h]
  rfl

end Agent

namespace Block

variable {b : Block} {f s k now ec : Nat}

/-- The gates run with the clock, and the agent's rates stand. -/
theorem gatesTo_cases (b : Block) (f s ec : Nat) : b.gatesTo f s ec = b ∨
    b.gatesTo f s ec = b.modAgent (pid f s) (fun a => a.runGates (b.applied f s) ec) := by
  unfold gatesTo
  cases b.hub.clockOn
  · exact .inl rfl
  · exact .inr rfl

theorem gatesTo_agent_other (h : k ≠ pid f s) (b : Block) (ec : Nat) : (b.gatesTo f s ec).agent k = b.agent k := by
  rcases gatesTo_cases b f s ec with hg | hg <;> rw [hg]
  exact agent_modAgent_other _ _ h

theorem gatesTo_otherRate (b : Block) (f s ec : Nat) : (b.gatesTo f s ec).otherRate f s = b.otherRate f s := by
  rcases gatesTo_cases b f s ec with h | h <;> rw [h]
  simp only [otherRate, agent_modAgent_same, Agent.runGates_qRamp, Agent.runGates_shape]
  rfl

theorem gatesTo_droopAt (b : Block) (f s ec now n e : Nat) :
    ((b.gatesTo f s ec).agent (pid f s)).droopAt now n e = (b.agent (pid f s)).droopAt now n e := by
  rcases gatesTo_cases b f s ec with h | h <;> rw [h]
  simp [Agent.droopAt]

theorem gatesTo_fu (b : Block) (f s ec k : Nat) : (b.gatesTo f s ec).fu k = b.fu k :=
  (show b.Keeps [.agents] (b.gatesTo f s ec) by simp).fu (by decide) k

theorem gatesTo_qDroop (b : Block) (f s ec : Nat) : ((b.gatesTo f s ec).agent (pid f s)).qDroop = (b.agent (pid f s)).qDroop := by
  rcases gatesTo_cases b f s ec with h | h <;> simp [h]

theorem gatesTo_qRamp (b : Block) (f s ec : Nat) : ((b.gatesTo f s ec).agent (pid f s)).qRamp = (b.agent (pid f s)).qRamp := by
  rcases gatesTo_cases b f s ec with h | h <;> simp [h]

end Block

/-! ### The clamps (R103 to R105) -/

/-- An agent clamped at a margin below its limit: the rate `app` that its gates apply and the word of the event. -/
def Agent.clamped (a : Agent) (now n app ec margin : Nat) (t2 second : Bool) : Agent :=
  let q := if t2 then 1 else min a.qDroop (max 1 (app / 2))
  { a with
    loads := a.loads.filter (loadAhead now n ec) ++ [(now, ec + (if t2 then 4 else 6), a.qDroop)]
    qDroop := q, clamp := if t2 then 2 else max 1 a.clamp, releasing := false
    droopReason := if t2 ∨ a.clamp = 2 then 9 else max 8 a.droopReason
    marginMin := min a.marginMin margin
    words := queueWord a.words
      { t2 := t2, ec := ec, second := second, margin := margin, qSet := q, qApp := app, repeats := 0, tick := now } }

namespace Block

variable {b : Block} {f s now ec : Nat}

theorem droopEvent_of_below {t2 second : Bool} {margin : Nat} (harmed : b.armedBy f s second = true) (hblind : b.blind now f ec = false)
    (hlow : margin < if t2 then b.rd F_DROOP.T2_MARGIN f else b.rd F_DROOP.T1_MARGIN f) :
    b.droopEvent now f s t2 second margin ec = (b.gatesTo f s ec).modAgent (pid f s) (fun a => a.clamped now (b.fu f).nEc
      (max 1 (min ((b.agent (pid f s)).droopAt now (b.fu f).nEc ec) (b.otherRate f s))) ec margin t2 second) := by
  have hpass : (!b.armedBy f s second || b.blind now f ec ||
      decide ((if t2 then b.rd F_DROOP.T2_MARGIN f else b.rd F_DROOP.T1_MARGIN f) ≤ margin)) = false := by
    simp [harmed, hblind, Nat.not_le.2 hlow]
  simp only [droopEvent, hpass, gatesTo_otherRate, gatesTo_droopAt, gatesTo_fu]
  rfl

theorem droopEvent_keeps (b : Block) (now f s : Nat) (t2 second : Bool) (margin ec : Nat) :
    b.Keeps [.agents] (b.droopEvent now f s t2 second margin ec) := by simp

end Block

theorem exec_droopT1Event (f : FieldNo) (p : SlotNo) (second : Bool) (m : BitVec 6) (ec : BitVec 12) (s : State) :
    exec (.droopT1Event f p second m ec) s = .next { s with b := s.b.droopEvent s.tick f p false second m.toNat ec.toNat } := rfl

theorem exec_droopT2Event (f : FieldNo) (p : SlotNo) (second : Bool) (m : BitVec 6) (ec : BitVec 12) (s : State) :
    exec (.droopT2Event f p second m ec) s = .next { s with b := s.b.droopEvent s.tick f p true second m.toNat ec.toNat } := rfl

/-! ### Droop words (R107) -/

theorem Block.takeWord_words (b : Block) (f s : Nat) (w : DroopWord) (k : Nat) : (b.takeWord f s w).agent k = b.agent k :=
  (show b.Keeps [.regs, .traces, .fields] (b.takeWord f s w) by simp).agent (by decide) k

theorem exec_droopEventWord {f : FieldNo} {p : SlotNo} {w : DroopWord} {rest : List DroopWord} {s : State}
    (h : (s.b.agent (pid f p)).words = w :: rest) : exec (.droopEventWord f p) s =
    .next { s with b := (s.b.modAgent (pid f p) (fun a => { a with words := rest })).takeWord f p w } := by
  simp [exec, execDroopEventWord, onB, h]

theorem Block.droopRecord_regsOff (b : Block) (f s : Nat) (w : DroopWord) : b.RegsOff [0x1F, 0x4B] (b.droopRecord f s w) := by
  unfold Block.droopRecord
  simp (disch := decide)

/-- The counters of the droop words after one of them (R107). -/
theorem Block.takeWord_counts (b : Block) (f s : Nat) (w : DroopWord) :
    (b.takeWord f s w).rd F_DROOP.T1_EVENTS f = (if w.t2 then b.rd F_DROOP.T1_EVENTS f else (b.rd F_DROOP.T1_EVENTS f + (1 + w.repeats)) % 2 ^ 32) ∧
    (b.takeWord f s w).rd F_DROOP.T2_EVENTS f = (if w.t2 then (b.rd F_DROOP.T2_EVENTS f + (1 + w.repeats)) % 2 ^ 32 else b.rd F_DROOP.T2_EVENTS f) := by
  unfold Block.takeWord
  simp only [(Block.droopRecord_regsOff _ f s w).rd (show F_DROOP.T1_EVENTS.Fits ∧ F_DROOP.T1_EVENTS.page ∉ [0x1F, 0x4B] by decide),
    (Block.droopRecord_regsOff _ f s w).rd (show F_DROOP.T2_EVENTS.Fits ∧ F_DROOP.T2_EVENTS.page ∉ [0x1F, 0x4B] by decide)]
  cases w.t2
  · simp (disch := decide) only [Block.rd_add_apart, Block.rd_add_same, Bool.false_eq_true, if_false]
    exact ⟨rfl, trivial⟩
  · simp (disch := decide) only [Block.rd_add_apart, Block.rd_add_same, Block.rd_wr_apart, Block.rd_addSat_apart, if_true]
    exact ⟨trivial, rfl⟩

/-- Settles O20: a clamp lowers q_droop by the rate that the gates apply, which running them leaves as it was. -/
theorem droopEvents : Obligations.DroopEvents := by
  refine ⟨fun f p second m ec s harmed hblind => ⟨fun hlow => ⟨_, next_block (exec_droopT1Event f p second m ec s)
      (Block.droopEvent_of_below harmed hblind (by simpa using hlow)), ?_, ?_, ?_, ?_, ?_⟩,
    fun hlow => ⟨_, next_block (exec_droopT2Event f p second m ec s)
      (Block.droopEvent_of_below harmed hblind (by simpa using hlow)), ?_, ?_, ?_, ?_, ?_, ?_⟩⟩,
    fun f p w rest s h => ⟨_, exec_droopEventWord h, rfl, ?_, fun ht => ?_, fun ht => ?_⟩⟩
  · exact Block.Keeps.withBlock_eq_graft (S := [.agents]) (by simp)
  · simp [Agent.clamped, Block.gatesTo_qDroop]
  · simp [Agent.clamped]
  · simp [Agent.clamped, Block.gatesTo_qRamp]
  · exact fun k hk => (Block.agent_modAgent_other _ _ hk).trans (Block.gatesTo_agent_other hk ..)
  · exact Block.Keeps.withBlock_eq_graft (S := [.agents]) (by simp)
  · simp [Agent.clamped]
  · simp [Agent.clamped]
  · simp [Agent.clamped]
  · simp [Agent.clamped, Block.gatesTo_qRamp]
  · exact fun k hk => (Block.agent_modAgent_other _ _ hk).trans (Block.gatesTo_agent_other hk ..)
  · simp [Block.takeWord_words]
  · obtain ⟨h1, h2⟩ := Block.takeWord_counts (s.b.modAgent (pid f p) (fun a => { a with words := rest })) f p w
    rw [ht] at h1 h2
    exact ⟨h1.trans (by rw [if_neg Bool.false_ne_true, ← Nat.add_assoc]; rfl), h2⟩
  · obtain ⟨h1, h2⟩ := Block.takeWord_counts (s.b.modAgent (pid f p) (fun a => { a with words := rest })) f p w
    rw [ht] at h1 h2
    exact ⟨h2.trans (by rw [if_pos rfl, ← Nat.add_assoc]; rfl), h1⟩

/-! ### Idling, the climb and unticketed starts -/

theorem exec_clampReleaseCount (f : FieldNo) (p : SlotNo) (s : State) : exec (.clampReleaseCount f p) s =
    .next { s with b := s.b.modAgent (pid f p) (fun a => { a with releasing := a.clamp != 0 }) } := rfl

theorem exec_parcelIdle (f : FieldNo) (p : SlotNo) (s : State) : exec (.parcelIdle f p) s = .next { s with
    b := if s.b.matrixRunning f p then s.b else s.b.modAgent (pid f p) (fun a => { a with idle := true, unticketed := false }) } := rfl

theorem exec_shapeStep (f : FieldNo) (p : SlotNo) (s : State) : exec (.shapeStep f p) s = .next { s with
    b := s.b.modAgent (pid f p) (fun a =>
      if a.shaping then { a with climb := min 64 (a.climb + 1), shaping := decide (a.climb + 1 < 64) } else a) } := rfl

theorem exec_unticketedStart {f : FieldNo} {p : SlotNo} {s : State} (hreleased : (s.b.agent (pid f p)).released = true)
    (hidle : (s.b.agent (pid f p)).idle = true) (hmatrix : s.b.matrixRunning f p = false) :
    exec (.unticketedStart f p) s = .next { s with b := ((s.b.parcelStart f p 1 false true).modAgent (pid f p)
      (fun a => { a with unticketed := true, unticketedInTick := true })).inc F_DROOP.UNTICKETED f } := by
  simp [exec, execUnticketedStart, onB, hreleased, hidle, hmatrix]

@[simp] theorem Agent.release_idle (a : Agent) (shapeOn : Bool) : (a.release shapeOn).idle = a.idle := by
  unfold Agent.release
  dsimp only
  split_ifs <;> rfl

/-- A start ends the parcel's idling, and concerns no other agent. -/
theorem Block.parcelStart_idle (b : Block) (f s cls : Nat) (crit unticketed : Bool) :
    ((b.parcelStart f s cls crit unticketed).agent (pid f s)).idle = false := by
  simp only [Block.parcelStart, Block.agent_modAgent_same]
  split_ifs <;> simp

theorem Block.parcelStart_agent_other {f s k : Nat} (hk : k ≠ pid f s) (b : Block) (cls : Nat) (crit unticketed : Bool) :
    (b.parcelStart f s cls crit unticketed).agent k = b.agent k := Block.agent_modAgent_other _ _ hk

theorem Block.parcelStart_keeps (b : Block) (f s cls : Nat) (crit unticketed : Bool) :
    b.Keeps [.agents] (b.parcelStart f s cls crit unticketed) := by simp

/-- Settles O21: each event changes its own agent, and the unticketed start one counter. -/
theorem agentEvents : Obligations.AgentEvents := by
  refine ⟨fun f p s h => ⟨_, exec_clampReleaseCount f p s, rfl, by simp [h], fun k hk => Block.agent_modAgent_other _ _ hk⟩,
    fun f p s h => ⟨_, next_block (exec_parcelIdle f p s) (if_neg (by simp [h])), rfl, Block.agent_modAgent_same ..,
      fun k hk => Block.agent_modAgent_other _ _ hk⟩,
    fun f p s h => next_block (exec_parcelIdle f p s) (if_pos h),
    fun f p s h => ⟨_, exec_shapeStep f p s, rfl, by simp [h], by simp [h], fun k hk => Block.agent_modAgent_other _ _ hk⟩,
    fun f p s hreleased hidle hmatrix => ⟨_, exec_unticketedStart hreleased hidle hmatrix, ?_, ?_, ?_, ?_, ?_, fun k hk => ?_⟩⟩
  · exact Block.Keeps.withBlock_eq_graft (S := [.regs, .agents]) (by simp)
  · rw [(Block.inc_keeps ..).agent (by decide), Block.agent_modAgent_same]
    exact Block.parcelStart_idle ..
  · rw [(Block.inc_keeps ..).agent (by decide), Block.agent_modAgent_same]
  · refine (Block.rd_inc_same ..).trans ?_
    rw [(Block.modAgent_keeps ..).rd (by decide), (Block.parcelStart_keeps ..).rd (by decide)]
    rfl
  · refine (regsBut_wr (by simp) _).2 ((regsBut_of_keeps (Block.modAgent_keeps ..) (by decide)).2 ?_)
    exact (Block.parcelStart_keeps ..).regsBut
  · rw [(Block.inc_keeps ..).agent (by decide), Block.agent_modAgent_other _ _ hk, Block.parcelStart_agent_other hk]

end Sys2Proof.Machine
end

section
/-!
SUPPORT. The allowance word and the ramp mark (O22).
-/

namespace Sys2Proof.Machine

open Sys2Proof

@[simp] theorem Agent.release_waiting (a : Agent) (shapeOn : Bool) : (a.release shapeOn).waiting = none := by
  unfold Agent.release
  dsimp only
  split_ifs <;> rfl

@[simp] theorem Agent.release_qTarget (a : Agent) (shapeOn : Bool) : (a.release shapeOn).qTarget = a.qTarget := by
  unfold Agent.release
  dsimp only
  split_ifs <;> rfl

@[simp] theorem Agent.release_qRamp (a : Agent) (shapeOn : Bool) : (a.release shapeOn).qRamp = a.qRamp := by
  unfold Agent.release
  dsimp only
  split_ifs <;> rfl

namespace Block

variable {b : Block} {f s : Nat} {w : Waiting}

/-! ### The allowance word at a parcel that owes no step (R118, R119) -/

/-- The start step drawn from the ring's allowance, and the parcel released. -/
def drawn (b : Block) (f s : Nat) (w : Waiting) : Block :=
  (b.modAgent (pid f s) (fun a => a.release (b.bit F_DROOP.SHAPE_ON f))).modRing (ringOf f s) (fun r => { r with
    allow := r.allow - b.startStep f s w.cls, resv := if w.crit then r.resv - b.startStep f s w.cls else r.resv
    drawn := r.drawn + b.startStep f s w.cls })

theorem debitPass_of_nil (h : (b.agent (pid f s)).debit = []) : b.debitPass f s = b := by
  simp [debitPass, h]

theorem drawPass_of_room (hw : (b.agent (pid f s)).waiting = some w)
    (hroom : (if w.crit then 0 else (b.ring (ringOf f s)).resv) + b.startStep f s w.cls ≤ (b.ring (ringOf f s)).allow) :
    b.drawPass f s = if w.delayed then (b.drawn f s w).inc F_DROOP.STAGGER_DELAYED f else b.drawn f s w := by
  have hcond : (if w.crit then decide (b.startStep f s w.cls ≤ (b.ring (ringOf f s)).allow)
      else decide ((b.ring (ringOf f s)).resv + b.startStep f s w.cls ≤ (b.ring (ringOf f s)).allow)) = true := by
    cases hc : w.crit <;> simpa [hc] using hroom
  simp only [drawPass, hw, hcond]
  rfl

theorem drawPass_of_full (hw : (b.agent (pid f s)).waiting = some w)
    (hfull : (b.ring (ringOf f s)).allow < (if w.crit then 0 else (b.ring (ringOf f s)).resv) + b.startStep f s w.cls) :
    b.drawPass f s = if w.crit then (b.modAgent (pid f s) (fun a => { a with waiting := some { w with delayed := true } })).modRing (ringOf f s)
        (fun r => { r with nextCrit := r.nextCrit + b.startStep f s w.cls })
      else b.modAgent (pid f s) (fun a => { a with waiting := some { w with delayed := true } }) := by
  have hcond : (if w.crit then decide (b.startStep f s w.cls ≤ (b.ring (ringOf f s)).allow)
      else decide ((b.ring (ringOf f s)).resv + b.startStep f s w.cls ≤ (b.ring (ringOf f s)).allow)) = false := by
    cases hc : w.crit <;> simpa [hc] using hfull
  simp only [drawPass, hw, hcond]
  rfl

theorem drawn_keeps (b : Block) (f s : Nat) (w : Waiting) : b.Keeps [.agents, .rings] (b.drawn f s w) := by
  unfold drawn
  simp

theorem drawn_ring_same (b : Block) (f s : Nat) (w : Waiting) : (b.drawn f s w).ring (ringOf f s) = { b.ring (ringOf f s) with
    allow := (b.ring (ringOf f s)).allow - b.startStep f s w.cls
    resv := if w.crit then (b.ring (ringOf f s)).resv - b.startStep f s w.cls else (b.ring (ringOf f s)).resv
    drawn := (b.ring (ringOf f s)).drawn + b.startStep f s w.cls } := by
  rw [drawn, ring_modRing_same, (modAgent_keeps ..).ring (by decide)]

theorem drawn_ring_other {k : Nat} (hk : k ≠ ringOf f s) (b : Block) (w : Waiting) : (b.drawn f s w).ring k = b.ring k := by
  rw [drawn, ring_modRing_other _ _ hk, (modAgent_keeps ..).ring (by decide)]

/-- A parcel that waited before may be counted as delayed: one register at most differs. -/
theorem ite_inc_keeps (q : Prop) [Decidable q] (b : Block) (x : Fld) (i : Nat) : b.Keeps [.regs] (if q then b.inc x i else b) := by
  split
  · exact inc_keeps ..
  · exact .refl _ _

theorem ite_inc_regsBut (q : Prop) [Decidable q] (b : Block) (x : Fld) (i : Nat) : RegsBut [x.key i] b (if q then b.inc x i else b) := by
  split
  · exact (regsBut_wr (by simp) _).2 (.refl _ _)
  · exact .refl _ _

theorem drawn_agent (b : Block) (f s : Nat) (w : Waiting) (k : Nat) : (b.drawn f s w).agent k =
    if k = pid f s then (b.agent k).release (b.bit F_DROOP.SHAPE_ON f) else b.agent k := by
  rw [drawn, (modRing_keeps ..).agent (by decide)]
  split
  case isTrue h => rw [h, agent_modAgent_same]
  case isFalse h => exact agent_modAgent_other _ _ h

end Block

theorem exec_allowanceWordPass (f : FieldNo) (p : SlotNo) {s : State} (h : (s.b.agent (pid f p)).debit = []) :
    exec (.allowanceWordPass f p) s = .next { s with b := s.b.drawPass f p } := by
  simp [exec, execAllowanceWordPass, onB, Block.debitPass_of_nil h]

/-! ### The ramp mark (R77, R78) -/

/-- The ramp rises no further than its target, and falls nowhere. -/
structure Agent.Climbs (a a' : Agent) : Prop where
  target : a'.qTarget = a.qTarget
  stays : a.qTarget ≤ a.qRamp → a'.qRamp = a.qRamp
  rises : a.qRamp ≤ a.qTarget → a'.qRamp ≤ a.qTarget ∧ a.qRamp ≤ a'.qRamp

namespace Agent.Climbs

variable {a a' a'' : Agent}

theorem of_eq (ht : a'.qTarget = a.qTarget) (hr : a'.qRamp = a.qRamp) : a.Climbs a' :=
  ⟨ht, fun _ => hr, fun h => ⟨hr ▸ h, hr ▸ Nat.le_refl _⟩⟩

theorem refl (a : Agent) : a.Climbs a := of_eq rfl rfl

theorem trans (h : a.Climbs a') (h' : a'.Climbs a'') : a.Climbs a'' := by
  obtain ⟨ht, hs, hr⟩ := h
  obtain ⟨ht', hs', hr'⟩ := h'
  rw [ht] at ht' hs' hr'
  refine ⟨ht', fun h => ?_, fun h => ?_⟩
  · rw [hs' (hs h ▸ h), hs h]
  · obtain ⟨h1, h2⟩ := hr h
    exact ⟨(hr' h1).1, h2.trans (hr' h1).2⟩

end Agent.Climbs

/-- Every agent's ramp climbs. -/
structure Block.Climbs (b c : Block) : Prop where
  agent : ∀ k, (b.agent k).Climbs (c.agent k)

namespace Block

variable {b c d : Block}

theorem Climbs.refl (b : Block) : b.Climbs b := ⟨fun _ => .refl _⟩

theorem Climbs.trans (h : b.Climbs c) (h' : c.Climbs d) : b.Climbs d :=
  ⟨fun k => (h.agent k).trans (h'.agent k)⟩

theorem climbs_of_keeps {S : List Part} (h : b.Keeps S c) (hS : .agents ∉ S) : b.Climbs c :=
  ⟨fun k => .of_eq (congrArg Agent.qTarget (h.agent hS k)) (congrArg Agent.qRamp (h.agent hS k))⟩

theorem climbs_modAgent (k : Nat) {g : Agent → Agent} (hg : ∀ a : Agent, a.Climbs (g a)) (b : Block) : b.Climbs (b.modAgent k g) := by
  refine ⟨fun j => ?_⟩
  by_cases h : j = k
  · rw [h, agent_modAgent_same]
    exact hg _
  · rw [agent_modAgent_other _ _ h]
    exact .refl _

theorem climbs_gatesTo (b : Block) (f s ec : Nat) : b.Climbs (b.gatesTo f s ec) := by
  rcases gatesTo_cases b f s ec with h | h <;> rw [h]
  · exact .refl b
  · exact climbs_modAgent _ (fun a => .of_eq (a.runGates_qTarget ..) (a.runGates_qRamp ..)) b

theorem climbs_each {α : Type} {l : List α} {g : Block → α → Block} (hg : ∀ (b : Block) x, b.Climbs (g b x)) (b : Block) :
    b.Climbs (b.each l g) :=
  each_inv (I := fun c => b.Climbs c) (fun _ _ _ h => h.trans (hg _ _)) (.refl b)

/-! The three steps of an agent at a ramp mark: its ramp rises, a parcel that waits is let go or waits a mark longer, and a clamp that is
being released rises. -/

def rampRise (b : Block) (f s : Nat) : Block :=
  b.modAgent (pid f s) (fun a => { a with
    qRamp := if a.qRamp < a.qTarget then min a.qTarget (a.qRamp + b.rd F_ISSUE.RISE_STEP f) else a.qRamp })

def rampWait (b : Block) (f s maxMarks : Nat) (shape : Bool) : Block :=
  match (b.agent (pid f s)).waiting with
  | none => b
  | some w =>
    if maxMarks ≤ w.marks + 1 then
      let b := b.modAgent (pid f s) (fun a => { a with debit := a.debit ++ [(w.cls, w.crit)] }.release shape)
      (b.inc F_DROOP.STAGGER_DELAYED f).inc F_DROOP.STAGGER_FORCED f
    else b.modAgent (pid f s) (fun a => { a with waiting := some { w with marks := w.marks + 1 } })

def rampClamp (b : Block) (f s rise : Nat) (held : Bool) : Block :=
  let a := b.agent (pid f s)
  if a.releasing && !held then
    let q := min 64 (a.qDroop + rise)
    let other := b.otherRate f s
    b.modAgent (pid f s) (fun a =>
      if other ≤ q then { a with qDroop := 64, clamp := 0, releasing := false } else { a with qDroop := q })
  else b

theorem rampAgent_eq (b : Block) (f s : Nat) (held : Bool) : b.rampAgent f s held =
    (((b.rampRise f s).rampWait f s (b.rd F_DROOP.STAGGER_MAX f) (b.bit F_DROOP.SHAPE_ON f)).rampClamp f s (b.rd F_ISSUE.RISE_STEP f) held) := rfl

theorem climbs_rampRise (b : Block) (f s : Nat) : b.Climbs (b.rampRise f s) := by
  refine climbs_modAgent _ ?_ b
  refine fun a => ⟨rfl, fun h => if_neg (Nat.not_lt.2 h), fun h => ?_⟩
  dsimp only
  split <;> omega

theorem climbs_rampWait (b : Block) (f s maxMarks : Nat) (shape : Bool) : b.Climbs (b.rampWait f s maxMarks shape) := by
  unfold rampWait
  split
  · exact .refl b
  · split
    · refine Climbs.trans (climbs_modAgent _ ?_ b) (climbs_of_keeps ((inc_keeps ..).trans (inc_keeps ..)) (by decide))
      exact fun a => .of_eq (Agent.release_qTarget ..) (Agent.release_qRamp ..)
    · refine climbs_modAgent _ ?_ b
      exact fun a => .of_eq rfl rfl

theorem climbs_rampClamp (b : Block) (f s rise : Nat) (held : Bool) : b.Climbs (b.rampClamp f s rise held) := by
  unfold rampClamp
  dsimp only
  split
  · refine climbs_modAgent _ ?_ b
    intro a
    split <;> exact .of_eq rfl rfl
  · exact .refl b

theorem climbs_rampAgent (b : Block) (f s : Nat) (held : Bool) : b.Climbs (b.rampAgent f s held) :=
  rampAgent_eq b f s held ▸ ((climbs_rampRise b f s).trans (climbs_rampWait ..)).trans (climbs_rampClamp ..)

theorem rampWait_ringAllow (b : Block) (f s maxMarks : Nat) (shape : Bool) (j : Nat) :
    (b.rampWait f s maxMarks shape).rd F_DROOP.RING_ALLOW j = b.rd F_DROOP.RING_ALLOW j := by
  unfold rampWait
  split
  · rfl
  · split
    · dsimp only
      rw [rd_inc_apart (by decide), rd_inc_apart (by decide), (modAgent_keeps ..).rd (by decide)]
    · rfl

/-- The counters that a ramp mark writes are not the ring's allowance. -/
theorem rampAgent_ringAllow (b : Block) (f s : Nat) (held : Bool) (j : Nat) :
    (b.rampAgent f s held).rd F_DROOP.RING_ALLOW j = b.rd F_DROOP.RING_ALLOW j := by
  have hrise : (b.rampRise f s).rd F_DROOP.RING_ALLOW j = b.rd F_DROOP.RING_ALLOW j := (modAgent_keeps ..).rd (by decide) ..
  have hclamp : ∀ (c : Block) r, c.Keeps [.agents] (c.rampClamp f s r held) := fun c r => by
    unfold rampClamp
    dsimp only
    split
    · exact modAgent_keeps ..
    · exact .refl _ _
  rw [rampAgent_eq, (hclamp ..).rd (by decide), rampWait_ringAllow, hrise]

/-- One field at a ramp mark. -/
def rampField (b : Block) (now k f : Nat) : Block :=
  let held := b.blind now f (256 * k * b.mhz / 1000)
  let b := b.each (b.liveAgents f) (fun b x => (b.gatesTo f x (b.ecAt (256 * k))).rampAgent f x held)
  b.each (List.range 12) (fun b r => b.modRing (12 * f + r) (fun x => { x with allow := b.rd F_DROOP.RING_ALLOW f }))

theorem climbs_rampField (b : Block) (now k f : Nat) : b.Climbs (b.rampField now k f) :=
  (climbs_each (fun b x => (climbs_gatesTo b f x _).trans (climbs_rampAgent ..)) b).trans
    (climbs_each (fun b r => climbs_of_keeps (modRing_keeps ..) (by decide)) _)

end Block

namespace Block

/-- One field at a ramp mark, before its rings get their allowance again. -/
def rampAgents (b : Block) (now k f : Nat) : Block :=
  b.each (b.liveAgents f) (fun c x => (c.gatesTo f x (c.ecAt (256 * k))).rampAgent f x (b.blind now f (256 * k * b.mhz / 1000)))

theorem rampField_eq (b : Block) (now k f : Nat) : b.rampField now k f = (b.rampAgents now k f).each (List.range 12)
    (fun b r => b.modRing (12 * f + r) (fun x => { x with allow := b.rd F_DROOP.RING_ALLOW f })) := rfl

theorem rampAgents_ringAllow (b : Block) (now k f j : Nat) :
    (b.rampAgents now k f).rd F_DROOP.RING_ALLOW j = b.rd F_DROOP.RING_ALLOW j := by
  refine each_inv (I := fun c => c.rd F_DROOP.RING_ALLOW j = b.rd F_DROOP.RING_ALLOW j) (fun x _ c hc => ?_) rfl
  have hgates : c.Keeps [.agents] (c.gatesTo f x (c.ecAt (256 * k))) := by simp
  rw [rampAgent_ringAllow, hgates.rd (by decide), hc]

theorem rampField_ringAllow (b : Block) (now k f j : Nat) :
    (b.rampField now k f).rd F_DROOP.RING_ALLOW j = b.rd F_DROOP.RING_ALLOW j := by
  have hrings : (b.rampAgents now k f).Keeps [.rings] (b.rampField now k f) := by rw [rampField_eq]; simp
  rw [hrings.rd (by decide), rampAgents_ringAllow]

theorem rampAgents_keeps (b : Block) (now k f : Nat) : b.Keeps [.regs, .agents] (b.rampAgents now k f) := by
  unfold rampAgents
  simp

theorem ring_allow_modRing (b : Block) (k j : Nat) (v : Nat) :
    ((b.modRing k (fun x => { x with allow := v })).ring j).allow = if j = k then v else (b.ring j).allow := by
  split
  case isTrue h => rw [h, ring_modRing_same]
  case isFalse h => rw [ring_modRing_other _ _ h]

/-- A field's mark gives its rings their allowance again, and leaves those of the other fields. -/
theorem rampField_allow_same (b : Block) (now k f : Nat) {r : Nat} (hr : r < 12) :
    ((b.rampField now k f).ring (12 * f + r)).allow = b.rd F_DROOP.RING_ALLOW f := by
  rw [rampField_eq]
  refine each_reaches_of (p := fun c => (c.ring (12 * f + r)).allow) (I := fun c => c.rd F_DROOP.RING_ALLOW f = b.rd F_DROOP.RING_ALLOW f)
    (fun q _ c hc => ((modRing_keeps ..).rd (by decide) ..).trans hc) (fun c hc => ?_) (fun q _ c hc => ?_) (List.mem_range.2 hr)
    (rampAgents_ringAllow ..)
  · simp only [ring_allow_modRing, hc, if_true]
  · simp only [ring_allow_modRing, hc]
    split
    · exact .inl rfl
    · exact .inr rfl

theorem rampField_allow_other (b : Block) (now k : Nat) {f f' r : Nat} (hf : f' ≠ f) (hr : r < 12) :
    ((b.rampField now k f').ring (12 * f + r)).allow = (b.ring (12 * f + r)).allow := by
  rw [rampField_eq]
  refine each_inv (I := fun c => (c.ring (12 * f + r)).allow = (b.ring (12 * f + r)).allow) (fun q hq c hc => ?_) ?_
  · have hq := List.mem_range.1 hq
    rw [ring_allow_modRing, if_neg (by omega), hc]
  · rw [(rampAgents_keeps ..).ring (by decide)]

/-- The fields of `l` at a ramp mark. -/
def rampFields (b : Block) (now k : Nat) (l : List Nat) : Block := b.each l (fun b f => b.rampField now k f)

section Fields

variable (b : Block) (now k : Nat) (l : List Nat)

theorem rampFields_allow {f r : Nat} (hf : f ∈ l) (hr : r < 12) :
    ((b.rampFields now k l).ring (12 * f + r)).allow = b.rd F_DROOP.RING_ALLOW f := by
  have hother : ∀ f' ∈ l, ∀ c : Block, c.rd F_DROOP.RING_ALLOW f = b.rd F_DROOP.RING_ALLOW f →
      ((c.rampField now k f').ring (12 * f + r)).allow = b.rd F_DROOP.RING_ALLOW f ∨
        ((c.rampField now k f').ring (12 * f + r)).allow = (c.ring (12 * f + r)).allow := fun f' _ c hc => by
    by_cases hf : f' = f
    · rw [hf]
      exact .inl ((rampField_allow_same c now k f hr).trans hc)
    · exact .inr (rampField_allow_other c now k hf hr)
  exact each_reaches_of (p := fun c => (c.ring (12 * f + r)).allow) (g := fun b f => b.rampField now k f)
    (I := fun c => c.rd F_DROOP.RING_ALLOW f = b.rd F_DROOP.RING_ALLOW f) (fun f' _ c hc => (rampField_ringAllow c now k f' f).trans hc)
    (fun c hc => (rampField_allow_same c now k f hr).trans hc) hother hf rfl

theorem rampFields_climbs : b.Climbs (b.rampFields now k l) := climbs_each (fun b f => climbs_rampField b now k f) b

theorem rampFields_keeps : b.Keeps [.regs, .agents, .rings] (b.rampFields now k l) := by
  have hfield : ∀ (c : Block) f, c.Keeps [.regs, .agents, .rings] (c.rampField now k f) := fun c f => by
    have hrings : (c.rampAgents now k f).Keeps [.rings] (c.rampField now k f) := by rw [rampField_eq]; simp
    exact ((c.rampAgents_keeps now k f).mono (by simp)).trans (hrings.mono (by simp))
  exact foldl_keeps hfield l b

end Fields

end Block

theorem exec_allowanceWordReturn (f : FieldNo) (r : RingNo) (s : State) : exec (.allowanceWordReturn f r) s = .next { s with
    b := (s.b.modFu f (fun u => { u with committedRise := u.committedRise + 4 * (s.b.ring (12 * f + r)).drawn })).modRing (12 * f + r)
      (fun x => { x with drawn := 0, resv := x.nextCrit, nextCrit := 0 }) } := rfl

theorem exec_rampMark (k : Fin 8) (s : State) :
    exec (.rampMark k) s = .next { s with b := s.b.rampFields s.tick k allFields } := rfl

/-- Settles O22: the word draws from one ring for one parcel, and each step of a ramp mark lets a ramp rise toward its target or stand. -/
theorem allowanceWordAndRampMark : Obligations.AllowanceWordAndRampMark := by
  refine ⟨fun f p w s hdebit hw hroom => ⟨_, next_block (exec_allowanceWordPass f p hdebit) (Block.drawPass_of_room hw hroom), ?_⟩,
    fun f p w s hdebit hw hfull => ⟨_, next_block (exec_allowanceWordPass f p hdebit) (Block.drawPass_of_full hw hfull), ?_⟩,
    fun f r s => ⟨_, exec_allowanceWordReturn f r s, ?_⟩, fun k s => ⟨_, exec_rampMark k s, ?_, fun f r => ?_, fun f p => ?_⟩⟩
  · have hdrawn := s.b.drawn_keeps f p w
    have hinc := Block.ite_inc_keeps (w.delayed = true) (s.b.drawn f p w) F_DROOP.STAGGER_DELAYED f
    refine ⟨Block.Keeps.withBlock_eq_graft (S := [.regs, .agents, .rings]) ((hdrawn.mono (by simp)).trans (hinc.mono (by simp))), ?_, ?_, ?_, ?_, fun k hk => ?_, fun k hk => ?_⟩
    · rw [hinc.agent (by decide), Block.drawn_agent, if_pos rfl, Agent.release_waiting]
    · rw [hinc.ring (by decide), Block.drawn_ring_same]
    · rw [hinc.ring (by decide), Block.drawn_ring_same]
    · exact hdrawn.regsBut.trans (Block.ite_inc_regsBut _ _ _ _)
    · rw [hinc.agent (by decide), Block.drawn_agent, if_neg hk]
    · rw [hinc.ring (by decide), Block.drawn_ring_other hk]
  · cases w.crit
    · rw [if_neg Bool.false_ne_true]
      exact ⟨rfl, congrArg Agent.waiting (Block.agent_modAgent_same ..), rfl, rfl⟩
    · rw [if_pos rfl]
      refine ⟨rfl, ?_, ?_, ?_⟩
      · rw [(Block.modRing_keeps ..).agent (by decide), Block.agent_modAgent_same]
      · rw [Block.ring_modRing_same, (Block.modAgent_keeps ..).ring (by decide)]
      · rw [Block.ring_modRing_same, (Block.modAgent_keeps ..).ring (by decide)]
  · refine ⟨rfl, ?_, ?_, fun k hk => ?_, fun k hk => ?_⟩
    · rw [(Block.modRing_keeps ..).fu (by decide), Block.fu_modFu_same]
    · rw [Block.ring_modRing_same, (Block.modFu_keeps ..).ring (by decide)]
    · rw [(Block.modRing_keeps ..).fu (by decide), Block.fu_modFu_other _ _ hk]
    · rw [Block.ring_modRing_other _ _ hk, (Block.modFu_keeps ..).ring (by decide)]
  · have h := s.b.rampFields_keeps s.tick k allFields
    generalize s.b.rampFields s.tick k allFields = b at h
    exact h.withBlock_eq_graft
  · exact Block.rampFields_allow s.b s.tick k allFields (fieldNo_mem_allFields f) r.isLt
  · obtain ⟨ht, hs, hr⟩ := (s.b.rampFields_climbs s.tick k allFields).agent (pid f p)
    exact ⟨ht, hs, hr⟩

end Sys2Proof.Machine
end

section
/-!
SUPPORT. More rules of the register fields: through a branch, and which parts a branch keeps.
-/

namespace Sys2Proof.Machine

open Sys2Proof

namespace Block

variable {ks : List Nat} {a b c : Block}

theorem regsBut_cond {q : Bool} {g : Block → Block} (hg : ∀ b : Block, RegsBut ks b (g b)) :
    RegsBut ks a (b.cond q g) ↔ RegsBut ks a b := by
  cases q
  · rfl
  · exact ⟨fun h x i hk => (hg b x i hk).symm.trans (h x i hk), fun h => h.trans (hg b)⟩

theorem rd_cond {q : Bool} {g : Block → Block} {x : Fld} {i : Nat} (hg : ∀ b : Block, (g b).rd x i = b.rd x i) :
    (b.cond q g).rd x i = b.rd x i := by
  cases q
  · rfl
  · exact hg b

theorem bit_cond {q : Bool} {g : Block → Block} {x : Fld} {i : Nat} (hg : ∀ b : Block, (g b).rd x i = b.rd x i) :
    (b.cond q g).bit x i = b.bit x i := by
  rw [bit, bit, rd_cond hg]

@[simp] theorem bit_fault (b : Block) (src field detail off : Nat) (x : Fld) (i : Nat) :
    (b.fault src field detail off).bit x i = b.bit x i := (fault_keeps ..).bit (by decide) x i

end Block

end Sys2Proof.Machine
end

section
/-!
SUPPORT. The references of a field's rails, and the events of a rail (O23, O24).
-/

namespace Sys2Proof.Machine

open Sys2Proof

theorem railNo_lt (r : Rail) : railNo r < 2 := by cases r <;> decide

/-! ### Slew steps (R188, R192) -/

theorem stepToward_near (ref target : Nat) : stepToward ref target ≤ ref + 5 ∧ ref ≤ stepToward ref target + 5 := by
  unfold stepToward
  split <;> omega

namespace Block

/-- A reference moved to `next`, as REF and SLEWING show it. -/
def slewed (b : Block) (f rl next : Nat) : Block :=
  ((b.modRail (railOf f rl) (fun x => { x with refv := next })).wr (F_RAIL.REF rl) f (next / 2)).wrB (F_RAIL.SLEWING rl) f
    (next != b.refTarget f rl)

/-- The step would carry a reference past the other rail's. -/
def crosses (b : Block) (f rl next : Nat) : Bool :=
  if rl = 0 then decide ((b.rail (railOf f 1)).refv < next) else decide (next < (b.rail (railOf f 0)).refv)

/-- What stops a step of a reference. -/
abbrev SlewStops (b : Block) (now f rl next : Nat) : Prop :=
  (b.rail (railOf f rl)).run = 0 ∨ (b.rail (railOf f rl)).run = 4 ∨ next = (b.rail (railOf f rl)).refv ∨ b.crosses f rl next = true ∨
    b.trackHolds f rl = true ∨ b.rateAllows now f rl next = false

theorem slewed_keeps (b : Block) (f rl next : Nat) : b.Keeps [.regs, .rails] (b.slewed f rl next) := by
  unfold slewed
  simp

theorem slewed_rail (b : Block) (f rl next k : Nat) :
    (b.slewed f rl next).rail k = if k = railOf f rl then { b.rail k with refv := next } else b.rail k := by
  rw [slewed, (wrB_keeps ..).rail (by decide), (wr_keeps ..).rail (by decide)]
  split
  case isTrue h => rw [h, rail_modRail_same]
  case isFalse h => exact rail_modRail_other _ _ h

theorem slewed_regsBut (b : Block) (f rl next : Nat) : RegsBut [(F_RAIL.REF rl).key f, (F_RAIL.SLEWING rl).key f] b (b.slewed f rl next) := by
  unfold slewed
  simp [regsBut_wr, regsBut_wrB]

end Block

theorem exec_refSlewStep (f : FieldNo) (r : Rail) (s : State) : exec (.refSlewStep f r) s = .next { s with
    b := if s.b.SlewStops s.tick f (railNo r) (stepToward (s.b.rail (railOf f (railNo r))).refv (s.b.refTarget f (railNo r))) then s.b
      else s.b.slewed f (railNo r) (stepToward (s.b.rail (railOf f (railNo r))).refv (s.b.refTarget f (railNo r))) } := rfl

/-- A step that is not stopped leaves VCORE's reference no higher than VSRAM's. -/
theorem Block.slewed_ordered {b : Block} {f rl next : Nat} (hrl : rl < 2) (hcross : b.crosses f rl next = false) :
    ((b.slewed f rl next).rail (railOf f 0)).refv ≤ ((b.slewed f rl next).rail (railOf f 1)).refv := by
  simp only [Block.slewed_rail, railOf, Block.crosses] at *
  obtain rfl | rfl : rl = 0 ∨ rl = 1 := by omega
  · simpa using of_decide_eq_false hcross
  · simpa using of_decide_eq_false hcross

/-- A rail that regulates has no start or stop to track. -/
theorem Block.not_slewStops {b : Block} {now f rl next : Nat} (hrun : (b.rail (railOf f rl)).run = 2)
    (hne : next ≠ (b.rail (railOf f rl)).refv) (hcross : b.crosses f rl next = false) : ¬ b.SlewStops now f rl next := by
  simp [Block.SlewStops, hrun, hne, hcross, Block.trackHolds, Block.rateAllows]

/-- Settles O23: a step is stopped or moves one reference by at most 5 units toward its target, and not past the other. -/
theorem referencesNeverCross : Obligations.ReferencesNeverCross := by
  refine ⟨fun f r s h => ⟨_, exec_refSlewStep f r s, ?_⟩, fun f r n s hrun hn hne hcore hsram => ?_⟩
  · have hnear := stepToward_near (s.b.rail (railOf f (railNo r))).refv (s.b.refTarget f (railNo r))
    generalize stepToward (s.b.rail (railOf f (railNo r))).refv (s.b.refTarget f (railNo r)) = n at hnear
    by_cases hstop : s.b.SlewStops s.tick f (railNo r) n
    · rw [if_pos hstop]
      exact ⟨rfl, h, Nat.le_add_right _ _, Nat.le_add_right _ _, .refl _ _, fun _ _ => rfl⟩
    · rw [if_neg hstop]
      have hcross : s.b.crosses f (railNo r) n = false := by
        simp only [Block.SlewStops, not_or, Bool.not_eq_true] at hstop
        exact hstop.2.2.2.1
      refine ⟨(s.b.slewed_keeps f (railNo r) n).withBlock_eq_graft, Block.slewed_ordered (railNo_lt r) hcross, ?_, ?_,
        s.b.slewed_regsBut f (railNo r) n, fun k hk => ?_⟩
      · simpa [Block.slewed_rail] using hnear.1
      · simpa [Block.slewed_rail] using hnear.2
      · simp [Block.slewed_rail, hk]
  · have hcross : s.b.crosses f (railNo r) n = false := by
      cases r
      · simpa [Block.crosses, railNo] using hcore rfl
      · simpa [Block.crosses, railNo] using hsram rfl
    subst hn
    refine ⟨_, next_block (exec_refSlewStep f r s) (if_neg (Block.not_slewStops hrun hne hcross)),
      (s.b.slewed_keeps f (railNo r) _).withBlock_eq_graft, ?_, ?_, ?_⟩
    · simp [Block.slewed_rail]
    · have hapart : (F_RAIL.SLEWING (railNo r)).apart (F_RAIL.REF (railNo r)) = true := by cases r <;> decide
      exact (Block.rd_wrB_apart hapart ..).trans (Block.rd_wr_same ..)
    · simp only [Block.slewed]
      rw [Block.bit_wrB_same _ rfl]
      simp

/-! ### Arrival, braking and under-voltage (R112, R182, R183, R190) -/

/-- A rail whose reference has reached its target, noted at tick `now`. -/
def Block.arrived (b : Block) (now f rl : Nat) : Block :=
  let c := ((b.wrB (F_RAIL.ARRIVED rl) f true).inc (F_RAIL.ARRIVALS rl) f).wr (F_RAIL.ARRIVAL_TICK rl) f now
  c.cond (rl == 0 && c.bit F_DROOP.TRANSITION f) (fun b =>
    (b.wrB F_DROOP.TRANSITION f false).wrB F_DROOP.MODE_IN_FORCE f (b.fu f).wide)

theorem exec_railArrival (f : FieldNo) (r : Rail) (s : State) : exec (.railArrival f r) s = .next { s with
    b := if ((s.b.rail (railOf f (railNo r))).run ≠ 1 ∧ (s.b.rail (railOf f (railNo r))).run ≠ 2) ∨
        (s.b.rail (railOf f (railNo r))).refv ≠ s.b.refTarget f (railNo r) ∨ s.b.bit (F_RAIL.ARRIVED (railNo r)) f then s.b
      else s.b.arrived s.tick f (railNo r) } := rfl

theorem Block.arrived_keeps (b : Block) (now f rl : Nat) : b.Keeps [.regs] (b.arrived now f rl) := by
  unfold arrived
  simp

theorem Block.arrived_regsBut (b : Block) (now f rl : Nat) : RegsBut [(F_RAIL.ARRIVED rl).key f, (F_RAIL.ARRIVALS rl).key f,
    (F_RAIL.ARRIVAL_TICK rl).key f, F_DROOP.TRANSITION.key f, F_DROOP.MODE_IN_FORCE.key f] b (b.arrived now f rl) := by
  refine (regsBut_cond fun b => ?_).2 ?_
  · simp [regsBut_wrB]
  · simp [regsBut_wrB, regsBut_inc, regsBut_wr]

/-- The end of a margin transition writes no field of the rails' page. -/
theorem Block.arrived_rd {b : Block} {now f rl : Nat} {x : Fld} (h1 : F_DROOP.TRANSITION.apart x = true)
    (h2 : F_DROOP.MODE_IN_FORCE.apart x = true) (i : Nat) : (b.arrived now f rl).rd x i =
      (((b.wrB (F_RAIL.ARRIVED rl) f true).inc (F_RAIL.ARRIVALS rl) f).wr (F_RAIL.ARRIVAL_TICK rl) f now).rd x i :=
  rd_cond fun _ => (rd_wrB_apart h2 ..).trans (rd_wrB_apart h1 ..)

theorem Block.arrived_transition (b : Block) (now f : Nat) : (b.arrived now f 0).bit F_DROOP.TRANSITION f = false := by
  unfold arrived
  generalize ((b.wrB (F_RAIL.ARRIVED 0) f true).inc (F_RAIL.ARRIVALS 0) f).wr (F_RAIL.ARRIVAL_TICK 0) f now = c
  by_cases h : c.bit F_DROOP.TRANSITION f = true
  · rw [cond_of_true (by simp [h]), bit_wrB_apart (by decide), bit_wrB_same _ rfl]
  · rw [cond_of_false (by simp [h])]
    simpa using h

theorem exec_brakeStart (f : FieldNo) (r : Rail) (s : State) : exec (.brakeStart f r) s = .next { s with
    b := if (s.b.rail (railOf f (railNo r))).run = 0 ∨ s.b.bit (F_RAIL.BRAKING (railNo r)) f ∨
        !s.b.bit (F_RAIL.BRAKE_EN (railNo r)) f then s.b
      else (s.b.wrB (F_RAIL.BRAKING (railNo r)) f true).inc (F_RAIL.BRAKE_EVENTS (railNo r)) f } := rfl

theorem exec_brakeEnd (f : FieldNo) (r : Rail) (n : Nat) (s : State) : exec (.brakeEnd f r n) s = .next { s with
    b := s.b.cond (s.b.bit (F_RAIL.BRAKING (railNo r)) f) (fun b =>
      (b.wrB (F_RAIL.BRAKING (railNo r)) f false).modRail (railOf f (railNo r)) (fun x => { x with rampFrom := n })) } := rfl

theorem exec_railUv (f : FieldNo) (r : Rail) (s : State) : exec (.railUv f r) s = .next { s with
    b := if !s.b.bit (F_RAIL.ON (railNo r)) f || (s.b.rail (railOf f (railNo r))).uvCounted then s.b
      else ((s.b.inc (F_RAIL.UV_EVENTS (railNo r)) f).fault 15 f (railNo r) 0).modRail (railOf f (railNo r))
        (fun x => { x with uvCounted := true }) } := rfl

theorem exec_railUvReturn (f : FieldNo) (r : Rail) (s : State) : exec (.railUvReturn f r) s = .next { s with
    b := s.b.modRail (railOf f (railNo r)) (fun x => { x with uvCounted := false }) } := rfl

theorem lowBits_railNo (r : Rail) : lowBits 16 (railNo r) = railNo r := Nat.mod_eq_of_lt ((railNo_lt r).trans (by decide))

/-- Settles O24: each event's writes read back one by one. -/
theorem railEvents : Obligations.RailEvents := by
  refine ⟨fun f r s hrun href harr => ?_, fun f r s hrun hbrake hen => ?_, fun f r n s hbrake => ?_, fun f r s hon huv => ?_,
    fun f r s huv => ?_, fun f r s => ?_⟩
  · refine ⟨_, next_block (exec_railArrival f r s) (if_neg ?_), ⟨(s.b.arrived_keeps ..).withBlock_eq_graft, s.b.arrived_regsBut s.tick f (railNo r)⟩,
      ?_, ?_, ?_, ?_⟩
    · simp [href, harr]
      omega
    · rw [Block.bit, Block.arrived_rd (by cases r <;> decide) (by cases r <;> decide), Block.rd_wr_apart (by cases r <;> decide),
        Block.rd_inc_apart (by cases r <;> decide)]
      exact Block.bit_wrB_same _ rfl f true
    · rw [Block.arrived_rd (by cases r <;> decide) (by cases r <;> decide), Block.rd_wr_apart (by cases r <;> decide),
        Block.rd_inc_same, Block.rd_wrB_apart (by cases r <;> decide)]
      rfl
    · rw [Block.arrived_rd (by cases r <;> decide) (by cases r <;> decide), Block.rd_wr_same]
    · rintro rfl
      exact Block.arrived_transition ..
  · refine ⟨_, next_block (exec_brakeStart f r s) (if_neg (by simp [hrun, hbrake, hen])),
      ⟨Block.Keeps.withBlock_eq_graft (S := [.regs]) (by simp), by simp [Block.regsBut_wrB, Block.regsBut_inc]⟩, ?_, ?_⟩
    · rw [Block.bit_inc_apart (by cases r <;> decide), Block.bit_wrB_same _ rfl]
    · rw [Block.rd_inc_same, Block.rd_wrB_apart (by cases r <;> decide)]
      rfl
  · refine ⟨_, next_block (exec_brakeEnd f r n s) (Block.cond_of_true hbrake _),
      Block.Keeps.withBlock_eq_graft (S := [.regs, .rails]) (by simp), by simp [Block.regsBut_wrB], ?_, ?_⟩
    · exact Block.bit_wrB_same _ rfl f false
    · exact Block.rail_modRail_same ..
  · refine ⟨_, next_block (exec_railUv f r s) (if_neg (by simp [hon, huv])),
      Block.Keeps.withBlock_eq_graft (S := [.regs, .rails, .fields, .faults]) (by simp), by simp [Block.regsBut_inc], ?_, ?_, ?_⟩
    · exact (Block.rd_modRail ..).trans ((Block.rd_fault ..).trans (Block.rd_inc_same ..))
    · simp
    · exact (Block.faults_fault ..).trans (by rw [lowBits_railNo]; rfl)
  · exact next_block (exec_railUv f r s) (if_pos (by simp [huv]))
  · refine ⟨_, exec_railUvReturn f r s, Block.Keeps.withBlock_eq_graft (S := [.rails]) (by simp), ?_, fun k hk => ?_⟩
    · exact Block.rail_modRail_same ..
    · exact Block.rail_modRail_other _ _ hk

end Sys2Proof.Machine
end

section
/-!
SUPPORT. The events of a phase (O25).
-/

namespace Sys2Proof.Machine

open Sys2Proof

namespace Block

variable {b c : Block} {f p : Nat}

/-! ### The operations on a phase (R64, R196, R200) -/

theorem nActive_congr {rl : Nat} (h : ∀ q : PhaseNo, c.rd (F_PHASE.STATE q) f = b.rd (F_PHASE.STATE q) f) (hrl : rl < 2) :
    c.nActive f rl = b.nActive f rl := by
  refine congrArg List.length (List.filter_congr fun q hq => ?_)
  have hlt : q < 20 := (by decide : ∀ r < 2, ∀ q ∈ railPhases r, q < 20) rl hrl q hq
  exact congrArg (· == phActive) (h ⟨q, hlt⟩)

theorem rd_setPhaseState (b : Block) (now f p st : Nat) (x : Fld) (i : Nat) :
    (b.setPhaseState now f p st).rd x i = (b.wr (F_PHASE.STATE p) f st).rd x i := by
  unfold setPhaseState
  rw [rd_cond fun _ => rd_modRail .., rd_cond fun _ => rd_modPhase ..]

theorem regsBut_setPhaseState (b : Block) (now f p st : Nat) : RegsBut [(F_PHASE.STATE p).key f] b (b.setPhaseState now f p st) :=
  fun x i hk => (rd_setPhaseState ..).trans ((regsBut_wr (List.mem_singleton_self _) st).2 (RegsBut.refl _ b) x i hk)

theorem setPhaseState_hot (b : Block) (now f p st k : Nat) : ((b.setPhaseState now f p st).phase k).hot = (b.phase k).hot := by
  have hwhole (c : Block) : ((c.modPhase (phOf f p) (fun x => { x with balWhole := false })).phase k).hot = (c.phase k).hot := by
    by_cases h : k = phOf f p
    · rw [h, phase_modPhase_same]
    · rw [phase_modPhase_other _ _ h]
  unfold setPhaseState
  cases (b.rd (F_PHASE.STATE p) f == phActive) != (st == phActive) <;> cases st != phActive
  · rfl
  · exact hwhole _
  · rfl
  · exact hwhole _

theorem setPhaseState_keeps (b : Block) (now f p st : Nat) : b.Keeps [.regs, .phases, .rails] (b.setPhaseState now f p st) := by
  unfold setPhaseState
  simp

theorem chanLost_keeps (b : Block) (f p : Nat) : b.Keeps [.regs, .phases, .fields, .faults] (b.chanLost f p) := by
  unfold chanLost
  simp

theorem chanLost_invalid (b : Block) (f : Nat) (p : PhaseNo) : (b.chanLost f p).bit (F_PHASE.CHAN_INVALID p) f = true := by
  have hapart : F_EST.MEAS_LOSS_COUNT.apart (F_PHASE.CHAN_INVALID p) = true := by decide +revert
  unfold chanLost
  dsimp only
  split
  case isTrue h => exact h
  case isFalse => rw [bit_fault, bit_inc_apart hapart]; exact bit_wrB_same _ rfl f true

theorem chanLost_rd {x : Fld} (hcount : F_EST.MEAS_LOSS_COUNT.apart x = true) (hinv : (F_PHASE.CHAN_INVALID p).apart x = true)
    (b : Block) (i : Nat) : (b.chanLost f p).rd x i = b.rd x i := by
  unfold chanLost
  dsimp only
  split
  · rfl
  · rw [rd_fault, rd_inc_apart hcount, rd_wr_apart hinv]; rfl

theorem lastFault_keeps (b : Block) (now f cause rail phase : Nat) (i : LastFaultIn) :
    b.Keeps [.regs, .mon] (b.lastFault now f cause rail phase i) := by
  unfold lastFault
  simp

/-- A last-fault record writes LF_COUNT, LF_TICK and LF_CAUSE alone. -/
theorem lastFault_rd {x : Fld} (htick : F_PHASE.LF_TICK.apart x = true) (hcause : F_PHASE.LF_CAUSE.apart x = true)
    (b : Block) (now f cause rail phase : Nat) (i : LastFaultIn) (j : Nat) :
    (b.lastFault now f cause rail phase i).rd x j = (b.inc F_PHASE.LF_COUNT f).rd x j := by
  unfold lastFault
  have hmon (c : Block) (r : MonRec) : (c.monRecord r).rd x j = c.rd x j :=
    Keeps.rd (S := [.mon]) (by simp) (by decide) x j
  rw [hmon, rd_wr_apart hcause, rd_wr_apart htick]

end Block

/-! ### Over-current and over-temperature (R194, R195) -/

theorem exec_phaseOc (f : FieldNo) (p : PhaseNo) (s : State) : exec (.phaseOc f p) s = .next { s with
    b := if (s.b.phase (phOf f p)).ocHeld || decide ((s.b.phase (phOf f p)).foldRun < s.b.rd F_PHASE.OC_CYCLES f) then s.b
      else ((s.b.inc F_PHASE.OC_EVENTS f).fault 12 f p 0).modPhase (phOf f p) (fun x => { x with ocHeld := true }) } := rfl

/-- Over-temperature of a phase, counted and sent. -/
def Block.otCounted (b : Block) (f p : Nat) : Block :=
  ((b.inc F_PHASE.OT_EVENTS f).fault 13 f p 0).modPhase (phOf f p) (fun x => { x with hot := true })

theorem exec_phaseOt (f : FieldNo) (p : PhaseNo) (s : State) : exec (.phaseOt f p) s = .next { s with
    b := if (s.b.phase (phOf f p)).hot ∨ s.b.rd (F_PHASE.TMON p) f ≤ s.b.rd F_PHASE.OT_C f then s.b
      else if (s.b.otCounted f p).nActive f (phaseRail p) ≤ (s.b.otCounted f p).rd (F_RAIL.MIN_PHASES (phaseRail p)) f ∨
          phDisabled ≤ (s.b.otCounted f p).rd (F_PHASE.STATE p) f then s.b.otCounted f p
        else ((s.b.otCounted f p).wrB (F_PHASE.HELD_OT p) f true).cond
          (((s.b.otCounted f p).wrB (F_PHASE.HELD_OT p) f true).rd (F_PHASE.STATE p) f == phActive)
          (fun b => b.setPhaseState s.tick f p phShed) } := rfl

theorem exec_phaseOtClear (f : FieldNo) (p : PhaseNo) (s : State) : exec (.phaseOtClear f p) s = .next { s with
    b := s.b.cond (decide (s.b.rd (F_PHASE.TMON p) f + s.b.rd F_PHASE.OT_HYS f < s.b.rd F_PHASE.OT_C f)) (fun b =>
      (b.wrB (F_PHASE.HELD_OT p) f false).modPhase (phOf f p) (fun x => { x with hot := false })) } := rfl

/-- A phase whose stage has failed, before it is recorded as the last fault. -/
def Block.stageFailed (b : Block) (now f p off : Nat) : Block :=
  ((((b.wrB (F_PHASE.FAULT_PIN p) f true).chanLost f p).setPhaseState now f p phFailed).inc F_PHASE.STAGE_FAULTS f).fault 14 f p off

theorem exec_phFaultNAssert (f : FieldNo) (p : PhaseNo) (i : LastFaultIn) (s : State) : exec (.phFaultNAssert f p i) s = .next { s with
    b := if ((s.b.wrB (F_PHASE.FAULT_PIN p) f true).chanLost f p).rd (F_PHASE.STATE p) f = phFailed then
        (s.b.wrB (F_PHASE.FAULT_PIN p) f true).chanLost f p
      else (s.b.stageFailed s.tick f p i.sc.val).lastFault s.tick f 5 (phaseRail p) p i } := rfl

theorem Block.stageFailed_keeps (b : Block) (now f p off : Nat) :
    b.Keeps [.regs, .phases, .rails, .fields, .faults] (b.stageFailed now f p off) := by
  unfold stageFailed
  simp

theorem Block.stageFailed_rd {x : Fld} (hcount : F_PHASE.STAGE_FAULTS.apart x = true) (b : Block) (now f p off i : Nat) :
    (b.stageFailed now f p off).rd x i =
      (((b.wrB (F_PHASE.FAULT_PIN p) f true).chanLost f p).wr (F_PHASE.STATE p) f phFailed).rd x i := by
  rw [stageFailed, rd_fault, rd_inc_apart hcount, rd_setPhaseState]

/-- The last-fault record's LF_COUNT, and every part that no phase event touches. -/
theorem Block.stageFailed_keepsAll (b : Block) (now f p off cause rail : Nat) (i : LastFaultIn) :
    b.Keeps [.regs, .phases, .rails, .fields, .faults, .mon] ((b.stageFailed now f p off).lastFault now f cause rail p i) :=
  ((b.stageFailed_keeps now f p off).mono (by simp)).trans ((Block.lastFault_keeps ..).mono (by simp))

theorem Block.lastFault_count (b : Block) (now f cause rail phase : Nat) (i : LastFaultIn) :
    (b.lastFault now f cause rail phase i).rd F_PHASE.LF_COUNT f = (b.rd F_PHASE.LF_COUNT f + 1) % 2 ^ 32 := by
  rw [lastFault_rd (by decide) (by decide), rd_inc_same]
  rfl

theorem phaseRail_lt (p : PhaseNo) : phaseRail p < 2 := by decide +revert

theorem lowBits_phase (p : PhaseNo) : lowBits 16 p = p := Nat.mod_eq_of_lt (p.isLt.trans (by decide))

namespace Block

theorem otCounted_keeps (b : Block) (f p : Nat) : b.Keeps [.regs, .phases, .fields, .faults] (b.otCounted f p) := by
  unfold otCounted
  simp

theorem otCounted_regsBut (b : Block) (f p : Nat) : RegsBut [F_PHASE.OT_EVENTS.key f] b (b.otCounted f p) := by
  unfold otCounted
  simp [regsBut_inc]

theorem otCounted_count (b : Block) (f p : Nat) :
    (b.otCounted f p).rd F_PHASE.OT_EVENTS f = (b.rd F_PHASE.OT_EVENTS f + 1) % 2 ^ 32 := by
  unfold otCounted
  rw [rd_modPhase, rd_fault, rd_inc_same]
  rfl

theorem otCounted_rd {x : Fld} (h : F_PHASE.OT_EVENTS.apart x = true) (b : Block) (f p i : Nat) : (b.otCounted f p).rd x i = b.rd x i := by
  unfold otCounted
  rw [rd_modPhase, rd_fault, rd_inc_apart h]

theorem otCounted_faults (b : Block) (f : Nat) (p : PhaseNo) :
    (b.otCounted f p).faults = b.faults ++ [{ src := 13, field := f, detail := p, off := 0 }] :=
  (faults_fault ..).trans (by rw [lowBits_phase]; rfl)

theorem otCounted_hot (b : Block) (f p : Nat) : ((b.otCounted f p).phase (phOf f p)).hot = true := by
  unfold otCounted
  simp

theorem otCounted_nActive (b : Block) (f : Nat) (p q : PhaseNo) : (b.otCounted f p).nActive f (phaseRail q) = b.nActive f (phaseRail q) :=
  nActive_congr (fun q => otCounted_rd (by decide +revert) ..) (phaseRail_lt q)

theorem otCounted_minPhases (b : Block) (f : Nat) (p q : PhaseNo) :
    (b.otCounted f p).rd (F_RAIL.MIN_PHASES (phaseRail q)) f = b.rd (F_RAIL.MIN_PHASES (phaseRail q)) f :=
  otCounted_rd (by decide +revert) ..

end Block

/-- Settles O25: each event's writes read back one by one, over the twenty phases. -/
theorem phaseEvents : Obligations.PhaseEvents := by
  refine ⟨fun f p s hheld hrun => ?_, fun f p s hheld => ?_, fun f p s hhot htmp hspare hst => ?_, fun f p s hhot htmp hspare => ?_,
    fun f p s hhot => ?_, fun f p s htmp => ?_, fun f p s htmp => ?_, fun f p i s hst => ?_⟩
  · refine ⟨_, next_block (exec_phaseOc f p s) (if_neg (by simpa [hheld] using hrun)),
      Block.Keeps.withBlock_eq_graft (S := [.regs, .phases, .fields, .faults]) (by simp), by simp [Block.regsBut_inc], ?_, ?_, ?_⟩
    · exact (Block.rd_modPhase ..).trans ((Block.rd_fault ..).trans (Block.rd_inc_same ..))
    · simp
    · exact (Block.faults_fault ..).trans (by rw [lowBits_phase]; rfl)
  · exact next_block (exec_phaseOc f p s) (if_pos (by simp [hheld]))
  · have hrd : (s.b.otCounted f p).rd (F_PHASE.STATE p) f = phActive := (Block.otCounted_rd (by clear * - p; decide +revert) ..).trans hst
    have hheldot : ((s.b.otCounted f p).wrB (F_PHASE.HELD_OT p) f true).rd (F_PHASE.STATE p) f = phActive :=
      (Block.rd_wrB_apart (by clear * - p; decide +revert) ..).trans hrd
    have hspare' : ¬((s.b.otCounted f p).nActive f (phaseRail p) ≤ (s.b.otCounted f p).rd (F_RAIL.MIN_PHASES (phaseRail p)) f ∨
        phDisabled ≤ (s.b.otCounted f p).rd (F_PHASE.STATE p) f) := by
      rw [Block.otCounted_nActive, Block.otCounted_minPhases, hrd]
      simpa [phDisabled, phActive] using hspare
    refine ⟨_, next_block (exec_phaseOt f p s) ((if_neg (by simpa [hhot] using htmp)).trans
      ((if_neg hspare').trans (Block.cond_of_true (by simp [hheldot]) _))), inBlock_mk .., ?_, ?_, ?_, ?_, ?_, ?_⟩
    · exact (Block.rd_setPhaseState ..).trans (Block.rd_wr_same ..)
    · rw [Block.bit, Block.rd_setPhaseState, Block.rd_wr_apart (by clear * - p; decide +revert)]
      exact Block.bit_wrB_same _ rfl f true
    · rw [Block.rd_setPhaseState, Block.rd_wr_apart (by clear * - p; decide +revert), Block.rd_wrB_apart (by clear * - p; decide +revert), Block.otCounted_count]
    · exact (Block.setPhaseState_hot ..).trans (Block.otCounted_hot ..)
    · exact ((Block.setPhaseState_keeps ..).faults (by decide)).trans (s.b.otCounted_faults f p)
    · refine (((s.b.otCounted_regsBut f p).mono (by simp)).trans ?_).trans ((Block.regsBut_setPhaseState _ s.tick f p phShed).mono (by simp))
      simp [Block.regsBut_wrB]
  · refine ⟨_, next_block (exec_phaseOt f p s) ((if_neg (by simpa [hhot] using htmp)).trans (if_pos (.inl ?_))),
      (s.b.otCounted_keeps f p).withBlock_eq_graft, s.b.otCounted_regsBut f p, s.b.otCounted_count f p, s.b.otCounted_faults f p⟩
    rw [Block.otCounted_nActive, Block.otCounted_minPhases]
    exact hspare
  · exact next_block (exec_phaseOt f p s) (if_pos (.inl hhot))
  · refine ⟨_, next_block (exec_phaseOtClear f p s) (Block.cond_of_true (by simpa using htmp) _),
      Block.Keeps.withBlock_eq_graft (S := [.regs, .phases]) (by simp), by simp [Block.regsBut_wrB], ?_, ?_, fun k hk => ?_⟩
    · exact Block.bit_wrB_same _ rfl f false
    · exact Block.phase_modPhase_same ..
    · exact Block.phase_modPhase_other _ _ hk
  · exact next_block (exec_phaseOtClear f p s) (Block.cond_of_false (by simpa using htmp) _)
  · have hrd : ((s.b.wrB (F_PHASE.FAULT_PIN p) f true).chanLost f p).rd (F_PHASE.STATE p) f = s.b.rd (F_PHASE.STATE p) f :=
      (Block.chanLost_rd (by clear * - p; decide +revert) (by clear * - p; decide +revert) ..).trans (Block.rd_wrB_apart (by clear * - p; decide +revert) ..)
    refine ⟨_, next_block (exec_phFaultNAssert f p i s) (if_neg (by rwa [hrd])), inBlock_mk .., ?_, ?_, ?_, ?_, ?_, ?_, ?_⟩
    · rw [Block.lastFault_rd (by clear * - p; decide +revert) (by clear * - p; decide +revert), Block.rd_inc_apart (by clear * - p; decide +revert),
        Block.stageFailed_rd (by clear * - p; decide +revert), Block.rd_wr_same]
      rfl
    · have hpin : (s.b.wrB (F_PHASE.FAULT_PIN p) f true).bit (F_PHASE.FAULT_PIN p) f = true := Block.bit_wrB_same _ rfl f true
      rw [Block.bit] at hpin ⊢
      rw [Block.lastFault_rd (by clear * - p; decide +revert) (by clear * - p; decide +revert), Block.rd_inc_apart (by clear * - p; decide +revert),
        Block.stageFailed_rd (by clear * - p; decide +revert), Block.rd_wr_apart (by clear * - p; decide +revert),
        Block.chanLost_rd (by clear * - p; decide +revert) (by clear * - p; decide +revert), hpin]
    · have hinv := (s.b.wrB (F_PHASE.FAULT_PIN p) f true).chanLost_invalid f p
      rw [Block.bit] at hinv ⊢
      rw [Block.lastFault_rd (by clear * - p; decide +revert) (by clear * - p; decide +revert), Block.rd_inc_apart (by clear * - p; decide +revert),
        Block.stageFailed_rd (by clear * - p; decide +revert), Block.rd_wr_apart (by clear * - p; decide +revert), hinv]
    · rw [Block.lastFault_rd (by decide) (by decide), Block.rd_inc_apart (by decide), Block.stageFailed, Block.rd_fault, Block.rd_inc_same,
        Block.rd_setPhaseState, Block.rd_wr_apart (by clear * - p; decide +revert), Block.chanLost_rd (by decide) (by clear * - p; decide +revert),
        Block.rd_wrB_apart (by clear * - p; decide +revert)]
      rfl
    · rw [Block.lastFault_count, Block.stageFailed_rd (by decide), Block.rd_wr_apart (by clear * - p; decide +revert),
        Block.chanLost_rd (by decide) (by clear * - p; decide +revert), Block.rd_wrB_apart (by clear * - p; decide +revert)]
    · exact (Block.stageFailed_keepsAll ..).same .agents (by decide)
    · exact (Block.stageFailed_keepsAll ..).same .slots (by decide)

end Sys2Proof.Machine
end

section
/-!
SUPPORT. Modulation, restoring, balance and the targets of a field's rails (O26).
-/

namespace Sys2Proof.Machine

open Sys2Proof

theorem Block.Keeps.rdZ {S : List Part} {a b : Block} (h : a.Keeps S b) (hS : .regs ∉ S) (x : Fld) (i : Nat) : b.rdZ x i = a.rdZ x i := by
  rw [Block.rdZ, Block.rdZ, h.rd hS]

/-! ### A pulse (R176 to R178, R194) -/

namespace Block

theorem onTime_congr {b c : Block} (h : b.Keeps [.phases] c) (f rl p : Nat) : c.onTime f rl p = b.onTime f rl p := by
  simp only [onTime, h.fu (by decide), h.rd (by decide), h.rdZ (by decide), h.rail (by decide)]

/-- The phases of a rail that have rested, in rotation. -/
def rested (b : Block) (f rl t : Nat) : List Nat :=
  (b.rotation f rl).filter (fun p => decide ((b.phase (phOf f p)).pulseEnd + 480 ≤ 8 * t))

/-- Phase `p` takes a pulse at `t`, and the ramp restarts. -/
def pulsed (b : Block) (f rl t p : Nat) : Block :=
  (b.modPhase (phOf f p) (fun x => { x with pulseEnd := 8 * t + b.onTime f rl p })).modRail (railOf f rl) (fun x =>
    { x with rampFrom := t, nextPhase := p + 1 })

/-- The phases above the limit that a pulse passes over are held back. -/
def passedOver (b : Block) (f rl t vout : Nat) (amps : Vector (BitVec 8) 20) : Block :=
  b.each ((b.rested f rl t).takeWhile (fun p => b.overLimit f rl vout (amps.toList.getD p 0).toNat)) (fun b p => b.withhold f rl p t)

theorem passedOver_keeps (b : Block) (f rl t vout : Nat) (amps : Vector (BitVec 8) 20) : b.Keeps [.phases] (b.passedOver f rl t vout amps) := by
  unfold passedOver
  simp

theorem pulsed_keeps (b : Block) (f rl t p : Nat) : b.Keeps [.rails, .phases] (b.pulsed f rl t p) := by
  unfold pulsed
  simp

end Block

theorem exec_modulatorTrigger_pulse {f : FieldNo} {r : Rail} {n : Nat} {v : BitVec 16} {a : Vector (BitVec 8) 20} {p : Nat} {s : State}
    (hrun : (s.b.rail (railOf f (railNo r))).run ≠ 0) (hbrake : s.b.bit (F_RAIL.BRAKING (railNo r)) f = false)
    (hlow : 2 * v.toNat * 1000000 + 8 * s.b.rampAt f (railNo r) n < (s.b.rail (railOf f (railNo r))).refv * 1000000)
    (hp : (s.b.rested f (railNo r) n).find? (fun p => !s.b.overLimit f (railNo r) v.toNat (a.toList.getD p 0).toNat) = some p) :
    exec (.modulatorTrigger f r n v a) s =
      .next { s with b := (s.b.passedOver f (railNo r) n v.toNat a).pulsed f (railNo r) n p } := by
  simp only [exec, execModulatorTrigger, onB]
  rw [if_neg (by simp [hrun, hbrake, hlow])]
  simp only [Block.rested] at hp
  rw [hp]
  rfl

theorem exec_modulatorTrigger_braking {f : FieldNo} {r : Rail} {n : Nat} {v : BitVec 16} {a : Vector (BitVec 8) 20} {s : State}
    (hbrake : s.b.bit (F_RAIL.BRAKING (railNo r)) f = true) : exec (.modulatorTrigger f r n v a) s = .next s := by
  simp only [exec, execModulatorTrigger, onB]
  rw [if_pos (.inr (.inl hbrake))]

/-! ### Restoring the phases (R181) -/

theorem exec_phaseRestoreAll (f : FieldNo) (r : Rail) (why : RestoreCause) (s : State) : exec (.phaseRestoreAll f r why) s =
    .next { s with b := s.b.cond (s.b.restoreDue f (railNo r) why) (fun b => b.restoreAll s.tick f (railNo r)) } := rfl

theorem Block.restoreAll_keeps (b : Block) (now f rl : Nat) : b.Keeps [.regs, .rails, .phases] (b.restoreAll now f rl) := by simp

theorem railPhases_lt {rl p : Nat} (hp : p ∈ railPhases rl) : p < 20 := by
  unfold railPhases at hp
  split at hp <;> simp at hp <;> omega

theorem Block.restoreAll_active {b : Block} {now f rl p : Nat} (hrl : rl < 2) (hp : p ∈ railPhases rl)
    (hst : b.rd (F_PHASE.STATE p) f = phShed) (hheld : b.bit (F_PHASE.HELD_OT p) f = false) :
    (b.restoreAll now f rl).rd (F_PHASE.STATE p) f = phActive := by
  have hmem : p ∈ (b.phasesIn f rl phShed).filter (fun p => !b.bit (F_PHASE.HELD_OT p) f) := by
    simp [phasesIn, hp, hst, hheld]
  have hcount : (F_RAIL.RESTORE_ALL rl).apart (F_PHASE.STATE p) = true :=
    (by decide : ∀ r < 2, ∀ p < 20, (F_RAIL.RESTORE_ALL r).apart (F_PHASE.STATE p) = true) rl hrl p (railPhases_lt hp)
  unfold restoreAll
  dsimp only
  rw [if_neg (by simp [List.ne_nil_of_mem hmem]), rd_inc_apart hcount]
  refine each_reaches (p := fun b => b.rd (F_PHASE.STATE p) f) (fun b => ?_) (fun b y => ?_) hmem b
  · exact (rd_setPhaseState ..).trans (rd_wr_same ..)
  · simp only [rd_setPhaseState]
    obtain rfl | hy := eq_or_ne y p
    · exact .inl (rd_wr_same ..)
    · refine .inr (rd_wr_other _ _ ?_)
      simp only [Fld.key, F_PHASE.STATE]
      omega

/-! ### The balance period (R179, R275) -/

namespace Block

/-- The trims that the phases `l` get for the next boundary. -/
def balanceTrims (b : Block) (f : Nat) (l : List Nat) (total : Int) (n step : Nat) : Block :=
  b.each l (fun b p => b.modPhase (phOf f p) (fun x' => { x' with
    trimNext := some (balanceTrim (b.rdZ (F_PHASE.BAL_TRIM p) f) (b.phase (phOf f p)).balSum total n (b.phase (phOf f p)).balTicks step) }))

/-- The phases `l` are counted and sent as over-temperature. -/
def countHot (b : Block) (f : Nat) (l : List Nat) : Block :=
  b.each l (fun b p => (b.inc F_PHASE.OT_EVENTS f).fault 13 f p 0)

/-- The sums of the phases `l` restart. -/
def restartSums (b : Block) (f : Nat) (l : List Nat) : Block :=
  b.each l (fun b p => b.modPhase (phOf f p) (fun x =>
    { x with balSum := 0, balTicks := 0, balWhole := b.rd (F_PHASE.STATE p) f == phActive }))

/-- The phases of a rail whose sums are of a whole period. -/
def balanced (b : Block) (f rl : Nat) : List Nat :=
  (b.phasesIn f rl phActive).filter (fun p => (b.phase (phOf f p)).balWhole && (b.phase (phOf f p)).balTicks != 0)

/-- The trims of the period that ends, where they count. -/
def trimmed (b : Block) (f rl : Nat) : Block :=
  b.cond ((b.proc f).st == 0 && !(b.rail (railOf f rl)).balBroken) (fun b =>
    b.balanceTrims f (b.balanced f rl) ((b.balanced f rl).map (fun p => (b.phase (phOf f p)).balSum)).sum (b.balanced f rl).length
      (b.rd F_PHASE.BAL_STEP f))

/-- The end of a balance period of a rail. -/
def balanceEnd (b : Block) (now f rl : Nat) : Block :=
  (((b.trimmed f rl).countHot f (((b.trimmed f rl).phasesIn f rl phActive).filter (fun p =>
    decide ((b.trimmed f rl).rd F_PHASE.OT_C f < (b.trimmed f rl).rd (F_PHASE.TMON p) f)))).restartSums f (railPhases rl)).modRail
      (railOf f rl) (fun x => { x with balBroken := !((b.proc f).st == 0), balAt := some now })

end Block

theorem exec_balancePeriodEnd (f : FieldNo) (r : Rail) (s : State) : exec (.balancePeriodEnd f r) s = .next { s with
    b := if s.tick % 64 ≠ 0 ∨ (s.b.rail (railOf f (railNo r))).balAt = some s.tick then s.b
      else s.b.balanceEnd s.tick f (railNo r) } := rfl

theorem phOf_inj {f p q : Nat} : phOf f p = phOf f q ↔ p = q := by
  unfold phOf
  omega

namespace Block

variable (b : Block) (f rl : Nat) (l : List Nat)

theorem balanceTrims_keeps (total : Int) (n step : Nat) : b.Keeps [.phases] (b.balanceTrims f l total n step) := by
  unfold balanceTrims
  simp

theorem trimmed_keeps : b.Keeps [.phases] (b.trimmed f rl) := by
  unfold trimmed cond
  split
  · exact balanceTrims_keeps ..
  · exact .refl _ _

theorem countHot_keeps : b.Keeps [.regs, .fields, .faults] (b.countHot f l) := by
  unfold countHot
  simp

theorem countHot_regsBut : RegsBut [F_PHASE.OT_EVENTS.key f] b (b.countHot f l) := by
  refine each_inv (I := RegsBut [F_PHASE.OT_EVENTS.key f] b) (fun _ _ c h => h.trans ?_) (RegsBut.refl _ b)
  simp [regsBut_inc]

theorem restartSums_keeps : b.Keeps [.phases] (b.restartSums f l) := by
  unfold restartSums
  simp

theorem balanceEnd_keeps (now : Nat) : b.Keeps [.regs, .rails, .phases, .fields, .faults] (b.balanceEnd now f rl) := by
  unfold balanceEnd
  exact ((((b.trimmed_keeps f rl).mono (by simp)).trans ((countHot_keeps ..).mono (by simp))).trans
    ((restartSums_keeps ..).mono (by simp))).trans ((modRail_keeps ..).mono (by simp))

theorem balanceEnd_regsBut (now : Nat) : RegsBut [F_PHASE.OT_EVENTS.key f] b (b.balanceEnd now f rl) :=
  (((b.trimmed_keeps f rl).regsBut (by decide)).trans (countHot_regsBut _ f _)).trans ((restartSums_keeps ..).regsBut (by decide))

/-- The sums of every phase of a field, and the registers, are those of `b`. -/
structure SameSums (c : Block) : Prop where
  regs : c.regs = b.regs
  sum : ∀ q, (c.phase (phOf f q)).balSum = (b.phase (phOf f q)).balSum
  ticks : ∀ q, (c.phase (phOf f q)).balTicks = (b.phase (phOf f q)).balTicks

theorem SameSums.setTrim {c : Block} (h : b.SameSums f c) (p : Nat) (v : Option Int) :
    b.SameSums f (c.modPhase (phOf f p) (fun x => { x with trimNext := v })) := by
  refine ⟨h.regs, fun q => ?_, fun q => ?_⟩ <;> obtain rfl | hq := eq_or_ne q p
  · simp [h.sum]
  · rw [phase_modPhase_other _ _ (phOf_inj.not.2 hq), h.sum]
  · simp [h.ticks]
  · rw [phase_modPhase_other _ _ (phOf_inj.not.2 hq), h.ticks]

variable {b f l}

theorem balanceTrims_trimNext {total : Int} {n step p : Nat} (hp : p ∈ l) :
    ((b.balanceTrims f l total n step).phase (phOf f p)).trimNext = some (balanceTrim (b.rdZ (F_PHASE.BAL_TRIM p) f)
      (b.phase (phOf f p)).balSum total n (b.phase (phOf f p)).balTicks step) := by
  refine each_reaches_of (p := fun c => (c.phase (phOf f p)).trimNext) (I := b.SameSums f)
    (fun y _ c hc => hc.setTrim b f y _) (fun c hc => ?_) (fun y _ c hc => ?_) hp ⟨rfl, fun _ => rfl, fun _ => rfl⟩
  · simp only [phase_modPhase_same, hc.sum, hc.ticks, rdZ, rd_congr hc.regs]
  · obtain rfl | hy := eq_or_ne p y
    · simp only [phase_modPhase_same, hc.sum, hc.ticks, rdZ, rd_congr hc.regs, true_or]
    · exact .inr (by rw [phase_modPhase_other _ _ (phOf_inj.not.2 hy)])

theorem restartSums_trimNext (b : Block) (f k : Nat) (l : List Nat) : ((b.restartSums f l).phase k).trimNext = (b.phase k).trimNext := by
  refine each_inv (I := fun c => (c.phase k).trimNext = (b.phase k).trimNext) (fun p _ c h => ?_) rfl
  obtain rfl | hk := eq_or_ne k (phOf f p)
  · simpa using h
  · rw [phase_modPhase_other _ _ hk, h]

theorem restartSums_balSum {p : Nat} (hp : p ∈ l) : ((b.restartSums f l).phase (phOf f p)).balSum = 0 := by
  refine each_reaches (p := fun c => (c.phase (phOf f p)).balSum) (fun c => by simp) (fun c y => ?_) hp b
  obtain rfl | hy := eq_or_ne p y
  · exact .inl (by simp)
  · exact .inr (by rw [phase_modPhase_other _ _ (phOf_inj.not.2 hy)])

theorem restartSums_balTicks {p : Nat} (hp : p ∈ l) : ((b.restartSums f l).phase (phOf f p)).balTicks = 0 := by
  refine each_reaches (p := fun c => (c.phase (phOf f p)).balTicks) (fun c => by simp) (fun c y => ?_) hp b
  obtain rfl | hy := eq_or_ne p y
  · exact .inl (by simp)
  · exact .inr (by rw [phase_modPhase_other _ _ (phOf_inj.not.2 hy)])

theorem balanceEnd_trimNext {rl : Nat} (now : Nat) (hst : (b.proc f).st = 0) (hwhole : (b.rail (railOf f rl)).balBroken = false)
    {p : Nat} (hp : p ∈ b.balanced f rl) : ((b.balanceEnd now f rl).phase (phOf f p)).trimNext =
      some (balanceTrim (b.rdZ (F_PHASE.BAL_TRIM p) f) (b.phase (phOf f p)).balSum
        ((b.balanced f rl).map (fun p => (b.phase (phOf f p)).balSum)).sum (b.balanced f rl).length (b.phase (phOf f p)).balTicks
        (b.rd F_PHASE.BAL_STEP f)) := by
  rw [balanceEnd, (modRail_keeps ..).phase (by decide), restartSums_trimNext, (countHot_keeps ..).phase (by decide), trimmed,
    cond_of_true (by simp [hst, hwhole])]
  exact balanceTrims_trimNext hp

theorem balanceEnd_sums {rl : Nat} (now : Nat) {p : Nat} (hp : p ∈ railPhases rl) :
    ((b.balanceEnd now f rl).phase (phOf f p)).balSum = 0 ∧ ((b.balanceEnd now f rl).phase (phOf f p)).balTicks = 0 := by
  rw [balanceEnd, (modRail_keeps ..).phase (by decide)]
  exact ⟨restartSums_balSum hp, restartSums_balTicks hp⟩

theorem balanceEnd_balAt {rl : Nat} (now : Nat) : ((b.balanceEnd now f rl).rail (railOf f rl)).balAt = some now := by
  rw [balanceEnd, rail_modRail_same]

/-! ### The contour's targets (R186, R191, R359) -/

theorem rd_record {x : Fld} (hx : x.Fits ∧ x.page ∉ [0x1F, 0x4B]) (b : Block) (k now off code parcel aux dataA dataB i : Nat) :
    (b.record k now off code parcel aux dataA dataB).rd x i = b.rd x i :=
  ((regsOff_record (List.Subset.refl _) ..).2 (RegsOff.refl _ b)).rd hx i

/-- Selecting a datum changes the rail's own page alone, and there neither VSEL again nor a datum. -/
theorem select_rd {now f rl k : Nat} {x : Fld} (hx : x.Fits ∧ x.page ∉ [0x1F, 0x4B]) (htarget : (F_RAIL.TARGET rl).apart x = true)
    (hretargets : (F_RAIL.RETARGETS rl).apart x = true) (harrived : (F_RAIL.ARRIVED rl).apart x = true)
    (hslewing : (F_RAIL.SLEWING rl).apart x = true) (b : Block) (i : Nat) :
    (b.select now f rl k).rd x i = (b.wr (F_RAIL.VSEL rl) f k).rd x i := by
  unfold select
  dsimp only
  rw [rd_record hx, rd_cond fun _ => (rd_wrB_apart hslewing ..).trans (rd_wrB_apart harrived ..), rd_cond fun _ => rd_inc_apart hretargets ..,
    rd_wr_apart htarget]

theorem foldl_max_le {l : List Nat} {a n : Nat} (ha : a ≤ n) (h : ∀ x ∈ l, x ≤ n) : l.foldl max a ≤ n := by
  induction l generalizing a with
  | nil => exact ha
  | cons x l ih => exact ih (max_le ha (h x List.mem_cons_self)) fun y hy => h y (List.mem_cons_of_mem x hy)

theorem targetCodes_lt (b : Block) (now f : Nat) : (b.targetCodes now f).1 < 2 ^ 9 ∧ (b.targetCodes now f).2 < 2 ^ 9 := by
  refine ⟨?_, (Nat.min_le_left ..).trans_lt (by decide)⟩
  refine (foldl_max_le (n := 90) (Nat.zero_le _) fun x hx => ?_).trans_lt (by decide)
  obtain ⟨k, -, rfl⟩ := List.mem_map.1 hx
  exact Nat.min_le_left ..

/-- The selected datum of a rail holds a code. -/
abbrev AtCode (b : Block) (f rl code : Nat) : Prop := b.rd (F_RAIL.DATUM rl (b.rd (F_RAIL.VSEL rl) f)) f = code

theorem atCode_congr {b c : Block} {f rl code : Nat} (hsel : c.rd (F_RAIL.VSEL rl) f = b.rd (F_RAIL.VSEL rl) f)
    (hdatum : ∀ k < 8, c.rd (F_RAIL.DATUM rl k) f = b.rd (F_RAIL.DATUM rl k) f) (h : b.AtCode f rl code) : c.AtCode f rl code := by
  rw [AtCode, hsel, hdatum _ (rd_lt b ..)]
  exact h

theorem select_vsel (b : Block) (now f : Nat) {rl k : Nat} (hrl : rl < 2) (hk : k < 8) :
    (b.select now f rl k).rd (F_RAIL.VSEL rl) f = k := by
  rw [select_rd (by clear * - hrl; decide +revert) (by clear * - hrl; decide +revert) (by clear * - hrl; decide +revert)
    (by clear * - hrl; decide +revert) (by clear * - hrl; decide +revert), rd_wr_same]
  exact Nat.mod_eq_of_lt hk

theorem select_datum (b : Block) (now f k : Nat) {rl : Nat} (hrl : rl < 2) {j : Nat} (hj : j < 8) :
    (b.select now f rl k).rd (F_RAIL.DATUM rl j) f = b.rd (F_RAIL.DATUM rl j) f := by
  rw [select_rd (by clear * - hrl hj; decide +revert) (by clear * - hrl hj; decide +revert)
    (by clear * - hrl hj; decide +revert) (by clear * - hrl hj; decide +revert)
    (by clear * - hrl hj; decide +revert), rd_wr_apart (by clear * - hrl hj; decide +revert)]

theorem seqSelect_atCode (b : Block) (now f : Nat) {rl code : Nat} (hrl : rl < 2) (hcode : code < 2 ^ 9) :
    (b.seqSelect now f rl code).AtCode f rl code := by
  unfold seqSelect AtCode
  dsimp only
  generalize hk : (if b.rd (F_RAIL.VSEL rl) f = 0 then 1 else 0) = k
  have hlt : k < 8 := by split at hk <;> omega
  rw [select_vsel _ _ _ hrl hlt, select_datum _ _ _ _ hrl hlt, rd_wr_same]
  exact Nat.mod_eq_of_lt hcode

/-- Moving VSRAM leaves VCORE's datums and select. -/
theorem seqSelect_rd_core {x : Fld} (hx : x.Fits ∧ x.page ∉ [0x48, 0x1F, 0x4B]) (b : Block) (now f code i : Nat) :
    (b.seqSelect now f 1 code).rd x i = b.rd x i := by
  refine RegsOff.rd (P := [0x48, 0x1F, 0x4B]) ?_ hx i
  unfold seqSelect select
  dsimp only
  rw [regsOff_record (by decide), regsOff_cond fun _ => by simp (disch := decide), regsOff_cond fun _ => by simp (disch := decide)]
  split <;> simp (disch := decide)

theorem shapeNumbers_rd {x : Fld} (hx : x.Fits ∧ x.page ∉ [0x45]) (b : Block) (f i : Nat) : (b.shapeNumbers f).rd x i = b.rd x i := by
  refine RegsOff.rd (P := [0x45]) ?_ hx i
  unfold shapeNumbers
  simp (disch := decide)

theorem shapeNumbers_regsBut (b : Block) (f : Nat) : RegsBut [F_DROOP.SHAPE_EC.key f, F_DROOP.STEP_DENSE.key f,
    F_DROOP.STEP_SPARSE.key f, F_DROOP.STEP_COMPAT.key f, F_DROOP.RING_ALLOW.key f] b (b.shapeNumbers f) := by
  unfold shapeNumbers
  simp [regsBut_wr]

theorem shapeNumbers_atCode {b : Block} {f rl code : Nat} (hrl : rl < 2) (h : b.AtCode f rl code) : (b.shapeNumbers f).AtCode f rl code :=
  atCode_congr (shapeNumbers_rd (by clear * - hrl; decide +revert) ..)
    (fun k hk => shapeNumbers_rd (by clear * - hrl hk; decide +revert) ..) h

/-- After the targets are selected, the selected datums hold them. -/
theorem retarget_atCodes {b : Block} (h : b.hub.takenOver = true) (now f : Nat) :
    (b.retarget now f).AtCode f 0 (b.targetCodes now f).1 ∧ (b.retarget now f).AtCode f 1 (b.targetCodes now f).2 := by
  obtain ⟨hcore, hsram⟩ := b.targetCodes_lt now f
  unfold retarget
  dsimp only
  split
  case isTrue hold =>
    simp only [h, Bool.not_true, Bool.false_or, Bool.and_eq_true, seqHolds, beq_iff_eq] at hold
    exact ⟨hold.1.2, hold.2.2⟩
  case isFalse =>
    refine ⟨atCode_congr (seqSelect_rd_core (by decide) ..) (fun k hk => seqSelect_rd_core (by clear * - hk; decide +revert) ..)
      (seqSelect_atCode b now f (by decide) hcore), seqSelect_atCode _ now f (by decide) hsram⟩

theorem retarget_of_held {b : Block} (h : b.hub.takenOver = false) (now f : Nat) : b.retarget now f = b := by
  unfold retarget
  dsimp only
  rw [if_pos (by simp [h])]

end Block

theorem exec_contourTargetSelect (f : FieldNo) (s : State) : exec (.contourTargetSelect f) s =
    .next { s with b := (s.b.retarget s.tick f).shapeNumbers f } := rfl

/-- Settles O26: a pulse after the phases passed over, the balance period's four passes, and the datums that the sequencers write. -/
theorem modulationAndTargets : Obligations.ModulationAndTargets := by
  refine ⟨fun f r n v a p s hrun hbrake hlow hp => ?_, fun f r n v a s hbrake => exec_modulatorTrigger_braking hbrake, fun f r why s hdue => ?_,
    fun f r l s htick hat hl => ?_, fun f r s h => ?_, fun f s htaken => ?_, fun f s htaken => ?_⟩
  · have hk := s.b.passedOver_keeps f (railNo r) n v.toNat a
    refine ⟨_, exec_modulatorTrigger_pulse hrun hbrake hlow hp,
      ((hk.mono (by simp)).trans (Block.pulsed_keeps ..)).withBlock_eq_graft (S := [.rails, .phases]), ?_, ?_, fun k hne => ?_⟩
    · simp [Block.pulsed, (Block.modRail_keeps ..).phase, Block.onTime_congr hk]
    · rw [Block.pulsed, Block.rail_modRail_same, (Block.modPhase_keeps ..).rail (by decide), hk.rail (by decide)]
    · rw [Block.pulsed, Block.rail_modRail_other _ _ hne, (Block.modPhase_keeps ..).rail (by decide), hk.rail (by decide)]
  · refine ⟨_, next_block (exec_phaseRestoreAll f r why s) (Block.cond_of_true hdue _), inBlock_mk .., ?_, fun p hp hst hheld => ?_⟩
    · exact (s.b.restoreAll_keeps ..).same .agents (by decide)
    · exact Block.restoreAll_active (railNo_lt r) hp hst hheld
  · subst hl
    refine ⟨_, next_block (exec_balancePeriodEnd f r s) (if_neg (by simp [htick, hat])), (s.b.balanceEnd_keeps ..).withBlock_eq_graft,
      s.b.balanceEnd_regsBut f (railNo r) s.tick, fun hst hwhole p hp => Block.balanceEnd_trimNext s.tick hst hwhole hp,
      Block.balanceEnd_balAt s.tick, fun p hp => Block.balanceEnd_sums s.tick hp⟩
  · exact next_block (exec_balancePeriodEnd f r s) (if_pos h)
  · obtain ⟨hcore, hsram⟩ := Block.retarget_atCodes htaken s.tick f
    refine ⟨_, exec_contourTargetSelect f s, inBlock_mk .., ?_, Block.shapeNumbers_atCode (by decide) hcore,
      Block.shapeNumbers_atCode (by decide) hsram⟩
    exact Block.Keeps.same (S := [.regs, .fields, .traces]) (by simp) .agents (by decide)
  · refine ⟨_, exec_contourTargetSelect f s, Block.Keeps.withBlock_eq_graft (S := [.regs]) ?_, ?_⟩ <;>
      rw [Block.retarget_of_held htaken]
    · simp
    · exact s.b.shapeNumbers_regsBut f

end Sys2Proof.Machine
end

section
/-!
SUPPORT. The statuses of the commands write registers of the window's pages alone.
-/

namespace Sys2Proof.Machine.Block

open Sys2Proof

variable {P : List Nat} {a b : Block}

theorem regsOff_each_mem {α : Type} {g : Block → α → Block} {l : List α} (hg : ∀ x ∈ l, ∀ b : Block, b.RegsOff P (g b x)) :
    a.RegsOff P (b.each l g) ↔ a.RegsOff P b := by
  refine RegsOff.step (List.Subset.refl P) ?_
  exact each_inv (I := b.RegsOff P) (fun x hx c hc => hc.trans (hg x hx c)) (RegsOff.refl P b)

/-- HUB_STATE and the three ports of HUB_CMD. -/
def windowPages : List Nat := [0x12, 0x13, 0x14, 0x15]

@[simp] theorem regsOff_ibi (k : Nat) : a.RegsOff P (b.ibi k) ↔ a.RegsOff P b := by
  unfold ibi
  split
  · exact regsOff_modHub ..
  · rfl

theorem rspData_window : ∀ pt < 3, ∀ k ∈ List.range 8,
    (HUB_CMD.RSP_DATA pt k).Fits ∧ (HUB_CMD.RSP_DATA pt k).page ∈ windowPages := by decide

theorem status_window : ∀ pt < 3, ∀ x ∈ [HUB_CMD.PORT_STATE pt, HUB_CMD.HELD pt, HUB_CMD.FINAL_TICK pt, HUB_CMD.RSP_STATUS pt,
    HUB_CMD.RSP_OPCODE pt, HUB_CMD.RSP_SEQ pt, HUB_CMD.RSP_DETAIL pt], x.Fits ∧ x.page ∈ windowPages := by decide

variable (hP : windowPages ⊆ P) (now : Nat) {pt : Nat} (hpt : pt < 3)

include hpt

include hP

@[simp] theorem regsOff_status (fl : Flight) (status detail : Nat) (data : List Nat) :
    a.RegsOff P (b.status now pt fl status detail data) ↔ a.RegsOff P b := by
  refine RegsOff.step hP ?_
  have hdata := rspData_window pt hpt
  have hfld := status_window pt hpt
  simp only [List.forall_mem_cons] at hfld
  obtain ⟨hstate, hheld, hfinal, hstatus, hopcode, hseq, hdetail, -⟩ := hfld
  unfold Block.status
  dsimp only
  split
  all_goals
    simp only [regsOff_modPort, regsOff_setPort, regsOff_wr hstate, regsOff_wrB hheld, regsOff_wr hfinal]
    rw [regsOff_cond fun _ => by simp, regsOff_cond fun _ => by simp, regsOff_setFlag (by decide), regsOff_wr hstatus,
      regsOff_wr hopcode, regsOff_wr hseq, regsOff_each_mem fun k hk c => (regsOff_wr (hdata k hk) ..).2 (RegsOff.refl _ c),
      regsOff_wr hdetail]
    exact RegsOff.refl _ b

@[simp] theorem regsOff_answer (status detail : Nat) (data : List Nat) :
    a.RegsOff P (b.answer now pt status detail data) ↔ a.RegsOff P b := by
  refine RegsOff.step (List.Subset.refl P) ?_
  unfold answer
  split
  · exact RegsOff.refl P b
  · split
    · exact (regsOff_setPort ..).2 (RegsOff.refl P b)
    · exact (regsOff_status hP now hpt ..).2 (RegsOff.refl P b)

@[simp] theorem regsOff_done (data : List Nat) : a.RegsOff P (b.done now pt data) ↔ a.RegsOff P b := regsOff_answer hP now hpt ..
@[simp] theorem regsOff_stop (status detail : Nat) : a.RegsOff P (b.stop now pt status detail) ↔ a.RegsOff P b := regsOff_answer hP now hpt ..
@[simp] theorem regsOff_accept (data : List Nat) : a.RegsOff P (b.accept now pt data) ↔ a.RegsOff P b := regsOff_answer hP now hpt ..

end Sys2Proof.Machine.Block

namespace Sys2Proof.Machine.Block

open Sys2Proof

variable {P : List Nat} {a b : Block}

@[simp] theorem regsOff_await (pt : Nat) (w : Wait) : a.RegsOff P (b.await pt w) ↔ a.RegsOff P b := regsOff_modPort ..

theorem rd_await (b : Block) (pt : Nat) (w : Wait) (x : Fld) (i : Nat) : (b.await pt w).rd x i = b.rd x i := rfl

/-- The ports of the window. -/
theorem port_lt {pt : Nat} (h : pt ∈ [0, 1, 2]) : pt < 3 := by decide +revert

@[simp] theorem regsOff_completeWhere (hP : windowPages ⊆ P) (now : Nat) (g : Wait → Option (Nat × Nat × List Nat)) :
    a.RegsOff P (b.completeWhere now g) ↔ a.RegsOff P b := by
  refine regsOff_each_mem fun pt hpt c => ?_
  split
  · exact (regsOff_answer hP now (port_lt hpt) ..).2 (RegsOff.refl P c)
  · exact RegsOff.refl P c

@[simp] theorem regsOff_disableDone (hP : windowPages ⊆ P) (now f : Nat) : a.RegsOff P (b.disableDone now f) ↔ a.RegsOff P b := by
  refine regsOff_each_mem fun pt hpt c => ?_
  split
  · split
    · exact (regsOff_done hP now (port_lt hpt) ..).2 (RegsOff.refl P c)
    · exact (regsOff_await ..).2 (RegsOff.refl P c)
  · exact RegsOff.refl P c

@[simp] theorem regsOff_enableDone (hP : windowPages ⊆ P) (now f : Nat) (back : Bool) :
    a.RegsOff P (b.enableDone now f back) ↔ a.RegsOff P b := by
  refine regsOff_each_mem fun pt hpt c => ?_
  split
  · dsimp only
    split
    · exact RegsOff.refl P c
    · split
      · exact (regsOff_done hP now (port_lt hpt) ..).2 (RegsOff.refl P c)
      · exact (regsOff_await ..).2 (RegsOff.refl P c)
  · exact RegsOff.refl P c

end Sys2Proof.Machine.Block
end

section
/-!
SUPPORT. How a field's pair stops and how a start ends (O27).
-/

namespace Sys2Proof.Machine

open Sys2Proof

namespace Block

variable {b : Block} {f : Nat}

/-! ### A rail that stops -/

/-- What the flags of a rail's status word leave: every other field. -/
theorem railFlagsOff_rd {x : Fld} (hx : x.Fits) (hoff : x.off ≠ 0x080) (b : Block) (f : Nat) {rl : Nat} (hrl : rl < 2) (i : Nat) :
    (b.railFlagsOff f rl).rd x i = b.rd x i := by
  have hflags : ∀ r < 2, ∀ y ∈ [F_RAIL.ON r, F_RAIL.SOFTSTART r, F_RAIL.PGOOD r, F_RAIL.SLEWING r, F_RAIL.BRAKING r, F_RAIL.ARRIVED r],
      y.Fits ∧ y.off = 0x080 := by decide
  refine each_inv (I := fun c => c.rd x i = b.rd x i) (fun y hy c hc => ?_) rfl
  obtain ⟨hfits, hyoff⟩ := hflags rl hrl y hy
  exact (c.rd_wr_otherOff _ hfits hx (.inr (by rwa [hyoff]))).trans hc

theorem railOff_rd {x : Fld} (hx : x.Fits) (hoff : x.off ≠ 0x080) (b : Block) (f : Nat) {rl : Nat} (hrl : rl < 2) (i : Nat) :
    (b.railOff f rl).rd x i = b.rd x i := by
  have href : (F_RAIL.REF rl).Fits := by clear * - hrl; decide +revert
  rw [railOff, rd_modRail, rd_wr_otherOff _ _ href hx (.inr hoff), railFlagsOff_rd hx hoff b f hrl]

/-- ON of a rail that goes off. -/
theorem railFlagsOff_on (b : Block) (f : Nat) {rl : Nat} (hrl : rl < 2) : (b.railFlagsOff f rl).bit (F_RAIL.ON rl) f = false := by
  have hfold : b.railFlagsOff f rl = (((((b.wrB (F_RAIL.ON rl) f false).wrB (F_RAIL.SOFTSTART rl) f false).wrB (F_RAIL.PGOOD rl) f
      false).wrB (F_RAIL.SLEWING rl) f false).wrB (F_RAIL.BRAKING rl) f false).wrB (F_RAIL.ARRIVED rl) f false := rfl
  rw [hfold, bit_wrB_apart (by clear * - hrl; decide +revert), bit_wrB_apart (by clear * - hrl; decide +revert),
    bit_wrB_apart (by clear * - hrl; decide +revert), bit_wrB_apart (by clear * - hrl; decide +revert),
    bit_wrB_apart (by clear * - hrl; decide +revert), bit_wrB_same _ rfl]

theorem railOff_on (b : Block) (f : Nat) {rl : Nat} (hrl : rl < 2) : (b.railOff f rl).bit (F_RAIL.ON rl) f = false := by
  have hapart : (F_RAIL.REF rl).apart (F_RAIL.ON rl) = true := by clear * - hrl; decide +revert
  rw [railOff, (modRail_keeps ..).bit (by decide), bit_wr_apart hapart, railFlagsOff_on b f hrl]

theorem railFlagsOff_keeps (b : Block) (f rl : Nat) : b.Keeps [.regs] (b.railFlagsOff f rl) := by
  unfold railFlagsOff
  simp

theorem railOff_keeps (b : Block) (f rl : Nat) : b.Keeps [.regs, .rails] (b.railOff f rl) := by
  unfold railOff
  simp

theorem railOff_run (b : Block) (f rl : Nat) : ((b.railOff f rl).rail (railOf f rl)).run = 0 := by
  rw [railOff, rail_modRail_same]

theorem railOff_rail_other (b : Block) {f rl k : Nat} (h : k ≠ railOf f rl) : (b.railOff f rl).rail k = b.rail k := by
  rw [railOff, rail_modRail_other _ _ h, (wr_keeps ..).rail (by decide), (railFlagsOff_keeps ..).rail (by decide)]

theorem railOf_zero_ne_one (f : Nat) : railOf f 0 ≠ railOf f 1 := by
  unfold railOf
  omega

/-! ### Both rails off -/

theorem agentsOff_keeps (b : Block) (f : Nat) : b.Keeps [.agents] (b.agentsOff f) := by simp

theorem mget_filter {α : Type} {d : α} {p : Nat × α → Bool} {m : List (Nat × α)} {k : Nat} (h : ∀ v, p (k, v) = false) :
    mget d (m.filter p) k = d := by
  induction m with
  | nil => rfl
  | cons e m ih =>
    obtain ⟨a, v⟩ := e
    rw [List.filter_cons]
    split
    case isTrue hp =>
      have hne : a ≠ k := fun e => by rw [e, h] at hp; cases hp
      rw [mget, if_neg hne, ih]
    case isFalse => exact ih

theorem agentsOff_agent (b : Block) (f : FieldNo) (p : SlotNo) : (b.agentsOff f).agent (pid f p) = Agent.reset := by
  refine mget_filter fun v => ?_
  have hp := p.isLt
  simp [pid, hp]

theorem pairOff_run (b : Block) (f : Nat) : ((b.pairOff f).rail (railOf f 0)).run = 0 ∧ ((b.pairOff f).rail (railOf f 1)).run = 0 := by
  have hrail (k : Nat) : (b.pairOff f).rail k = ((b.railOff f 0).railOff f 1).rail k :=
    ((modFu_keeps ..).rail (by decide) k).trans ((agentsOff_keeps ..).rail (by decide) k)
  rw [hrail, hrail, railOff_run, railOff_rail_other _ (Block.railOf_zero_ne_one f), railOff_run]
  exact ⟨rfl, rfl⟩

theorem pairOff_railsOn (b : Block) (f : Nat) : (b.pairOff f).railsOn f = false :=
  ((modFu_keeps ..).bit (by decide) ..).trans (((agentsOff_keeps ..).bit (by decide) ..).trans (railOff_on _ f (by decide)))

theorem pairOff_stopCause (b : Block) (f : Nat) : ((b.pairOff f).fu f).stopCause = (b.fu f).stopCause := by
  rw [pairOff, fu_modFu_same, (agentsOff_keeps ..).fu (by decide), (railOff_keeps ..).fu (by decide), (railOff_keeps ..).fu (by decide)]

theorem startRundown_keeps (b : Block) (now : Nat) : b.Keeps [.hub] (b.startRundown now) := by simp

theorem disableDone_keeps (b : Block) (now f : Nat) : b.Keeps [.regs, .ports, .hub] (b.disableDone now f) := by simp

theorem disableDone_bit {x : Fld} (hx : x.Fits ∧ x.page ∉ windowPages) (b : Block) (now f i : Nat) :
    (b.disableDone now f).bit x i = b.bit x i :=
  ((regsOff_disableDone (List.Subset.refl _) now f).2 (RegsOff.refl _ b)).bit hx i

theorem enableDone_keeps (b : Block) (now f : Nat) (back : Bool) : b.Keeps [.regs, .ports, .hub] (b.enableDone now f back) := by simp

theorem enableDone_rd {x : Fld} (hx : x.Fits ∧ x.page ∉ windowPages) (b : Block) (now f : Nat) (back : Bool) (i : Nat) :
    (b.enableDone now f back).rd x i = b.rd x i :=
  ((regsOff_enableDone (List.Subset.refl _) now f back).2 (RegsOff.refl _ b)).rd hx i

/-! ### Latching off (R197) -/

/-- The pair with VCORE at the mid level and the record taken, before the flags. -/
def latchRails (b : Block) (now f cause rail phase : Nat) (i : LastFaultIn) : Block :=
  (((b.lastFault now f cause rail phase i).railOff f 0).railFlagsOff f 1).modRail (railOf f 1) (fun x => { x with run := 4 })

/-- The pair with both rails shown as latched off, and the field marked out. -/
def latchMarks (b : Block) (now f cause : Nat) : Block :=
  ((b.wrB (F_RAIL.LATCHED_OFF 0) f true).wrB (F_RAIL.LATCHED_OFF 1) f true).modFu f (fun u => { u with
    outNext := some cause, calStep := 0, releaseDue := false, startDone := u.started, latchAt := some now })

theorem latchOff_eq (b : Block) (now f cause rail phase : Nat) (i : LastFaultIn) :
    b.latchOff now f cause rail phase i = ((b.latchRails now f cause rail phase i).latchMarks now f cause).enableDone now f false := rfl

theorem latchMarks_keeps (b : Block) (now f cause : Nat) : b.Keeps [.regs, .fields] (b.latchMarks now f cause) := by
  unfold latchMarks
  simp

theorem latchOff_rail (b : Block) (now f cause rail phase : Nat) (i : LastFaultIn) (k : Nat) :
    (b.latchOff now f cause rail phase i).rail k = (b.latchRails now f cause rail phase i).rail k := by
  rw [latchOff_eq, (enableDone_keeps ..).rail (by decide), (latchMarks_keeps ..).rail (by decide)]

theorem latchOff_run (b : Block) (now f cause rail phase : Nat) (i : LastFaultIn) :
    ((b.latchOff now f cause rail phase i).rail (railOf f 0)).run = 0 ∧
      ((b.latchOff now f cause rail phase i).rail (railOf f 1)).run = 4 := by
  rw [latchOff_rail, latchOff_rail, latchRails, rail_modRail_same, rail_modRail_other _ _ (Block.railOf_zero_ne_one f),
    (railFlagsOff_keeps ..).rail (by decide), railOff_run]
  exact ⟨rfl, rfl⟩

theorem latchMarks_bits (b : Block) (now f cause : Nat) : (b.latchMarks now f cause).bit (F_RAIL.LATCHED_OFF 0) f = true ∧
    (b.latchMarks now f cause).bit (F_RAIL.LATCHED_OFF 1) f = true := by
  refine ⟨?_, ?_⟩ <;> rw [latchMarks, (modFu_keeps ..).bit (by decide)]
  · rw [bit_wrB_apart (by decide), bit_wrB_same _ rfl]
  · rw [bit_wrB_same _ rfl]

theorem latchOff_bits (b : Block) (now f cause rail phase : Nat) (i : LastFaultIn) :
    (b.latchOff now f cause rail phase i).bit (F_RAIL.LATCHED_OFF 0) f = true ∧
      (b.latchOff now f cause rail phase i).bit (F_RAIL.LATCHED_OFF 1) f = true := by
  rw [latchOff_eq, bit, bit, enableDone_rd (by decide), enableDone_rd (by decide)]
  exact latchMarks_bits ..

theorem latchOff_fu (b : Block) (now f cause rail phase : Nat) (i : LastFaultIn) :
    ((b.latchOff now f cause rail phase i).fu f).outNext = some cause ∧
      ((b.latchOff now f cause rail phase i).fu f).latchAt = some now := by
  rw [latchOff_eq, (enableDone_keeps ..).fu (by decide), latchMarks, fu_modFu_same]
  exact ⟨rfl, rfl⟩

/-- Latching off changes no counter of the rails' pages. -/
theorem latchOff_rd_counter {x : Fld} (hx : x.Fits ∧ x.page ∉ windowPages) (hoff : x.off ≠ 0x080) (hcount : F_PHASE.LF_COUNT.apart x = true)
    (htick : F_PHASE.LF_TICK.apart x = true) (hcause : F_PHASE.LF_CAUSE.apart x = true) (h0 : (F_RAIL.LATCHED_OFF 0).apart x = true)
    (h1 : (F_RAIL.LATCHED_OFF 1).apart x = true) (b : Block) (now f cause rail phase : Nat) (i : LastFaultIn) (j : Nat) :
    (b.latchOff now f cause rail phase i).rd x j = b.rd x j := by
  rw [latchOff_eq, enableDone_rd hx, latchMarks, rd_modFu, rd_wrB_apart h1, rd_wrB_apart h0, latchRails, rd_modRail,
    railFlagsOff_rd hx.1 hoff _ f (by decide), railOff_rd hx.1 hoff _ f (by decide), lastFault_rd htick hcause, rd_inc_apart hcount]

end Block

theorem latchOff_latchedOff (s : State) (b : Block) (f cause rail phase : Nat) (i : LastFaultIn) :
    LatchedOff f cause s { s with b := b.latchOff s.tick f cause rail phase i } :=
  ⟨inBlock_mk .., (b.latchOff_run ..).1, (b.latchOff_run ..).2, (b.latchOff_bits ..).1, (b.latchOff_bits ..).2, (b.latchOff_fu ..).1,
    (b.latchOff_fu ..).2⟩

theorem exec_railOv (f : FieldNo) (r : Rail) (i : LastFaultIn) (s : State) : exec (.railOv f r i) s = .next { s with
    b := if (s.b.rail (railOf f (railNo r))).run = 0 ∨ (s.b.rail (railOf f (railNo r))).run = 4 then s.b
      else ((s.b.inc (F_RAIL.OV_EVENTS (railNo r)) f).fault 16 f (railNo r) i.sc.val).latchOff s.tick f 4 (railNo r) 0xFF i } := rfl

theorem exec_latchOff_ssShort (f : FieldNo) (r : Rail) (i : LastFaultIn) (s : State) : exec (.latchOff f .ssShort r i) s = .next { s with
    b := s.b.cond (s.b.bit (F_RAIL.SOFTSTART (railNo r)) f && s.b.shorted f (railNo r) i) (fun b =>
      (b.fault 17 f 1 i.sc.val).latchOff s.tick f 1 (railNo r) 0xFF i) } := rfl

theorem exec_latchOff_ssTimeout (f : FieldNo) (r : Rail) (i : LastFaultIn) (s : State) : exec (.latchOff f .ssTimeout r i) s = .next { s with
    b := s.b.cond (s.b.bit (F_RAIL.SOFTSTART (railNo r)) f && s.b.startOverdue s.tick f (railNo r) i) (fun b =>
      (b.fault 17 f 2 i.sc.val).latchOff s.tick f 2 (railNo r) 0xFF i) } := rfl

theorem exec_latchOff_runShort (f : FieldNo) (r : Rail) (i : LastFaultIn) (s : State) : exec (.latchOff f .runShort r i) s = .next { s with
    b := s.b.cond (s.b.bit (F_RAIL.ON (railNo r)) f && !s.b.bit (F_RAIL.SOFTSTART (railNo r)) f && s.b.shorted f (railNo r) i) (fun b =>
      ((b.inc (F_RAIL.UV_EVENTS (railNo r)) f).fault 15 f (0x100 + railNo r) i.sc.val).latchOff s.tick f 3 (railNo r) 0xFF i) } := rfl

theorem exec_latchOff_railOv (f : FieldNo) (r : Rail) (i : LastFaultIn) (s : State) : exec (.latchOff f .railOv r i) s = .next { s with
    b := s.b.cond (s.b.pairUp f && (s.b.fu f).latchAt.isNone) (fun b =>
      ((b.inc (F_RAIL.OV_EVENTS (railNo r)) f).fault 16 f (railNo r) i.sc.val).latchOff s.tick f 4 (railNo r) 0xFF i) } := rfl

theorem exec_latchOff_phaseLoss (f : FieldNo) (r : Rail) (i : LastFaultIn) (s : State) : exec (.latchOff f .phaseLoss r i) s = .next { s with
    b := s.b.cond (s.b.pairUp f && (s.b.fu f).latchAt.isNone &&
        decide (s.b.phasesLeft f (railNo r) < s.b.rd (F_RAIL.MIN_PHASES (railNo r)) f)) (fun b =>
      b.latchOff s.tick f 6 (railNo r) 0xFF i) } := rfl

/-- A pair that loses the input voltage, before the commands that wait for it. -/
def Block.vinOff (b : Block) (now f : Nat) (i : LastFaultIn) : Block :=
  (((b.lastFault now f 7 2 0xFF i).pairOff f).fault 18 f (0x8000 + i.vin.toNat % 32768) i.sc.val).modFu f (fun u =>
    { u with outNext := some 7, vinGood := 0 })

theorem exec_vinStop (f : FieldNo) (i : LastFaultIn) (s : State) : exec (.vinStop f i) s = .next { s with
    b := if !s.b.pairUp f then s.b else ((s.b.vinOff s.tick f i).disableDone s.tick f).startRundown s.tick } := rfl

theorem exec_railStopDone (f : FieldNo) (s : State) : exec (.railStopDone f) s = .next { s with
    b := if (s.b.rail (railOf f 0)).run ≠ 3 ∨ (s.b.rail (railOf f 1)).run ≠ 3 ∨ s.b.atTarget f 0 = false ∨ s.b.atTarget f 1 = false then s.b
      else (((s.b.pairOff f).modFu f (fun u => { u with outNext := some u.stopCause })).startRundown s.tick).disableDone s.tick f } := rfl

/-- A rail that has reached its target regulates. -/
def Block.regulates (b : Block) (f rl : Nat) : Block :=
  ((((b.wrB (F_RAIL.SOFTSTART rl) f false).wrB (F_RAIL.PGOOD rl) f true).wrB (F_RAIL.ON rl) f true).wrB (F_RAIL.SLEWING rl) f false).modRail
    (railOf f rl) (fun x => { x with run := 2 })

theorem exec_softStartEnd (f : FieldNo) (s : State) : exec (.softStartEnd f) s = .next { s with
    b := if (s.b.rail (railOf f 0)).run ≠ 1 ∨ (s.b.rail (railOf f 1)).run ≠ 1 ∨ s.b.atTarget f 0 = false ∨ s.b.atTarget f 1 = false then s.b
      else (((s.b.regulates f 0).regulates f 1).agentsOff f).modFu f (fun u => { u with
        winCore := [], winSram := [], startDone := true, releaseDue := true, creditAcc := 0 }) } := rfl

namespace Block

theorem regulates_keeps (b : Block) (f rl : Nat) : b.Keeps [.regs, .rails] (b.regulates f rl) := by
  unfold regulates
  simp

theorem regulates_bits (b : Block) (f : Nat) {rl : Nat} (hrl : rl < 2) :
    (b.regulates f rl).bit (F_RAIL.ON rl) f = true ∧ (b.regulates f rl).bit (F_RAIL.PGOOD rl) f = true := by
  unfold regulates
  constructor
  · rw [(modRail_keeps ..).bit (by decide), bit_wrB_apart (by clear * - hrl; decide +revert), bit_wrB_same _ rfl]
  · rw [(modRail_keeps ..).bit (by decide), bit_wrB_apart (by clear * - hrl; decide +revert),
      bit_wrB_apart (by clear * - hrl; decide +revert), bit_wrB_same _ rfl]

theorem regulates_pgood_other (b : Block) (f : Nat) : (b.regulates f 1).bit (F_RAIL.PGOOD 0) f = b.bit (F_RAIL.PGOOD 0) f := by
  unfold regulates
  rw [(modRail_keeps ..).bit (by decide), bit_wrB_apart (by decide), bit_wrB_apart (by decide), bit_wrB_apart (by decide),
    bit_wrB_apart (by decide)]

theorem regulates_run (b : Block) (f rl : Nat) : ((b.regulates f rl).rail (railOf f rl)).run = 2 := by
  rw [regulates, rail_modRail_same]

theorem regulates_rail_other (b : Block) {f rl k : Nat} (h : k ≠ railOf f rl) : (b.regulates f rl).rail k = b.rail k := by
  rw [regulates, rail_modRail_other _ _ h]
  rfl

end Block

theorem Block.vinOff_fu (b : Block) (now f : Nat) (i : LastFaultIn) : ((b.vinOff now f i).fu f).outNext = some 7 := by
  rw [Block.vinOff, Block.fu_modFu_same]

theorem Block.vinOff_rail (b : Block) (now f : Nat) (i : LastFaultIn) (k : Nat) :
    (b.vinOff now f i).rail k = ((b.lastFault now f 7 2 0xFF i).pairOff f).rail k :=
  ((modFu_keeps ..).rail (by decide) k).trans ((fault_keeps ..).rail (by decide) k)

theorem Block.vinOff_railsOn (b : Block) (now f : Nat) (i : LastFaultIn) : (b.vinOff now f i).railsOn f = false :=
  ((modFu_keeps ..).bit (by decide) ..).trans (((fault_keeps ..).bit (by decide) ..).trans (pairOff_railsOn _ f))

/-- Settles O27: what stops a pair and what ends its start, rail by rail. -/
theorem pairStopsAndStarts : Obligations.PairStopsAndStarts := by
  refine ⟨fun f r i s h0 h4 => ?_, fun f r i s hstart => ⟨fun hshort => ?_, fun hlate => ?_⟩, fun f r i s hon hstart hshort => ?_,
    fun f r i s hup hlatch => ⟨?_, fun hleft => ?_⟩, fun f i s hup => ?_, fun f s h0 h1 hr0 hr1 => ?_, fun f s h0 h1 ht0 ht1 => ?_⟩
  · refine ⟨_, next_block (exec_railOv f r i s) (if_neg (by simp [h0, h4])), latchOff_latchedOff s .., ?_⟩
    rw [Block.latchOff_rd_counter (by cases r <;> decide) (by cases r <;> decide) (by cases r <;> decide) (by cases r <;> decide)
      (by cases r <;> decide) (by cases r <;> decide) (by cases r <;> decide), Block.rd_fault, Block.rd_inc_same]
    rfl
  · exact ⟨_, next_block (exec_latchOff_ssShort f r i s) (Block.cond_of_true (by simp [hstart, hshort]) _), latchOff_latchedOff s ..⟩
  · exact ⟨_, next_block (exec_latchOff_ssTimeout f r i s) (Block.cond_of_true (by simp [hstart, hlate]) _), latchOff_latchedOff s ..⟩
  · refine ⟨_, next_block (exec_latchOff_runShort f r i s) (Block.cond_of_true (by simp [hon, hstart, hshort]) _),
      latchOff_latchedOff s .., ?_⟩
    rw [Block.latchOff_rd_counter (by cases r <;> decide) (by cases r <;> decide) (by cases r <;> decide) (by cases r <;> decide)
      (by cases r <;> decide) (by cases r <;> decide) (by cases r <;> decide), Block.rd_fault, Block.rd_inc_same]
    rfl
  · exact ⟨_, next_block (exec_latchOff_railOv f r i s) (Block.cond_of_true (by simp [hup, hlatch]) _), latchOff_latchedOff s ..⟩
  · exact ⟨_, next_block (exec_latchOff_phaseLoss f r i s) (Block.cond_of_true (by simp [hup, hlatch, hleft]) _), latchOff_latchedOff s ..⟩
  · have hrail (k : Nat) : (((s.b.vinOff s.tick f i).disableDone s.tick f).startRundown s.tick).rail k = (s.b.vinOff s.tick f i).rail k :=
      ((Block.startRundown_keeps ..).rail (by decide) k).trans ((Block.disableDone_keeps ..).rail (by decide) k)
    obtain ⟨hcore, hsram⟩ := (s.b.lastFault s.tick f 7 2 0xFF i).pairOff_run f
    refine ⟨_, next_block (exec_vinStop f i s) (if_neg (by simp [hup])), inBlock_mk .., ?_, ?_, ?_, ?_⟩
    · rw [hrail, Block.vinOff_rail, hcore]
    · rw [hrail, Block.vinOff_rail, hsram]
    · rw [(Block.startRundown_keeps ..).fu (by decide), (Block.disableDone_keeps ..).fu (by decide), Block.vinOff_fu]
    · rw [Block.railsOn, (Block.startRundown_keeps ..).bit (by decide), Block.disableDone_bit (by decide)]
      exact Block.vinOff_railsOn ..
  · have hrail (k : Nat) : ((((s.b.pairOff f).modFu f (fun u => { u with outNext := some u.stopCause })).startRundown s.tick).disableDone
        s.tick f).rail k = (s.b.pairOff f).rail k :=
      ((Block.disableDone_keeps ..).rail (by decide) k).trans (((Block.startRundown_keeps ..).rail (by decide) k).trans
        ((Block.modFu_keeps ..).rail (by decide) k))
    obtain ⟨hcore, hsram⟩ := s.b.pairOff_run f
    refine ⟨_, next_block (exec_railStopDone f s) (if_neg (by simp [h0, h1, hr0, hr1, Block.atTarget, Block.refTarget])), inBlock_mk .., ?_, ?_, ?_, ?_⟩
    · rw [hrail, hcore]
    · rw [hrail, hsram]
    · rw [(Block.disableDone_keeps ..).fu (by decide), (Block.startRundown_keeps ..).fu (by decide), Block.fu_modFu_same,
        Block.pairOff_stopCause]
    · rw [Block.railsOn, Block.disableDone_bit (by decide), (Block.startRundown_keeps ..).bit (by decide), (Block.modFu_keeps ..).bit (by decide)]
      exact Block.pairOff_railsOn ..
  · have hrail (k : Nat) : ((((s.b.regulates f 0).regulates f 1).agentsOff f).modFu f (fun u => { u with
        winCore := [], winSram := [], startDone := true, releaseDue := true, creditAcc := 0 })).rail k =
          ((s.b.regulates f 0).regulates f 1).rail k :=
      ((Block.modFu_keeps ..).rail (by decide) k).trans ((Block.agentsOff_keeps ..).rail (by decide) k)
    have hbit (x : Fld) : ((((s.b.regulates f 0).regulates f 1).agentsOff f).modFu f (fun u => { u with
        winCore := [], winSram := [], startDone := true, releaseDue := true, creditAcc := 0 })).bit x f =
          ((s.b.regulates f 0).regulates f 1).bit x f :=
      ((Block.modFu_keeps ..).bit (by decide) ..).trans ((Block.agentsOff_keeps ..).bit (by decide) ..)
    obtain ⟨hon, hgood⟩ := (s.b.regulates f 0).regulates_bits f (rl := 1) (by decide)
    refine ⟨_, next_block (exec_softStartEnd f s) (if_neg (by simp [h0, h1, ht0, ht1])), inBlock_mk .., ?_, ?_, ?_, ?_, ?_, ?_, ?_, fun p => ?_⟩
    · rw [hrail, Block.regulates_rail_other _ (Block.railOf_zero_ne_one f), Block.regulates_run]
    · rw [hrail, Block.regulates_run]
    · exact (hbit _).trans hon
    · rw [hbit, Block.regulates_pgood_other]
      exact (s.b.regulates_bits f (by decide)).2
    · rw [hbit, hgood]
    · rw [Block.fu_modFu_same]
    · rw [Block.fu_modFu_same]
    · exact ((Block.modFu_keeps ..).agent (by decide) _).trans (Block.agentsOff_agent ..)

end Sys2Proof.Machine
end

section
/-!
SUPPORT. Fields of the field units' records: which operations leave what `g` reads of them.
-/

namespace Sys2Proof.Machine.Block

open Sys2Proof

variable {α : Type} {g : FieldUnit → α} {a b c : Block} {S : List Part}

/-- From block `a` to block `b` what `g` reads of every field unit is as before. -/
structure FuSame (g : FieldUnit → α) (a b : Block) : Prop where
  same : ∀ k, g (b.fu k) = g (a.fu k)

/-- Only the outermost operation matters to `simp`: it does not look into the two blocks. -/
@[congr] theorem fuSame_congr (g : FieldUnit → α) (a b : Block) : FuSame g a b = FuSame g a b := rfl

@[simp] theorem FuSame.refl (g : FieldUnit → α) (b : Block) : FuSame g b b := ⟨fun _ => rfl⟩

theorem FuSame.trans (h : FuSame g a b) (h' : FuSame g b c) : FuSame g a c := ⟨fun k => (h'.same k).trans (h.same k)⟩

theorem FuSame.step (h : FuSame g b c) : FuSame g a c ↔ FuSame g a b :=
  ⟨fun h' => ⟨fun k => (h.same k).symm.trans (h'.same k)⟩, fun h' => h'.trans h⟩

theorem FuSame.ite {q : Prop} [Decidable q] (hb : FuSame g a b) (hc : FuSame g a c) : FuSame g a (if q then b else c) := by
  split
  · exact hb
  · exact hc

theorem Keeps.fuSame (h : b.Keeps S c) (hS : .fields ∉ S) : FuSame g b c := ⟨fun k => congrArg g (h.fu hS k)⟩

/-- An operation that keeps the field units. -/
theorem fuSame_of_keeps (h : b.Keeps S c) (hS : .fields ∉ S) : FuSame g a c ↔ FuSame g a b := (h.fuSame hS).step

@[simp] theorem fuSame_modFu {k : Nat} {u : FieldUnit → FieldUnit} (hu : ∀ x, g (u x) = g x) :
    FuSame g a (b.modFu k u) ↔ FuSame g a b := by
  refine FuSame.step ⟨fun j => ?_⟩
  obtain rfl | h := eq_or_ne j k
  · rw [fu_modFu_same, hu]
  · rw [fu_modFu_other _ _ h]

theorem FuSame.modFu {k : Nat} {u : FieldUnit → FieldUnit} (h : FuSame g a b) (hu : ∀ x, g (u x) = g x) : FuSame g a (b.modFu k u) :=
  (fuSame_modFu hu).2 h

theorem FuSame.wr (h : FuSame g a b) {x : Fld} {i v : Nat} : FuSame g a (b.wr x i v) := h.trans ((wr_keeps ..).fuSame (by decide))

@[simp] theorem fuSame_cond {q : Bool} {h : Block → Block} (hh : ∀ b : Block, FuSame g b (h b)) :
    FuSame g a (b.cond q h) ↔ FuSame g a b := by
  cases q
  · rfl
  · exact FuSame.step (hh b)

@[simp] theorem fuSame_each {β : Type} {h : Block → β → Block} {l : List β} (hh : ∀ (b : Block) x, FuSame g b (h b x)) :
    FuSame g a (b.each l h) ↔ FuSame g a b :=
  FuSame.step (each_inv (I := FuSame g b) (fun x _ c hc => hc.trans (hh c x)) (FuSame.refl g b))

theorem FuSame.each {β : Type} {h : Block → β → Block} {l : List β} (hb : FuSame g a b) (hh : ∀ (b : Block) x, FuSame g b (h b x)) :
    FuSame g a (b.each l h) := (fuSame_each hh).2 hb

theorem fuSame_fault (hg : ∀ (u : FieldUnit) v, g { u with faultNow := v } = g u) (src field detail off : Nat) :
    FuSame g a (b.fault src field detail off) ↔ FuSame g a b := by
  refine FuSame.step ?_
  unfold fault
  dsimp only
  split
  · exact ⟨fun k => ((fuSame_modFu fun x => hg x _).2 (FuSame.refl g b)).same k⟩
  · exact ⟨fun k => rfl⟩

theorem putTrace_keepsFu (b : Block) (k : Nat) (t : TraceBuf) (w : Bool) : b.Keeps [.regs, .traces] (b.putTrace k t w) := by simp

theorem fuSame_writeRec (hg : ∀ (u : FieldUnit) v, g { u with trigReport := v } = g u) (now off k : Nat) (r : TraceRec) :
    FuSame g a (b.writeRec now off k r) ↔ FuSame g a b := by
  refine FuSame.step ?_
  have hput (t : TraceBuf) (w : Bool) : FuSame g b (b.putTrace k t w) := (putTrace_keepsFu ..).fuSame (by decide)
  have htrig (c : Block) (code parcel own : Nat) : FuSame g c (c.triggerOn now off k 0 code parcel own) :=
    Keeps.fuSame (S := [.regs, .traces]) (by simp) (by decide)
  exact .ite (.ite ((fuSame_modFu fun x => hg x _).2 ((hput ..).trans (htrig ..))) ((hput ..).trans (htrig ..))) (hput ..)

theorem fuSame_record (hg : ∀ (u : FieldUnit) v, g { u with trigReport := v } = g u) (k now off code parcel aux dataA dataB : Nat) :
    FuSame g a (b.record k now off code parcel aux dataA dataB) ↔ FuSame g a b := by
  refine FuSame.step ?_
  exact .ite (FuSame.refl g b) ((fuSame_writeRec hg ..).2 (FuSame.refl g b))

end Sys2Proof.Machine.Block
end

section
/-!
SUPPORT. Channels, the measurement, the estimation mode and the T2 block of a field (O28).
-/

namespace Sys2Proof.Machine

open Sys2Proof

/-! ### Channels (R64) -/

theorem exec_channelInvalid (f : FieldNo) (p : PhaseNo) (s : State) : exec (.channelInvalid f p) s = .next { s with
    b := s.b.chanLost f p } := rfl

theorem exec_channelRestored (f : FieldNo) (p : PhaseNo) (s : State) : exec (.channelRestored f p) s = .next { s with
    b := s.b.cond (decide (256 ≤ (s.b.phase (phOf f p)).goodTicks) && !s.b.chanCause f p)
      (fun b => (b.wr (F_PHASE.CHAN_INVALID p) f 0).modPhase (phOf f p) (fun x => { x with goodTicks := 0 })) } := rfl

theorem exec_measurementComplete (f : FieldNo) (m : MeasIn) (s : State) : exec (.measurementComplete f m) s = .next { s with
    b := s.b.measure s.tick f m } := rfl

theorem exec_estModeChange (f : FieldNo) (s : State) : exec (.estModeChange f) s = .next { s with
    b := (s.b.setEstMode f (s.b.estModeNext f).1 (s.b.estModeNext f).2).evalMargin s.tick f } := rfl

/-- The block of the T2_RATE condition that ends counts toward its release. -/
def Block.t2Counted (b : Block) (f : Nat) (counts : Bool) (left : Nat) : Block :=
  (b.cond counts (fun b => (b.wr F_DROOP.HOLD_LEFT f left).wrB F_DROOP.T2_RATE f (left != 0))).wr F_DROOP.T2_BLOCK f 0

theorem exec_t2BlockEnd (f : FieldNo) (s : State) : exec (.t2BlockEnd f) s = .next { s with
    b := if s.tick % 1024 ≠ 0 then s.b
      else (s.b.t2Counted f (s.b.bit F_DROOP.T2_RATE f && decide ((s.b.fu f).t2From + 1024 ≤ s.tick))
        (if decide (s.b.rd F_DROOP.T2_BLOCK f ≤ s.b.rd F_DROOP.T2_CLEAR f) then s.b.rd F_DROOP.HOLD_LEFT f - 1
          else s.b.rd F_DROOP.WIDE_HOLD f)).evalMargin s.tick f } := rfl

namespace Block

/-! ### What the measurement writes (R62, R63) -/

/-- The currents and temperatures of the twenty phases. -/
def samplePhases (b : Block) (f : Nat) (m : MeasIn) (imon : Nat → Int) : Block :=
  b.each (List.range 20) (fun b p =>
    ((b.wrZ (F_PHASE.IMON p) f (imon p)).wr (F_PHASE.TMON p) f (m.tmon.toList.getD p 0).toNat).modPhase
      (phOf f p) (fun x => { x with
        balSum := x.balSum + imon p, balTicks := x.balTicks + 1
        goodTicks := if m.ends.getLsbD p || b.chanCause f p || !b.bit (F_PHASE.CHAN_INVALID p) f then 0 else x.goodTicks + 1 }))

/-- The voltages and currents of the rails. -/
def putRails (b : Block) (f vc ic is : Nat) : Block :=
  ((b.wr F_EST.I_VCORE f (min 65535 ic)).wr F_EST.I_VSRAM f (min 65535 is)).wr F_EST.V_VCORE f vc

/-- VSRAM's voltage, and which rail is measured. -/
def putValid (b : Block) (f vs : Nat) : Block :=
  ((b.wr F_EST.V_VSRAM f vs).wrB F_EST.MEAS_VALID_CORE f (b.railMeasured f 0)).wrB F_EST.MEAS_VALID_SRAM f (b.railMeasured f 1)

/-- Which channels are valid, and the history of the currents. -/
def putChans (b : Block) (f ic is : Nat) : Block :=
  let c := b.wr F_EST.CHAN_VALID_CORE f ((b.validChans f 0).map (fun p => 2 ^ p)).sum
  let d := c.wr F_EST.CHAN_VALID_SRAM f ((c.validChans f 1).map (fun p => 2 ^ (p - 16))).sum
  d.modFu f (fun u => { u with
    hist16Core := if d.railMeasured f 0 then (ic :: u.hist16Core).take 16 else u.hist16Core
    hist16Sram := if d.railMeasured f 1 then (is :: u.hist16Sram).take 16 else u.hist16Sram })

/-- VCORE's current, and the block after it. -/
def coreAmps (b : Block) (f : Nat) (m : MeasIn) : Nat × Block := b.railCurrent f 0 (b.phaseAmps f m)
/-- VSRAM's current, and the block after both. -/
def sramAmps (b : Block) (f : Nat) (m : MeasIn) : Nat × Block := (b.coreAmps f m).2.railCurrent f 1 (b.phaseAmps f m)

theorem putMeasure_eq (b : Block) (f : Nat) (m : MeasIn) : b.putMeasure f m =
    ((((b.sramAmps f m).2.samplePhases f m (b.phaseAmps f m)).putRails f (b.senseVolts f 0 m) (b.coreAmps f m).1
      (b.sramAmps f m).1).putValid f (b.senseVolts f 1 m)).putChans f (b.coreAmps f m).1 (b.sramAmps f m).1 := rfl

/-- E, M, RHO and the error of the tick. -/
def putFigures (b : Block) (f t e m rho : Nat) (err : Int) (ok : Bool) : Block :=
  (((((b.wr F_EST.E_FIELD f e).wr F_EST.M_FIELD f m).wr F_EST.EST_TICK f t).wr F_EST.RHO f rho).wrZ F_EST.ERR f err).modFu f
    (fun u => { u with mValid := ok })

/-- What follows the figures, up to the bills: reported powers, deviations, shares. -/
def spread (b : Block) (now f t e m rho : Nat) (ok : Bool) : Block :=
  (((b.report f ok e m rho).testDeviations now f).addShares f t).billDue now f

/-- The windows of the tick measured, and the limit. -/
def putWindows (b : Block) (now f t core sram : Nat) : Block :=
  (b.modFu f (fun u => { u with
    winCore := winSet u.winCore u.winTick t core, winSram := winSet u.winSram u.winTick t sram })).checkExceed f now core sram

/-- The counts of the modes, the sums of the window and of the calibration. -/
def putCounts (b : Block) (f t e m share : Nat) (ok ran : Bool) : Block :=
  ((b.cond (ok && ran) (fun b => (b.countModes f e m).countSafe f)).accumulate f t (ok && ran) m share).calSample f m ok

/-- A tick measured, after its registers. -/
def figured (b : Block) (now f t ic vs is e m rho : Nat) (err : Int) (okC okS : Bool) : Block :=
  let c := (b.putFigures f t e m rho err (okC && okS)).spread now f t e m rho (okC && okS)
  (c.putWindows now f t
    (winMeasured (c.rd F_EST.MODE f) (winAt (c.fu f).winCore (c.fu f).winTick t) (c.estCore f e) ic okC)
    (winMeasured (c.rd F_EST.MODE f) (winAt (c.fu f).winSram (c.fu f).winTick t) (c.estSram f e) is okS)).putCounts f t e m
      (vs * is / 16) (okC && okS) (!((c.fu f).overran || (c.fu f).overranLast))

/-- The power and its validity as the registers show them. -/
def shownPower (b : Block) (f : Nat) : Nat := fieldPower (b.rd F_EST.V_VCORE f) (b.rd F_EST.I_VCORE f) (b.rd F_EST.V_VSRAM f) (b.rd F_EST.I_VSRAM f)
def shownOk (b : Block) (f : Nat) : Bool := b.bit F_EST.MEAS_VALID_CORE f && b.bit F_EST.MEAS_VALID_SRAM f

/-- The tick's figures from the registers as they stand. -/
def concluded (b : Block) (now f : Nat) : Block :=
  b.figured now f (now - 1) (b.rd F_EST.I_VCORE f) (b.rd F_EST.V_VSRAM f) (b.rd F_EST.I_VSRAM f) (b.eField f)
    (b.shownPower f) (rhoOf (b.shownOk f) (b.eField f) (b.shownPower f))
    (clampI (1000 * ((b.eField f : Int) - b.shownPower f) / max (b.shownPower f) (b.rd F_EST.M_FLOOR f * 2000)) (-32768) 32767)
    (b.bit F_EST.MEAS_VALID_CORE f) (b.bit F_EST.MEAS_VALID_SRAM f)

theorem measure_eq (b : Block) (now f : Nat) (m : MeasIn) : b.measure now f m = (b.putMeasure f m).concluded now f := rfl

/-! ### Reading the measurement back -/

section Measure

variable (b : Block) (f : Nat) (m : MeasIn)

theorem samplePhases_keeps (imon : Nat → Int) : b.Keeps [.regs, .phases] (b.samplePhases f m imon) := by
  unfold samplePhases
  simp

theorem samplePhases_chanInvalid (imon : Nat → Int) (q : PhaseNo) (i : Nat) :
    (b.samplePhases f m imon).rd (F_PHASE.CHAN_INVALID q) i = b.rd (F_PHASE.CHAN_INVALID q) i := by
  have himon : ∀ p ∈ List.range 20, (F_PHASE.IMON p).apart (F_PHASE.CHAN_INVALID q) = true := by clear * - q; decide +revert
  have htmon : ∀ p ∈ List.range 20, (F_PHASE.TMON p).apart (F_PHASE.CHAN_INVALID q) = true := by clear * - q; decide +revert
  refine each_inv (I := fun c => c.rd (F_PHASE.CHAN_INVALID q) i = b.rd (F_PHASE.CHAN_INVALID q) i) (fun p hp c hc => ?_) rfl
  rw [rd_modPhase, rd_wr_apart (htmon p hp), rd_wrZ_apart (himon p hp), hc]

variable {b f} in
theorem railMeasured_congr {c : Block} (h : ∀ q : PhaseNo, c.rd (F_PHASE.CHAN_INVALID q) f = b.rd (F_PHASE.CHAN_INVALID q) f) (rl : Nat) :
    c.railMeasured f rl = b.railMeasured f rl := by
  have hvalid (rl : Nat) : c.validChans f rl = b.validChans f rl :=
    List.filter_congr fun q hq => by rw [bit, bit, h ⟨q, railPhases_lt hq⟩]
  simp only [railMeasured, hvalid]

theorem sramAmps_keeps : b.Keeps [.free] (b.sramAmps f m).2 := by
  unfold sramAmps coreAmps
  simp

variable {b f} in
theorem coreAmps_measured (h : b.railMeasured f 0 = true) : b.coreAmps f m = (railAmps 0 (b.validChans f 0) (b.phaseAmps f m), b) := by
  rw [coreAmps, railCurrent, if_pos h]

variable {b f} in
theorem sramAmps_measured (h0 : b.railMeasured f 0 = true) (h1 : b.railMeasured f 1 = true) :
    (b.sramAmps f m).1 = railAmps 1 (b.validChans f 1) (b.phaseAmps f m) := by
  rw [sramAmps, coreAmps_measured m h0, railCurrent, if_pos h1]

/-- The samples and the free value of an unmeasured current leave which channels are valid. -/
theorem railMeasured_sampled (vc ic is : Nat) (rl : Nat) :
    (((b.sramAmps f m).2.samplePhases f m (b.phaseAmps f m)).putRails f vc ic is).railMeasured f rl = b.railMeasured f rl := by
  refine railMeasured_congr (fun q => ?_) rl
  rw [putRails, rd_wr_apart (by clear * - q; decide +revert), rd_wr_apart (by clear * - q; decide +revert),
    rd_wr_apart (by clear * - q; decide +revert), samplePhases_chanInvalid, (sramAmps_keeps ..).rd (by decide)]

theorem putMeasure_keeps : b.Keeps [.regs, .fields, .phases, .free] (b.putMeasure f m) := by simp

theorem senseVolts_lt (rl : Nat) : b.senseVolts f rl m < 2 ^ 16 := (Nat.min_le_left ..).trans_lt (by decide)

theorem min_lt (n : Nat) : min 65535 n < 2 ^ 16 := (Nat.min_le_left ..).trans_lt (by decide)

theorem putMeasure_vCore : (b.putMeasure f m).rd F_EST.V_VCORE f = b.senseVolts f 0 m := by
  rw [putMeasure_eq, putChans, rd_modFu, rd_wr_apart (by decide), rd_wr_apart (by decide), putValid, rd_wrB_apart (by decide),
    rd_wrB_apart (by decide), rd_wr_apart (by decide), putRails, rd_wr_same]
  exact Nat.mod_eq_of_lt (senseVolts_lt ..)

theorem putMeasure_vSram : (b.putMeasure f m).rd F_EST.V_VSRAM f = b.senseVolts f 1 m := by
  rw [putMeasure_eq, putChans, rd_modFu, rd_wr_apart (by decide), rd_wr_apart (by decide), putValid, rd_wrB_apart (by decide),
    rd_wrB_apart (by decide), rd_wr_same]
  exact Nat.mod_eq_of_lt (senseVolts_lt ..)

theorem putMeasure_iCore : (b.putMeasure f m).rd F_EST.I_VCORE f = min 65535 (b.coreAmps f m).1 := by
  rw [putMeasure_eq, putChans, rd_modFu, rd_wr_apart (by decide), rd_wr_apart (by decide), putValid, rd_wrB_apart (by decide),
    rd_wrB_apart (by decide), rd_wr_apart (by decide), putRails, rd_wr_apart (by decide), rd_wr_apart (by decide), rd_wr_same]
  exact Nat.mod_eq_of_lt (min_lt _)

theorem putMeasure_iSram : (b.putMeasure f m).rd F_EST.I_VSRAM f = min 65535 (b.sramAmps f m).1 := by
  rw [putMeasure_eq, putChans, rd_modFu, rd_wr_apart (by decide), rd_wr_apart (by decide), putValid, rd_wrB_apart (by decide),
    rd_wrB_apart (by decide), rd_wr_apart (by decide), putRails, rd_wr_apart (by decide), rd_wr_same]
  exact Nat.mod_eq_of_lt (min_lt _)

theorem putMeasure_validCore : (b.putMeasure f m).bit F_EST.MEAS_VALID_CORE f = b.railMeasured f 0 := by
  rw [putMeasure_eq, putChans, (modFu_keeps ..).bit (by decide), bit_wr_apart (by decide), bit_wr_apart (by decide), putValid,
    bit_wrB_apart (by decide), bit_wrB_same _ rfl, railMeasured_sampled]

theorem putMeasure_validSram : (b.putMeasure f m).bit F_EST.MEAS_VALID_SRAM f = b.railMeasured f 1 := by
  rw [putMeasure_eq, putChans, (modFu_keeps ..).bit (by decide), bit_wr_apart (by decide), bit_wr_apart (by decide), putValid,
    bit_wrB_same _ rfl, railMeasured_sampled]

theorem putMeasure_eField : (b.putMeasure f m).eField f = b.eField f := by
  simp only [eField, (putMeasure_keeps b f m).parcel (by decide)]

end Measure

/-! ### What follows the figures leaves them -/

/-- A field of a page below the ticket pages reads as before after a bill: the counters of the classes lie in no lower page. -/
theorem rd_wr_above {x y : Fld} (hx : x.Fits) (hy : x.page < y.page) (b : Block) (f v : Nat) : (b.wr y f v).rd x f = b.rd x f := by
  refine rd_wr_other b v ?_
  obtain ⟨hpage, hoff, hlo⟩ := hx
  unfold Fld.key
  omega

theorem bill_rd {x : Fld} (hx : x.Fits) (hpage : x.page < 0x4A ∧ x.page ≠ 0x1F) (b : Block) (f n : Nat) : (b.bill f n).rd x f = b.rd x f := by
  have habove {y : Fld} (hy : y.page = 0x4A) (c : Block) (v : Nat) : (c.wr y f v).rd x f = c.rd x f :=
    rd_wr_above hx (by omega) ..
  have hrec {q : Prop} [Decidable q] (c : Block) (t first task a : Nat) :
      (if q then c.record f t 0 0x04 first 1 task a else c).rd x f = c.rd x f := by
    split
    · exact rd_record ⟨hx, by simp; omega⟩ ..
    · rfl
  unfold bill
  dsimp only
  rw [hrec]
  split
  · rfl
  · simp only [resetHang, rd_modFu, add, inc, habove (y := F_TICKET.HANG_AGE) rfl, habove (y := F_TICKET.ERR_SUM _) rfl,
      habove (y := F_TICKET.ACTUAL_SUM _) rfl, habove (y := F_TICKET.PRIOR_SUM _) rfl, habove (y := F_TICKET.RET_COUNT _) rfl,
      habove (y := F_TICKET.RETIRED) rfl]
    rfl

theorem billDue_rd {x : Fld} (hx : x.Fits) (hpage : x.page < 0x4A ∧ x.page ≠ 0x1F) (b : Block) (now f : Nat) :
    (b.billDue now f).rd x f = b.rd x f :=
  each_inv (I := fun c => c.rd x f = b.rd x f) (fun _ _ c hc => (bill_rd hx hpage c f _).trans hc) rfl

theorem spread_rd {x : Fld} (hx : x.Fits) (hpage : x.page < 0x4A ∧ x.page ≠ 0x1F) (b : Block) (now f t e m rho : Nat) (ok : Bool) :
    (b.spread now f t e m rho ok).rd x f = b.rd x f := by
  rw [spread, billDue_rd hx hpage]
  exact Keeps.rd (S := [.parcels, .sensors, .fields, .slots]) (by simp) (by decide) x f

theorem checkExceed_rd {x : Fld} (hx : x.Fits ∧ x.page ∉ [0x1F, 0x4B]) (hlim : F_LIMIT.LIMIT_EXCEED.apart x = true) (b : Block)
    (f now core sram i : Nat) : (b.checkExceed f now core sram).rd x i = b.rd x i := by
  unfold checkExceed
  dsimp only
  split
  · rw [limitRecord, rd_record hx, rd_inc_apart hlim]
  · rfl

theorem countModes_rd {x : Fld} (hrun : F_EST.RUN_COUNT.apart x = true) (b : Block) (f e m i : Nat) :
    (b.countModes f e m).rd x i = b.rd x i := by
  unfold countModes
  dsimp only
  rw [rd_wr_apart hrun, rd_modFu]

theorem countSafe_rd {x : Fld} (hrun : F_EST.RUN_COUNT.apart x = true) (b : Block) (f i : Nat) : (b.countSafe f).rd x i = b.rd x i := by
  unfold countSafe
  split
  · dsimp only
    rw [rd_wr_apart hrun, rd_modFu]
  · rfl

theorem accumulate_rd {x : Fld} (hdom : F_EST.DOM_SLOT.apart x = true) (b : Block) (f t : Nat) (counts : Bool) (m share i : Nat) :
    (b.accumulate f t counts m share).rd x i = b.rd x i := by
  have hsum {q : Prop} [Decidable q] (c : Block) (g h : FieldUnit → FieldUnit) :
      (if q then ((c.addUse f).modFu f g).modFu f h else (c.addUse f).modFu f g).rd x i = c.rd x i := by
    split <;> rfl
  unfold accumulate
  dsimp only
  split
  · rw [rd_wr_apart hdom, rd_modFu, hsum]
  · exact hsum ..

theorem calSample_rd (b : Block) (f m : Nat) (ok : Bool) (x : Fld) (i : Nat) : (b.calSample f m ok).rd x i = b.rd x i :=
  Keeps.rd (S := [.fields]) (by simp) (by decide) x i

theorem putCounts_rd {x : Fld} (hrun : F_EST.RUN_COUNT.apart x = true) (hdom : F_EST.DOM_SLOT.apart x = true) (b : Block)
    (f t e m share : Nat) (ok ran : Bool) (i : Nat) : (b.putCounts f t e m share ok ran).rd x i = b.rd x i := by
  rw [putCounts, calSample_rd, accumulate_rd hdom, rd_cond fun _ => (countSafe_rd hrun ..).trans (countModes_rd hrun ..)]

/-- After the figures of a tick, its other registers stand. -/
theorem figured_rd {x : Fld} (hx : x.Fits ∧ x.page = 0x41) (hrun : F_EST.RUN_COUNT.apart x = true) (hdom : F_EST.DOM_SLOT.apart x = true)
    (hlim : F_LIMIT.LIMIT_EXCEED.apart x = true) (b : Block) (now f t ic vs is e m rho : Nat) (err : Int) (okC okS : Bool) :
    (b.figured now f t ic vs is e m rho err okC okS).rd x f = (b.putFigures f t e m rho err (okC && okS)).rd x f := by
  obtain ⟨hfits, hpage⟩ := hx
  unfold figured
  dsimp only
  rw [putCounts_rd hrun hdom, putWindows, checkExceed_rd ⟨hfits, by simp [hpage]⟩ hlim, rd_modFu, spread_rd hfits (by omega)]

/-! ### The validity of the tick's power is not touched again -/

theorem bill_mValid (b : Block) (f n : Nat) : FuSame FieldUnit.mValid b (b.bill f n) := by
  have hrec {q : Prop} [Decidable q] (c : Block) (t first task a : Nat) :
      FuSame FieldUnit.mValid c (if q then c.record f t 0 0x04 first 1 task a else c) :=
    .ite ((fuSame_record (fun _ _ => rfl) ..).2 (FuSame.refl _ c)) (FuSame.refl _ c)
  have hslot (c : Block) (g : Slot → Slot) (h : Coll → Coll) : FuSame FieldUnit.mValid c ((c.modSlot (tid f n) g).modColl' f
      (jobOf (c.slot (tid f n)).task) h) := Keeps.fuSame (S := [.slots, .colls]) (by simp) (by decide)
  have hreset (c : Block) : FuSame FieldUnit.mValid c (c.resetHang f) :=
    .modFu ((wr_keeps ..).fuSame (by decide)) fun _ => rfl
  have hcounts (c : Block) (cls prior a e : Nat) : FuSame FieldUnit.mValid c (((((c.inc F_TICKET.RETIRED f).inc (F_TICKET.RET_COUNT cls)
      f).add (F_TICKET.PRIOR_SUM cls) f prior).add (F_TICKET.ACTUAL_SUM cls) f a).add (F_TICKET.ERR_SUM cls) f e) :=
    Keeps.fuSame (S := [.regs]) (by simp) (by decide)
  exact FuSame.trans (.ite (hslot ..) ((hslot ..).trans ((hcounts ..).trans (hreset _)))) (hrec ..)

theorem billDue_mValid (b : Block) (now f : Nat) : FuSame FieldUnit.mValid b (b.billDue now f) :=
  .each (FuSame.refl _ b) fun c x => c.bill_mValid f x.1

theorem testDeviations_mValid (b : Block) (now f : Nat) : FuSame FieldUnit.mValid b (b.testDeviations now f) := by
  unfold testDeviations
  dsimp only
  refine .ite (FuSame.refl _ b) (.each (.modFu (FuSame.refl _ b) fun _ => rfl) fun c x => ?_)
  exact Keeps.fuSame (S := [.sensors]) (by simp) (by decide)

theorem spread_mValid (b : Block) (now f t e m rho : Nat) (ok : Bool) : FuSame FieldUnit.mValid b (b.spread now f t e m rho ok) := by
  have hreport : FuSame FieldUnit.mValid b (b.report f ok e m rho) := Keeps.fuSame (S := [.parcels]) (by simp) (by decide)
  have hshares (c : Block) : FuSame FieldUnit.mValid c (c.addShares f t) := Keeps.fuSame (S := [.slots]) (by simp) (by decide)
  exact ((hreport.trans (testDeviations_mValid ..)).trans (hshares _)).trans (billDue_mValid ..)

theorem putWindows_mValid (b : Block) (now f t core sram : Nat) : FuSame FieldUnit.mValid b (b.putWindows now f t core sram) := by
  have hwin (g : FieldUnit → FieldUnit) (hg : ∀ u, (g u).mValid = u.mValid) : FuSame FieldUnit.mValid b (b.modFu f g) :=
    (fuSame_modFu hg).2 (FuSame.refl _ b)
  have hexceed (c : Block) : FuSame FieldUnit.mValid c (c.checkExceed f now core sram) := by
    refine .ite ?_ (FuSame.refl _ c)
    rw [limitRecord, fuSame_record fun _ _ => rfl]
    exact .wr (FuSame.refl _ c)
  rw [putWindows]
  refine (hwin _ fun _ => ?_).trans (hexceed _)
  rfl

theorem countModes_mValid (b : Block) (f e m : Nat) : FuSame FieldUnit.mValid b (b.countModes f e m) := by
  unfold countModes
  dsimp only
  refine .wr (.modFu (FuSame.refl _ b) fun _ => ?_)
  rfl

theorem countSafe_mValid (b : Block) (f : Nat) : FuSame FieldUnit.mValid b (b.countSafe f) := by
  unfold countSafe
  refine .ite (.wr (.modFu (FuSame.refl _ b) fun _ => ?_)) (FuSame.refl _ b)
  rfl

theorem accumulate_mValid (b : Block) (f t : Nat) (counts : Bool) (m share : Nat) :
    FuSame FieldUnit.mValid b (b.accumulate f t counts m share) := by
  have huse : FuSame FieldUnit.mValid b (b.addUse f) := by
    unfold addUse
    refine .modFu (FuSame.refl _ b) fun _ => ?_
    rfl
  unfold accumulate
  dsimp only
  refine .ite (.wr (.modFu (.ite (.modFu (.modFu huse fun _ => ?_) fun _ => ?_) (.modFu huse fun _ => ?_)) fun _ => ?_))
    (.ite (.modFu (.modFu huse fun _ => ?_) fun _ => ?_) (.modFu huse fun _ => ?_)) <;> rfl

theorem calSample_mValid (b : Block) (f m : Nat) (ok : Bool) : FuSame FieldUnit.mValid b (b.calSample f m ok) := by
  unfold calSample
  exact .ite (FuSame.refl _ b) (.modFu (FuSame.refl _ b) fun _ => rfl)

theorem putCounts_mValid (b : Block) (f t e m share : Nat) (ok ran : Bool) :
    FuSame FieldUnit.mValid b (b.putCounts f t e m share ok ran) :=
  (((fuSame_cond fun c => (c.countModes_mValid f e m).trans (countSafe_mValid ..)).2 (FuSame.refl _ b)).trans
    (accumulate_mValid ..)).trans (calSample_mValid ..)

theorem figured_mValid (b : Block) (now f t ic vs is e m rho : Nat) (err : Int) (okC okS : Bool) :
    ((b.figured now f t ic vs is e m rho err okC okS).fu f).mValid = (okC && okS) := by
  have hlast : FuSame FieldUnit.mValid (b.putFigures f t e m rho err (okC && okS)) (b.figured now f t ic vs is e m rho err okC okS) :=
    ((spread_mValid ..).trans (putWindows_mValid ..)).trans (putCounts_mValid ..)
  rw [hlast.same, putFigures, fu_modFu_same]

/-! ### The margin mode follows (R110 to R112) -/

/-- The fields that evaluating the margin mode writes, the T2_RATE condition aside. -/
def marginFlds : List Fld := [F_DROOP.REQ, F_DROOP.SHAPING_OFF, F_DROOP.MEAS, F_DROOP.NO_DETECTOR, F_DROOP.WIDE_ENTRIES,
  F_DROOP.TRANSITION, F_DROOP.MODE_IN_FORCE, F_DROOP.SHAPE_ON, F_DROOP.STAGGER_ON, F_DROOP.STAGGER_DELAYED, F_DROOP.SHAPE_EC,
  F_DROOP.STEP_DENSE, F_DROOP.STEP_SPARSE, F_DROOP.STEP_COMPAT, F_DROOP.RING_ALLOW]

theorem select_regsOff (b : Block) (now f k : Nat) {rl : Nat} (hrl : rl < 2) : b.RegsOff [0x47, 0x48, 0x1F, 0x4B] (b.select now f rl k) := by
  have hflds : ∀ r < 2, ∀ x ∈ [F_RAIL.VSEL r, F_RAIL.TARGET r, F_RAIL.RETARGETS r, F_RAIL.ARRIVED r, F_RAIL.SLEWING r],
      x.Fits ∧ x.page ∈ [0x47, 0x48, 0x1F, 0x4B] := by decide
  have hx := hflds rl hrl
  simp only [List.forall_mem_cons] at hx
  obtain ⟨hvsel, htarget, hretargets, harrived, hslewing, -⟩ := hx
  unfold select
  dsimp only
  rw [regsOff_record (by decide), regsOff_cond fun _ => by simp [regsOff_wrB hslewing, regsOff_wrB harrived],
    regsOff_cond fun _ => by simp [regsOff_inc hretargets], regsOff_wr htarget, regsOff_wr hvsel]
  exact RegsOff.refl _ b

theorem seqSelect_regsOff (b : Block) (now f code : Nat) {rl : Nat} (hrl : rl < 2) :
    b.RegsOff [0x47, 0x48, 0x1F, 0x4B] (b.seqSelect now f rl code) := by
  have hdatum : ∀ r < 2, ∀ k < 2, (F_RAIL.DATUM r k).Fits ∧ (F_RAIL.DATUM r k).page ∈ [0x47, 0x48, 0x1F, 0x4B] := by decide
  have hk (q : Prop) [Decidable q] : (if q then 1 else 0) < 2 := by split <;> decide
  unfold seqSelect
  dsimp only
  refine RegsOff.trans ?_ (select_regsOff _ now f _ hrl)
  rw [regsOff_wr (hdatum rl hrl _ (hk _))]
  exact RegsOff.refl _ b

theorem retarget_regsOff (b : Block) (now f : Nat) : b.RegsOff [0x47, 0x48, 0x1F, 0x4B] (b.retarget now f) := by
  unfold retarget
  dsimp only
  split
  · exact RegsOff.refl _ b
  · exact (seqSelect_regsOff _ now f _ (by decide)).trans (seqSelect_regsOff _ now f _ (by decide))

variable {b : Block} {f : Nat} {x : Fld}

theorem staggerStop_rd (hx : F_DROOP.STAGGER_DELAYED.apart x = true) (b : Block) (f i : Nat) : (b.staggerStop f).rd x i = b.rd x i := by
  unfold staggerStop
  dsimp only
  rw [rd_add_apart hx]
  exact Keeps.rd (S := [.agents]) (by simp) (by decide) x i

theorem followEnables_rd (hon : F_DROOP.SHAPE_ON.apart x = true) (hsg : F_DROOP.STAGGER_ON.apart x = true)
    (hdelayed : F_DROOP.STAGGER_DELAYED.apart x = true) (b : Block) (f i : Nat) : (b.followEnables f).rd x i = b.rd x i := by
  have hshape (c : Block) : (c.shapeStop f).rd x i = c.rd x i := Keeps.rd (S := [.agents]) (by simp) (by decide) x i
  have hfirst (q : Bool) (r : Bool) : (if q then b.wrB F_DROOP.SHAPE_ON f true
      else b.cond r (fun b => (b.wrB F_DROOP.SHAPE_ON f false).shapeStop f)).rd x i = b.rd x i := by
    split
    · exact rd_wrB_apart hon ..
    · exact rd_cond fun c => (hshape _).trans (rd_wrB_apart hon ..)
  unfold followEnables
  dsimp only
  split
  · rw [rd_wrB_apart hsg, hfirst]
  · rw [rd_cond fun c => (staggerStop_rd hdelayed ..).trans (rd_wrB_apart hsg ..), hfirst]

/-- Evaluating the margin mode writes the fields above, the rails' pages and the trace's, and no other field unless the T2_RATE condition is
entered. -/
theorem evalMargin_rd (hx : x.Fits ∧ x.page ∉ [0x47, 0x48, 0x1F, 0x4B]) (happ : ∀ y ∈ marginFlds, y.apart x = true) (b : Block) (now f i : Nat) :
    (b.evalMargin now f).rd x i = (b.t2Enter now f).rd x i := by
  simp only [marginFlds, List.forall_mem_cons] at happ
  obtain ⟨hreq, hoff, hmeas, hnodet, hwide, htrans, hmode, hon, hsg, hdelayed, hec, hdense, hsparse, hcompat, hallow, -⟩ := happ
  have hcauses (c : Block) (u v w z : Bool) : ((((c.wrB F_DROOP.REQ f u).wrB F_DROOP.SHAPING_OFF f v).wrB F_DROOP.MEAS f w).wrB
      F_DROOP.NO_DETECTOR f z).rd x i = c.rd x i := by
    rw [rd_wrB_apart hnodet, rd_wrB_apart hmeas, rd_wrB_apart hoff, rd_wrB_apart hreq]
  have hmove (c : Block) (w : Bool) {q : Prop} [Decidable q] : (if q then
      (((c.modFu f (fun u => { u with wide := w })).cond w (fun b => b.inc F_DROOP.WIDE_ENTRIES f)).retarget now f).wrB F_DROOP.TRANSITION f true
      else ((((c.modFu f (fun u => { u with wide := w })).cond w (fun b => b.inc F_DROOP.WIDE_ENTRIES f)).retarget now f).wrB
        F_DROOP.TRANSITION f false).wrB F_DROOP.MODE_IN_FORCE f w).rd x i = c.rd x i := by
    have hre : (((c.modFu f (fun u => { u with wide := w })).cond w (fun b => b.inc F_DROOP.WIDE_ENTRIES f)).retarget now f).rd x i =
        c.rd x i := by
      rw [(retarget_regsOff ..).rd hx, rd_cond fun _ => rd_inc_apart hwide .., rd_modFu]
    split
    · rw [rd_wrB_apart htrans, hre]
    · rw [rd_wrB_apart hmode, rd_wrB_apart htrans, hre]
  unfold evalMargin shapeNumbers
  dsimp only
  rw [rd_wr_apart hallow, rd_wr_apart hcompat, rd_wr_apart hsparse, rd_wr_apart hdense, rd_wr_apart hec, followEnables_rd hon hsg hdelayed]
  split
  · exact hcauses ..
  · rw [hmove, hcauses]

/-- The T2_RATE condition is entered on its own page alone. -/
theorem t2Enter_rd (hrate : F_DROOP.T2_RATE.apart x = true) (hleft : F_DROOP.HOLD_LEFT.apart x = true) (b : Block) (now f i : Nat) :
    (b.t2Enter now f).rd x i = b.rd x i := by
  unfold t2Enter
  split
  · rfl
  · rw [rd_modFu, rd_fault, rd_wr_apart hleft, rd_wrB_apart hrate]

/-- It is not entered in a block that has counted nothing. -/
theorem t2Enter_of_zero (h : b.rd F_DROOP.T2_BLOCK f = 0) (now : Nat) : b.t2Enter now f = b := by
  unfold t2Enter
  rw [if_pos (by simp [h])]

theorem evalMargin_keeps (b : Block) (now f : Nat) : b.Keeps [.regs, .agents, .fields, .traces, .faults] (b.evalMargin now f) := by simp

/-! ### The estimation mode (R70) -/

theorem estModeNext_lt (b : Block) (f : Nat) : (b.estModeNext f).1 < 4 := by
  unfold estModeNext
  dsimp only
  repeat' split
  all_goals decide

theorem setEstMode_same {n why : Nat} (h : b.rd F_EST.MODE f = n) : b.setEstMode f n why = b := by
  unfold setEstMode
  rw [if_pos h]

/-- A change of the mode, with the entry that it counts. -/
theorem setEstMode_rd {n : Nat} (why : Nat) (h : b.rd F_EST.MODE f ≠ n) {x : Fld} {i : Nat} : (b.setEstMode f n why).rd x i =
    (if n = modeDrift then ((b.wr F_EST.MODE f n).wr F_EST.RUN_COUNT f 0).inc F_EST.DRIFT_COUNT f
      else if n = modeMeasured ∧ b.rd F_EST.MODE f ≠ modeSafe then ((b.wr F_EST.MODE f n).wr F_EST.RUN_COUNT f 0).inc F_EST.DISAGREE_COUNT f
      else (b.wr F_EST.MODE f n).wr F_EST.RUN_COUNT f 0).rd x i := by
  unfold setEstMode
  dsimp only
  rw [if_neg h]
  split
  · exact rd_fault ..
  · split
    · split
      · rfl
      · exact rd_fault ..
    · rfl

/-! ### Channels -/

theorem chanLost_of_valid {p : Nat} (h : b.bit (F_PHASE.CHAN_INVALID p) f = false) : b.chanLost f p =
    (((b.modPhase (phOf f p) (fun x => { x with goodTicks := 0 })).wr (F_PHASE.CHAN_INVALID p) f 1).inc F_EST.MEAS_LOSS_COUNT f).fault
      11 f p 0 :=
  if_neg (Bool.not_eq_true _ ▸ h)

theorem chanLost_of_invalid {p : Nat} (h : b.bit (F_PHASE.CHAN_INVALID p) f = true) :
    b.chanLost f p = b.modPhase (phOf f p) (fun x => { x with goodTicks := 0 }) := if_pos h

/-! ### The measurement as a whole -/

section Measure

variable (b : Block) (now f : Nat) (m : MeasIn)

theorem measure_rd {x : Fld} (hx : x.Fits ∧ x.page = 0x41) (hrun : F_EST.RUN_COUNT.apart x = true) (hdom : F_EST.DOM_SLOT.apart x = true)
    (hlim : F_LIMIT.LIMIT_EXCEED.apart x = true) : ∃ err : Int, (b.measure now f m).rd x f = ((b.putMeasure f m).putFigures f (now - 1)
      (b.eField f) ((b.putMeasure f m).shownPower f) (rhoOf ((b.putMeasure f m).shownOk f) (b.eField f) ((b.putMeasure f m).shownPower f))
      err ((b.putMeasure f m).shownOk f)).rd x f := by
  rw [measure_eq, concluded, figured_rd hx hrun hdom hlim, putMeasure_eField]
  exact ⟨_, rfl⟩

theorem measure_mValid : ((b.measure now f m).fu f).mValid = (b.putMeasure f m).shownOk f := by
  rw [measure_eq, concluded, figured_mValid]
  rfl

/-- A register that the figures do not write reads as measured. -/
theorem measure_rd_measured {x : Fld} (hx : x.Fits ∧ x.page = 0x41) (happ : ∀ y ∈ [F_EST.RUN_COUNT, F_EST.DOM_SLOT, F_LIMIT.LIMIT_EXCEED,
    F_EST.E_FIELD, F_EST.M_FIELD, F_EST.EST_TICK, F_EST.RHO, F_EST.ERR], y.apart x = true) :
    (b.measure now f m).rd x f = (b.putMeasure f m).rd x f := by
  simp only [List.forall_mem_cons] at happ
  obtain ⟨hrun, hdom, hlim, he, hm, htick, hrho, herr, -⟩ := happ
  obtain ⟨err, h⟩ := b.measure_rd now f m hx hrun hdom hlim
  rw [h, putFigures, rd_modFu, rd_wrZ_apart herr, rd_wr_apart hrho, rd_wr_apart htick, rd_wr_apart hm, rd_wr_apart he]

theorem measure_bit_measured {x : Fld} (hx : x.Fits ∧ x.page = 0x41) (happ : ∀ y ∈ [F_EST.RUN_COUNT, F_EST.DOM_SLOT, F_LIMIT.LIMIT_EXCEED,
    F_EST.E_FIELD, F_EST.M_FIELD, F_EST.EST_TICK, F_EST.RHO, F_EST.ERR], y.apart x = true) :
    (b.measure now f m).bit x f = (b.putMeasure f m).bit x f := by
  rw [bit, bit, measure_rd_measured b now f m hx happ]

theorem measure_eField : (b.measure now f m).rd F_EST.E_FIELD f = b.eField f % 2 ^ F_EST.E_FIELD.width := by
  obtain ⟨err, h⟩ := b.measure_rd now f m (x := F_EST.E_FIELD) (by decide) (by decide) (by decide) (by decide)
  rw [h, putFigures, rd_modFu, rd_wrZ_apart (by decide), rd_wr_apart (by decide), rd_wr_apart (by decide), rd_wr_apart (by decide), rd_wr_same]

theorem measure_mField : (b.measure now f m).rd F_EST.M_FIELD f = (b.putMeasure f m).shownPower f % 2 ^ F_EST.M_FIELD.width := by
  obtain ⟨err, h⟩ := b.measure_rd now f m (x := F_EST.M_FIELD) (by decide) (by decide) (by decide) (by decide)
  rw [h, putFigures, rd_modFu, rd_wrZ_apart (by decide), rd_wr_apart (by decide), rd_wr_apart (by decide), rd_wr_same]

theorem measure_estTick : (b.measure now f m).rd F_EST.EST_TICK f = (now - 1) % 2 ^ F_EST.EST_TICK.width := by
  obtain ⟨err, h⟩ := b.measure_rd now f m (x := F_EST.EST_TICK) (by decide) (by decide) (by decide) (by decide)
  rw [h, putFigures, rd_modFu, rd_wrZ_apart (by decide), rd_wr_apart (by decide), rd_wr_same]

theorem measure_rho : (b.measure now f m).rd F_EST.RHO f =
    rhoOf ((b.putMeasure f m).shownOk f) (b.eField f) ((b.putMeasure f m).shownPower f) % 2 ^ F_EST.RHO.width := by
  obtain ⟨err, h⟩ := b.measure_rd now f m (x := F_EST.RHO) (by decide) (by decide) (by decide) (by decide)
  rw [h, putFigures, rd_modFu, rd_wrZ_apart (by decide), rd_wr_same]

theorem measure_keeps : b.Keeps [.regs, .parcels, .sensors, .slots, .colls, .fields, .phases, .traces, .free] (b.measure now f m) := by simp

theorem shownOk_eq : (b.putMeasure f m).shownOk f = (b.railMeasured f 0 && b.railMeasured f 1) := by
  rw [shownOk, putMeasure_validCore, putMeasure_validSram]

end Measure

/-! ### The mode after a change -/

theorem setEstMode_mode (n why : Nat) (hn : n < 4) : (b.setEstMode f n why).rd F_EST.MODE f = n := by
  by_cases h : b.rd F_EST.MODE f = n
  · rw [setEstMode_same h, h]
  · have hset : ((b.wr F_EST.MODE f n).wr F_EST.RUN_COUNT f 0).rd F_EST.MODE f = n := by
      rw [rd_wr_apart (by decide), rd_wr_same]
      exact Nat.mod_eq_of_lt (hn.trans (by decide))
    rw [setEstMode_rd why h]
    split
    · rw [rd_inc_apart (by decide), hset]
    · split
      · rw [rd_inc_apart (by decide), hset]
      · exact hset

theorem setEstMode_runCount (n why : Nat) : (b.setEstMode f n why).rd F_EST.RUN_COUNT f =
    if b.rd F_EST.MODE f = n then b.rd F_EST.RUN_COUNT f else 0 := by
  split
  case isTrue h => rw [setEstMode_same h]
  case isFalse h =>
    have hset : ((b.wr F_EST.MODE f n).wr F_EST.RUN_COUNT f 0).rd F_EST.RUN_COUNT f = 0 := rd_wr_same ..
    rw [setEstMode_rd why h]
    split
    · rw [rd_inc_apart (by decide), hset]
    · split
      · rw [rd_inc_apart (by decide), hset]
      · exact hset

theorem setEstMode_driftCount (n why : Nat) : (b.setEstMode f n why).rd F_EST.DRIFT_COUNT f =
    if b.rd F_EST.MODE f ≠ n ∧ n = modeDrift then (b.rd F_EST.DRIFT_COUNT f + 1) % 2 ^ F_EST.DRIFT_COUNT.width
    else b.rd F_EST.DRIFT_COUNT f := by
  have hset : ((b.wr F_EST.MODE f n).wr F_EST.RUN_COUNT f 0).rd F_EST.DRIFT_COUNT f = b.rd F_EST.DRIFT_COUNT f := by
    rw [rd_wr_apart (by decide), rd_wr_apart (by decide)]
  by_cases h : b.rd F_EST.MODE f = n
  · rw [setEstMode_same h, if_neg fun hc => hc.1 h]
  · rw [setEstMode_rd why h]
    split
    case isTrue hd => rw [if_pos ⟨h, hd⟩, rd_inc_same, hset]
    case isFalse hd =>
      rw [if_neg (show ¬(b.rd F_EST.MODE f ≠ n ∧ n = modeDrift) from fun hc => hd hc.2)]
      split
      · rw [rd_inc_apart (by decide), hset]
      · exact hset

theorem setEstMode_disagreeCount (n why : Nat) : (b.setEstMode f n why).rd F_EST.DISAGREE_COUNT f =
    if b.rd F_EST.MODE f ≠ n ∧ n = modeMeasured ∧ b.rd F_EST.MODE f ≠ modeSafe then
      (b.rd F_EST.DISAGREE_COUNT f + 1) % 2 ^ F_EST.DISAGREE_COUNT.width
    else b.rd F_EST.DISAGREE_COUNT f := by
  have hset : ((b.wr F_EST.MODE f n).wr F_EST.RUN_COUNT f 0).rd F_EST.DISAGREE_COUNT f = b.rd F_EST.DISAGREE_COUNT f := by
    rw [rd_wr_apart (by decide), rd_wr_apart (by decide)]
  by_cases h : b.rd F_EST.MODE f = n
  · rw [setEstMode_same h, if_neg fun hc => hc.1 h]
  · rw [setEstMode_rd why h]
    split
    case isTrue hd =>
      rw [if_neg fun hc => absurd (hd.symm.trans hc.2.1) (by decide), rd_inc_apart (by decide), hset]
    case isFalse =>
      split
      case isTrue hm => rw [if_pos ⟨h, hm⟩, rd_inc_same, hset]
      case isFalse hm => rw [if_neg fun hc => hm hc.2, hset]

/-! ### The end of a T2 block -/

section T2

variable (b : Block) (f : Nat) (counts : Bool) (left : Nat)

theorem t2Counted_block : (b.t2Counted f counts left).rd F_DROOP.T2_BLOCK f = 0 := rd_wr_same ..

/-- The three fields of the T2 block through the margin mode. -/
theorem t2Counted_evalMargin_rd {x : Fld} (hx : x ∈ [F_DROOP.T2_BLOCK, F_DROOP.HOLD_LEFT, F_DROOP.T2_RATE]) (now : Nat) :
    ((b.t2Counted f counts left).evalMargin now f).rd x f = (b.t2Counted f counts left).rd x f := by
  have hfits : ∀ x ∈ [F_DROOP.T2_BLOCK, F_DROOP.HOLD_LEFT, F_DROOP.T2_RATE], x.Fits ∧ x.page ∉ [0x47, 0x48, 0x1F, 0x4B] := by decide
  have happ : ∀ x ∈ [F_DROOP.T2_BLOCK, F_DROOP.HOLD_LEFT, F_DROOP.T2_RATE], ∀ y ∈ marginFlds, y.apart x = true := by decide
  rw [evalMargin_rd (hfits x hx) (happ x hx), t2Enter_of_zero (t2Counted_block ..)]

end T2

end Block

/-- Settles O28: the measurement is read back through what follows it in the tick, and so are the mode and the T2 block. -/
theorem measurementEvents : Obligations.MeasurementEvents := by
  refine ⟨fun f p s hvalid => ?_, fun f p s hinv => ?_, fun f p s hgood hcause => ?_, fun f p s h => ?_, fun f m ic is s h0 h1 hic his => ?_,
    fun f m s hlost => ?_, fun f n s hn => ?_, fun f counts left s htick hcounts hleft => ?_, fun f s htick => ?_⟩
  · refine ⟨_, next_block (exec_channelInvalid f p s) (Block.chanLost_of_valid hvalid),
      Block.Keeps.withBlock_eq_graft (S := [.regs, .phases, .fields, .faults]) (by simp), ?_, ?_, ?_, ?_, ?_⟩
    · simp [Block.regsBut_inc, regsBut_wr]
    · rw [Block.bit_fault, Block.bit_inc_apart (by clear * - p; decide +revert)]
      exact Block.bit_wrB_same _ rfl f true
    · rw [Block.rd_fault, Block.rd_inc_same, Block.rd_wr_apart (by clear * - p; decide +revert)]
      rfl
    · rw [(Block.fault_keeps ..).phase (by decide), (Block.inc_keeps ..).phase (by decide), (Block.wr_keeps ..).phase (by decide),
        Block.phase_modPhase_same]
    · exact (Block.faults_fault ..).trans (by rw [lowBits_phase]; rfl)
  · refine ⟨_, next_block (exec_channelInvalid f p s) (Block.chanLost_of_invalid hinv),
      Block.Keeps.withBlock_eq_graft (S := [.phases]) (by simp), Block.phase_modPhase_same .., fun k hk => Block.phase_modPhase_other _ _ hk⟩
  · refine ⟨_, next_block (exec_channelRestored f p s) (Block.cond_of_true (by simp [hgood, hcause]) _),
      Block.Keeps.withBlock_eq_graft (S := [.regs, .phases]) (by simp), by simp [regsBut_wr], ?_⟩
    exact Block.bit_wrB_same _ rfl f false
  · exact next_block (exec_channelRestored f p s) (Block.cond_of_false (by simpa [or_iff_not_imp_left] using h) _)
  · have hok : (s.b.putMeasure f m).shownOk f = true := by rw [Block.shownOk_eq, h0, h1]; rfl
    have hicore : (s.b.putMeasure f m).rd F_EST.I_VCORE f = ic := by rw [Block.putMeasure_iCore, Block.coreAmps_measured m h0, hic]
    have hisram : (s.b.putMeasure f m).rd F_EST.I_VSRAM f = is := by rw [Block.putMeasure_iSram, Block.sramAmps_measured m h0 h1, his]
    have hpower : (s.b.putMeasure f m).shownPower f = fieldPower (s.b.senseVolts f 0 m) ic (s.b.senseVolts f 1 m) is := by
      rw [Block.shownPower, Block.putMeasure_vCore, Block.putMeasure_vSram, hicore, hisram]
    refine ⟨_, exec_measurementComplete f m s, inBlock_mk .., (s.b.measure_keeps ..).same .agents (by decide),
      (s.b.measure_keeps ..).same .rails (by decide), ?_, ?_, ?_, ?_, ?_, s.b.measure_eField .., ?_, s.b.measure_estTick .., ?_⟩
    · rw [Block.measure_rd_measured _ _ _ _ (by decide) (by decide), Block.putMeasure_vCore]
    · rw [Block.measure_rd_measured _ _ _ _ (by decide) (by decide), Block.putMeasure_vSram]
    · rw [Block.measure_rd_measured _ _ _ _ (by decide) (by decide), hicore]
    · rw [Block.measure_rd_measured _ _ _ _ (by decide) (by decide), hisram]
    · rw [Block.measure_mField, hpower]
    · rw [Block.measure_rho, hok, hpower]
    · rw [Block.measure_mValid, hok]
  · have hok : (s.b.putMeasure f m).shownOk f = false := by
      rw [Block.shownOk_eq]
      obtain h | h := hlost <;> simp [h]
    refine ⟨_, exec_measurementComplete f m s, inBlock_mk .., (s.b.measure_keeps ..).same .agents (by decide),
      (s.b.measure_keeps ..).same .rails (by decide), ?_, ?_, s.b.measure_eField .., ?_, s.b.measure_estTick .., ?_⟩
    · rw [Block.measure_bit_measured _ _ _ _ (by decide) (by decide), Block.putMeasure_validCore]
    · rw [Block.measure_bit_measured _ _ _ _ (by decide) (by decide), Block.putMeasure_validSram]
    · rw [Block.measure_rho, hok]
      rfl
    · rw [Block.measure_mValid, hok]
  · subst hn
    have hlt := s.b.estModeNext_lt f
    have hkeep {x : Fld} (hx : x.Fits ∧ x.page ∉ [0x47, 0x48, 0x1F, 0x4B]) (happ : ∀ y ∈ Block.marginFlds, y.apart x = true)
        (hrate : F_DROOP.T2_RATE.apart x = true) (hleft : F_DROOP.HOLD_LEFT.apart x = true) (c : Block) :
        (c.evalMargin s.tick f).rd x f = c.rd x f := (Block.evalMargin_rd hx happ ..).trans (Block.t2Enter_rd hrate hleft ..)
    refine ⟨_, exec_estModeChange f s, inBlock_mk .., ?_, ?_, ?_, ?_, ?_⟩
    · exact Block.Keeps.same (S := [.regs, .agents, .fields, .traces, .faults]) (by simp) .slots (by decide)
    · rw [hkeep (by decide) (by decide) (by decide) (by decide), Block.setEstMode_mode _ _ hlt]
    · rw [hkeep (by decide) (by decide) (by decide) (by decide), Block.setEstMode_runCount]
    · rw [hkeep (by decide) (by decide) (by decide) (by decide), Block.setEstMode_driftCount]
    · rw [hkeep (by decide) (by decide) (by decide) (by decide), Block.setEstMode_disagreeCount]
  · have hb := next_block (exec_t2BlockEnd f s) (if_neg (by simp [htick]))
    simp only [decide_eq_true_eq, ← hcounts, ← hleft] at hb
    refine ⟨_, hb, inBlock_mk .., ?_, ?_, fun hc => ?_, fun hc => ?_⟩
    · exact Block.Keeps.same (S := [.regs, .agents, .fields, .traces, .faults]) (by simp [Block.t2Counted]) .slots (by decide)
    · rw [Block.t2Counted_evalMargin_rd _ _ _ _ (by decide), Block.t2Counted_block]
    · subst hc
      refine ⟨?_, ?_⟩
      · rw [Block.t2Counted_evalMargin_rd _ _ _ _ (by decide), Block.t2Counted, Block.cond_true, Block.rd_wr_apart (by decide),
          Block.rd_wrB_apart (by decide), Block.rd_wr_same]
      · rw [Block.bit, Block.t2Counted_evalMargin_rd _ _ _ _ (by decide), Block.t2Counted, Block.cond_true, Block.rd_wr_apart (by decide)]
        exact Block.bit_wrB_same _ rfl f _
    · subst hc
      refine ⟨?_, ?_⟩
      · rw [Block.t2Counted_evalMargin_rd _ _ _ _ (by decide), Block.t2Counted, Block.cond_false, Block.rd_wr_apart (by decide)]
      · rw [Block.bit, Block.t2Counted_evalMargin_rd _ _ _ _ (by decide), Block.t2Counted, Block.cond_false, Block.rd_wr_apart (by decide)]
        rfl
  · exact next_block (exec_t2BlockEnd f s) (if_pos htick)

end Sys2Proof.Machine
end

section
/-!
SUPPORT. The command window: what the first status and the final status of a command leave, whatever the command has changed before.
-/

namespace Sys2Proof.Machine.Block

open Sys2Proof

variable {a b : Block} {p : CmdPort} {fl : Flight} {now status detail : Nat} {data : List Nat}

/-- The command `fl` is in flight on port `p`, owes no status, and the journal has room for one. -/
structure Ready (p : CmdPort) (fl : Flight) (b : Block) : Prop where
  flight : (b.port (portNo p)).flight = some fl
  owed : fl.owed = []
  room : b.hub.staged.length < 16

/-! ### The response -/

theorem rspData_ofResponse (p : CmdPort) {k : Nat} (hk : k < 8) : (HUB_CMD.RSP_DATA (portNo p) k).OfResponse p := by
  refine ⟨rspData_onPort p hk, ?_⟩
  simp only [HUB_CMD.RSP_DATA]
  omega

theorem writeResponse_rspStatus (b : Block) (pt : Nat) (fl : Flight) (status detail : Nat) (data : List Nat) :
    (b.writeResponse pt fl status detail data).rd (HUB_CMD.RSP_STATUS pt) 0 = status % 2 ^ 8 := rd_wr_same ..

theorem writeResponse_rspData (b : Block) (p : CmdPort) (fl : Flight) (status detail : Nat) (data : List Nat) {k : Nat} (hk : k < 8) :
    (b.writeResponse (portNo p) fl status detail data).rd (HUB_CMD.RSP_DATA (portNo p) k) 0 = data.getD k 0 % 2 ^ 32 := by
  have happ : ∀ p : CmdPort, ∀ k < 8, (HUB_CMD.RSP_STATUS (portNo p)).apart (HUB_CMD.RSP_DATA (portNo p) k) = true ∧
      (HUB_CMD.RSP_OPCODE (portNo p)).apart (HUB_CMD.RSP_DATA (portNo p) k) = true ∧
      (HUB_CMD.RSP_SEQ (portNo p)).apart (HUB_CMD.RSP_DATA (portNo p) k) = true := by
    intro p
    cases p <;> decide
  obtain ⟨hstatus, hop, hseq⟩ := happ p k hk
  rw [writeResponse, rd_wr_apart hstatus, rd_wr_apart hop, rd_wr_apart hseq]
  refine each_reaches (p := fun c => c.rd (HUB_CMD.RSP_DATA (portNo p) k) 0)
    (g := fun c k => c.wr (HUB_CMD.RSP_DATA (portNo p) k) 0 (data.getD k 0)) (fun c => rd_wr_same ..) (fun c j => ?_) (List.mem_range.2 hk) _
  obtain rfl | hj := eq_or_ne j k
  · exact .inl (rd_wr_same ..)
  · refine .inr (rd_wr_other _ _ ?_)
    simp only [Fld.key, HUB_CMD.RSP_DATA]
    omega

/-! ### A final status -/

namespace Ready

theorem of_keeps {S : List Part} (h : Ready p fl a) (hk : a.Keeps S b) (hports : .ports ∉ S) (hhub : .hub ∉ S) : Ready p fl b :=
  ⟨by rw [hk.port hports, h.flight], h.owed, by rw [hk.hub hhub]; exact h.room⟩

variable (h : Ready p fl b)
include h

theorem answer_eq (now status detail : Nat) (data : List Nat) :
    b.answer now (portNo p) status detail data = b.status now (portNo p) fl status detail data := answer_of_room h.flight h.room h.owed

variable (hfinal : status ≠ stAccepted)
include hfinal

theorem answer_flight (now detail : Nat) (data : List Nat) : ((b.answer now (portNo p) status detail data).port (portNo p)).flight = none := by
  rw [h.answer_eq, status_flight hfinal]

theorem answer_rspStatus (hstatus : status < 256) (now detail : Nat) (data : List Nat) :
    (b.answer now (portNo p) status detail data).rd (HUB_CMD.RSP_STATUS (portNo p)) 0 = status := by
  rw [h.answer_eq, status_rd_rspStatus _ _ _ _ _ _ hfinal]
  exact Nat.mod_eq_of_lt hstatus

theorem answer_rspData (now detail : Nat) (data : List Nat) {k : Nat} (hk : k < 8) :
    (b.answer now (portNo p) status detail data).rd (HUB_CMD.RSP_DATA (portNo p) k) 0 = data.getD k 0 % 2 ^ 32 := by
  rw [h.answer_eq, status_rd_response _ _ _ _ _ _ hfinal (rspData_ofResponse p hk), writeResponse_rspData _ _ _ _ _ _ hk]

end Ready

/-- A final status of the command that `c` describes. -/
theorem Ready.answered {c : Cmd} (h : Ready c.port fl b) (hseq : fl.seqNo = c.seq.toNat) (hop : fl.op < 256) (hfinal : status ≠ stAccepted)
    (hstatus : status < 256) (s : State) :
    Answered fl.op status c { s with b := b.answer now (portNo c.port) status detail data } := by
  refine ⟨h.answer_flight hfinal .., h.answer_rspStatus hfinal hstatus .., ?_, ?_⟩ <;> rw [h.answer_eq]
  · rw [status_rd_rspSeq _ _ _ _ _ _ hfinal, hseq]
    exact Nat.mod_eq_of_lt c.seq.isLt
  · rw [status_rd_rspOpcode _ _ _ _ _ _ hfinal]
    exact Nat.mod_eq_of_lt hop

/-- A status changes nothing of the hub but the journal entries that wait and the pending interrupts. -/
theorem Ready.answer_hub (h : Ready p fl b) (hfinal : status ≠ stAccepted) (now detail : Nat) (data : List Nat) :
    (b.answer now (portNo p) status detail data).hub = { b.hub with
      staged := (b.answer now (portNo p) status detail data).hub.staged
      ibiPending := (b.answer now (portNo p) status detail data).hub.ibiPending } := by
  rw [h.answer_eq]
  exact (status_frame p b now detail fl data hfinal).hub

/-- The command that a row has taken, in a block that its work has reached. -/
abbrev Taken (op : Nat) (c : Cmd) (now : Nat) (b : Block) : Prop := Ready c.port { flightOf now op c with begun := true } b

section Taken

variable {op : Nat} {c : Cmd} {s : State}

theorem begun_taken (op : Nat) (c : Cmd) {b : Block} (now : Nat) (hroom : b.hub.staged.length < 16) : Taken op c now (b.begun now op c) :=
  ⟨b.begun_flight now op c, rfl, hroom⟩

theorem Taken.answered (h : Taken op c now b) (hop : op < 256) (hfinal : status ≠ stAccepted) (hstatus : status < 256) (s : State) :
    Answered op status c { s with b := b.answer now (portNo c.port) status detail data } := Ready.answered h rfl hop hfinal hstatus s

end Taken

/-! ### ACCEPTED -/

theorem status_accepted (b : Block) (now pt : Nat) (fl : Flight) (detail : Nat) (data : List Nat) :
    b.status now pt fl stAccepted detail data =
      ((((b.writeResponse pt fl stAccepted detail data).setFlag HUB_STATE.CMP 0 pt true).reportStatus now pt fl stAccepted detail).wr
        (HUB_CMD.PORT_STATE pt) 0 2).modPort pt (fun p => { p with flight := p.flight.map (fun x => { x with accepted := true }) }) := by
  rw [status, if_pos rfl]
  rfl

theorem reportStatus_port (b : Block) (now pt : Nat) (fl : Flight) (status detail k : Nat) :
    (b.reportStatus now pt fl status detail).port k = b.port k := by
  obtain ⟨n, hn⟩ := b.reportStatus_eq now pt fl status detail
  rw [hn, (modHub_keeps ..).port (by decide)]

theorem writeResponse_port (b : Block) (pt : Nat) (fl : Flight) (status detail : Nat) (data : List Nat) (k : Nat) :
    (b.writeResponse pt fl status detail data).port k = b.port k := writeResponse_keeps (fun b => b.port k) fun _ _ _ _ => rfl

namespace Ready

variable (h : Ready p fl b)
include h

theorem accept_flight (now : Nat) (data : List Nat) :
    ((b.accept now (portNo p) data).port (portNo p)).flight = some { fl with accepted := true } := by
  rw [accept, h.answer_eq, status_accepted, port_modPort_same, (wr_keeps ..).port (by decide), reportStatus_port,
    (setFlag_keeps ..).port (by decide), writeResponse_port, h.flight]
  rfl

theorem accept_staged (now : Nat) (data : List Nat) :
    (b.accept now (portNo p) data).hub.staged = b.hub.staged ++ stagedBy now (portNo p) fl stAccepted 0 := by
  rw [accept, h.answer_eq, status_accepted, (modPort_keeps ..).hub (by decide), (wr_keeps ..).hub (by decide), reportStatus_staged,
    (setFlag_keeps ..).hub (by decide), writeResponse_hub]

theorem accept_rspStatus (now : Nat) (data : List Nat) :
    (b.accept now (portNo p) data).rd (HUB_CMD.RSP_STATUS (portNo p)) 0 = stAccepted := by
  have hstate : (HUB_CMD.PORT_STATE (portNo p)).apart (HUB_CMD.RSP_STATUS (portNo p)) = true := by cases p <;> decide
  have hcmp : HUB_STATE.CMP.apart (HUB_CMD.RSP_STATUS (portNo p)) = true := by cases p <;> decide
  rw [accept, h.answer_eq, status_accepted, rd_modPort, rd_wr_apart hstate, reportStatus_rd, rd_setFlag_apart hcmp, writeResponse_rspStatus]
  rfl

/-- After ACCEPTED a command can be answered again, where the journal has room for two. -/
theorem accept_ready (hroom : b.hub.staged.length < 15) (now : Nat) (data : List Nat) :
    Ready p { fl with accepted := true } (b.accept now (portNo p) data) := by
  refine ⟨h.accept_flight now data, h.owed, ?_⟩
  rw [h.accept_staged, List.length_append]
  have : (stagedBy now (portNo p) fl stAccepted 0).length ≤ 1 := by unfold stagedBy; split <;> simp
  omega

end Ready

/-- A command in flight that waits. -/
theorem waits_of_flight {c : Cmd} (h : (b.port (portNo c.port)).flight = some fl) (hseq : fl.seqNo = c.seq.toNat) (w : Wait) (s : State) :
    Waits c w { s with b := b.await (portNo c.port) w } := by
  have hfl : ((b.await (portNo c.port) w).port (portNo c.port)).flight = some { fl with wait := w } := by
    rw [await, port_modPort_same, h]
    rfl
  exact ⟨⟨_, hfl, hseq⟩, by rw [waitOf, hfl]⟩

/-- A command that has been accepted and waits. -/
theorem Taken.waits {op : Nat} {c : Cmd} (h : Taken op c now b) (w : Wait) (s : State) :
    Waits c w { s with b := (b.accept now (portNo c.port) data).await (portNo c.port) w } := waits_of_flight (h.accept_flight ..) rfl w s

theorem Taken.waits_rspStatus {op : Nat} {c : Cmd} (h : Taken op c now b) (w : Wait) :
    ((b.accept now (portNo c.port) data).await (portNo c.port) w).rd (HUB_CMD.RSP_STATUS (portNo c.port)) 0 = stAccepted :=
  (rd_await ..).trans (h.accept_rspStatus ..)

theorem accept_keeps (b : Block) (now pt : Nat) (data : List Nat) : b.Keeps [.regs, .ports, .hub] (b.accept now pt data) := by simp
theorem answer_keeps (b : Block) (now pt status detail : Nat) (data : List Nat) :
    b.Keeps [.regs, .ports, .hub] (b.answer now pt status detail data) := by simp
theorem await_keeps (b : Block) (pt : Nat) (w : Wait) : b.Keeps [.ports] (b.await pt w) := by simp
theorem begun_keeps (b : Block) (now op : Nat) (c : Cmd) : b.Keeps [.regs, .ports] (b.begun now op c) := by
  unfold begun submit
  simp

end Sys2Proof.Machine.Block
end

section
/-!
SUPPORT. Recalibration: solves, results, installs and the command (O29).
-/

namespace Sys2Proof.Machine

open Sys2Proof

namespace Block

variable {b : Block} {f : Nat}

/-! ### The solve (R66 to R69) -/

/-- A solve's result is kept for its boundary, and counted or sent. -/
def recalKept (b : Block) (f : Nat) (ask : Option Nat) (x : Rls) (res : RecalResult) : Block :=
  let c := (b.modFu f (fun u => { u with recalAsk := ask })).modFu f (fun u =>
    { u with cov := u.cov.set (b.fu f).lastDom x.cov, recal := some res })
  if res.atBound then (c.fault 9 f 1 0).modFu f (fun u => { u with disagreeCounted := true })
  else if res.success then c.inc F_EST.RECAL_OK f else c.inc F_EST.RECAL_FAIL f

theorem image_congr {c : Block} (hmodels : c.models = b.models) (hfu : (c.fu f).bufSel = (b.fu f).bufSel) (k : Nat) :
    c.image f k = b.image f k := by
  simp only [image, modelBuf, model, hmodels, hfu]

theorem slotLoaded_modFu (b : Block) (f k : Nat) (g : FieldUnit → FieldUnit) (j : Nat) : (b.modFu f g).slotLoaded j k = b.slotLoaded j k := rfl

theorem bypass_modFu (b : Block) (f : Nat) (g : FieldUnit → FieldUnit) (j k : Nat) : (b.modFu f g).bypass j k = b.bypass j k := rfl

theorem recalSolve_of_kept {now : Nat} {x : Rls} {wb : List Int} {g : Rat × Bool} {good : Bool} (hkept : 4 ≤ (keptSubs (b.fu f).lastSubs).length)
    (hwhole : (b.fu f).windowBroken = false) (hx : x = solved b f) (hwb : wb = x.theta.map (fun v => clampI (roundQ v) (-128) 127))
    (hg : g = fitTrim (keptSubs (b.fu f).lastSubs) wb (imgSb (b.image f (if b.slotLoaded f (b.fu f).lastDom then (b.fu f).lastDom else 0))))
    (hgood : good = (!g.2 && fitOk (keptSubs (b.fu f).lastSubs) wb
      (imgSb (b.image f (if b.slotLoaded f (b.fu f).lastDom then (b.fu f).lastDom else 0))) g.1 (b.rd F_EST.M_FLOOR f * 2000))) :
    b.recalSolve now f true = b.recalKept f none x
      { slot := (b.fu f).lastDom, wb := wb, gain := trimCode g.1, share := shareCode (b.fu f).lastShareNum (b.fu f).lastShareDen
        success := good, atBound := g.2, byCmd := true, skipped := false, lost := false, due := now / 256 * 256 + 64 } := by
  have himage (k : Nat) : (b.modFu f (fun u => { u with recalAsk := none })).image f k = b.image f k := by
    refine image_congr ((modFu_keeps ..).same .models (by decide)) ?_ k
    rw [fu_modFu_same]
  unfold recalSolve
  dsimp only
  rw [if_neg (by simp [hwhole]; omega)]
  unfold solved at hx
  dsimp only at hx
  simp only [if_true, himage, rd_modFu, slotLoaded_modFu, bypass_modFu]
  rw [← hx, ← hwb, ← hg, ← hgood]
  rfl

theorem recalSolve_of_skipped {now : Nat} (h : (keptSubs (b.fu f).lastSubs).length < 4 ∨ (b.fu f).windowBroken = true) :
    b.recalSolve now f true = ((b.modFu f (fun u => { u with recalAsk := none })).skipRecal f (b.fu f).lastDom (b.fu f).windowBroken).modFu f
      (fun u => { u with recal := some { slot := (b.fu f).lastDom, wb := [], gain := 0, share := 0, success := false, atBound := false
                                         byCmd := true, skipped := true, lost := false, due := now / 256 * 256 + 64 } }) := by
  unfold recalSolve
  dsimp only
  rw [if_pos h]
  rfl

end Block

theorem exec_recalSolve_asked {f : FieldNo} {w : Nat} {s : State} (hfrozen : s.b.recalFrozen f = false) (hrun : (s.b.proc f).st = 0)
    (hask : (s.b.fu f).recalAsk = some w) (hw : w < s.tick / 256) :
    exec (.recalSolve f) s = .next { s with b := s.b.recalSolve s.tick f true } := by
  simp only [exec, execRecalSolve, onB, hfrozen, hask, hw, hrun]
  rfl

namespace Block

variable (b : Block) (f : Nat) (ask : Option Nat) (x : Rls) (res : RecalResult)

theorem recalKept_keeps : b.Keeps [.regs, .fields, .faults] (b.recalKept f ask x res) := by
  unfold recalKept
  dsimp only
  split
  · simp
  · split <;> simp

theorem recalKept_regsBut : RegsBut [F_EST.RECAL_OK.key f, F_EST.RECAL_FAIL.key f] b (b.recalKept f ask x res) := by
  unfold recalKept
  dsimp only
  split
  · simp
  · split <;> simp [regsBut_inc]

/-- What the result is kept in is not touched by its count. -/
theorem recalKept_fu : ((b.recalKept f ask x res).fu f).recal = some res ∧ ((b.recalKept f ask x res).fu f).recalAsk = ask ∧
    ((b.recalKept f ask x res).fu f).cov = (b.fu f).cov.set (b.fu f).lastDom x.cov := by
  have hcount : FuSame (fun u => (u.recal, u.recalAsk, u.cov)) ((b.modFu f (fun u => { u with recalAsk := ask })).modFu f (fun u =>
      { u with cov := u.cov.set (b.fu f).lastDom x.cov, recal := some res })) (b.recalKept f ask x res) := by
    unfold recalKept
    refine .ite (.modFu ((fuSame_fault (fun _ _ => rfl) ..).2 (FuSame.refl _ _)) fun _ => ?_) (.ite (.wr (FuSame.refl _ _)) (.wr (FuSame.refl _ _)))
    rfl
  have h := hcount.same f
  simp only [fu_modFu_same, Prod.mk.injEq] at h
  exact h

variable {res}

theorem recalKept_ok (hbound : res.atBound = false) (hok : res.success = true) :
    (b.recalKept f ask x res).rd F_EST.RECAL_OK f = (b.rd F_EST.RECAL_OK f + 1) % 2 ^ F_EST.RECAL_OK.width := by
  unfold recalKept
  rw [hbound, hok]
  exact rd_inc_same ..

theorem recalKept_fail (hbound : res.atBound = false) (hok : res.success = false) :
    (b.recalKept f ask x res).rd F_EST.RECAL_FAIL f = (b.rd F_EST.RECAL_FAIL f + 1) % 2 ^ F_EST.RECAL_FAIL.width := by
  unfold recalKept
  rw [hbound, hok]
  exact rd_inc_same ..

theorem recalKept_bound (hbound : res.atBound = true) :
    (b.recalKept f ask x res).faults = b.faults ++ [{ src := 9, field := f, detail := 1, off := 0 }] := by
  unfold recalKept
  rw [hbound]
  exact faults_fault ..

section Skip

variable (b : Block) (f slot : Nat) (broken : Bool)

theorem skipRecal_regsBut : RegsBut [F_EST.RECAL_SKIP.key f] b (b.skipRecal f slot broken) := by
  unfold skipRecal resetRls
  rw [regsBut_cond fun _ => by simp]
  simp [regsBut_inc]

theorem skipRecal_count : (b.skipRecal f slot broken).rd F_EST.RECAL_SKIP f = (b.rd F_EST.RECAL_SKIP f + 1) % 2 ^ F_EST.RECAL_SKIP.width := by
  unfold skipRecal resetRls
  rw [rd_cond fun _ => rd_modFu .., rd_inc_same]

theorem skipRecal_fuSame {α : Type} {g : FieldUnit → α} (hg : ∀ u v w, g { u with cov := v, p0 := w } = g u) :
    FuSame g b (b.skipRecal f slot broken) :=
  (fuSame_cond fun _ => (fuSame_modFu fun _ => hg ..).2 (FuSame.refl ..)).2 (.wr (FuSame.refl ..))

variable {b f slot broken} in
theorem skipRecal_fu_other {k : Nat} (hk : k ≠ f) : (b.skipRecal f slot broken).fu k = b.fu k := by
  unfold skipRecal resetRls
  cases broken
  · rfl
  · rw [cond_true]
    exact fu_modFu_other _ _ hk

end Skip

/-! ### The install (R68, R72) -/

/-- A result put in force. -/
def recalPut (b : Block) (now f : Nat) (r : RecalResult) : Block :=
  ((((b.setBypass f r.slot r.wb).wr F_EST.GAIN_TRIM f r.gain).wr F_EST.SRAM_SHARE f r.share).wrB F_EST.TRIM_AT_BOUND f r.atBound).wr
    F_EST.LAST_RECAL f now

/-- What a result put in force means for the mode. -/
def recalNoted (b : Block) (f : Nat) (r : RecalResult) : Block :=
  b.modFu f (fun u => { u with
    recalOk := r.success && !(b.bit F_EST.FORCE_MEASURED f && b.rd F_EST.MODE f == modeMeasured), boundHit := r.atBound })

/-- A result that is due, without the command that waits for it. -/
def recalInstalled (b : Block) (now f : Nat) (r : RecalResult) : Block :=
  let c := b.modFu f (fun u => { u with recal := none })
  if r.lost then c.skipRecal f r.slot true
  else if r.skipped || c.recalFrozen f then c
  else ((c.recalPut now f r).recalNoted f r).shapeNumbers f

theorem recalFrozen_modFu (b : Block) (f : Nat) : (b.modFu f (fun u => { u with recal := none })).recalFrozen f = b.recalFrozen f := by
  rw [recalFrozen, recalFrozen, fu_modFu_same, rd_modFu]

theorem setBypass_rd {x : Fld} {slot : Nat} (hx : ∀ n < 8, (F_MODEL.BYPASS slot n).apart x = true) (b : Block) (f : Nat) (wb : List Int)
    (i : Nat) : (b.setBypass f slot wb).rd x i = b.rd x i :=
  each_inv (I := fun c => c.rd x i = b.rd x i) (fun n hn _ hc => (rd_wr_apart (hx n (List.mem_range.1 hn)) ..).trans hc) rfl

theorem setBypass_rd_same {slot n : Nat} (hn : n < 8) (b : Block) (f : Nat) (wb : List Int) :
    (b.setBypass f slot wb).rd (F_MODEL.BYPASS slot n) f = packBytes wb n % 2 ^ 32 := by
  refine each_reaches (p := fun c => c.rd (F_MODEL.BYPASS slot n) f) (g := fun c k => c.wr (F_MODEL.BYPASS slot k) f (packBytes wb k))
    (fun c => rd_wr_same ..) (fun c j => ?_) (List.mem_range.2 hn) b
  obtain rfl | hj := eq_or_ne j n
  · exact .inl (rd_wr_same ..)
  · refine .inr (rd_wr_other _ _ ?_)
    simp only [Fld.key, F_MODEL.BYPASS]
    omega

theorem recalDone_rd {x : Fld} (hx : x.Fits ∧ x.page ∉ windowPages) (b : Block) (now f i : Nat) : (b.recalDone now f).rd x i = b.rd x i := by
  refine RegsOff.rd (P := windowPages) ((regsOff_each_mem fun pt hpt c => ?_).2 (RegsOff.refl _ b)) hx i
  split
  · split
    · exact (regsOff_done (List.Subset.refl _) now (port_lt hpt) ..).2 (RegsOff.refl _ c)
    · exact (regsOff_await ..).2 (RegsOff.refl _ c)
  · exact RegsOff.refl _ c

theorem recalDone_keeps (b : Block) (now f : Nat) : b.Keeps [.regs, .ports, .hub] (b.recalDone now f) := by simp

end Block

theorem exec_recalInstall_due {f : FieldNo} {r : RecalResult} {s : State} (hr : (s.b.fu f).recal = some r) (hdue : r.due ≤ s.tick) :
    exec (.recalInstall f) s = .next { s with
      b := if r.byCmd then (s.b.recalInstalled s.tick f r).recalDone s.tick f else s.b.recalInstalled s.tick f r } := by
  simp only [exec, execRecalInstall, onB, hr]
  rw [if_neg (Nat.not_lt.2 hdue)]
  rfl

namespace Block

variable {r : RecalResult} (now : Nat)

theorem recalInstalled_of_frozen {b : Block} {f : Nat} (hlost : r.lost = false) (hfrozen : b.recalFrozen f = true) :
    b.recalInstalled now f r = b.modFu f (fun u => { u with recal := none }) := by
  unfold recalInstalled
  dsimp only
  rw [hlost, if_neg Bool.false_ne_true, if_pos (by rw [recalFrozen_modFu, hfrozen, Bool.or_true])]

theorem recalInstalled_of_good {b : Block} {f : Nat} (hlost : r.lost = false) (hfrozen : b.recalFrozen f = false) (hskip : r.skipped = false) :
    b.recalInstalled now f r = (((b.modFu f (fun u => { u with recal := none })).recalPut now f r).recalNoted f r).shapeNumbers f := by
  unfold recalInstalled
  dsimp only
  rw [hlost, if_neg Bool.false_ne_true, if_neg (by rw [recalFrozen_modFu, hfrozen, hskip]; decide)]

end Block

namespace Block

variable (b : Block) (now f : Nat) (r : RecalResult)

/-- A register off the droop page after a result is noted. -/
theorem noted_rd {x : Fld} (hx : x.Fits ∧ x.page ∉ [0x45]) (i : Nat) : ((b.recalNoted f r).shapeNumbers f).rd x i = b.rd x i := by
  rw [shapeNumbers_rd hx, recalNoted, rd_modFu]

theorem recalPut_rd {x : Fld} (hslot : ∀ n < 8, (F_MODEL.BYPASS r.slot n).apart x = true) (hgain : F_EST.GAIN_TRIM.apart x = true)
    (hshare : F_EST.SRAM_SHARE.apart x = true) (hbound : F_EST.TRIM_AT_BOUND.apart x = true) (hlast : F_EST.LAST_RECAL.apart x = true)
    (i : Nat) : (b.recalPut now f r).rd x i = b.rd x i := by
  rw [recalPut, rd_wr_apart hlast, rd_wrB_apart hbound, rd_wr_apart hshare, rd_wr_apart hgain, setBypass_rd hslot]

theorem recalPut_bypass (hslot : r.slot < 4) {n : Nat} (hn : n < 8) :
    (b.recalPut now f r).rd (F_MODEL.BYPASS r.slot n) f = packBytes r.wb n % 2 ^ 32 := by
  have happ : ∀ k < 4, ∀ n < 8, ∀ y ∈ [F_EST.LAST_RECAL, F_EST.TRIM_AT_BOUND, F_EST.SRAM_SHARE, F_EST.GAIN_TRIM],
      y.apart (F_MODEL.BYPASS k n) = true := by decide
  have h := happ r.slot hslot n hn
  simp only [List.forall_mem_cons] at h
  obtain ⟨hlast, hbound, hshare, hgain, -⟩ := h
  rw [recalPut, rd_wr_apart hlast, rd_wrB_apart hbound, rd_wr_apart hshare, rd_wr_apart hgain, setBypass_rd_same hn]

theorem recalPut_gain : (b.recalPut now f r).rd F_EST.GAIN_TRIM f = r.gain % 2 ^ F_EST.GAIN_TRIM.width := by
  rw [recalPut, rd_wr_apart (by decide), rd_wrB_apart (by decide), rd_wr_apart (by decide), rd_wr_same]

theorem recalPut_share : (b.recalPut now f r).rd F_EST.SRAM_SHARE f = r.share % 2 ^ F_EST.SRAM_SHARE.width := by
  rw [recalPut, rd_wr_apart (by decide), rd_wrB_apart (by decide), rd_wr_same]

theorem recalPut_bound : (b.recalPut now f r).bit F_EST.TRIM_AT_BOUND f = r.atBound := by
  rw [recalPut, bit_wr_apart (by decide), bit_wrB_same _ rfl]

theorem recalPut_last : (b.recalPut now f r).rd F_EST.LAST_RECAL f = now % 2 ^ F_EST.LAST_RECAL.width := rd_wr_same ..

theorem recalPut_keeps : b.Keeps [.regs] (b.recalPut now f r) := by
  unfold recalPut
  simp

end Block

theorem exec_recalibrate {c : Cmd} {s : State} (h : Passes 0x62 c s) : exec (.recalibrate c) s = .next { s with
    b := ((((s.b.begun s.tick 0x62 c).each (c.fset 0) (fun b f =>
      b.modFu f (fun u => { u with recalAsk := some (s.tick / 256), recalReset := u.recalReset || c.opt 0 }))).accept s.tick (portNo c.port)
        []).await (portNo c.port) (.recal (c.fset 0))) } := by
  show execRecalibrate c s = _
  rw [execRecalibrate, h.runCmdB_eq]

/-- The command that waits for a result sees it, and nothing else does. -/
def Block.recalAnswered (b : Block) (now f : Nat) (r : RecalResult) : Block := if r.byCmd then b.recalDone now f else b

namespace Block

theorem recalAnswered_rd {x : Fld} (hx : x.Fits ∧ x.page ∉ windowPages) (b : Block) (now f : Nat) (r : RecalResult) (i : Nat) :
    (b.recalAnswered now f r).rd x i = b.rd x i := by
  unfold recalAnswered
  split
  · exact recalDone_rd hx ..
  · rfl

theorem recalAnswered_fu (b : Block) (now f : Nat) (r : RecalResult) (k : Nat) : (b.recalAnswered now f r).fu k = b.fu k := by
  unfold recalAnswered
  split
  · exact (recalDone_keeps ..).fu (by decide) k
  · rfl

theorem shapeNumbers_keeps (b : Block) (f : Nat) : b.Keeps [.regs] (b.shapeNumbers f) := by simp

/-- The field unit after a result is put in force and noted. -/
theorem noted_fu (b : Block) (now f : Nat) {r : RecalResult} (hslot : r.slot < 4) :
    ((((b.modFu f (fun u => { u with recal := none })).recalPut now f r).recalNoted f r).shapeNumbers f).fu f =
      { b.fu f with recal := none, boundHit := r.atBound
                    recalOk := r.success && !(b.bit F_EST.FORCE_MEASURED f && b.rd F_EST.MODE f == modeMeasured) } := by
  have hbypass : ∀ k < 4, ∀ n < 8, (F_MODEL.BYPASS k n).apart F_EST.FORCE_MEASURED = true ∧ (F_MODEL.BYPASS k n).apart F_EST.MODE = true := by
    decide
  have hput {x : Fld} (h0 : ∀ n < 8, (F_MODEL.BYPASS r.slot n).apart x = true) (h1 : F_EST.GAIN_TRIM.apart x = true)
      (h2 : F_EST.SRAM_SHARE.apart x = true) (h3 : F_EST.TRIM_AT_BOUND.apart x = true) (h4 : F_EST.LAST_RECAL.apart x = true) :
      ((b.modFu f (fun u => { u with recal := none })).recalPut now f r).rd x f = b.rd x f := recalPut_rd _ _ _ _ h0 h1 h2 h3 h4 _
  have hforce := hput (fun n hn => (hbypass _ hslot n hn).1) (by decide) (by decide) (by decide) (by decide)
  have hmode := hput (fun n hn => (hbypass _ hslot n hn).2) (by decide) (by decide) (by decide) (by decide)
  rw [(shapeNumbers_keeps ..).fu (by decide), recalNoted, fu_modFu_same, (recalPut_keeps ..).fu (by decide), fu_modFu_same, bit, bit,
    hforce, hmode]

end Block

/-- Settles O29: the solve's result as the least squares give it, the install read back field by field, and the command in flight. -/
theorem recalibration : Obligations.Recalibration := by
  refine ⟨fun f w x wb g good s hfrozen hrun hask hw hkept hwhole hx hwb hg hgood => ?_, fun f w s hfrozen hrun hask hw hskip => ?_,
    fun f r s hr hdue hlost hfrozen hskip hslot => ?_, fun f r s hr hdue hlost hcmd hfrozen => ?_, fun c s hpass hroom => ?_⟩
  · refine ⟨_, next_block (exec_recalSolve_asked hfrozen hrun hask hw) (Block.recalSolve_of_kept hkept hwhole hx hwb hg hgood),
      (s.b.recalKept_keeps ..).withBlock_eq_graft, (s.b.recalKept_fu ..).1, (s.b.recalKept_fu ..).2.1, (s.b.recalKept_fu ..).2.2,
      s.b.recalKept_regsBut f none x _, fun hok => ?_, fun hok hbound => ?_, fun hbound => ?_⟩
    · have hbound : g.2 = false := by
        rw [hgood] at hok
        simpa using (Bool.and_eq_true_iff.1 hok).1
      exact s.b.recalKept_ok f none x hbound hok
    · exact s.b.recalKept_fail f none x hbound hok
    · exact s.b.recalKept_bound f none x hbound
  · refine ⟨_, next_block (exec_recalSolve_asked hfrozen hrun hask hw) (Block.recalSolve_of_skipped hskip),
      Block.Keeps.withBlock_eq_graft (S := [.regs, .fields]) (by simp), ?_, ?_, ?_, fun k hk => ?_⟩
    · rw [Block.regsBut_modFu]
      exact (s.b.modFu f _).skipRecal_regsBut f _ _
    · rw [Block.rd_modFu, Block.skipRecal_count]
      rfl
    · have hask : Block.FuSame FieldUnit.recalAsk (s.b.modFu f (fun u => { u with recalAsk := none })) (((s.b.modFu f (fun u =>
          { u with recalAsk := none })).skipRecal f (s.b.fu f).lastDom (s.b.fu f).windowBroken).modFu f
        (fun u => { u with recal := some { slot := (s.b.fu f).lastDom, wb := [], gain := 0, share := 0, success := false, atBound := false
                                           byCmd := true, skipped := true, lost := false, due := s.tick / 256 * 256 + 64 } })) := by
        refine .modFu (Block.skipRecal_fuSame _ f _ _ fun _ _ _ => rfl) fun _ => ?_
        rfl
      rw [hask.same, Block.fu_modFu_same]
    · rw [Block.fu_modFu_other _ _ hk, Block.skipRecal_fu_other hk, Block.fu_modFu_other _ _ hk]
  · have hput := exec_recalInstall_due hr hdue
    rw [Block.recalInstalled_of_good s.tick hlost hfrozen hskip] at hput
    have hfu := s.b.noted_fu s.tick f hslot
    refine ⟨_, next_block (a := Block.recalAnswered _ s.tick f r) hput rfl, inBlock_mk .., ?_, ?_, fun n hn => ?_, ?_, ?_, ?_, ?_⟩
    · rw [Block.recalAnswered_fu, hfu]
    · rw [Block.recalAnswered_fu, hfu]
    · have hfits : ∀ k < 4, ∀ n < 8, ((F_MODEL.BYPASS k n).Fits ∧ (F_MODEL.BYPASS k n).page ∉ Block.windowPages) ∧
          (F_MODEL.BYPASS k n).Fits ∧ (F_MODEL.BYPASS k n).page ∉ [0x45] := by decide
      obtain ⟨hwindow, hdroop⟩ := hfits r.slot hslot n hn
      rw [Block.recalAnswered_rd hwindow, Block.noted_rd _ _ _ hdroop, Block.recalPut_bypass _ _ _ _ hslot hn]
    · rw [Block.recalAnswered_rd (by decide), Block.noted_rd _ _ _ (by decide), Block.recalPut_gain]
    · rw [Block.recalAnswered_rd (by decide), Block.noted_rd _ _ _ (by decide), Block.recalPut_share]
    · rw [Block.bit, Block.recalAnswered_rd (by decide), Block.noted_rd _ _ _ (by decide)]
      exact Block.recalPut_bound ..
    · rw [Block.recalAnswered_rd (by decide), Block.noted_rd _ _ _ (by decide), Block.recalPut_last]
  · have hput := exec_recalInstall_due hr hdue
    rw [hcmd, if_neg Bool.false_ne_true, Block.recalInstalled_of_frozen s.tick hlost hfrozen] at hput
    refine ⟨_, hput, Block.Keeps.withBlock_eq_graft (S := [.fields]) (by simp), Block.fu_modFu_same .., fun k hk => Block.fu_modFu_other _ _ hk⟩
  · have htaken : Block.Taken 0x62 c s.tick ((s.b.begun s.tick 0x62 c).each (c.fset 0) (fun b f =>
        b.modFu f (fun u => { u with recalAsk := some (s.tick / 256), recalReset := u.recalReset || c.opt 0 }))) :=
      (Block.begun_taken 0x62 c s.tick hroom).of_keeps (S := [.fields]) (by simp) (by decide) (by decide)
    refine ⟨_, exec_recalibrate hpass, inBlock_mk .., htaken.waits _ s, htaken.waits_rspStatus _, fun f hf => ?_⟩
    rw [(Block.await_keeps ..).fu (by decide), (Block.accept_keeps ..).fu (by decide)]
    refine Block.each_reaches (p := fun b => (b.fu f).recalAsk) (fun b => by rw [Block.fu_modFu_same]) (fun b y => ?_) hf _
    obtain rfl | hy := eq_or_ne f y
    · exact .inl (by rw [Block.fu_modFu_same])
    · exact .inr (by rw [Block.fu_modFu_other _ _ hy])

end Sys2Proof.Machine
end

section
/-!
SUPPORT. MODEL_LOAD and MODEL_SWAP (O30).
-/

namespace Sys2Proof.Machine

open Sys2Proof

namespace Block

variable {b c : Block} {f slot : Nat}

/-- A fold over distinct values changes what the step of one of them changes, once. -/
theorem each_once {α β : Type} {p : Block → β} {h : β → β} {g : Block → α → Block} {x : α} {l : List α} (hx : ∀ b, p (g b x) = h (p b))
    (hg : ∀ b y, y ≠ x → p (g b y) = p b) (hn : l.Nodup) (hl : x ∈ l) (b : Block) : p (b.each l g) = h (p b) := by
  induction l generalizing b with
  | nil => cases hl
  | cons y l ih =>
    obtain ⟨hy, hn⟩ := List.nodup_cons.1 hn
    obtain rfl | hl := List.mem_cons.1 hl
    · exact (each_inv (I := fun c => p c = h (p b)) (fun z hz c hc => (hg c z fun e => hy (e ▸ hz)).trans hc) (hx b))
    · exact (ih hn hl _).trans (congrArg h (hg b y fun e => hy (e ▸ hl)))

theorem flag_wr_apart {x y : Fld} (h : x.apart y = true) (b : Block) (i j v k : Nat) : (b.wr x i v).flag y j k = b.flag y j k := by
  rw [flag, flag, rd_wr_apart h]

theorem flag_wr_instance {x : Fld} {i j : Nat} (h : j ≠ i) (b : Block) (v k : Nat) : (b.wr x i v).flag x j k = b.flag x j k := by
  rw [flag, flag, rd_wr_instance h]

theorem flag_setFlag_instance {x : Fld} {i j : Nat} (h : j ≠ i) (b : Block) (n : Nat) (v : Bool) (k : Nat) :
    (b.setFlag x i n v).flag x j k = b.flag x j k := flag_wr_instance h ..

theorem flag_setFlag_true {x : Fld} {i j k : Nat} (hj : j < x.width) : (b.setFlag x i j true).flag x i k = (b.flag x i k || decide (k = j)) := by
  have hlt : b.rd x i ||| 2 ^ j < 2 ^ x.width := Nat.or_lt_two_pow (b.rd_lt x i) (Nat.pow_lt_pow_right Nat.one_lt_two hj)
  have hrd : (b.setFlag x i j true).rd x i = b.rd x i ||| 2 ^ j := by
    rw [setFlag, rd_wr_same]
    exact Nat.mod_eq_of_lt hlt
  rw [flag, flag, hrd, Nat.testBit_or, Nat.testBit_two_pow]
  simp [eq_comm]

/-! ### One field's swap (R57) -/

/-- The fields of F_MODEL that show a slot's image. -/
theorem modelFlds_apart : ∀ k < 4, ∀ y ∈ [F_MODEL.SLOT_ID k, F_MODEL.SLOT_LEN k, F_MODEL.SLOT_CRC k, F_MODEL.SLOT_TICK k],
    y.apart F_MODEL.SLOT_STATE = true := by decide

theorem bypass_apart : ∀ k < 4, ∀ n < 8, (F_MODEL.BYPASS k n).apart F_MODEL.SLOT_STATE = true := by decide

theorem showImage_slotState (hslot : slot < 4) (b : Block) (now f j : Nat) (img : List Nat) :
    (b.showImage now f slot img).rd F_MODEL.SLOT_STATE j = b.rd F_MODEL.SLOT_STATE j := by
  have happ := modelFlds_apart slot hslot
  simp only [List.forall_mem_cons] at happ
  obtain ⟨hid, hlen, hcrc, htick, -⟩ := happ
  rw [showImage, resetRls, rd_modFu, setBypass_rd (bypass_apart slot hslot), rd_wr_apart htick, rd_wr_apart hcrc, rd_wr_apart hlen,
    rd_wr_apart hid]

theorem setBypass_keeps (b : Block) (f slot : Nat) (wb : List Int) : b.Keeps [.regs] (b.setBypass f slot wb) := by
  unfold setBypass
  simp

theorem showImage_bufSel (b : Block) (now f slot : Nat) (img : List Nat) (k : Nat) :
    ((b.showImage now f slot img).fu k).bufSel = (b.fu k).bufSel := by
  have hfu : FuSame FieldUnit.bufSel b (b.showImage now f slot img) := by
    unfold showImage resetRls
    dsimp only
    refine .modFu (FuSame.trans ?_ ((setBypass_keeps ..).fuSame (by decide))) fun _ => ?_
    · exact .wr (.wr (.wr (.wr (FuSame.refl _ b))))
    · rfl
  exact hfu.same k

/-- The flags of a slot after a swap. -/
def swapFlags (b : Block) (f slot : Nat) : Block :=
  ((b.setFlag F_MODEL.SLOT_STATE f (4 * slot + 2) false).setFlag F_MODEL.SLOT_STATE f (4 * slot + 1) false).setFlag
    F_MODEL.SLOT_STATE f (4 * slot) true

theorem swapModel_flag (hslot : slot < 4) (b : Block) (now f j k : Nat) :
    (b.swapModel now f slot).flag F_MODEL.SLOT_STATE j k = ((b.modFu f (fun u =>
      { u with bufSel := u.bufSel.set slot (1 - u.bufSel.getD slot 0) })).swapFlags f slot).flag F_MODEL.SLOT_STATE j k := by
  rw [flag, swapModel, showImage_slotState hslot]
  rfl

theorem swapModel_flags (hslot : slot < 4) (b : Block) (now f : Nat) :
    (b.swapModel now f slot).flag F_MODEL.SLOT_STATE f (4 * slot) = true ∧
      (b.swapModel now f slot).flag F_MODEL.SLOT_STATE f (4 * slot + 2) = false := by
  have hwidth : 4 * slot + 2 < F_MODEL.SLOT_STATE.width := by
    simp only [F_MODEL.SLOT_STATE]
    omega
  rw [swapModel_flag hslot, swapModel_flag hslot, swapFlags, flag_setFlag_true (by omega), flag_setFlag_true (by omega),
    flag_setFlag_false (by omega), flag_setFlag_false (by omega), flag_setFlag_false (by omega), flag_setFlag_false (by omega)]
  simp

theorem swapModel_flags_other (hslot : slot < 4) {j : Nat} (h : f ≠ j) (b : Block) (now k : Nat) :
    (b.swapModel now j slot).flag F_MODEL.SLOT_STATE f k = b.flag F_MODEL.SLOT_STATE f k := by
  rw [swapModel_flag hslot, swapFlags, flag_setFlag_instance h, flag_setFlag_instance h, flag_setFlag_instance h]
  rfl

theorem swapModel_bufSel (b : Block) (now f slot : Nat) :
    ((b.swapModel now f slot).fu f).bufSel = (b.fu f).bufSel.set slot (1 - (b.fu f).bufSel.getD slot 0) := by
  rw [swapModel, showImage_bufSel, (setFlag_keeps ..).fu (by decide), (setFlag_keeps ..).fu (by decide), (setFlag_keeps ..).fu (by decide),
    fu_modFu_same]

theorem swapModel_bufSel_other {j : Nat} (h : f ≠ j) (b : Block) (now slot : Nat) :
    ((b.swapModel now j slot).fu f).bufSel = (b.fu f).bufSel := by
  rw [swapModel, showImage_bufSel, (setFlag_keeps ..).fu (by decide), (setFlag_keeps ..).fu (by decide), (setFlag_keeps ..).fu (by decide),
    fu_modFu_other _ _ h]

/-- The swap in every field of `l`. -/
def swapped (b : Block) (now slot : Nat) (l : List Nat) : Block := b.each l (fun b f => b.swapModel now f slot)

theorem swapped_keeps (b : Block) (now slot : Nat) (l : List Nat) : b.Keeps [.regs, .fields] (b.swapped now slot l) := by
  unfold swapped
  simp

theorem swapped_bufSel {l : List Nat} (hn : l.Nodup) (hf : f ∈ l) (b : Block) (now slot : Nat) :
    ((b.swapped now slot l).fu f).bufSel = (b.fu f).bufSel.set slot (1 - (b.fu f).bufSel.getD slot 0) :=
  each_once (p := fun b => (b.fu f).bufSel) (h := fun u => u.set slot (1 - u.getD slot 0)) (g := fun b f => b.swapModel now f slot) (fun b => b.swapModel_bufSel now f slot)
    (fun b _ hy => swapModel_bufSel_other hy.symm b now slot) hn hf b

theorem swapped_flags (hslot : slot < 4) {l : List Nat} (hf : f ∈ l) (b : Block) (now : Nat) :
    (b.swapped now slot l).flag F_MODEL.SLOT_STATE f (4 * slot) = true ∧
      (b.swapped now slot l).flag F_MODEL.SLOT_STATE f (4 * slot + 2) = false := by
  have hone (k : Nat) (v : Bool) (hk : ∀ b : Block, (b.swapModel now f slot).flag F_MODEL.SLOT_STATE f k = v) :
      (b.swapped now slot l).flag F_MODEL.SLOT_STATE f k = v := by
    refine each_reaches (p := fun b => b.flag F_MODEL.SLOT_STATE f k) (g := fun b f => b.swapModel now f slot) hk (fun c y => ?_) hf b
    obtain rfl | hy := eq_or_ne f y
    · exact .inl (hk c)
    · exact .inr (swapModel_flags_other hslot hy ..)
  exact ⟨hone _ _ fun c => (swapModel_flags hslot c now f).1, hone _ _ fun c => (swapModel_flags hslot c now f).2⟩

/-- A status leaves the registers of the other pages alone. -/
theorem answer_rd {x : Fld} (hx : x.Fits ∧ x.page ∉ windowPages) (b : Block) (now : Nat) (p : CmdPort) (status detail : Nat) (data : List Nat)
    (i : Nat) : (b.answer now (portNo p) status detail data).rd x i = b.rd x i :=
  ((regsOff_answer (List.Subset.refl _) now (by cases p <;> decide) status detail data).2 (RegsOff.refl _ b)).rd hx i

/-! ### Standby buffers (R57, Table 3.9) -/

theorem modelBuf_inj {b c : Block} {f g slot : Nat} (hfg : f ≠ g) : b.modelBuf f slot true ≠ c.modelBuf g slot true := by
  unfold modelBuf
  simp only [if_true]
  omega

theorem putStandby_models (b : Block) (f slot : Nat) (img : List Nat) (ok : Bool) (k : Nat) : (b.putStandby f slot img ok).model k =
    if k = b.modelBuf f slot true then { valid := ok, bytes := img } else b.model k := by
  unfold putStandby
  rw [(setFlag_keeps ..).model (by decide)]
  split
  case isTrue h => rw [h, model_setModel_same]
  case isFalse h => rw [model_setModel_other _ _ h]

theorem modelBuf_of_fields {b c : Block} (h : c.fields = b.fields) (f slot : Nat) (v : Bool) : c.modelBuf f slot v = b.modelBuf f slot v := by
  unfold modelBuf fu
  rw [h]

/-- Every field of `l` takes the image in its standby buffer, with step `g` writing more of its registers. -/
theorem putStandby_each_model {g : Block → Nat → Block} {img : List Nat} {ok : Bool} {l : List Nat}
    (hg : ∀ (b : Block) (f : Nat), (b.putStandby f slot img ok).Keeps [.regs] (g b f)) (hf : f ∈ l) (b : Block) :
    (b.each l g).model (b.modelBuf f slot true) = { valid := ok, bytes := img } := by
  have hfields (c : Block) (y : Nat) : (g c y).fields = c.fields :=
    ((hg c y).same .fields (by decide)).trans (Keeps.same (S := [.regs, .models]) (by simp) .fields (by decide))
  have hmodel (c : Block) (hc : c.fields = b.fields) (y : Nat) : (g c y).model (b.modelBuf f slot true) =
      if f = y then { valid := ok, bytes := img } else c.model (b.modelBuf f slot true) := by
    rw [(hg c y).model (by decide), putStandby_models, ← modelBuf_of_fields hc]
    obtain rfl | hy := eq_or_ne f y
    · simp
    · rw [if_neg (modelBuf_inj hy), if_neg hy]
  refine each_reaches_of (p := fun c => c.model (b.modelBuf f slot true)) (I := fun c => c.fields = b.fields)
    (fun y _ c hc => (hfields c y).trans hc) (fun c hc => ?_) (fun y _ c hc => ?_) hf rfl
  · rw [hmodel c hc, if_pos rfl]
  · rw [hmodel c hc]
    split
    · exact .inl rfl
    · exact .inr rfl

/-- An image that passes its checks, in the standby buffer. -/
def standbyGood (b : Block) (f slot : Nat) (img : List Nat) : Block :=
  (b.putStandby f slot img true).setFlag F_MODEL.SLOT_STATE f (4 * slot + 2) true

/-- An image that fails check `e`, in the standby buffer. -/
def standbyBad (b : Block) (f slot : Nat) (img : List Nat) (e : Nat) : Block :=
  ((b.putStandby f slot img false).wr F_MODEL.LOAD_ERR f e).wr F_MODEL.LOAD_ERR_SLOT f slot

theorem standbyGood_keeps (b : Block) (f slot : Nat) (img : List Nat) : b.Keeps [.regs, .models] (b.standbyGood f slot img) := by
  unfold standbyGood putStandby
  simp

theorem standbyBad_keeps (b : Block) (f slot : Nat) (img : List Nat) (e : Nat) : b.Keeps [.regs, .models] (b.standbyBad f slot img e) := by
  unfold standbyBad putStandby
  simp

theorem standbyGood_regsOff (b : Block) (f slot : Nat) (img : List Nat) : b.RegsOff [0x42] (b.standbyGood f slot img) := by
  unfold standbyGood putStandby
  simp (disch := decide)

theorem standbyGood_flags (hslot : slot < 4) (b : Block) (f : Nat) (img : List Nat) :
    (b.standbyGood f slot img).flag F_MODEL.SLOT_STATE f (4 * slot + 1) = true ∧
      (b.standbyGood f slot img).flag F_MODEL.SLOT_STATE f (4 * slot + 2) = true := by
  have hwidth : 4 * slot + 2 < F_MODEL.SLOT_STATE.width := by
    simp only [F_MODEL.SLOT_STATE]
    omega
  rw [standbyGood, putStandby, flag_setFlag_true hwidth, flag_setFlag_true hwidth, flag_setFlag_true (by omega), flag_setFlag_true (by omega)]
  simp

theorem standbyGood_flag_other {j : Nat} (h : f ≠ j) (b : Block) (img : List Nat) (k : Nat) :
    (b.standbyGood j slot img).flag F_MODEL.SLOT_STATE f k = b.flag F_MODEL.SLOT_STATE f k := by
  rw [standbyGood, putStandby, flag_setFlag_instance h, flag_setFlag_instance h]
  rfl

theorem standbyBad_flag (hslot : slot < 4) (b : Block) (f : Nat) (img : List Nat) (e : Nat) :
    (b.standbyBad f slot img e).flag F_MODEL.SLOT_STATE f (4 * slot + 1) = false := by
  have hwidth : 4 * slot + 1 < F_MODEL.SLOT_STATE.width := by
    simp only [F_MODEL.SLOT_STATE]
    omega
  rw [standbyBad, flag_wr_apart (by decide), flag_wr_apart (by decide), putStandby, flag_setFlag_false hwidth]
  simp

theorem standbyBad_flag_other {j : Nat} (h : f ≠ j) (b : Block) (img : List Nat) (e k : Nat) :
    (b.standbyBad j slot img e).flag F_MODEL.SLOT_STATE f k = b.flag F_MODEL.SLOT_STATE f k := by
  rw [standbyBad, flag_wr_apart (by decide), flag_wr_apart (by decide), putStandby, flag_setFlag_instance h]
  rfl

theorem standbyBad_loadErr (b : Block) (f slot : Nat) (img : List Nat) (e : Nat) :
    (b.standbyBad f slot img e).rd F_MODEL.LOAD_ERR f = e % 2 ^ F_MODEL.LOAD_ERR.width := by
  rw [standbyBad, rd_wr_apart (by decide), rd_wr_same]

theorem standbyBad_loadErr_other {j : Nat} (h : f ≠ j) (b : Block) (slot : Nat) (img : List Nat) (e : Nat) :
    (b.standbyBad j slot img e).rd F_MODEL.LOAD_ERR f = b.rd F_MODEL.LOAD_ERR f := by
  rw [standbyBad, rd_wr_apart (by decide), rd_wr_instance h, putStandby, rd_setFlag_apart (by decide)]
  rfl

theorem accepted_modelBuf (b : Block) (now op : Nat) (c : Cmd) (f slot : Nat) (v : Bool) :
    ((b.begun now op c).accept now (portNo c.port) []).modelBuf f slot v = b.modelBuf f slot v :=
  (modelBuf_of_fields ((accept_keeps ..).same .fields (by decide)) f slot v).trans
    (modelBuf_of_fields ((begun_keeps b now op c).same .fields (by decide)) f slot v)

/-- The standby buffers of the fields `l` take an image that passes its checks. -/
def standbysGood (b : Block) (l : List Nat) (slot : Nat) (img : List Nat) : Block := b.each l (fun b f => b.standbyGood f slot img)

/-- The standby buffers of the fields `l` take an image that fails check `e`. -/
def standbysBad (b : Block) (l : List Nat) (slot : Nat) (img : List Nat) (e : Nat) : Block := b.each l (fun b f => b.standbyBad f slot img e)

theorem standbysGood_keeps (b : Block) (l : List Nat) (slot : Nat) (img : List Nat) :
    b.Keeps [.regs, .models] (b.standbysGood l slot img) := by
  unfold standbysGood standbyGood putStandby
  simp

theorem standbysBad_keeps (b : Block) (l : List Nat) (slot : Nat) (img : List Nat) (e : Nat) :
    b.Keeps [.regs, .models] (b.standbysBad l slot img e) := by
  unfold standbysBad standbyBad putStandby
  simp

theorem standbysGood_regsOff (b : Block) (l : List Nat) (slot : Nat) (img : List Nat) : b.RegsOff [0x42] (b.standbysGood l slot img) :=
  (regsOff_each_mem fun f _ b => standbyGood_regsOff b f slot img).2 (RegsOff.refl ..)

/-- The standby buffers after an image that passes its checks. -/
theorem standbyGood_each {l : List Nat} (hslot : slot < 4) (hf : f ∈ l) (b : Block) (img : List Nat) :
    (b.standbysGood l slot img).model (b.modelBuf f slot true) = { valid := true, bytes := img } ∧
      (b.standbysGood l slot img).flag F_MODEL.SLOT_STATE f (4 * slot + 1) = true ∧
      (b.standbysGood l slot img).flag F_MODEL.SLOT_STATE f (4 * slot + 2) = true := by
  have hone (k : Nat) (hk : ∀ b : Block, (b.standbyGood f slot img).flag F_MODEL.SLOT_STATE f k = true) :
      (b.standbysGood l slot img).flag F_MODEL.SLOT_STATE f k = true := by
    refine each_reaches (p := fun b => b.flag F_MODEL.SLOT_STATE f k) (g := fun b f => b.standbyGood f slot img) hk (fun c y => ?_) hf b
    obtain rfl | hy := eq_or_ne f y
    · exact .inl (hk c)
    · exact .inr (standbyGood_flag_other hy ..)
  exact ⟨putStandby_each_model (fun _ _ => setFlag_keeps ..) hf b, hone _ fun c => (standbyGood_flags hslot c f img).1,
    hone _ fun c => (standbyGood_flags hslot c f img).2⟩

/-- The standby buffers after an image that fails check `e`. -/
theorem standbyBad_each {l : List Nat} (hslot : slot < 4) (hf : f ∈ l) (b : Block) (img : List Nat) (e : Nat) :
    (b.standbysBad l slot img e).model (b.modelBuf f slot true) = { valid := false, bytes := img } ∧
      (b.standbysBad l slot img e).rd F_MODEL.LOAD_ERR f = e % 2 ^ F_MODEL.LOAD_ERR.width ∧
      (b.standbysBad l slot img e).flag F_MODEL.SLOT_STATE f (4 * slot + 1) = false := by
  refine ⟨putStandby_each_model (fun _ _ => by simp [standbyBad]) hf b, ?_, ?_⟩
  · refine each_reaches (p := fun b => b.rd F_MODEL.LOAD_ERR f) (g := fun b f => b.standbyBad f slot img e)
      (fun c => standbyBad_loadErr ..) (fun c y => ?_) hf b
    obtain rfl | hy := eq_or_ne f y
    · exact .inl (standbyBad_loadErr ..)
    · exact .inr (standbyBad_loadErr_other hy ..)
  · refine each_reaches (p := fun b => b.flag F_MODEL.SLOT_STATE f (4 * slot + 1)) (g := fun b f => b.standbyBad f slot img e)
      (fun c => standbyBad_flag hslot ..) (fun c y => ?_) hf b
    obtain rfl | hy := eq_or_ne f y
    · exact .inl (standbyBad_flag hslot ..)
    · exact .inr (standbyBad_flag_other hy ..)

/-! ### Pieces (R380) -/

theorem staged_stage (b : Block) (pt op slot : Nat) (fset bytes : List Nat) :
    (b.stage pt op slot fset bytes).staged pt op slot = b.staged pt op slot ++ bytes := by
  have hnone : (b.hub.staging.filter (fun x => !(x.port == pt && x.op == op && x.slot == slot))).find?
      (fun x => x.port == pt && x.op == op && x.slot == slot) = none := by
    rw [List.find?_eq_none]
    intro x hx
    have hne := (List.mem_filter.1 hx).2
    simpa only [Bool.not_eq_true', Bool.not_eq_true] using hne
  have hfind : (b.stage pt op slot fset bytes).hub.staging.find? (fun x => x.port == pt && x.op == op && x.slot == slot) =
      some { port := pt, op := op, slot := slot, fset := fset, bytes := b.staged pt op slot ++ bytes } := by
    show List.find? _ (b.hub.staging.filter _ ++ [_]) = _
    rw [List.find?_append, hnone]
    simp
  rw [staged, hfind]

theorem staged_congr {c : Block} (h : c.hub.staging = b.hub.staging) (pt op slot : Nat) : c.staged pt op slot = b.staged pt op slot := by
  rw [staged, staged, h]

end Block

/-! ### The command's rows -/

theorem exec_modelSwap_wait {p : CmdPort} {slot due : Nat} {l : List Nat} {s : State} (h : s.b.waitOf (portNo p) = .modelSwap slot l due) :
    exec (.modelSwap p) s = .next { s with b := if s.tick < due then s.b
      else (s.b.swapped s.tick slot l).done s.tick (portNo p) [lowBits 32 s.tick] } := by
  simp only [exec, execModelSwap, onB, h]
  rfl

section Load

variable {c : Cmd} {s : State}

/-- The buffer's bytes do not change as the command is taken. -/
theorem readBuf_begun (c : Cmd) (s : State) (op k : Nat) : readBuf { s with b := s.b.begun s.tick op c } c k = readBuf s c k := by
  have happ : ∀ p : CmdPort, ∀ y ∈ [HUB_CMD.HELD (portNo p), HUB_CMD.SUBMIT_TICK (portNo p), HUB_CMD.SUBMITS (portNo p),
      HUB_CMD.PORT_STATE (portNo p)], y.Fits ∧ y.off < 0x400 := by
    intro p
    cases p <;> decide
  have hdata : ∀ k < 256, (s.b.begun s.tick op c).rd (HUB_CMD.DATA (portNo c.port) k) 0 = s.b.rd (HUB_CMD.DATA (portNo c.port) k) 0 := by
    intro k hk
    have hfits : (HUB_CMD.DATA (portNo c.port) k).Fits := by
      have hp : portNo c.port < 3 := by cases c.port <;> decide
      simp only [Fld.Fits, HUB_CMD.DATA]
      omega
    have hwr (b : Block) {y : Fld} (hy : y.Fits ∧ y.off < 0x400) (v : Nat) : (b.wr y 0 v).rd (HUB_CMD.DATA (portNo c.port) k) 0 =
        b.rd (HUB_CMD.DATA (portNo c.port) k) 0 :=
      b.rd_wr_otherOff v hy.1 hfits (.inr (by have := hy.2; simp only [HUB_CMD.DATA]; omega))
    have h := happ c.port
    simp only [List.forall_mem_cons] at h
    obtain ⟨hheld, htick, hsub, hstate, -⟩ := h
    simp only [Block.begun, Block.submit, Block.rd_modPort, Block.wrB, Block.inc, Block.add, hwr _ hheld, hwr _ htick, hwr _ hsub, hwr _ hstate,
      Block.rd_setPort]
  unfold readBuf Block.areaBytes
  split
  · refine congrArg (List.take _) (List.flatMap_congr fun k hk => ?_)
    rw [hdata k (List.mem_range.1 hk)]
  · rfl

theorem bufCheck_begun (c : Cmd) (b : Block) (now op k need : Nat) : (b.begun now op c).bufCheck c k need = b.bufCheck c k need := by
  have hrd {x : Fld} (hx : x.Fits ∧ x.page = 0x1F) (i : Nat) : (b.begun now op c).rd x i = b.rd x i := by
    refine b.begun_rd now op c ?_
    rw [Fld.page_of_key hx.1, hx.2]
    cases c.port <;> decide
  have hring : (b.begun now op c).ringRegion = b.ringRegion := by
    simp only [Block.ringRegion, Block.bit, hrd (x := HUB_TRACE.DRAIN_EN) (by decide), hrd (x := HUB_TRACE.RING_BASE_LO) (by decide),
      hrd (x := HUB_TRACE.RING_BASE_HI) (by decide), hrd (x := HUB_TRACE.RING_LOG2) (by decide)]
    rfl
  simp only [Block.bufCheck, Block.bufConflict, hring]
  rfl

/-- What a whole image leads to, where it passes its checks. -/
theorem Block.loadImage_good (b : Block) (now pt slot tick : Nat) (fields : List Nat) {img : List Nat} (h : imageError img = none) :
    b.loadImage now pt slot tick fields img = ((b.accept now pt []).standbysGood fields slot img).await pt
      (.modelSwap slot fields (max tick (now + 1))) := by
  rw [loadImage, h]
  rfl

theorem Block.loadImage_bad (b : Block) (now pt slot tick : Nat) (fields : List Nat) {img : List Nat} {e : Nat} (h : imageError img = some e) :
    b.loadImage now pt slot tick fields img = ((b.accept now pt []).standbysBad fields slot img e).stop now pt
      stBadArg (badArgDetail 5 e) := by
  rw [loadImage, h]
  rfl

theorem exec_modelLoad_slot0 (h : Passes 0x60 c s) (hslot : c.arg 0 = 0) : exec (.modelLoad c) s =
    .next { s with b := (s.b.begun s.tick 0x60 c).stop s.tick (portNo c.port) stBadArg (badArgDetail 1 8) } := by
  show execModelLoad c s = _
  rw [execModelLoad, h.runCmd_eq]
  simp only [hslot, if_true]

/-- The first checks of a load. -/
structure LoadChecked (c : Cmd) (s : State) : Prop where
  passes : Passes 0x60 c s
  slot : c.arg 0 ≠ 0
  fresh : ((c.fset 1).any (fun f => s.b.flag F_MODEL.SLOT_STATE f (4 * c.arg 0 + 2))) = false
  alone : s.b.stagedElsewhere (portNo c.port) 0x60 (c.arg 0) = false
  buf : s.b.bufCheck c 4 0 = none

theorem LoadChecked.exec_eq (h : LoadChecked c s) : exec (.modelLoad c) s = .next { s with
    b := let b := s.b.begun s.tick 0x60 c
      if !c.area then b.loadImage s.tick (portNo c.port) (c.arg 0) (c.tick48 7) (c.fset 1) (readBuf s c 4)
      else if c.arg 9 ≠ (b.staged (portNo c.port) 0x60 (c.arg 0)).length then
        (b.unstage (portNo c.port) 0x60 (c.arg 0)).stop s.tick (portNo c.port) stBadArg (badArgDetail 10 0)
      else
        let b := b.stage (portNo c.port) 0x60 (c.arg 0) (c.fset 1) (readBuf s c 4)
        if c.opt 6 then
          (b.unstage (portNo c.port) 0x60 (c.arg 0)).loadImage s.tick (portNo c.port) (c.arg 0) (c.tick48 7) (c.fset 1)
            (b.staged (portNo c.port) 0x60 (c.arg 0))
        else b.done s.tick (portNo c.port) [] } := by
  have hflag (f k : Nat) : (s.b.begun s.tick 0x60 c).flag F_MODEL.SLOT_STATE f k = s.b.flag F_MODEL.SLOT_STATE f k := by
    refine congrArg (fun n => Nat.testBit n k) (s.b.begun_rd s.tick 0x60 c ?_)
    rw [Fld.page_of_key (by decide)]
    cases c.port <;> decide
  have halone : (s.b.begun s.tick 0x60 c).stagedElsewhere (portNo c.port) 0x60 (c.arg 0) = false := h.alone
  show execModelLoad c s = _
  rw [execModelLoad, h.passes.runCmd_eq]
  simp only [hflag, h.fresh, halone, h.slot, bufCheck_begun, h.buf, readBuf_begun, if_false, Bool.false_eq_true, or_self]
  split
  · rfl
  · split
    · rfl
    · split <;> rfl

theorem LoadChecked.exec_image (h : LoadChecked c s) (harea : c.area = false) : exec (.modelLoad c) s = .next { s with
    b := (s.b.begun s.tick 0x60 c).loadImage s.tick (portNo c.port) (c.arg 0) (c.tick48 7) (c.fset 1) (readBuf s c 4) } := by
  rw [h.exec_eq, harea]
  rfl

theorem LoadChecked.exec_piece (h : LoadChecked c s) (harea : c.area = true)
    (hpos : c.arg 9 = (s.b.staged (portNo c.port) 0x60 (c.arg 0)).length) (hlast : c.opt 6 = false) : exec (.modelLoad c) s = .next { s with
    b := ((s.b.begun s.tick 0x60 c).stage (portNo c.port) 0x60 (c.arg 0) (c.fset 1) (readBuf s c 4)).done s.tick (portNo c.port) [] } := by
  have hpos' : c.arg 9 = ((s.b.begun s.tick 0x60 c).staged (portNo c.port) 0x60 (c.arg 0)).length := hpos
  rw [h.exec_eq]
  dsimp only
  rw [harea, hlast, ← hpos']
  simp

end Load

open Block in
/-- Settles O30. -/
theorem modelLoading : Obligations.ModelLoading := by
  unfold Obligations.ModelLoading
  refine ⟨fun c s hpass hslot hroom => ?_, fun c s hpass h0 hslot hfresh halone hbuf => ?_, fun p fl slot due l s hfl hwait howed hroom hdue hn hslot => ?_,
    fun p slot due l s hwait hdue => ?_⟩
  · have htaken : Taken 0x60 c s.tick (s.b.begun s.tick 0x60 c) := begun_taken _ c _ hroom
    refine ⟨_, exec_modelLoad_slot0 hpass hslot, inBlock_mk .., htaken.answered (by decide) (by decide) (by decide) s, ?_⟩
    exact (answer_keeps ..).same .models (by decide)
  · have hchk : LoadChecked c s := ⟨hpass, h0, hfresh, halone, hbuf⟩
    have htaken (hroom : s.b.hub.staged.length < 16) : Taken 0x60 c s.tick (s.b.begun s.tick 0x60 c) := begun_taken _ c _ hroom
    have hflight (hroom : s.b.hub.staged.length < 15) := (htaken (by omega)).accept_ready hroom s.tick []
    refine ⟨fun harea hroom himg => ?_, fun e harea hroom himg => ?_, fun harea hroom hpos hlast => ?_⟩
    · have hready := (hflight hroom).of_keeps (standbysGood_keeps _ (c.fset 1) (c.arg 0) (readBuf s c 4)) (by decide) (by decide)
      rw [hchk.exec_image harea, loadImage_good _ _ _ _ _ _ himg]
      refine ⟨_, rfl, inBlock_mk .., waits_of_flight hready.flight rfl _ s, ?_, fun f hf => ?_⟩
      · show Block.rd _ _ _ = _
        rw [rd_await, (standbysGood_regsOff ..).rd (by cases c.port <;> decide)]
        exact (htaken (by omega)).accept_rspStatus ..
      · obtain ⟨hmodel, hloaded, hpending⟩ :=
          standbyGood_each hslot hf ((s.b.begun s.tick 0x60 c).accept s.tick (portNo c.port) []) (readBuf s c 4)
        rw [accepted_modelBuf] at hmodel
        exact ⟨hmodel, hloaded, hpending⟩
    · have hready := (hflight hroom).of_keeps (standbysBad_keeps _ (c.fset 1) (c.arg 0) (readBuf s c 4) e) (by decide) (by decide)
      rw [hchk.exec_image harea, loadImage_bad _ _ _ _ _ _ himg]
      refine ⟨_, rfl, inBlock_mk .., hready.answered rfl (by exact show 0x60 < 256 by decide) (by decide) (by decide) s, fun f hf => ?_⟩
      obtain ⟨hmodel, herr, hloaded⟩ :=
        standbyBad_each hslot hf ((s.b.begun s.tick 0x60 c).accept s.tick (portNo c.port) []) (readBuf s c 4) e
      rw [accepted_modelBuf] at hmodel
      refine ⟨?_, ?_, ?_⟩
      · rw [← hmodel]
        exact (answer_keeps ..).model (by decide) _
      · rw [← herr]
        exact answer_rd (by decide) ..
      · rw [← hloaded]
        exact congrArg (fun n => Nat.testBit n _) (answer_rd (by decide) ..)
    · have hready : Taken 0x60 c s.tick ((s.b.begun s.tick 0x60 c).stage (portNo c.port) 0x60 (c.arg 0) (c.fset 1) (readBuf s c 4)) :=
        ⟨(htaken hroom).flight, rfl, hroom⟩
      rw [hchk.exec_piece harea hpos hlast]
      refine ⟨_, rfl, inBlock_mk .., hready.answered (by decide) (by decide) (by decide) s, ?_, ?_⟩
      · exact (answer_keeps ..).same .models (by decide)
      · have hhub := congrArg (fun h : Hub => h.staging) (hready.answer_hub (status := stDone) (by decide) s.tick 0 [])
        exact (staged_congr hhub ..).trans (staged_stage ..)
  · have hready : Ready p fl s.b := ⟨hfl, howed, hroom⟩
    have hswapped := hready.of_keeps (swapped_keeps s.b s.tick slot l) (by decide) (by decide)
    have hw : s.b.waitOf (portNo p) = .modelSwap slot l due := by rw [waitOf, hfl, ← hwait]
    rw [exec_modelSwap_wait hw, if_neg (by omega)]
    refine ⟨_, rfl, inBlock_mk .., hswapped.answer_flight (by decide) .., hswapped.answer_rspStatus (by decide) (by decide) .., ?_, fun f hf => ?_⟩
    · refine (hswapped.answer_rspData (by decide) _ _ _ (by decide)).trans ?_
      simp [lowBits]
    · obtain ⟨hloaded, hpending⟩ := swapped_flags hslot hf s.b s.tick
      rw [← swapped_bufSel hn hf s.b s.tick slot, ← hloaded, ← hpending]
      refine ⟨congrArg FieldUnit.bufSel ((answer_keeps ..).fu (by decide) f), ?_, ?_⟩ <;>
        exact congrArg (fun n => Nat.testBit n _) (answer_rd (by decide) ..)
  · rw [exec_modelSwap_wait hwait, if_pos hdue]

end Sys2Proof.Machine
end

section
/-!
SUPPORT. Fields of a table's records: which operations leave what `g` reads of every record of the table.
-/

namespace Sys2Proof.Machine.Block

open Sys2Proof

variable {T α : Type} {tab : Block → Nat → T} {g : T → α} {a b c : Block} {S : List Part}

/-- From block `a` to block `b` what `g` reads of every record of the table `tab` is as before. -/
structure TabSame (tab : Block → Nat → T) (g : T → α) (a b : Block) : Prop where
  same : ∀ k, g (tab b k) = g (tab a k)

namespace TabSame

theorem refl (b : Block) : TabSame tab g b b := ⟨fun _ => rfl⟩

theorem trans (h : TabSame tab g a b) (h' : TabSame tab g b c) : TabSame tab g a c := ⟨fun k => (h'.same k).trans (h.same k)⟩

/-- An operation that keeps the table. -/
theorem of_eq (h : ∀ k, tab b k = tab a k) : TabSame tab g a b := ⟨fun k => congrArg g (h k)⟩

theorem step (h : TabSame tab g a b) (hk : ∀ k, tab c k = tab b k) : TabSame tab g a c := h.trans (of_eq hk)

theorem ite {q : Prop} [Decidable q] (hb : TabSame tab g a b) (hc : TabSame tab g a c) : TabSame tab g a (if q then b else c) := by
  split
  · exact hb
  · exact hc

theorem cond {q : Bool} {h : Block → Block} (hb : TabSame tab g a b) (hh : ∀ b : Block, TabSame tab g b (h b)) :
    TabSame tab g a (b.cond q h) := by
  cases q
  · exact hb
  · exact hb.trans (hh b)

theorem each {β : Type} {h : Block → β → Block} {l : List β} (hb : TabSame tab g a b) (hh : ∀ (b : Block) x, TabSame tab g b (h b x)) :
    TabSame tab g a (b.each l h) := hb.trans (each_inv (I := TabSame tab g b) (fun x _ c hc => hc.trans (hh c x)) (refl b))

/-- A change of one record that `g` does not see. -/
theorem of_mod {k : Nat} {u : T → T} (hsame : tab b k = u (tab a k)) (hother : ∀ j, j ≠ k → tab b j = tab a j)
    (hu : ∀ x, g (u x) = g x) : TabSame tab g a b := by
  refine ⟨fun j => ?_⟩
  obtain rfl | hj := eq_or_ne j k
  · rw [hsame, hu]
  · rw [hother j hj]

theorem modParcel {g : Parcel → α} (h : TabSame parcel g a b) {k : Nat} {u : Parcel → Parcel} (hu : ∀ x, g (u x) = g x) :
    TabSame parcel g a (b.modParcel k u) := h.trans (of_mod (parcel_modParcel_same ..) (fun _ hj => parcel_modParcel_other _ _ hj) hu)

theorem modAgent {g : Agent → α} (h : TabSame agent g a b) {k : Nat} {u : Agent → Agent} (hu : ∀ x, g (u x) = g x) :
    TabSame agent g a (b.modAgent k u) := h.trans (of_mod (agent_modAgent_same ..) (fun _ hj => agent_modAgent_other _ _ hj) hu)

theorem modSensor {g : Sensor → α} (h : TabSame sensor g a b) {k : Nat} {u : Sensor → Sensor} (hu : ∀ x, g (u x) = g x) :
    TabSame sensor g a (b.modSensor k u) := h.trans (of_mod (sensor_modSensor_same ..) (fun _ hj => sensor_modSensor_other _ _ hj) hu)

theorem modSlot {g : Slot → α} (h : TabSame slot g a b) {k : Nat} {u : Slot → Slot} (hu : ∀ x, g (u x) = g x) :
    TabSame slot g a (b.modSlot k u) := h.trans (of_mod (slot_modSlot_same ..) (fun _ hj => slot_modSlot_other _ _ hj) hu)

theorem modCtx {g : Ctx → α} (h : TabSame ctx g a b) {k : Nat} {u : Ctx → Ctx} (hu : ∀ x, g (u x) = g x) :
    TabSame ctx g a (b.modCtx k u) := h.trans (of_mod (ctx_modCtx_same ..) (fun _ hj => ctx_modCtx_other _ _ hj) hu)

theorem modRail {g : RailSt → α} (h : TabSame rail g a b) {k : Nat} {u : RailSt → RailSt} (hu : ∀ x, g (u x) = g x) :
    TabSame rail g a (b.modRail k u) := h.trans (of_mod (rail_modRail_same ..) (fun _ hj => rail_modRail_other _ _ hj) hu)

theorem modTie {g : Tie → α} (h : TabSame tie g a b) {k : Nat} {u : Tie → Tie} (hu : ∀ x, g (u x) = g x) :
    TabSame tie g a (b.modTie k u) := h.trans (of_mod (tie_modTie_same ..) (fun _ hj => tie_modTie_other _ _ hj) hu)

theorem modProc {g : Proc → α} (h : TabSame proc g a b) {k : Nat} {u : Proc → Proc} (hu : ∀ x, g (u x) = g x) :
    TabSame proc g a (b.modProc k u) := h.trans (of_mod (proc_modProc_same ..) (fun _ hj => proc_modProc_other _ _ hj) hu)

theorem modMemSt {g : MemSt → α} (h : TabSame memSt g a b) {k : Nat} {u : MemSt → MemSt} (hu : ∀ x, g (u x) = g x) :
    TabSame memSt g a (b.modMemSt k u) := h.trans (of_mod (memSt_modMemSt_same ..) (fun _ hj => memSt_modMemSt_other _ _ hj) hu)

end TabSame

end Sys2Proof.Machine.Block
end

section
/-!
SUPPORT. Frames of the parcel rings (O31).
-/

namespace Sys2Proof.Machine

open Sys2Proof

namespace Block

variable {b c : Block} {f r : Nat}

theorem mem_ringSlots {r p : Nat} (h : p / 56 = r) : p ∈ ringSlots r := by
  refine List.mem_map.2 ⟨p % 56, List.mem_range.2 (Nat.mod_lt _ (by decide)), ?_⟩
  omega

theorem pid_ne {f x y : Nat} (h : x ≠ y) : pid f x ≠ pid f y := by
  unfold pid
  omega

/-! ### The records of a ring (R23) -/

/-- The 18 words that slot `p` sends up. -/
def ringWords (b : Block) (f p : Nat) : List Nat :=
  if b.active f p then packRecord (b.agent (pid f p)).actC (b.agent (pid f p)).actM else List.replicate 18 0

/-- The activity records of a parcel. -/
def Parcel.recs (p : Parcel) : List Nat × List Nat := (p.recC, p.recM)

/-- The records of ring `l` that a good frame brings. -/
def takeActivities (b : Block) (f : Nat) (l : List Nat) : Block := b.each l (fun b x => b.takeActivity f x)

theorem takeActivities_keeps (b : Block) (f : Nat) (l : List Nat) : b.Keeps [.parcels] (b.takeActivities f l) := by
  unfold takeActivities takeActivity
  simp

theorem takeActivity_keeps (b : Block) (f p : Nat) : b.Keeps [.parcels] (b.takeActivity f p) := by
  unfold takeActivity
  simp

theorem ringWords_of_keeps (h : b.Keeps [.parcels] c) (f p : Nat) : c.ringWords f p = b.ringWords f p := by
  rw [ringWords, ringWords, active, active, h.cadE (by decide), h.agent (by decide)]

theorem takeActivity_recs (b : Block) (f p : Nat) : Parcel.recs ((b.takeActivity f p).parcel (pid f p)) =
    (recordC (b.ringWords f p), recordM (b.ringWords f p)) := by
  rw [takeActivity, parcel_modParcel_same]
  rfl

theorem takeActivities_recs {l : List Nat} {p : Nat} (hp : p ∈ l) (b : Block) : Parcel.recs ((b.takeActivities f l).parcel (pid f p)) =
    (recordC (b.ringWords f p), recordM (b.ringWords f p)) := by
  refine each_reaches_of (p := fun c => Parcel.recs (c.parcel (pid f p))) (g := fun b x => b.takeActivity f x) (I := fun c => b.Keeps [.parcels] c)
    (fun y _ c hc => hc.trans (takeActivity_keeps ..)) (fun c hc => ?_) (fun y _ c hc => ?_) hp (Keeps.refl _ b)
  · rw [takeActivity_recs, ringWords_of_keeps hc]
  · obtain rfl | hy := eq_or_ne y p
    · left
      rw [takeActivity_recs, ringWords_of_keeps hc]
    · right
      unfold takeActivity
      rw [parcel_modParcel_other _ _ (pid_ne hy.symm)]

/-- The estimates of a ring, which follow the records. -/
def estimates (b : Block) (f : Nat) (l : List Nat) : Block := b.each l (fun b x => b.estimate f x)

theorem estimates_keeps (b : Block) (f : Nat) (l : List Nat) : b.Keeps [.regs, .parcels, .fields] (b.estimates f l) := by
  unfold estimates
  simp

theorem captureProbe_keeps (b : Block) (f s : Nat) (o : NetOut) : b.Keeps [.regs, .fields] (b.captureProbe f s o) := by simp

theorem estimates_recs (b : Block) (f : Nat) (l : List Nat) : TabSame parcel Parcel.recs b (b.estimates f l) := by
  refine .each (.refl b) fun b x => ?_
  unfold estimate
  dsimp only
  refine .step ?_ ((captureProbe_keeps ..).parcel (by decide))
  exact .modParcel (.refl b) fun _ => rfl

theorem takeWordOf_keeps (b : Block) (now f : Nat) (w : TravWord) : b.Keeps [.parcels, .sensors, .fields] (b.takeWordOf now f w) := by simp

theorem takeWordOf_recs (b : Block) (now f : Nat) (w : TravWord) : TabSame parcel Parcel.recs b (b.takeWordOf now f w) := by
  unfold takeWordOf
  dsimp only
  refine .ite (.refl b) ?_
  refine .cond (.of_eq (Keeps.parcel (S := [.sensors, .fields]) (by simp) (by decide))) fun b => ?_
  exact .modParcel (.refl b) fun _ => rfl

/-- The traversal words of ring `r`. -/
def takeWords (b : Block) (now f : Nat) (r : Nat) (words : List TravWord) : Block :=
  b.each (words.filter (fun w => w.slot.val / 56 == r)) (fun b w => b.takeWordOf now f w)

theorem takeWords_keeps (b : Block) (now f r : Nat) (words : List TravWord) :
    b.Keeps [.parcels, .sensors, .fields] (b.takeWords now f r words) := by
  unfold takeWords
  simp

theorem takeWords_recs (b : Block) (now f r : Nat) (words : List TravWord) : TabSame parcel Parcel.recs b (b.takeWords now f r words) :=
  .each (.refl b) fun b w => takeWordOf_recs b now f w

end Block

section Up

variable {f : FieldNo} {s : State} (r : RingNo) (words : List TravWord)

theorem exec_upwardFrame_good (hon : s.b.railsOn f = true) : exec (.upwardFrame f r true words) s = .next { s with
    b := ((s.b.takeActivities f (ringSlots r)).estimates f (ringSlots r)).takeWords s.tick f r words } := by
  show execUpwardFrame f r true words s = _
  simp only [execUpwardFrame, onB, hon]
  rfl

theorem exec_upwardFrame_bad (hon : s.b.railsOn f = true) : exec (.upwardFrame f r false words) s = .next { s with
    b := (s.b.fault 22 f r 0).estimates f (ringSlots r) } := by
  show execUpwardFrame f r false words s = _
  simp only [execUpwardFrame, onB, hon]
  rfl

theorem exec_upwardFrame_off (hoff : s.b.railsOn f = false) (ok : Bool) : exec (.upwardFrame f r ok words) s = .next s := by
  show execUpwardFrame f r ok words s = _
  simp only [execUpwardFrame, onB, hoff]
  rfl

end Up

namespace Block

/-! ### Targets and refills (R89) -/

/-- What an agent holds for the next tick. -/
def Agent.target (a : Agent) : Nat × Nat := (a.qNext, a.refill)

theorem Agent.release_target (a : Agent) (v : Bool) : Agent.target (a.release v) = Agent.target a := by
  unfold Agent.release
  dsimp only
  split_ifs <;> rfl

theorem parcelStart_target (b : Block) (f s cls : Nat) (crit unticketed : Bool) :
    TabSame agent Agent.target b (b.parcelStart f s cls crit unticketed) := by
  unfold parcelStart
  dsimp only
  refine .modAgent (.refl b) fun a => ?_
  split
  · rfl
  · refine (Agent.release_target ..).trans ?_
    split <;> rfl

theorem restartParcel_target (b : Block) (k : Nat) : TabSame agent Agent.target b (b.restartParcel k) := by
  unfold restartParcel
  dsimp only
  split
  · exact .refl _
  · exact parcelStart_target ..

theorem resumeLate_target (b : Block) (f s : Nat) : TabSame agent Agent.target b (b.resumeLate f s) := by
  unfold resumeLate
  dsimp only
  refine .ite ?_ (.refl b)
  refine .step ?_ ((inc_keeps ..).agent (by decide))
  refine .trans ?_ (restartParcel_target ..)
  exact .modAgent (.refl b) fun _ => rfl

theorem resumeLate_keeps (b : Block) (f s : Nat) : b.Keeps [.regs, .agents] (b.resumeLate f s) := by simp

theorem takeDown_keeps (b : Block) (f s : Nat) (planned arm rel : Bool) : b.Keeps [.regs, .agents] (b.takeDown f s planned arm rel) := by
  unfold takeDown
  simp

/-- A planned frame gives an agent its parcel's plan. -/
theorem takeDown_target (b : Block) (f s : Nat) (arm rel : Bool) : Agent.target ((b.takeDown f s true arm rel).agent (pid f s)) =
    ((b.parcel (pid f s)).plan.q, (b.parcel (pid f s)).plan.refill) := by
  unfold takeDown
  dsimp only
  rw [(resumeLate_target ..).same, agent_modAgent_same]
  rfl

theorem takeDown_target_other {f s k : Nat} (hk : k ≠ pid f s) (b : Block) (planned arm rel : Bool) :
    Agent.target ((b.takeDown f s planned arm rel).agent k) = Agent.target (b.agent k) := by
  unfold takeDown
  dsimp only
  rw [(resumeLate_target ..).same, agent_modAgent_other _ _ hk]

/-- A frame down ring `l`, in tick `now`. -/
def takeDowns (b : Block) (now f : Nat) (l : List Nat) : Block :=
  b.each l (fun b x => b.takeDown f x true (wordDue now b.hub.sched) (wordDue now b.hub.release))

theorem takeDowns_keeps (b : Block) (now f : Nat) (l : List Nat) : b.Keeps [.regs, .agents] (b.takeDowns now f l) := by
  unfold takeDowns
  simp

theorem takeDowns_target {l : List Nat} {p : Nat} (hp : p ∈ l) (b : Block) (now f : Nat) :
    Agent.target ((b.takeDowns now f l).agent (pid f p)) = ((b.parcel (pid f p)).plan.q, (b.parcel (pid f p)).plan.refill) := by
  refine each_reaches_of (p := fun c => Agent.target (c.agent (pid f p)))
    (g := fun b x => b.takeDown f x true (wordDue now b.hub.sched) (wordDue now b.hub.release))
    (I := fun c => b.Keeps [.regs, .agents] c) (fun y _ c hc => hc.trans (takeDown_keeps ..)) (fun c hc => ?_) (fun y _ c hc => ?_) hp
    (Keeps.refl _ b)
  · rw [takeDown_target, hc.parcel (by decide)]
  · obtain rfl | hy := eq_or_ne p y
    · left
      rw [takeDown_target, hc.parcel (by decide)]
    · exact .inr (takeDown_target_other (pid_ne hy) ..)

end Block

theorem exec_downwardFrame_good {f : FieldNo} {s : State} (r : RingNo) (hon : s.b.railsOn f = true) (hplan : (s.b.fu f).winTick = s.tick + 1)
    (hover : (s.b.fu f).overran = false) : exec (.downwardFrame f r true) s = .next { s with
      b := s.b.takeDowns s.tick f (ringSlots r) } := by
  show execDownwardFrame f r true s = _
  rw [execDownwardFrame, onB]
  simp only [hon, hplan, hover]
  rfl

theorem lowBits_ring (r : RingNo) : lowBits 16 r.val = r.val := Nat.mod_eq_of_lt (by omega)

open Block in
/-- Settles O31. -/
theorem ringFrames : Obligations.RingFrames := by
  unfold Obligations.RingFrames
  refine ⟨fun f r ws s hon => ?_, fun f r ws s hon => ?_, fun f r ok ws s hoff => exec_upwardFrame_off r ws hoff ok,
    fun f r s hon hplan hover => ?_, fun f r s => rfl⟩
  · refine ⟨_, exec_upwardFrame_good r ws hon, inBlock_mk .., ?_, fun p hp w hw => ?_⟩
    · exact ((takeActivities_keeps ..).same .agents (by decide)).trans (((estimates_keeps ..).same .agents (by decide)).trans
        ((takeWords_keeps ..).same .agents (by decide)))
    · have hrecs := ((estimates_recs (s.b.takeActivities f (ringSlots r)) f (ringSlots r)).trans (takeWords_recs _ s.tick f r ws)).same (pid f p)
      rw [takeActivities_recs (mem_ringSlots hp)] at hrecs
      subst hw
      exact Prod.mk.inj hrecs
  · have hest := estimates_keeps (s.b.fault 22 f r 0) f (ringSlots r)
    have hbad : s.b.Keeps [.regs, .parcels, .fields, .faults] ((s.b.fault 22 f r 0).estimates f (ringSlots r)) :=
      ((fault_keeps ..).mono (by decide)).trans (hest.mono (by decide))
    refine ⟨_, exec_upwardFrame_bad r ws hon, inBlock_mk .., hbad.same .agents (by decide), hbad.same .sensors (by decide), ?_, fun p => ?_⟩
    · refine (hest.faults (by decide)).trans ((faults_fault ..).trans ?_)
      rw [lowBits_ring]
    · have hrecs := (estimates_recs (s.b.fault 22 f r 0) f (ringSlots r)).same (pid f p)
      rw [(fault_keeps ..).parcel (by decide)] at hrecs
      simp only [Parcel.recs, Prod.mk.injEq] at hrecs
      dsimp only
      exact hrecs.1
  · refine ⟨_, exec_downwardFrame_good r hon hplan hover, inBlock_mk .., ?_, ?_, fun p hp => ?_⟩
    · exact (takeDowns_keeps ..).same .shadow (by decide)
    · exact (takeDowns_keeps ..).same .parcels (by decide)
    · have h := takeDowns_target (mem_ringSlots hp) s.b s.tick f
      simp only [Agent.target, Prod.mk.injEq] at h
      dsimp only
      exact h

end Sys2Proof.Machine
end

section
/-!
SUPPORT. Reports and budgets on the hub links (O32).
-/

namespace Sys2Proof.Machine

open Sys2Proof

namespace Block

variable {f : Nat}

/-- The hub takes the report of field `f`. -/
def reportTaken (b : Block) (f : Nat) : Block :=
  b.modHub (fun h => { h with
    reports := mput Report.zero h.reports f (b.fu f).report, arrived := if h.arrived.contains f then h.arrived else f :: h.arrived })

/-- The report says that field `f` has triggered. -/
def triggerNoted (b : Block) (now f : Nat) : Block :=
  ((b.modHub (fun h => { h with wtrig := true, wtrigField := f })).wr HUB_TRACE.TRIG_TICK 0 now).wr HUB_TRACE.TRIG_FIELD 0 f

theorem reportTaken_report (b : Block) (f : Nat) : mget Report.zero (b.reportTaken f).hub.reports f = (b.fu f).report := mget_mput_same

theorem reportTaken_report_other {k : Nat} (hk : k ≠ f) (b : Block) :
    mget Report.zero (b.reportTaken f).hub.reports k = mget Report.zero b.hub.reports k := mget_mput_other hk

theorem reportTaken_arrived (b : Block) (f : Nat) : (b.reportTaken f).hub.arrived.contains f = true := by
  show (if _ then _ else _ : List Nat).contains f = true
  split
  case isTrue h => exact h
  case isFalse => simp

/-- The counter of field `f`'s copy of wafer time does not agree with the time. -/
def copyWrong (b : Block) (now f : Nat) : Bool := !(b.fu f).resync && lowBits 16 (b.fu f).copy != lowBits 16 now

/-- Field `f` takes its budget. -/
def budgetTaken (b : Block) (now f : Nat) : Block :=
  b.modFu f (fun u => { u with
    copy := if u.resync then now else u.copy, resync := b.copyWrong now f
    budgetNext := if b.hub.framesSent then some (mget 0 b.hub.gives f, b.hub.reason) else u.budgetNext
    drainKept := u.drainKept.filter (fun d => decide (u.drainApplied < d.seqNo))
    wtrig := u.wtrig || b.hub.wtrigCast })

theorem fault_fu_other {k : Nat} (hk : k ≠ f) (b : Block) (src detail off : Nat) : (b.fault src f detail off).fu k = b.fu k := by
  have hfu (c : Block) (l : List FaultWord) : ({ c with faults := l } : Block).fu k = c.fu k := rfl
  rw [fault, hfu]
  split
  · exact fu_modFu_other _ _ hk
  · rfl

theorem cond_fault_fu_other {k : Nat} (hk : k ≠ f) (b : Block) (v : Bool) (src detail off : Nat) :
    (b.cond v (fun b => b.fault src f detail off)).fu k = b.fu k := by
  cases v
  · rfl
  · exact fault_fu_other hk ..

theorem fault_budgetNext (b : Block) (src f detail off k : Nat) : ((b.fault src f detail off).fu k).budgetNext = (b.fu k).budgetNext :=
  ((fuSame_fault (fun _ _ => rfl) ..).2 (FuSame.refl _ b)).same k

theorem cond_fault_keeps (b : Block) (v : Bool) (src f detail off : Nat) :
    b.Keeps [.fields, .faults] (b.cond v (fun b => b.fault src f detail off)) := by simp

theorem budgetTaken_keeps (b : Block) (now f : Nat) : b.Keeps [.fields, .faults] (b.budgetTaken now f) := by
  unfold budgetTaken
  simp

end Block

theorem exec_fieldReport_good (f : FieldNo) (s : State) : exec (.fieldReport f true) s = .next { s with
    b := if (s.b.fu f).report.triggered then (s.b.reportTaken f).triggerNoted s.tick f else s.b.reportTaken f } := rfl

theorem exec_budgetFrame_good (f : FieldNo) (s : State) : exec (.budgetFrame f true) s = .next { s with
    b := (s.b.budgetTaken s.tick f).cond (s.b.copyWrong s.tick f) (fun b => b.fault 22 f 0xFF 0) } := rfl

open Block in
/-- Settles O32. -/
theorem linkFrames : Obligations.LinkFrames := by
  unfold Obligations.LinkFrames
  refine ⟨fun f s htrig => ?_, fun f s htrig => ?_, fun f s => ⟨_, rfl, rfl, rfl, rfl⟩, fun f s hsent => ?_, fun f s => ?_⟩
  · exact ⟨_, next_block (exec_fieldReport_good f s) (if_neg (by simp [htrig])), rfl, reportTaken_report .., reportTaken_arrived ..,
      fun k hk => reportTaken_report_other hk _⟩
  · refine ⟨_, next_block (exec_fieldReport_good f s) (if_pos htrig), rfl, reportTaken_report .., reportTaken_arrived .., rfl, rfl, ?_, ?_, ?_⟩
    · exact (rd_wr_same ..).trans (Nat.mod_eq_of_lt (f.isLt.trans (by decide)))
    · exact (rd_wr_apart (x := HUB_TRACE.TRIG_FIELD) (y := HUB_TRACE.TRIG_TICK) (by decide) ..).trans (rd_wr_same ..)
    · exact (regsBut_wr (by simp) _).2 ((regsBut_wr (by simp) _).2 fun _ _ _ => rfl)
  · refine ⟨_, exec_budgetFrame_good f s,
      (((budgetTaken_keeps ..).trans (cond_fault_keeps ..))).withBlock_eq_graft, ?_, fun k hk => ?_⟩
    · refine (((fuSame_cond fun b => (fuSame_fault (fun _ _ => rfl) ..).2 (FuSame.refl _ b)).2 (FuSame.refl _ _)).same f).trans ?_
      rw [budgetTaken, fu_modFu_same, if_pos hsent]
    · exact (cond_fault_fu_other hk ..).trans (fu_modFu_other _ _ hk)
  · exact ⟨_, rfl, (fault_keeps ..).withBlock_eq_graft, fault_budgetNext .., faults_fault ..⟩

end Sys2Proof.Machine
end

section
/-!
SUPPORT. The division, the plan and their overruns (O33).
-/

namespace Sys2Proof.Machine

open Sys2Proof

namespace Block

variable {b c : Block} {now f n : Nat}

/-! ### The division (R86, R92) -/

/-- What the division of tick `n` finds. -/
def divFound (b : Block) (n : Nat) : Int × Int × Int := b.waferAllow (n + 2) (b.pwMeasured n)

/-- The budgets that a division gives. -/
def divGives (b : Block) (bw : Int) : List (Nat × Nat) := if b.unmet then b.floorsOnly else b.divide (bw / 125)

/-- The planned wafer power behind the budgets `gives`. -/
def divPlanned (b : Block) (gives : List (Nat × Nat)) : Nat :=
  125 * (gives.map (fun x => if b.isOut x.1 then 0 else max x.2 (b.repOf x.1).floor)).sum + b.overhead

/-- The hub after the division. -/
def divHub (b : Block) (n bind : Nat) (gives : List (Nat × Nat)) (planned : Nat) (pw : List Nat) : Block :=
  b.modHub (fun h => { h with
    gives := gives.filter (fun x => x.2 != 0), reason := b.waferReason bind, framesSent := true, pw := pw, pwTick := n + 2, planned := planned })

/-- The registers that show the division. -/
def divShown (b : Block) (n bind : Nat) (bw : Int) (pw : List Nat) (m : Nat) : Block :=
  let mean (span : Nat) : Nat := (pw.take span).sum / span
  let b := ((b.wr HUB_CAP.BINDING 0 bind).wr HUB_CAP.BUDGET_W 0 (min (2 ^ 32 - 1) bw.toNat)).wr HUB_CAP.DIV_TICK 0 n
  let b := if 3 ≤ n then b.wr HUB_CAP.P_TICK 0 m else b
  ((b.wr HUB_CAP.AVG_MS 0 (mean (min 512 (n + 3)))).wr HUB_CAP.AVG_ST 0 (mean (min 16 (n + 3)))).wr HUB_CAP.AVG_S 0 (mean (spanS (n + 2)))

theorem capDivision_eq (b : Block) (n : Nat) : b.capDivision n =
    let a := b.divFound n
    let bw := min a.1 (min a.2.1 a.2.2) - Int.ofNat b.overhead
    let planned := b.divPlanned (b.divGives bw)
    let pw := (planned :: b.pwMeasured n).take (953 * 512 + 512)
    (b.divHub n (bindingOf a) (b.divGives bw) planned pw).divShown n (bindingOf a) bw pw b.measuredPw := rfl

theorem capDivision_form (b : Block) (n : Nat) :
    ∃ bw, bw = min (b.divFound n).1 (min (b.divFound n).2.1 (b.divFound n).2.2) - Int.ofNat b.overhead ∧
      b.capDivision n = (b.divHub n (bindingOf (b.divFound n)) (b.divGives bw) (b.divPlanned (b.divGives bw))
        ((b.divPlanned (b.divGives bw) :: b.pwMeasured n).take (953 * 512 + 512))).divShown n (bindingOf (b.divFound n)) bw
        ((b.divPlanned (b.divGives bw) :: b.pwMeasured n).take (953 * 512 + 512)) b.measuredPw := ⟨_, rfl, capDivision_eq b n⟩

theorem divShown_keeps (b : Block) (n bind : Nat) (bw : Int) (pw : List Nat) (m : Nat) : b.Keeps [.regs] (b.divShown n bind bw pw m) := by
  unfold divShown
  simp

theorem divShown_rd {x : Fld} (hx : ∀ y ∈ [HUB_CAP.P_TICK, HUB_CAP.AVG_MS, HUB_CAP.AVG_ST, HUB_CAP.AVG_S], y.apart x = true)
    (b : Block) (n bind : Nat) (bw : Int) (pw : List Nat) (m : Nat) : (b.divShown n bind bw pw m).rd x 0 =
      (((b.wr HUB_CAP.BINDING 0 bind).wr HUB_CAP.BUDGET_W 0 (min (2 ^ 32 - 1) bw.toNat)).wr HUB_CAP.DIV_TICK 0 n).rd x 0 := by
  simp only [List.forall_mem_cons] at hx
  obtain ⟨htick, hms, hst, hs, -⟩ := hx
  unfold divShown
  dsimp only
  rw [rd_wr_apart hs, rd_wr_apart hst, rd_wr_apart hms]
  split
  · rw [rd_wr_apart htick]
  · rfl

theorem bindingOf_lt (a : Int × Int × Int) : bindingOf a < 2 ^ HUB_CAP.BINDING.width := by
  have hw : 4 ≤ 2 ^ HUB_CAP.BINDING.width := by decide
  refine Nat.lt_of_lt_of_le ?_ hw
  unfold bindingOf
  split_ifs <;> decide

theorem divShown_binding (b : Block) (n : Nat) (a : Int × Int × Int) (bw : Int) (pw : List Nat) (m : Nat) :
    (b.divShown n (bindingOf a) bw pw m).rd HUB_CAP.BINDING 0 = bindingOf a := by
  rw [divShown_rd (by decide), rd_wr_apart (by decide), rd_wr_apart (by decide), rd_wr_same]
  exact Nat.mod_eq_of_lt (bindingOf_lt a)

theorem divShown_budget (b : Block) (n bind : Nat) (bw : Int) (pw : List Nat) (m : Nat) :
    (b.divShown n bind bw pw m).rd HUB_CAP.BUDGET_W 0 = min (2 ^ 32 - 1) bw.toNat := by
  rw [divShown_rd (by decide), rd_wr_apart (by decide), rd_wr_same]
  exact Nat.mod_eq_of_lt (Nat.lt_of_le_of_lt (Nat.min_le_left ..) (by decide))

theorem divShown_tick (b : Block) (n bind : Nat) (bw : Int) (pw : List Nat) (m : Nat) :
    (b.divShown n bind bw pw m).rd HUB_CAP.DIV_TICK 0 = n % 2 ^ 32 := by
  rw [divShown_rd (by decide)]
  exact rd_wr_same ..

/-! ### The plan (R88) -/

/-- What a plan has worked out before it writes anything. -/
structure Worked where
  least : Term
  out : PlanOut
  refills : List (Nat × Nat) × Nat
  power : Nat × Nat
  window : List Nat × List Nat
  allow : Int × Int
  loads : List Load
  elec : Int
  therm : Int
  withheld : Bool
  figure : Nat
  before : (Nat × Nat) × Bool
  sel : Nat

/-- The plan worked out from the report's block `b`. -/
def planWork (b : Block) (now f : Nat) : Worked :=
  let t := now + 1
  let out := b.isOut f
  let mode := b.rd F_EST.MODE f
  let ctl := b.control f
  let kappa := kappaOf ctl.power (b.eField f)
  let u := b.fu f
  let okC := b.bit F_EST.MEAS_VALID_CORE f
  let okS := b.bit F_EST.MEAS_VALID_SRAM f
  let wc0 := winAlign u.winCore u.winTick now
  let ws0 := winAlign u.winSram u.winTick now
  let wc := wc0.set 1 (winFigure mode okC (wc0.getD 1 0) ctl.core)
  let ws := ws0.set 1 (winFigure mode okS (ws0.getD 1 0) ctl.sram)
  let loads := (b.actives f).map (b.load f now kappa (b.slotsOf f))
  let elecTerms := b.terms f wc ws
  let therm : Int := 128000 * b.rd F_LIMIT.THERM_LIM f
  let budget : Int := 128000 * b.rd F_LIMIT.BUDGET f
  let w := leastTerm (elecTerms ++ [{ code := 4, rail := 0, power := therm }, { code := 5, rail := 0, power := budget }])
  let o0 := distribute (b.rd HUB_CAP.HEAD_MODE 0) t loads w.power
  let o : PlanOut := if out || b.unmet then { o0 with qs := loads.map (fun p => (p, 1)), floorOver := o0.floorOver } else o0
  let plan := planned64 o.qs
  let sh := b.rd F_EST.SRAM_SHARE f
  let withheld := out || o.floorOver || b.bit HUB_CAP.QUIESCED 0
  let allow (rl : Nat) : Int :=
    let a := b.railAllow f rl (if rl = 0 then wc else ws)
    min a.1 (min a.2.1 a.2.2)
  { least := w, out := o, refills := b.refills f t withheld (w.power - plan) (b.actives f)
    power := (16 * plan * (65536 - sh) / (64 * 65536 * b.datumV f 0), 16 * plan * sh / (64 * 65536 * b.datumV f 1))
    window := (wc, ws), allow := (allow 0, allow 1), loads := loads, elec := (leastTerm elecTerms).power, therm := therm
    withheld := withheld, figure := if w.rail = 0 then ctl.core / 16 else ctl.sram / 16
    before := ((b.rd F_LIMIT.BIND f, b.rd F_LIMIT.BIND_RAIL f), b.bit F_LIMIT.FLOOR_OVER f), sel := b.rd F_ISSUE.PARCEL_SEL f }

/-- The counters that a plan moves on. -/
def planCounts (b : Block) (f : Nat) (x : Worked) (acts : List Nat) : Block :=
  (b.each x.loads (fun b p => b.predictions f p)).each acts (fun b s =>
    let r := (b.parcel (pid f s)).recC
    b.add2 F_ISSUE.ISSUE_LO F_ISSUE.ISSUE_HI f (r.getD 0 0 + r.getD 1 0 + r.getD 2 0))

/-- The rates chosen, with their reasons. -/
def planDone (b : Block) (f : Nat) (x : Worked) : List ((Load × Nat) × Nat) := x.out.qs.map (fun y => (y, b.reasonOf f x.least y.1 y.2))

/-- The plans of the active parcels. -/
def planActive (b : Block) (f : Nat) (x : Worked) (done : List ((Load × Nat) × Nat)) : Block :=
  b.each done (fun b y => b.putPlan f y.1.1.slot y.1.2 y.1.1.base y.1.1.dyn y.1.1.cap (mget 0 x.refills.1 y.1.1.slot) y.2 y.1.1.crit)

/-- The plans of the parcels that are not active. -/
def planIdle (b : Block) (f : Nat) : Block :=
  b.each (allSlots.filter (fun s => !b.active f s)) (fun b s => b.putPlan f s 1 0 0 64 0 0 false)

/-- No start or end waits for the next plan. -/
def planCleared (b : Block) (f : Nat) : Block :=
  b.each allSlots (fun b s => b.modParcel (pid f s) (fun p => { p with starts := [], ends := [] }))

/-- The field unit takes the plan's figures. -/
def planKept (b : Block) (now f : Nat) (x : Worked) : Block :=
  b.modFu f (fun u => { u with
    selIssue := x.sel, winTick := now + 1, winCore := (x.power.1 :: x.window.1).take 512, winSram := (x.power.2 :: x.window.2).take 512
    planCore := x.power.1, planSram := x.power.2, pMax := eighthW x.least.power, creditAcc := x.refills.2 })

/-- The registers that show the plan. -/
def planShown (b : Block) (now f : Nat) (x : Worked) : Block :=
  ((((b.putLimits f (now + 1) x.least x.out x.allow.1 x.allow.2 x.power.1 x.power.2).putAverages f).putDemand f x.loads x.elec x.therm).wrB
    F_LIMIT.FLOOR_OVER f x.out.floorOver).wrB F_LIMIT.REFILL_HELD f x.withheld

/-- The counts that show the plan. -/
def planCounted (b : Block) (f : Nat) (x : Worked) (done : List ((Load × Nat) × Nat)) (acts : List Nat) : Block :=
  let b := b.cond x.out.floorOver (fun b => b.inc F_LIMIT.FLOOR_OVER_TICKS f)
  let b := b.wr F_TICKET.FIELD_CREDIT f (x.refills.1.map Prod.snd).sum
  let b := b.wr F_ISSUE.THROTTLED f (done.filter (fun x => x.2 != 0)).length
  b.wr F_ISSUE.MEAN_Q f (quot 3 (256 * (x.out.qs.map Prod.snd).sum) acts.length)

/-- The records of the plan. -/
def planRecorded (b : Block) (now f : Nat) (x : Worked) : Block :=
  let pm := eighthW x.least.power
  let b := b.cond (decide (x.before.1 ≠ (x.least.code, x.least.rail))) (fun b => b.limitRecord f now 1900 0 x.figure pm)
  let b := b.cond (!x.before.2 && x.out.floorOver) (fun b => b.limitRecord f now 1900 3 x.figure pm)
  b.cond (x.before.2 && !x.out.floorOver) (fun b => b.limitRecord f now 1900 4 x.figure pm)

/-- The plans of the field's parcels. -/
def planParcels (b : Block) (f : Nat) (x : Worked) (done : List ((Load × Nat) × Nat)) : Block :=
  ((b.planActive f x done).planIdle f).planCleared f

theorem limitPlan_eq (b : Block) (now f : Nat) : b.limitPlan now f =
    let r := b.formReport f
    let x := r.planWork now f
    let c := r.planCounts f x (r.actives f)
    ((((c.planParcels f x (c.planDone f x)).planKept now f x).planShown now f x).planCounted f x (c.planDone f x) (r.actives f)).planRecorded
      now f x := by
  unfold limitPlan planRecorded planCounted planShown planKept planParcels planCleared planIdle planActive planDone planCounts planWork
  dsimp only

/-! ### What the stages of a plan leave -/

theorem formReport_keeps (b : Block) (f : Nat) : b.Keeps [.regs, .fields] (b.formReport f) := by simp

theorem formReport_regsOff (b : Block) (f : Nat) : b.RegsOff [0x46] (b.formReport f) := by
  unfold formReport
  simp (disch := decide)

theorem planCounts_keeps (b : Block) (f : Nat) (x : Worked) (acts : List Nat) : b.Keeps [.regs] (b.planCounts f x acts) := by
  unfold planCounts
  simp

theorem planParcels_keeps (b : Block) (f : Nat) (x : Worked) (done : List ((Load × Nat) × Nat)) :
    b.Keeps [.parcels] (b.planParcels f x done) := by
  unfold planParcels planActive planIdle planCleared putPlan
  simp

theorem planKept_keeps (b : Block) (now f : Nat) (x : Worked) : b.Keeps [.fields] (b.planKept now f x) := modFu_keeps ..

theorem planShown_keeps (b : Block) (now f : Nat) (x : Worked) : b.Keeps [.regs] (b.planShown now f x) := by
  unfold planShown
  simp

theorem planCounted_keeps (b : Block) (f : Nat) (x : Worked) (done : List ((Load × Nat) × Nat)) (acts : List Nat) :
    b.Keeps [.regs] (b.planCounted f x done acts) := by
  unfold planCounted
  simp

theorem planRecorded_keeps (b : Block) (now f : Nat) (x : Worked) : b.Keeps [.regs, .fields, .traces] (b.planRecorded now f x) := by
  unfold planRecorded
  simp

theorem limitPlan_keeps (b : Block) (now f : Nat) : b.Keeps [.regs, .parcels, .fields, .traces] (b.limitPlan now f) := by simp

/-! ### The parcels' plans -/

/-- Rate and refill of a parcel's plan. -/
def Parcel.granted (p : Parcel) : Nat × Nat := (p.plan.q, p.plan.refill)

theorem putPlan_keeps (b : Block) (f s q base dyn cap refill reason : Nat) (crit : Bool) :
    b.Keeps [.parcels] (b.putPlan f s q base dyn cap refill reason crit) := modParcel_keeps ..

theorem putPlan_granted (b : Block) (f s q base dyn cap refill reason : Nat) (crit : Bool) :
    Parcel.granted ((b.putPlan f s q base dyn cap refill reason crit).parcel (pid f s)) = (q, refill) := by
  rw [putPlan, parcel_modParcel_same]
  rfl

theorem putPlan_other {f s k : Nat} (hk : k ≠ pid f s) (b : Block) (q base dyn cap refill reason : Nat) (crit : Bool) :
    (b.putPlan f s q base dyn cap refill reason crit).parcel k = b.parcel k := parcel_modParcel_other _ _ hk

theorem planActive_keeps (b : Block) (f : Nat) (x : Worked) (done : List ((Load × Nat) × Nat)) :
    b.Keeps [.parcels] (b.planActive f x done) := by
  unfold planActive putPlan
  simp

theorem planCleared_granted (b : Block) (f : Nat) : TabSame parcel Parcel.granted b (b.planCleared f) :=
  .each (.refl b) fun b _ => .modParcel (.refl b) fun _ => rfl

theorem planIdle_granted {p : Nat} (hp : p < 672) (hact : b.active f p = false) :
    Parcel.granted ((b.planIdle f).parcel (pid f p)) = (1, 0) := by
  have hmem : p ∈ allSlots.filter (fun s => !b.active f s) := List.mem_filter.2 ⟨List.mem_range.2 hp, by simp [hact]⟩
  refine each_reaches (p := fun c => Parcel.granted (c.parcel (pid f p))) (g := fun b s => b.putPlan f s 1 0 0 64 0 0 false)
    (fun c => putPlan_granted c f p ..) (fun c y => ?_) hmem b
  obtain rfl | hy := eq_or_ne p y
  · exact .inl (putPlan_granted ..)
  · exact .inr (congrArg Parcel.granted (putPlan_other (pid_ne hy) ..))

theorem putPlan_q (b : Block) (f s q base dyn cap refill reason : Nat) (crit : Bool) :
    ((b.putPlan f s q base dyn cap refill reason crit).parcel (pid f s)).plan.q = q := by
  rw [putPlan, parcel_modParcel_same]
  rfl

theorem planIdle_one {k : Nat} (h : (b.parcel k).plan.q = 1) : ((b.planIdle f).parcel k).plan.q = 1 := by
  unfold planIdle
  refine each_inv (I := fun c => (c.parcel k).plan.q = 1) (g := fun b s => b.putPlan f s 1 0 0 64 0 0 false) (fun y _ c hc => ?_) h
  obtain rfl | hy := eq_or_ne k (pid f y)
  · exact putPlan_q ..
  · rw [putPlan_other hy, hc]

theorem planActive_one {p : Nat} {x : Worked} {done : List ((Load × Nat) × Nat)} (hone : ∀ y ∈ done, y.1.2 = 1) (hp : ∃ y ∈ done, y.1.1.slot = p)
    (b : Block) : ((b.planActive f x done).parcel (pid f p)).plan.q = 1 := by
  obtain ⟨y, hy, rfl⟩ := hp
  refine each_reaches_of (I := fun _ => True) (p := fun c => (c.parcel (pid f y.1.1.slot)).plan.q) (x := y) (fun _ _ _ _ => trivial)
    (fun c _ => ?_) (fun z hz c _ => ?_) hy trivial
  · exact (putPlan_q ..).trans (hone y hy)
  · obtain hs | hs := eq_or_ne y.1.1.slot z.1.1.slot
    · left
      rw [hs]
      exact (putPlan_q ..).trans (hone z hz)
    · right
      rw [putPlan_other (pid_ne hs)]

/-- An inactive parcel is planned at the least rate with no refill. -/
theorem planParcels_inactive {p : Nat} (hp : p < 672) (hact : b.active f p = false) (x : Worked) (done : List ((Load × Nat) × Nat)) :
    Parcel.granted ((b.planParcels f x done).parcel (pid f p)) = (1, 0) := by
  rw [planParcels, (planCleared_granted ..).same]
  refine planIdle_granted hp ?_
  rw [active, (planActive_keeps ..).cadE (by decide)]
  exact hact

/-- Every parcel is planned at the least rate where the rates chosen are. -/
theorem planParcels_one {p : Nat} (hp : p < 672) {x : Worked} {done : List ((Load × Nat) × Nat)} (hone : ∀ y ∈ done, y.1.2 = 1)
    (hmem : b.active f p = true → ∃ y ∈ done, y.1.1.slot = p) : ((b.planParcels f x done).parcel (pid f p)).plan.q = 1 := by
  cases hact : b.active f p
  case false =>
    have hidle := planParcels_inactive hp hact x done
    simp only [Parcel.granted, Prod.mk.injEq] at hidle
    exact hidle.1
  case true =>
    have hcleared := (planCleared_granted ((b.planActive f x done).planIdle f) f).same (pid f p)
    simp only [Parcel.granted, Prod.mk.injEq] at hcleared
    rw [planParcels, hcleared.1]
    exact planIdle_one (planActive_one hone (hmem hact) b)

/-- While the field is marked out or a limit is unmet, the rates chosen are the least ones. -/
theorem planWork_held (h : (b.isOut f || b.unmet) = true) (now : Nat) : (b.planWork now f).out.qs = (b.planWork now f).loads.map (fun p => (p, 1)) := by
  unfold planWork
  simp only [h, if_true]

theorem planWork_slots (b : Block) (now f : Nat) : (b.planWork now f).loads.map Load.slot = b.actives f := by
  unfold planWork
  simp only [List.map_map]
  exact List.map_id _

theorem planWork_withheld (b : Block) (now f : Nat) :
    (b.planWork now f).withheld = (b.isOut f || (b.planWork now f).out.floorOver || b.bit HUB_CAP.QUIESCED 0) := rfl

/-! ### What a plan shows -/

theorem limitRecord_rd {x : Fld} (hx : x.Fits ∧ x.page ∉ [0x1F, 0x4B]) (b : Block) (f now off kind figure pmax i : Nat) :
    (b.limitRecord f now off kind figure pmax).rd x i = b.rd x i := rd_record hx ..

theorem limitRecord_fuSame {g : FieldUnit → List Nat × List Nat × Nat × Nat × Nat} (hg : ∀ (u : FieldUnit) v, g { u with trigReport := v } = g u)
    (b : Block) (f now off kind figure pmax : Nat) : FuSame g b (b.limitRecord f now off kind figure pmax) :=
  (fuSame_record hg ..).2 (FuSame.refl g b)

theorem planRecorded_rd {y : Fld} (hy : y.Fits ∧ y.page ∉ [0x1F, 0x4B]) (b : Block) (now f : Nat) (x : Worked) (i : Nat) :
    (b.planRecorded now f x).rd y i = b.rd y i := by
  unfold planRecorded
  dsimp only
  rw [rd_cond fun _ => limitRecord_rd hy .., rd_cond fun _ => limitRecord_rd hy .., rd_cond fun _ => limitRecord_rd hy ..]

theorem planCounted_rd {y : Fld} (hy : ∀ z ∈ [F_LIMIT.FLOOR_OVER_TICKS, F_TICKET.FIELD_CREDIT, F_ISSUE.THROTTLED, F_ISSUE.MEAN_Q], z.apart y = true)
    (b : Block) (f : Nat) (x : Worked) (done : List ((Load × Nat) × Nat)) (acts : List Nat) (i : Nat) :
    (b.planCounted f x done acts).rd y i = b.rd y i := by
  simp only [List.forall_mem_cons] at hy
  obtain ⟨hticks, hcredit, hthrottled, hmean, -⟩ := hy
  unfold planCounted
  dsimp only
  rw [rd_wr_apart hmean, rd_wr_apart hthrottled, rd_wr_apart hcredit, rd_cond fun _ => rd_inc_apart hticks ..]

theorem planShown_held (b : Block) (now f : Nat) (x : Worked) : (b.planShown now f x).bit F_LIMIT.REFILL_HELD f = x.withheld := by
  rw [planShown, bit_wrB_same _ rfl]

theorem planShown_over (b : Block) (now f : Nat) (x : Worked) : (b.planShown now f x).bit F_LIMIT.FLOOR_OVER f = x.out.floorOver := by
  rw [planShown, bit_wrB_apart (by decide), bit_wrB_same _ rfl]

theorem planShown_tick (b : Block) (now f : Nat) (x : Worked) :
    (b.planShown now f x).rd F_LIMIT.PLAN_TICK f = (now + 1) % 2 ^ F_LIMIT.PLAN_TICK.width := by
  rw [planShown, rd_wrB_apart (by decide), rd_wrB_apart (by decide), putDemand, rd_wr_apart (by decide), rd_wr_apart (by decide),
    rd_wr_apart (by decide), putAverages, rd_wr_apart (by decide), rd_wr_apart (by decide), rd_wr_apart (by decide), rd_wr_apart (by decide),
    putLimits, rd_wr_same]

/-- What the field unit keeps of a plan. -/
def FieldUnit.planned (u : FieldUnit) : List Nat × List Nat × Nat × Nat × Nat := (u.winCore, u.winSram, u.winTick, u.planCore, u.planSram)

theorem planRecorded_fuSame (b : Block) (now f : Nat) (x : Worked) : FuSame FieldUnit.planned b (b.planRecorded now f x) := by
  have hrec (b : Block) (off kind figure pmax : Nat) : FuSame FieldUnit.planned b (b.limitRecord f now off kind figure pmax) :=
    limitRecord_fuSame (fun _ _ => rfl) ..
  unfold planRecorded
  exact (fuSame_cond fun b => hrec b ..).2 ((fuSame_cond fun b => hrec b ..).2 ((fuSame_cond fun b => hrec b ..).2 (FuSame.refl _ b)))

/-- What a plan leaves: the figures worked out from the report, the parcels' plans, and what shows them. -/
theorem limitPlan_parcel (b : Block) (now f k : Nat) : (b.limitPlan now f).parcel k =
    (((b.formReport f).planCounts f ((b.formReport f).planWork now f) ((b.formReport f).actives f)).planParcels f
      ((b.formReport f).planWork now f)
      (((b.formReport f).planCounts f ((b.formReport f).planWork now f) ((b.formReport f).actives f)).planDone f
        ((b.formReport f).planWork now f))).parcel k := by
  rw [limitPlan_eq]
  dsimp only
  rw [(planRecorded_keeps ..).parcel (by decide), (planCounted_keeps ..).parcel (by decide), (planShown_keeps ..).parcel (by decide),
    (planKept_keeps ..).parcel (by decide)]

theorem limitPlan_rd {y : Fld} (hy : y.Fits ∧ y.page ∉ [0x1F, 0x4B])
    (hz : ∀ z ∈ [F_LIMIT.FLOOR_OVER_TICKS, F_TICKET.FIELD_CREDIT, F_ISSUE.THROTTLED, F_ISSUE.MEAN_Q], z.apart y = true) (b : Block) (now f i : Nat) :
    ∃ c : Block, (b.limitPlan now f).rd y i = (c.planShown now f ((b.formReport f).planWork now f)).rd y i := by
  rw [limitPlan_eq]
  dsimp only
  rw [planRecorded_rd hy, planCounted_rd hz]
  exact ⟨_, rfl⟩

theorem limitPlan_bit {y : Fld} (hy : y.Fits ∧ y.page ∉ [0x1F, 0x4B])
    (hz : ∀ z ∈ [F_LIMIT.FLOOR_OVER_TICKS, F_TICKET.FIELD_CREDIT, F_ISSUE.THROTTLED, F_ISSUE.MEAN_Q], z.apart y = true) (b : Block) (now f i : Nat) :
    ∃ c : Block, (b.limitPlan now f).bit y i = (c.planShown now f ((b.formReport f).planWork now f)).bit y i := by
  obtain ⟨c, hc⟩ := limitPlan_rd hy hz b now f i
  exact ⟨c, by rw [bit, bit, hc]⟩

theorem limitPlan_fu (b : Block) (now f : Nat) : FieldUnit.planned ((b.limitPlan now f).fu f) =
    let x := (b.formReport f).planWork now f
    ((x.power.1 :: x.window.1).take 512, (x.power.2 :: x.window.2).take 512, now + 1, x.power.1, x.power.2) := by
  rw [limitPlan_eq]
  dsimp only
  rw [(planRecorded_fuSame ..).same, (planCounted_keeps ..).fu (by decide), (planShown_keeps ..).fu (by decide), planKept, fu_modFu_same]
  rfl

/-- The report's registers are none that the plan's conditions read. -/
theorem formReport_held (b : Block) (f : Nat) : ((b.formReport f).isOut f || (b.formReport f).unmet) = (b.isOut f || b.unmet) := by
  have hoff := formReport_regsOff b f
  rw [isOut, isOut, unmet, unmet, hoff.bit (by decide), hoff.bit (by decide), hoff.bit (by decide)]

theorem limitPlan_one (h : (b.isOut f || b.unmet) = true) (now : Nat) {p : Nat} (hp : p < 672) :
    ((b.limitPlan now f).parcel (pid f p)).plan.q = 1 := by
  have hheld : ((b.formReport f).isOut f || (b.formReport f).unmet) = true := by rw [formReport_held, h]
  rw [limitPlan_parcel]
  refine planParcels_one hp (fun y hy => ?_) (fun hact => ?_)
  · simp only [planDone, planWork_held hheld, List.map_map, List.mem_map] at hy
    obtain ⟨l, -, rfl⟩ := hy
    rfl
  · rw [active, (planCounts_keeps ..).cadE (by decide)] at hact
    have hslot : p ∈ ((b.formReport f).planWork now f).loads.map Load.slot := by
      rw [planWork_slots]
      exact List.mem_filter.2 ⟨List.mem_range.2 hp, hact⟩
    obtain ⟨l, hl, rfl⟩ := List.mem_map.1 hslot
    have hone : (l, 1) ∈ ((b.formReport f).planWork now f).out.qs := by
      rw [planWork_held hheld]
      exact List.mem_map.2 ⟨l, hl, rfl⟩
    exact ⟨_, List.mem_map.2 ⟨(l, 1), hone, rfl⟩, rfl⟩

theorem limitPlan_inactive (now : Nat) {p : Nat} (hp : p < 672) (hact : b.active f p = false) :
    Parcel.granted ((b.limitPlan now f).parcel (pid f p)) = (1, 0) := by
  rw [limitPlan_parcel]
  refine planParcels_inactive hp ?_ ..
  rw [active, (planCounts_keeps ..).cadE (by decide), (formReport_keeps ..).cadE (by decide)]
  exact hact

/-! ### The overrun (R36) -/

/-- Rate and refill that an agent last had. -/
def Agent.last (a : Agent) : Nat × Nat := (a.qTarget, a.lastRefill)

theorem repeatPlan_last (b : Block) (f s : Nat) (planned : Bool) : TabSame agent Agent.last b (b.repeatPlan f s planned) := by
  unfold repeatPlan
  dsimp only
  refine .modAgent (.of_eq ((modParcel_keeps ..).agent (by decide))) fun _ => ?_
  rfl

theorem repeatPlan_target (b : Block) (f s : Nat) (planned : Bool) :
    Agent.target ((b.repeatPlan f s planned).agent (pid f s)) = Agent.last (b.agent (pid f s)) := by
  unfold repeatPlan
  dsimp only
  rw [agent_modAgent_same, (modParcel_keeps ..).agent (by decide)]
  rfl

theorem repeatPlan_target_other {f s k : Nat} (hk : k ≠ pid f s) (b : Block) (planned : Bool) :
    Agent.target ((b.repeatPlan f s planned).agent k) = Agent.target (b.agent k) := by
  unfold repeatPlan
  dsimp only
  rw [agent_modAgent_other _ _ hk, (modParcel_keeps ..).agent (by decide)]

/-- Every slot's plan repeats. -/
def plansRepeated (b : Block) (f : Nat) (planned : Bool) : Block := b.each allSlots (fun b x => b.repeatPlan f x planned)

theorem plansRepeated_keeps (b : Block) (f : Nat) (planned : Bool) : b.Keeps [.agents, .parcels] (b.plansRepeated f planned) := by
  unfold plansRepeated
  simp

theorem plansRepeated_target {p : Nat} (hp : p < 672) (b : Block) (f : Nat) (planned : Bool) :
    Agent.target ((b.plansRepeated f planned).agent (pid f p)) = Agent.last (b.agent (pid f p)) := by
  have hmem : p ∈ allSlots := List.mem_range.2 hp
  refine each_reaches_of (p := fun c => Agent.target (c.agent (pid f p))) (g := fun b x => b.repeatPlan f x planned)
    (I := fun c => TabSame agent Agent.last b c) (fun y _ c hc => hc.trans (repeatPlan_last ..)) (fun c hc => ?_) (fun y _ c hc => ?_) hmem (.refl b)
  · rw [repeatPlan_target, hc.same]
  · obtain rfl | hy := eq_or_ne p y
    · left
      rw [repeatPlan_target, hc.same]
    · exact .inr (repeatPlan_target_other (pid_ne hy) ..)

/-- The field unit after its overrun. -/
def overrunKept (b : Block) (now f : Nat) (planned : Bool) : Block :=
  b.modFu f (fun u =>
    let c := if planned then u.winCore.tail else winAlign u.winCore u.winTick now
    let r := if planned then u.winSram.tail else winAlign u.winSram u.winTick now
    { u with
      overran := true, winTick := now + 1, winCore := (c.headD 0 :: c).take 512, winSram := (r.headD 0 :: r).take 512
      report := { u.reportPrev with repeated := true } })

theorem markOverrun_keeps (b : Block) (now f : Nat) : b.Keeps [.regs] (b.markOverrun now f) := by simp

theorem markOverrun_src (b : Block) (now f : Nat) : (b.markOverrun now f).rd HUB_TICK.OVR_LAST_SRC 0 = f % 2 ^ HUB_TICK.OVR_LAST_SRC.width := by
  unfold markOverrun
  dsimp only
  rw [rd_wr_apart (by decide), rd_wr_same]

/-- The block after an overrun, before its event is sent. -/
def overrunMarked (b : Block) (now f : Nat) : Block :=
  ((b.plansRepeated f (decide ((b.fu f).winTick = now + 1))).overrunKept now f (decide ((b.fu f).winTick = now + 1))).markOverrun now f

theorem overrunMarked_keeps (b : Block) (now f : Nat) : b.Keeps [.regs, .agents, .parcels, .fields] (b.overrunMarked now f) :=
  (((plansRepeated_keeps ..).mono (by decide)).trans ((modFu_keeps ..).mono (by decide))).trans ((markOverrun_keeps ..).mono (by decide))

/-- What an overrun sets in the field unit. -/
def FieldUnit.overrun (u : FieldUnit) : Bool × Nat × Report := (u.overran, u.winTick, u.report)

theorem overrunMarked_fu (b : Block) (now f : Nat) :
    FieldUnit.overrun ((b.overrunMarked now f).fu f) = (true, now + 1, { (b.fu f).reportPrev with repeated := true }) := by
  rw [overrunMarked, (markOverrun_keeps ..).fu (by decide), overrunKept, fu_modFu_same, (plansRepeated_keeps ..).fu (by decide)]
  rfl

theorem overrunMarked_target {p : Nat} (hp : p < 672) (b : Block) (now f : Nat) :
    Agent.target ((b.overrunMarked now f).agent (pid f p)) = Agent.last (b.agent (pid f p)) := by
  rw [overrunMarked, (markOverrun_keeps ..).agent (by decide), overrunKept, (modFu_keeps ..).agent (by decide), plansRepeated_target hp]

/-- The hub's overrun, before its event is sent (R37). -/
def hubOverrun (b : Block) (now : Nat) : Block :=
  ((((b.modHub (fun h => { h with framesSent := false })).wr HUB_TICK.OVR_HUB 0 1).wr HUB_TICK.OVR_LAST_SRC 0 0xFF).wr HUB_TICK.OVR_LAST_TICK 0
    now).inc HUB_CAP.DIV_OVR 0

end Block

theorem exec_capDivision (s : State) : exec .capDivision s = .next { s with b := s.b.capDivision s.tick } := rfl

theorem exec_hubTickOverrun (s : State) : exec .hubTickOverrun s = .next { s with b := (s.b.hubOverrun s.tick).fault 23 255 1 400 } := rfl

theorem exec_limitPlan (f : FieldNo) (s : State) : exec (.limitPlan f) s = .next { s with
    b := s.b.cond (!(s.b.fu f).overran) (fun b => b.limitPlan s.tick f) } := rfl

theorem exec_tickOverrun (f : FieldNo) (s : State) : exec (.tickOverrun f) s = .next { s with
    b := s.b.cond (!(s.b.fu f).overran) (fun b => (b.overrunMarked s.tick f).fault 23 f 0 1930) } := rfl

open Block in
/-- Settles O33. -/
theorem divisionAndPlan : Obligations.DivisionAndPlan := by
  unfold Obligations.DivisionAndPlan
  refine ⟨fun s bw a ha hbw => ?_, fun s => ?_, fun f s hover => ?_, fun f s hover => ?_, fun f s hover => ?_⟩
  · obtain ⟨bw', hbw', hdiv⟩ := s.b.capDivision_form s.tick
    have hfound : s.b.divFound s.tick = a := ha.symm
    rw [hfound] at hbw' hdiv
    obtain rfl : bw' = bw := hbw'.trans hbw.symm
    have hhub := congrArg Block.hub hdiv
    rw [(divShown_keeps ..).hub (by decide)] at hhub
    refine ⟨_, exec_capDivision s, Block.Keeps.withBlock_eq_graft (S := [.regs, .hub]) (by simp), ?_, ?_, ?_, ?_, ?_, ?_, ?_, ?_⟩
    all_goals dsimp only
    · rw [hhub]
      rfl
    · rw [hhub]
      rfl
    · rw [hhub]
      rfl
    · rw [hhub]
      rfl
    · rw [hhub]
      rfl
    · rw [hdiv, divShown_tick]
    · rw [hdiv, divShown_binding]
    · rw [hdiv, divShown_budget]
  · refine ⟨_, exec_hubTickOverrun s, Block.Keeps.withBlock_eq_graft (S := [.regs, .hub, .fields, .faults]) (by simp [hubOverrun]),
      ?_, ?_, ?_, ?_, faults_fault .., ?_⟩
    · rfl
    · refine (rd_fault ..).trans ?_
      rw [hubOverrun, rd_inc_apart (by decide), rd_wr_apart (by decide), rd_wr_apart (by decide), rd_wr_same]
      rfl
    · refine (rd_fault ..).trans ?_
      rw [hubOverrun, rd_inc_apart (by decide), rd_wr_apart (by decide), rd_wr_same]
      rfl
    · refine (rd_fault ..).trans ?_
      rw [hubOverrun, rd_inc_same, rd_wr_apart (by decide), rd_wr_apart (by decide), rd_wr_apart (by decide)]
      rfl
    · simp [hubOverrun, regsBut_wr, regsBut_inc]
  · have hplan := limitPlan_fu s.b s.tick f
    simp only [FieldUnit.planned, Prod.mk.injEq] at hplan
    obtain ⟨hcore, hsram, htick, hpc, hps⟩ := hplan
    refine ⟨_, next_block (exec_limitPlan f s) (cond_of_true (by simp [hover]) _), inBlock_mk .., ?_, ?_, ?_, ?_, ?_, ?_, ?_, ?_, fun p hact => ?_,
      fun hheld p => ?_⟩
    all_goals dsimp only
    · exact (limitPlan_keeps s.b s.tick f).same .agents (by decide)
    · exact (limitPlan_keeps s.b s.tick f).same .slots (by decide)
    · exact (limitPlan_keeps s.b s.tick f).same .rails (by decide)
    · exact htick
    · rw [hcore, hpc]
      rfl
    · rw [hsram, hps]
      rfl
    · obtain ⟨c, hc⟩ := limitPlan_rd (y := F_LIMIT.PLAN_TICK) (by decide) (by decide) s.b s.tick f f
      exact hc.trans (planShown_tick ..)
    · obtain ⟨c, hc⟩ := limitPlan_bit (y := F_LIMIT.REFILL_HELD) (by decide) (by decide) s.b s.tick f f
      obtain ⟨d, hd⟩ := limitPlan_bit (y := F_LIMIT.FLOOR_OVER) (by decide) (by decide) s.b s.tick f f
      have hoff := formReport_regsOff s.b f
      rw [hc, hd, planShown_held, planShown_over, planWork_withheld, isOut, isOut, hoff.bit (by decide), hoff.bit (by decide)]
    · have h := limitPlan_inactive s.tick p.isLt hact
      simp only [Parcel.granted, Prod.mk.injEq] at h
      exact h
    · exact limitPlan_one hheld _ p.isLt
  · have hfu := overrunMarked_fu s.b s.tick f
    have hsame := ((fuSame_fault (g := FieldUnit.overrun) (fun _ _ => rfl) 23 f 0 1930).2 (FuSame.refl _ (s.b.overrunMarked s.tick f))).same f
    rw [hfu] at hsame
    simp only [FieldUnit.overrun, Prod.mk.injEq] at hsame
    obtain ⟨hran, htick, hrep⟩ := hsame
    refine ⟨_, next_block (exec_tickOverrun f s) (cond_of_true (by simp [hover]) _), inBlock_mk .., ?_, hran, htick, hrep, ?_, ?_, fun p => ?_⟩
    · exact ((overrunMarked_keeps ..).same .slots (by decide)).trans ((fault_keeps ..).same .slots (by decide))
    · exact (faults_fault ..).trans (congrArg (· ++ _) ((overrunMarked_keeps ..).faults (by decide)))
    · refine ((fault_keeps ..).rd (by decide) _ _).trans ((markOverrun_src ..).trans (Nat.mod_eq_of_lt (f.isLt.trans (by decide))))
    · have h := overrunMarked_target p.isLt s.b s.tick f
      simp only [Agent.target, Agent.last, Prod.mk.injEq] at h
      dsimp only
      rw [(fault_keeps ..).agent (by decide)]
      exact h
  · rw [exec_limitPlan, exec_tickOverrun, hover]
    exact ⟨rfl, rfl⟩

end Sys2Proof.Machine
end

section
/-!
SUPPORT. Always-on counters (O34): the pair of words of reason 13 would stand at E_FIELD.
-/

namespace Sys2Proof.Machine

open Sys2Proof

namespace Block

variable {b : Block} {f t : Nat}

/-- The energy counter of field `f`. -/
def fieldEnergy (b : Block) (f : Nat) : Nat := b.rd2 F_COUNTERS.E_FIELD_LO F_COUNTERS.E_FIELD_HI f

theorem rd_wr2_apart {lo hi x : Fld} (hlo : lo.apart x = true) (hhi : hi.apart x = true) (b : Block) (i v j : Nat) :
    (b.wr2 lo hi i v).rd x j = b.rd x j := by rw [wr2, rd_wr_apart hhi, rd_wr_apart hlo]

/-- A write of a field that stands elsewhere leaves the energy. -/
theorem fieldEnergy_wr {x : Fld} (hx : x.apart F_COUNTERS.E_FIELD_LO = true ∧ x.apart F_COUNTERS.E_FIELD_HI = true) (b : Block) (i v f : Nat) :
    (b.wr x i v).fieldEnergy f = b.fieldEnergy f := by rw [fieldEnergy, fieldEnergy, rd2, rd2, rd_wr_apart hx.1, rd_wr_apart hx.2]

theorem fieldEnergy_modFu (b : Block) (k : Nat) (g : FieldUnit → FieldUnit) (f : Nat) : (b.modFu k g).fieldEnergy f = b.fieldEnergy f := by
  rw [fieldEnergy, fieldEnergy, rd2, rd2, rd_modFu, rd_modFu]

theorem fieldEnergy_modHub (b : Block) (g : Hub → Hub) (f : Nat) : (b.modHub g).fieldEnergy f = b.fieldEnergy f := by
  rw [fieldEnergy, fieldEnergy, rd2, rd2, rd_modHub, rd_modHub]

theorem fieldEnergy_wr2 {lo hi : Fld} (hlo : lo.apart F_COUNTERS.E_FIELD_LO = true ∧ lo.apart F_COUNTERS.E_FIELD_HI = true)
    (hhi : hi.apart F_COUNTERS.E_FIELD_LO = true ∧ hi.apart F_COUNTERS.E_FIELD_HI = true) (b : Block) (i v f : Nat) :
    (b.wr2 lo hi i v).fieldEnergy f = b.fieldEnergy f := by rw [wr2, fieldEnergy_wr hhi, fieldEnergy_wr hlo]

theorem fieldEnergy_add2 (b : Block) (f v : Nat) :
    (b.add2 F_COUNTERS.E_FIELD_LO F_COUNTERS.E_FIELD_HI f v).fieldEnergy f = (b.fieldEnergy f + v) % 2 ^ 64 := by
  have hlo : (b.add2 F_COUNTERS.E_FIELD_LO F_COUNTERS.E_FIELD_HI f v).rd F_COUNTERS.E_FIELD_LO f = (b.fieldEnergy f + v) % 2 ^ 32 := by
    rw [add2, wr2, rd_wr_apart (by decide), rd_wr_same]
    rfl
  have hhi : (b.add2 F_COUNTERS.E_FIELD_LO F_COUNTERS.E_FIELD_HI f v).rd F_COUNTERS.E_FIELD_HI f = (b.fieldEnergy f + v) / 2 ^ 32 % 2 ^ 32 := by
    rw [add2, wr2, rd_wr_same]
    rfl
  rw [fieldEnergy, rd2, hlo, hhi]
  show (b.fieldEnergy f + v) % 2 ^ 32 + 2 ^ 32 * ((b.fieldEnergy f + v) / 2 ^ 32 % 2 ^ 32) = _
  omega

theorem countSafe_energy (b : Block) (q : Bool) (f : Nat) :
    (b.cond q (fun b => b.add2 F_COUNTERS.SAFE_PT_LO F_COUNTERS.SAFE_PT_HI f 1)).fieldEnergy f = b.fieldEnergy f := by
  cases q
  · rfl
  · exact fieldEnergy_wr2 (by decide) (by decide) ..

/-- A parcel without a slot counts its activity and rates alone. -/
theorem countParcel_idle {s : Nat} {l : List (Nat × Slot)} (h : onParcel l s = []) (b : Block) (f t : Nat) (m : Bool) :
    (b.countParcel f t s l m).fieldEnergy f = b.fieldEnergy f := by
  have hheld : (List.nil (α := Slot)).any (fun x => x.heldIn t) = false := rfl
  have hr (p : Parcel) : countedReason p false = 0 := by simp [countedReason]
  have hjobs : (((List.nil (α := Slot)).filter (fun x => x.ranIn t)).map (fun x => jobOf x.task)).dedup = [] := rfl
  unfold countParcel
  simp only [h, hheld, hr, hjobs]
  rw [each, List.foldl_nil, cond_of_false (by decide), countSafe_energy, cond_false, add2, fieldEnergy_wr2 (by decide) (by decide), add2,
    fieldEnergy_wr2 (by decide) (by decide)]

/-- The count of a parcel that is held back for reason 13 goes to the energy. -/
theorem countParcel_reason13 {s : Nat} {l : List (Nat × Slot)} {x : Slot} (h : onParcel l s = [x]) (hheld : x.heldIn t = true) (hran : x.ran = false)
    (b : Block) (hr : countedReason (b.parcel (pid f s)) true = 13) (m : Bool) :
    (b.countParcel f t s l m).fieldEnergy f = (b.fieldEnergy f + 1) % 2 ^ 64 := by
  have hran' : x.ranIn t = false := by rw [Slot.ranIn, hran, Bool.false_and, Bool.false_and]
  have hheld' : [x].any (fun x => x.heldIn t) = true := by rw [List.any_cons, hheld, Bool.true_or]
  have hjobs : ((([x].filter (fun x => x.ranIn t)).map (fun x => jobOf x.task)).dedup) = [] := by
    rw [List.filter_cons_of_neg (by simp [hran'])]
    rfl
  unfold countParcel
  simp only [h, hheld', hr, hjobs]
  rw [each, List.foldl_nil, cond_of_true (by decide)]
  have hlo : F_COUNTERS.THR_PT_LO 13 = F_COUNTERS.E_FIELD_LO := rfl
  have hhi : F_COUNTERS.THR_PT_HI 13 = F_COUNTERS.E_FIELD_HI := rfl
  rw [fieldEnergy_modFu, hlo, hhi, fieldEnergy_add2, countSafe_energy, cond_true, add2, fieldEnergy_wr2 (by decide) (by decide), add2, fieldEnergy_wr2 (by decide) (by decide),
    add2, fieldEnergy_wr2 (by decide) (by decide)]

/-- What COUNTER_UPDATE does after the energy. -/
def afterEnergy (b : Block) (f t : Nat) (u : FieldUnit) : Block :=
  let b := b.wr2 F_COUNTERS.T_SUM_LO F_COUNTERS.T_SUM_HI f
    (toCode 64 (ofCode 64 (b.rd2 F_COUNTERS.T_SUM_LO F_COUNTERS.T_SUM_HI f) + u.tLast.2.1))
  let b := if !u.peakSeen || decide (b.rdZ F_COUNTERS.T_PEAK f < u.tLast.1) then
      (((b.wrZ F_COUNTERS.T_PEAK f u.tLast.1).wr F_COUNTERS.PEAK_SLOT f u.tLast.2.2).wr F_COUNTERS.T_PEAK_TICK f t).modFu f
        (fun u => { u with peakSeen := true })
    else b
  let b := b.add F_COUNTERS.ECC_CE f u.cePrev
  let b := b.each u.faultPrev (fun b e =>
    let fd := if e.1 % 2 = 1 then F_COUNTERS.FAULT_CNT_ODD (e.1 / 2) else F_COUNTERS.FAULT_CNT_EVEN (e.1 / 2)
    b.addSat fd f e.2)
  (b.wr F_COUNTERS.CNT_TICK f t).countBreach f t

theorem countBreach_energy (b : Block) (f t : Nat) : (b.countBreach f t).fieldEnergy f = b.fieldEnergy f := by
  unfold countBreach
  split
  · exact (fieldEnergy_modHub ..).trans (fieldEnergy_wr (by decide) ..)
  · rfl

theorem afterEnergy_energy {u : FieldUnit} (hu : u.faultPrev = []) (b : Block) (f t : Nat) : (b.afterEnergy f t u).fieldEnergy f = b.fieldEnergy f := by
  have hpeak (c : Block) (q : Bool) (x : Int) (y : Nat) : (if q = true then
      (((c.wrZ F_COUNTERS.T_PEAK f x).wr F_COUNTERS.PEAK_SLOT f y).wr F_COUNTERS.T_PEAK_TICK f t).modFu f (fun u => { u with peakSeen := true })
      else c).fieldEnergy f = c.fieldEnergy f := by
    split
    · rw [fieldEnergy_modFu, fieldEnergy_wr (by decide), fieldEnergy_wr (by decide), wrZ, fieldEnergy_wr (by decide)]
    · rfl
  unfold afterEnergy
  simp only [hu]
  rw [countBreach_energy, fieldEnergy_wr (by decide), each, List.foldl_nil, add, fieldEnergy_wr (by decide), hpeak, fieldEnergy_wr2 (by decide) (by decide)]

end Block

/-! ### A state that names reason 13 -/

/-- Parcel 0 of field 0 holds a ticket and is held back for reason 13, which no rule gives. -/
def reason13 : State := { State.reset with
  tick := 1
  b := { Block.reset with
    parcels := [(0, { Parcel.reset with tickDroop := 13, tickHalted := false })]
    slots := [(0, { Slot.reset with grantSeq := 1 })]
    fields := [(0, { FieldUnit.reset with mValid := true })] } }

namespace Block

/-- The parcels' part of COUNTER_UPDATE. -/
def countParcels (b : Block) (f t : Nat) (acts : List Nat) (l : List (Nat × Slot)) (m : Bool) : Block :=
  b.each acts (fun b s => b.countParcel f t s l m)

/-- COUNTER_UPDATE of field `f` in tick `now`. -/
def counterUpdated (b : Block) (now f : Nat) : Block :=
  ((((b.modFu f (fun u => { u with thrMask := 0, faultPrev := [], cePrev := 0 })).countParcels f (now - 1)
    ((b.modFu f (fun u => { u with thrMask := 0, faultPrev := [], cePrev := 0 })).actives f) (b.slotsOf f) (b.fu f).mValid).add2
    F_COUNTERS.E_FIELD_LO F_COUNTERS.E_FIELD_HI f
    (if (b.fu f).mValid then b.rd F_EST.M_FIELD f else (b.control f).power.floor.toNat)).afterEnergy f (now - 1) (b.fu f))

end Block

theorem exec_counterUpdate (f : FieldNo) (s : State) : exec (.counterUpdate f) s = .next { s with b := s.b.counterUpdated s.tick f } := rfl

/-- Only parcel 0 has a slot. -/
theorem reason13_onParcel {p : Nat} (hp : p ≠ 0) : onParcel (reason13.b.slotsOf 0) p = [] := by
  have hslots : reason13.b.slotsOf 0 = [(0, { Slot.reset with grantSeq := 1 })] := rfl
  rw [hslots]
  simp [onParcel, Slot.covers, Slot.reset, hp]

/-- The block in which the counters of field 0 are counted. -/
def reason13Block : Block := reason13.b.modFu 0 (fun u => { u with thrMask := 0, faultPrev := [], cePrev := 0 })

/-- The count of parcel 0, for reason 13, goes to the energy. -/
theorem reason13_first : (reason13Block.countParcel 0 0 0 (reason13.b.slotsOf 0) true).fieldEnergy 0 = 1 :=
  Block.countParcel_reason13 (x := { Slot.reset with grantSeq := 1 }) rfl rfl rfl _ rfl true

theorem reason13_actives : reason13Block.actives 0 = 0 :: (List.range 671).map Nat.succ := by
  have hall : reason13Block.actives 0 = allSlots := List.filter_eq_self.2 fun _ _ => rfl
  rw [hall, allSlots, List.range_succ_eq_map]

theorem reason13_parcels {l : List Nat} (hl : ∀ y ∈ l, y ≠ 0) :
    (reason13Block.countParcels 0 0 (0 :: l) (reason13.b.slotsOf 0) true).fieldEnergy 0 = 1 := by
  have hcons (b : Block) (k : List (Nat × Slot)) : b.countParcels 0 0 (0 :: l) k true = (b.countParcel 0 0 0 k true).countParcels 0 0 l k true := rfl
  rw [hcons, Block.countParcels]
  exact Block.each_inv (I := fun c => c.fieldEnergy 0 = 1)
    (fun y hy c hc => (Block.countParcel_idle (reason13_onParcel (hl y hy)) c 0 0 true).trans hc) reason13_first

theorem reason13_energy {f now : Nat} (hf : f = 0) (hnow : now - 1 = 0) : (reason13.b.counterUpdated now f).fieldEnergy f = 1 := by
  subst hf
  have hnonzero : ∀ y ∈ (List.range 671).map Nat.succ, y ≠ 0 := by simp
  have hvalid : (reason13.b.fu 0).mValid = true := rfl
  have hpower : reason13.b.rd F_EST.M_FIELD 0 = 0 := rfl
  have hqueue : (reason13.b.fu 0).faultPrev = [] := rfl
  have hcount := reason13_parcels hnonzero
  rw [← reason13_actives] at hcount
  unfold reason13Block at hcount
  rw [Block.counterUpdated, Block.afterEnergy_energy hqueue, Block.fieldEnergy_add2, hnow, hvalid, if_pos rfl, hpower, hcount]
  rfl

/-- Refutes O34: for a reason code of 13, which no rule gives and no condition of the statement shuts out, the parcel's count goes to the words of
E_FIELD, and the energy is one too high. -/
theorem not_counterUpdates : ¬ Obligations.CounterUpdates := by
  unfold Obligations.CounterUpdates
  rintro ⟨h, -⟩
  obtain ⟨t, ht, -, -, -, -, henergy⟩ := h 0 reason13 rfl
  have hone : (reason13.b.counterUpdated reason13.tick (0 : FieldNo)).fieldEnergy (0 : FieldNo) = 1 := reason13_energy rfl rfl
  rw [exec_counterUpdate] at ht
  rw [← Host.Outcome.next.inj ht] at henergy
  unfold Block.fieldEnergy at hone
  dsimp only at henergy
  rw [hone] at henergy
  exact absurd henergy (by decide)

end Sys2Proof.Machine
end

section
/-!
SUPPORT. Commands that write pages and wait for their commits (O35).
-/

namespace Sys2Proof.Machine

open Sys2Proof

/-- The key of a page that a command writes. -/
def PageNo.key (p : PageNo) : Nat := pageKey p.cls p.inst

/-- What the commit that a command sends to page `p` makes of the page `h₀`: the command holds it, and the commit has captured the shadow of `b`
or is on its way. -/
structure Sent (b : Block) (now sc v pt : Nat) (p : PageNo) (h₀ h : Page) : Prop where
  held : h.heldBy = some pt
  captured : arrivalTick now sc p.cls p.inst = now → h₀.transit = [] → ∃ due, atDue now v = some due ∧
    h.pending = some { due := due, vals := b.capture p.cls p.inst, byCmd := some pt }
  onWay : arrivalTick now sc p.cls p.inst ≠ now → h.transit = h₀.transit ++
    [{ tick := arrivalTick now sc p.cls p.inst, off := arrivalOff sc p.cls p.inst, act := .commit v (some pt) }]

/-- The commit of page `p` passes the checks of its arrival in block `b`. -/
structure Sendable (b : Block) (now sc v : Nat) (p : PageNo) : Prop where
  writes : (pageRw p.cls).isEmpty = false
  ahead : (atDue (arrivalTick now sc p.cls p.inst) v).isSome = true
  inRange : rangeOk b p.cls p.inst (b.shadowGet p.inst) = true

namespace Block

variable {b c : Block} {now sc v pt : Nat} {p : PageNo}

/-- A command's commit leaves for page `p`. -/
def pageSent (b : Block) (now sc v pt : Nat) (p : PageNo) : Block :=
  (b.modPage p.key (fun h => { h with heldBy := some pt })).commitSend now sc p.cls p.inst v (some pt)

/-- A command's commits leave. -/
def pagesSent (b : Block) (now sc v pt : Nat) (pages : List PageNo) : Block := b.each pages (fun b p => b.pageSent now sc v pt p)

theorem pageSent_keeps (b : Block) (now sc v pt : Nat) (p : PageNo) : b.Keeps [.pages] (b.pageSent now sc v pt p) := by
  unfold pageSent
  simp

theorem pagesSent_keeps (b : Block) (now sc v pt : Nat) (pages : List PageNo) : b.Keeps [.pages] (b.pagesSent now sc v pt pages) := by
  unfold pagesSent pageSent
  simp

theorem commitArrive_page_other {k arr cls inst : Nat} (hk : k ≠ pageKey cls inst) (b : Block) (v : Nat) (byCmd : Option Nat) :
    (b.commitArrive arr cls inst v byCmd).page k = b.page k := by
  unfold commitArrive
  dsimp only
  split
  · rfl
  · split <;> exact page_modPage_other _ _ hk

theorem pageSent_page_other {k : Nat} (hk : k ≠ p.key) (b : Block) (now sc v pt : Nat) : (b.pageSent now sc v pt p).page k = b.page k := by
  unfold pageSent commitSend
  split
  · rw [commitArrive_page_other hk, page_modPage_other _ _ hk]
  · exact (page_modPage_other _ _ hk).trans (page_modPage_other _ _ hk)

theorem pagesSent_page_other {k : Nat} {pages : List PageNo} (hk : k ∉ pages.map PageNo.key) (b : Block) (now sc v pt : Nat) :
    (b.pagesSent now sc v pt pages).page k = b.page k :=
  each_inv (I := fun c => c.page k = b.page k)
    (fun p hp _ hc => (pageSent_page_other (fun h => hk (List.mem_map.2 ⟨p, hp, h.symm⟩)) ..).trans hc) rfl

/-- The ranges of a page do not read the pages' headers. -/
theorem rangeOk_of_keeps {c : Block} (h : b.Keeps [.pages] c) (cls inst : Nat) : rangeOk c cls inst (c.shadowGet inst) = rangeOk b cls inst (b.shadowGet inst) := by
  rw [h.eq_graft]
  rfl

theorem capture_of_keeps (h : b.Keeps [.pages] c) (cls inst : Nat) : c.capture cls inst = b.capture cls inst := by
  rw [h.eq_graft]
  rfl

/-- A command's commit that arrives at once is pending. -/
theorem commitArrive_byCmd {due cls inst : Nat} (hrw : (pageRw cls).isEmpty = false) (hdue : atDue now v = some due)
    (hrange : rangeOk b cls inst (b.shadowGet inst) = true) (pt : Nat) : b.commitArrive now cls inst v (some pt) =
      b.modPage (pageKey cls inst) (fun p => { p with pending := some { due := due, vals := b.capture cls inst, byCmd := some pt } }) := by
  have herr : b.arrivalErr now cls inst v (some pt) = none := by simp [arrivalErr, hdue, hrange]
  simp only [commitArrive, hrw, herr, hdue]
  rfl

theorem pageSent_sent (h : Sendable b now sc v p) (hk : b.Keeps [.pages] c) (pt : Nat) :
    Sent b now sc v pt p (c.page p.key) ((c.pageSent now sc v pt p).page p.key) := by
  obtain ⟨hrw, hahead, hrange⟩ := h
  have hk' : b.Keeps [.pages] (c.modPage p.key (fun h => { h with heldBy := some pt })) := hk.trans (modPage_keeps ..)
  have htransit : ((c.modPage p.key (fun h => { h with heldBy := some pt })).page p.key).transit = (c.page p.key).transit := by
    rw [page_modPage_same]
  by_cases hnow : arrivalTick now sc p.cls p.inst = now ∧ (c.page p.key).transit = []
  · obtain ⟨harr, hempty⟩ := hnow
    rw [harr] at hahead
    obtain ⟨due, hdue⟩ := Option.isSome_iff_exists.1 hahead
    have hsend : c.pageSent now sc v pt p = (c.modPage p.key (fun h => { h with heldBy := some pt })).modPage p.key
        (fun h => { h with pending := some { due := due, vals := b.capture p.cls p.inst, byCmd := some pt } }) := by
      rw [← capture_of_keeps hk', ← rangeOk_of_keeps hk'] at *
      rw [pageSent, commitSend, if_pos ⟨harr, htransit.trans hempty⟩, commitArrive_byCmd hrw hdue hrange]
      rfl
    rw [hsend, page_modPage_same, page_modPage_same]
    exact ⟨rfl, fun _ _ => ⟨due, hdue, rfl⟩, fun hne => absurd harr hne⟩
  · have hsend : c.pageSent now sc v pt p = (c.modPage p.key (fun h => { h with heldBy := some pt })).modPage p.key
        (fun h => { h with transit := h.transit ++
          [{ tick := arrivalTick now sc p.cls p.inst, off := arrivalOff sc p.cls p.inst, act := .commit v (some pt) }] }) := by
      rw [pageSent, commitSend, if_neg]
      · rfl
      · exact fun h => hnow ⟨h.1, htransit.symm.trans h.2⟩
    rw [hsend, page_modPage_same, page_modPage_same]
    exact ⟨rfl, fun harr hempty => absurd ⟨harr, hempty⟩ hnow, fun _ => rfl⟩

theorem pagesSent_sent {pages : List PageNo} (hn : (pages.map PageNo.key).Nodup) (h : ∀ p ∈ pages, Sendable b now sc v p) (hk : b.Keeps [.pages] c)
    (pt : Nat) (hp : p ∈ pages) : Sent b now sc v pt p (c.page p.key) ((c.pagesSent now sc v pt pages).page p.key) := by
  induction pages generalizing c with
  | nil => cases hp
  | cons q l ih =>
    obtain ⟨hq, hn⟩ := List.nodup_cons.1 hn
    obtain rfl | hl := List.mem_cons.1 hp
    · have hrest : (c.pagesSent now sc v pt (p :: l)).page p.key = (c.pageSent now sc v pt p).page p.key := pagesSent_page_other hq ..
      rw [hrest]
      exact pageSent_sent (h p (List.mem_cons_self ..)) hk pt
    · have hne : p.key ≠ q.key := fun e => hq (e ▸ List.mem_map_of_mem hl)
      have hstep := ih hn (fun r hr => h r (List.mem_cons_of_mem _ hr)) (hk.trans (pageSent_keeps c now sc v pt q)) hl
      rw [pageSent_page_other hne] at hstep
      exact hstep

end Block

/-! ### A page command -/

section Command

variable {op at_ : Nat} {c : Cmd} {pages : List PageNo} {ws : List ShadowWrite} {s : State}

/-- The classes of the pages that commands write. -/
def commandPages : List Nat := [0x18, 0x1C, 0x1F, 0x42, 0x43, 0x45, 0x47, 0x48, 0x4B]

theorem shadowed_keeps (op : Nat) (c : Cmd) (ws : List ShadowWrite) (s : State) : (s.b.begun s.tick op c).Keeps [.shadow] (shadowed op c ws s) := by
  unfold shadowed
  simp

/-- A command whose pages can take its writes sends its commits and waits. -/
theorem cmdPages_takes (h : PagesTake op at_ c pages ws s) (n m : Nat) : (s.b.begun s.tick op c).cmdPages s.tick c.sc (portNo c.port) at_ n m pages ws =
    ((shadowed op c ws s).pagesSent s.tick c.sc (atWord s.tick pages.length at_) (portNo c.port) pages).await (portNo c.port)
      (.commits pages.length 0) := by
  obtain ⟨-, hpages⟩ := h
  have hlate : pages.any (fun p => (atDue (arrivalTick s.tick c.sc p.cls p.inst) (atWord s.tick pages.length at_)).isNone) = false := by
    rw [List.any_eq_false]
    intro p hp
    rw [Option.isNone_iff_eq_none]
    exact Option.isSome_iff_ne_none.1 (hpages p hp).1
  have hrange : pages.any (fun p => !rangeOk (shadowed op c ws s) p.cls p.inst ((shadowed op c ws s).shadowGet p.inst)) = false := by
    rw [List.any_eq_false]
    intro p hp
    rw [(hpages p hp).2.1]
    decide
  have hheld : pages.any (fun p => ((s.b.begun s.tick op c).page (pageKey p.cls p.inst)).heldBy.isSome) = false := by
    rw [List.any_eq_false]
    intro p hp
    rw [(Block.begun_keeps ..).page (by decide), (hpages p hp).2.2]
    decide
  rw [Block.cmdPages, Block.commitByCmd]
  simp only [hlate, hheld]
  unfold shadowed at hrange
  simp only [hrange]
  rfl

theorem pageRw_command : ∀ cls ∈ commandPages, (pageRw cls).isEmpty = false ∧ ∀ x ∈ pageRw cls, x.Fits ∧ x.page = cls := by decide

theorem commandPages_ne : ∀ cls ∈ commandPages, ∀ p : CmdPort, cls ≠ 0x13 + portNo p := by
  intro cls hcls p
  cases p <;> decide +revert

theorem sendable_of_takes (h : PagesTake op at_ c pages ws s) (hcls : ∀ p ∈ pages, p.cls ∈ commandPages) :
    ∀ p ∈ pages, Sendable (shadowed op c ws s) s.tick c.sc (atWord s.tick pages.length at_) p := fun p hp =>
  ⟨(pageRw_command p.cls (hcls p hp)).1, (h.2 p hp).1, (h.2 p hp).2.1⟩

/-- Taking a command writes no register of the pages that commands commit. -/
theorem begun_rd_command {x : Fld} (hx : x.Fits ∧ x.page ∈ commandPages) (b : Block) (now op : Nat) (c : Cmd) (i : Nat) :
    (b.begun now op c).rd x i = b.rd x i := by
  refine b.begun_rd now op c ?_
  rw [Fld.page_of_key hx.1]
  exact commandPages_ne _ hx.2 c.port

theorem cmdPages_rd {x : Fld} (hx : x.Fits ∧ x.page ∈ commandPages) (h : PagesTake op at_ c pages ws s) (n m i : Nat) :
    ((s.b.begun s.tick op c).cmdPages s.tick c.sc (portNo c.port) at_ n m pages ws).rd x i = s.b.rd x i := by
  rw [cmdPages_takes h, Block.rd_await, (Block.pagesSent_keeps ..).rd (by decide), (shadowed_keeps ..).rd (by decide), begun_rd_command hx]

theorem cmdPages_trace (h : PagesTake op at_ c pages ws s) (n m k : Nat) :
    ((s.b.begun s.tick op c).cmdPages s.tick c.sc (portNo c.port) at_ n m pages ws).trace k = s.b.trace k := by
  rw [cmdPages_takes h, (Block.await_keeps ..).trace (by decide), (Block.pagesSent_keeps ..).trace (by decide),
    (shadowed_keeps ..).trace (by decide), (Block.begun_keeps ..).trace (by decide)]

/-- The block that a page command leaves holds its pages. -/
theorem holdsPages_of_takes (h : PagesTake op at_ c pages ws s) (hn : (pages.map PageNo.key).Nodup) (hcls : ∀ p ∈ pages, p.cls ∈ commandPages)
    (n m : Nat) : HoldsPages op at_ c pages ws s { s with
      b := (s.b.begun s.tick op c).cmdPages s.tick c.sc (portNo c.port) at_ n m pages ws } := by
  have hsent := Block.pagesSent_keeps (shadowed op c ws s) s.tick c.sc (atWord s.tick pages.length at_) (portNo c.port) pages
  have hkeeps : (s.b.begun s.tick op c).Keeps [.shadow, .pages] ((shadowed op c ws s).pagesSent s.tick c.sc
      (atWord s.tick pages.length at_) (portNo c.port) pages) := ((shadowed_keeps ..).mono (by decide)).trans (hsent.mono (by decide))
  have hflight : (((shadowed op c ws s).pagesSent s.tick c.sc (atWord s.tick pages.length at_) (portNo c.port) pages).port
      (portNo c.port)).flight = some { flightOf s.tick op c with begun := true } := by
    rw [hkeeps.port (by decide), Block.begun_flight]
  rw [cmdPages_takes h]
  refine ⟨rfl, Block.waits_of_flight hflight rfl _ s, ?_, ?_, ?_, fun p hp => ?_⟩
  · exact ((Block.begun_keeps s.b s.tick op c).same .agents (by decide)).trans (hkeeps.same .agents (by decide))
  · exact ((Block.begun_keeps s.b s.tick op c).same .slots (by decide)).trans (hkeeps.same .slots (by decide))
  · exact hsent.same .shadow (by decide)
  · obtain ⟨hheld, hcaptured, honWay⟩ := Block.pagesSent_sent hn (sendable_of_takes h hcls) (Block.Keeps.refl _ _) (portNo c.port) hp
    have hpage : (shadowed op c ws s).page p.key = s.b.page (pageKey p.cls p.inst) := by
      rw [(shadowed_keeps ..).page (by decide), (Block.begun_keeps ..).page (by decide)]
      rfl
    rw [hpage] at hcaptured honWay
    refine ⟨hheld, fun x hx => ?_, hcaptured, honWay⟩
    obtain ⟨hfits, hcls'⟩ := (pageRw_command p.cls (hcls p hp)).2 x hx
    exact (hkeeps.rd (by decide) ..).trans (begun_rd_command ⟨hfits, hcls' ▸ hcls p hp⟩ ..)

theorem fset_nodup (c : Cmd) (k : Nat) : (c.fset k).Nodup := List.Nodup.filter _ (List.nodup_range ..)

theorem fieldPages_keys (cls : Nat) (c : Cmd) : ((fieldPages cls c).map PageNo.key).Nodup := by
  unfold fieldPages
  rw [List.map_map]
  refine (fset_nodup c 0).map fun f g h => ?_
  have h : 256 * f + cls = 256 * g + cls := h
  omega

theorem fieldPages_cls {cls : Nat} (h : cls ∈ commandPages) (c : Cmd) : ∀ p ∈ fieldPages cls c, p.cls ∈ commandPages := by
  intro p hp
  obtain ⟨f, -, rfl⟩ := List.mem_map.1 hp
  exact h

/-- The pages of a trace command: the hub's where bit 0 names it, and the fields'. -/
theorem tracePages_keys (c : Cmd) (u v : Bool) :
    (((if u then [⟨0x1F, 0⟩] else []) ++ (if v then fieldPages 0x4B c else []) : List PageNo).map PageNo.key).Nodup := by
  have hfield : ((if v then fieldPages 0x4B c else []).map PageNo.key).Nodup := by
    split
    · exact fieldPages_keys ..
    · exact List.nodup_nil
  cases u
  · exact hfield
  · refine List.nodup_cons.2 ⟨fun hmem => ?_, hfield⟩
    obtain ⟨p, hp, hkey⟩ := List.mem_map.1 hmem
    cases v
    · cases hp
    · obtain ⟨f, -, rfl⟩ := List.mem_map.1 hp
      have hkey : 256 * f + 0x4B = 256 * 0 + 0x1F := hkey
      omega

theorem tracePages_cls (c : Cmd) (u v : Bool) :
    ∀ p ∈ (if u then [⟨0x1F, 0⟩] else []) ++ (if v then fieldPages 0x4B c else []), p.cls ∈ commandPages := by
  intro p hp
  obtain hp | hp := List.mem_append.1 hp
  · cases u
    · cases hp
    · obtain rfl := List.mem_singleton.1 hp
      decide
  · cases v
    · cases hp
    · exact fieldPages_cls (by decide) c p hp

end Command

/-! ### The triggers of TRACE_STOP (R248) -/

namespace Block

variable {b : Block} {k : Nat}

theorem trigger_keeps (b : Block) (now off k kind code parcel first : Nat) :
    b.Keeps [.regs, .fields, .traces] (b.trigger now off k kind code parcel first) := by simp

/-- The registers that a trigger writes. -/
def triggerFlds : List Fld := [F_TRACE.TRIG_TICK, HUB_TRACE.HUB_LOST, F_TRACE.LOST, F_TRACE.WRITTEN, F_TRACE.HIGH_WATER]

theorem putTrace_rd {x : Fld} (hx : ∀ y ∈ triggerFlds, y.apart x = true) (b : Block) (k : Nat) (t : TraceBuf) (w : Bool) (i : Nat) :
    (b.putTrace k t w).rd x i = b.rd x i := by
  simp only [triggerFlds, List.forall_mem_cons] at hx
  obtain ⟨-, hhub, hlost, hwritten, hhigh, -⟩ := hx
  unfold putTrace
  dsimp only
  split
  · rw [rd_add_apart hhub]
    rfl
  · rw [rd_raise_apart hhigh, rd_add_apart hwritten, rd_add_apart hlost]
    rfl

/-- The tick of the trigger, which a field's buffer shows. -/
def triggerTicked (b : Block) (now k : Nat) : Block := if k = 84 then b else b.wr F_TRACE.TRIG_TICK k now

/-- Buffer `k` after its trigger: the records before it that it keeps, and the record of the trigger (R248, R249). -/
def frozen (b : Block) (now off k kind code parcel first : Nat) : TraceBuf :=
  let t := b.trace k
  let drop := t.fill - bufPre k
  let t := { t with recs := t.recs.drop drop }.lose drop 2 (t.recs.getD (drop - 1) ⟨0, 0, 0, 0, 0, 0, 0⟩)
  let t := t.store (bufCap k)
    { code := 0x39, tick := lowBits 24 now, parcel := if k = 84 then srcHub else srcField k, offset := off
      aux := kind, dataA := code * 2 ^ 24 + parcel, dataB := first }
  { t with st := 2, post := bufPost k }

theorem triggerOn_eq (b : Block) (now off k kind code parcel first : Nat) : b.triggerOn now off k kind code parcel first =
    if (b.trace k).st = 2 ∨ (b.trace k).st = 3 then b
    else if (b.triggerTicked now k).bufPolicy k ≠ 2 then b.triggerTicked now k
    else (b.triggerTicked now k).putTrace k (b.frozen now off k kind code parcel first) true := rfl

theorem triggerTicked_trace (b : Block) (now j k : Nat) : (b.triggerTicked now j).trace k = b.trace k := by
  unfold triggerTicked
  split <;> rfl

theorem triggerTicked_rd {x : Fld} (hx : F_TRACE.TRIG_TICK.apart x = true) (b : Block) (now k i : Nat) :
    (b.triggerTicked now k).rd x i = b.rd x i := by
  unfold triggerTicked
  split
  · rfl
  · exact rd_wr_apart hx ..

/-- Buffer `k` runs, is trigger-and-freeze, and has triggered or can. -/
structure Freezes (k : Nat) (b : Block) : Prop where
  on : b.bufOn k = true
  policy : b.bufPolicy k = 2
  st : (b.trace k).st = 2 ∨ (b.trace k).st ≠ 2 ∧ (b.trace k).st ≠ 3

theorem triggerOn_rd {x : Fld} (hx : ∀ y ∈ triggerFlds, y.apart x = true) (b : Block) (now off j kind code parcel first i : Nat) :
    (b.triggerOn now off j kind code parcel first).rd x i = b.rd x i := by
  have htick : F_TRACE.TRIG_TICK.apart x = true := hx _ (List.mem_cons_self ..)
  rw [triggerOn_eq]
  split_ifs
  · rfl
  · exact triggerTicked_rd htick ..
  · exact (putTrace_rd hx ..).trans (triggerTicked_rd htick ..)

theorem triggerOn_trace_other {j : Nat} (h : k ≠ j) (b : Block) (now off kind code parcel first : Nat) :
    (b.triggerOn now off j kind code parcel first).trace k = b.trace k := by
  rw [triggerOn_eq]
  split_ifs
  · rfl
  · exact triggerTicked_trace ..
  · exact (putTrace_trace_other h ..).trans (triggerTicked_trace ..)

theorem trigger_rd {x : Fld} (hx : ∀ y ∈ triggerFlds, y.apart x = true) (b : Block) (now off j kind code parcel first i : Nat) :
    (b.trigger now off j kind code parcel first).rd x i = b.rd x i := rd_cond (fun _ => triggerOn_rd hx ..)

theorem trigger_trace_other {j : Nat} (h : k ≠ j) (b : Block) (now off kind code parcel first : Nat) :
    (b.trigger now off j kind code parcel first).trace k = b.trace k := by
  unfold trigger cond
  split
  · exact triggerOn_trace_other h ..
  · rfl

theorem trigger_bufOn (b : Block) (now off j kind code parcel first k : Nat) :
    (b.trigger now off j kind code parcel first).bufOn k = b.bufOn k := by
  unfold bufOn bit
  rw [trigger_rd (by decide), trigger_rd (by decide)]

theorem bufPolicy_of_rd {c : Block} (h : ∀ x ∈ [HUB_TRACE.HUB_POLICY, F_TRACE.POLICY], ∀ i, c.rd x i = b.rd x i) (k : Nat) :
    c.bufPolicy k = b.bufPolicy k := by
  unfold bufPolicy
  rw [h _ (by simp), h _ (by simp)]

theorem trigger_bufPolicy (b : Block) (now off j kind code parcel first k : Nat) :
    (b.trigger now off j kind code parcel first).bufPolicy k = b.bufPolicy k :=
  bufPolicy_of_rd (fun x hx i => trigger_rd (by fin_cases hx <;> decide) ..) k

/-- A running trigger-and-freeze buffer has triggered. -/
theorem Freezes.trigger_st (h : Freezes k b) (now off kind code parcel first : Nat) :
    ((b.trigger now off k kind code parcel first).trace k).st = 2 := by
  obtain ⟨hon, hpolicy, hst⟩ := h
  have hticked : (b.triggerTicked now k).bufPolicy k = 2 :=
    (bufPolicy_of_rd (fun x hx i => triggerTicked_rd (by fin_cases hx <;> decide) ..) k).trans hpolicy
  rw [trigger, cond_of_true hon, triggerOn_eq]
  obtain hdone | ⟨h2, h3⟩ := hst
  · rw [if_pos (.inl hdone), hdone]
  · rw [if_neg (not_or.2 ⟨h2, h3⟩), if_neg (not_not.2 hticked), putTrace_trace_same]
    rfl

theorem Freezes.trigger (h : Freezes k b) (now off j kind code parcel first : Nat) : Freezes k (b.trigger now off j kind code parcel first) := by
  refine ⟨(trigger_bufOn ..).trans h.on, (trigger_bufPolicy ..).trans h.policy, ?_⟩
  obtain rfl | hj := eq_or_ne k j
  · exact .inl (h.trigger_st ..)
  · rw [trigger_trace_other hj]
    exact h.st

theorem Freezes.triggerAll_st (h : Freezes k b) {l : List Nat} (hk : k ∈ l) (now off kind : Nat) :
    ((b.triggerAll now off kind l).trace k).st = 2 := by
  refine each_reaches_of (p := fun c => (c.trace k).st) (g := fun b k => b.trigger now off k kind 0 0 0x7F) (I := Freezes k)
    (fun j _ c hc => hc.trigger ..) (fun c hc => hc.trigger_st ..) (fun j _ c hc => ?_) hk h
  obtain rfl | hj := eq_or_ne k j
  · exact .inl (hc.trigger_st ..)
  · exact .inr (by rw [trigger_trace_other hj])

theorem triggerAll_keeps (b : Block) (now off kind : Nat) (l : List Nat) : b.Keeps [.regs, .traces] (b.triggerAll now off kind l) := by simp

end Block

section Rows

variable {c : Cmd} {s : State}

theorem exec_setWaferCap (h : Passes 0x10 c s) (hw : (capWrites c).isEmpty = false) : exec (.setWaferCap c) s = .next { s with
    b := (s.b.begun s.tick 0x10 c).cmdPages s.tick c.sc (portNo c.port) (c.arg 2) 3 (if c.opt 0 then 1 else 2) [⟨0x1C, 0⟩] (capWrites c) } := by
  show execSetWaferCap c s = _
  rw [execSetWaferCap, h.runCmdB_eq]
  simp only [hw]
  rfl

theorem exec_setFieldLimits (h : Passes 0x11 c s) : exec (.setFieldLimits c) s = .next { s with
    b := (s.b.begun s.tick 0x11 c).cmdPages s.tick c.sc (portNo c.port) (c.arg 8) 9 4 (fieldPages 0x43 c) ((c.fset 0).flatMap (fun f =>
      [(F_LIMIT.STL_CORE, c.arg 3 / 65536), (F_LIMIT.FCL_CORE, c.arg 3), (F_LIMIT.SUS_CORE, c.arg 4), (F_LIMIT.STL_SRAM, c.arg 5 / 65536),
       (F_LIMIT.FCL_SRAM, c.arg 5), (F_LIMIT.SUS_SRAM, c.arg 6), (F_LIMIT.FPL, c.arg 7)].map (fun x => ⟨x.1, f, x.2⟩))) } := by
  show execSetFieldLimits c s = _
  rw [execSetFieldLimits, h.runCmdB_eq]
  rfl

theorem exec_setMarginMode (h : Passes 0x13 c s) : exec (.setMarginMode c) s = .next { s with
    b := (s.b.begun s.tick 0x13 c).cmdPages s.tick c.sc (portNo c.port) (c.arg 4) 5 4 (fieldPages 0x45 c)
      ((c.fset 0).map (fun f => ⟨F_DROOP.MODE_REQ, f, c.arg 3⟩)) } := by
  show execSetMarginMode c s = _
  rw [execSetMarginMode, h.runCmdB_eq]
  rfl

theorem exec_modelSelect (h : Passes 0x61 c s) : exec (.modelSelect c) s = .next { s with
    b := (s.b.begun s.tick 0x61 c).cmdPages s.tick c.sc (portNo c.port) (c.arg 4) 5 4 (fieldPages 0x42 c)
      ((c.fset 0).flatMap (fun f => mapFlds.map (fun x => ⟨x, f, bitsOf (c.arg 3) x.lo x.width⟩))) } := by
  show execModelSelect c s = _
  rw [execModelSelect, h.runCmdB_eq]
  rfl

theorem exec_faultPolicy (h : Passes 0x91 c s) (hsrc : fixedSource (c.arg 0 % 32) = false) (hn : c.arg 0 / 256 % 16 ≠ 0)
    (hw : c.arg 0 / 65536 ≠ 0) : exec (.faultPolicy c) s = .next { s with
      b := (s.b.begun s.tick 0x91 c).cmdPages s.tick c.sc (portNo c.port) 0 0 1 [⟨0x18, 0⟩]
        [⟨HUB_FAULT.N (c.arg 0 % 32), 0, c.arg 0 / 256 % 16⟩, ⟨HUB_FAULT.WINDOW (c.arg 0 % 32), 0, c.arg 0 / 65536⟩] } := by
  show execFaultPolicy c s = _
  rw [execFaultPolicy, h.runCmdB_eq]
  simp only [hsrc, beq_eq_false_iff_ne.2 hn, beq_eq_false_iff_ne.2 hw]
  rfl

/-- The datums that a command finds do not change as it is taken. -/
theorem datumAt_begun {rl k : Nat} (hrl : rl < 2) (hk : k < 8) (b : Block) (now op : Nat) (c : Cmd) (f due : Nat) :
    (b.begun now op c).datumAt f rl k due = b.datumAt f rl k due := by
  have hpage : ∀ rl < 2, ∀ k < 8, (F_RAIL.DATUM rl k).Fits ∧ (F_RAIL.DATUM rl k).page ∈ commandPages := by decide
  obtain ⟨hfits, hcls⟩ := hpage rl hrl k hk
  unfold Block.datumAt
  dsimp only
  rw [(Block.begun_keeps ..).page (by decide), begun_rd_command ⟨hfits, hcls⟩]

theorem datumBad_begun {rl : Nat} (hrl : rl < 2) (b : Block) (now op : Nat) (c : Cmd) (f due : Nat) (codes : List Nat) :
    (b.begun now op c).datumBad f rl due codes = b.datumBad f rl due codes := by
  refine List.find?_congr fun k hk => ?_
  have hk := List.mem_range.1 hk
  dsimp only
  rw [datumAt_begun (by omega) (by omega)]

theorem exec_datumWrite (h : Passes 0xA2 c s) (hgood : ∀ f ∈ c.fset 0, s.b.datumBad f (c.arg 3 % 2)
      ((atDue (arrivalTick s.tick c.sc (0x47 + c.arg 3 % 2) f) (atWord s.tick (c.fset 0).length (c.arg 10))).getD 0)
      ((List.range 6).map (fun k => c.arg (4 + k))) = none) : exec (.datumWrite c) s = .next { s with
    b := (s.b.begun s.tick 0xA2 c).cmdPages s.tick c.sc (portNo c.port) (c.arg 10) 11 5 (fieldPages (0x47 + c.arg 3 % 2) c)
      ((c.fset 0).flatMap (fun f => (List.range 6).map (fun k =>
        ⟨F_RAIL.DATUM (c.arg 3 % 2) (k + 2), f, ((List.range 6).map (fun k => c.arg (4 + k))).getD k 0⟩))) } := by
  have hnone : (c.fset 0).findSome? (fun f => (s.b.begun s.tick 0xA2 c).datumBad f (c.arg 3 % 2)
      ((atDue (arrivalTick s.tick c.sc (0x47 + c.arg 3 % 2) f) (atWord s.tick (c.fset 0).length (c.arg 10))).getD 0)
      ((List.range 6).map (fun k => c.arg (4 + k)))) = none := by
    rw [List.findSome?_eq_none_iff]
    intro f hf
    rw [datumBad_begun (Nat.mod_lt _ (by decide)), hgood f hf]
  show execDatumWrite c s = _
  rw [execDatumWrite, h.runCmdB_eq]
  simp only [hnone]
  rfl

theorem exec_traceConfig (h : Passes 0x50 c s) (harg : traceArgs c = none) : exec (.traceConfig c) s = .next { s with
    b := (s.b.begun s.tick 0x50 c).cmdPages s.tick c.sc (portNo c.port) (c.arg 12) 13 (if c.opt 0 then 6 else 4)
      ((if c.opt 0 then [⟨0x1F, 0⟩] else []) ++ (if c.opt 1 then fieldPages 0x4B c else []))
      ((if c.opt 0 then (List.range 7).flatMap (fun k => wordWrites 0x1F 0 (0x40 + 4 * k) (c.arg (5 + k))) else []) ++
        (if c.opt 1 then c.fset 0 else []).flatMap (fun f => wordWrites 0x4B f 0x40 (c.arg 3) ++ wordWrites 0x4B f 0x44 (c.arg 4))) } := by
  show execTraceConfig c s = _
  rw [execTraceConfig, h.runCmdB_eq]
  simp only [harg]
  cases c.opt 1 <;> rfl

theorem exec_traceStart (h : Passes 0x51 c s) (harg : traceArgs c = none) : exec (.traceStart c) s = .next { s with
    b := (s.b.begun s.tick 0x51 c).cmdPages s.tick c.sc (portNo c.port) 0 0 0 (⟨0x1F, 0⟩ :: (if c.opt 1 then fieldPages 0x4B c else []))
      (⟨HUB_TRACE.DRAIN_EN, 0, 1⟩ :: captureWrites c 1) } := by
  show execTraceStart c s = _
  rw [execTraceStart, h.runCmdB_eq]
  simp only [harg]
  cases c.opt 1 <;> rfl

/-- The block of TRACE_STOP before its triggers. -/
def traceStopped (c : Cmd) (s : State) : Block :=
  (s.b.begun s.tick 0x52 c).cmdPages s.tick c.sc (portNo c.port) 0 0 0
    ((if c.opt 0 then [⟨0x1F, 0⟩] else []) ++ (if c.opt 1 then fieldPages 0x4B c else [])) (captureWrites c 0)

theorem exec_traceStop (h : Passes 0x52 c s) (harg : traceArgs c = none) : exec (.traceStop c) s = .next { s with
    b := (traceStopped c s).cond (c.opt 2 && (traceStopped c s).waitOf (portNo c.port) != .none)
      (fun b => b.triggerAll s.tick c.sc 2 (namedBufs c)) } := by
  show execTraceStop c s = _
  rw [execTraceStop, h.runCmdB_eq]
  simp only [harg]
  unfold traceStopped
  cases c.opt 1 <;> rfl

end Rows

/-- Settles O35. -/
theorem pageCommandsHoldTheirPages : Obligations.PageCommandsHoldTheirPages := by
  have hone (p : PageNo) : ([p].map PageNo.key).Nodup := List.nodup_singleton _
  have hcls {cls : Nat} (h : cls ∈ commandPages) : ∀ p ∈ [(⟨cls, 0⟩ : PageNo)], p.cls ∈ commandPages := by simpa using h
  unfold Obligations.PageCommandsHoldTheirPages
  refine ⟨fun c s hw h => ?_, fun c s ws hws h => ?_, fun c s ws hws h => ?_, fun c s ws hws h => ?_,
    fun c s ws v cls codes hv hclass hcodes hgood hws h => ?_, fun c s ws hsrc hn hwin hws h => ?_, fun c s pages ws harg hpages hws h => ?_,
    fun c s pages ws harg hpages hws h => ?_, fun c s pages harg hopt hpages h => ?_, fun c s pages harg hopt hpages h => ?_⟩
  · exact ⟨_, exec_setWaferCap h.1 hw, holdsPages_of_takes h (hone _) (hcls (by decide)) ..⟩
  · subst hws
    exact ⟨_, exec_setFieldLimits h.1, holdsPages_of_takes h (fieldPages_keys ..) (fieldPages_cls (by decide) c) ..⟩
  · subst hws
    exact ⟨_, exec_setMarginMode h.1, holdsPages_of_takes h (fieldPages_keys ..) (fieldPages_cls (by decide) c) ..⟩
  · subst hws
    exact ⟨_, exec_modelSelect h.1, holdsPages_of_takes h (fieldPages_keys ..) (fieldPages_cls (by decide) c) ..⟩
  · subst hv hclass hcodes hws
    have hrail : ∀ r < 2, 0x47 + r ∈ commandPages := by decide
    exact ⟨_, exec_datumWrite h.1 hgood, holdsPages_of_takes h (fieldPages_keys ..)
      (fieldPages_cls (hrail _ (Nat.mod_lt _ (by decide))) c) ..⟩
  · subst hws
    exact ⟨_, exec_faultPolicy h.1 hsrc hn hwin, holdsPages_of_takes h (hone _) (hcls (by decide)) ..⟩
  · subst hpages hws
    exact ⟨_, exec_traceConfig h.1 harg, holdsPages_of_takes h (tracePages_keys ..) (tracePages_cls c _ _) ..⟩
  · subst hpages hws
    exact ⟨_, exec_traceStart h.1 harg, holdsPages_of_takes h (tracePages_keys c true _) (tracePages_cls c true _) ..⟩
  · subst hpages
    refine ⟨_, next_block (exec_traceStop h.1 harg) (Block.cond_of_false (by simp [hopt]) _), ?_⟩
    exact holdsPages_of_takes h (tracePages_keys ..) (tracePages_cls c _ _) ..
  · subst hpages
    obtain ⟨hin, hwaits, hagents, hslots, hshadow, hheld⟩ : HoldsPages _ _ c _ _ s { s with b := traceStopped c s } :=
      holdsPages_of_takes h (tracePages_keys ..) (tracePages_cls c _ _) 0 0
    have htrig := Block.triggerAll_keeps (traceStopped c s) s.tick c.sc 2 (namedBufs c)
    obtain ⟨⟨fl, hfl, hseq⟩, hwait⟩ := hwaits
    dsimp only at hwait hfl
    refine ⟨_, next_block (exec_traceStop h.1 harg) (Block.cond_of_true (by simp [hopt, hwait]) _), inBlock_mk .., ?_, ?_, ?_, fun p hp => ?_,
      fun k hk h2 h3 hon hpolicy => ?_⟩
    · exact ⟨⟨fl, by rw [htrig.port (by decide), hfl], hseq⟩, by rw [Block.waitOf, htrig.port (by decide)]; exact hwait⟩
    · exact Eq.trans (htrig.same .agents (by decide)) hagents
    · exact Eq.trans (htrig.same .slots (by decide)) hslots
    · rw [htrig.page (by decide)]
      exact (hheld p hp).1
    · have hon' : (traceStopped c s).bufOn k = true := by
        rw [← hon, Block.bufOn, Block.bufOn, Block.bit, Block.bit, Block.bit, Block.bit, traceStopped, cmdPages_rd (by decide) h,
          cmdPages_rd (by decide) h]
      have hpolicy' : (traceStopped c s).bufPolicy k = 2 :=
        (Block.bufPolicy_of_rd (fun x hx i => cmdPages_rd (by fin_cases hx <;> decide) h 0 0 i) k).trans hpolicy
      have htrace : (traceStopped c s).trace k = s.b.trace k := cmdPages_trace h 0 0 k
      exact Block.Freezes.triggerAll_st ⟨hon', hpolicy', .inr (by rw [htrace]; exact ⟨h2, h3⟩)⟩ hk ..

end Sys2Proof.Machine
end

section
/-!
SUPPORT. The ticket port: errors, RESPONSEs, slots taken and granted.
-/

namespace Sys2Proof.Machine

open Sys2Proof

namespace Block

variable {b c : Block} {now off f k : Nat}

/-! ### Records, errors and messages -/

theorem record_keeps (b : Block) (k now off code parcel aux dataA dataB : Nat) :
    b.Keeps [.regs, .fields, .traces] (b.record k now off code parcel aux dataA dataB) := by simp

theorem ticketError_keeps (b : Block) (now f code task off : Nat) :
    b.Keeps [.regs, .fields, .faults] (b.ticketError now f code task off) := by simp

theorem send_keeps (b : Block) (f : Nat) (o : TkOut) : b.Keeps [.fields] (b.send f o) := by simp

theorem send_outQ (b : Block) (f : Nat) (o : TkOut) : ((b.send f o).fu f).outQ = (b.fu f).outQ ++ [o] := by
  rw [send, fu_modFu_same]

/-- A protocol error of field `f`, before its event is sent. -/
def errorNoted (b : Block) (now f code task : Nat) : Block :=
  (((((b.inc F_TICKET.PROTO_ERR f).inc HUB_TICKET.PROTO_ERR 0).wr HUB_TICKET.LAST_DETAIL 0 code).wr HUB_TICKET.LAST_FIELD 0 f).wr
    HUB_TICKET.LAST_TASK 0 task).wr HUB_TICKET.LAST_TICK 0 now

theorem ticketError_eq (b : Block) (now f code task off : Nat) :
    b.ticketError now f code task off = (b.errorNoted now f code task).fault 24 f code off := rfl

theorem errorNoted_keeps (b : Block) (now f code task : Nat) : b.Keeps [.regs] (b.errorNoted now f code task) := by
  unfold errorNoted
  simp

theorem fault_fu_same (hf : f < 84) (b : Block) (src detail off : Nat) :
    (b.fault src f detail off).fu f = { b.fu f with faultNow := ((b.fault src f detail off).fu f).faultNow } := by
  have hfu : (b.fault src f detail off).fu f = { b.fu f with faultNow := mmod 0 (b.fu f).faultNow src (· + 1) } := by
    have hset (c : Block) (l : List FaultWord) : ({ c with faults := l } : Block).fu f = c.fu f := rfl
    rw [fault, if_pos hf, hset, fu_modFu_same]
  rw [hfu]

theorem ticketError_count (b : Block) (now f code task off : Nat) :
    (b.ticketError now f code task off).rd F_TICKET.PROTO_ERR f = (b.rd F_TICKET.PROTO_ERR f + 1) % 2 ^ 32 := by
  rw [ticketError_eq, rd_fault, errorNoted, rd_wr_apart (by decide), rd_wr_apart (by decide), rd_wr_apart (by decide), rd_wr_apart (by decide),
    rd_inc_apart (by decide), rd_inc_same]
  rfl

theorem ticketError_fuSame {α : Type} {g : FieldUnit → α} (hg : ∀ (u : FieldUnit) v, g { u with faultNow := v } = g u) (b : Block)
    (now f code task off : Nat) : FuSame g b (b.ticketError now f code task off) :=
  (fuSame_fault hg ..).2 (Keeps.fuSame (S := [.regs]) (by simp) (by decide))

theorem ticketError_outQ (b : Block) (now f code task off k : Nat) : ((b.ticketError now f code task off).fu k).outQ = (b.fu k).outQ :=
  (ticketError_fuSame (g := FieldUnit.outQ) (fun _ _ => rfl) ..).same k

theorem ticketError_faults (b : Block) (now f code task off : Nat) : (b.ticketError now f code task off).faults =
    b.faults ++ [{ src := 24, field := f, detail := lowBits 16 code, off := off }] := faults_fault ..

theorem record_outQ (b : Block) (k now off code parcel aux dataA dataB j : Nat) :
    ((b.record k now off code parcel aux dataA dataB).fu j).outQ = (b.fu j).outQ :=
  ((fuSame_record (g := FieldUnit.outQ) (fun _ _ => rfl) ..).2 (FuSame.refl _ b)).same j

/-! ### What a decision reads (R127, R130) -/

section Reads

variable (b : Block) (f : Nat) (m : TkRequest)

theorem inc_requests_rd {x : Fld} (hx : F_TICKET.REQUESTS.apart x = true) (i : Nat) : (b.inc F_TICKET.REQUESTS f).rd x i = b.rd x i :=
  rd_inc_apart hx ..

theorem requestCheck_inc : (b.inc F_TICKET.REQUESTS f).requestCheck f m = b.requestCheck f m := by
  unfold requestCheck isOut bit
  rw [inc_requests_rd b f (by decide)]
  rfl

theorem newSlot_inc (reqTick : Nat) (wq : Bool) : (b.inc F_TICKET.REQUESTS f).newSlot f m reqTick wq = b.newSlot f m reqTick wq := by
  unfold newSlot chargeOf bit
  rw [inc_requests_rd b f (by decide), inc_requests_rd b f (by decide)]
  rfl

theorem fastGrants_inc (t : Slot) : (b.inc F_TICKET.REQUESTS f).fastGrants f t = b.fastGrants f t := by
  unfold fastGrants noGrants admissionHeld isOut bit
  rw [inc_requests_rd b f (by decide), inc_requests_rd b f (by decide), inc_requests_rd b f (by decide)]
  rfl

end Reads

/-! ### A slot taken (R130, R131) -/

/-- Every pool that a granted ticket names is debited (R128). -/
def debited (b : Block) (f : Nat) (t : Slot) : Block :=
  b.each t.parcels (fun b p => b.modAgent (pid f p) (fun a => { a with pool := a.pool - t.charge }))

theorem debited_keeps (b : Block) (f : Nat) (t : Slot) : b.Keeps [.agents] (b.debited f t) := by
  unfold debited
  simp

theorem parcels_nodup (t : Slot) : t.parcels.Nodup := (List.nodup_range (n := t.countM1 + 1)).map fun _ _ h => Nat.add_left_cancel h

theorem debited_pool {t : Slot} {p : Nat} (hp : p ∈ t.parcels) (b : Block) (f : Nat) :
    ((b.debited f t).agent (pid f p)).pool = (b.agent (pid f p)).pool - t.charge :=
  each_once (p := fun b => (b.agent (pid f p)).pool) (h := fun n => n - t.charge)
    (g := fun b p => b.modAgent (pid f p) (fun a => { a with pool := a.pool - t.charge })) (fun b => by rw [agent_modAgent_same])
    (fun b y hy => by rw [agent_modAgent_other _ _ (pid_ne hy.symm)]) (parcels_nodup t) hp b

/-- A slot after its grant, the `seq`-th. -/
def Slot.grantedAt (t : Slot) (now seq : Nat) (aged : Bool) : Slot :=
  { t with st := 2, aged := aged, grantTick := now, grantSeq := seq, grantDelta := min 65535 (now - t.reqTick) }

/-- The pools are debited and the grant has its number. -/
def grantDebited (b : Block) (f k : Nat) : Block :=
  (b.debited f (b.slot (tid f k))).modHub (fun h => { h with grantSeq := h.grantSeq + 1 })

/-- The slot is granted. -/
def grantKept (b : Block) (now f k : Nat) (aged : Bool) : Block :=
  (b.grantDebited f k).modSlot (tid f k) (fun t => Slot.grantedAt t now (b.grantDebited f k).hub.grantSeq aged)

/-- The registers that count a grant. -/
def grantCounted (b : Block) (f : Nat) (fast aged : Bool) : Block :=
  (if fast then b.inc F_TICKET.GRANT_FAST f else b.inc F_TICKET.GRANT_LATER f).cond aged (fun b => b.inc F_TICKET.AGED f)

theorem grant_eq (b : Block) (now off f k : Nat) (fast aged : Bool) : b.grant now off f k fast aged =
    ((b.grantKept now f k aged).grantCounted f fast aged).record f now off 0x01 (pid f (b.slot (tid f k)).first) 0 (b.slot (tid f k)).task
      (grantWord (b.slot (tid f k)) fast aged k) := rfl

theorem grantDebited_keeps (b : Block) (f k : Nat) : b.Keeps [.agents, .hub] (b.grantDebited f k) := by
  unfold grantDebited debited
  simp

theorem grantCounted_keeps (b : Block) (f : Nat) (fast aged : Bool) : b.Keeps [.regs] (b.grantCounted f fast aged) := by
  unfold grantCounted
  simp

theorem grantKept_slot (b : Block) (now f k : Nat) (aged : Bool) :
    (b.grantKept now f k aged).slot (tid f k) = Slot.grantedAt (b.slot (tid f k)) now (b.grantDebited f k).hub.grantSeq aged := by
  rw [grantKept, slot_modSlot_same, (grantDebited_keeps ..).slot (by decide)]

theorem grantKept_slot_other {j : Nat} (h : j ≠ tid f k) (b : Block) (now : Nat) (aged : Bool) : (b.grantKept now f k aged).slot j = b.slot j := by
  rw [grantKept, slot_modSlot_other _ _ h, (grantDebited_keeps ..).slot (by decide)]

section Grant

variable (b : Block) (now off f k : Nat) (fast aged : Bool)

/-- What follows a grant counts and records it. -/
theorem grant_keeps : (b.grantKept now f k aged).Keeps [.regs, .fields, .traces] (b.grant now off f k fast aged) := by
  rw [grant_eq]
  exact ((grantCounted_keeps ..).mono (by decide)).trans ((record_keeps ..).mono (by decide))

theorem grant_slot (j : Nat) : (b.grant now off f k fast aged).slot j = (b.grantKept now f k aged).slot j := (grant_keeps ..).slot (by decide) j

theorem grant_pool {p : Nat} (hp : p ∈ (b.slot (tid f k)).parcels) : ((b.grant now off f k fast aged).agent (pid f p)).pool =
    (b.agent (pid f p)).pool - (b.slot (tid f k)).charge := by
  rw [(grant_keeps ..).agent (by decide), ← debited_pool hp]
  rfl

theorem grant_outQ (j : Nat) : ((b.grant now off f k fast aged).fu j).outQ = (b.fu j).outQ := by
  rw [grant_eq, record_outQ, (grantCounted_keeps ..).fu (by decide), grantKept, (modSlot_keeps ..).fu (by decide),
    (grantDebited_keeps ..).fu (by decide)]

end Grant

/-- Slot `k` takes the request, before the decision on its grant. -/
def slotTaken (b : Block) (f k : Nat) (t : Slot) : Block := (b.modFu f FieldUnit.takeSlot).setSlot (tid f k) t

theorem slotTaken_keeps (b : Block) (f k : Nat) (t : Slot) : b.Keeps [.fields, .slots] (b.slotTaken f k t) := by
  unfold slotTaken
  simp

theorem slotTaken_slot (b : Block) (f k : Nat) (t : Slot) : (b.slotTaken f k t).slot (tid f k) = t := slot_setSlot_same ..

theorem slotTaken_slot_other {j : Nat} (h : j ≠ tid f k) (b : Block) (t : Slot) : (b.slotTaken f k t).slot j = b.slot j :=
  slot_setSlot_other _ _ h

theorem slotTaken_outQ (b : Block) (f k : Nat) (t : Slot) (j : Nat) : ((b.slotTaken f k t).fu j).outQ = (b.fu j).outQ := by
  have htake (u : FieldUnit) : u.takeSlot.outQ = u.outQ := by
    unfold FieldUnit.takeSlot
    split <;> rfl
  exact ((FuSame.refl FieldUnit.outQ b).modFu htake).same j

theorem place_granted {m : TkRequest} {reqTick : Nat} {wq : Bool} (h : b.fastGrants f (b.newSlot f m reqTick wq) = true) (now off k : Nat) :
    b.place now off f k m reqTick wq = (b.slotTaken f k (b.newSlot f m reqTick wq)).grant now off f k (!wq) false := by
  rw [place]
  exact if_pos h

theorem place_waiting {m : TkRequest} {reqTick : Nat} {wq : Bool} (h : b.fastGrants f (b.newSlot f m reqTick wq) = false) (now off k : Nat) :
    b.place now off f k m reqTick wq = (b.slotTaken f k (b.newSlot f m reqTick wq)).modQueue f
      (queueOf (b.newSlot f m reqTick wq).crit (b.newSlot f m reqTick wq).cls (b.newSlot f m reqTick wq).effPrio) (fun l => l ++ [k]) := by
  rw [place]
  exact if_neg (by rw [h]; decide)

theorem modQueue_keeps (b : Block) (f q : Nat) (g : List Nat → List Nat) : b.Keeps [.fields] (b.modQueue f q g) := by simp

theorem modQueue_outQ (b : Block) (f q : Nat) (g : List Nat → List Nat) (j : Nat) : ((b.modQueue f q g).fu j).outQ = (b.fu j).outQ := by
  have hsame : FuSame FieldUnit.outQ b (b.modQueue f q g) := by
    unfold modQueue
    refine .modFu (FuSame.refl _ b) fun _ => ?_
    rfl
  exact hsame.same j

/-- A request granted on the fast path, or at its move (R130, R136). -/
theorem place_granted_slot {m : TkRequest} {reqTick : Nat} {wq : Bool} (h : b.fastGrants f (b.newSlot f m reqTick wq) = true) (now off k : Nat) :
    ∃ seq, (b.place now off f k m reqTick wq).slot (tid f k) = Slot.grantedAt (b.newSlot f m reqTick wq) now seq false := by
  rw [place_granted h, grant_slot, grantKept_slot, slotTaken_slot]
  exact ⟨_, rfl⟩

theorem place_waiting_slot {m : TkRequest} {reqTick : Nat} {wq : Bool} (h : b.fastGrants f (b.newSlot f m reqTick wq) = false) (now off k : Nat) :
    (b.place now off f k m reqTick wq).slot (tid f k) = b.newSlot f m reqTick wq := by
  rw [place_waiting h, (modQueue_keeps ..).slot (by decide), slotTaken_slot]

theorem place_slot_other {j : Nat} (hj : j ≠ tid f k) (b : Block) (now off : Nat) (m : TkRequest) (reqTick : Nat) (wq : Bool) :
    (b.place now off f k m reqTick wq).slot j = b.slot j := by
  cases h : b.fastGrants f (b.newSlot f m reqTick wq)
  · rw [place_waiting h, (modQueue_keeps ..).slot (by decide), slotTaken_slot_other hj]
  · rw [place_granted h, grant_slot, grantKept_slot_other hj, slotTaken_slot_other hj]

theorem place_outQ (b : Block) (now off f k : Nat) (m : TkRequest) (reqTick : Nat) (wq : Bool) (j : Nat) :
    ((b.place now off f k m reqTick wq).fu j).outQ = (b.fu j).outQ := by
  cases h : b.fastGrants f (b.newSlot f m reqTick wq)
  · rw [place_waiting h, modQueue_outQ, slotTaken_outQ]
  · rw [place_granted h, grant_outQ, slotTaken_outQ]

theorem place_pool {m : TkRequest} {reqTick : Nat} {wq : Bool} (h : b.fastGrants f (b.newSlot f m reqTick wq) = true) {p : Nat}
    (hp : p ∈ (b.newSlot f m reqTick wq).parcels) (now off k : Nat) : ((b.place now off f k m reqTick wq).agent (pid f p)).pool =
      (b.agent (pid f p)).pool - (b.newSlot f m reqTick wq).charge := by
  have hslot := slotTaken_slot b f k (b.newSlot f m reqTick wq)
  rw [place_granted h, grant_pool _ _ _ _ _ _ _ (by rw [hslot]; exact hp), hslot, (slotTaken_keeps ..).agent (by decide)]

theorem place_waiting_agents {m : TkRequest} {reqTick : Nat} {wq : Bool} (h : b.fastGrants f (b.newSlot f m reqTick wq) = false) (now off k : Nat) :
    (b.place now off f k m reqTick wq).agents = b.agents := by
  rw [place_waiting h]
  exact (((slotTaken_keeps ..).trans ((modQueue_keeps ..).mono (by decide)))).same .agents (by decide)

/-! ### Decisions -/

theorem decideReq_refused {m : TkRequest} (h : b.requestCheck f m ≠ 0) (now off reqTick : Nat) : b.decideReq now off f m reqTick =
    (b.ticketError now f (b.requestCheck f m) m.task.toNat off).send f (responseTo m 2 false 0 (b.requestCheck f m) true) := if_pos h

theorem decideReq_full {m : TkRequest} (h : b.requestCheck f m = 0) (hfree : (b.fu f).freeSlot = none) (now off reqTick : Nat) :
    b.decideReq now off f m reqTick = b.waferAppend f m reqTick := by
  rw [decideReq, if_neg (not_not.2 h), hfree]

theorem decideReq_placed {m : TkRequest} (h : b.requestCheck f m = 0) (hfree : (b.fu f).freeSlot = some k) (now off reqTick : Nat) :
    b.decideReq now off f m reqTick = (b.place now off f k m reqTick false).send f
      (responseTo m (if ((b.place now off f k m reqTick false).slot (tid f k)).st = 2 then 0 else 1) false k 0 true) := by
  rw [decideReq, if_neg (not_not.2 h), hfree]

/-- The wafer queue takes a request (R136). -/
theorem waferAppend_room (h : b.hub.wq.length < 4096) (f : Nat) (m : TkRequest) (reqTick : Nat) : b.waferAppend f m reqTick =
    (((b.modHub (fun h => { h with
      wq := h.wq ++ [{ field := f, req := m, reqTick := reqTick, index := freeIndex b.hub.wq b.hub.wqNext }]
      wqNext := (freeIndex b.hub.wq b.hub.wqNext + 1) % 4096 })).wr HUB_TICKET.WQ_DEPTH 0 (b.hub.wq.length + 1)).send f
        (responseTo m 1 true (freeIndex b.hub.wq b.hub.wqNext) 0 false)) := by
  rw [waferAppend, if_neg (by omega)]
  have hlen : (b.hub.wq ++ [({ field := f, req := m, reqTick := reqTick, index := freeIndex b.hub.wq b.hub.wqNext } : WqEntry)]).length =
      b.hub.wq.length + 1 := List.length_append
  rw [← hlen]
  rfl

theorem waferAppend_queued {i : Nat} (h : b.hub.wq.length < 4096) (hi : i = freeIndex b.hub.wq b.hub.wqNext) (f : Nat) (m : TkRequest)
    (reqTick : Nat) : (b.waferAppend f m reqTick).hub.wq = b.hub.wq ++ [{ field := f, req := m, reqTick := reqTick, index := i }] ∧
      ((b.waferAppend f m reqTick).fu f).outQ = (b.fu f).outQ ++ [responseTo m 1 true i 0 false] := by
  rw [waferAppend_room h, ← hi, send_outQ]
  exact ⟨rfl, rfl⟩

theorem waferAppend_keeps (b : Block) (f : Nat) (m : TkRequest) (reqTick : Nat) :
    b.Keeps [.regs, .fields, .hub] (b.waferAppend f m reqTick) := by simp

end Block

/-! ### The port's rows -/

section Port

variable {f : FieldNo} {s : State}

theorem exec_request (hready : (s.b.fu f).inReady = true) (m : TkRequest) (ec : BitVec 12) (sc : ScOff) :
    exec (.ticketRequest f (.request m) ec sc) s = .next { s with
      b := (s.b.inc F_TICKET.REQUESTS f).inbound s.tick sc f (decide (ec.toNat < 96)) (.request m s.tick) } := by
  show execTicketRequest f (.request m) ec sc s = _
  simp only [execTicketRequest, onB, hready]
  rfl

/-- After the window a request is decided at once. -/
theorem exec_request_decided (hready : (s.b.fu f).inReady = true) (hwin : (s.b.fu f).windowIn = []) {ec : BitVec 12} (hec : 96 ≤ ec.toNat)
    (m : TkRequest) (sc : ScOff) : exec (.ticketRequest f (.request m) ec sc) s = .next { s with
      b := (s.b.inc F_TICKET.REQUESTS f).decideReq s.tick sc f m s.tick } := by
  have hwait : (decide (ec.toNat < 96) || !((s.b.inc F_TICKET.REQUESTS f).fu f).windowIn.isEmpty) = false := by
    have hwin' : ((s.b.inc F_TICKET.REQUESTS f).fu f).windowIn = [] := hwin
    rw [hwin', decide_eq_false (by omega)]
    rfl
  rw [exec_request hready, Block.inbound, hwait]
  rfl

theorem exec_typeThree (hready : (s.b.fu f).inReady = true) (d : BitVec 84) (ec : BitVec 12) (sc : ScOff) :
    exec (.ticketRequest f (.typeThree d) ec sc) s = .next { s with b := s.b.ticketError s.tick f 3 (d.toNat / 2 ^ 52) sc } := by
  show execTicketRequest f (.typeThree d) ec sc s = _
  simp only [execTicketRequest, onB, hready]
  rfl

theorem exec_ticketStart (hready : (s.b.fu f).inReady = true) (k : TSlotNo) (sc : ScOff) :
    exec (.ticketStart f k sc) s = .next { s with b := s.b.inbound s.tick sc f false (.start k) } := by
  show execTicketStart f k sc s = _
  rw [execTicketStart, onB, if_pos hready]

theorem exec_ticketEnd (hready : (s.b.fu f).inReady = true) (k : TSlotNo) (sc : ScOff) :
    exec (.ticketEnd f k sc) s = .next { s with b := s.b.inbound s.tick sc f false (.finish k) } := by
  show execTicketEnd f k sc s = _
  rw [execTicketEnd, onB, if_pos hready]

theorem exec_request_notReady (hready : (s.b.fu f).inReady = false) (x : TkMessage) (ec : BitVec 12) (sc : ScOff) :
    exec (.ticketRequest f x ec sc) s = .next s := by
  show execTicketRequest f x ec sc s = _
  simp only [execTicketRequest, onB, hready]
  rfl

theorem exec_ticketStart_notReady (hready : (s.b.fu f).inReady = false) (k : TSlotNo) (sc : ScOff) :
    exec (.ticketStart f k sc) s = .next s := by
  show execTicketStart f k sc s = _
  simp only [execTicketStart, onB, hready]
  rfl

theorem exec_ticketEnd_notReady (hready : (s.b.fu f).inReady = false) (k : TSlotNo) (sc : ScOff) : exec (.ticketEnd f k sc) s = .next s := by
  show execTicketEnd f k sc s = _
  simp only [execTicketEnd, onB, hready]
  rfl

end Port

theorem exec_ticketOutTaken (f : FieldNo) (s : State) : exec (.ticketOutTaken f) s = .next { s with
    b := match takeOut false (s.b.fu f).outQ with
      | some q => s.b.modFu f (fun u => { u with outQ := q.2, tkOut := q.1.encode f })
      | none => s.b } := rfl

theorem exec_ticketOutTaken_some {f : FieldNo} {s : State} {q : TkOut × List TkOut} (hq : takeOut false (s.b.fu f).outQ = some q) :
    exec (.ticketOutTaken f) s = .next { s with b := s.b.modFu f (fun u => { u with outQ := q.2, tkOut := q.1.encode f }) } := by
  rw [exec_ticketOutTaken, hq]

theorem exec_representWindowEnd (f : FieldNo) (s : State) : exec (.representWindowEnd f) s = .next { s with
    b := (s.b.modFu f (fun u => { u with windowIn := [] })).each (s.b.fu f).windowIn (fun b x => b.handle s.tick (96000 / b.mhz) f x) } := rfl

theorem exec_representWindowEnd_nil {f : FieldNo} {s : State} (hwin : (s.b.fu f).windowIn = []) :
    exec (.representWindowEnd f) s = .next { s with b := s.b.modFu f (fun u => { u with windowIn := [] }) } := by
  rw [exec_representWindowEnd, hwin]
  rfl

/-- A message waits in the window, or behind one that does. -/
theorem Block.inbound_waits {b : Block} {now off f : Nat} {wait : Bool} (h : wait = true ∨ (b.fu f).windowIn.isEmpty = false) (x : TkIn) :
    b.inbound now off f wait x = b.modFu f (fun u => { u with windowIn := u.windowIn ++ [x] }) := by
  have hwait : (wait || !(b.fu f).windowIn.isEmpty) = true := by obtain h | h := h <;> simp [h]
  rw [inbound, if_pos hwait]

section Placed

variable {f : FieldNo} {m : TkRequest} {s : State} {k : Nat}

/-- A request that finds a slot is placed there and answered. -/
theorem decideReq_of_free (hcode : s.b.requestCheck f m = 0) (hfree : (s.b.fu f).freeSlot = some k) (off : Nat) :
    (s.b.inc F_TICKET.REQUESTS f).decideReq s.tick off f m s.tick = ((s.b.inc F_TICKET.REQUESTS f).place s.tick off f k m s.tick false).send f
      (responseTo m (if (((s.b.inc F_TICKET.REQUESTS f).place s.tick off f k m s.tick false).slot (tid f k)).st = 2 then 0 else 1) false k 0 true) := by
  have hcode' : (s.b.inc F_TICKET.REQUESTS f).requestCheck f m = 0 := by rw [Block.requestCheck_inc, hcode]
  have hfree' : ((s.b.inc F_TICKET.REQUESTS f).fu f).freeSlot = some k := hfree
  exact Block.decideReq_placed hcode' hfree' ..

end Placed

open Block in
/-- Settles O36. -/
theorem ticketPort : Obligations.TicketPort := by
  unfold Obligations.TicketPort
  refine ⟨fun f m ec sc s hready hec hwin => ⟨fun hcode => ?_, fun k n hcode hfree hn hgrant => ?_, fun k n hcode hfree hn hgrant => ?_,
      fun i hcode hfree hroom hi => ?_⟩, fun f m ec sc s hready hec => ?_, fun f k sc s hready hwin => ?_, fun f k x ec sc s hready => ?_,
    fun f d ec sc s hready => ?_, fun f q s hq => ?_, fun f s hwin => ?_, fun f x s hwin => ?_⟩
  · rw [← requestCheck_inc] at hcode
    refine ⟨_, next_block (exec_request_decided hready hwin hec m sc) (decideReq_refused hcode ..), inBlock_mk .., ?_, ?_, ?_, ?_⟩
    · exact (((ticketError_keeps ..).trans ((send_keeps ..).mono (by decide)))).same .slots (by decide)
    · exact (((ticketError_keeps ..).trans ((send_keeps ..).mono (by decide)))).same .agents (by decide)
    · rw [send_outQ, ticketError_outQ, (inc_keeps ..).fu (by decide), requestCheck_inc]
    · refine ((send_keeps ..).rd (by decide) ..).trans ((ticketError_count ..).trans ?_)
      rw [inc_requests_rd _ _ (by decide)]
  · have hgrant' : (s.b.inc F_TICKET.REQUESTS f).fastGrants f ((s.b.inc F_TICKET.REQUESTS f).newSlot f m s.tick false) = true := by
      rw [fastGrants_inc, newSlot_inc, ← hn, hgrant]
    obtain ⟨seq, hslot⟩ := place_granted_slot hgrant' s.tick sc k
    have hpool := fun p hp => place_pool (p := p) hgrant' hp s.tick sc k
    rw [newSlot_inc, ← hn] at hslot hpool
    refine ⟨_, next_block (exec_request_decided hready hwin hec m sc) (decideReq_of_free hcode hfree sc), inBlock_mk .., ?_, ?_, ?_, ?_,
      fun p hp => ?_, fun j hj => ?_⟩
    · rw [(send_keeps ..).slot (by decide), hslot]
      rfl
    · rw [(send_keeps ..).slot (by decide), hslot]
      rfl
    · rw [(send_keeps ..).slot (by decide), hslot]
      rfl
    · rw [send_outQ, place_outQ, hslot]
      rfl
    · rw [(send_keeps ..).agent (by decide), hpool p hp]
      rfl
    · rw [(send_keeps ..).slot (by decide), place_slot_other hj]
      rfl
  · have hgrant' : (s.b.inc F_TICKET.REQUESTS f).fastGrants f ((s.b.inc F_TICKET.REQUESTS f).newSlot f m s.tick false) = false := by
      rw [fastGrants_inc, newSlot_inc, ← hn, hgrant]
    have hslot := place_waiting_slot hgrant' s.tick sc k
    rw [newSlot_inc, ← hn] at hslot
    refine ⟨_, next_block (exec_request_decided hready hwin hec m sc) (decideReq_of_free hcode hfree sc), inBlock_mk .., ?_, ?_, ?_,
      fun j hj => ?_⟩
    · rw [(send_keeps ..).slot (by decide), hslot]
    · exact Eq.trans ((send_keeps ..).same .agents (by decide)) (place_waiting_agents hgrant' ..)
    · have hst : n.st ≠ 2 := by rw [hn]; show 1 ≠ 2; decide
      rw [send_outQ, place_outQ, hslot, if_neg hst]
      rfl
    · rw [(send_keeps ..).slot (by decide), place_slot_other hj]
      rfl
  · rw [← requestCheck_inc] at hcode
    obtain ⟨hwq, hout⟩ := waferAppend_queued (b := s.b.inc F_TICKET.REQUESTS f) hroom hi f m s.tick
    exact ⟨_, next_block (exec_request_decided hready hwin hec m sc) (decideReq_full hcode hfree ..), inBlock_mk ..,
      (waferAppend_keeps ..).same .slots (by decide), hwq, hout⟩
  · exact ⟨_, next_block (exec_request hready m ec sc) (inbound_waits (.inl (decide_eq_true hec)) _),
      Keeps.withBlock_eq_graft (S := [.regs, .fields]) (by simp), by simp [regsBut_inc], (rd_modFu ..).trans (rd_inc_same ..),
      congrArg FieldUnit.windowIn (fu_modFu_same ..), fun k hk => fu_modFu_other _ _ hk⟩
  · exact ⟨⟨_, next_block (exec_ticketStart hready k sc) (inbound_waits (.inr hwin) _), Keeps.withBlock_eq_graft (S := [.fields]) (by simp),
      congrArg FieldUnit.windowIn (fu_modFu_same ..)⟩,
      ⟨_, next_block (exec_ticketEnd hready k sc) (inbound_waits (.inr hwin) _), Keeps.withBlock_eq_graft (S := [.fields]) (by simp),
      congrArg FieldUnit.windowIn (fu_modFu_same ..)⟩⟩
  · exact ⟨exec_request_notReady hready x ec sc, exec_ticketStart_notReady hready k sc, exec_ticketEnd_notReady hready k sc⟩
  · refine ⟨_, exec_typeThree hready d ec sc, Keeps.withBlock_eq_graft (S := [.regs, .fields, .faults]) (by simp), ?_, ticketError_faults ..,
      ticketError_count ..⟩
    dsimp only
    rw [ticketError_eq, fault_fu_same f.isLt, (errorNoted_keeps ..).fu (by decide)]
  · exact ⟨_, exec_ticketOutTaken_some hq, Keeps.withBlock_eq_graft (S := [.fields]) (modFu_keeps ..), fu_modFu_same ..,
      fun k hk => fu_modFu_other _ _ hk⟩
  · exact ⟨_, exec_representWindowEnd_nil hwin, Keeps.withBlock_eq_graft (S := [.fields]) (modFu_keeps ..),
      congrArg FieldUnit.windowIn (fu_modFu_same ..)⟩
  · refine ⟨_, exec_representWindowEnd f s, ?_⟩
    rw [hwin]
    rfl

end Sys2Proof.Machine
end

section
/-!
SUPPORT. Fields of the hub's record: which operations leave what `g` reads of the hub.
-/

namespace Sys2Proof.Machine.Block

open Sys2Proof

variable {α : Type} {g : Hub → α} {a b c : Block} {S : List Part} {P : List Nat}

/-- From block `a` to block `b` what `g` reads of the hub is as before. -/
abbrev HubSame (g : Hub → α) (a b : Block) : Prop := TabSame (fun b _ => b.hub) g a b

theorem HubSame.eq (h : HubSame g a b) : g b.hub = g a.hub := h.same 0

theorem Keeps.hubSame (h : b.Keeps S c) (hS : .hub ∉ S) : HubSame g b c := .of_eq fun _ => h.hub hS

theorem HubSame.keeps (h : HubSame g a b) (hk : b.Keeps S c) (hS : .hub ∉ S) : HubSame g a c := h.trans (hk.hubSame hS)

theorem HubSame.modHub (h : HubSame g a b) {u : Hub → Hub} (hu : ∀ x, g (u x) = g x) : HubSame g a (b.modHub u) :=
  h.trans ⟨fun _ => hu _⟩

/-! ### Statuses change the journal entries that wait and the pending interrupts alone -/

section Statuses

variable (hs : ∀ (x : Hub) v, g { x with staged := v } = g x) (hi : ∀ (x : Hub) v, g { x with ibiPending := v } = g x)
include hs hi

theorem hubSame_reportStatus (b : Block) (now pt : Nat) (fl : Flight) (status detail : Nat) :
    HubSame g b (b.reportStatus now pt fl status detail) := by
  obtain ⟨n, hn⟩ := b.reportStatus_eq now pt fl status detail
  rw [hn]
  exact ⟨fun _ => (hi { b.hub with staged := b.hub.staged ++ stagedBy now pt fl status detail } n).trans (hs b.hub _)⟩

theorem hubSame_status (b : Block) (now pt : Nat) (fl : Flight) (status detail : Nat) (data : List Nat) :
    HubSame g b (b.status now pt fl status detail data) := by
  have hresponse : b.Keeps [.regs] ((b.writeResponse pt fl status detail data).setFlag HUB_STATE.CMP 0 pt true) := by
    unfold writeResponse
    simp
  have hreport := (hresponse.hubSame (g := g) (by decide)).trans (hubSame_reportStatus hs hi _ now pt fl status detail)
  by_cases h : status = stAccepted
  · subst h
    rw [status_accepted]
    exact HubSame.keeps hreport (S := [.regs, .ports]) (by simp) (by decide)
  · rw [status_of_final h]
    exact HubSame.keeps hreport (S := [.regs, .ports]) (by unfold freePort; simp) (by decide)

theorem hubSame_answer (b : Block) (now pt status detail : Nat) (data : List Nat) : HubSame g b (b.answer now pt status detail data) := by
  unfold answer
  split
  · exact .refl b
  · refine .ite ?_ (hubSame_status hs hi ..)
    exact Keeps.hubSame (S := [.ports]) (by simp) (by decide)

theorem hubSame_completeWhere (b : Block) (now : Nat) (h : Wait → Option (Nat × Nat × List Nat)) :
    HubSame g b (b.completeWhere now h) := by
  refine .each (.refl b) fun c pt => ?_
  split
  · exact hubSame_answer hs hi ..
  · exact .refl c

end Statuses

/-! ### Event records -/

theorem monQueue_keeps (b : Block) (front : Bool) (r : MonRec) : b.Keeps [.mon] (b.monQueue front r) := by simp

theorem regsOff_monEventAt (hP : [0x19] ⊆ P) (front : Bool) (now off e source : Nat) (data : List Nat) :
    a.RegsOff P (b.monEventAt front now off e source data) ↔ a.RegsOff P b := by
  have hP' : 0x19 ∈ P := hP (by simp)
  refine RegsOff.step (List.Subset.refl P) ?_
  unfold monEventAt
  dsimp only
  split
  · exact (regsOff_inc ⟨by decide, hP'⟩ ..).2 (by simp)
  · split
    · exact (regsOff_inc ⟨by decide, hP'⟩ ..).2 (by simp)
    · refine (regsOff_of_keeps (monQueue_keeps ..) (by decide)).2 ((regsOff_inc ⟨by decide, hP'⟩ ..).2 (by simp))

@[simp] theorem regsOff_monEvent (hP : [0x19] ⊆ P) (now off e source : Nat) (data : List Nat) :
    a.RegsOff P (b.monEvent now off e source data) ↔ a.RegsOff P b := regsOff_monEventAt hP ..

theorem monEvent_keeps (b : Block) (now off e source : Nat) (data : List Nat) : b.Keeps [.regs, .mon] (b.monEvent now off e source data) := by
  simp

/-! ### Commands taken -/

/-- Taking a command writes registers of the window alone. -/
theorem begun_regsOff (b : Block) (now op : Nat) (c : Cmd) : RegsOff windowPages b (b.begun now op c) := by
  refine ⟨fun x i hx hp => b.begun_rd now op c ?_⟩
  rw [Fld.page_of_key hx]
  intro h
  exact hp (h ▸ (by cases c.port <;> decide))

theorem Ready.of_hubSame {p : CmdPort} {fl : Flight} (h : Ready p fl a) (hk : a.Keeps S b) (hports : .ports ∉ S)
    (hstaged : HubSame Hub.staged a b) : Ready p fl b :=
  ⟨by rw [hk.port hports, h.flight], h.owed, by rw [hstaged.eq]; exact h.room⟩

end Sys2Proof.Machine.Block
end

section
/-!
SUPPORT. The life of a ticket after its request: START, END, cancellation and the moves of the wafer queue.
-/

namespace Sys2Proof.Machine

open Sys2Proof

namespace Block

variable {f k : Nat}

/-! ### START and END -/

/-- The agents of the ticket's parcels see its START (R138). -/
def startSeen (b : Block) (f k off : Nat) : Block :=
  b.each (b.slot (tid f k)).parcels (fun c p =>
    let d := c.cond (matrixClass (b.slot (tid f k)).cls && (c.agent (pid f p)).idle && !c.matrixRunning f p)
      (fun d => d.parcelStart f p (b.slot (tid f k)).cls (b.slot (tid f k)).crit false)
    let e := d.cond (matrixClass (b.slot (tid f k)).cls) (fun d => d.waitCritical f p (b.slot (tid f k)).crit)
    e.modParcel (pid f p) (fun x => if off < 1520 then { x with starts := x.starts ++ [(b.slot (tid f k)).cls] }
      else { x with startsLate := x.startsLate ++ [(b.slot (tid f k)).cls] }))

/-- The agents of the ticket's parcels see its END (R140). -/
def endSeen (b : Block) (f k off : Nat) : Block :=
  b.each (b.slot (tid f k)).parcels (fun c p => c.modParcel (pid f p) (fun x =>
    if off < 1520 then { x with ends := x.ends ++ [(b.slot (tid f k)).cls] } else { x with endsLate := x.endsLate ++ [(b.slot (tid f k)).cls] }))

theorem startSeen_keeps (b : Block) (f k off : Nat) : b.Keeps [.agents, .parcels, .fields] (b.startSeen f k off) := by
  unfold startSeen
  simp (maxDischargeDepth := 5)

theorem endSeen_keeps (b : Block) (f k off : Nat) : b.Keeps [.parcels] (b.endSeen f k off) := by
  unfold endSeen
  simp

theorem ticketStart_granted {b : Block} (hst : (b.slot (tid f k)).st = 2) (hended : (b.slot (tid f k)).ended = false) (now off : Nat) :
    b.ticketStart now f k off =
      ((b.startSeen f k off).modSlot (tid f k) (fun t => { t with st := 3, ran := true, startTick := now })).record f now off 0x02
        (pid f (b.slot (tid f k)).first) 0 (b.slot (tid f k)).task (ticks16 now (b.slot (tid f k)).grantTick * 2 ^ 16 + k) := by
  rw [ticketStart, if_neg (by rw [hst, hended]; decide)]
  rfl

theorem ticketEnd_running {b : Block} (hst : (b.slot (tid f k)).st = 3) (hended : (b.slot (tid f k)).ended = false) (now off : Nat) :
    b.ticketEnd now f k off =
      ((b.endSeen f k off).modSlot (tid f k) (fun t => { t with ended := true, endTick := now, billAt := now + 1, retireAt := now + 2 })).record
        f now off 0x03 (pid f (b.slot (tid f k)).first) 0 (b.slot (tid f k)).task
        (ticks16 now (b.slot (tid f k)).startTick * 2 ^ 16 + 3 * 2 ^ 10 + k) := by
  rw [ticketEnd, if_neg (by rw [hst, hended]; decide), hst]
  rfl

theorem ticketStart_slot {b : Block} (hst : (b.slot (tid f k)).st = 2) (hended : (b.slot (tid f k)).ended = false) (now off : Nat) :
    (b.ticketStart now f k off).slot (tid f k) = { b.slot (tid f k) with st := 3, ran := true, startTick := now } := by
  rw [ticketStart_granted hst hended, (record_keeps ..).slot (by decide), slot_modSlot_same, (startSeen_keeps ..).slot (by decide)]

theorem ticketEnd_slot {b : Block} (hst : (b.slot (tid f k)).st = 3) (hended : (b.slot (tid f k)).ended = false) (now off : Nat) :
    (b.ticketEnd now f k off).slot (tid f k) =
      { b.slot (tid f k) with ended := true, endTick := now, billAt := now + 1, retireAt := now + 2 } := by
  rw [ticketEnd_running hst hended, (record_keeps ..).slot (by decide), slot_modSlot_same, (endSeen_keeps ..).slot (by decide)]

/-- A message with nothing before it is handled at once. -/
theorem inbound_handled {b : Block} (h : (b.fu f).windowIn = []) (now off : Nat) (x : TkIn) : b.inbound now off f false x = b.handle now off f x := by
  rw [inbound, h]
  rfl

/-! ### Cancellation -/

/-- The pools named get the charge of a granted ticket back (R142). -/
def chargeBack (b : Block) (f k : Nat) : Block :=
  b.each (b.slot (tid f k)).parcels (fun c p =>
    c.modAgent (pid f p) (fun a => { a with giveBack := a.giveBack + (b.slot (tid f k)).charge }))

theorem chargeBack_keeps (b : Block) (f k : Nat) : b.Keeps [.agents] (b.chargeBack f k) := by
  unfold chargeBack
  simp

theorem cancelTicket_granted {b : Block} (hst : (b.slot (tid f k)).st = 2) (now : Nat) : b.cancelTicket now f k =
    ((b.chargeBack f k).modSlot (tid f k) (fun t => { t with
      ended := true, endTick := now, cancelled := true, energy := 0, retireAt := now + 1 })).inc F_TICKET.CANCELLED f := by
  rw [cancelTicket, hst]
  rfl

theorem cancelTicket_slot {b : Block} (hst : (b.slot (tid f k)).st = 2) (now : Nat) : (b.cancelTicket now f k).slot (tid f k) =
    { b.slot (tid f k) with ended := true, endTick := now, cancelled := true, energy := 0, retireAt := now + 1 } := by
  rw [cancelTicket_granted hst, (inc_keeps ..).slot (by decide), slot_modSlot_same, (chargeBack_keeps ..).slot (by decide)]

theorem cancelTicket_slot_other {b : Block} (hst : (b.slot (tid f k)).st = 2) {j : Nat} (hj : j ≠ tid f k) (now : Nat) :
    (b.cancelTicket now f k).slot j = b.slot j := by
  rw [cancelTicket_granted hst, (inc_keeps ..).slot (by decide), slot_modSlot_other _ _ hj, (chargeBack_keeps ..).slot (by decide)]

theorem cancelTicket_rd {b : Block} (hst : (b.slot (tid f k)).st = 2) {x : Fld} (hx : F_TICKET.CANCELLED.apart x = true) (now i : Nat) :
    (b.cancelTicket now f k).rd x i = b.rd x i := by
  rw [cancelTicket_granted hst, rd_inc_apart hx, (modSlot_keeps ..).rd (by decide), (chargeBack_keeps ..).rd (by decide)]

theorem ticketError_rd {x : Fld} (hx : x.Fits ∧ x.page ∉ [0x27] ∧ F_TICKET.PROTO_ERR.apart x = true) (b : Block) (now f code task off i : Nat) :
    (b.ticketError now f code task off).rd x i = b.rd x i := by
  have hnoted : RegsOff [0x27] (b.inc F_TICKET.PROTO_ERR f) (b.ticketError now f code task off) := by
    rw [ticketError_eq]
    unfold errorNoted
    simp (disch := decide)
  rw [hnoted.rd ⟨hx.1, hx.2.1⟩, rd_inc_apart hx.2.2]

theorem cancelTicket_count {b : Block} (hst : (b.slot (tid f k)).st = 2) (now : Nat) :
    (b.cancelTicket now f k).rd F_TICKET.CANCELLED f = (b.rd F_TICKET.CANCELLED f + 1) % 2 ^ 32 := by
  rw [cancelTicket_granted hst]
  refine (rd_inc_same _ F_TICKET.CANCELLED f).trans ?_
  rw [(modSlot_keeps ..).rd (by decide), (chargeBack_keeps ..).rd (by decide)]
  rfl

/-! ### Moves of the wafer queue -/

theorem place_st (b : Block) (now off f k : Nat) (m : TkRequest) (reqTick : Nat) (wq : Bool) :
    ((b.place now off f k m reqTick wq).slot (tid f k)).st = 1 ∨ ((b.place now off f k m reqTick wq).slot (tid f k)).st = 2 := by
  cases h : b.fastGrants f (b.newSlot f m reqTick wq)
  · exact .inl (by rw [place_waiting_slot h]; rfl)
  · obtain ⟨seq, hslot⟩ := place_granted_slot h now off k
    exact .inr (by rw [hslot]; rfl)

theorem place_task (b : Block) (now off f k : Nat) (m : TkRequest) (reqTick : Nat) (wq : Bool) :
    ((b.place now off f k m reqTick wq).slot (tid f k)).task = m.task.toNat := by
  cases h : b.fastGrants f (b.newSlot f m reqTick wq)
  · rw [place_waiting_slot h]; rfl
  · obtain ⟨seq, hslot⟩ := place_granted_slot h now off k
    rw [hslot]; rfl

/-- A request placed in a slot of a field counts in that field's registers, and is recorded. -/
theorem place_regsOff (b : Block) (now off f k : Nat) (m : TkRequest) (reqTick : Nat) (wq : Bool) :
    RegsOff [0x4A, 0x1F, 0x4B] b (b.place now off f k m reqTick wq) := by
  cases h : b.fastGrants f (b.newSlot f m reqTick wq)
  · rw [place_waiting h]
    unfold slotTaken modQueue
    simp
  · rw [place_granted h, grant_eq]
    unfold grantCounted grantKept grantDebited slotTaken debited
    simp
    split
    · exact (regsOff_inc (by decide) ..).2 (by simp)
    · exact (regsOff_inc (by decide) ..).2 (by simp)

theorem place_wq (b : Block) (now off f k : Nat) (m : TkRequest) (reqTick : Nat) (wq : Bool) :
    (b.place now off f k m reqTick wq).hub.wq = b.hub.wq := by
  have htaken := (slotTaken_keeps b f k (b.newSlot f m reqTick wq)).hubSame (g := Hub.wq) (by decide)
  cases h : b.fastGrants f (b.newSlot f m reqTick wq)
  · rw [place_waiting h]
    exact (HubSame.keeps htaken (modQueue_keeps ..) (by decide)).eq
  · rw [place_granted h]
    refine HubSame.eq (.keeps (.keeps (.modHub (.keeps htaken (debited_keeps ..) (by decide)) fun _ => ?_) (modSlot_keeps ..) (by decide))
      (grant_keeps ..) (by decide))
    rfl

/-- The entry `e` leaves the wafer queue for slot `k` of its field. -/
def wqTaken (b : Block) (e : WqEntry) : Block :=
  let c := (b.modHub (fun h => { h with wq := h.wq.erase e })).inc HUB_TICKET.WQ_MOVED 0
  c.wr HUB_TICKET.WQ_DEPTH 0 c.hub.wq.length

def wqPlaced (b : Block) (now k : Nat) (e : WqEntry) : Block := (b.wqTaken e).place now 0 e.field k e.req e.reqTick true

def wqMoved (b : Block) (now k : Nat) (e : WqEntry) : Block :=
  (b.wqPlaced now k e).cond (((b.wqPlaced now k e).slot (tid e.field k)).st == 2)
    (fun b => b.send e.field (.grant e.req.task.toNat e.req.first.toNat k))

theorem wqMoved_keeps (b : Block) (now k : Nat) (e : WqEntry) : (b.wqPlaced now k e).Keeps [.fields] (b.wqMoved now k e) := by
  unfold wqMoved
  simp

theorem wqMoved_slot (b : Block) (now k : Nat) (e : WqEntry) (j : Nat) :
    (b.wqMoved now k e).slot j = ((b.wqTaken e).place now 0 e.field k e.req e.reqTick true).slot j := (wqMoved_keeps ..).slot (by decide) j

theorem wqMoved_wq (b : Block) (now k : Nat) (e : WqEntry) : (b.wqMoved now k e).hub.wq = b.hub.wq.erase e :=
  (congrArg Hub.wq ((wqMoved_keeps ..).hub (by decide))).trans (place_wq ..)

theorem wqMoved_count (b : Block) (now k : Nat) (e : WqEntry) :
    (b.wqMoved now k e).rd HUB_TICKET.WQ_MOVED 0 = (b.rd HUB_TICKET.WQ_MOVED 0 + 1) % 2 ^ 32 := by
  rw [(wqMoved_keeps ..).rd (by decide), wqPlaced, (place_regsOff ..).rd (by decide), wqTaken]
  refine (rd_wr_apart (by decide) ..).trans ((rd_inc_same _ HUB_TICKET.WQ_MOVED 0).trans ?_)
  rfl

end Block

section Life

variable {f : FieldNo} {k : TSlotNo} {s : State}

theorem exec_ticketStart_granted (hready : (s.b.fu f).inReady = true) (hwin : (s.b.fu f).windowIn = []) (sc : ScOff) :
    exec (.ticketStart f k sc) s = .next { s with b := s.b.ticketStart s.tick f k sc } := by
  rw [exec_ticketStart hready, Block.inbound_handled hwin]
  rfl

theorem exec_ticketEnd_handled (hready : (s.b.fu f).inReady = true) (hwin : (s.b.fu f).windowIn = []) (sc : ScOff) :
    exec (.ticketEnd f k sc) s = .next { s with b := s.b.ticketEnd s.tick f k sc } := by
  rw [exec_ticketEnd hready, Block.inbound_handled hwin]
  rfl

theorem exec_ticketAged (hwaiting : (s.b.slot (tid f k)).waiting = true) (hcrit : (s.b.slot (tid f k)).crit = false)
    (hage : s.b.rd F_TICKET.AGE_LIMIT f ≤ (s.b.slot (tid f k)).waited) :
    exec (.ticketAged f k) s = .next { s with b := s.b.modSlot (tid f k) (fun t => { t with ageDue := true }) } := by
  have hcond : ((s.b.slot (tid f k)).waiting && !(s.b.slot (tid f k)).crit &&
      decide (s.b.rd F_TICKET.AGE_LIMIT f ≤ (s.b.slot (tid f k)).waited)) = true := by simp [hwaiting, hcrit, hage]
  show execTicketAged f k s = _
  simp only [execTicketAged, onB, Block.cond_of_true hcond]

theorem exec_startTimeout (hst : (s.b.slot (tid f k)).st = 2) (hended : (s.b.slot (tid f k)).ended = false)
    (hage : (s.b.slot (tid f k)).grantTick + 256 * s.b.rd F_TICKET.START_TIMEOUT f ≤ s.tick) :
    exec (.startTimeout f k) s = .next { s with
      b := (s.b.cancelTicket s.tick f k).ticketError s.tick f 0x09 (s.b.slot (tid f k)).task 0 } := by
  have hcond : ((s.b.slot (tid f k)).st == 2 && !(s.b.slot (tid f k)).ended &&
      decide ((s.b.slot (tid f k)).grantTick + 256 * s.b.rd F_TICKET.START_TIMEOUT f ≤ s.tick)) = true := by simp [hst, hended, hage]
  show execStartTimeout f k s = _
  simp only [execStartTimeout, onB, Block.cond_of_true hcond]

theorem exec_waferQueueAnswer (f : FieldNo) (s : State) :
    exec (.waferQueueAnswer f) s = .next { s with b := s.b.modFu f (fun u => { u with outQ := answerFirst u.outQ }) } := rfl

theorem exec_waferQueueMove {e : WqEntry} {k : Nat} (he : s.b.hub.wq.find? s.b.movable = some e) (hst : (s.b.proc 84).st = 0)
    (hfree : (s.b.fu e.field).freeSlot = some k) : exec .waferQueueMove s = .next { s with b := s.b.wqMoved s.tick k e } := by
  show execWaferQueueMove s = _
  simp only [execWaferQueueMove, onB, he, hst, hfree]
  rfl

theorem exec_waferQueueMove_empty (h : s.b.hub.wq = []) : exec .waferQueueMove s = .next s := by
  show execWaferQueueMove s = _
  simp only [execWaferQueueMove, onB, h]
  rfl

end Life

open Block in
/-- Settles O37. -/
theorem ticketLife : Obligations.TicketLife := by
  unfold Obligations.TicketLife
  refine ⟨fun f k sc s hready hwin hst hended => ?_, fun f k sc s hready hwin hst hended => ?_, fun f k s hwaiting hcrit hage => ?_,
    fun f k s hst hended hage => ?_, fun f s => ?_, fun e k s he hst hfree => ?_, fun s h => exec_waferQueueMove_empty h⟩
  · have hslot := ticketStart_slot hst hended s.tick sc
    refine ⟨_, next_block (exec_ticketStart_granted hready hwin sc) rfl, inBlock_mk .., ?_, ?_, ?_⟩ <;> rw [hslot]
  · have hslot := ticketEnd_slot hst hended s.tick sc
    refine ⟨_, next_block (exec_ticketEnd_handled hready hwin sc) rfl, inBlock_mk .., ?_, ?_⟩ <;> rw [hslot]
  · exact ⟨_, exec_ticketAged hwaiting hcrit hage, Keeps.withBlock_eq_graft (S := [.slots]) (modSlot_keeps ..), slot_modSlot_same ..,
      fun j hj => slot_modSlot_other _ _ hj⟩
  · refine ⟨_, next_block (exec_startTimeout hst hended hage) rfl, inBlock_mk .., ?_, ?_, ?_, fun j hj => ?_⟩
    · rw [(ticketError_keeps ..).slot (by decide), cancelTicket_slot hst]
    · exact (ticketError_rd (by decide) ..).trans (cancelTicket_count hst s.tick)
    · refine (ticketError_count ..).trans ?_
      rw [cancelTicket_rd hst (by decide)]
    · rw [(ticketError_keeps ..).slot (by decide), cancelTicket_slot_other hst hj]
  · exact ⟨_, exec_waferQueueAnswer f s, Keeps.withBlock_eq_graft (S := [.fields]) (modFu_keeps ..), fu_modFu_same ..,
      fun k hk => fu_modFu_other _ _ hk⟩
  · refine ⟨_, next_block (exec_waferQueueMove he hst hfree) rfl, inBlock_mk .., wqMoved_wq .., ?_, ?_, wqMoved_count ..⟩
    · rw [wqMoved_slot]
      exact place_st ..
    · rw [wqMoved_slot]
      exact place_task ..

end Sys2Proof.Machine
end

section
/-!
SUPPORT. Hangs, builds of the wait-for graph, cap shares and aborted jobs.
-/

namespace Sys2Proof.Machine

open Sys2Proof

namespace Block

/-! ### Builds (R146, R147) -/

theorem startBuild_keeps (b : Block) (now trigger fld : Nat) : b.Keeps [.regs, .hub] (b.startBuild now trigger fld) := by simp

theorem startBuild_bits (b : Block) (now trigger fld : Nat) :
    (b.startBuild now trigger fld).bit HUB_WAITFOR.BUILDING 0 = true ∧ (b.startBuild now trigger fld).bit HUB_WAITFOR.VALID 0 = false := by
  unfold startBuild
  dsimp only
  rw [bit, bit, rd_modHub, rd_modHub]
  constructor
  · rw [rd_wr_apart (by decide), rd_wr_apart (by decide), rd_wr_apart (by decide), rd_inc_apart (by decide), rd_wr_apart (by decide), rd_wr_same]
    rfl
  · rw [rd_wr_apart (by decide), rd_wr_apart (by decide), rd_wr_apart (by decide), rd_inc_apart (by decide), rd_wr_same]
    rfl

theorem startBuild_rd_hang (b : Block) (now trigger fld : Nat) :
    (b.startBuild now trigger fld).rd HUB_WAITFOR.HANG_COUNT 0 = b.rd HUB_WAITFOR.HANG_COUNT 0 ∧
      (b.startBuild now trigger fld).rd HUB_WAITFOR.LAST_HANG_FIELD 0 = b.rd HUB_WAITFOR.LAST_HANG_FIELD 0 := by
  unfold startBuild
  dsimp only
  rw [rd_modHub, rd_modHub]
  constructor
  · rw [rd_wr_apart (by decide), rd_wr_apart (by decide), rd_wr_apart (by decide), rd_inc_apart (by decide), rd_wr_apart (by decide),
      rd_wr_apart (by decide)]
  · rw [rd_wr_apart (by decide), rd_wr_apart (by decide), rd_wr_apart (by decide), rd_inc_apart (by decide), rd_wr_apart (by decide),
      rd_wr_apart (by decide)]

theorem startBuild_staged (b : Block) (now trigger fld : Nat) : HubSame Hub.staged b (b.startBuild now trigger fld) :=
  ⟨fun _ => rfl⟩

/-! ### A hang (R146) -/

/-- The registers of a hang. -/
def hangCounted (b : Block) (now f : Nat) : Block :=
  (((b.modFu f (fun u => { u with hangReported := true })).inc HUB_WAITFOR.HANG_COUNT 0).wr HUB_WAITFOR.LAST_HANG_FIELD 0 f).wr
    HUB_WAITFOR.LAST_HANG_TICK 0 now

/-- A hang is counted, recorded and sent. -/
def hangReport (b : Block) (now f age : Nat) : Block :=
  ((b.hangCounted now f).record 84 now 0 0x14 srcHub 0 f age).monEvent now 0 0x38 srcHub ([f, 0, 0, 0] ++ leBytes 4 age)

/-- A report starts a build where none runs and the last is old enough. -/
def hangSent (b : Block) (now f age : Nat) : Block :=
  if (b.hangReport now f age).bit HUB_WAITFOR.BUILDING 0 ∨ ((b.hangReport now f age).hub.built ∧
      now < (b.hangReport now f age).hub.lastBuild + (b.hangReport now f age).rd HUB_WAITFOR.REBUILD_MIN 0) then b.hangReport now f age
  else (b.hangReport now f age).startBuild now 1 f

theorem hangSent_keeps (b : Block) (now f age : Nat) : (b.hangReport now f age).Keeps [.regs, .hub] (b.hangSent now f age) := by
  unfold hangSent
  split
  · exact .refl ..
  · exact startBuild_keeps ..

theorem hangReport_keeps (b : Block) (now f age : Nat) : b.Keeps [.regs, .fields, .traces, .mon] (b.hangReport now f age) := by
  unfold hangReport hangCounted
  simp

theorem hangCounted_keeps (b : Block) (now f : Nat) :
    (b.modFu f (fun u => { u with hangReported := true })).Keeps [.regs] (b.hangCounted now f) := by
  unfold hangCounted
  simp

theorem hangReport_reported (b : Block) (now f age : Nat) : ((b.hangReport now f age).fu f).hangReported = true := by
  have hsame : FuSame FieldUnit.hangReported (b.hangCounted now f) (b.hangReport now f age) :=
    FuSame.trans ((fuSame_record (fun _ _ => rfl) ..).2 (FuSame.refl _ _)) ((monEvent_keeps ..).fuSame (by decide))
  rw [hsame.same, (hangCounted_keeps ..).fu (by decide)]
  exact congrArg FieldUnit.hangReported (fu_modFu_same ..)

theorem hangReport_regsOff (b : Block) (now f age : Nat) : RegsOff [0x1F, 0x4B, 0x19] (b.hangCounted now f) (b.hangReport now f age) := by
  unfold hangReport
  simp

theorem hangCounted_rd (b : Block) (now : Nat) {f : Nat} (hf : f < 84) :
    (b.hangCounted now f).rd HUB_WAITFOR.HANG_COUNT 0 = (b.rd HUB_WAITFOR.HANG_COUNT 0 + 1) % 2 ^ HUB_WAITFOR.HANG_COUNT.width ∧
      (b.hangCounted now f).rd HUB_WAITFOR.LAST_HANG_FIELD 0 = f := by
  unfold hangCounted
  constructor
  · rw [rd_wr_apart (by decide), rd_wr_apart (by decide), rd_inc_same, rd_modFu]
  · rw [rd_wr_apart (by decide), rd_wr_same]
    exact Nat.mod_eq_of_lt (Nat.lt_trans hf (by decide))

theorem hangSent_rd (b : Block) (now age : Nat) {f : Nat} (hf : f < 84) :
    (b.hangSent now f age).rd HUB_WAITFOR.HANG_COUNT 0 = (b.rd HUB_WAITFOR.HANG_COUNT 0 + 1) % 2 ^ HUB_WAITFOR.HANG_COUNT.width ∧
      (b.hangSent now f age).rd HUB_WAITFOR.LAST_HANG_FIELD 0 = f := by
  have hreport : (b.hangReport now f age).rd HUB_WAITFOR.HANG_COUNT 0 = (b.rd HUB_WAITFOR.HANG_COUNT 0 + 1) % 2 ^ HUB_WAITFOR.HANG_COUNT.width ∧
      (b.hangReport now f age).rd HUB_WAITFOR.LAST_HANG_FIELD 0 = f := by
    rw [(hangReport_regsOff ..).rd (by decide), (hangReport_regsOff ..).rd (by decide)]
    exact hangCounted_rd b now hf
  unfold hangSent
  split
  · exact hreport
  · rwa [(startBuild_rd_hang ..).1, (startBuild_rd_hang ..).2]

/-! ### The end of a build (R147, R148) -/

/-- The edges of the build. -/
def builtEdges (b : Block) (now : Nat) : List Edge := (b.hub.graph.sections.flatMap Prod.snd) ++ b.hubEdges now

def buildKept (b : Block) (now : Nat) : Block :=
  b.modHub (fun h => { h with graph := { h.graph with sections := [], edges := (b.builtEdges now).take 32736 } })

def buildShown (b : Block) (now : Nat) : Block :=
  (((((b.buildKept now).wr HUB_WAITFOR.BUILDING 0 0).wr HUB_WAITFOR.VALID 0 1).wr HUB_WAITFOR.DONE_TICK 0 now).wr HUB_WAITFOR.EDGE_COUNT 0
    ((b.builtEdges now).take 32736).length).wrB HUB_WAITFOR.TRUNCATED 0 (decide (32736 < (b.builtEdges now).length))

/-- What a command that waits for the graph is answered. -/
def graphAnswer (b : Block) (now : Nat) : Wait → Option (Nat × Nat × List Nat)
  | .graph => some (stDone, 0, [(b.buildShown now).rd HUB_WAITFOR.BUILD_ID 0, ((b.builtEdges now).take 32736).length,
      (decide (32736 < (b.builtEdges now).length)).toNat])
  | _ => none

def buildEnded (b : Block) (now : Nat) : Block := (b.buildShown now).completeWhere now (b.graphAnswer now)

theorem buildShown_bits (b : Block) (now : Nat) :
    (b.buildShown now).bit HUB_WAITFOR.BUILDING 0 = false ∧ (b.buildShown now).bit HUB_WAITFOR.VALID 0 = true := by
  unfold buildShown
  rw [bit_wrB_apart (by decide), bit_wrB_apart (by decide), bit, bit]
  constructor
  · rw [rd_wr_apart (by decide), rd_wr_apart (by decide), rd_wr_apart (by decide), rd_wr_same]
    rfl
  · rw [rd_wr_apart (by decide), rd_wr_apart (by decide), rd_wr_same]
    rfl

theorem buildEnded_bits (b : Block) (now : Nat) :
    (b.buildEnded now).bit HUB_WAITFOR.BUILDING 0 = false ∧ (b.buildEnded now).bit HUB_WAITFOR.VALID 0 = true := by
  have hoff : RegsOff windowPages (b.buildShown now) (b.buildEnded now) :=
    (regsOff_completeWhere (List.Subset.refl _) ..).2 (.refl ..)
  rw [hoff.bit (by decide), hoff.bit (by decide)]
  exact buildShown_bits b now

theorem buildShown_keeps (b : Block) (now : Nat) : (b.buildKept now).Keeps [.regs] (b.buildShown now) := by
  unfold buildShown
  simp

theorem buildEnded_edges (b : Block) (now : Nat) : (b.buildEnded now).hub.graph.edges = (b.builtEdges now).take 32736 := by
  have hsame : HubSame Hub.graph (b.buildKept now) (b.buildEnded now) :=
    ((buildShown_keeps ..).hubSame (by decide)).trans (hubSame_completeWhere (fun _ _ => rfl) (fun _ _ => rfl) ..)
  rw [hsame.eq]
  rfl

theorem buildEnded_keeps (b : Block) (now : Nat) : b.Keeps [.regs, .ports, .hub] (b.buildEnded now) := by
  unfold buildEnded buildShown buildKept
  simp

/-! ### Cap shares (R137) -/

/-- One context's part of an evaluation. -/
def shareStep (b : Block) (period n : Nat) : Block :=
  if (b.proc 84).st = 0 ∧ (b.ctx n).capShare ≠ 0 then b.shareEval period n
  else b.modCtx n (fun c => { c with shareEnergy := (b.acct n).energy })

theorem shareStep_keeps (b : Block) (period n : Nat) : b.Keeps [.ctxs] (b.shareStep period n) := by
  unfold shareStep shareEval
  split <;> simp

theorem shareStep_other {j n : Nat} (h : j ≠ n) (b : Block) (period : Nat) : (b.shareStep period n).ctx j = b.ctx j := by
  unfold shareStep shareEval
  split
  · exact ctx_setCtx_other _ _ h
  · exact ctx_modCtx_other _ _ h

theorem shareStep_energy (b : Block) (period n : Nat) : ((b.shareStep period n).ctx n).shareEnergy = (b.acct n).energy := by
  unfold shareStep shareEval
  split
  · exact congrArg Ctx.shareEnergy (ctx_setCtx_same ..)
  · exact congrArg Ctx.shareEnergy (ctx_modCtx_same ..)

theorem shareStep_evaluated {b : Block} {n : Nat} (hst : (b.proc 84).st = 0) (hshare : (b.ctx n).capShare ≠ 0) (period : Nat) :
    (b.shareStep period n).ctx n = { b.ctx n with
      jobPower := ((b.acct n).energy - (b.ctx n).shareEnergy) * 125 / (4 * period)
      shareEnergy := (b.acct n).energy
      dueHeld := some (if (b.ctx n).capShare * b.capMs * (4 * period) < ((b.acct n).energy - (b.ctx n).shareEnergy) * 125 * 256 then true
        else if 16 * (((b.acct n).energy - (b.ctx n).shareEnergy) * 125 * 256) ≤ 15 * ((b.ctx n).capShare * b.capMs * (4 * period)) then false
        else (b.ctx n).heldNow) } := by
  rw [shareStep, if_pos ⟨hst, hshare⟩, shareEval]
  exact ctx_setCtx_same ..

theorem Keeps.capMs {a b : Block} {S : List Part} (h : a.Keeps S b) (hS : .regs ∉ S) : b.capMs = a.capMs := by
  rw [Block.capMs, Block.capMs, h.rd hS, h.rd hS, h.bit hS]

/-- A fold over a list in which `x` stands once changes what the step of `x` changes, from a block like the first one. -/
theorem each_single {α β : Type} {I : Block → Prop} {p : Block → β} {g : Block → α → Block} {x : α} [DecidableEq α]
    (hI : ∀ b y, I b → I (g b y)) (hg : ∀ b y, y ≠ x → p (g b y) = p b) {l : List α} (hl : l.count x = 1) {b : Block} (hb : I b) :
    ∃ c, I c ∧ p c = p b ∧ p (b.each l g) = p (g c x) := by
  induction l generalizing b with
  | nil => cases hl
  | cons y l ih =>
    obtain rfl | hy := eq_or_ne y x
    · have hnone : y ∉ l := List.count_eq_zero.1 (by rw [List.count_cons_self] at hl; omega)
      exact ⟨b, hb, rfl, each_inv (I := fun c => p c = p (g b y)) (fun z hz c hc => (hg c z fun e => hnone (e ▸ hz)).trans hc) rfl⟩
    · rw [List.count_cons_of_ne hy] at hl
      obtain ⟨c, hc, hp, he⟩ := ih hl (hI b y hb)
      exact ⟨c, hc, hp.trans (hg b y hy), he⟩

def shares (b : Block) : Block := b.each b.openCtxs (fun b' n => b'.shareStep (b.rd HUB_TICKET.SHARE_PERIOD 0) n)

theorem shares_keeps (b : Block) : b.Keeps [.ctxs] b.shares := by
  unfold shares
  exact each_inv (I := b.Keeps [.ctxs]) (fun n _ c hc => hc.trans (shareStep_keeps ..)) (.refl ..)

theorem shares_energy {b : Block} {n : Nat} (hn : n ∈ b.openCtxs) : (b.shares.ctx n).shareEnergy = (b.acct n).energy := by
  refine each_reaches_of (p := fun c => (c.ctx n).shareEnergy) (I := b.Keeps [.ctxs]) (fun y _ c hc => hc.trans (shareStep_keeps ..))
    (fun c hc => ?_) (fun y _ c hc => ?_) hn (.refl ..)
  · rw [shareStep_energy, hc.acct (by decide)]
  · obtain rfl | hy := eq_or_ne n y
    · exact .inl (by rw [shareStep_energy, hc.acct (by decide)])
    · exact .inr (by rw [shareStep_other hy])

theorem shares_evaluated {b : Block} {n : Nat} (hcount : b.openCtxs.count n = 1) (hst : (b.proc 84).st = 0) (hshare : (b.ctx n).capShare ≠ 0) :
    b.shares.ctx n = (b.shareStep (b.rd HUB_TICKET.SHARE_PERIOD 0) n).ctx n := by
  obtain ⟨c, hc, hctx, he⟩ := each_single (I := b.Keeps [.ctxs]) (p := fun c => c.ctx n)
    (g := fun c n => c.shareStep (b.rd HUB_TICKET.SHARE_PERIOD 0) n) (fun c y hc => hc.trans (shareStep_keeps ..))
    (fun c y hy => shareStep_other hy.symm ..) hcount (.refl ..)
  have hctx : c.ctx n = b.ctx n := hctx
  rw [shares, show _ = _ from he, shareStep_evaluated (by rwa [hc.proc (by decide)]) (by rwa [hctx]), shareStep_evaluated hst hshare, hctx,
    hc.acct (by decide), hc.capMs (by decide)]

/-! ### Aborted jobs (R143) -/

/-- What the abort of a ticket leaves of its state. -/
def Slot.abortSeen (t : Slot) : Nat × Bool × Nat := (t.st, t.aborted, t.retireAt)

def abortMarked (b : Block) (now f k : Nat) : Block :=
  (if (b.slot (tid f k)).st = 1 then b.dequeue f k else b).modSlot (tid f k) (fun x => { x with
    st := 4, aborted := true, ended := true, endTick := now, energy := if (b.slot (tid f k)).st = 3 then x.energy else 0
    billAt := if (b.slot (tid f k)).st = 3 then now + 1 else 0, retireAt := now + 2 })

/-- The counts and the record of an aborted ticket. -/
def abortNoted (b : Block) (now f : Nat) (t : Slot) : Block :=
  let c := ((b.inc F_TICKET.ABORTED f).modColl' f (jobOf t.task) Coll.addAborted).resetHang f
  if t.st = 3 then c else c.record f now 0 0x04 (pid f t.first) 1 t.task 0

theorem abortTicket_eq (b : Block) (now f k : Nat) :
    b.abortTicket now f k = (b.abortMarked now f k).abortNoted now f (b.slot (tid f k)) := rfl

theorem abortMarked_keeps (b : Block) (now f k : Nat) :
    (b.abortMarked now f k).Keeps [.regs, .colls, .fields, .traces] (b.abortTicket now f k) := by
  rw [abortTicket_eq]
  unfold abortNoted
  simp

theorem dequeued_slot (b : Block) (f k j : Nat) : (if (b.slot (tid f k)).st = 1 then b.dequeue f k else b).slot j = b.slot j := by
  split
  · exact Keeps.slot (S := [.fields]) (by simp) (by decide) j
  · rfl

theorem abortTicket_slot (b : Block) (now f k : Nat) : Slot.abortSeen ((b.abortTicket now f k).slot (tid f k)) = (4, true, now + 2) := by
  rw [(abortMarked_keeps ..).slot (by decide), abortMarked, slot_modSlot_same]
  rfl

theorem abortTicket_slot_other {f k j : Nat} (h : j ≠ tid f k) (b : Block) (now : Nat) : (b.abortTicket now f k).slot j = b.slot j := by
  rw [(abortMarked_keeps ..).slot (by decide), abortMarked, slot_modSlot_other _ _ h, dequeued_slot]

/-- The tickets of the job that field `f` holds. -/
def jobSlots (b : Block) (n f : Nat) : List (Nat × Slot) :=
  (b.slotsOf f).filter (fun e => jobOf e.2.task == n && decide (1 ≤ e.2.st) && decide (e.2.st ≤ 3) && !e.2.ended)

/-- One field's part of an abort. -/
def abortField (b : Block) (now n f : Nat) : Block :=
  let b := b.each (b.jobSlots n f) (fun b e => b.abortTicket now f e.1)
  b.cond ((b.fu f).outQ.any (dropsOut n)) (fun b => b.modFu f (fun u => { u with outQ := u.outQ.filter (fun o => !dropsOut n o) }))

def abortFields (b : Block) (now n : Nat) : Block := b.each allFields (fun b f => b.abortField now n f)

def abortedJob (b : Block) (now n : Nat) : Block :=
  let b := (b.abortFields now n).modHub (fun h => { h with wq := h.wq.filter (fun e => jobOf e.req.task.toNat != n) })
  let b := b.modCtx n (fun x => { x with abortAt := some (x.abortAt.getD now) })
  b.wr HUB_TICKET.WQ_DEPTH 0 b.hub.wq.length

theorem abortFields_keeps (b : Block) (now n : Nat) : b.Keeps [.regs, .slots, .colls, .fields, .traces] (b.abortFields now n) := by
  unfold abortFields abortField
  simp (maxDischargeDepth := 5)

/-- A slot is as before, or its ticket is aborted. -/
def AbortedOr (now j : Nat) (b c : Block) : Prop := c.slot j = b.slot j ∨ Slot.abortSeen (c.slot j) = (4, true, now + 2)

theorem AbortedOr.ticket {now j : Nat} {b c : Block} (h : AbortedOr now j b c) (f k : Nat) : AbortedOr now j b (c.abortTicket now f k) := by
  obtain rfl | hj := eq_or_ne j (tid f k)
  · exact .inr (abortTicket_slot ..)
  · rwa [AbortedOr, abortTicket_slot_other hj]

theorem abortField_keeps (b : Block) (now n f : Nat) :
    (b.each (b.jobSlots n f) (fun b e => b.abortTicket now f e.1)).Keeps [.fields] (b.abortField now n f) := by
  unfold abortField
  simp

theorem AbortedOr.field {now j : Nat} {b c : Block} (h : AbortedOr now j b c) (n f : Nat) : AbortedOr now j b (c.abortField now n f) := by
  rw [AbortedOr, (abortField_keeps ..).slot (by decide)]
  exact each_inv (I := AbortedOr now j b) (fun e _ d hd => hd.ticket f e.1) h

/-- A ticket of the job that has not ended. -/
def Slot.ofJob (t : Slot) (n : Nat) : Bool := jobOf t.task == n && decide (1 ≤ t.st) && decide (t.st ≤ 3) && !t.ended

theorem mget_of_notMem {α : Type} {d : α} {m : List (Nat × α)} {k : Nat} (h : k ∉ keysOf m) : mget d m k = d := by
  induction m with
  | nil => rfl
  | cons x m ih =>
    obtain ⟨hx, hm⟩ := List.ne_and_not_mem_of_not_mem_cons h
    rw [mget, if_neg (Ne.symm hx), ih hm]

theorem mem_jobSlots {b : Block} {n f k : Nat} (hk : k < 1024) (h : Slot.ofJob (b.slot (tid f k)) n = true) :
    (k, b.slot (tid f k)) ∈ b.jobSlots n f := by
  have hkey : tid f k ∈ keysOf b.slots := by
    by_contra hnot
    have hreset : b.slot (tid f k) = Slot.reset := mget_of_notMem hnot
    rw [hreset] at h
    simp [Slot.ofJob, Slot.reset] at h
  have hin : tid f k ∈ keysIn b.slots (tid f 0) 1024 := by
    refine List.mem_filter.2 ⟨hkey, ?_⟩
    simp [tid, hk]
  refine List.mem_filter.2 ⟨List.mem_map.2 ⟨_, hin, ?_⟩, h⟩
  simp [tid]

theorem abortField_aborts {b c : Block} {now n f k : Nat} (hk : k < 1024) (hjob : Slot.ofJob (b.slot (tid f k)) n = true)
    (h : AbortedOr now (tid f k) b c) : Slot.abortSeen ((c.abortField now n f).slot (tid f k)) = (4, true, now + 2) := by
  rw [(abortField_keeps ..).slot (by decide)]
  obtain h | h := h
  · have hmem := mem_jobSlots (b := c) hk (by rwa [h])
    refine each_reaches (p := fun b => Slot.abortSeen (b.slot (tid f k))) (g := fun b e => b.abortTicket now f e.1) (fun b => abortTicket_slot b now f k) (fun b e => ?_) hmem c
    obtain he | he := eq_or_ne (tid f k) (tid f e.1)
    · exact .inl (he ▸ abortTicket_slot b now f e.1)
    · exact .inr (by rw [abortTicket_slot_other he])
  · refine each_inv (I := fun d => Slot.abortSeen (d.slot (tid f k)) = (4, true, now + 2)) (fun e _ d hd => ?_) h
    obtain he | he := eq_or_ne (tid f k) (tid f e.1)
    · exact he ▸ abortTicket_slot d now f e.1
    · rwa [abortTicket_slot_other he]

theorem abortFields_aborts {b : Block} {n f k : Nat} (hf : f ∈ allFields) (hk : k < 1024) (hjob : Slot.ofJob (b.slot (tid f k)) n = true)
    (now : Nat) : Slot.abortSeen ((b.abortFields now n).slot (tid f k)) = (4, true, now + 2) := by
  refine each_reaches_of (p := fun c => Slot.abortSeen (c.slot (tid f k))) (I := AbortedOr now (tid f k) b)
    (fun y _ c hc => hc.field n y) (fun c hc => abortField_aborts hk hjob hc) (fun y _ c hc => ?_) hf (.inl rfl)
  obtain h | h := (AbortedOr.field (.inl rfl) n y : AbortedOr now (tid f k) c (c.abortField now n y))
  · exact .inr (congrArg Slot.abortSeen h)
  · exact .inl h

/-- What follows the fields' parts of an abort. -/
theorem abortedJob_keeps (b : Block) (now n : Nat) : (b.abortFields now n).Keeps [.regs, .ctxs, .hub] (b.abortedJob now n) := by
  unfold abortedJob
  simp

theorem abortedJob_wq (b : Block) (now n : Nat) :
    (b.abortedJob now n).hub.wq = b.hub.wq.filter (fun e => jobOf e.req.task.toNat != n) := by
  unfold abortedJob
  dsimp only
  rw [(wr_keeps ..).hub (by decide), (modCtx_keeps ..).hub (by decide), modHub_same, (abortFields_keeps ..).hub (by decide)]

theorem abortedJob_ctx_other {n m : Nat} (h : m ≠ n) (b : Block) (now : Nat) : (b.abortedJob now n).ctx m = b.ctx m := by
  unfold abortedJob
  dsimp only
  rw [(wr_keeps ..).ctx (by decide), ctx_modCtx_other _ _ h, (modHub_keeps ..).ctx (by decide), (abortFields_keeps ..).ctx (by decide)]

end Block

section Commands

variable {s : State} {f : FieldNo} {n : CtxNo} {c : Cmd}

theorem exec_ticketHang (hage : s.b.rd HUB_WAITFOR.HANG_TICKS 0 ≤ s.b.rd F_TICKET.HANG_AGE f) (hnew : (s.b.fu f).hangReported = false)
    (hst : (s.b.proc 84).st = 0) :
    exec (.ticketHang f) s = .next { s with b := s.b.hangSent s.tick f (s.b.rd F_TICKET.HANG_AGE f) } := by
  have hnot : ¬(s.b.rd F_TICKET.HANG_AGE f < s.b.rd HUB_WAITFOR.HANG_TICKS 0 ∨ (s.b.fu f).hangReported ∨ (s.b.proc 84).st ≠ 0) := by
    rw [hnew, hst]
    simp
    omega
  show execTicketHang f s = _
  simp only [execTicketHang, onB, if_neg hnot]
  rfl

theorem exec_ticketHang_reported (h : (s.b.fu f).hangReported = true) : exec (.ticketHang f) s = .next s := by
  show execTicketHang f s = _
  simp only [execTicketHang, onB, h]
  simp

theorem exec_waitforBuild (h : Passes 0x48 c s) (hidle : s.b.bit HUB_WAITFOR.BUILDING 0 = false) : exec (.waitforBuild c) s = .next { s with
    b := (((s.b.begun s.tick 0x48 c).startBuild s.tick 0 0).accept s.tick (portNo c.port) []).await (portNo c.port) .graph } := by
  have hbegun : (s.b.begun s.tick 0x48 c).bit HUB_WAITFOR.BUILDING 0 = false := by
    rw [(Block.begun_regsOff ..).bit (by decide), hidle]
  show execWaitforBuild c s = _
  rw [execWaitforBuild, h.runCmdB_eq, hbegun]
  rfl

theorem exec_waitforBuildDone (hbuild : s.b.bit HUB_WAITFOR.BUILDING 0 = true) (hst : (s.b.proc 84).st = 0)
    (hall : 84 ≤ s.b.hub.graph.captures.length ∨ s.b.hub.lastBuild + 8192 ≤ s.tick) :
    exec .waitforBuildDone s = .next { s with b := s.b.buildEnded s.tick } := by
  have hrun : ¬((!s.b.bit HUB_WAITFOR.BUILDING 0 || decide ((s.b.proc 84).st ≠ 0) ||
      !(decide (84 ≤ s.b.hub.graph.captures.length) || decide (s.b.hub.lastBuild + 8192 ≤ s.tick))) = true) := by
    rw [hbuild, hst]
    simp
    omega
  show execWaitforBuildDone s = _
  unfold execWaitforBuildDone onB
  dsimp only
  rw [if_neg hrun]
  rfl

theorem exec_capShareEval_off (h : s.tick % s.b.rd HUB_TICKET.SHARE_PERIOD 0 ≠ 0) : exec .capShareEval s = .next s := by
  show execCapShareEval s = _
  simp only [execCapShareEval, onB, if_pos h]

theorem exec_capShareEval (h : s.tick % s.b.rd HUB_TICKET.SHARE_PERIOD 0 = 0) : exec .capShareEval s = .next { s with b := s.b.shares } := by
  show execCapShareEval s = _
  simp only [execCapShareEval, onB, if_neg (not_not.2 h)]
  rfl

theorem exec_contextAbort (hst : (s.b.ctx n).st = 2) (hfrom : (s.b.ctx n).abortFrom < s.tick) :
    exec (.contextAbort n) s = .next { s with b := s.b.abortedJob s.tick n } := by
  have hrun : ¬((s.b.ctx n).st ≠ 2 ∨ s.tick ≤ (s.b.ctx n).abortFrom) := by omega
  show execContextAbort n s = _
  unfold execContextAbort onB
  dsimp only
  rw [if_neg hrun]
  unfold Block.abortedJob Block.abortFields Block.abortField Block.jobSlots
  dsimp only

theorem exec_contextAbort_off (h : (s.b.ctx n).st ≠ 2) : exec (.contextAbort n) s = .next s := by
  show execContextAbort n s = _
  unfold execContextAbort onB
  dsimp only
  rw [if_pos (.inl h)]

end Commands

open Block in
/-- Settles O38. -/
theorem hangGraphAndShares : Obligations.HangGraphAndShares := by
  unfold Obligations.HangGraphAndShares
  refine ⟨fun f s hage hnew hst => ?_, fun f s h => exec_ticketHang_reported h, fun c s hpass hidle hroom => ?_, fun s hbuild hst hall => ?_,
    fun s h => exec_capShareEval_off h, fun s h => ?_, fun n s hst hfrom => ?_, fun n s h => exec_contextAbort_off h⟩
  · obtain ⟨hcount, hfield⟩ := hangSent_rd s.b s.tick (s.b.rd F_TICKET.HANG_AGE f) f.isLt
    refine ⟨_, next_block (exec_ticketHang hage hnew hst) rfl, inBlock_mk .., ?_, ?_, hcount, hfield⟩
    · exact Eq.trans ((hangSent_keeps ..).same .slots (by decide)) ((hangReport_keeps ..).same .slots (by decide))
    · rw [(hangSent_keeps ..).fu (by decide), hangReport_reported]
  · have htaken : Taken 0x48 c s.tick ((s.b.begun s.tick 0x48 c).startBuild s.tick 0 0) :=
      (begun_taken 0x48 c s.tick hroom).of_hubSame (startBuild_keeps ..) (by decide) (startBuild_staged ..)
    have hbits := startBuild_bits (s.b.begun s.tick 0x48 c) s.tick 0 0
    have hoff : RegsOff windowPages ((s.b.begun s.tick 0x48 c).startBuild s.tick 0 0)
        ((((s.b.begun s.tick 0x48 c).startBuild s.tick 0 0).accept s.tick (portNo c.port) []).await (portNo c.port) .graph) :=
      (regsOff_await ..).2 ((regsOff_accept (List.Subset.refl _) s.tick (by cases c.port <;> decide) []).2 (.refl ..))
    refine ⟨_, next_block (exec_waitforBuild hpass hidle) rfl, inBlock_mk .., htaken.waits _ s, ?_, ?_, ?_⟩
    · rw [hoff.bit (by decide), hbits.1]
    · rw [hoff.bit (by decide), hbits.2]
    · rw [(await_keeps ..).hub (by decide)]
      exact (hubSame_answer (g := Hub.lastBuild) (fun _ _ => rfl) (fun _ _ => rfl) ..).eq
  · obtain ⟨hbuilding, hvalid⟩ := buildEnded_bits s.b s.tick
    refine ⟨_, next_block (exec_waitforBuildDone hbuild hst hall) rfl, inBlock_mk .., hbuilding, hvalid, ?_,
      (buildEnded_keeps ..).same .slots (by decide)⟩
    rw [buildEnded_edges]
    exact List.length_take_le ..
  · refine ⟨_, exec_capShareEval h, Keeps.withBlock_eq_graft (shares_keeps ..), fun n hn => shares_energy hn,
      fun n draw share hst hopen hshare hcount hdraw hfig => ?_⟩
    have hctx := (shares_evaluated hcount hst hshare).trans (shareStep_evaluated hst hshare _)
    rw [hctx, ← hdraw, ← hfig]
    refine ⟨rfl, fun hover => ?_, fun hunder hfreed => ?_⟩
    · rw [if_pos hover]
    · rw [if_neg (by omega), if_pos hfreed]
  · refine ⟨_, next_block (exec_contextAbort hst hfrom) rfl, inBlock_mk .., ?_, abortedJob_wq .., fun m hm => abortedJob_ctx_other hm ..,
      fun f k hjob hmin hmax hended => ?_⟩
    · dsimp only
      exact Eq.trans ((abortedJob_keeps s.b s.tick n).same .accounts (by decide)) ((abortFields_keeps s.b s.tick n).same .accounts (by decide))
    · have hlive : Slot.ofJob (s.b.slot (tid f k)) n = true := by simp [Slot.ofJob, hjob, hmin, hmax, hended]
      have hseen := abortFields_aborts (fieldNo_mem_allFields f) k.isLt hlive s.tick
      rw [← (abortedJob_keeps ..).slot (by decide)] at hseen
      simpa only [Slot.abortSeen, Prod.mk.injEq] using hseen

end Sys2Proof.Machine
end

section
/-!
SUPPORT. The commands of the accounts.
-/

namespace Sys2Proof.Machine

open Sys2Proof

/-- The arguments of ACCOUNT_OPEN (R228): the context, its group, its share and its boost. -/
def openArgs (c : Cmd) : Nat × Nat × Nat := (c.arg 0 / 256 % 256, c.arg 0 / 2 ^ 16 % 256, c.arg 0 / 2 ^ 24 % 8)

/-- The context that ACCOUNT_OPEN names, with what it will open with. -/
def Block.openAsked (b : Block) (c : Cmd) : Block :=
  b.setCtx (c.arg 0 % 256) { b.ctx (c.arg 0 % 256) with opening := openArgs c, due := some 1 }

section Commands

variable {c : Cmd} {s : State}

theorem exec_accountOpen (h : Passes 0x20 c s) (hgroup : c.arg 0 / 256 % 256 = 0 ∨ c.arg 0 / 256 % 256 = s.b.rd HUB_LOCK.GROUP 0)
    (hopen : (s.b.acct (c.arg 0 % 256)).st ≠ 1) (hclosing : (s.b.acct (c.arg 0 % 256)).st ≠ 2) (hst : (s.b.ctx (c.arg 0 % 256)).st = 0)
    (hdue : (s.b.ctx (c.arg 0 % 256)).due = none) : exec (.accountOpen c) s = .next { s with
      b := ((s.b.begun s.tick 0x20 c).openAsked c).await (portNo c.port) (.opening (c.arg 0 % 256)) } := by
  have hgroup' : ¬(c.arg 0 / 256 % 256 ≠ 0 ∧ c.arg 0 / 256 % 256 ≠ (s.b.begun s.tick 0x20 c).rd HUB_LOCK.GROUP 0) := by
    rw [(Block.begun_regsOff ..).rd (by decide)]
    omega
  have hfree : ¬(((s.b.begun s.tick 0x20 c).acct (c.arg 0 % 256)).st = 1 ∨ ((s.b.begun s.tick 0x20 c).acct (c.arg 0 % 256)).st = 2 ∨
      ((s.b.begun s.tick 0x20 c).ctx (c.arg 0 % 256)).st ≠ 0 ∨ ((s.b.begun s.tick 0x20 c).ctx (c.arg 0 % 256)).due.isSome) := by
    rw [(Block.begun_keeps ..).acct (by decide), (Block.begun_keeps ..).ctx (by decide), hst, hdue]
    simp [hopen, hclosing]
  show execAccountOpen c s = _
  rw [execAccountOpen, h.runCmdB_eq]
  dsimp only
  rw [if_neg hgroup', if_neg hfree]
  rfl

theorem exec_accountClose (h : Passes 0x21 c s) (hopen : (s.b.acct (c.arg 0)).st = 1) : exec (.accountClose c) s = .next { s with
    b := ((s.b.begun s.tick 0x21 c).closeAccount (c.arg 0) (if (s.b.begun s.tick 0x21 c).jobTickets (c.arg 0) then 1 else 0)).await
      (portNo c.port) (.account (c.arg 0)) } := by
  have hopen' : ¬((s.b.begun s.tick 0x21 c).acct (c.arg 0)).st ≠ 1 := by rw [(Block.begun_keeps ..).acct (by decide)]; exact not_not.2 hopen
  show execAccountClose c s = _
  rw [execAccountClose, h.runCmdB_eq]
  dsimp only
  rw [if_neg hopen']

theorem exec_accountRead (h : Passes 0x22 c s) (hbuf : c.bufLen 1 = 0) : exec (.accountRead c) s = .next { s with
    b := (s.b.begun s.tick 0x22 c).done s.tick (portNo c.port) ([(s.b.acct (c.arg 0)).status] ++ (s.b.acct (c.arg 0)).energyWords ++
      [(s.b.acct (c.arg 0)).energyFrac, (s.b.acct (c.arg 0)).updateSeq]) } := by
  show execAccountRead c s = _
  rw [execAccountRead, h.runCmd_eq]
  dsimp only
  rw [if_pos hbuf, (Block.begun_keeps ..).acct (by decide)]

theorem exec_jobRestartNote_bad (h : Passes 0x28 c s) (hopen : (s.b.acct (c.arg 0 % 256)).st ≠ 1) : exec (.jobRestartNote c) s = .next { s with
    b := (s.b.begun s.tick 0x28 c).stop s.tick (portNo c.port) stBadArg (badArgDetail 1 0) } := by
  have hopen' : ((s.b.begun s.tick 0x28 c).acct (c.arg 0 % 256)).st ≠ 1 := by rwa [(Block.begun_keeps ..).acct (by decide)]
  show execJobRestartNote c s = _
  rw [execJobRestartNote, h.runCmdB_eq]
  dsimp only
  rw [if_pos (.inl hopen')]

end Commands

namespace Block

theorem openAsked_keeps (b : Block) (c : Cmd) : b.Keeps [.ctxs] (b.openAsked c) := by
  unfold openAsked
  simp

theorem closeAccount_keeps (b : Block) (n cause : Nat) : b.Keeps [.accounts, .ctxs] (b.closeAccount n cause) := by simp

theorem closeAccount_st (b : Block) (n cause : Nat) : ((b.closeAccount n cause).acct n).st = 2 := by
  rw [closeAccount, (modCtx_keeps ..).acct (by decide), changeAcct, acct_modAcct_same]

theorem closeAccount_acct_other {n j : Nat} (h : j ≠ n) (b : Block) (cause : Nat) : (b.closeAccount n cause).acct j = b.acct j := by
  rw [closeAccount, (modCtx_keeps ..).acct (by decide), changeAcct, acct_modAcct_other _ _ h]

theorem closeAccount_due (b : Block) (n cause : Nat) : ((b.closeAccount n cause).ctx n).due.isSome = true := by
  rw [closeAccount, ctx_modCtx_same]
  rfl

end Block

open Block in
/-- Settles O39. -/
theorem accountCommands : Obligations.AccountCommands := by
  unfold Obligations.AccountCommands
  refine ⟨fun c s hpass hgroup hopen hclosing hst hdue => ?_, fun c s hpass hopen => ?_, fun c s hpass hbuf hroom => ?_,
    fun c s hpass hopen hroom => ?_⟩
  · have hctx : ((((s.b.begun s.tick 0x20 c).openAsked c).await (portNo c.port) (.opening (c.arg 0 % 256))).ctx (c.arg 0 % 256)) =
        { s.b.ctx (c.arg 0 % 256) with opening := openArgs c, due := some 1 } := by
      rw [(await_keeps ..).ctx (by decide), openAsked, ctx_setCtx_same, (begun_keeps ..).ctx (by decide)]
    refine ⟨_, next_block (exec_accountOpen hpass hgroup hopen hclosing hst hdue) rfl, inBlock_mk .., ?_, ?_, ?_, fun n hn => ?_⟩
    · refine waits_of_flight ?_ (fl := { flightOf s.tick 0x20 c with begun := true }) rfl _ s
      rw [(openAsked_keeps ..).port (by decide), begun_flight]
    · exact congrArg Ctx.due hctx
    · exact congrArg Ctx.opening hctx
    · rw [(await_keeps ..).ctx (by decide), openAsked, ctx_setCtx_other _ _ hn, (begun_keeps ..).ctx (by decide)]
  · refine ⟨_, next_block (exec_accountClose hpass hopen) rfl, inBlock_mk .., ?_, ?_, ?_, fun n hn => ?_⟩
    · refine waits_of_flight ?_ (fl := { flightOf s.tick 0x21 c with begun := true }) rfl _ s
      rw [(closeAccount_keeps ..).port (by decide), begun_flight]
    · rw [(await_keeps ..).acct (by decide), closeAccount_st]
    · rw [(await_keeps ..).ctx (by decide), closeAccount_due]
    · rw [(await_keeps ..).acct (by decide), closeAccount_acct_other hn, (begun_keeps ..).acct (by decide)]
  · have htaken := begun_taken 0x22 c s.tick hroom
    refine ⟨_, next_block (exec_accountRead hpass hbuf) rfl, inBlock_mk .., htaken.answered (by decide) (by decide) (by decide) s, ?_, ?_⟩
    · exact htaken.answer_rspData (by decide) s.tick 0 _ (k := 0) (by decide)
    · exact Eq.trans ((answer_keeps ..).same .accounts (by decide)) ((begun_keeps ..).same .accounts (by decide))
  · have htaken := begun_taken 0x28 c s.tick hroom
    refine ⟨_, next_block (exec_jobRestartNote_bad hpass hopen) rfl, inBlock_mk .., htaken.answered (by decide) (by decide) (by decide) s, ?_⟩
    exact Eq.trans ((answer_keeps ..).same .accounts (by decide)) ((begun_keeps ..).same .accounts (by decide))

end Sys2Proof.Machine
end

section
/-!
SUPPORT. Drain passes and frames, and accounts that become final.
-/

namespace Sys2Proof.Machine

open Sys2Proof

namespace Block

/-! ### Drain passes (R231) -/

/-- A field sends one of its collection records and clears it. -/
def drainRec (b : Block) (f now k : Nat) : Block :=
  (b.setColl k Coll.reset).modFu f (fun u => { u with
    drainSeq := u.drainSeq + 1
    drainKept := u.drainKept ++ [{ seqNo := u.drainSeq + 1, ctx := k - collNo f 0, cells := b.coll k, sentAt := now, inFlight := true }] })

def drained (b : Block) (f now : Nat) : Block :=
  let b := b.modFu f (fun u => { u with drainStart := now })
  b.each (keysIn b.colls (collNo f 0) 256) (fun b k => b.drainRec f now k)

theorem drained_keeps (b : Block) (f now : Nat) : b.Keeps [.colls, .fields] (b.drained f now) := by
  unfold drained drainRec
  simp

theorem drained_fu_other {f k : Nat} (h : k ≠ f) (b : Block) (now : Nat) : (b.drained f now).fu k = b.fu k := by
  unfold drained
  refine each_inv (I := fun c => c.fu k = b.fu k) (fun j _ c hc => ?_) (fu_modFu_other _ _ h)
  rw [drainRec, fu_modFu_other _ _ h]
  exact hc

theorem drained_start (b : Block) (f now : Nat) : ((b.drained f now).fu f).drainStart = now := by
  unfold drained
  refine each_inv (I := fun c => (c.fu f).drainStart = now) (fun k _ c hc => ?_) (congrArg FieldUnit.drainStart (fu_modFu_same ..))
  rw [drainRec, fu_modFu_same]
  exact hc

theorem drainRec_coll (b : Block) (f now k j : Nat) : (b.drainRec f now k).coll j = if j = k then Coll.reset else b.coll j := by
  rw [drainRec, (modFu_keeps ..).coll (by decide)]
  split
  · next h => rw [h, coll_setColl_same]
  · next h => exact coll_setColl_other _ _ h

theorem drained_coll (b : Block) (f now : Nat) {n : Nat} (hn : n < 256) : (b.drained f now).coll (collNo f n) = Coll.reset := by
  have hstep (c : Block) (k : Nat) : (c.drainRec f now k).coll (collNo f n) = Coll.reset ∨
      (c.drainRec f now k).coll (collNo f n) = c.coll (collNo f n) := by
    rw [drainRec_coll]
    split
    · exact .inl rfl
    · exact .inr rfl
  by_cases hkey : collNo f n ∈ keysOf b.colls
  · have hmem : collNo f n ∈ keysIn b.colls (collNo f 0) 256 := List.mem_filter.2 ⟨hkey, by simp [collNo, hn]⟩
    exact each_reaches (p := fun c => c.coll (collNo f n)) (g := fun c k => c.drainRec f now k)
      (fun c => by rw [drainRec_coll, if_pos rfl]) hstep hmem _
  · have hreset : b.coll (collNo f n) = Coll.reset := mget_of_notMem hkey
    exact each_inv (I := fun c => c.coll (collNo f n) = Coll.reset) (g := fun c k => c.drainRec f now k)
      (fun k _ c hc => (hstep c k).elim id fun h => h.trans hc) hreset

/-! ### Drain frames (R231, R232) -/

def drainTaken (b : Block) (f : Nat) (d : DrainFrame) : Block :=
  b.modFu f (fun u => { u with drainKept := u.drainKept.map (fun x => if x.seqNo = d.seqNo then { x with inFlight := false } else x) })

/-- The frame `d` adds to its account. -/
def drainBilled (b : Block) (now f : Nat) (d : DrainFrame) (frac : Nat) : Block :=
  (((b.drainTaken f d).modFu f (fun u => { u with drainApplied := d.seqNo })).changeAcct d.ctx (fun a => a.addCells now d.cells)).add2
    HUB_COUNTERS.BILLED_MJ_LO HUB_COUNTERS.BILLED_MJ_HI 0 (frac / 15625)

theorem drainBilled_acct (b : Block) (now f : Nat) (d : DrainFrame) (frac : Nat) : (b.drainBilled now f d frac).acct d.ctx =
    { (b.acct d.ctx).addCells now d.cells with updateSeq := ((b.acct d.ctx).updateSeq + 1) % 2 ^ 32 } := by
  have hkeeps (c : Block) (n : Nat) : c.Keeps [.regs] (c.add2 HUB_COUNTERS.BILLED_MJ_LO HUB_COUNTERS.BILLED_MJ_HI 0 n) := by simp
  rw [drainBilled, (hkeeps ..).acct (by decide), changeAcct, acct_modAcct_same, (modFu_keeps ..).acct (by decide), drainTaken,
    (modFu_keeps ..).acct (by decide)]
  rfl

theorem drainBilled_acct_other (b : Block) (now f : Nat) (d : DrainFrame) (frac : Nat) {n : Nat} (hn : n ≠ d.ctx) :
    (b.drainBilled now f d frac).acct n = b.acct n := by
  have hkeeps (c : Block) (n : Nat) : c.Keeps [.regs] (c.add2 HUB_COUNTERS.BILLED_MJ_LO HUB_COUNTERS.BILLED_MJ_HI 0 n) := by simp
  rw [drainBilled, (hkeeps ..).acct (by decide), changeAcct, acct_modAcct_other _ _ hn, (modFu_keeps ..).acct (by decide), drainTaken,
    (modFu_keeps ..).acct (by decide)]

theorem drainBilled_applied (b : Block) (now f : Nat) (d : DrainFrame) (frac : Nat) :
    ((b.drainBilled now f d frac).fu f).drainApplied = d.seqNo := by
  have hkeeps : ((b.drainTaken f d).modFu f (fun u => { u with drainApplied := d.seqNo })).Keeps [.regs, .accounts]
      (b.drainBilled now f d frac) := by
    unfold drainBilled
    simp
  rw [hkeeps.fu (by decide)]
  exact congrArg FieldUnit.drainApplied (fu_modFu_same ..)

/-! ### Final accounts (R233) -/

/-- The account ends, before the command that waits for it is answered. -/
def acctClosed (b : Block) (now n : Nat) (ab : Bool) : Block :=
  (b.changeAcct n (fun a => { a with closeTick := now, st := if ab then 4 else 3 })).cond ab (fun b => b.inc HUB_ACCOUNT.ABORT_COUNT 0)

def acctEnded (b : Block) (now n : Nat) (ab : Bool) : Block :=
  (b.acctClosed now n ab).completeWhere now (fun w => if w = .account n then
    some (stDone, 0, ((b.acctClosed now n ab).acct n).status :: ((b.acctClosed now n ab).acct n).energyWords) else none)

theorem acctEnded_keeps (b : Block) (now n : Nat) (ab : Bool) :
    (b.changeAcct n (fun a => { a with closeTick := now, st := if ab then 4 else 3 })).Keeps [.regs, .ports, .hub] (b.acctEnded now n ab) := by
  unfold acctEnded acctClosed
  simp

end Block

section Commands

variable {f : FieldNo} {n : CtxNo} {s : State} {d : DrainFrame}

theorem exec_drainPass (f : FieldNo) (h : s.tick % 64 = 0) : exec (.drainPass f) s = .next { s with b := s.b.drained f s.tick } := by
  show execDrainPass f s = _
  simp only [execDrainPass, onB, if_neg (not_not.2 h)]
  rfl

theorem exec_drainPass_off (f : FieldNo) (h : s.tick % 64 ≠ 0) : exec (.drainPass f) s = .next s := by
  show execDrainPass f s = _
  simp only [execDrainPass, onB, if_pos h]

theorem exec_drainFrame_billed (hd : (s.b.fu f).drainKept.find? (fun d => d.inFlight) = some d) (hnew : (s.b.fu f).drainApplied < d.seqNo)
    (hst : (s.b.acct d.ctx).st = 1) : exec (.drainFrame f) s = .next { s with
      b := s.b.drainBilled s.tick f d ((s.b.acct d.ctx).energyFrac + d.cells.energy) } := by
  have hopen : (s.b.acct d.ctx).st = 1 ∨ (s.b.acct d.ctx).st = 2 := .inl hst
  show execDrainFrame f s = _
  simp only [execDrainFrame, onB, hd, if_neg (Nat.not_le.2 hnew)]
  exact congrArg (fun b => Host.Outcome.next { s with b := b }) (if_pos hopen)

theorem exec_drainFrame_old (hd : (s.b.fu f).drainKept.find? (fun d => d.inFlight) = some d) (hold : d.seqNo ≤ (s.b.fu f).drainApplied) :
    exec (.drainFrame f) s = .next { s with b := s.b.drainTaken f d } := by
  show execDrainFrame f s = _
  simp only [execDrainFrame, onB, hd, if_pos hold]
  rfl

theorem exec_drainResend (hlate : ((s.b.fu f).drainKept.filter (fun d => decide (d.sentAt + 34 ≤ s.tick))).isEmpty = false) :
    exec (.drainResend f) s = .next { s with
      b := (s.b.add HUB_ACCOUNT.DRAIN_RESEND 0 ((s.b.fu f).drainKept.filter (fun d => decide (d.sentAt + 34 ≤ s.tick))).length).modFu f
        (fun u => { u with drainKept := u.drainKept.map (fun d => if d.sentAt + 34 ≤ s.tick then { d with inFlight := true } else d) }) } := by
  show execDrainResend f s = _
  simp only [execDrainResend, onB, hlate, Bool.false_eq_true, if_false]

theorem exec_accountFinal (hst : (s.b.acct n).st = 2) (hctx : (s.b.ctx n).st = 0) (hdue : (s.b.ctx n).due = none)
    (hdone : s.b.passesDone n = true) :
    exec (.accountFinal n) s = .next { s with b := s.b.acctEnded s.tick n ((s.b.acct n).abortCause != 0) } := by
  have hrun : ¬((s.b.acct n).st ≠ 2 ∨ (s.b.ctx n).st ≠ 0 ∨ (s.b.ctx n).due.isSome ∨ !s.b.passesDone n) := by
    rw [hst, hctx, hdue, hdone]
    decide
  show execAccountFinal n s = _
  unfold execAccountFinal onB
  dsimp only
  rw [if_neg hrun]
  rfl

end Commands

open Block in
/-- Settles O41. -/
theorem draining : Obligations.Draining := by
  unfold Obligations.Draining
  refine ⟨fun f s h => ?_, fun f s h => exec_drainPass_off f h, fun f d s hd hnew hst => ?_, fun f d s hd hold => ?_, fun f s hlate => ?_,
    fun n s hst hctx hdue hdone => ?_⟩
  · exact ⟨_, exec_drainPass f h, Keeps.withBlock_eq_graft (drained_keeps ..), drained_start .., fun k hk => drained_fu_other hk ..,
      fun n => drained_coll s.b f s.tick n.isLt⟩
  · exact ⟨_, next_block (exec_drainFrame_billed hd hnew hst) rfl, inBlock_mk .., drainBilled_applied .., drainBilled_acct ..,
      fun n hn => drainBilled_acct_other _ _ _ _ _ hn⟩
  · exact ⟨_, exec_drainFrame_old hd hold, Keeps.withBlock_eq_graft (S := [.fields]) (modFu_keeps ..)⟩
  · refine ⟨_, exec_drainResend hlate, Keeps.withBlock_eq_graft (S := [.regs, .fields]) (by simp), ?_, ?_⟩
    · simp [regsBut_add]
    · exact congrArg FieldUnit.drainKept (fu_modFu_same ..)
  · have hacct : (s.b.acctEnded s.tick n ((s.b.acct n).abortCause != 0)).acct n = { s.b.acct n with
        closeTick := s.tick, st := if (s.b.acct n).abortCause != 0 then 4 else 3, updateSeq := lowBits 32 ((s.b.acct n).updateSeq + 1) } := by
      rw [(acctEnded_keeps ..).acct (by decide), changeAcct, acct_modAcct_same]
    refine ⟨_, next_block (exec_accountFinal hst hctx hdue hdone) rfl, inBlock_mk .., (acctEnded_keeps ..).same .ctxs (by decide), ?_, ?_, ?_,
      fun k hk => ?_⟩
    · rw [hacct]
      by_cases hcause : (s.b.acct n).abortCause = 0 <;> simp [hcause]
    · rw [hacct]
    · rw [hacct]
    · rw [(acctEnded_keeps ..).acct (by decide), changeAcct, acct_modAcct_other _ _ hk]

end Sys2Proof.Machine
end

section
/-!
SUPPORT. Declarations of broken sensors, remaps and validated spares.
-/

namespace Sys2Proof.Machine

open Sys2Proof

namespace Block

/-! ### Declarations (R155) -/

/-- A declaration is counted and sent. -/
def brokenSent (b : Block) (f detail : Nat) : Block := (b.inc F_THERM.BROKEN_EVENTS f).fault 8 f detail 0

theorem brokenSent_keeps (b : Block) (f detail : Nat) : b.Keeps [.regs, .fields, .faults] (b.brokenSent f detail) := by
  unfold brokenSent
  simp

theorem brokenSent_faults (b : Block) (f : Nat) {detail : Nat} (h : detail < 2 ^ 16) :
    (b.brokenSent f detail).faults = b.faults ++ [{ src := 8, field := f, detail := detail, off := 0 }] := by
  rw [brokenSent, faults_fault, (inc_keeps ..).faults (by decide), lowBits, Nat.mod_eq_of_lt h]

/-- A parcel's sensor is declared: its validation ends and r_p is saved (R155, R163). -/
def parcelDeclared (b : Block) (now f p : Nat) : Block :=
  ((b.modSensor (senParcel f p) (fun r => r.declare now)).modSensor (senParcel f p) (fun r => { r with
    validating := false, passCount := 0 })).modParcel (pid f p) Parcel.saveRed

theorem parcelDeclared_sensor (b : Block) (now f p : Nat) : (b.parcelDeclared now f p).sensor (senParcel f p) =
    { (b.sensor (senParcel f p)).declare now with validating := false, passCount := 0 } := by
  rw [parcelDeclared, (modParcel_keeps ..).sensor (by decide), sensor_modSensor_same, sensor_modSensor_same]

theorem parcelDeclared_sensor_other {f p k : Nat} (h : k ≠ senParcel f p) (b : Block) (now : Nat) :
    (b.parcelDeclared now f p).sensor k = b.sensor k := by
  rw [parcelDeclared, (modParcel_keeps ..).sensor (by decide), sensor_modSensor_other _ _ h, sensor_modSensor_other _ _ h]

/-- A spare is declared: its group's remaps are undone, and r_p of the slots that read it is saved (R155, R157). -/
def spareDeclared (b : Block) (now f i : Nat) : Block :=
  ((b.modSensor (senSpare f i) (fun r => r.declare now)).undoRemap now f i).each ((List.range 4).map (fun j => 4 * i + j)) (fun b x =>
    b.cond (b.cadE (pid f x)).useSpare (fun b => b.modParcel (pid f x) Parcel.saveRed))

/-- The cadastre entry of a slot whose remap is undone; the entry of slot 4g marks the spare broken. -/
def Cad.undone (c : Cad) (j : Nat) (validating : Bool) : Cad :=
  { c with spareBroken := c.spareBroken || j == 0, useSpare := c.useSpare && !validating }

def undoCad (b : Block) (now f g j : Nat) : Block :=
  b.putCad now f (4 * g + j) (fun c => Cad.undone c j (b.sensor (senParcel f (4 * g + j))).validating)

/-- One slot's part of an undone remap. -/
def undoSlot (b : Block) (now f g j : Nat) : Block :=
  (b.undoCad now f g j).cond ((b.cadE (pid f (4 * g + j))).useSpare && (b.sensor (senParcel f (4 * g + j))).validating)
    (fun b => b.modSensor (senParcel f (4 * g + j)) (fun r => { r with validating := false, passCount := 0 }))

theorem undoRemap_eq (b : Block) (now f g : Nat) : b.undoRemap now f g = b.each (List.range 4) (fun b j => b.undoSlot now f g j) := rfl

theorem undoCad_keeps (b : Block) (now f g j : Nat) : b.Keeps [.cad, .nv, .mon] (b.undoCad now f g j) := by
  unfold undoCad
  simp

theorem undoSlot_keeps (b : Block) (now f g j : Nat) : (b.undoCad now f g j).Keeps [.sensors] (b.undoSlot now f g j) := by
  unfold undoSlot
  simp

theorem undoSlot_broken (b : Block) (now f g j : Nat) : TabSame sensor Sensor.broken b (b.undoSlot now f g j) := by
  refine .cond (.of_eq fun k => (undoCad_keeps ..).sensor (by decide) k) fun c => .modSensor (.refl c) fun _ => ?_
  rfl

theorem putCad_cadE (b : Block) (now f s : Nat) (g : Cad → Cad) : (b.putCad now f s g).cadE (pid f s) = g (b.cadE (pid f s)) ∨
    (b.putCad now f s g).cadE (pid f s) = { g (b.cadE (pid f s)) with dirty := true, updateTick := lowBits 32 now } := by
  have hrest (c : Block) (v : Cad) : c.Keeps [.nv, .mon] ((c.modNv (fun n => { n with cad := mput Cad.reset n.cad (pid f s) v })).saveStore now true) := by simp
  unfold putCad
  dsimp only
  split
  · next h => exact .inl h.symm
  · exact .inr (((hrest ..).cadE (by decide) _).trans (cadE_setCadE_same ..))

theorem putCad_cadE_other {f s k : Nat} (h : k ≠ pid f s) (b : Block) (now : Nat) (g : Cad → Cad) : (b.putCad now f s g).cadE k = b.cadE k := by
  have hrest (c : Block) (v : Cad) : c.Keeps [.nv, .mon] ((c.modNv (fun n => { n with cad := mput Cad.reset n.cad (pid f s) v })).saveStore now true) := by simp
  unfold putCad
  dsimp only
  split
  · rfl
  · exact ((hrest ..).cadE (by decide) _).trans (cadE_setCadE_other _ _ h)

theorem undoRemap_marks (b : Block) (now f g : Nat) : ((b.undoRemap now f g).cadE (pid f (4 * g))).spareBroken = true := by
  rw [undoRemap_eq]
  refine each_reaches (x := 0) (p := fun c => (c.cadE (pid f (4 * g))).spareBroken) (g := fun c j => c.undoSlot now f g j) (fun c => ?_)
    (fun c j => ?_) (by decide) b
  · have hbroken (v : Bool) : (Cad.undone (c.cadE (pid f (4 * g + 0))) 0 v).spareBroken = true := Bool.or_true _
    have hkeeps := (undoSlot_keeps c now f g 0).cadE (by decide) (pid f (4 * g + 0))
    obtain h | h := putCad_cadE c now f (4 * g + 0) (fun x => Cad.undone x 0 (c.sensor (senParcel f (4 * g + 0))).validating)
    · exact (congrArg Cad.spareBroken (hkeeps.trans h)).trans (hbroken (c.sensor (senParcel f (4 * g + 0))).validating)
    · exact (congrArg Cad.spareBroken (hkeeps.trans h)).trans (hbroken (c.sensor (senParcel f (4 * g + 0))).validating)
  · rw [(undoSlot_keeps ..).cadE (by decide)]
    obtain rfl | hj := eq_or_ne j 0
    · have hbroken (v : Bool) : (Cad.undone (c.cadE (pid f (4 * g + 0))) 0 v).spareBroken = true := Bool.or_true _
      obtain h | h := putCad_cadE c now f (4 * g + 0) (fun x => Cad.undone x 0 (c.sensor (senParcel f (4 * g + 0))).validating)
      · exact .inl ((congrArg Cad.spareBroken h).trans (hbroken (c.sensor (senParcel f (4 * g + 0))).validating))
      · exact .inl ((congrArg Cad.spareBroken h).trans (hbroken (c.sensor (senParcel f (4 * g + 0))).validating))
    · have hne : pid f (4 * g) ≠ pid f (4 * g + j) := by unfold pid; omega
      exact .inr (by rw [undoCad, putCad_cadE_other hne])

theorem spareDeclared_keeps (b : Block) (now f i : Nat) :
    ((b.modSensor (senSpare f i) (fun r => r.declare now)).undoRemap now f i).Keeps [.parcels] (b.spareDeclared now f i) := by
  unfold spareDeclared
  simp (maxDischargeDepth := 5)

theorem spareDeclared_broken (b : Block) (now f i : Nat) : ((b.spareDeclared now f i).sensor (senSpare f i)).broken = true := by
  have hundo : TabSame sensor Sensor.broken (b.modSensor (senSpare f i) (fun r => r.declare now))
      ((b.modSensor (senSpare f i) (fun r => r.declare now)).undoRemap now f i) := by
    rw [undoRemap_eq]
    exact .each (.refl _) fun c j => undoSlot_broken c now f i j
  rw [(spareDeclared_keeps ..).sensor (by decide), hundo.same]
  exact congrArg Sensor.broken (sensor_modSensor_same ..)

theorem spareDeclared_marks (b : Block) (now f i : Nat) : ((b.spareDeclared now f i).cadE (pid f (4 * i))).spareBroken = true := by
  rw [(spareDeclared_keeps ..).cadE (by decide)]
  exact undoRemap_marks ..

/-! ### Validated spares (R156) -/

/-- The newest reading of a slot is in use. -/
def readingUsed (b : Block) (f p : Nat) : Block :=
  b.modSensor (senParcel f p) (fun r => { r with
    validating := false, passCount := 0, temp := r.newTemp, held := r.newTemp, valid := true, broken := r.broken && !(b.cadE (pid f p)).useSpare })

def validated (b : Block) (f p : Nat) : Block := (b.readingUsed f p).cond (b.substituted f p) (fun b => b.liftSubstitute f p)

theorem validated_keeps (b : Block) (f p : Nat) : (b.readingUsed f p).Keeps [.regs, .parcels, .hub] (b.validated f p) := by
  unfold validated
  simp

theorem readingUsed_keeps (b : Block) (f p : Nat) : b.Keeps [.sensors] (b.readingUsed f p) := modSensor_keeps ..

theorem remapStop_begun (b : Block) (now op : Nat) (c : Cmd) (f s act : Nat) : (b.begun now op c).remapStop f s act = b.remapStop f s act := by
  have hsen := (begun_keeps b now op c).sensor (by decide)
  have hcad := (begun_keeps b now op c).cadE (by decide)
  simp only [remapStop, spareFree, spareBad, active, hsen, hcad, begun_mgr]
  rfl

end Block

section Commands

variable {f : FieldNo} {p : SlotNo} {s : State}

theorem sensorBroken_taken {k : SensorKind} {i n : Nat} (hex : sensorExists k i = true) (hdec : (s.b.sensor n).decided = true)
    (hnew : (s.b.sensor n).broken = false) (hevent : (s.b.sensor n).eventAt ≠ s.tick) :
    ¬((!sensorExists k i || !(s.b.sensor n).decided || (s.b.sensor n).broken || (s.b.sensor n).eventAt == s.tick) = true) := by
  simp [hex, hdec, hnew, hevent]

theorem exec_sensorBroken_parcel (hdec : (s.b.sensor (senParcel f p)).decided = true) (hnew : (s.b.sensor (senParcel f p)).broken = false)
    (hevent : (s.b.sensor (senParcel f p)).eventAt ≠ s.tick) :
    exec (.sensorBroken f .parcel p) s = .next { s with b := (s.b.parcelDeclared s.tick f p).brokenSent f p } := by
  show execSensorBroken f .parcel p s = _
  unfold execSensorBroken onB
  dsimp only
  rw [if_neg (sensorBroken_taken rfl hdec hnew hevent)]
  rfl

theorem exec_sensorBroken_bench (hex : p.val < 8) (hdec : (s.b.sensor (senBench f p)).decided = true)
    (hnew : (s.b.sensor (senBench f p)).broken = false) (hevent : (s.b.sensor (senBench f p)).eventAt ≠ s.tick) :
    exec (.sensorBroken f .bench p) s = .next { s with
      b := (s.b.modSensor (senBench f p) (fun r => r.declare s.tick)).brokenSent f (0x8000 + p) } := by
  have hex' : sensorExists .bench p = true := decide_eq_true hex
  show execSensorBroken f .bench p s = _
  unfold execSensorBroken onB
  dsimp only
  rw [if_neg (sensorBroken_taken hex' hdec hnew hevent)]
  rfl

theorem exec_sensorBroken_spare (hex : p.val < 168) (hdec : (s.b.sensor (senSpare f p)).decided = true)
    (hnew : (s.b.sensor (senSpare f p)).broken = false) (hevent : (s.b.sensor (senSpare f p)).eventAt ≠ s.tick) :
    exec (.sensorBroken f .spare p) s = .next { s with b := (s.b.spareDeclared s.tick f p).brokenSent f (0x4000 + p) } := by
  have hex' : sensorExists .spare p = true := decide_eq_true hex
  show execSensorBroken f .spare p s = _
  unfold execSensorBroken onB
  dsimp only
  rw [if_neg (sensorBroken_taken hex' hdec hnew hevent)]
  rfl

theorem exec_sensorBroken_none {k : SensorKind} (h : sensorExists k p = false) : exec (.sensorBroken f k p) s = .next s := by
  show execSensorBroken f k p s = _
  unfold execSensorBroken onB
  dsimp only
  rw [if_pos (by simp [h])]

/-- Since when a field's processor has known of a declaration (R157, R275). -/
def remapSince (s : State) (f : FieldNo) (p : SlotNo) : Nat := match (s.b.proc f).runTick with
  | some t => max (s.b.sensor (senParcel f p)).declaredAt (t + 1)
  | none => (s.b.sensor (senParcel f p)).declaredAt

theorem remapSince_le (h : s.tick ≤ (s.b.sensor (senParcel f p)).declaredAt + 64 ∨ ∃ n, (s.b.proc f).runTick = some n ∧ s.tick ≤ n + 65) :
    s.tick ≤ remapSince s f p + 64 := by
  unfold remapSince
  obtain h | ⟨n, hn, h⟩ := h
  · split <;> omega
  · rw [hn]
    dsimp only
    omega

def remapWanted (s : State) (f : FieldNo) (p : SlotNo) : Bool :=
  s.b.bit F_THERM.AUTO_REMAP f && (s.b.proc f).st == 0 && decide (s.tick ≤ remapSince s f p + 64) && s.b.active f p &&
    (s.b.sensor (senParcel f p)).broken && !(s.b.cadE (pid f p)).useSpare && (s.b.sensor (senParcel f p)).action == 0 && s.b.spareFree f p &&
    !s.b.spareBad f (p / 4)

theorem exec_autoRemap (f : FieldNo) (p : SlotNo) (s : State) : exec (.autoRemap f p) s = .next { s with
    b := s.b.cond (remapWanted s f p) (fun b => b.modSensor (senParcel f p) (fun r => { r with action := 1 })) } := rfl

theorem exec_autoRemap_wanted (h : remapWanted s f p = true) : exec (.autoRemap f p) s = .next { s with
    b := s.b.modSensor (senParcel f p) (fun r => { r with action := 1 }) } := by
  rw [exec_autoRemap, Block.cond_of_true h]

theorem exec_autoRemap_off (h : (s.b.sensor (senParcel f p)).broken = false) : exec (.autoRemap f p) s = .next s := by
  have hoff : remapWanted s f p = false := by simp [remapWanted, h]
  rw [exec_autoRemap, Block.cond_of_false hoff]

theorem exec_spareValidated (hval : (s.b.sensor (senParcel f p)).validating = true)
    (hpass : s.b.rd F_THERM.VALIDATE_READS f ≤ (s.b.sensor (senParcel f p)).passCount)
    (hevent : (s.b.sensor (senParcel f p)).eventAt ≠ s.tick) : exec (.spareValidated f p) s = .next { s with b := s.b.validated f p } := by
  have hrun : ¬((!(s.b.sensor (senParcel f p)).validating || (s.b.sensor (senParcel f p)).eventAt == s.tick ||
      decide ((s.b.sensor (senParcel f p)).passCount < s.b.rd F_THERM.VALIDATE_READS f)) = true) := by
    simp [hval, hevent, hpass]
  show execSpareValidated f p s = _
  unfold execSpareValidated onB
  dsimp only
  rw [if_neg hrun]
  rfl

theorem exec_sensorRemap {c : Cmd} (h : Passes 0x68 c s) (hstop : s.b.remapStop (c.arg 0 % 128) (c.arg 0 / 65536 % 1024) (c.arg 0 / 2 ^ 28) = none) :
    exec (.sensorRemap c) s = .next { s with
      b := ((s.b.begun s.tick 0x68 c).modSensor (senParcel (c.arg 0 % 128) (c.arg 0 / 65536 % 1024)) (fun r => { r with
        action := c.arg 0 / 2 ^ 28 + 1 })).await (portNo c.port) (.remap (c.arg 0 % 128) (c.arg 0 / 65536 % 1024) (c.arg 0 / 2 ^ 28 + 1)) } := by
  show execSensorRemap c s = _
  rw [execSensorRemap, h.runCmdB_eq]
  dsimp only
  rw [Block.remapStop_begun, hstop]

end Commands

open Block in
/-- Settles O42. -/
theorem sensorEvents : Obligations.SensorEvents := by
  unfold Obligations.SensorEvents
  refine ⟨fun f p s hdec hnew hevent => ?_, fun f i s hi hdec hnew hevent => ?_, fun f i s hi hdec hnew hevent => ?_,
    fun f i s => ⟨fun hi => exec_sensorBroken_none (decide_eq_false (by omega)), fun hi => exec_sensorBroken_none (decide_eq_false (by omega))⟩,
    fun f p s hbit hst hact hsince hbroken hown haction hfree hgood => ?_, fun f p s h => exec_autoRemap_off h,
    fun f p s hval hpass hevent => ?_, fun c s hpass hstop => ?_⟩
  · have hsensor := parcelDeclared_sensor s.b s.tick f p
    have hsent (k : Nat) := (brokenSent_keeps (s.b.parcelDeclared s.tick f p) f p).sensor (by decide) k
    have hkeeps : s.b.Keeps [.sensors, .parcels] (s.b.parcelDeclared s.tick f p) := by
      unfold parcelDeclared
      simp
    refine ⟨_, exec_sensorBroken_parcel hdec hnew hevent,
      Keeps.withBlock_eq_graft (S := [.regs, .sensors, .parcels, .fields, .faults])
        ((hkeeps.mono (by decide)).trans ((brokenSent_keeps ..).mono (by decide))), ?_, ?_, ?_, ?_, ?_, fun k hk => ?_, ?_⟩
    · rw [hsent, hsensor]
      rfl
    · rw [hsent, hsensor]
      rfl
    · rw [hsent, hsensor]
      rfl
    · rw [brokenSent, rd_fault]
      refine (rd_inc_same _ F_THERM.BROKEN_EVENTS f).trans ?_
      rw [hkeeps.rd (by decide)]
      rfl
    · have hregs : RegsBut [F_THERM.BROKEN_EVENTS.key f] (s.b.parcelDeclared s.tick f p) ((s.b.parcelDeclared s.tick f p).brokenSent f p) := by
        unfold brokenSent
        simp [regsBut_inc]
      exact fun x i hx => (hregs x i hx).trans (hkeeps.rd (by decide) x i)
    · rw [hsent, parcelDeclared_sensor_other hk]
    · rw [brokenSent_faults _ _ (by omega), hkeeps.faults (by decide)]
  · have hsent (k : Nat) := (brokenSent_keeps (s.b.modSensor (senBench f i) (fun r => r.declare s.tick)) f (0x8000 + i)).sensor (by decide) k
    refine ⟨_, next_block (exec_sensorBroken_bench hi hdec hnew hevent) rfl, inBlock_mk .., ?_, ?_, fun k hk => ?_⟩
    · rw [hsent, sensor_modSensor_same]
      rfl
    · rw [brokenSent_faults _ _ (by omega), (modSensor_keeps ..).faults (by decide)]
    · rw [hsent, sensor_modSensor_other _ _ hk]
  · refine ⟨_, next_block (exec_sensorBroken_spare hi hdec hnew hevent) rfl, inBlock_mk .., ?_, ?_, ?_⟩
    · rw [(brokenSent_keeps ..).sensor (by decide), spareDeclared_broken]
    · have hkeeps : s.b.Keeps [.sensors, .cad, .mon, .nv] ((s.b.modSensor (senSpare f i) (fun r => r.declare s.tick)).undoRemap s.tick f i) := by
        simp
      rw [brokenSent_faults _ _ (by omega), (spareDeclared_keeps ..).faults (by decide), hkeeps.faults (by decide)]
    · rw [(brokenSent_keeps ..).cadE (by decide), spareDeclared_marks]
  · have hwanted : remapWanted s f p = true := by
      simp [remapWanted, hbit, hst, hact, remapSince_le hsince, hbroken, hown, haction, hfree, hgood]
    exact ⟨_, exec_autoRemap_wanted hwanted, Keeps.withBlock_eq_graft (S := [.sensors]) (modSensor_keeps ..), sensor_modSensor_same ..,
      fun k hk => sensor_modSensor_other _ _ hk⟩
  · have hsensor (k : Nat) := (validated_keeps s.b f p).sensor (by decide) k
    have hused : (s.b.readingUsed f p).sensor (senParcel f p) = { s.b.sensor (senParcel f p) with
        validating := false, passCount := 0, temp := (s.b.sensor (senParcel f p)).newTemp, held := (s.b.sensor (senParcel f p)).newTemp
        valid := true, broken := (s.b.sensor (senParcel f p)).broken && !(s.b.cadE (pid f p)).useSpare } := sensor_modSensor_same ..
    refine ⟨_, next_block (exec_spareValidated hval hpass hevent) rfl, inBlock_mk .., ?_, ?_, ?_, ?_, ?_, ?_, fun k hk => ?_⟩
    · exact Eq.trans ((validated_keeps ..).same .agents (by decide)) ((readingUsed_keeps ..).same .agents (by decide))
    · exact Eq.trans ((validated_keeps ..).same .cad (by decide)) ((readingUsed_keeps ..).same .cad (by decide))
    · rw [hsensor, hused]
    · rw [hsensor, hused]
    · rw [hsensor, hused]
    · rw [hsensor, hused]
    · rw [hsensor, readingUsed, sensor_modSensor_other _ _ hk]
  · refine ⟨_, next_block (exec_sensorRemap hpass hstop) rfl, inBlock_mk .., ?_, ?_⟩
    · refine waits_of_flight ?_ (fl := { flightOf s.tick 0x68 c with begun := true }) rfl _ s
      rw [(modSensor_keeps ..).port (by decide), begun_flight]
    · rw [(await_keeps ..).sensor (by decide), sensor_modSensor_same]

end Sys2Proof.Machine
end

section
/-!
SUPPORT. The demand level, and the steps of the field temperatures.
-/

namespace Sys2Proof.Machine

open Sys2Proof

namespace Block

/-! ### The demand level (R169) -/

theorem publishLevel_keeps (b : Block) : b.Keeps [.regs, .hub] b.publishLevel := by simp

theorem publishLevel_rd {x : Fld} (hx : HUB_COOL.DEMAND_LEVEL.apart x = true) (b : Block) (i : Nat) : b.publishLevel.rd x i = b.rd x i := by
  unfold publishLevel
  dsimp only
  split
  · rfl
  · obtain h | h := ((b.wr HUB_COOL.DEMAND_LEVEL 0 b.demandLevel).ibi_cases 0)
    · rw [h, rd_wr_apart hx]
    · rw [h, rd_modHub, rd_wr_apart hx]

theorem publishLevel_bit {x : Fld} (hx : HUB_COOL.DEMAND_LEVEL.apart x = true) (b : Block) (i : Nat) : b.publishLevel.bit x i = b.bit x i := by
  rw [bit, bit, publishLevel_rd hx]

theorem publishLevel_hub {α : Type} {g : Hub → α} (hi : ∀ (x : Hub) v, g { x with ibiPending := v } = g x) (b : Block) :
    HubSame g b b.publishLevel := by
  unfold publishLevel
  dsimp only
  split
  · exact .refl b
  · obtain h | h := ((b.wr HUB_COOL.DEMAND_LEVEL 0 b.demandLevel).ibi_cases 0)
    · rw [h]
      exact Keeps.hubSame (wr_keeps ..) (by decide)
    · rw [h]
      exact HubSame.modHub (Keeps.hubSame (wr_keeps ..) (by decide)) fun x => hi x _

theorem thermalIrq_keeps (b : Block) (en : Fld) : b.Keeps [.regs] (b.thermalIrq en) := by simp

theorem thermalIrq_rd {x : Fld} (hx : HUB_STATE.THERMAL.apart x = true) (b : Block) (en : Fld) (i : Nat) : (b.thermalIrq en).rd x i = b.rd x i :=
  rd_cond fun _ => rd_wr_apart hx ..

/-! ### The warning (R160) -/

def warnCounted (b : Block) (now f : Nat) : Block :=
  ((b.wr F_THERM.WARN f 1).inc F_THERM.WARN_ENTRIES f).monEvent now 0 0x28 (srcField f) ([f, 0] ++ leBytes 2 (b.rd F_THERM.T_MAX f))

def warned (b : Block) (now f : Nat) : Block := ((b.warnCounted now f).thermalIrq HUB_THERM.WARN_IRQ_EN).publishLevel

theorem warned_keeps (b : Block) (now f : Nat) : b.Keeps [.regs, .mon, .hub] (b.warned now f) := by
  unfold warned warnCounted
  simp

theorem warned_rd {x : Fld} (hx : HUB_COOL.DEMAND_LEVEL.apart x = true ∧ HUB_STATE.THERMAL.apart x = true ∧ x.Fits ∧ x.page ∉ [0x19])
    (b : Block) (now f i : Nat) : (b.warned now f).rd x i = ((b.wr F_THERM.WARN f 1).inc F_THERM.WARN_ENTRIES f).rd x i := by
  obtain ⟨hlevel, hirq, hpage⟩ := hx
  have hmon : RegsOff [0x19] ((b.wr F_THERM.WARN f 1).inc F_THERM.WARN_ENTRIES f) (b.warnCounted now f) := by
    unfold warnCounted
    simp
  rw [warned, publishLevel_rd hlevel, thermalIrq_rd hirq, hmon.rd hpage]

/-! ### Throttle and restore (R161) -/

theorem throttleSlot_keeps (b : Block) (f s : Nat) (limit : Int) : b.Keeps [.regs, .parcels] (b.throttleSlot f s limit) := by simp

theorem throttleSlot_rd {x : Fld} (hx : F_THERM.THROT_STEPS.apart x = true) (b : Block) (f s : Nat) (limit : Int) (i : Nat) :
    (b.throttleSlot f s limit).rd x i = b.rd x i := by
  unfold throttleSlot
  dsimp only
  split
  · rw [rd_inc_apart hx, rd_modParcel]
  · rfl

theorem throttleSlot_red {b : Block} {f s : Nat} (h : (b.parcel (pid f s)).red < 50) (limit : Int) :
    ((b.throttleSlot f s limit).parcel (pid f s)).red =
      if limit < mget 0 (b.fu f).snapTemps s then min 50 ((b.parcel (pid f s)).red + 2) else (b.parcel (pid f s)).red := by
  unfold throttleSlot
  dsimp only
  by_cases hlim : limit < mget 0 (b.fu f).snapTemps s
  · rw [if_pos ⟨hlim, h⟩, if_pos hlim, (inc_keeps ..).parcel (by decide), parcel_modParcel_same]
  · rw [if_neg (fun hc => hlim hc.1), if_neg hlim]

theorem throttleSlot_other {f s k : Nat} (h : k ≠ pid f s) (b : Block) (limit : Int) : (b.throttleSlot f s limit).parcel k = b.parcel k := by
  unfold throttleSlot
  dsimp only
  split
  · rw [(inc_keeps ..).parcel (by decide), parcel_modParcel_other _ _ h]
  · rfl

/-- The parcels' part of a throttle step. -/
def throttled (b : Block) (f : Nat) (limit : Int) : Block := b.each (b.actives f) (fun b s => b.throttleSlot f s limit)

theorem throttled_keeps (b : Block) (f : Nat) (limit : Int) : b.Keeps [.regs, .parcels] (b.throttled f limit) := by
  unfold throttled
  simp

theorem throttled_rd {x : Fld} (hx : F_THERM.THROT_STEPS.apart x = true) (b : Block) (f : Nat) (limit : Int) (i : Nat) :
    (b.throttled f limit).rd x i = b.rd x i :=
  each_inv (I := fun c => c.rd x i = b.rd x i) (fun _ _ _ hc => (throttleSlot_rd hx ..).trans hc) rfl

theorem actives_count {b : Block} {f p : Nat} (hp : p < 672) (hact : b.active f p = true) : (b.actives f).count p = 1 := by
  have hmem : p ∈ b.actives f := List.mem_filter.2 ⟨List.mem_range.2 hp, hact⟩
  have hnodup : (b.actives f).Nodup := (List.nodup_range (n := 672)).filter _
  exact List.count_eq_one_of_mem hnodup hmem

theorem throttled_red {b : Block} {f p : Nat} (hp : p < 672) (hact : b.active f p = true) (h : (b.parcel (pid f p)).red < 50) (limit : Int) :
    ((b.throttled f limit).parcel (pid f p)).red =
      if limit < mget 0 (b.fu f).snapTemps p then min 50 ((b.parcel (pid f p)).red + 2) else (b.parcel (pid f p)).red := by
  obtain ⟨c, hc, hred, he⟩ := each_single (I := b.Keeps [.regs, .parcels]) (p := fun c => (c.parcel (pid f p)).red)
    (g := fun c s => c.throttleSlot f s limit) (fun c y hc => hc.trans (throttleSlot_keeps ..))
    (fun c _ hy => congrArg Parcel.red (throttleSlot_other (pid_ne hy.symm) c limit)) (actives_count hp hact) (Keeps.refl _ b)
  have hred' : (c.parcel (pid f p)).red = (b.parcel (pid f p)).red := hred
  refine (show _ = _ from he).trans ?_
  rw [throttleSlot_red (by rwa [hred']), hred', hc.fu (by decide)]

/-- The field's part of a throttle step. -/
def fieldThrottled (b : Block) (now f : Nat) (limit : Int) : Block :=
  if limit < (b.fu f).snapField ∧ b.rd F_THERM.FIELD_RED f < 50 then
    ((b.wr F_THERM.FIELD_RED f (min 50 (b.rd F_THERM.FIELD_RED f + 2))).inc F_THERM.THROT_STEPS f).limitRecord f now 0 2
      ((if b.rd F_LIMIT.BIND_RAIL f = 0 then (b.control f).core else (b.control f).sram) / 16) (b.fu f).pMax
  else b

theorem fieldThrottled_keeps (b : Block) (now f : Nat) (limit : Int) : b.Keeps [.regs, .fields, .traces] (b.fieldThrottled now f limit) := by
  unfold fieldThrottled
  simp

theorem fieldThrottled_red {b : Block} {f : Nat} {limit : Int} (hlim : limit < (b.fu f).snapField) (h : b.rd F_THERM.FIELD_RED f < 50)
    (now : Nat) : (b.fieldThrottled now f limit).rd F_THERM.FIELD_RED f = min 50 (b.rd F_THERM.FIELD_RED f + 2) := by
  rw [fieldThrottled, if_pos ⟨hlim, h⟩, limitRecord_rd (by decide), rd_inc_apart (by decide), rd_wr_same]
  exact Nat.mod_eq_of_lt (Nat.lt_of_le_of_lt (Nat.min_le_left ..) (by decide))

/-- What follows the reductions of a throttle step. -/
def throttleShown (b : Block) (f : Nat) (was : Bool) : Block :=
  let b := b.putThermLim f
  (b.cond (!was && b.throttling f) (fun b => b.thermalIrq HUB_THERM.THROT_IRQ_EN)).publishLevel

theorem throttleShown_keeps (b : Block) (f : Nat) (was : Bool) : b.Keeps [.regs, .hub] (b.throttleShown f was) := by
  unfold throttleShown
  simp

theorem throttleShown_red (b : Block) (f : Nat) (was : Bool) : (b.throttleShown f was).rd F_THERM.FIELD_RED f = b.rd F_THERM.FIELD_RED f := by
  unfold throttleShown
  dsimp only
  rw [publishLevel_rd (by decide), rd_cond fun _ => thermalIrq_rd (by decide) .., putThermLim, rd_wr_apart (by decide)]

def throttleStep (b : Block) (now f : Nat) : Block :=
  ((b.throttled f (8 * b.rd F_THERM.THROT_C f)).fieldThrottled now f (8 * b.rd F_THERM.THROT_C f)).throttleShown f (b.throttling f)

/-- One slot's part of a restore step. -/
def restoreSlot (b : Block) (f : Nat) (run : Bool) (s : Nat) : Block :=
  b.modParcel (pid f s) (fun p => { p with
    red := if run && ((b.parcel (pid f s)).cool && !b.substituted f s) then p.red - 1 else p.red, cool := true })

theorem restoreSlot_keeps (b : Block) (f : Nat) (run : Bool) (s : Nat) : b.Keeps [.parcels] (b.restoreSlot f run s) := modParcel_keeps ..

def restored (b : Block) (f : Nat) (run : Bool) : Block := b.each (b.actives f) (fun b s => b.restoreSlot f run s)

theorem restored_keeps (b : Block) (f : Nat) (run : Bool) : b.Keeps [.parcels] (b.restored f run) :=
  each_inv (I := b.Keeps [.parcels]) (fun _ _ _ hc => hc.trans (restoreSlot_keeps ..)) (Keeps.refl _ b)

theorem Keeps.substituted {a b : Block} {S : List Part} (h : a.Keeps S b) (hsen : .sensors ∉ S) (hcad : .cad ∉ S) (f s : Nat) :
    b.substituted f s = a.substituted f s := by
  simp only [Block.substituted, h.sensor hsen, h.cadE hcad]

theorem restored_red {b : Block} {f p : Nat} (hp : p < 672) (hact : b.active f p = true) (hcool : (b.parcel (pid f p)).cool = true)
    (hsub : b.substituted f p = false) : ((b.restored f true).parcel (pid f p)).red = (b.parcel (pid f p)).red - 1 := by
  obtain ⟨c, hc, hpar, he⟩ := each_single (I := b.Keeps [.parcels]) (p := fun c => c.parcel (pid f p))
    (g := fun c s => c.restoreSlot f true s) (fun c y hc => hc.trans (restoreSlot_keeps ..))
    (fun _ _ hy => parcel_modParcel_other _ _ (pid_ne hy.symm)) (actives_count hp hact) (Keeps.refl _ b)
  have hpar' : c.parcel (pid f p) = b.parcel (pid f p) := hpar
  rw [restored, show _ = _ from he, restoreSlot, parcel_modParcel_same, hpar', hc.substituted (by decide) (by decide), hcool, hsub]
  rfl

/-- The field's part of a restore step. -/
def fieldRestored (b : Block) (f : Nat) (run : Bool) : Block :=
  if run && (b.fu f).benchCoolDone then b.wr F_THERM.FIELD_RED f (b.rd F_THERM.FIELD_RED f - 1) else b

def restoreStep (b : Block) (f : Nat) (run : Bool) : Block :=
  (((b.restored f run).fieldRestored f run).cond run (fun b => b.putThermLim f)).publishLevel

theorem restoreStep_keeps (b : Block) (f : Nat) (run : Bool) : (b.restored f run).Keeps [.regs, .hub] (b.restoreStep f run) := by
  unfold restoreStep fieldRestored
  simp

theorem restoreStep_red {b : Block} {f : Nat} (h : (b.fu f).benchCoolDone = true) :
    (b.restoreStep f true).rd F_THERM.FIELD_RED f = b.rd F_THERM.FIELD_RED f - 1 := by
  have hrun : (true && ((b.restored f true).fu f).benchCoolDone) = true := by rw [(restored_keeps ..).fu (by decide), h]; rfl
  have hput : ((b.restored f true).fieldRestored f true).rd F_THERM.FIELD_RED f = b.rd F_THERM.FIELD_RED f - 1 := by
    rw [fieldRestored, if_pos hrun, rd_wr_same, (restored_keeps ..).rd (by decide)]
    exact Nat.mod_eq_of_lt (Nat.lt_of_le_of_lt (Nat.sub_le ..) (b.rd_lt ..))
  rw [restoreStep, publishLevel_rd (by decide), cond_of_true rfl, putThermLim, rd_wr_apart (by decide), hput]

/-! ### Bands (R165) -/

def bandPut (b : Block) (now f : Nat) : Block :=
  ((((b.wr F_THERM.BAND f (b.fu f).bandNext).inc F_THERM.BAND_CHANGES f).wr F_THERM.BAND_TICK f now).modFu f (fun u => { u with
    bandTick := some now })).modPins (fun p => { p with band := mput 0 p.band f (b.fu f).bandNext })

def bandChanged (b : Block) (now f : Nat) : Block :=
  (b.bandPut now f).record f now 0 0x13 (srcField f) 0 (b.rd F_THERM.BAND f * 16 + (b.fu f).bandNext) ((b.bandPut now f).rd F_THERM.T_MAX f)

end Block

section Steps

variable {f : FieldNo} {s : State}

theorem exec_thermalWarning_in (hwarn : s.b.bit F_THERM.WARN f = false) (hsaw : (s.b.fu f).sawWarn = true) :
    exec (.thermalWarning f) s = .next { s with b := s.b.warned s.tick f } := by
  show execThermalWarning f s = _
  simp only [execThermalWarning, onB, hwarn, hsaw]
  rfl

theorem exec_thermalWarning_out (hwarn : s.b.bit F_THERM.WARN f = true) (hsaw : (s.b.fu f).sawAboveClear = false) :
    exec (.thermalWarning f) s = .next { s with b := (s.b.wr F_THERM.WARN f 0).publishLevel } := by
  show execThermalWarning f s = _
  simp only [execThermalWarning, onB, hwarn, hsaw]
  rfl

theorem exec_thermalThrottleStep (h : s.tick % 64 = 0) (hst : (s.b.proc f).st = 0) :
    exec (.thermalThrottleStep f) s = .next { s with b := s.b.throttleStep s.tick f } := by
  have hrun : ¬(s.tick % 64 ≠ 0 ∨ (s.b.proc f).st ≠ 0) := by omega
  show execThermalThrottleStep f s = _
  unfold execThermalThrottleStep onB
  dsimp only
  rw [if_neg hrun]
  rfl

theorem exec_thermalThrottleStep_off (h : s.tick % 64 ≠ 0) : exec (.thermalThrottleStep f) s = .next s := by
  show execThermalThrottleStep f s = _
  unfold execThermalThrottleStep onB
  dsimp only
  rw [if_pos (.inl h)]

theorem exec_thermalRestoreStep (h : s.tick % 256 = 0) :
    exec (.thermalRestoreStep f) s = .next { s with b := s.b.restoreStep f ((s.b.proc f).st == 0) } := by
  show execThermalRestoreStep f s = _
  unfold execThermalRestoreStep onB
  dsimp only
  rw [if_neg (not_not.2 h)]
  rfl

theorem exec_thermalRestoreStep_off (h : s.tick % 256 ≠ 0) : exec (.thermalRestoreStep f) s = .next s := by
  show execThermalRestoreStep f s = _
  unfold execThermalRestoreStep onB
  dsimp only
  rw [if_pos h]

theorem exec_bandChange (h : (s.b.fu f).bandNext ≠ s.b.rd F_THERM.BAND f) :
    exec (.bandChange f) s = .next { s with b := s.b.bandChanged s.tick f } := by
  show execBandChange f s = _
  unfold execBandChange onB
  dsimp only
  rw [if_neg h]
  rfl

theorem exec_bandChange_off (h : (s.b.fu f).bandNext = s.b.rd F_THERM.BAND f) : exec (.bandChange f) s = .next s := by
  show execBandChange f s = _
  unfold execBandChange onB
  dsimp only
  rw [if_pos h]

end Steps

open Block in
/-- Settles O43. -/
theorem thermalSteps : Obligations.ThermalSteps := by
  unfold Obligations.ThermalSteps
  refine ⟨fun f s hwarn hsaw => ?_, fun f s hwarn hsaw => ?_, fun f s htick hst hred hlim => ?_, fun f s htick hst => ?_,
    fun f s h => exec_thermalThrottleStep_off h, fun f s htick hst hbench => ?_, fun f s h => exec_thermalRestoreStep_off h,
    fun f s hnew hlt => ?_, fun f s h => exec_bandChange_off h⟩
  · refine ⟨_, next_block (exec_thermalWarning_in hwarn hsaw) rfl, inBlock_mk .., ?_, ?_, (warned_keeps ..).same .parcels (by decide)⟩
    · rw [bit, warned_rd (by decide), rd_inc_apart (by decide), rd_wr_same]
      rfl
    · rw [warned_rd (by decide)]
      refine (rd_inc_same _ F_THERM.WARN_ENTRIES f).trans ?_
      rw [rd_wr_apart (by decide)]
  · refine ⟨_, next_block (exec_thermalWarning_out hwarn hsaw) rfl, inBlock_mk .., ?_, (publishLevel_keeps ..).same .parcels (by decide)⟩
    rw [bit, publishLevel_rd (by decide), rd_wr_same]
    rfl
  · have hkeeps := throttled_keeps s.b f (8 * s.b.rd F_THERM.THROT_C f)
    have hred' := throttled_rd (x := F_THERM.FIELD_RED) (by decide) s.b f (8 * s.b.rd F_THERM.THROT_C f) f
    refine ⟨_, next_block (exec_thermalThrottleStep htick hst) rfl, inBlock_mk .., ?_, ?_⟩
    · rw [throttleStep, throttleShown_red, fieldThrottled_red (by rwa [hkeeps.fu (by decide)]) (by rwa [hred']), hred']
    · exact Eq.trans ((throttleShown_keeps ..).same .sensors (by decide)) (Eq.trans ((fieldThrottled_keeps ..).same .sensors (by decide))
        (hkeeps.same .sensors (by decide)))
  · have hkeeps := throttled_keeps s.b f (8 * s.b.rd F_THERM.THROT_C f)
    refine ⟨_, next_block (exec_thermalThrottleStep htick hst) rfl, inBlock_mk .., ?_, fun p hact hred => ?_⟩
    · exact Eq.trans ((throttleShown_keeps ..).same .sensors (by decide)) (Eq.trans ((fieldThrottled_keeps ..).same .sensors (by decide))
        (hkeeps.same .sensors (by decide)))
    · rw [throttleStep, (throttleShown_keeps ..).parcel (by decide), (fieldThrottled_keeps ..).parcel (by decide),
        throttled_red p.isLt hact hred]
  · have hrun : ((s.b.proc f).st == 0) = true := beq_iff_eq.2 hst
    have hexec := exec_thermalRestoreStep (f := f) htick
    rw [hrun] at hexec
    refine ⟨_, next_block hexec rfl, inBlock_mk .., ?_, ?_, fun p hact hcool hsub => ?_⟩
    · dsimp only
      exact restoreStep_red hbench
    · dsimp only
      exact Eq.trans ((restoreStep_keeps ..).same .sensors (by decide)) ((restored_keeps ..).same .sensors (by decide))
    · rw [(restoreStep_keeps ..).parcel (by decide), restored_red p.isLt hact hcool hsub]
  · have hput : s.b.Keeps [.regs, .fields, .pins] (s.b.bandPut s.tick f) := by
      unfold bandPut
      simp
    refine ⟨_, next_block (exec_bandChange hnew) rfl, inBlock_mk .., ?_, ?_, ?_, ?_⟩
    · rw [bandChanged, rd_record (by decide), bandPut, rd_modPins, rd_modFu, rd_wr_apart (by decide), rd_inc_apart (by decide), rd_wr_same]
      exact Nat.mod_eq_of_lt hlt
    · rw [bandChanged, (record_keeps ..).pins (by decide)]
      exact mget_mput_same
    · rw [bandChanged, ((fuSame_record (g := FieldUnit.bandTick) (fun _ _ => rfl) ..).2 (FuSame.refl _ _)).same, bandPut,
        (modPins_keeps ..).fu (by decide)]
      exact congrArg FieldUnit.bandTick (fu_modFu_same ..)
    · exact Eq.trans ((record_keeps ..).same .parcels (by decide)) (hput.same .parcels (by decide))

end Sys2Proof.Machine
end

section
/-!
SUPPORT. The coolant: edges, flow loss, run-down and demand.
-/

namespace Sys2Proof.Machine

open Sys2Proof

/-- The tach edges kept after an edge at `t` (R166). -/
def tachKept (b : Block) (t : Nat) : List Nat := (t :: b.hub.tachEdges).take 5

def Block.tachEdge (b : Block) (t : Nat) : Block :=
  let c := b.modHub (fun h => { h with tachEdges := tachKept b t, tachLast := t })
  if (gaps (tachKept b t)).isEmpty ∨ (gaps (tachKept b t)).sum = 0 then c
  else c.wr HUB_COOL.TACH_HZ 0 (min 65535 (1000000000 * (gaps (tachKept b t)).length / (gaps (tachKept b t)).sum))

/-- The flow is cut (R167). -/
def Block.flowCut (b : Block) (now n : Nat) : Block :=
  let b := b.modHub (fun h => { h with flowLost := none, restoreAt := none })
  let b := ((b.wr HUB_COOL.FLOW_CUT 0 1).wr HUB_CAP.FLOW_CUT 0 1).inc HUB_COOL.FLOW_LOSSES 0
  (b.wr HUB_COOL.FLOW_LOSS_TICK 0 now).fault 26 255 n 0

def Block.flowBack (b : Block) : Block :=
  ((b.modHub (fun h => { h with restoreAt := none })).wr HUB_COOL.FLOW_CUT 0 0).wr HUB_CAP.FLOW_CUT 0 0

def Block.rundownOver (b : Block) : Block :=
  ((b.wr HUB_COOL.RUNDOWN 0 0).modPins (fun p => { p with coolRundownN := false })).modHub (fun h => { h with rundownFrom := none })

section Coolant

variable {s : State} {x : Nat × Nat} {n : Nat}

theorem exec_flowTachEdge (sc : ScOff) (s : State) :
    exec (.flowTachEdge sc) s = .next { s with b := s.b.tachEdge (s.tick * 2048 + sc) } := rfl

theorem exec_flowLoss (hlost : s.b.hub.flowLost = some x) (hx : x.1 < s.tick) :
    exec .flowLoss s = .next { s with b := (s.b.flowCut s.tick x.2).publishLevel } := by
  show execFlowLoss s = _
  simp only [execFlowLoss, onB, hlost, if_neg (Nat.not_le.2 hx)]
  rfl

theorem exec_flowLoss_none (h : s.b.hub.flowLost = none) : exec .flowLoss s = .next s := by
  show execFlowLoss s = _
  simp only [execFlowLoss, onB, h]

theorem exec_flowRestore (hat : s.b.hub.restoreAt = some n) (hn : n < s.tick) :
    exec .flowRestore s = .next { s with b := s.b.flowBack.publishLevel } := by
  show execFlowRestore s = _
  simp only [execFlowRestore, onB, hat, if_neg (Nat.not_le.2 hn)]
  rfl

theorem exec_rundownEnd (hfrom : s.b.hub.rundownFrom = some n) (hspan : s.b.rundownSc ≤ (s.tick - n) * 2048)
    (hoff : (s.b.rails.all (fun e => e.2.run == 0)) = true) (hcool : (allFields.all s.b.benchesCool) = true) :
    exec .rundownEnd s = .next { s with b := s.b.rundownOver.publishLevel } := by
  have hover : (decide (s.b.rundownSc ≤ (s.tick - n) * 2048) && s.b.rails.all (fun e => e.2.run == 0) && allFields.all s.b.benchesCool) = true := by
    rw [hoff, hcool, decide_eq_true hspan]
    rfl
  show execRundownEnd s = _
  unfold execRundownEnd onB
  dsimp only
  rw [hfrom]
  dsimp only
  rw [Block.cond_of_true hover]
  rfl

theorem exec_rundownEnd_early (hfrom : s.b.hub.rundownFrom = some n) (hspan : (s.tick - n) * 2048 < s.b.rundownSc) :
    exec .rundownEnd s = .next s := by
  have hover : (decide (s.b.rundownSc ≤ (s.tick - n) * 2048) && s.b.rails.all (fun e => e.2.run == 0) && allFields.all s.b.benchesCool) = false := by
    rw [decide_eq_false (Nat.not_le.2 hspan)]
    rfl
  show execRundownEnd s = _
  unfold execRundownEnd onB
  dsimp only
  rw [hfrom]
  dsimp only
  rw [Block.cond_of_false hover]

theorem exec_coolDemandUpdate (h : s.tick % 512 = 0) : exec .coolDemandUpdate s = .next { s with
    b := (s.b.wr HUB_COOL.COOL_DEMAND 0 (min 65535 (s.b.rd HUB_CAP.AVG_MS 0 / 10000))).publishLevel } := by
  show execCoolDemandUpdate s = _
  unfold execCoolDemandUpdate onB
  dsimp only
  rw [Block.cond_of_true (beq_iff_eq.2 h)]

theorem exec_coolDemandUpdate_off (h : s.tick % 512 ≠ 0) : exec .coolDemandUpdate s = .next s := by
  show execCoolDemandUpdate s = _
  unfold execCoolDemandUpdate onB
  dsimp only
  rw [Block.cond_of_false (beq_eq_false_iff_ne.2 h)]

end Coolant

namespace Block

theorem tachEdge_keeps (b : Block) (t : Nat) : b.Keeps [.regs, .hub] (b.tachEdge t) := by
  unfold tachEdge
  simp

theorem tachEdge_last (b : Block) (t : Nat) : (b.tachEdge t).hub.tachLast = t := by
  unfold tachEdge
  dsimp only
  split
  · rfl
  · rw [(wr_keeps ..).hub (by decide)]
    rfl

theorem tachEdge_regs (b : Block) (t : Nat) : RegsBut [HUB_COOL.TACH_HZ.key 0] b (b.tachEdge t) := by
  unfold tachEdge
  dsimp only
  split
  · simp
  · simp [regsBut_wr]

theorem flowCut_keeps (b : Block) (now n : Nat) : b.Keeps [.regs, .hub, .fields, .faults] (b.flowCut now n) := by
  unfold flowCut
  simp

theorem flowCut_rd (b : Block) (now n : Nat) : (b.flowCut now n).rd HUB_COOL.FLOW_CUT 0 = 1 ∧ (b.flowCut now n).rd HUB_CAP.FLOW_CUT 0 = 1 ∧
    (b.flowCut now n).rd HUB_COOL.FLOW_LOSSES 0 = (b.rd HUB_COOL.FLOW_LOSSES 0 + 1) % 2 ^ HUB_COOL.FLOW_LOSSES.width := by
  unfold flowCut
  dsimp only
  rw [rd_fault, rd_fault, rd_fault]
  refine ⟨?_, ?_, ?_⟩
  · rw [rd_wr_apart (by decide), rd_inc_apart (by decide), rd_wr_apart (by decide), rd_wr_same]
    rfl
  · rw [rd_wr_apart (by decide), rd_inc_apart (by decide), rd_wr_same]
    rfl
  · rw [rd_wr_apart (by decide)]
    refine (rd_inc_same _ HUB_COOL.FLOW_LOSSES 0).trans ?_
    rw [rd_wr_apart (by decide), rd_wr_apart (by decide), rd_modHub]

theorem flowCut_lost (b : Block) (now n : Nat) : (b.flowCut now n).hub.flowLost = none := by
  unfold flowCut
  dsimp only
  rw [(fault_keeps ..).hub (by decide), (wr_keeps ..).hub (by decide), (inc_keeps ..).hub (by decide), (wr_keeps ..).hub (by decide),
    (wr_keeps ..).hub (by decide)]
  rfl

theorem flowBack_keeps (b : Block) : b.Keeps [.regs, .hub] b.flowBack := by
  unfold flowBack
  simp

theorem flowBack_rd (b : Block) : b.flowBack.rd HUB_COOL.FLOW_CUT 0 = 0 ∧ b.flowBack.rd HUB_CAP.FLOW_CUT 0 = 0 := by
  unfold flowBack
  refine ⟨?_, ?_⟩
  · rw [rd_wr_apart (by decide), rd_wr_same]
    rfl
  · rw [rd_wr_same]
    rfl

theorem flowBack_restoreAt (b : Block) : b.flowBack.hub.restoreAt = none := by
  unfold flowBack
  rw [(wr_keeps ..).hub (by decide), (wr_keeps ..).hub (by decide)]
  rfl

theorem rundownOver_keeps (b : Block) : b.Keeps [.regs, .pins, .hub] b.rundownOver := by
  unfold rundownOver
  simp

theorem rundownOver_pins (b : Block) : b.rundownOver.pins = { b.pins with coolRundownN := false } := by
  unfold rundownOver
  rw [(modHub_keeps ..).pins (by decide), modPins_same, (wr_keeps ..).pins (by decide)]

theorem rundownOver_rd (b : Block) : b.rundownOver.rd HUB_COOL.RUNDOWN 0 = 0 := by
  unfold rundownOver
  rw [rd_modHub, rd_modPins, rd_wr_same]
  rfl

end Block

open Block in
/-- Settles O44. -/
theorem coolantEvents : Obligations.CoolantEvents := by
  unfold Obligations.CoolantEvents
  refine ⟨fun sc s => ⟨_, exec_flowTachEdge sc s, Keeps.withBlock_eq_graft (tachEdge_keeps ..), tachEdge_last .., tachEdge_regs s.b (s.tick * 2048 + sc)⟩,
    fun x s hlost hx => ?_, fun s h => exec_flowLoss_none h, fun n s hat hn => ?_, fun n s hfrom hspan hoff hcool => ?_,
    fun n s hfrom hspan => exec_rundownEnd_early hfrom hspan, fun s h => ?_, fun s h => exec_coolDemandUpdate_off h⟩
  · obtain ⟨hcool, hcap, hlosses⟩ := flowCut_rd s.b s.tick x.2
    refine ⟨_, next_block (exec_flowLoss hlost hx) rfl, inBlock_mk .., ?_, ?_, ?_, ?_, ?_⟩
    · dsimp only
      rw [(publishLevel_hub (g := Hub.flowLost) (fun _ _ => rfl) _).eq, flowCut_lost]
    · dsimp only
      rw [publishLevel_rd (by decide), hcool]
    · dsimp only
      rw [publishLevel_rd (by decide), hcap]
    · dsimp only
      rw [publishLevel_rd (by decide), hlosses]
    · dsimp only
      exact Eq.trans ((publishLevel_keeps ..).same .agents (by decide)) ((flowCut_keeps ..).same .agents (by decide))
  · obtain ⟨hcool, hcap⟩ := flowBack_rd s.b
    refine ⟨_, next_block (exec_flowRestore hat hn) rfl, inBlock_mk .., ?_, ?_, ?_, ?_⟩
    · dsimp only
      rw [(publishLevel_hub (g := Hub.restoreAt) (fun _ _ => rfl) _).eq, flowBack_restoreAt]
    · dsimp only
      rw [publishLevel_rd (by decide), hcool]
    · dsimp only
      rw [publishLevel_rd (by decide), hcap]
    · dsimp only
      exact Eq.trans ((publishLevel_keeps ..).same .agents (by decide)) ((flowBack_keeps ..).same .agents (by decide))
  · refine ⟨_, next_block (exec_rundownEnd hfrom hspan hoff hcool) rfl, inBlock_mk .., ?_, ?_, ?_, ?_, ?_⟩
    · dsimp only
      exact Eq.trans ((publishLevel_keeps ..).same .agents (by decide)) ((rundownOver_keeps ..).same .agents (by decide))
    · dsimp only
      exact Eq.trans ((publishLevel_keeps ..).same .rails (by decide)) ((rundownOver_keeps ..).same .rails (by decide))
    · dsimp only
      rw [(publishLevel_keeps ..).pins (by decide), rundownOver_pins]
    · dsimp only
      rw [publishLevel_rd (by decide), rundownOver_rd]
    · dsimp only
      rw [(publishLevel_hub (g := Hub.rundownFrom) (fun _ _ => rfl) _).eq]
      rfl
  · refine ⟨_, exec_coolDemandUpdate h, ?_, ?_⟩
    · exact Keeps.withBlock_eq_graft (S := [.regs, .hub]) (((wr_keeps ..).mono (by decide)).trans (publishLevel_keeps ..))
    · dsimp only
      rw [publishLevel_rd (by decide), rd_wr_same]
      exact Nat.mod_eq_of_lt (Nat.lt_of_le_of_lt (Nat.min_le_left ..) (by decide))

end Sys2Proof.Machine
end

section
/-!
SUPPORT. The thermal shutdown: the crossing, the ramp-down, and its end.
-/

namespace Sys2Proof.Machine

open Sys2Proof

namespace Block

/-! ### The crossing (R170) -/

def tripMarked (b : Block) (f : Nat) : Block := (b.wr F_THERM.TRIP f 1).modFu f (fun u => { u with tripped := true })

/-- The shutdown record at the crossing. -/
def tripRecord (b : Block) (now sc f : Nat) (k : SensorKind) (i : Nat) (t : Int) : MonRec :=
  { tier := 1, code := 0x70, tick := now, offset := sc, source := srcField f, suppressed := 0, flags := 0, seqNo := 0
    data := b.shutdownBytes now sc f k i t, whole := true }

def tripBegun (b : Block) (r : MonRec) : Block :=
  ((b.modHub (fun h => { h with tripped := true, tripRec := some r, forcedQ := true, haltWanted := some 4 })).modPins (fun p => { p with
    thermTripN := true })).wr HUB_THERM.TRIP 0 1

def tripShown (b : Block) (now : Nat) : Block := (b.evalMgr now).publishLevel

theorem evalMgr_keeps (b : Block) (now : Nat) : b.Keeps [.regs] (b.evalMgr now) := by simp

theorem evalMgr_regsOff (b : Block) (now : Nat) : RegsOff [0x12] b (b.evalMgr now) := by
  unfold evalMgr
  dsimp only
  split
  · exact .refl ..
  · simp (disch := decide)

theorem tripShown_keeps (b : Block) (now : Nat) : b.Keeps [.regs, .hub] (b.tripShown now) := by
  unfold tripShown
  simp

theorem tripShown_hub {α : Type} {g : Hub → α} (hi : ∀ (x : Hub) v, g { x with ibiPending := v } = g x) (b : Block) (now : Nat) :
    HubSame g b (b.tripShown now) := ((evalMgr_keeps ..).hubSame (by decide)).trans (publishLevel_hub hi _)

theorem tripShown_bit (b : Block) (now f : Nat) : (b.tripShown now).bit F_THERM.TRIP f = b.bit F_THERM.TRIP f := by
  rw [tripShown, publishLevel_bit (by decide), (evalMgr_regsOff ..).bit (by decide)]

theorem tripMarked_bit (b : Block) (f : Nat) : (b.tripMarked f).bit F_THERM.TRIP f = true := by
  rw [tripMarked, bit, rd_modFu, rd_wr_same]
  rfl

theorem tripMarked_keeps (b : Block) (f : Nat) : b.Keeps [.regs, .fields] (b.tripMarked f) := by
  unfold tripMarked
  simp

/-! ### Soft stops (R171) -/

/-- One rail's part of a soft stop. -/
def softRail (b : Block) (now f rl : Nat) : Block :=
  b.cond ((b.rail (railOf f rl)).run == 1 || (b.rail (railOf f rl)).run == 2) (fun b =>
    (((b.wrB (F_RAIL.SLEWING rl) f true).wrB (F_RAIL.ARRIVED rl) f false).wrB (F_RAIL.SOFTSTART rl) f false).modRail (railOf f rl)
      (fun x => { x with run := 3, runFrom := (now, x.refv) }))

theorem softStop_eq (b : Block) (now f cause : Nat) : b.softStop now f cause =
    (b.modFu f (fun u => { u with stopCause := cause, startQueued := false })).each [0, 1] (fun b rl => b.softRail now f rl) := rfl

/-- A rail that starts, regulates or has been stopped softly. -/
def Up (k : Nat) (b : Block) : Prop := (b.rail k).run = 1 ∨ (b.rail k).run = 2 ∨ (b.rail k).run = 3

theorem softRail_same {b : Block} {f rl : Nat} (h : Up (railOf f rl) b) (now : Nat) : ((b.softRail now f rl).rail (railOf f rl)).run = 3 := by
  unfold softRail
  obtain h | h | h := h
  · rw [cond_of_true (by rw [h]; rfl), rail_modRail_same]
  · rw [cond_of_true (by rw [h]; rfl), rail_modRail_same]
  · rw [cond_of_false (by rw [h]; rfl), h]

theorem softRail_other {f rl k : Nat} (h : k ≠ railOf f rl) (b : Block) (now : Nat) : (b.softRail now f rl).rail k = b.rail k := by
  unfold softRail
  cases (b.rail (railOf f rl)).run == 1 || (b.rail (railOf f rl)).run == 2
  · rfl
  · rw [cond_of_true rfl, rail_modRail_other _ _ h]
    rfl

theorem softRail_cases {b : Block} {k : Nat} (h : Up k b) (now f rl : Nat) :
    ((b.softRail now f rl).rail k).run = 3 ∨ ((b.softRail now f rl).rail k).run = (b.rail k).run := by
  obtain rfl | hk := eq_or_ne k (railOf f rl)
  · exact .inl (softRail_same h now)
  · exact .inr (by rw [softRail_other hk])

theorem Up.softRail {b : Block} {k : Nat} (h : Up k b) (now f rl : Nat) : Up k (b.softRail now f rl) := by
  obtain h' | h' := softRail_cases h now f rl
  · exact .inr (.inr h')
  · rwa [Up, h']

theorem Up.softStop {b : Block} {k : Nat} (h : Up k b) (now f cause : Nat) : Up k (b.softStop now f cause) := by
  rw [softStop_eq]
  exact each_inv (I := Up k) (fun rl _ c hc => hc.softRail now f rl) h

theorem softStop_stops {b : Block} {f rl : Nat} (hrl : rl ∈ [0, 1]) (h : Up (railOf f rl) b) (now cause : Nat) :
    ((b.softStop now f cause).rail (railOf f rl)).run = 3 := by
  rw [softStop_eq]
  exact each_reaches_of (p := fun c => (c.rail (railOf f rl)).run) (I := Up (railOf f rl)) (fun y _ c hc => hc.softRail now f y)
    (fun c hc => softRail_same hc now) (fun y _ c hc => softRail_cases hc now f y) hrl h

theorem softRails_cases {b : Block} {k : Nat} (h : Up k b) (now f : Nat) (l : List Nat) :
    ((b.each l (fun b rl => b.softRail now f rl)).rail k).run = 3 ∨
      ((b.each l (fun b rl => b.softRail now f rl)).rail k).run = (b.rail k).run := by
  refine (each_inv (I := fun d => Up k d ∧ ((d.rail k).run = 3 ∨ (d.rail k).run = (b.rail k).run)) (fun x _ d hd =>
    ⟨hd.1.softRail now f x, ?_⟩) ⟨h, .inr rfl⟩).2
  obtain h3 | hsame := softRail_cases hd.1 now f x
  · exact .inl h3
  · rw [hsame]
    exact hd.2

/-- Every field is stopped softly. -/
def allStopped (b : Block) (now cause : Nat) : Block := b.each allFields (fun b f => b.softStop now f cause)

theorem allStopped_keeps (b : Block) (now cause : Nat) : b.Keeps [.regs, .fields, .rails] (b.allStopped now cause) := by
  unfold allStopped
  simp

theorem allStopped_run {b : Block} {f rl : Nat} (hf : f ∈ allFields) (hrl : rl ∈ [0, 1]) (h : Up (railOf f rl) b) (now cause : Nat) :
    ((b.allStopped now cause).rail (railOf f rl)).run = 3 := by
  unfold allStopped
  refine each_reaches_of (p := fun c => (c.rail (railOf f rl)).run) (I := Up (railOf f rl)) (g := fun b f => b.softStop now f cause)
    (fun y _ c hc => hc.softStop now y cause)
    (fun c hc => softStop_stops hrl hc now cause) (fun y _ c hc => ?_) hf h
  have hstep : ((c.softStop now y cause).rail (railOf f rl)).run = 3 ∨
      ((c.softStop now y cause).rail (railOf f rl)).run = (c.rail (railOf f rl)).run := by
    rw [softStop_eq]
    exact softRails_cases (b := c.modFu y (fun u => { u with stopCause := cause, startQueued := false })) hc now y [0, 1]
  exact hstep

/-! ### Aborted accounts (R234) -/

/-- What the abort of an account leaves of it and of its context. -/
def acctAbort (b : Block) (n : Nat) : Nat × Nat × Nat := ((b.acct n).st, (b.acct n).abortCause, (b.ctx n).st)

theorem abortAccount_same (b : Block) (now n cause : Nat) : (b.abortAccount now n cause).acctAbort n = (2, cause, 2) := by
  have hacct : (b.abortAccount now n cause).acct n = { b.acct n with
      st := 2, abortCause := cause, updateSeq := lowBits 32 ((b.acct n).updateSeq + 1) } := by
    rw [abortAccount, (modCtx_keeps ..).acct (by decide), closeAccount, (modCtx_keeps ..).acct (by decide), changeAcct, acct_modAcct_same]
  have hctx : ((b.abortAccount now n cause).ctx n).st = 2 := congrArg Ctx.st (ctx_modCtx_same ..)
  rw [acctAbort, hacct, hctx]

theorem abortAccount_other {j n : Nat} (h : j ≠ n) (b : Block) (now cause : Nat) : (b.abortAccount now n cause).acctAbort j = b.acctAbort j := by
  rw [acctAbort, acctAbort, abortAccount, (modCtx_keeps ..).acct (by decide), closeAccount_acct_other h, ctx_modCtx_other _ _ h, closeAccount,
    ctx_modCtx_other _ _ h, changeAcct, Keeps.ctx (a := b) (S := [.accounts]) (by simp) (by decide)]

def openAccts (b : Block) : List Nat := (keysOf b.accounts).filter (fun n => (b.acct n).st == 1)

def accountsAborted (b : Block) (now cause : Nat) : Block := b.each b.openAccts (fun b n => b.abortAccount now n cause)

theorem accountsAborted_keeps (b : Block) (now cause : Nat) : b.Keeps [.ctxs, .accounts] (b.accountsAborted now cause) := by
  unfold accountsAborted
  simp

theorem accountsAborted_aborts {b : Block} {n : Nat} (h : (b.acct n).st = 1) (now cause : Nat) :
    (b.accountsAborted now cause).acctAbort n = (2, cause, 2) := by
  have hkey : n ∈ keysOf b.accounts := by
    by_contra hnot
    have hreset : b.acct n = Account.reset := mget_of_notMem hnot
    rw [hreset] at h
    exact absurd h (by decide)
  have hmem : n ∈ b.openAccts := List.mem_filter.2 ⟨hkey, by simp [h]⟩
  refine each_reaches (p := fun c => c.acctAbort n) (g := fun c n => c.abortAccount now n cause) (fun c => abortAccount_same c now n cause)
    (fun c y => ?_) hmem b
  obtain rfl | hy := eq_or_ne n y
  · exact .inl (abortAccount_same ..)
  · exact .inr (abortAccount_other hy ..)

/-! ### Restarts: what they leave of rails and of the hub -/

theorem restartRecord_keeps (b : Block) (now off : Nat) : b.Keeps [.regs, .fields, .traces, .free] (b.restartRecord now off) := by simp

theorem logEntry_keeps (b : Block) (p now off level comp code : Nat) : b.Keeps [.procs, .free] (b.logEntry p now off level comp code) := by simp

/-- What a restart of processor `p` changes of the processor itself. -/
def restartBegun (b : Block) (now off p cause : Nat) : Block :=
  b.modProc p (fun q => { q with
    st := 1, hold := b.rd HUB_FW.HOLD_TICKS 0, holdOn := true, failedStarts := 0, cause := cause, causeTick := now, causeSc := off
    restarts := lowBits 32 (q.restarts + 1), runTick := none, compDown := [], loaded := false })

/-- A restart of a field processor breaks its loops. -/
def restartBroken (b : Block) (now off p : Nat) : Block := b.cond (decide (p < 84)) (fun b => (b.breakLoops p).restartRecord now off)

def restartNoted (b : Block) (now off p cause : Nat) : Block :=
  (b.logEntry p now off 0 0 cause).monEvent now off 0x30 (procSource p) [p, cause]

theorem beginRestart_eq (b : Block) (now off p cause : Nat) :
    b.beginRestart now off p cause = ((b.restartBegun now off p cause).restartBroken now off p).restartNoted now off p cause := rfl

theorem restartNoted_keeps (b : Block) (now off p cause : Nat) : b.Keeps [.regs, .procs, .free, .mon] (b.restartNoted now off p cause) := by
  unfold restartNoted
  simp

theorem breakLoops_rails {α : Type} {g : RailSt → α} (hg : ∀ (x : RailSt) v, g { x with balBroken := v } = g x) (b : Block) (f : Nat) :
    TabSame rail g b (b.breakLoops f) := by
  have hfu (c : Block) (u : FieldUnit → FieldUnit) : TabSame rail g c (c.modFu f u) := .of_eq fun k => (modFu_keeps ..).rail (by decide) k
  have hrails (c : Block) : TabSame rail g c (c.each [0, 1] (fun b rl => b.modRail (railOf f rl) (fun r => { r with balBroken := true }))) :=
    .each (.refl c) fun d rl => .modRail (.refl d) fun x => hg x true
  unfold breakLoops
  dsimp only
  split
  · exact (hfu ..).trans (hrails _)
  · exact ((hfu ..).trans (hfu ..)).trans (hrails _)

theorem beginRestart_rails {α : Type} {g : RailSt → α} (hg : ∀ (x : RailSt) v, g { x with balBroken := v } = g x) (b : Block) (now off p cause : Nat) :
    TabSame rail g b (b.beginRestart now off p cause) := by
  rw [beginRestart_eq]
  refine .step (.cond (.of_eq fun k => (modProc_keeps ..).rail (by decide) k) fun c => ?_) fun k => (restartNoted_keeps ..).rail (by decide) k
  exact (breakLoops_rails hg c p).step fun k => (restartRecord_keeps ..).rail (by decide) k

theorem beginRestart_keeps (b : Block) (now off p cause : Nat) :
    b.Keeps [.regs, .fields, .rails, .traces, .procs, .mon, .free] (b.beginRestart now off p cause) := by simp

/-- The measurement of an image that a processor starts on. -/
def measured (b : Block) (now p : Nat) : Block :=
  (b.cond (decide (84 ≤ p) || !b.hub.rollField) (fun b => b.extend now (classReg p) (secDigest (b.imgOf p) (classSection p)))).cond
    (decide (p < 84)) (fun b => b.modHub (fun h => { h with rollField := true }))

theorem startOn_eq (b : Block) (now off p cause : Nat) (slotB : Bool) : b.startOn now off p cause slotB =
    if (b.setImage p slotB).stopped p then b.setImage p slotB else ((b.setImage p slotB).measured now p).beginRestart now off p cause := rfl

theorem measured_keeps (b : Block) (now p : Nat) : b.Keeps [.regs, .hub] (b.measured now p) := by
  unfold measured
  simp

theorem setImage_keeps (b : Block) (p : Nat) (slotB : Bool) : b.Keeps [.procs] (b.setImage p slotB) := by simp

theorem startOn_rails {α : Type} {g : RailSt → α} (hg : ∀ (x : RailSt) v, g { x with balBroken := v } = g x) (b : Block) (now off p cause : Nat)
    (slotB : Bool) : TabSame rail g b (b.startOn now off p cause slotB) := by
  have himage : TabSame rail g b (b.setImage p slotB) := .of_eq fun k => (setImage_keeps ..).rail (by decide) k
  rw [startOn_eq]
  exact .ite himage ((himage.step fun k => (measured_keeps ..).rail (by decide) k).trans (beginRestart_rails hg ..))

/-- What `g` reads of the hub is nothing that the measurement of an image writes. -/
abbrev Unmeasured {α : Type} (g : Hub → α) : Prop :=
  ∀ (x : Hub) mr counts log field, g { x with mr := mr, extends_ := counts, mlog := log, rollField := field } = g x

theorem extend_hub {α : Type} {g : Hub → α} (hg : Unmeasured g) (b : Block) (now k : Nat) (d : List Nat) : HubSame g b (b.extend now k d) := by
  unfold extend
  dsimp only
  exact HubSame.keeps (HubSame.modHub (.refl b) fun x => hg x _ _ _ x.rollField) (wr_keeps ..) (by decide)

theorem measured_hub {α : Type} {g : Hub → α} (hg : Unmeasured g) (b : Block) (now p : Nat) : HubSame g b (b.measured now p) := by
  unfold measured
  exact .cond (.cond (.refl b) fun c => extend_hub hg ..) fun c => HubSame.modHub (.refl c) fun x => hg x x.mr x.extends_ x.mlog true

theorem startOn_hub {α : Type} {g : Hub → α} (hg : Unmeasured g) (b : Block) (now off p cause : Nat) (slotB : Bool) :
    HubSame g b (b.startOn now off p cause slotB) := by
  have himage : HubSame g b (b.setImage p slotB) := (setImage_keeps ..).hubSame (by decide)
  rw [startOn_eq]
  exact .ite himage (HubSame.keeps (himage.trans (measured_hub hg ..)) (beginRestart_keeps ..) (by decide))

/-- The processors of an activation start again on the boot slot (R279). -/
def orderUndone (b : Block) (now : Nat) (useB : Bool) : Block :=
  (b.modHub (fun h => { h with order := [], rollback := [], rollField := false })).each activationOrder
    (fun b p => b.startOn now 0 p causeUpdate useB)

def activationUndone (b : Block) (now : Nat) (useB : Bool) : Block :=
  let b := b.modMon (fun m => { m with forceB := useB })
  let img := b.mon.slot useB
  let b := ((b.wr HUB_FW.ROLLOUT 0 rollStaged).wr HUB_FW.ACTIVE_VER 0 (imgVer img)).wr HUB_FW.ACTIVE_SVN 0 (imgSvn img)
  b.completeWhere now (fun w => if w = .activation then some (stUnmet, 0xFF, [0xFF]) else none)

theorem endActivation_eq (b : Block) (now : Nat) : b.endActivation now =
    if !b.activating then b else (b.orderUndone now b.mon.bootSlotB).activationUndone now b.mon.bootSlotB := rfl

theorem activationUndone_keeps (b : Block) (now : Nat) (useB : Bool) : b.Keeps [.regs, .ports, .hub, .mon] (b.activationUndone now useB) := by
  unfold activationUndone
  simp

theorem endActivation_rails {α : Type} {g : RailSt → α} (hg : ∀ (x : RailSt) v, g { x with balBroken := v } = g x) (b : Block) (now : Nat) :
    TabSame rail g b (b.endActivation now) := by
  have horder (useB : Bool) : TabSame rail g b (b.orderUndone now useB) := by
    unfold orderUndone
    exact .each (.of_eq fun k => (modHub_keeps ..).rail (by decide) k) fun c p => startOn_rails hg ..
  rw [endActivation_eq]
  exact .ite (.refl b) ((horder _).step fun k => (activationUndone_keeps ..).rail (by decide) k)

theorem activationUndone_tripRec (b : Block) (now : Nat) (useB : Bool) : HubSame Hub.tripRec b (b.activationUndone now useB) := by
  have hregs (c : Block) (ver svn : Nat) : HubSame Hub.tripRec c
      (((c.wr HUB_FW.ROLLOUT 0 rollStaged).wr HUB_FW.ACTIVE_VER 0 ver).wr HUB_FW.ACTIVE_SVN 0 svn) := Keeps.hubSame (S := [.regs]) (by simp) (by decide)
  unfold activationUndone
  dsimp only
  exact (((modMon_keeps ..).hubSame (by decide)).trans (hregs ..)).trans (hubSame_completeWhere (fun _ _ => rfl) (fun _ _ => rfl) ..)

theorem endActivation_tripRec (b : Block) (now : Nat) : HubSame Hub.tripRec b (b.endActivation now) := by
  have horder (useB : Bool) : HubSame Hub.tripRec b (b.orderUndone now useB) := by
    unfold orderUndone
    exact .each (HubSame.modHub (.refl b) fun _ => rfl) fun c p => startOn_hub (fun _ _ _ _ _ => rfl) ..
  rw [endActivation_eq]
  exact .ite (.refl b) ((horder _).trans (activationUndone_tripRec ..))

/-! ### The ramp-down (R171) -/

/-- The shutdown record, with the number of accounts aborted. -/
def shutdownRecord (r : MonRec) (n : Nat) : MonRec := { r with data := sealShutdown (r.data.take 0x2C ++ leBytes 4 n ++ r.data.drop 0x30) }

def rampStopped (b : Block) (now : Nat) : Block := b.fresh.2.allStopped now (b.fresh.1 % 16)

def rampAborted (b : Block) (now : Nat) : Block := (b.rampStopped now).accountsAborted now 3

def rampNoted (b : Block) (now : Nat) (r : MonRec) : Block :=
  ((b.rampAborted now).leaveGroup now 0 2).monRecord (shutdownRecord r (b.rampStopped now).openAccts.length)

def rampEnded (b : Block) (now : Nat) (r : MonRec) : Block :=
  ((b.rampNoted now r).modHub (fun h => { h with tripRec := none })).endActivation now

/-- The shutdown shows in HUB_THERM and waits for its acknowledgement. -/
def rampShown (b : Block) (r : MonRec) : Block :=
  let b := (b.inc HUB_THERM.SHUT_COUNT 0).wr2 HUB_THERM.SHUT_TICK_LO HUB_THERM.SHUT_TICK_HI 0 r.tick
  let b := ((b.wr HUB_THERM.SHUT_READING 0 (fieldAt r.data 0x10 2)).wr HUB_THERM.SHUT_FIELD 0 (fieldAt r.data 0x0C 1)).wr
    HUB_THERM.SHUT_KIND 0 (fieldAt r.data 0x0D 1)
  (b.wr HUB_THERM.ACK_PENDING 0 1).modMon (fun m => { m with acked := false })

theorem rampShown_keeps (b : Block) (r : MonRec) : b.Keeps [.regs, .mon] (b.rampShown r) := by
  unfold rampShown
  simp

theorem rampShown_pending (b : Block) (r : MonRec) : (b.rampShown r).bit HUB_THERM.ACK_PENDING 0 = true := by
  unfold rampShown
  dsimp only
  rw [bit, (modMon_keeps ..).rd (by decide), rd_wr_same]
  rfl

theorem rampStopped_keeps (b : Block) (now : Nat) : b.Keeps [.regs, .fields, .rails, .free] (b.rampStopped now) := by
  have hfresh : b.Keeps [.free] b.fresh.2 := by simp
  exact (hfresh.mono (by decide)).trans ((allStopped_keeps ..).mono (by decide))

theorem rampEnded_keeps (b : Block) (now : Nat) (r : MonRec) :
    (b.rampAborted now).Keeps [.regs, .fields, .rails, .ports, .traces, .ties, .procs, .mon, .hub, .free] (b.rampEnded now r) := by
  unfold rampEnded rampNoted
  simp

theorem rampEnded_tripRec (b : Block) (now : Nat) (r : MonRec) : (b.rampEnded now r).hub.tripRec = none := (endActivation_tripRec ..).eq

theorem rampNoted_keeps (b : Block) (now : Nat) (r : MonRec) :
    (b.rampStopped now).Keeps [.regs, .fields, .ports, .traces, .ties, .hub, .mon, .ctxs, .accounts] (b.rampNoted now r) := by
  unfold rampNoted rampAborted accountsAborted
  simp

theorem rampEnded_run (b : Block) (now : Nat) (r : MonRec) (k : Nat) :
    ((b.rampEnded now r).rail k).run = ((b.rampStopped now).rail k).run := by
  refine ((endActivation_rails (g := RailSt.run) (fun _ _ => rfl) ..).same k).trans ?_
  rw [(modHub_keeps ..).rail (by decide), (rampNoted_keeps ..).rail (by decide)]

theorem rampEnded_acct {b : Block} {n : Nat} (h : (b.acct n).st = 1) (now : Nat) (r : MonRec) :
    (b.rampEnded now r).acctAbort n = (2, 3, 2) := by
  have hstopped : ((b.rampStopped now).acct n).st = 1 := by rw [(rampStopped_keeps ..).acct (by decide), h]
  have habort : (b.rampAborted now).acctAbort n = (2, 3, 2) := accountsAborted_aborts hstopped now 3
  rw [← habort, acctAbort, acctAbort, (rampEnded_keeps ..).acct (by decide), (rampEnded_keeps ..).ctx (by decide)]

/-! ### The acknowledgement and the exit (R172, R372) -/

theorem enterRamp_phase (b : Block) (now : Nat) : (b.enterRamp now).rd HUB_STATE.START_PHASE 0 = 6 := by
  have hmgr (c : Block) : (c.evalMgr now).rd HUB_STATE.START_PHASE 0 = c.rd HUB_STATE.START_PHASE 0 := by
    unfold evalMgr
    dsimp only
    split
    · rfl
    · rw [rd_inc_apart (by decide), rd_wr_apart (by decide), rd_wr_apart (by decide), rd_wr_apart (by decide)]
  rw [enterRamp, hmgr, rd_modHub, rd_wr_same]
  rfl

def holdEnded (b : Block) (now : Nat) : Block :=
  ((b.modHub (fun h => { h with shutHold := false })).wr HUB_THERM.COOL_WAIT 0 0).publishLevel.enterRamp now

theorem holdEnded_hold (b : Block) (now : Nat) : (b.holdEnded now).hub.shutHold = false := by
  have hramp (c : Block) : HubSame Hub.shutHold c (c.enterRamp now) := by
    refine HubSame.keeps (HubSame.modHub (Keeps.hubSame (wr_keeps ..) (by decide)) fun _ => ?_) (evalMgr_keeps ..) (by decide)
    rfl
  rw [holdEnded, (hramp _).eq, (publishLevel_hub (g := Hub.shutHold) (fun _ _ => rfl) _).eq]
  rfl

theorem holdEnded_keeps (b : Block) (now : Nat) : b.Keeps [.regs, .hub] (b.holdEnded now) := by
  unfold holdEnded
  simp

end Block

section Shutdown

variable {f : FieldNo} {k : SensorKind} {i : SlotNo} {sc : ScOff} {x : Int} {s : State}

theorem exec_thermalShutdown_first (htrip : s.b.tripReading f k i = some x) (hnew : s.b.hub.tripped = false) :
    exec (.thermalShutdown f k i sc) s = .next { s with
      b := ((s.b.tripMarked f).tripBegun ((s.b.tripMarked f).tripRecord s.tick sc f k i x)).tripShown s.tick } := by
  have hmarked : ¬(s.b.tripMarked f).hub.tripped = true := by rw [(Block.tripMarked_keeps ..).hub (by decide), hnew]; exact Bool.false_ne_true
  show execThermalShutdown f k i sc s = _
  unfold execThermalShutdown onB
  dsimp only
  rw [htrip]
  dsimp only
  exact congrArg (fun b => Host.Outcome.next { s with b := b }) (if_neg hmarked)

theorem exec_thermalShutdown_later (htrip : s.b.tripReading f k i = some x) (hold : s.b.hub.tripped = true) :
    exec (.thermalShutdown f k i sc) s = .next { s with b := s.b.tripMarked f } := by
  have hmarked : (s.b.tripMarked f).hub.tripped = true := by rw [(Block.tripMarked_keeps ..).hub (by decide), hold]
  show execThermalShutdown f k i sc s = _
  unfold execThermalShutdown onB
  dsimp only
  rw [htrip]
  dsimp only
  exact congrArg (fun b => Host.Outcome.next { s with b := b }) (if_pos hmarked)

theorem exec_thermalShutdown_none (h : s.b.tripReading f k i = none) : exec (.thermalShutdown f k i sc) s = .next s := by
  show execThermalShutdown f k i sc s = _
  unfold execThermalShutdown onB
  dsimp only
  rw [h]

theorem exec_shutdownRampdown {r : MonRec} (hrec : s.b.hub.tripRec = some r) (hr : r.tick < s.tick) :
    exec .shutdownRampdown s = .next { s with b := (s.b.rampEnded s.tick r).rampShown r } := by
  show execShutdownRampdown s = _
  unfold execShutdownRampdown onB
  dsimp only
  rw [hrec]
  dsimp only
  rw [if_neg (Nat.not_le.2 hr)]
  rfl

theorem exec_shutdownAck {c : Cmd} (h : Passes 0x8A c s) : exec (.shutdownAck c) s = .next { s with
    b := (((s.b.begun s.tick 0x8A c).wr HUB_THERM.ACK_PENDING 0 0).modMon Monument.ack).done s.tick (portNo c.port) [] } := by
  show execShutdownAck c s = _
  rw [execShutdownAck, h.runCmdB_eq]

theorem exec_shutdownExit (hhold : s.b.hub.shutHold = true) (htrip : s.b.hub.tripped = false) (hready : s.b.exitReady = true) :
    exec .shutdownExit s = .next { s with b := s.b.holdEnded s.tick } := by
  have hexit : (s.b.hub.shutHold && !s.b.hub.tripped && s.b.exitReady) = true := by rw [hhold, htrip, hready]; rfl
  show execShutdownExit s = _
  unfold execShutdownExit onB
  dsimp only
  rw [Block.cond_of_true hexit]
  rfl

theorem exec_shutdownExit_off (h : s.b.hub.tripped = true) : exec .shutdownExit s = .next s := by
  have hexit : (s.b.hub.shutHold && !s.b.hub.tripped && s.b.exitReady) = false := by rw [h, Bool.not_true, Bool.and_false, Bool.false_and]
  show execShutdownExit s = _
  unfold execShutdownExit onB
  dsimp only
  rw [Block.cond_of_false hexit]

end Shutdown

theorem railNo_mem (rl : Rail) : railNo rl ∈ [0, 1] := by cases rl <;> decide

open Block in
/-- Settles O45. -/
theorem thermalShutdown : Obligations.ThermalShutdown := by
  unfold Obligations.ThermalShutdown
  refine ⟨fun f k i sc x s htrip hnew => ?_, fun f k i sc x s htrip hold => ?_, fun f k i sc s h => exec_thermalShutdown_none h,
    fun r s hrec hr => ?_, fun c s hpass hroom => ?_, fun s hhold htrip hready => ?_, fun s h => exec_shutdownExit_off h⟩
  · refine ⟨_, next_block (exec_thermalShutdown_first htrip hnew) rfl, inBlock_mk .., ?_, ?_, ?_, ?_, ?_, ?_⟩
    · dsimp only
      rw [(tripShown_hub (g := Hub.tripped) (fun _ _ => rfl) ..).eq]
      rfl
    · dsimp only
      rw [(tripShown_hub (g := Hub.forcedQ) (fun _ _ => rfl) ..).eq]
      rfl
    · dsimp only
      rw [(tripShown_hub (g := Hub.haltWanted) (fun _ _ => rfl) ..).eq]
      rfl
    · dsimp only
      rw [(tripShown_keeps ..).pins (by decide)]
      rfl
    · dsimp only
      rw [tripShown_bit, tripBegun, bit, rd_wr_apart (by decide), rd_modPins, rd_modHub]
      exact tripMarked_bit ..
    · dsimp only
      rw [(tripShown_hub (g := Hub.tripRec) (fun _ _ => rfl) ..).eq]
      rfl
  · exact ⟨_, exec_thermalShutdown_later htrip hold, Keeps.withBlock_eq_graft (tripMarked_keeps ..), tripMarked_bit ..⟩
  · refine ⟨_, next_block (exec_shutdownRampdown hrec hr) rfl, inBlock_mk .., ?_, rampShown_pending .., rfl, fun n hopen => ?_,
      fun f rl hrun => ?_⟩
    · dsimp only
      rw [(rampShown_keeps ..).hub (by decide), rampEnded_tripRec]
    · have habort := rampEnded_acct hopen s.tick r
      rw [acctAbort, ← (rampShown_keeps ..).acct (by decide), ← (rampShown_keeps ..).ctx (by decide)] at habort
      simpa only [Prod.mk.injEq] using habort
    · have hup : Up (railOf f (railNo rl)) s.b.fresh.2 := by
        obtain h | h := hrun
        · exact .inl h
        · exact .inr (.inl h)
      dsimp only
      rw [(rampShown_keeps ..).rail (by decide), rampEnded_run]
      exact allStopped_run (fieldNo_mem_allFields f) (railNo_mem rl) hup ..
  · have htaken : Taken 0x8A c s.tick (((s.b.begun s.tick 0x8A c).wr HUB_THERM.ACK_PENDING 0 0).modMon Monument.ack) :=
      (begun_taken 0x8A c s.tick hroom).of_keeps (S := [.regs, .mon]) (by simp) (by decide) (by decide)
    refine ⟨_, next_block (exec_shutdownAck hpass) rfl, inBlock_mk .., htaken.answered (by decide) (by decide) (by decide) s, ?_, ?_⟩
    · dsimp only
      rw [bit, done, answer_rd (by decide), (modMon_keeps ..).rd (by decide), rd_wr_same]
      rfl
    · dsimp only
      rw [done, (answer_keeps ..).mon (by decide)]
      rfl
  · exact ⟨_, next_block (exec_shutdownExit hhold htrip hready) rfl, inBlock_mk .., holdEnded_hold .., enterRamp_phase ..,
      (holdEnded_keeps ..).same .rails (by decide)⟩

end Sys2Proof.Machine
end

section
/-!
SUPPORT. Frames sent on tie lines, announced and applied steps, plumb mode and the policy.
-/

namespace Sys2Proof.Machine

open Sys2Proof

namespace Block

/-! ### Frames sent -/

theorem sendAll_keeps (b : Block) (now off : Nat) (ports : List Nat) (type : Nat) (payload : List Nat) :
    b.Keeps [.regs, .fields, .traces, .ties] (b.sendAll now off ports type payload) := by simp

theorem sendFrame_regsOff (b : Block) (now off k type : Nat) (payload : List Nat) :
    RegsOff [0x1F, 0x4B] b (b.sendFrame now off k type payload) := by
  unfold sendFrame tieRecord
  simp

theorem sendAll_regsOff (b : Block) (now off : Nat) (ports : List Nat) (type : Nat) (payload : List Nat) :
    RegsOff [0x1F, 0x4B] b (b.sendAll now off ports type payload) :=
  (regsOff_each fun b k => sendFrame_regsOff b now off k type payload).2 (.refl ..)

/-! ### Announced steps (R207, R208) -/

theorem addStep_keeps (b : Block) (now off : Nat) (x : Step) : b.Keeps [.regs, .fields, .traces, .hub] (b.addStep now off x) := by simp

theorem addStep_regsOff (b : Block) (now off : Nat) (x : Step) : RegsOff [0x1F, 0x4B] b (b.addStep now off x) := by
  unfold addStep stepRecord
  simp

/-- The step that a wafer announces. -/
def announced (b : Block) (point due : Nat) (plumb : Option Nat) (ends : Bool) : Step :=
  newStep point b.hub.stepIdNext due (scOf due 0) plumb 0 ends

/-- The step is pending, before the group hears of it. -/
def stepAdded (b : Block) (now off point due : Nat) (plumb : Option Nat) (ends : Bool) : Block :=
  (b.modHub (fun h => { h with stepIdNext := (h.stepIdNext + 1) % 256 })).addStep now off (b.announced point due plumb ends)

theorem announce_sent (b : Block) (now off point due : Nat) (plumb : Option Nat) (ends : Bool) :
    (b.stepAdded now off point due plumb ends).Keeps [.regs, .fields, .traces, .ties] (b.announce now off point due plumb ends) ∧
      RegsOff [0x1F, 0x4B] (b.stepAdded now off point due plumb ends) (b.announce now off point due plumb ends) := by
  unfold announce
  dsimp only
  split
  · exact ⟨sendAll_keeps .., sendAll_regsOff ..⟩
  · exact ⟨.refl .., .refl ..⟩

theorem announce_keeps (b : Block) (now off point due : Nat) (plumb : Option Nat) (ends : Bool) :
    b.Keeps [.regs, .fields, .traces, .ties, .hub] (b.announce now off point due plumb ends) := by simp

theorem announce_regsOff (b : Block) (now off point due : Nat) (plumb : Option Nat) (ends : Bool) :
    RegsOff [0x1F, 0x4B] b (b.announce now off point due plumb ends) := by
  refine RegsOff.trans ?_ (announce_sent ..).2
  exact ((modHub_keeps ..).regsOff (by decide) _).trans (addStep_regsOff ..)

/-- What a step put among the pending ones leaves of the hub. -/
theorem stepAdded_hub {α : Type} {g : Hub → α} (hs : ∀ (x : Hub) v, g { x with steps := v } = g x)
    (hw : ∀ (x : Hub) v, g { x with waitSteps := v } = g x) (hi : ∀ (x : Hub) v, g { x with stepIdNext := v } = g x) (b : Block)
    (now off point due : Nat) (plumb : Option Nat) (ends : Bool) : HubSame g b (b.stepAdded now off point due plumb ends) := by
  have hid : HubSame g b (b.modHub (fun h => { h with stepIdNext := (h.stepIdNext + 1) % 256 })) := .modHub (.refl b) fun x => hi x _
  unfold stepAdded addStep stepRecord
  dsimp only
  refine HubSame.keeps (HubSame.modHub hid fun x => ?_) (record_keeps ..) (by decide)
  split
  · exact hs x _
  · exact hw x _

theorem announce_hub {α : Type} {g : Hub → α} (hs : ∀ (x : Hub) v, g { x with steps := v } = g x)
    (hw : ∀ (x : Hub) v, g { x with waitSteps := v } = g x) (hi : ∀ (x : Hub) v, g { x with stepIdNext := v } = g x) (b : Block)
    (now off point due : Nat) (plumb : Option Nat) (ends : Bool) : HubSame g b (b.announce now off point due plumb ends) :=
  HubSame.keeps (stepAdded_hub hs hw hi ..) (announce_sent ..).1 (by decide)

theorem length_of_stepRoom {b : Block} {due : Nat} (h : b.stepRoom due = true) : b.hub.steps.length < 2 := by
  rw [stepRoom] at h
  split at h
  · next hlast => rw [List.getLast?_eq_none_iff.1 hlast]; decide
  · exact of_decide_eq_true ((Bool.and_eq_true_iff.1 h).1)

theorem announce_steps {b : Block} {due : Nat} (h : b.stepRoom due = true) (now off point : Nat) (plumb : Option Nat) (ends : Bool) :
    (b.announce now off point due plumb ends).hub.steps = b.hub.steps ++ [b.announced point due plumb ends] := by
  rw [(announce_sent ..).1.hub (by decide), stepAdded, addStep, stepRecord, (record_keeps ..).hub (by decide)]
  exact congrArg Hub.steps (if_pos (length_of_stepRoom h))

/-! ### Applied steps (R206) -/

/-- The clock's point and counts. -/
def stepCounted (b : Block) (x : Step) : Block :=
  (((b.wr HUB_LOCK.POINT 0 x.point).wr HUB_LOCK.STEP_ID 0 x.stepId).inc HUB_LOCK.STEPS 0).cond x.late (fun b => b.inc HUB_LOCK.LATE_STEPS 0)

/-- The step is in force, and the next waiting one pending. -/
def stepTaken (b : Block) (now : Nat) (x : Step) : Block :=
  (b.stepCounted x).modHub (fun h => { h with
    steps := h.steps.drop 1 ++ h.waitSteps.take 1, waitSteps := h.waitSteps.drop 1, stepTick := some now, stepOld := b.point })

/-- The fields take their numbers of the new point, and the group hears of the step. -/
def stepTold (b : Block) (now : Nat) (x : Step) : Block :=
  (((b.stepTaken now x).stepRecord now 0 x.late.toNat x.plumb.toNat x.point b.point x.stepId now).each allFields
    (fun b f => b.shapeNumbers f)).reportStep now x

def stepPlumb (b : Block) (now : Nat) (x : Step) : Block :=
  if x.plumb then
    ((b.wr HUB_CONTOUR.PLUMB_POINT 0 x.point).wr HUB_CONTOUR.PLUMB_POWER 0 x.plumbPower).modHub (fun h => { h with plumbDue := some (now + 1) })
  else b.modHub (fun h => { h with plumbOffAt := if x.off || b.bit HUB_CONTOUR.PLUMB_ON 0 then some now else h.plumbOffAt })

/-- The answer of the command that waits for a step. -/
def stepAnswer (now : Nat) (x : Step) : Wait → Option (Nat × Nat × List Nat)
  | .step byTick id => if id = x.stepId then some (stDone, 0, [if byTick then lowBits 32 now else id]) else none
  | _ => none

def stepEnded (b : Block) (now : Nat) (x : Step) : Block :=
  let b := b.completeWhere now (stepAnswer now x)
  if b.hub.joinPoint = some x.point then b.joined now else b

theorem applyStep_eq (b : Block) (now : Nat) (x : Step) :
    b.applyStep now x = ((b.stepTold now x).stepPlumb now x).stepEnded now x := rfl

theorem stepCounted_rd (b : Block) {x : Step} (hx : x.point < 32) : (b.stepCounted x).rd HUB_LOCK.POINT 0 = x.point ∧
    (b.stepCounted x).rd HUB_LOCK.STEPS 0 = (b.rd HUB_LOCK.STEPS 0 + 1) % 2 ^ HUB_LOCK.STEPS.width := by
  unfold stepCounted
  constructor
  · rw [rd_cond fun _ => rd_inc_apart (by decide) .., rd_inc_apart (by decide), rd_wr_apart (by decide), rd_wr_same]
    exact Nat.mod_eq_of_lt hx
  · rw [rd_cond fun _ => rd_inc_apart (by decide) ..]
    refine (rd_inc_same _ HUB_LOCK.STEPS 0).trans ?_
    rw [rd_wr_apart (by decide), rd_wr_apart (by decide)]

theorem countDones_rd {x : Fld} (hx : HUB_LOCK.LAST_SKEW.apart x = true ∧ HUB_LOCK.MEMBERS.apart x = true) (b : Block) (i : Nat) :
    b.countDones.rd x i = b.rd x i := by
  unfold countDones
  dsimp only
  rw [rd_wr_apart hx.2, rd_wr_apart hx.1, rd_modHub]

/-- The fields that a report of a step writes. -/
def stepSkews : List Fld := [HUB_LOCK.LAST_SKEW, HUB_LOCK.MEMBERS, HUB_LOCK.SKEW_EVENTS]

theorem reportStep_rd {x : Fld} (hx : stepSkews.all (fun y => y.apart x) = true ∧ x.Fits ∧ x.page ∉ [0x1F, 0x4B]) (b : Block) (now : Nat) (y : Step)
    (i : Nat) : (b.reportStep now y).rd x i = b.rd x i := by
  obtain ⟨hskews, hpage⟩ := hx
  simp only [stepSkews, List.all_cons, List.all_nil, Bool.and_true, Bool.and_eq_true] at hskews
  obtain ⟨hlast, hmembers, hevents⟩ := hskews
  have hfresh : (if y.kind = 1 then b.fresh else (0, b)).2.rd x i = b.rd x i := by split <;> rfl
  unfold reportStep
  split
  · exact countDones_rd ⟨hlast, hmembers⟩ ..
  · dsimp only
    split
    · rfl
    · rw [(sendAll_regsOff ..).rd hpage, rd_cond fun c => (rd_fault ..).trans (rd_inc_apart hevents ..), rd_wr_apart hlast]
      exact hfresh

theorem shapeNumbers_regsOff (b : Block) (f : Nat) : RegsOff [0x45] b (b.shapeNumbers f) := by
  unfold shapeNumbers
  simp (disch := decide)

theorem stepTold_rd {x : Fld} (hx : stepSkews.all (fun y => y.apart x) = true ∧ x.Fits ∧ x.page ∉ [0x1F, 0x4B, 0x45]) (b : Block) (now : Nat)
    (y : Step) (i : Nat) : (b.stepTold now y).rd x i = (b.stepCounted y).rd x i := by
  obtain ⟨hskews, hfits, hpage⟩ := hx
  have hrecord : x.page ∉ [0x1F, 0x4B] := fun h => hpage (by simp at h ⊢; omega)
  have hshape : x.page ∉ [0x45] := fun h => hpage (by simp at h ⊢; omega)
  have hshapes (c : Block) : RegsOff [0x45] c (c.each allFields (fun b f => b.shapeNumbers f)) :=
    (regsOff_each fun b f => shapeNumbers_regsOff b f).2 (.refl ..)
  rw [stepTold, reportStep_rd ⟨hskews, hfits, hrecord⟩, (hshapes _).rd ⟨hfits, hshape⟩, stepRecord, rd_record ⟨hfits, hrecord⟩, stepTaken, rd_modHub]

theorem stepPlumb_regsOff (b : Block) (now : Nat) (x : Step) : RegsOff [0x28] b (b.stepPlumb now x) := by
  unfold stepPlumb
  split
  · simp (disch := decide)
  · simp

theorem stepEnded_rd {x : Fld} (hx : HUB_LOCK.JOINING.apart x = true ∧ x.Fits ∧ x.page ∉ windowPages) (b : Block) (now : Nat) (y : Step) (i : Nat) :
    (b.stepEnded now y).rd x i = b.rd x i := by
  have hcomplete (c : Block) (g : Wait → Option (Nat × Nat × List Nat)) : (c.completeWhere now g).rd x i = c.rd x i :=
    ((regsOff_completeWhere (List.Subset.refl _) now g).2 (.refl ..)).rd hx.2 i
  unfold stepEnded
  dsimp only
  split
  · rw [joined, hcomplete, rd_wr_apart hx.1, rd_modHub, hcomplete]
  · exact hcomplete ..

theorem applyStep_rd (b : Block) (now : Nat) {x : Step} (hx : x.point < 32) : (b.applyStep now x).point = x.point ∧
    (b.applyStep now x).rd HUB_LOCK.STEPS 0 = (b.rd HUB_LOCK.STEPS 0 + 1) % 2 ^ HUB_LOCK.STEPS.width := by
  obtain ⟨hpoint, hsteps⟩ := stepCounted_rd b hx
  rw [point, applyStep_eq]
  constructor
  · rw [stepEnded_rd (by decide), (stepPlumb_regsOff ..).rd (by decide), stepTold_rd (by decide), hpoint]
  · rw [stepEnded_rd (by decide), (stepPlumb_regsOff ..).rd (by decide), stepTold_rd (by decide), hsteps]

/-- The pending steps of the hub, and the tick of the last one. -/
def stepState (h : Hub) : List Step × Option Nat := (h.steps, h.stepTick)

theorem stepTold_hub (b : Block) (now : Nat) (x : Step) : HubSame stepState (b.stepTaken now x) (b.stepTold now x) := by
  have hdones (c : Block) : HubSame stepState c c.countDones := by
    unfold countDones
    dsimp only
    refine HubSame.keeps (HubSame.modHub (.refl c) fun _ => ?_) ((wr_keeps ..).trans (wr_keeps ..)) (by decide)
    rfl
  have hreport (c : Block) : HubSame stepState c (c.reportStep now x) := by
    unfold reportStep
    split
    · exact hdones c
    · dsimp only
      split
      · exact .refl c
      · refine HubSame.keeps ?_ (sendAll_keeps ..) (by decide)
        exact Keeps.hubSame (S := [.regs, .free, .fields, .faults]) (by split <;> simp) (by decide)
  have hrecord (c : Block) (p : Nat) : c.Keeps [.regs, .fields, .traces]
      ((c.stepRecord now 0 x.late.toNat x.plumb.toNat x.point p x.stepId now).each allFields (fun b f => b.shapeNumbers f)) := by
    unfold stepRecord
    simp
  exact ((hrecord ..).hubSame (by decide)).trans (hreport _)

theorem stepPlumb_hub (b : Block) (now : Nat) (x : Step) : HubSame stepState b (b.stepPlumb now x) := by
  unfold stepPlumb
  split
  · refine HubSame.modHub (Keeps.hubSame (S := [.regs]) (by simp) (by decide)) fun _ => ?_
    rfl
  · refine HubSame.modHub (.refl b) fun _ => ?_
    rfl

theorem completeWhere_stepState (b : Block) (now : Nat) (g : Wait → Option (Nat × Nat × List Nat)) : HubSame stepState b (b.completeWhere now g) :=
  hubSame_completeWhere (fun _ _ => rfl) (fun _ _ => rfl) ..

theorem stepEnded_hub (b : Block) (now : Nat) (x : Step) : HubSame stepState b (b.stepEnded now x) := by
  unfold stepEnded
  dsimp only
  split
  · refine (completeWhere_stepState b now (stepAnswer now x)).trans (.trans ?_ (completeWhere_stepState ..))
    refine HubSame.keeps (HubSame.modHub (.refl _) fun _ => ?_) (wr_keeps ..) (by decide)
    rfl
  · exact completeWhere_stepState ..

theorem applyStep_stepState (b : Block) (now : Nat) (x : Step) :
    stepState (b.applyStep now x).hub = (b.hub.steps.drop 1 ++ b.hub.waitSteps.take 1, some now) := by
  have hcounted : b.Keeps [.regs] (b.stepCounted x) := by
    unfold stepCounted
    simp
  rw [applyStep_eq, (stepEnded_hub ..).eq, (stepPlumb_hub ..).eq, (stepTold_hub ..).eq, ← hcounted.hub (by decide)]
  rfl

theorem applyStep_keeps (b : Block) (now : Nat) (x : Step) :
    b.Keeps [.regs, .fields, .ports, .traces, .ties, .hub, .faults, .free] (b.applyStep now x) := by simp

/-! ### Plumb mode (R222, R223) -/

/-- The rate, the refill and whether plumb mode is unmet, from the grade's figures (R223). -/
structure PlumbFigures where
  q : Nat
  refill : Nat
  unmet : Bool

/-- The free value that stands for a quotient by 0. -/
def plumbFresh (b : Block) : Nat × Block := if b.rd (HUB_CONTOUR.GRADE_DYN b.point) 0 = 0 then b.fresh else (0, b)

def plumbFigures (b : Block) : PlumbFigures :=
  let idle := b.rd (HUB_CONTOUR.GRADE_IDLE b.point) 0
  let dyn := b.rd (HUB_CONTOUR.GRADE_DYN b.point) 0
  let named := b.rd HUB_CONTOUR.PLUMB_POWER 0
  let power := if b.rd HUB_LOCK.ROLE 0 = 2 then min named (min (b.capMs / 10000) (b.rd HUB_CAP.PCAP_S 0)) else named
  let c := b.plumbFresh.2
  let q1 := plumbQ1 power (c.overhead / 10000) idle dyn b.plumbFresh.1
  let q2 := plumbQ2 idle dyn (c.lowestSus F_LIMIT.SUS_CORE) (c.lowestSus F_LIMIT.SUS_SRAM)
  let q := (clampI (min q1 (max 1 q2 : Nat)) 1 64).toNat
  { q := q, refill := (idle * 64 + dyn * q + 31999) / 32000, unmet := decide (q1 < 1) || q2 == 0 }

def plumbBegun (b : Block) (x : PlumbFigures) : Block :=
  (((b.wr HUB_CONTOUR.PLUMB_Q 0 x.q).wr HUB_CONTOUR.PLUMB_REFILL 0 x.refill).wr HUB_CONTOUR.PLUMB_ON 0 1).modHub (fun h => { h with
    plumbDue := none })

def plumbEntered (b : Block) (now : Nat) (x : PlumbFigures) : Block :=
  (b.plumbBegun x).completeWhere now (fun w => if w = .plumb then
    some (if x.unmet then stUnmet else stDone, 0, [x.refill % 65536 * 65536 + x.q]) else none)

theorem clampI_bounds (v : Int) : 1 ≤ (clampI v 1 64).toNat ∧ (clampI v 1 64).toNat ≤ 64 := by
  unfold clampI
  omega

theorem plumbFigures_q (b : Block) : 1 ≤ b.plumbFigures.q ∧ b.plumbFigures.q ≤ 64 := clampI_bounds _

theorem plumbEntered_off (b : Block) (now : Nat) (x : PlumbFigures) : RegsOff windowPages (b.plumbBegun x) (b.plumbEntered now x) :=
  (regsOff_completeWhere (List.Subset.refl _) ..).2 (.refl ..)

theorem plumbEntered_keeps (b : Block) (now : Nat) (x : PlumbFigures) : b.Keeps [.regs, .ports, .hub] (b.plumbEntered now x) := by
  unfold plumbEntered plumbBegun
  simp

theorem plumbEntered_on (b : Block) (now : Nat) (x : PlumbFigures) : (b.plumbEntered now x).bit HUB_CONTOUR.PLUMB_ON 0 = true := by
  rw [(plumbEntered_off ..).bit (by decide), plumbBegun, bit, rd_modHub, rd_wr_same]
  rfl

theorem plumbEntered_q (b : Block) (now : Nat) {x : PlumbFigures} (hx : x.q ≤ 64) : (b.plumbEntered now x).rd HUB_CONTOUR.PLUMB_Q 0 = x.q := by
  rw [(plumbEntered_off ..).rd (by decide), plumbBegun, rd_modHub, rd_wr_apart (by decide), rd_wr_apart (by decide), rd_wr_same]
  exact Nat.mod_eq_of_lt (Nat.lt_of_le_of_lt hx (by decide))

theorem plumbEntered_due (b : Block) (now : Nat) (x : PlumbFigures) : (b.plumbEntered now x).hub.plumbDue = none :=
  (hubSame_completeWhere (g := Hub.plumbDue) (fun _ _ => rfl) (fun _ _ => rfl) ..).eq

theorem plumbFresh_keeps (b : Block) : b.Keeps [.free] b.plumbFresh.2 := by
  unfold plumbFresh
  split <;> simp

/-! ### The policy (R97, R212) -/

def policyNoted (b : Block) (now : Nat) : Block := b.modHub (fun h => { h with policyTick := some now })

/-- What the policy wants as the next point. -/
def policyPoint (b : Block) : Nat := (b.policyTarget.toList ++ b.hub.requests).foldl min b.lastPoint

/-- A member asks its owner for a lower point. -/
def policyAsked (b : Block) (now : Nat) : Block :=
  if b.policyTarget.isSome ∧ b.point ≠ 0 then
    b.sendAll now 0 b.upPort.toList 0x15 ([b.rd HUB_LOCK.GROUP 0, b.point - 1, 0, 0] ++ leBytes 4 b.nv.waferId)
  else b

/-- Outside a member, the policy announces a lower point. -/
def policyStepped (b : Block) (now : Nat) : Block :=
  if b.policyPoint < b.lastPoint then
    if b.stepRoom (now + b.stepLead) then
      (b.modHub (fun h => { h with requests := [] })).announce now 0 b.policyPoint (now + b.stepLead) none false
    else b
  else b.modHub (fun h => { h with requests := [] })

def policyDone (b : Block) (now : Nat) : Block :=
  if b.rd HUB_LOCK.ROLE 0 = 2 then b.policyAsked now
  else if b.bit HUB_LOCK.FROZEN 0 || b.bit HUB_CONTOUR.PLUMB_ON 0 then b else b.policyStepped now

/-- A block whose policy ran at `now`, with the point and the agents of `b`. -/
structure PolicyRan (now : Nat) (b c : Block) : Prop where
  tick : HubSame Hub.policyTick b c
  agents : c.agents = b.agents
  point : c.point = b.point

theorem PolicyRan.of_off {b c : Block} {S : List Part} {now : Nat} (htick : HubSame Hub.policyTick b c) (hk : b.Keeps S c) (hS : .agents ∉ S)
    (hoff : RegsOff [0x1F, 0x4B] b c) : PolicyRan now b c := ⟨htick, hk.same .agents hS, hoff.rd (by decide) 0⟩

theorem policyDone_ran (b : Block) (now : Nat) : PolicyRan now b (b.policyDone now) := by
  have hrefl : PolicyRan now b b := ⟨.refl b, rfl, rfl⟩
  have hclear : PolicyRan now b (b.modHub (fun h => { h with requests := [] })) := ⟨⟨fun _ => rfl⟩, rfl, rfl⟩
  unfold policyDone
  split
  · unfold policyAsked
    split
    · exact .of_off ((sendAll_keeps ..).hubSame (by decide)) (sendAll_keeps ..) (by decide) (sendAll_regsOff ..)
    · exact hrefl
  · split
    · exact hrefl
    · unfold policyStepped
      split
      · split
        · have hannounce : PolicyRan now (b.modHub (fun h => { h with requests := [] }))
              ((b.modHub (fun h => { h with requests := [] })).announce now 0 b.policyPoint (now + b.stepLead) none false) :=
            .of_off (announce_hub (fun _ _ => rfl) (fun _ _ => rfl) (fun _ _ => rfl) ..) (announce_keeps ..) (by decide) (announce_regsOff ..)
          exact ⟨hclear.tick.trans hannounce.tick, hannounce.agents.trans hclear.agents, hannounce.point.trans hclear.point⟩
        · exact hrefl
      · exact hclear

end Block

section Contour

variable {x : Step} {r : List Step} {s : State} {n : Nat}

theorem exec_contourStepApply_ready (hsteps : s.b.hub.steps = x :: r) (hdue : x.due ≤ s.tick) (hready : s.b.stepReady x = true) :
    exec .contourStepApply s = .next { s with b := s.b.applyStep s.tick { x with late := x.late || decide (x.due < s.tick) } } := by
  show execContourStepApply s = _
  unfold execContourStepApply onB
  dsimp only
  rw [hsteps]
  dsimp only
  rw [if_neg (Nat.not_lt.2 hdue), if_pos hready]

theorem exec_contourStepApply_late (hsteps : s.b.hub.steps = x :: r) (hdue : x.due ≤ s.tick) (hready : s.b.stepReady x = false) :
    exec .contourStepApply s = .next { s with b := s.b.modHub (fun h => { h with steps := { x with late := true } :: r }) } := by
  show execContourStepApply s = _
  unfold execContourStepApply onB
  dsimp only
  rw [hsteps]
  dsimp only
  rw [if_neg (Nat.not_lt.2 hdue), if_neg (by rw [hready]; exact Bool.false_ne_true)]

theorem exec_contourStepApply_early (hsteps : s.b.hub.steps = x :: r) (hdue : s.tick < x.due) : exec .contourStepApply s = .next s := by
  show execContourStepApply s = _
  unfold execContourStepApply onB
  dsimp only
  rw [hsteps]
  dsimp only
  rw [if_pos hdue]

theorem exec_pllLock (hsteps : s.b.hub.steps = x :: r) :
    exec .pllLock s = .next { s with b := { s.b with hub := { s.b.hub with steps := { x with pllLocked := true } :: r } } } := by
  show execPllLock s = _
  unfold execPllLock onB Block.modHub
  dsimp only
  rw [hsteps]

theorem exec_pllLock_none (h : s.b.hub.steps = []) : exec .pllLock s = .next s := by
  show execPllLock s = _
  unfold execPllLock onB Block.modHub
  dsimp only
  rw [h]

theorem exec_contourStepApply_none (h : s.b.hub.steps = []) : exec .contourStepApply s = .next s := by
  show execContourStepApply s = _
  unfold execContourStepApply onB
  dsimp only
  rw [h]

theorem exec_plumbEntry (hdue : s.b.hub.plumbDue = some n) (hn : n ≤ s.tick) :
    exec .plumbEntry s = .next { s with b := s.b.plumbFresh.2.plumbEntered s.tick s.b.plumbFigures } := by
  show execPlumbEntry s = _
  unfold execPlumbEntry onB
  dsimp only
  rw [hdue]
  dsimp only
  rw [if_neg (Nat.not_lt.2 hn)]
  rfl

theorem exec_plumbEntry_none (h : s.b.hub.plumbDue = none) : exec .plumbEntry s = .next s := by
  show execPlumbEntry s = _
  unfold execPlumbEntry onB
  dsimp only
  rw [h]

/-- The last evaluation was less than 4,096 ticks ago. -/
def policyEarly (s : State) : Bool := match s.b.hub.policyTick with
  | some t => decide (s.tick < t + 4096)
  | none => false

theorem exec_policyEval_eq (s : State) : exec .policyEval s = .next { s with
    b := if policyEarly s || (s.b.proc 84).st ≠ 0 then s.b else (s.b.policyNoted s.tick).policyDone s.tick } := rfl

theorem exec_policyEval (hlate : ∀ n, s.b.hub.policyTick = some n → n + 4096 ≤ s.tick) (hst : (s.b.proc 84).st = 0) :
    exec .policyEval s = .next { s with b := (s.b.policyNoted s.tick).policyDone s.tick } := by
  have hearly : policyEarly s = false := by
    unfold policyEarly
    split
    · next n hn => exact decide_eq_false (Nat.not_lt.2 (hlate n hn))
    · rfl
  rw [exec_policyEval_eq, hearly, hst]
  rfl

theorem exec_policyEval_early (htick : s.b.hub.policyTick = some n) (hn : s.tick < n + 4096) : exec .policyEval s = .next s := by
  have hearly : policyEarly s = true := by rw [policyEarly, htick]; exact decide_eq_true hn
  rw [exec_policyEval_eq, hearly]
  rfl

end Contour

open Block in
/-- Settles O46. -/
theorem contourEvents : Obligations.ContourEvents := by
  unfold Obligations.ContourEvents
  refine ⟨fun x r s h => exec_pllLock h, fun s h => ⟨exec_pllLock_none h, exec_contourStepApply_none h⟩,
    fun x r s hsteps hdue hready hpoint => ?_, fun x r s hsteps hdue hready => exec_contourStepApply_late hsteps hdue hready,
    fun x r s hsteps hdue => exec_contourStepApply_early hsteps hdue, fun n s hdue hn => ?_, fun s h => exec_plumbEntry_none h,
    fun s hlate hst => ?_, fun p due s hlate hst hrole hfrozen hplumb hp hlow hdue hroom => ?_,
    fun n s htick hn => exec_policyEval_early htick hn⟩
  · obtain ⟨hpt, hcount⟩ := applyStep_rd s.b s.tick (x := { x with late := x.late || decide (x.due < s.tick) }) (by show x.point < 32; omega)
    have hstate := applyStep_stepState s.b s.tick { x with late := x.late || decide (x.due < s.tick) }
    simp only [stepState, Prod.mk.injEq, hsteps, List.drop_succ_cons, List.drop_zero] at hstate
    exact ⟨_, next_block (exec_contourStepApply_ready hsteps hdue hready) rfl, inBlock_mk .., hpt, hstate.1, hcount, hstate.2,
      (applyStep_keeps ..).same .agents (by decide)⟩
  · obtain ⟨hmin, hmax⟩ := plumbFigures_q s.b
    refine ⟨_, next_block (exec_plumbEntry hdue hn) rfl, inBlock_mk .., plumbEntered_on .., plumbEntered_due .., ?_, ?_, ?_⟩
    · dsimp only
      rw [plumbEntered_q _ _ hmax]
      exact hmin
    · dsimp only
      rw [plumbEntered_q _ _ hmax]
      exact hmax
    · exact Eq.trans ((plumbEntered_keeps ..).same .agents (by decide)) ((plumbFresh_keeps ..).same .agents (by decide))
  · obtain ⟨htick, hagents, hpoint⟩ := policyDone_ran (s.b.policyNoted s.tick) s.tick
    exact ⟨_, next_block (exec_policyEval hlate hst) rfl, inBlock_mk .., htick.eq, hagents, hpoint⟩
  · have hstepped : (s.b.policyNoted s.tick).policyDone s.tick =
        ((s.b.policyNoted s.tick).modHub (fun h => { h with requests := [] })).announce s.tick 0 p due none false := by
      have hrole' : (s.b.policyNoted s.tick).rd HUB_LOCK.ROLE 0 ≠ 2 := hrole
      have hfree : ¬((s.b.policyNoted s.tick).bit HUB_LOCK.FROZEN 0 || (s.b.policyNoted s.tick).bit HUB_CONTOUR.PLUMB_ON 0) = true := by
        show ¬(s.b.bit HUB_LOCK.FROZEN 0 || s.b.bit HUB_CONTOUR.PLUMB_ON 0) = true
        rw [hfrozen, hplumb]
        exact Bool.false_ne_true
      have hp' : (s.b.policyNoted s.tick).policyPoint = p := hp.symm
      have hdue' : s.tick + (s.b.policyNoted s.tick).stepLead = due := hdue.symm
      have hlow' : p < (s.b.policyNoted s.tick).lastPoint := hlow
      have hroom' : (s.b.policyNoted s.tick).stepRoom due = true := hroom
      rw [policyDone, if_neg hrole', if_neg hfree, policyStepped, hp', hdue', if_pos hlow', if_pos hroom']
    have hroom' : ((s.b.policyNoted s.tick).modHub (fun h => { h with requests := [] })).stepRoom due = true := hroom
    refine ⟨_, next_block (exec_policyEval hlate hst) hstepped, inBlock_mk .., ?_, ?_⟩
    · exact (announce_hub (g := Hub.requests) (fun _ _ => rfl) (fun _ _ => rfl) (fun _ _ => rfl) ..).eq
    · exact announce_steps hroom' ..

end Sys2Proof.Machine
end

section
/-!
SUPPORT. LOCK_LEAVE while a LOCK_JOIN still waits and the journal has room for one entry: the join's CONFLICT takes the room, and the leave's
status is owed.
-/

namespace Sys2Proof.Machine

open Sys2Proof

/-- LOCK_LEAVE from the host. -/
def leaveCmd : Cmd := { port := .host, seq := 0, opts := 0, args := Vector.replicate 15 0, sc := 0 }

/-- A LOCK_JOIN that waits for its group's point. -/
def joinFlight : Flight :=
  { seqNo := 0, opts := 0, op := 0x30, args := [], res := 0, submitTick := 0, begun := true, accepted := true, wait := .join, owed := [] }

def waitingEntry : JEntry :=
  { tick := 0, cmdSeq := 0, opcode := 0, options := 0, status := 0, flags := 0, detail := 0, arg0 := 0, digest := 0, submitTick := 0, jseq := 0 }

/-- The owner of group 1, with a LOCK_JOIN waiting on the debug port and 15 entries for the journal. -/
def crowdedLeave : State := { State.reset with
  b := ((((Block.reset.wr HUB_STATE.MGR_STATE 0 4).wr HUB_LOCK.GROUP 0 1).wr HUB_LOCK.ROLE 0 1).setPort 2 { flight := some joinFlight }).modHub
    (fun h => { h with staged := List.replicate 15 waitingEntry }) }

theorem crowdedLeave_passes : Passes 0x31 leaveCmd crowdedLeave where
  idle := rfl
  owners := rfl
  legal := rfl
  words := rfl
  buf := rfl
  fields := fun _ h => nomatch h

/-- The command is still in flight after its row: the CONFLICT of the join is the journal's 16th entry, so that DONE waits (R389). -/
theorem crowdedLeave_inFlight : ∃ t, exec (.lockLeave leaveCmd) crowdedLeave = .next t ∧ (t.b.port 0).flight.isSome = true := ⟨_, rfl, rfl⟩

/-- Refutes O47: a LOCK_LEAVE that finds 15 staged entries is not answered in its step, where a LOCK_JOIN that it ends takes the last room. -/
theorem not_contourAndLockCommands : ¬ Obligations.ContourAndLockCommands := by
  unfold Obligations.ContourAndLockCommands
  rintro ⟨-, -, -, -, -, -, -, hleave⟩
  obtain ⟨t, hexec, -, hanswered, -, -⟩ := hleave leaveCmd crowdedLeave crowdedLeave_passes (.inl rfl) (by decide) (by decide)
  obtain ⟨u, hexec', hflight⟩ := crowdedLeave_inFlight
  obtain rfl := Host.Outcome.next.inj (hexec.symm.trans hexec')
  rw [show (t.b.port 0).flight = none from hanswered.1] at hflight
  exact Bool.false_ne_true hflight

end Sys2Proof.Machine
end

section
/-!
SUPPORT. Frames on a port, and the bring-up of a port.
-/

namespace Sys2Proof.Machine

open Sys2Proof

/-- The registers of port `k` that its bring-up writes, and FROZEN. -/
def tieFlds (k : Nat) : List Fld :=
  [HUB_TIE.STATE k, HUB_TIE.D_VALID k, HUB_TIE.FAR_ID k, HUB_TIE.FAR_PORT k, HUB_TIE.FAR_GRADE k, HUB_TIE.LATENCY k, HUB_TIE.D_LO k, HUB_TIE.D_HI k,
   HUB_TIE.CRC_ERRS k, HUB_TIE.DOWN_EVENTS k, HUB_TIE.UP_TICK k]

theorem tieFlds_fit : ∀ k < 6, ∀ x ∈ tieFlds k, x.Fits ∧ x.page = 0x1E := by decide

theorem tieFlds_apart : ∀ k < 6, (tieFlds k).Pairwise (fun x y => x.apart y = true ∧ y.apart x = true) := by decide

namespace Block

variable {k : Nat}

/-! ### A frame sent on port `k` -/

theorem sendFrame_keeps (b : Block) (now off k type : Nat) (payload : List Nat) :
    b.Keeps [.regs, .fields, .traces, .ties] (b.sendFrame now off k type payload) := by simp

theorem tieRecord_keeps (b : Block) (now off code k type seqNo : Nat) : b.Keeps [.regs, .fields, .traces] (b.tieRecord now off code k type seqNo) := by
  simp

theorem tieRecord_regsOff (b : Block) (now off code k type seqNo : Nat) : RegsOff [0x1F, 0x4B] b (b.tieRecord now off code k type seqNo) := by
  unfold tieRecord
  simp

theorem sendFrame_tie (b : Block) (now off k type : Nat) (payload : List Nat) : (b.sendFrame now off k type payload).tie k = { b.tie k with
    txSeq := ((b.tie k).txSeq + 1) % 256, sent := (frameChars type (b.tie k).txSeq payload :: (b.tie k).sent).take 16 } := by
  unfold sendFrame
  dsimp only
  rw [(tieRecord_keeps ..).tie (by decide), tie_modTie_same]

theorem sendFrame_tie_other {j k : Nat} (h : j ≠ k) (b : Block) (now off type : Nat) (payload : List Nat) :
    (b.sendFrame now off k type payload).tie j = b.tie j := by
  unfold sendFrame
  dsimp only
  rw [(tieRecord_keeps ..).tie (by decide), tie_modTie_other _ _ h]

/-- What no frame changes of a register of the tie lines. -/
theorem tie_rd_of_off {b c : Block} (h : RegsOff [0x1F, 0x4B] b c) (hk : k < 6) {x : Fld} (hx : x ∈ tieFlds k) (i : Nat) : c.rd x i = b.rd x i := by
  obtain ⟨hfits, hpage⟩ := tieFlds_fit k hk x hx
  exact h.rd ⟨hfits, by rw [hpage]; decide⟩ i

theorem tieSt_of_off {b c : Block} (h : RegsOff [0x1F, 0x4B] b c) (hk : k < 6) : c.tieSt k = b.tieSt k :=
  tie_rd_of_off h hk (by simp [tieFlds]) 0

theorem tieSt_sendFrame (hk : k < 6) (b : Block) (now off j type : Nat) (payload : List Nat) : (b.sendFrame now off j type payload).tieSt k = b.tieSt k :=
  tieSt_of_off (sendFrame_regsOff ..) hk

/-! ### A frame received on port `k` (R255) -/

/-- A frame is accepted. -/
def heard (b : Block) (now off k type seqNo : Nat) : Block := (b.modTie k (fun t => { t with heard := now })).tieRecord now off 0x21 k type seqNo

theorem receive_of_mem {b : Block} {l : List Nat} (h : l.contains (b.tieSt k) = true) (now off type seqNo : Nat) (g : Block → Block) :
    b.receive now off k type seqNo l g = g (b.heard now off k type seqNo) := if_pos h

theorem receive_of_notMem {b : Block} {l : List Nat} (h : l.contains (b.tieSt k) = false) (now off type seqNo : Nat) (g : Block → Block) :
    b.receive now off k type seqNo l g = b := if_neg (by rw [h]; exact Bool.false_ne_true)

theorem heard_regsOff (b : Block) (now off k type seqNo : Nat) : RegsOff [0x1F, 0x4B] b (b.heard now off k type seqNo) :=
  ((modTie_keeps ..).regsOff (by decide) _).trans (tieRecord_regsOff ..)

theorem heard_keeps (b : Block) (now off k type seqNo : Nat) : b.Keeps [.regs, .fields, .traces, .ties] (b.heard now off k type seqNo) := by
  unfold heard
  simp

theorem heard_tie (b : Block) (now off k type seqNo : Nat) : (b.heard now off k type seqNo).tie k = { b.tie k with heard := now } := by
  rw [heard, (tieRecord_keeps ..).tie (by decide), tie_modTie_same]

theorem heard_tie_other {j k : Nat} (h : j ≠ k) (b : Block) (now off type seqNo : Nat) : (b.heard now off k type seqNo).tie j = b.tie j := by
  rw [heard, (tieRecord_keeps ..).tie (by decide), tie_modTie_other _ _ h]


/-! ### Writes of a port's registers -/

section Writes

variable {x y : Nat → Fld} (h : ∀ k < 6, (x k).apart (y k) = true) (hk : k < 6) (b : Block) (i j v : Nat)
include h hk

theorem rd_wr_tie : (b.wr (x k) i v).rd (y k) j = b.rd (y k) j := rd_wr_apart (h k hk) ..

theorem rd_inc_tie : (b.inc (x k) i).rd (y k) j = b.rd (y k) j := rd_wr_apart (h k hk) ..

theorem bit_wr_tie : (b.wr (x k) i v).bit (y k) j = b.bit (y k) j := bit_wr_apart (h k hk) ..

theorem bit_inc_tie : (b.inc (x k) i).bit (y k) j = b.bit (y k) j := bit_wr_apart (h k hk) ..

end Writes

theorem tieSt_wr_same (b : Block) (k : Nat) {v : Nat} (hv : v ≤ 4) : (b.wr (HUB_TIE.STATE k) 0 v).tieSt k = v :=
  (rd_wr_same ..).trans (Nat.mod_eq_of_lt (Nat.lt_of_le_of_lt hv (by decide : 4 < 2 ^ (HUB_TIE.STATE 0).width)))

/-! ### HELLO -/

/-- What a HELLO names. -/
def farNamed (b : Block) (k id port grade : Nat) : Block :=
  ((b.wr (HUB_TIE.FAR_ID k) 0 id).wr (HUB_TIE.FAR_PORT k) 0 port).wr (HUB_TIE.FAR_GRADE k) 0 grade

theorem farNamed_tieSt (hk : k < 6) (b : Block) (id port grade : Nat) : (b.farNamed k id port grade).tieSt k = b.tieSt k := by
  unfold farNamed tieSt
  rw [rd_wr_tie (by decide) hk, rd_wr_tie (by decide) hk, rd_wr_tie (by decide) hk]

theorem farNamed_farId (hk : k < 6) (b : Block) {id : Nat} (hid : id < 2 ^ 32) (port grade : Nat) :
    (b.farNamed k id port grade).rd (HUB_TIE.FAR_ID k) 0 = id := by
  unfold farNamed
  rw [rd_wr_tie (by decide) hk, rd_wr_tie (by decide) hk, rd_wr_same]
  exact Nat.mod_eq_of_lt hid

/-- The port begins its probe rounds. -/
def probing (b : Block) (now off k : Nat) : Block :=
  ((b.wr (HUB_TIE.STATE k) 0 tieProbe).modTie k (fun t => { t with rounds := [], failures := 0 })).sendProbe now off k

theorem probing_tieSt (hk : k < 6) (b : Block) (now off : Nat) : (b.probing now off k).tieSt k = tieProbe := by
  rw [probing, sendProbe, tieSt_sendFrame hk]
  exact tieSt_wr_same b k (v := tieProbe) (by decide)

theorem probing_tie (b : Block) (now off k : Nat) : ((b.probing now off k).tie k).heard = (b.tie k).heard ∧ ((b.probing now off k).tie k).failures = 0 := by
  rw [probing, sendProbe, sendFrame_tie, tie_modTie_same]
  exact ⟨rfl, rfl⟩

theorem probing_farId (hk : k < 6) (b : Block) (now off : Nat) : (b.probing now off k).rd (HUB_TIE.FAR_ID k) 0 = b.rd (HUB_TIE.FAR_ID k) 0 := by
  rw [probing, sendProbe, tie_rd_of_off (sendFrame_regsOff ..) hk (by simp [tieFlds]), rd_modTie, rd_wr_tie (by decide) hk]

/-! ### Restored ports, and frozen groups -/

theorem sendAll_off {P : List Nat} (h : [0x1F, 0x4B] ⊆ P) (b : Block) (now off : Nat) (ports : List Nat) (type : Nat) (payload : List Nat) :
    RegsOff P b (b.sendAll now off ports type payload) := (sendAll_regsOff ..).mono h

theorem countThaw_regsOff (b : Block) (now off : Nat) : RegsOff [0x1D, 0x1F, 0x4B] b (b.countThaw now off) := by
  unfold countThaw
  dsimp only
  split
  · refine RegsOff.trans ?_ (sendAll_off (by decide) ..)
    exact ((modHub_keeps ..).regsOff (by decide) _).trans
      (((regsOff_wr (by decide) ..).2 (.refl ..)).trans ((modHub_keeps ..).regsOff (by decide) _))
  · exact (modHub_keeps ..).regsOff (by decide) _

theorem sendThaw_regsOff (b : Block) (now off : Nat) : RegsOff [0x1D, 0x1F, 0x4B] b (b.sendThaw now off) := by
  unfold sendThaw
  split
  · exact countThaw_regsOff ..
  · exact sendAll_off (by decide) ..

theorem restorePort_regsOff (b : Block) (now off k : Nat) : RegsOff [0x1D, 0x1F, 0x4B] b (b.restorePort now off k) := by
  unfold restorePort
  split
  · exact .refl ..
  · dsimp only
    refine RegsOff.trans ?_ (sendThaw_regsOff ..)
    exact (regsOff_cond fun c => (sendFrame_regsOff ..).mono (by decide)).2 ((modTie_keeps ..).regsOff (by decide) _)

theorem freezeGroup_regsOff (b : Block) (now off k who : Nat) : RegsOff [0x1D, 0x1F, 0x4B] b (b.freezeGroup now off k who) := by
  unfold freezeGroup
  dsimp only
  refine RegsOff.trans ?_ (sendAll_off (by decide) ..)
  refine (regsOff_cond fun c => (modHub_keeps ..).regsOff (by decide) _).2 ?_
  split
  · exact .refl ..
  · exact (regsOff_inc (by decide) ..).2 ((regsOff_wr (by decide) ..).2 (.refl ..))

/-- A register of a port that neither a frame nor the group's state touches. -/
theorem tie_rd_of_group {b c : Block} (h : RegsOff [0x1D, 0x1F, 0x4B] b c) (hk : k < 6) {x : Fld} (hx : x ∈ tieFlds k) (i : Nat) : c.rd x i = b.rd x i := by
  obtain ⟨hfits, hpage⟩ := tieFlds_fit k hk x hx
  exact h.rd ⟨hfits, by rw [hpage]; decide⟩ i

/-! ### TIMESTAMP -/

/-- The offset that a TIMESTAMP gives, valid. -/
def offsetKept (b : Block) (k v : Nat) : Block := (b.wr2 (HUB_TIE.D_LO k) (HUB_TIE.D_HI k) 0 v).wr (HUB_TIE.D_VALID k) 0 1

/-- The port is UP. -/
def madeUp (b : Block) (now off k : Nat) : Block :=
  if b.tieSt k = tieUp then b else ((b.wr (HUB_TIE.STATE k) 0 tieUp).wr (HUB_TIE.UP_TICK k) 0 now).restorePort now off k

theorem madeUp_tieSt (hk : k < 6) (b : Block) (now off : Nat) : (b.madeUp now off k).tieSt k = tieUp := by
  unfold madeUp
  split
  · assumption
  · rw [tieSt, tie_rd_of_group (restorePort_regsOff ..) hk (by simp [tieFlds]), rd_wr_tie (by decide) hk]
    exact tieSt_wr_same b k (by decide)

theorem madeUp_rd (hk : k < 6) {x : Nat → Fld} (hx : ∀ k < 6, x k ∈ tieFlds k ∧ (HUB_TIE.STATE k).apart (x k) = true ∧ (HUB_TIE.UP_TICK k).apart (x k) = true)
    (b : Block) (now off i : Nat) : (b.madeUp now off k).rd (x k) i = b.rd (x k) i := by
  obtain ⟨hmem, -⟩ := hx k hk
  unfold madeUp
  split
  · rfl
  · rw [tie_rd_of_group (restorePort_regsOff ..) hk hmem, rd_wr_tie (fun k hk => (hx k hk).2.2) hk, rd_wr_tie (fun k hk => (hx k hk).2.1) hk]

theorem offsetKept_bit (b : Block) (k v : Nat) : (b.offsetKept k v).bit (HUB_TIE.D_VALID k) 0 = true := by
  rw [offsetKept, bit, rd_wr_same]
  rfl

theorem offsetKept_rd2 (hk : k < 6) (b : Block) {v : Nat} (hv : v < 2 ^ 64) :
    (b.offsetKept k v).rd2 (HUB_TIE.D_LO k) (HUB_TIE.D_HI k) 0 = v := by
  unfold offsetKept rd2 wr2
  rw [rd_wr_tie (by decide) hk, rd_wr_tie (by decide) hk, rd_wr_same, rd_wr_tie (by decide) hk, rd_wr_same]
  dsimp only [HUB_TIE.D_LO, HUB_TIE.D_HI]
  omega

/-! ### A port that goes DOWN -/

/-- The port's registers. -/
def tieCut (b : Block) (k : Nat) : Block :=
  ((b.wr (HUB_TIE.STATE k) 0 tieDown).wr (HUB_TIE.D_VALID k) 0 0).inc (HUB_TIE.DOWN_EVENTS k) 0

theorem portDown_regsOff (b : Block) (now off k : Nat) : RegsOff [0x1D, 0x1F, 0x4B] (b.tieCut k) (b.portDown now off k) := by
  unfold portDown
  dsimp only
  split
  · exact RegsOff.trans (((modTie_keeps ..).trans (modTie_keeps ..)).regsOff (by decide) _) (freezeGroup_regsOff ..)
  · exact (modTie_keeps ..).regsOff (by decide) _

theorem tieCut_tieSt (hk : k < 6) (b : Block) : (b.tieCut k).tieSt k = tieDown := by
  rw [tieCut, tieSt, rd_inc_tie (by decide) hk, rd_wr_tie (by decide) hk]
  exact tieSt_wr_same b k (by decide)

theorem tieCut_bit (hk : k < 6) (b : Block) : (b.tieCut k).bit (HUB_TIE.D_VALID k) 0 = false := by
  rw [tieCut, bit_inc_tie (by decide) hk, bit, rd_wr_same]
  rfl

theorem portDown_keeps (b : Block) (now off k : Nat) : b.Keeps [.regs, .fields, .traces, .ties, .hub] (b.portDown now off k) := by simp

/-! ### ECHO -/

/-- A round of the probe stage, twice its latency. -/
def echoRound (now : Nat) (sc : ScOff) (t1 t2 t3 : TieTime) : Int := (scOf now sc - TieTime.sc t1) - (TieTime.sc t3 - TieTime.sc t2)

/-- A round before the sixteenth is kept and the next one begins. -/
def roundKept (b : Block) (now : Nat) (sc : ScOff) (k : Nat) (l : List Int) : Block := (b.modTie k (fun t => { t with rounds := l })).sendProbe now sc k

/-- The rounds spread too far: the attempt has failed, and the fourth is the last. -/
def attemptFailed (b : Block) (now : Nat) (sc : ScOff) (k : Nat) : Block :=
  let c := b.modTie k (fun t => { t with rounds := [], failures := t.failures + 1 })
  c.cond (decide ((c.tie k).failures < 4)) (fun b => b.sendProbe now sc k)

/-- The sixteenth round gives the latency. -/
def latencyKept (b : Block) (k : Nat) (l : List Int) : Block :=
  (b.modTie k (fun t => { t with rounds := l })).wr (HUB_TIE.LATENCY k) 0 ((l.sum + 16) / 32).toNat

theorem roundKept_rounds (b : Block) (now : Nat) (sc : ScOff) (k : Nat) (l : List Int) : ((b.roundKept now sc k l).tie k).rounds = l := by
  rw [roundKept, sendProbe, sendFrame_tie, tie_modTie_same]

theorem attemptFailed_tie (b : Block) (now : Nat) (sc : ScOff) (k : Nat) :
    ((b.attemptFailed now sc k).tie k).rounds = [] ∧ ((b.attemptFailed now sc k).tie k).failures = (b.tie k).failures + 1 := by
  have hfailed : (b.modTie k (fun t => { t with rounds := [], failures := t.failures + 1 })).tie k =
      { b.tie k with rounds := [], failures := (b.tie k).failures + 1 } := tie_modTie_same ..
  unfold attemptFailed cond
  dsimp only
  split
  · rw [sendProbe, sendFrame_tie, hfailed]
    exact ⟨rfl, rfl⟩
  · rw [hfailed]
    exact ⟨rfl, rfl⟩

theorem latencyKept_rounds (b : Block) (k : Nat) (l : List Int) : ((b.latencyKept k l).tie k).rounds = l := by
  rw [latencyKept, (wr_keeps ..).tie (by decide), tie_modTie_same]

/-! ### TIMESTAMP_SEND -/

def stampsSent (b : Block) (now : Nat) (sc : ScOff) : Block :=
  b.each ((List.range 6).filter b.tieActive) (fun b k => b.sendFrame now sc k 0x01 (timeBytes (scOf now sc)))

def crcRestarted (b : Block) : Block := b.each (List.range 6) (fun b k => b.modTie k (fun t => { t with crcInPeriod := 0 }))

theorem stampsSent_txSeq (b : Block) (now : Nat) (sc : ScOff) (hk : k < 6) (h : b.tieActive k = true) :
    ((b.stampsSent now sc).tie k).txSeq = ((b.tie k).txSeq + 1) % 256 :=
  each_once (g := fun b k => b.sendFrame now sc k 0x01 (timeBytes (scOf now sc))) (l := (List.range 6).filter b.tieActive) (x := k)
    (p := fun b => (b.tie k).txSeq) (h := fun n => (n + 1) % 256) (fun _ => congrArg Tie.txSeq (sendFrame_tie ..))
    (fun _ _ hne => congrArg Tie.txSeq (sendFrame_tie_other hne.symm ..)) (List.nodup_range.filter _)
    (List.mem_filter.2 ⟨List.mem_range.2 hk, h⟩) b

theorem crcRestarted_txSeq (b : Block) (k : Nat) : (b.crcRestarted.tie k).txSeq = (b.tie k).txSeq := by
  refine each_inv (I := fun c => (c.tie k).txSeq = (b.tie k).txSeq) (fun j _ c hc => ?_) rfl
  obtain rfl | hne := eq_or_ne k j
  · rw [tie_modTie_same]
    exact hc
  · rw [tie_modTie_other _ _ hne]
    exact hc

theorem crcRestarted_crc (b : Block) (hk : k < 6) : (b.crcRestarted.tie k).crcInPeriod = 0 := by
  refine each_reaches (p := fun c => (c.tie k).crcInPeriod) (x := k) (fun c => ?_) (fun c j => ?_) (List.mem_range.2 hk) b
  · exact congrArg Tie.crcInPeriod (tie_modTie_same ..)
  · obtain rfl | hne := eq_or_ne k j
    · exact .inl (congrArg Tie.crcInPeriod (tie_modTie_same ..))
    · exact .inr (congrArg Tie.crcInPeriod (tie_modTie_other _ _ hne))

theorem stamps_keeps (b : Block) (now : Nat) (sc : ScOff) : b.Keeps [.regs, .fields, .traces, .ties] (b.stampsSent now sc).crcRestarted := by
  unfold crcRestarted stampsSent
  simp

end Block

section Rows

variable {k : TieNo} {s : State}

theorem exec_tieAlign (hen : s.b.flag HUB_TIE.PORT_EN 0 k = true) (hst : s.b.tieSt k = tieAlign') : exec (.tieAlign k) s = .next { s with
    b := (s.b.wr (HUB_TIE.STATE k) 0 tieHello).sendFrame s.tick 0 k 0x04 (leBytes 4 s.b.nv.waferId ++ [k.val, s.b.nv.grade, 0, 0]) } := by
  show execTieAlign k s = _
  unfold execTieAlign onB
  dsimp only
  rw [if_pos (by rw [hen, hst]; rfl)]

theorem exec_hello (q : Byte) (id : Word) (port grade : Byte) (sc : ScOff) (hst : s.b.tieSt k = tieHello) :
    exec (.hello k q id port grade sc) s = .next { s with
      b := ((s.b.farNamed k id.toNat port.toNat grade.toNat).heard s.tick sc k 0x04 q.toNat).probing s.tick sc k } := by
  show execHello k q id port grade sc s = _
  unfold execHello onB
  dsimp only
  rw [if_neg (not_not.2 hst)]
  refine next_block rfl (Block.receive_of_mem ?_ ..)
  have hnamed := Block.farNamed_tieSt k.isLt s.b id.toNat port.toNat grade.toNat
  rw [Block.farNamed, hst] at hnamed
  rw [hnamed]
  rfl

theorem exec_probe (q : Byte) (t1 : TieTime) (sc : ScOff) (hst : s.b.tieSt k = tieUp ∨ s.b.tieSt k = tieProbe) :
    exec (.probe k q t1 sc) s = .next { s with
      b := (s.b.heard s.tick sc k 0x02 q.toNat).sendFrame s.tick sc k 0x03
        (timeBytes (TieTime.sc t1) ++ timeBytes (scOf s.tick sc) ++ timeBytes (scOf s.tick sc)) } := by
  refine next_block (s := s) rfl (Block.receive_of_mem ?_ ..)
  rcases hst with h | h <;> (rw [h]; rfl)

/-- ECHO of a probing port, before its round is judged. -/
theorem exec_echo_eq (q : Byte) (t1 t2 t3 : TieTime) (sc : ScOff) (hst : s.b.tieSt k = tieProbe) (hlen : (s.b.tie k).rounds.length < 16) :
    exec (.echo k q t1 t2 t3 sc) s = .next { s with
      b := if ((s.b.tie k).rounds ++ [Block.echoRound s.tick sc t1 t2 t3]).length < 16 then
          (s.b.heard s.tick sc k 0x03 q.toNat).roundKept s.tick sc k ((s.b.tie k).rounds ++ [Block.echoRound s.tick sc t1 t2 t3])
        else if 16 < spreadOf ((s.b.tie k).rounds ++ [Block.echoRound s.tick sc t1 t2 t3]) then
          (s.b.heard s.tick sc k 0x03 q.toNat).attemptFailed s.tick sc k
        else (s.b.heard s.tick sc k 0x03 q.toNat).latencyKept k ((s.b.tie k).rounds ++ [Block.echoRound s.tick sc t1 t2 t3]) } := by
  have hheard : ((s.b.heard s.tick sc k 0x03 q.toNat).tie k).rounds = (s.b.tie k).rounds := by
    rw [Block.heard_tie]
  refine next_block (s := s) rfl ((Block.receive_of_mem (by rw [hst]; rfl) ..).trans ?_)
  dsimp only
  rw [hheard, if_neg (Nat.not_le.2 hlen)]
  rfl

theorem exec_timestampSend (sc : ScOff) (s : State) : exec (.timestampSend sc) s = .next { s with
    b := (s.b.stampsSent s.tick sc).crcRestarted } := rfl

theorem exec_timestamp (q : Byte) (x : TieTime) (sc : ScOff) (hactive : s.b.tieActive k = true) :
    exec (.timestamp k q x sc) s = .next { s with b := ((s.b.heard s.tick sc k 0x01 q.toNat).offsetKept k
      (toCode 64 (scOf s.tick sc - Int.ofNat (s.b.rd (HUB_TIE.LATENCY k) 0) - TieTime.sc x))).madeUp s.tick sc k } := by
  have hst : [tieProbe, tieUp].contains (s.b.tieSt k) = true := by
    simp only [Block.tieActive, Bool.or_eq_true, Bool.and_eq_true, beq_iff_eq] at hactive
    rcases hactive with h | ⟨h, -⟩ <;> (rw [h]; rfl)
  have hlat : (s.b.heard s.tick sc k 0x01 q.toNat).rd (HUB_TIE.LATENCY k) 0 = s.b.rd (HUB_TIE.LATENCY k) 0 :=
    Block.tie_rd_of_off (Block.heard_regsOff ..) k.isLt (by simp [tieFlds]) 0
  show execTimestamp k q x sc s = _
  unfold execTimestamp onB
  dsimp only
  rw [if_neg (by rw [hactive]; decide), Block.receive_of_mem hst, hlat]
  rfl

theorem exec_tieCrcError (k : TieNo) (s : State) : exec (.tieCrcError k) s = .next { s with
    b := (s.b.inc (HUB_TIE.CRC_ERRS k) 0).modTie k (fun t => { t with crcInPeriod := t.crcInPeriod + 1 }) } := rfl

/-- The cause of a port that goes DOWN holds. -/
def downHolds (s : State) (k : TieNo) : TieDownCause → Prop
  | .alignment => tieHello ≤ s.b.tieSt k
  | .silence => tieHello ≤ s.b.tieSt k ∧ (s.b.tie k).heard + s.b.rd HUB_TIE.SILENCE_TICKS 0 ≤ s.tick
  | .crc => 16 ≤ (s.b.tie k).crcInPeriod
  | .probe => 4 ≤ (s.b.tie k).failures

theorem exec_tiePortDown {why : TieDownCause} (hst : s.b.tieSt k ≠ tieDown) (h : downHolds s k why) :
    exec (.tiePortDown k why) s = .next { s with b := (s.b.portDown s.tick 0 k).fault 20 255 k 0 } := by
  show execTiePortDown k why s = _
  unfold execTiePortDown onB
  dsimp only
  rw [if_neg]
  rintro (hdown | hcause)
  · exact hst hdown
  · cases why <;> simp_all [downHolds]

theorem exec_tiePortDown_down (why : TieDownCause) (hst : s.b.tieSt k = tieDown) : exec (.tiePortDown k why) s = .next s := by
  show execTiePortDown k why s = _
  unfold execTiePortDown onB
  dsimp only
  rw [if_pos (.inl hst)]

end Rows

open Block in
/-- Settles O48. -/
theorem tieLineBringUp : Obligations.TieLineBringUp := by
  unfold Obligations.TieLineBringUp
  refine ⟨fun k s hen hst => ?_, fun k q id port grade sc s hst => ?_, fun k q t1 sc s hst => ?_, fun k q t1 t2 t3 sc s hst hlen => ?_,
    fun k q t1 t2 t3 sc l s hst hlen hl => ?_, fun sc s => ?_, fun k q x sc s hactive => ?_, fun k s => ?_, fun k why s hst hcause => ?_,
    fun k why s hst => exec_tiePortDown_down why hst⟩
  · refine ⟨_, next_block (exec_tieAlign hen hst) rfl, inBlock_mk .., ?_, ?_, ?_⟩
    · exact (tieSt_sendFrame k.isLt ..).trans (tieSt_wr_same s.b k (v := tieHello) (by decide))
    · exact (sendFrame_keeps ..).hub (by decide)
    · exact congrArg Tie.txSeq (sendFrame_tie ..)
  · obtain ⟨hheard, hfailures⟩ := probing_tie ((s.b.farNamed k id.toNat port.toNat grade.toNat).heard s.tick sc k 0x04 q.toNat) s.tick sc k
    refine ⟨_, next_block (exec_hello q id port grade sc hst) rfl, inBlock_mk .., probing_tieSt k.isLt .., ?_, hfailures, ?_⟩
    · exact hheard.trans (congrArg Tie.heard (heard_tie ..))
    · dsimp only
      rw [probing_farId k.isLt, tie_rd_of_off (heard_regsOff ..) k.isLt (by simp [tieFlds]), farNamed_farId k.isLt _ id.isLt]
  · refine ⟨_, next_block (exec_probe q t1 sc hst) rfl, inBlock_mk .., ?_, ?_, ?_⟩
    · dsimp only
      rw [sendFrame_tie, heard_tie]
    · dsimp only
      rw [sendFrame_tie, heard_tie]
    · exact (tieSt_sendFrame k.isLt ..).trans (tieSt_of_off (heard_regsOff ..) k.isLt)
  · have hshort : ((s.b.tie k).rounds ++ [echoRound s.tick sc t1 t2 t3]).length < 16 := by
      rw [List.length_append, List.length_singleton]
      omega
    refine ⟨_, next_block (exec_echo_eq q t1 t2 t3 sc hst (by omega)) (if_pos hshort), inBlock_mk .., ?_⟩
    exact roundKept_rounds ..
  · have hfull : ¬(s.b.tie k).rounds.length + 1 < 16 := by omega
    have hround : (s.b.tie k).rounds ++ [echoRound s.tick sc t1 t2 t3] = l := hl.symm
    have hexec := exec_echo_eq q t1 t2 t3 sc hst (by omega)
    rw [if_neg (by rwa [List.length_append, List.length_singleton]), hround] at hexec
    refine ⟨_, next_block hexec rfl, inBlock_mk .., fun hspread => ?_, fun hspread => ?_⟩
    · dsimp only
      rw [if_neg (Int.not_lt.2 hspread)]
      exact ⟨latencyKept_rounds .., rd_wr_same ..⟩
    · dsimp only
      rw [if_pos hspread]
      obtain ⟨hrounds, hfailures⟩ := attemptFailed_tie (s.b.heard s.tick sc k 0x03 q.toNat) s.tick sc k
      exact ⟨hrounds, hfailures.trans (congrArg (·.failures + 1) (heard_tie ..))⟩
  · refine ⟨_, next_block (exec_timestampSend sc s) rfl, inBlock_mk .., (stamps_keeps ..).hub (by decide), fun k => ?_⟩
    exact ⟨crcRestarted_crc _ k.isLt, fun h => (crcRestarted_txSeq ..).trans (stampsSent_txSeq _ _ _ k.isLt h)⟩
  · refine ⟨_, next_block (exec_timestamp q x sc hactive) rfl, inBlock_mk .., ?_, madeUp_tieSt k.isLt .., ?_⟩
    · dsimp only
      rw [bit, madeUp_rd k.isLt (by decide)]
      exact offsetKept_bit ..
    · dsimp only
      rw [rd2, madeUp_rd k.isLt (by decide), madeUp_rd k.isLt (by decide)]
      exact offsetKept_rd2 k.isLt _ (by unfold toCode; omega)
  · refine ⟨_, next_block (exec_tieCrcError k s) rfl, ?_, tie_modTie_same .., ?_, ?_, fun j hj => ?_⟩
    · exact Keeps.withBlock_eq_graft (S := [.regs, .ties]) (by simp)
    · exact rd_inc_same ..
    · exact (regsBut_modTie ..).2 ((regsBut_inc (by simp)).2 (.refl _ _))
    · exact tie_modTie_other _ _ hj
  · have hholds : downHolds s k why := by cases why <;> exact hcause
    refine ⟨_, next_block (exec_tiePortDown hst hholds) rfl, inBlock_mk .., ?_, ?_, ?_⟩
    · dsimp only
      rw [tieSt, rd_fault, tie_rd_of_group (portDown_regsOff ..) k.isLt (by simp [tieFlds])]
      exact tieCut_tieSt k.isLt ..
    · dsimp only
      rw [bit, rd_fault, tie_rd_of_group (portDown_regsOff ..) k.isLt (by simp [tieFlds])]
      exact tieCut_bit k.isLt ..
    · dsimp only
      rw [faults_fault, (portDown_keeps ..).faults (by decide)]
      exact congrArg (fun n => s.b.faults ++ [{ src := 20, field := 255, detail := n, off := 0 }]) (Nat.mod_eq_of_lt (by have := k.isLt; omega : k.val < 2 ^ 16))

end Sys2Proof.Machine
end

section
/-!
SUPPORT. Frames of a lock group.
-/

namespace Sys2Proof.Machine

open Sys2Proof

namespace Block

variable {b c : Block} {k now off : Nat}

/-! ### Registers of the group that frames leave alone -/

theorem point_of_off (h : RegsOff [0x1F, 0x4B] b c) : c.point = b.point := h.rd (by decide) 0

theorem upPort_of_off (h : RegsOff [0x1F, 0x4B] b c) : c.upPort = b.upPort := by rw [upPort, upPort, h.rd (by decide), h.rd (by decide)]

theorem flag_of_off {P : List Nat} (h : RegsOff P b c) {x : Fld} (hx : x.Fits ∧ x.page ∉ P) (i j : Nat) : c.flag x i j = b.flag x i j := by
  rw [flag, flag, h.rd hx]

theorem upPort_eq_some {up : Nat} (h : b.upPort = some up) : b.rd HUB_LOCK.ROLE 0 = 2 := by
  unfold upPort at h
  split at h
  · assumption
  · cases h

theorem learn_keeps (b : Block) (id : Nat) : b.Keeps [.hub] (b.learn id) := by simp

theorem learn_hub {α : Type} {g : Hub → α} (hg : ∀ (x : Hub) v, g { x with known := v } = g x) (b : Block) (id : Nat) : HubSame g b (b.learn id) := by
  unfold learn
  split
  · exact .refl b
  · exact HubSame.modHub (.refl b) fun x => hg x _

theorem heard_hub (b : Block) (now off k type q : Nat) : (b.heard now off k type q).hub = b.hub := (heard_keeps ..).hub (by decide)

/-! ### Frames that need H0 (R276) -/

theorem forH0_waits (h : (b.proc 84).st ≠ 0) (x : HeldFrame) : b.forH0 now off k x = b.modTie k (fun t => { t with rx := (t.rx ++ [x]).take 16 }) :=
  if_neg h

theorem forH0_taken (h : (b.proc 84).st = 0) (x : HeldFrame) : b.forH0 now off k x = b.takeHeld now off k x := if_pos h

theorem heard_forH0_waits (h : (b.proc 84).st ≠ 0) (hlen : (b.tie k).rx.length < 16) (type q : Nat) (x : HeldFrame) :
    ((b.heard now off k type q).forH0 now off k x).hub = b.hub ∧
      (((b.heard now off k type q).forH0 now off k x).tie k).rx = (b.tie k).rx ++ [x] ∧
      (((b.heard now off k type q).forH0 now off k x).tie k).heard = now := by
  rw [forH0_waits (by rwa [(heard_keeps ..).proc (by decide)]), tie_modTie_same, heard_tie]
  exact ⟨heard_hub .., List.take_of_length_le (by simpa using hlen), rfl⟩

/-! ### JOIN (R210) -/

/-- A member is taken: its port is a down port, and it is known. -/
def memberTaken (b : Block) (k id : Nat) : Block := (b.setFlag HUB_LOCK.DOWN_PORTS 0 k true).learn id

/-- The answer to a JOIN that is accepted. -/
def joinAnswered (b : Block) (now off k g id : Nat) : Block :=
  (b.memberTaken k id).sendFrame now off k 0x11
    ([g, 0, (b.memberTaken k id).point, (b.memberTaken k id).rd HUB_CONTOUR.PLUMB_ON 0] ++ leBytes 4 ((b.memberTaken k id).rd HUB_LOCK.OWNER_ID 0))

theorem takeJoin_accepted {g : Nat} (hg : b.rd HUB_LOCK.GROUP 0 = g) (hne : g ≠ 0) (hdepth : b.rd HUB_LOCK.DEPTH 0 < 4) (hsize : b.groupSize < 32)
    (hsteps : b.hub.steps = []) (hwait : b.hub.waitSteps = []) (id : Nat) : b.takeJoin now off k g id = b.joinAnswered now off k g id := by
  have hresult : (if b.rd HUB_LOCK.GROUP 0 ≠ g ∨ g = 0 then 1 else if 4 ≤ b.rd HUB_LOCK.DEPTH 0 then 2
      else if 32 ≤ b.groupSize ∧ !b.hub.known.contains id then 3 else 0) = 0 := by
    rw [if_neg (by simp [hg, hne]), if_neg (by omega), if_neg (by omega)]
  have htaken : (b.memberTaken k id).hub.steps ++ (b.memberTaken k id).hub.waitSteps = [] := by
    rw [memberTaken, (learn_hub (g := Hub.steps) (fun _ _ => rfl) (b.setFlag HUB_LOCK.DOWN_PORTS 0 k true) id).eq,
      (learn_hub (g := Hub.waitSteps) (fun _ _ => rfl) (b.setFlag HUB_LOCK.DOWN_PORTS 0 k true) id).eq]
    show b.hub.steps ++ b.hub.waitSteps = []
    rw [hsteps, hwait]
    rfl
  unfold takeJoin
  rw [hresult]
  have hhub : (b.joinAnswered now off k g id).hub = (b.memberTaken k id).hub := (sendFrame_keeps ..).hub (by decide)
  show (b.joinAnswered now off k g id).each ((b.joinAnswered now off k g id).hub.steps ++ (b.joinAnswered now off k g id).hub.waitSteps) _ = _
  rw [hhub, htaken]
  rfl

theorem joinAnswered_flag (hk : k < 6) (b : Block) (now off g id : Nat) : (b.joinAnswered now off k g id).flag HUB_LOCK.DOWN_PORTS 0 k = true := by
  rw [joinAnswered, flag_of_off (sendFrame_regsOff ..) (by decide), memberTaken, (learn_keeps ..).flag (by decide),
    flag_setFlag_true (show k < HUB_LOCK.DOWN_PORTS.width from hk), decide_eq_true rfl, Bool.or_true]

theorem joinAnswered_txSeq (b : Block) (now off k g id : Nat) : ((b.joinAnswered now off k g id).tie k).txSeq = ((b.tie k).txSeq + 1) % 256 := by
  rw [joinAnswered, sendFrame_tie, memberTaken, (learn_keeps ..).tie (by decide)]
  rfl

/-! ### LEAVE (R211) -/

theorem takeLeave_down {g : Nat} (hg : b.rd HUB_LOCK.GROUP 0 = g) (hne : g ≠ 0) (hdown : b.flag HUB_LOCK.DOWN_PORTS 0 k = true) (cause id : Nat) :
    b.takeLeave now off k g cause id = ((b.setFlag HUB_LOCK.DOWN_PORTS 0 k false).modTie k (fun t => { t with lost := false })).modHub
      (fun h => { h with known := h.known.filter (· != id) }) := by
  unfold takeLeave
  rw [if_neg (by simp [hg, hne]), if_pos hdown]

theorem takeLeave_up {g : Nat} (hg : b.rd HUB_LOCK.GROUP 0 = g) (hne : g ≠ 0) (hdown : b.flag HUB_LOCK.DOWN_PORTS 0 k = false)
    (hup : b.upPort = some k) (cause id : Nat) :
    b.takeLeave now off k g cause id = (b.sendAll now off b.downPorts 0x12 ([g, cause, 0, 0] ++ leBytes 4 id)).outsideGroup now := by
  unfold takeLeave
  rw [if_neg (by simp [hg, hne]), if_neg (by rw [hdown]; exact Bool.false_ne_true), if_pos hup]

theorem downPort_cleared (hk : k < 6) (b : Block) : (b.setFlag HUB_LOCK.DOWN_PORTS 0 k false).flag HUB_LOCK.DOWN_PORTS 0 k = false := by
  rw [flag_setFlag_false (show k < HUB_LOCK.DOWN_PORTS.width from hk)]
  simp

/-- The group's registers of a wafer outside every group. -/
def groupCleared (b : Block) : Block :=
  b.each [HUB_LOCK.GROUP, HUB_LOCK.ROLE, HUB_LOCK.FROZEN, HUB_LOCK.JOINING, HUB_LOCK.DEPTH, HUB_LOCK.DOWN_PORTS, HUB_LOCK.OWNER_ID]
    (fun b x => b.wr x 0 0)

theorem groupCleared_rd (b : Block) : b.groupCleared.rd HUB_LOCK.GROUP 0 = 0 ∧ b.groupCleared.rd HUB_LOCK.ROLE 0 = 0 := by
  show (((((((b.wr HUB_LOCK.GROUP 0 0).wr HUB_LOCK.ROLE 0 0).wr HUB_LOCK.FROZEN 0 0).wr HUB_LOCK.JOINING 0 0).wr HUB_LOCK.DEPTH 0 0).wr
    HUB_LOCK.DOWN_PORTS 0 0).wr HUB_LOCK.OWNER_ID 0 0).rd HUB_LOCK.GROUP 0 = 0 ∧
    (((((((b.wr HUB_LOCK.GROUP 0 0).wr HUB_LOCK.ROLE 0 0).wr HUB_LOCK.FROZEN 0 0).wr HUB_LOCK.JOINING 0 0).wr HUB_LOCK.DEPTH 0 0).wr
    HUB_LOCK.DOWN_PORTS 0 0).wr HUB_LOCK.OWNER_ID 0 0).rd HUB_LOCK.ROLE 0 = 0
  constructor
  · iterate 6 rw [rd_wr_apart (by decide)]
    exact rd_wr_same ..
  · iterate 5 rw [rd_wr_apart (by decide)]
    exact rd_wr_same ..

/-- No port of the tree counts as lost. -/
def lostCleared (b : Block) : Block :=
  b.each (List.range 6) (fun b k => b.cond (b.tie k).lost (fun b => b.modTie k (fun t => { t with lost := false })))

theorem lostCleared_keeps (b : Block) : b.Keeps [.ties] b.lostCleared := by
  unfold lostCleared
  simp (maxDischargeDepth := 5)

theorem outsideGroup_rd (b : Block) (now : Nat) {x : Fld} (hx : HUB_LOCK.UP_PORT.apart x = true ∧ x.Fits ∧ x.page ∉ windowPages) :
    (b.outsideGroup now).rd x 0 = b.groupCleared.rd x 0 := by
  have hcomplete (c : Block) (g : Wait → Option (Nat × Nat × List Nat)) : (c.completeWhere now g).rd x 0 = c.rd x 0 :=
    ((regsOff_completeWhere (List.Subset.refl _) now g).2 (.refl ..)).rd hx.2 0
  unfold outsideGroup
  dsimp only
  rw [hcomplete, rd_modHub, rd_wr_apart hx.1]
  exact (lostCleared_keeps _).rd (by decide) x 0

theorem outsideGroup_roles (b : Block) (now : Nat) : (b.outsideGroup now).rd HUB_LOCK.GROUP 0 = 0 ∧ (b.outsideGroup now).rd HUB_LOCK.ROLE 0 = 0 := by
  rw [outsideGroup_rd b now (by decide), outsideGroup_rd b now (by decide)]
  exact groupCleared_rd b

/-! ### SYNC (R221) -/

/-- The step to the group's point, with its due tick. -/
def catchStep (b : Block) (now point : Nat) (plumb : Bool) (id kind : Nat) : Step :=
  let soon := now + b.rd HUB_LOCK.LOCAL_LEAD 0
  let due := match (b.hub.steps ++ b.hub.waitSteps).getLast? with
    | some x => max soon (x.due + 32)
    | none => soon
  newStep point id due (scOf due 0) (if plumb then some (b.rd HUB_CONTOUR.PLUMB_POWER 0) else none) kind false

theorem catchUp_valid {point : Nat} (h : validPoint point = true) (plumb : Bool) (id kind : Nat) :
    b.catchUp now off point plumb id kind = b.addStep now off (b.catchStep now point plumb id kind) := if_pos h

theorem addStep_hub_room (h : b.hub.steps.length < 2) (now off : Nat) (x : Step) :
    (b.addStep now off x).hub = { b.hub with steps := b.hub.steps ++ [x] } := by
  rw [addStep, stepRecord, (record_keeps ..).hub (by decide)]
  exact if_pos h

/-- The skew of a member is counted and sent. -/
def skewNoted (b : Block) (off k id : Nat) : Block := (b.inc HUB_LOCK.SKEW_EVENTS 0).fault 21 255 (k * 256 + id) off

theorem takeSync_skew {g point : Nat} (hg : b.rd HUB_LOCK.GROUP 0 = g) (hup : b.upPort = some k) (hpoint : b.point ≠ point)
    (hvalid : validPoint point = true) (plumb : Bool) (id : Nat) : b.takeSync now off k g point plumb id =
      (b.skewNoted off k id).addStep now off ((b.skewNoted off k id).catchStep now point plumb id 1) := by
  unfold takeSync
  rw [if_neg (by simp [hg, hup]), if_neg (by simp [hpoint, hvalid])]
  exact catchUp_valid hvalid ..

theorem skewNoted_keeps (b : Block) (off k id : Nat) : b.Keeps [.regs, .fields, .faults] (b.skewNoted off k id) := by
  unfold skewNoted
  simp

/-! ### STEP_DONE (R216) -/

/-- The reports with that of wafer `wid` on step `id` replaced. -/
def doneKept (l : List (Nat × Int × Nat)) (id : Nat) (skew : Int) (wid : Nat) : List (Nat × Int × Nat) :=
  l.filter (fun d => !(d.1 == id && d.2.2 == wid)) ++ [(id, skew, wid)]

/-- The reports that concern the last step or a pending one. -/
def donesCounted (b : Block) : List (Nat × Int × Nat) :=
  b.hub.dones.filter (fun d => (b.rd HUB_LOCK.STEP_ID 0 :: (b.hub.steps ++ b.hub.waitSteps).map (fun x => x.stepId)).contains d.1)

theorem countDones_dones (b : Block) : b.countDones.hub.dones = b.donesCounted := rfl

theorem countDones_members (b : Block) : b.countDones.rd HUB_LOCK.MEMBERS 0 =
    (b.countDones.hub.dones.filter (fun d => d.1 == b.rd HUB_LOCK.STEP_ID 0)).length % 2 ^ HUB_LOCK.MEMBERS.width := rd_wr_same ..

theorem mem_donesCounted {d : Nat × Int × Nat} (hd : d ∈ b.hub.dones) (h : d.1 = b.rd HUB_LOCK.STEP_ID 0) : d ∈ b.donesCounted :=
  List.mem_filter.2 ⟨hd, by rw [h]; exact List.contains_iff_mem.2 List.mem_cons_self⟩

/-- The owner's count of a STEP_DONE. -/
def doneNoted (b : Block) (id : Nat) (skew : Int) (wid : Nat) : Block :=
  (b.learn wid).modHub (fun h => { h with dones := doneKept h.dones id skew wid })

/-! ### Frames sent to one port -/

theorem sendAll_one (h : b.tieSt k = tieUp) (type : Nat) (payload : List Nat) : b.sendAll now off [k] type payload = b.sendFrame now off k type payload := by
  unfold sendAll
  rw [List.filter_cons_of_pos (by rw [h]; rfl)]
  rfl

/-! ### JOIN_ACK (R210) -/

def joinRefused (b : Block) (now result : Nat) : Block :=
  ((b.wr HUB_LOCK.JOINING 0 0).wr HUB_LOCK.UP_PORT 0 7).completeWhere now (fun w => if w = .join then some (stConflict, result, []) else none)

theorem joinRefused_rd (b : Block) (now result : Nat) : (b.joinRefused now result).bit HUB_LOCK.JOINING 0 = false ∧
    (b.joinRefused now result).rd HUB_LOCK.UP_PORT 0 = 7 ∧ (b.joinRefused now result).rd HUB_LOCK.GROUP 0 = b.rd HUB_LOCK.GROUP 0 := by
  have hoff : RegsOff windowPages ((b.wr HUB_LOCK.JOINING 0 0).wr HUB_LOCK.UP_PORT 0 7) (b.joinRefused now result) :=
    (regsOff_completeWhere (List.Subset.refl _) ..).2 (.refl ..)
  refine ⟨?_, ?_, ?_⟩
  · rw [hoff.bit (by decide), bit_wr_apart (by decide), bit, rd_wr_same]
    rfl
  · exact (hoff.rd (by decide) 0).trans (rd_wr_same ..)
  · rw [hoff.rd (by decide), rd_wr_apart (by decide), rd_wr_apart (by decide)]

/-- The depth of a new member, and the block after a free value was taken for it. -/
def joinDepth (b : Block) (k ownerId : Nat) : Nat × Block :=
  if b.rd (HUB_TIE.FAR_ID k) 0 == ownerId then (1, b) else (b.fresh.1 % 3 + 2, b.fresh.2)

/-- The member's registers. -/
def memberNamed (b : Block) (k g ownerId : Nat) : Block :=
  ((((b.joinDepth k ownerId).2.wr HUB_LOCK.GROUP 0 g).wr HUB_LOCK.ROLE 0 2).wr HUB_LOCK.OWNER_ID 0 ownerId).wr HUB_LOCK.DEPTH 0 (b.joinDepth k ownerId).1

/-- The member knows its point, its owner and its neighbour. -/
def memberJoining (b : Block) (k g point ownerId : Nat) : Block :=
  let c := (b.memberNamed k g ownerId).modHub (fun h => { h with joinPoint := some point, known := [], dones := [] })
  (c.learn ownerId).learn (c.rd (HUB_TIE.FAR_ID k) 0)

/-- The member goes to the group's point. -/
def memberCaught (b : Block) (now off point : Nat) (plumb : Bool) : Block :=
  if b.point ≠ point then b.catchUp now off point plumb (b.rd HUB_LOCK.STEP_ID 0) 2
  else b.cond plumb (fun b => b.modHub (fun h => { h with plumbDue := some (now + 1) }))

theorem joinDepth_rd (b : Block) (k ownerId : Nat) (x : Fld) (i : Nat) : (b.joinDepth k ownerId).2.rd x i = b.rd x i := by
  unfold joinDepth
  split <;> rfl

theorem memberCaught_joinPoint (b : Block) (now off point : Nat) (plumb : Bool) :
    (b.memberCaught now off point plumb).hub.joinPoint = b.hub.joinPoint := by
  unfold memberCaught
  split
  · unfold catchUp
    dsimp only
    split
    · unfold addStep stepRecord
      dsimp only
      refine HubSame.eq (g := Hub.joinPoint) (HubSame.keeps (HubSame.modHub (.refl b) fun _ => ?_) (record_keeps ..) (by decide))
      split <;> rfl
    · rfl
  · cases plumb <;> rfl

theorem memberCaught_off (b : Block) (now off point : Nat) (plumb : Bool) : RegsOff [0x1F, 0x4B] b (b.memberCaught now off point plumb) := by
  unfold memberCaught
  split
  · unfold catchUp
    dsimp only
    split
    · exact addStep_regsOff ..
    · exact .refl ..
  · exact Keeps.regsOff (S := [.hub]) (by simp) (by decide) _

theorem memberJoining_joinPoint (b : Block) (k g point ownerId : Nat) : (b.memberJoining k g point ownerId).hub.joinPoint = some point := by
  unfold memberJoining
  dsimp only
  rw [(learn_hub (g := Hub.joinPoint) (fun _ _ => rfl) ..).eq, (learn_hub (g := Hub.joinPoint) (fun _ _ => rfl) ..).eq]
  rfl

theorem memberJoining_rd (b : Block) (k g point ownerId : Nat) (x : Fld) (i : Nat) :
    (b.memberJoining k g point ownerId).rd x i = (b.memberNamed k g ownerId).rd x i := by
  unfold memberJoining
  dsimp only
  rw [(learn_keeps ..).rd (by decide), (learn_keeps ..).rd (by decide), rd_modHub]

/-- The registers that a new member writes. -/
theorem memberNamed_rd (b : Block) {k g ownerId : Nat} (hg : g < 2 ^ 8) (hid : ownerId < 2 ^ 32) : (b.memberNamed k g ownerId).rd HUB_LOCK.GROUP 0 = g ∧
    (b.memberNamed k g ownerId).rd HUB_LOCK.ROLE 0 = 2 ∧ (b.memberNamed k g ownerId).rd HUB_LOCK.OWNER_ID 0 = ownerId := by
  unfold memberNamed
  refine ⟨?_, ?_, ?_⟩
  · rw [rd_wr_apart (by decide), rd_wr_apart (by decide), rd_wr_apart (by decide), rd_wr_same]
    exact Nat.mod_eq_of_lt hg
  · rw [rd_wr_apart (by decide), rd_wr_apart (by decide)]
    exact rd_wr_same ..
  · rw [rd_wr_apart (by decide), rd_wr_same]
    exact Nat.mod_eq_of_lt hid

theorem memberNamed_rd_other (b : Block) (k g ownerId : Nat) {x : Fld}
    (hx : [HUB_LOCK.GROUP, HUB_LOCK.ROLE, HUB_LOCK.OWNER_ID, HUB_LOCK.DEPTH].all (fun y => y.apart x) = true) (i : Nat) :
    (b.memberNamed k g ownerId).rd x i = b.rd x i := by
  simp only [List.all_cons, List.all_nil, Bool.and_true, Bool.and_eq_true] at hx
  obtain ⟨hgroup, hrole, howner, hdepth⟩ := hx
  rw [memberNamed, rd_wr_apart hdepth, rd_wr_apart howner, rd_wr_apart hrole, rd_wr_apart hgroup, joinDepth_rd]

/-! ### FREEZE and THAW -/

theorem freezeGroup_bit (b : Block) (now off k who : Nat) : (b.freezeGroup now off k who).bit HUB_LOCK.FROZEN 0 = true := by
  have hfrozen : (if b.bit HUB_LOCK.FROZEN 0 then b else (b.wr HUB_LOCK.FROZEN 0 1).inc HUB_LOCK.FREEZES 0).bit HUB_LOCK.FROZEN 0 = true := by
    split
    · assumption
    · rw [bit_inc_apart (by decide), bit, rd_wr_same]
      rfl
  unfold freezeGroup
  dsimp only
  rw [(sendAll_regsOff ..).bit (by decide), bit, rd_cond (fun _ => rd_modHub ..)]
  exact hfrozen

end Block

section Rows

variable {k : TieNo} {q g : Byte} {sc : ScOff} {s : State}

/-- A frame of type `type` on an UP port. -/
def State.frameOn (s : State) (k : TieNo) (sc : ScOff) (type : Nat) (q : Byte) : Block := s.b.heard s.tick sc k type q.toNat

theorem frameOn_off (s : State) (k : TieNo) (sc : ScOff) (type : Nat) (q : Byte) : Block.RegsOff [0x1F, 0x4B] s.b (s.frameOn k sc type q) :=
  Block.heard_regsOff ..

theorem frameOn_keeps (s : State) (k : TieNo) (sc : ScOff) (type : Nat) (q : Byte) :
    s.b.Keeps [.regs, .fields, .traces, .ties] (s.frameOn k sc type q) := Block.heard_keeps ..

theorem frameOn_tie (s : State) (k : TieNo) (sc : ScOff) (type : Nat) (q : Byte) : (s.frameOn k sc type q).tie k = { s.b.tie k with heard := s.tick } :=
  Block.heard_tie ..

/-- A frame on an UP port is heard before its row is carried out. -/
theorem receive_up {o : Host.Outcome State Fault Refusal} {type : Nat} {f : Block → Block} (hst : s.b.tieSt k = tieUp)
    (ho : o = .next { s with b := s.b.receive s.tick sc k type q.toNat [tieUp] f }) : o = .next { s with b := f (s.frameOn k sc type q) } :=
  next_block ho (Block.receive_of_mem (by rw [hst]; rfl) ..)

variable (hst : s.b.tieSt k = tieUp)
include hst

theorem exec_join (x : Byte) (id : Word) : exec (.join k q g x id sc) s = .next { s with
    b := (s.frameOn k sc 0x10 q).forH0 s.tick sc k (.join g.toNat x.toNat id.toNat) } := receive_up hst rfl

theorem exec_leave (x : Byte) (id : Word) : exec (.leave k q g x id sc) s = .next { s with
    b := (s.frameOn k sc 0x12 q).forH0 s.tick sc k (.leave g.toNat x.toNat id.toNat) } := receive_up hst rfl

theorem exec_sync (x y : Byte) (pl : Bool) : exec (.sync k q g x pl y sc) s = .next { s with
    b := (s.frameOn k sc 0x18 q).forH0 s.tick sc k (.sync g.toNat x.toNat pl y.toNat) } := receive_up hst rfl

theorem exec_stepRequest (x : Byte) (id : Word) : exec (.stepRequest k q g x id sc) s = .next { s with
    b := (s.frameOn k sc 0x15 q).forH0 s.tick sc k (.request g.toNat x.toNat id.toNat) } := receive_up hst rfl

/-! #### While H0 runs, a frame of the wafer's own group -/

section Running

variable (hH0 : (s.b.proc 84).st = 0) (hg : s.b.rd HUB_LOCK.GROUP 0 = g.toNat)
include hH0 hg

omit hst in
/-- The frame that H0 takes. -/
theorem frameOn_runs (k : TieNo) (q : Byte) (sc : ScOff) (type : Nat) (x : HeldFrame) :
    (s.frameOn k sc type q).forH0 s.tick sc k x = (s.frameOn k sc type q).takeHeld s.tick sc k x ∧
      (s.frameOn k sc type q).rd HUB_LOCK.GROUP 0 = g.toNat :=
  ⟨Block.forH0_taken (by rwa [(frameOn_keeps ..).proc (by decide)]) x, ((frameOn_off ..).rd (by decide) 0).trans hg⟩

theorem exec_join_accepted (hne : g.toNat ≠ 0) (hdepth : s.b.rd HUB_LOCK.DEPTH 0 < 4) (hsize : s.b.groupSize < 32) (hsteps : s.b.hub.steps = [])
    (hwait : s.b.hub.waitSteps = []) (x : Byte) (id : Word) :
    exec (.join k q g x id sc) s = .next { s with b := (s.frameOn k sc 0x10 q).joinAnswered s.tick sc k g.toNat id.toNat } := by
  obtain ⟨hrun, hgroup⟩ := frameOn_runs hH0 hg k q sc 0x10 (.join g.toNat x.toNat id.toNat)
  have hub : (s.frameOn k sc 0x10 q).hub = s.b.hub := (frameOn_keeps ..).hub (by decide)
  refine next_block (exec_join hst x id) (hrun.trans (Block.takeJoin_accepted hgroup hne ?_ ?_ ?_ ?_ _))
  · rwa [(frameOn_off ..).rd (by decide)]
  · rwa [Block.groupSize, hub]
  · rwa [hub]
  · rwa [hub]

theorem exec_leave_down (hne : g.toNat ≠ 0) (hdown : s.b.flag HUB_LOCK.DOWN_PORTS 0 k = true) (x : Byte) (id : Word) :
    exec (.leave k q g x id sc) s = .next { s with
      b := (((s.frameOn k sc 0x12 q).setFlag HUB_LOCK.DOWN_PORTS 0 k false).modTie k (fun t => { t with lost := false })).modHub
        (fun h => { h with known := h.known.filter (· != id.toNat) }) } := by
  obtain ⟨hrun, hgroup⟩ := frameOn_runs hH0 hg k q sc 0x12 (.leave g.toNat x.toNat id.toNat)
  refine next_block (exec_leave hst x id) (hrun.trans (Block.takeLeave_down hgroup hne ?_ _ _))
  rwa [Block.flag_of_off (frameOn_off ..) (by decide)]

theorem exec_leave_up (hne : g.toNat ≠ 0) (hdown : s.b.flag HUB_LOCK.DOWN_PORTS 0 k = false) (hup : s.b.upPort = some k.val) (x : Byte) (id : Word) :
    exec (.leave k q g x id sc) s = .next { s with
      b := ((s.frameOn k sc 0x12 q).sendAll s.tick sc (s.frameOn k sc 0x12 q).downPorts 0x12
        ([g.toNat, x.toNat, 0, 0] ++ leBytes 4 id.toNat)).outsideGroup s.tick } := by
  obtain ⟨hrun, hgroup⟩ := frameOn_runs hH0 hg k q sc 0x12 (.leave g.toNat x.toNat id.toNat)
  refine next_block (exec_leave hst x id) (hrun.trans (Block.takeLeave_up hgroup hne ?_ ?_ _ _))
  · rwa [Block.flag_of_off (frameOn_off ..) (by decide)]
  · rwa [Block.upPort_of_off (frameOn_off ..)]

/-- The skew that a SYNC finds, noted. -/
def syncNoted (s : State) (k : TieNo) (sc : ScOff) (q y : Byte) : Block := (s.frameOn k sc 0x18 q).skewNoted sc k y.toNat

theorem exec_sync_skew (hup : s.b.upPort = some k.val) {x : Byte} (hpoint : s.b.point ≠ x.toNat) (hvalid : validPoint x.toNat = true) (y : Byte)
    (pl : Bool) : exec (.sync k q g x pl y sc) s = .next { s with
      b := (syncNoted s k sc q y).addStep s.tick sc ((syncNoted s k sc q y).catchStep s.tick x.toNat pl y.toNat 1) } := by
  obtain ⟨hrun, hgroup⟩ := frameOn_runs hH0 hg k q sc 0x18 (.sync g.toNat x.toNat pl y.toNat)
  refine next_block (exec_sync hst x y pl) (hrun.trans (Block.takeSync_skew hgroup ?_ ?_ hvalid _ _))
  · rwa [Block.upPort_of_off (frameOn_off ..)]
  · rwa [Block.point_of_off (frameOn_off ..)]

theorem exec_stepRequest_owner (hrole : s.b.rd HUB_LOCK.ROLE 0 = 1) (x : Byte) (id : Word) :
    exec (.stepRequest k q g x id sc) s = .next { s with
      b := (s.frameOn k sc 0x15 q).modHub (fun h => { h with requests := h.requests ++ [x.toNat] }) } := by
  obtain ⟨hrun, hgroup⟩ := frameOn_runs hH0 hg k q sc 0x15 (.request g.toNat x.toNat id.toNat)
  refine next_block (exec_stepRequest hst x id) (hrun.trans ((if_neg (not_not.2 hgroup)).trans (if_pos ?_)))
  rwa [(frameOn_off ..).rd (by decide)]

end Running

/-! #### Frames that need no H0 -/

theorem exec_joinAck_refused {result : Byte} (point : Byte) (pl : Bool) (id : Word) (hjoin : s.b.bit HUB_LOCK.JOINING 0 = true)
    (hpoint : s.b.hub.joinPoint = none) (hup : s.b.rd HUB_LOCK.UP_PORT 0 = k) (hresult : result.toNat ≠ 0) :
    exec (.joinAck k q g result point pl id sc) s = .next { s with b := (s.frameOn k sc 0x11 q).joinRefused s.tick result.toNat } := by
  refine (receive_up hst rfl).trans (next_block rfl ?_)
  rw [(frameOn_off ..).bit (by decide), hjoin, (frameOn_keeps ..).hub (by decide), hpoint, (frameOn_off ..).rd (by decide), hup,
    if_neg (by simp [hresult]), if_pos hresult]
  rfl

theorem exec_joinAck_accepted {result point : Byte} (pl : Bool) (id : Word) (hjoin : s.b.bit HUB_LOCK.JOINING 0 = true)
    (hpoint : s.b.hub.joinPoint = none) (hup : s.b.rd HUB_LOCK.UP_PORT 0 = k) (hresult : result.toNat = 0) (hvalid : validPoint point.toNat = true) :
    exec (.joinAck k q g result point pl id sc) s = .next { s with
      b := ((s.frameOn k sc 0x11 q).memberJoining k g.toNat point.toNat id.toNat).memberCaught s.tick sc point.toNat pl } := by
  refine (receive_up hst rfl).trans (next_block rfl ?_)
  rw [(frameOn_off ..).bit (by decide), hjoin, (frameOn_keeps ..).hub (by decide), hpoint, (frameOn_off ..).rd (by decide), hup,
    if_neg (by simp [hvalid]), if_neg (not_not.2 hresult)]
  rfl

theorem exec_step_invalid (id : Byte) {point : Byte} (pl : Bool) (pw : BitVec 16) (x : TieTime) (hvalid : validPoint point.toNat = false) :
    exec (.step k q g id point pl pw x sc) s = .next { s with b := s.frameOn k sc 0x13 q } := by
  refine (receive_up hst rfl).trans (next_block rfl ?_)
  rw [if_pos (.inr (.inr (by rw [hvalid]; rfl)))]

theorem exec_step (hg : s.b.rd HUB_LOCK.GROUP 0 = g.toNat) (hup : s.b.upPort = some k.val) (id : Byte) {point : Byte} (pl : Bool)
    (pw : BitVec 16) {x : TieTime} (hvalid : validPoint point.toNat = true) {n : Int} (hn : n = TieTime.sc x + s.b.tieD k) {y : Step}
    (hy : newStep point.toNat id.toNat ((n + 2047) / 2048).toNat n (if pl then some pw.toNat else none) 0 false = y) :
    exec (.step k q g id point pl pw x sc) s = .next { s with
      b := ((s.frameOn k sc 0x13 q).addStep s.tick sc y).sendAll s.tick sc (s.frameOn k sc 0x13 q).downPorts 0x13
        ((s.frameOn k sc 0x13 q).stepBytes y) } := by
  have hd : (s.frameOn k sc 0x13 q).tieD k = s.b.tieD k := by
    rw [Block.tieD, Block.tieD, Block.rd2, Block.rd2, Block.tie_rd_of_off (frameOn_off ..) k.isLt (by simp [tieFlds]),
      Block.tie_rd_of_off (frameOn_off ..) k.isLt (by simp [tieFlds])]
  refine (receive_up hst rfl).trans (next_block rfl ?_)
  subst hn hy
  rw [(frameOn_off ..).rd (by decide), Block.upPort_of_off (frameOn_off ..), hg, hup, if_neg (by simp [hvalid]), hd]

theorem exec_stepDone_owner (hg : s.b.rd HUB_LOCK.GROUP 0 = g.toNat) (hrole : s.b.rd HUB_LOCK.ROLE 0 = 1) (id result : Byte) (skew wid : Word) :
    exec (.stepDone k q g id result skew wid sc) s = .next { s with
      b := ((s.frameOn k sc 0x14 q).doneNoted id.toNat skew.toInt wid.toNat).countDones } := by
  refine (receive_up hst rfl).trans (next_block rfl ?_)
  rw [(frameOn_off ..).rd (by decide), (frameOn_off ..).rd (by decide), hg, hrole, if_neg (not_not.2 rfl), if_pos rfl]
  rfl

theorem exec_stepDone_member {up : TieNo} (hg : s.b.rd HUB_LOCK.GROUP 0 = g.toNat) (hup : s.b.upPort = some up.val)
    (hupst : s.b.tieSt up = tieUp) (id result : Byte) (skew wid : Word) :
    exec (.stepDone k q g id result skew wid sc) s = .next { s with
      b := ((s.frameOn k sc 0x14 q).learn wid.toNat).sendFrame s.tick sc up 0x14
        ([g.toNat, id.toNat, result.toNat, 0] ++ leBytes 4 skew.toNat ++ leBytes 4 wid.toNat ++ leBytes 4 0) } := by
  refine (receive_up hst rfl).trans (next_block rfl ?_)
  rw [(frameOn_off ..).rd (by decide), (frameOn_off ..).rd (by decide), hg, Block.upPort_eq_some hup, if_neg (not_not.2 rfl), if_neg (by decide)]
  have hlearn := Block.learn_keeps (s.frameOn k sc 0x14 q) wid.toNat
  rw [Block.upPort_of_off (frameOn_off ..), hup]
  exact Block.sendAll_one ((hlearn.rd (by decide) ..).trans ((Block.tieSt_of_off (frameOn_off ..) up.isLt).trans hupst)) ..

theorem exec_freeze (hg : s.b.rd HUB_LOCK.GROUP 0 = g.toNat) (hne : g.toNat ≠ 0) (id : Word) :
    exec (.freeze k q g id sc) s = .next { s with b := (s.frameOn k sc 0x16 q).freezeGroup s.tick sc k id.toNat } := by
  refine (receive_up hst rfl).trans (next_block rfl ?_)
  rw [(frameOn_off ..).rd (by decide), hg, if_neg (by simp [hne])]

theorem exec_thaw (hg : s.b.rd HUB_LOCK.GROUP 0 = g.toNat) (hne : g.toNat ≠ 0) (hup : s.b.upPort = some k.val) :
    exec (.thaw k q g sc) s = .next { s with
      b := ((s.frameOn k sc 0x17 q).wr HUB_LOCK.FROZEN 0 0).sendAll s.tick sc (s.frameOn k sc 0x17 q).downPorts 0x17
        (s.frameOn k sc 0x17 q).thawBytes } := by
  refine (receive_up hst rfl).trans (next_block rfl ?_)
  rw [(frameOn_off ..).rd (by decide), hg, if_neg (by simp [hne]), Block.upPort_of_off (frameOn_off ..), if_pos hup]

end Rows

section Skew

open Block

variable (s : State) (k : TieNo) (sc : ScOff) (q y : Byte) (x : Step)

theorem syncNoted_hub : (syncNoted s k sc q y).hub = s.b.hub := ((skewNoted_keeps ..).hub (by decide)).trans ((frameOn_keeps ..).hub (by decide))

theorem syncNoted_step {s : State} (hsteps : s.b.hub.steps = []) (k : TieNo) (sc : ScOff) (q y : Byte) (now point : Nat) (pl : Bool) (id kind : Nat) :
    ((syncNoted s k sc q y).addStep now sc ((syncNoted s k sc q y).catchStep now point pl id kind)).hub.steps.map (fun z => (z.point, z.kind)) =
      [(point, kind)] := by
  have hnone : (syncNoted s k sc q y).hub.steps = [] := by rw [syncNoted_hub, hsteps]
  rw [addStep_hub_room (by rw [hnone]; decide), hnone]
  rfl

theorem syncNoted_skew (now : Nat) : ((syncNoted s k sc q y).addStep now sc x).rd HUB_LOCK.SKEW_EVENTS 0 =
    (s.b.rd HUB_LOCK.SKEW_EVENTS 0 + 1) % 2 ^ HUB_LOCK.SKEW_EVENTS.width := by
  rw [(addStep_regsOff ..).rd (by decide), syncNoted, skewNoted, rd_fault, rd_inc_same, (frameOn_off ..).rd (by decide)]

theorem syncNoted_faults (now : Nat) : ((syncNoted s k sc q y).addStep now sc x).faults =
    s.b.faults ++ [{ src := 21, field := 255, detail := k * 256 + y.toNat, off := sc }] := by
  have hk := k.isLt
  have hy := y.isLt
  have hdetail : lowBits 16 (k * 256 + y.toNat) = k * 256 + y.toNat := Nat.mod_eq_of_lt (by omega)
  rw [(addStep_keeps ..).faults (by decide), syncNoted, skewNoted, faults_fault, (inc_keeps ..).faults (by decide),
    (frameOn_keeps ..).faults (by decide), hdetail]

/-- A SYNC of the up port that names another point. -/
theorem sync_notes {s : State} {k : TieNo} {q g x : Byte} {sc : ScOff} (hst : s.b.tieSt k = tieUp) (hH0 : (s.b.proc 84).st = 0)
    (hg : s.b.rd HUB_LOCK.GROUP 0 = g.toNat) (hup : s.b.upPort = some k.val) (hpoint : s.b.point ≠ x.toNat) (hvalid : validPoint x.toNat = true)
    (hsteps : s.b.hub.steps = []) (y : Byte) (pl : Bool) :
    ∃ t, exec (.sync k q g x pl y sc) s = .next t ∧ InBlock s t ∧ t.b.hub.steps.map (fun z => (z.point, z.kind)) = [(x.toNat, 1)] ∧
      t.b.rd HUB_LOCK.SKEW_EVENTS 0 = (s.b.rd HUB_LOCK.SKEW_EVENTS 0 + 1) % 2 ^ HUB_LOCK.SKEW_EVENTS.width ∧
      t.b.faults = s.b.faults ++ [{ src := 21, field := 255, detail := k * 256 + y.toNat, off := sc }] :=
  ⟨_, exec_sync_skew hst hH0 hg hup hpoint hvalid y pl, inBlock_mk .., syncNoted_step hsteps k sc q y s.tick x.toNat pl y.toNat 1,
    syncNoted_skew s k sc q y _ s.tick, syncNoted_faults s k sc q y _ s.tick⟩

end Skew

open Block in
/-- Settles O49. -/
theorem groupFrames : Obligations.GroupFrames := by
  unfold Obligations.GroupFrames
  refine ⟨fun k q g x y pl id sc s hst hH0 hlen => ?_, fun k q g x y pl id sc s hst hH0 hg hne => ?_,
    fun k q g result point pl id sc s hst hjoin hpoint hup => ⟨fun hresult => ?_, fun hresult hvalid => ?_⟩,
    fun k q g id point pl pw x sc s hst hg hup hvalid => ?_, fun k q g id point pl pw x sc n s hst hg hup hvalid hlen hn => ?_,
    fun k q g id result skew wid sc s hst hg hrole hid => ?_, fun k up q g id result skew wid sc s hst hg hrole hup hupst hne => ?_,
    fun k q g id sc s hst hg hne => ?_, fun k q g sc s hst hg hne hup => ?_⟩
  · exact ⟨⟨_, exec_join hst x id, inBlock_mk .., heard_forH0_waits hH0 hlen ..⟩,
      ⟨_, exec_leave hst x id, inBlock_mk .., heard_forH0_waits hH0 hlen ..⟩,
      ⟨_, exec_sync hst x y pl, inBlock_mk .., heard_forH0_waits hH0 hlen ..⟩,
      ⟨_, exec_stepRequest hst x id, inBlock_mk .., heard_forH0_waits hH0 hlen ..⟩⟩
  · refine ⟨fun hdepth hsize hsteps hwait => ?_, fun hdown => ?_, fun hdown hup => ?_, fun hup hpoint hvalid hsteps => ?_, fun hrole => ?_⟩
    · refine ⟨_, exec_join_accepted hst hH0 hg hne hdepth hsize hsteps hwait x id, inBlock_mk .., joinAnswered_flag k.isLt .., ?_⟩
      exact (joinAnswered_txSeq ..).trans (by rw [frameOn_tie])
    · refine ⟨_, exec_leave_down hst hH0 hg hne hdown x id, inBlock_mk .., ?_, ?_⟩
      · exact downPort_cleared k.isLt _
      · dsimp only [modHub, modTie, setTie, setFlag, wr]
        rw [(frameOn_keeps ..).hub (by decide)]
    · refine ⟨_, exec_leave_up hst hH0 hg hne hdown hup x id, inBlock_mk .., ?_⟩
      dsimp only
      exact outsideGroup_roles ..
    · exact sync_notes hst hH0 hg hup hpoint hvalid hsteps y pl
    · refine ⟨_, exec_stepRequest_owner hst hH0 hg hrole x id, inBlock_mk .., ?_⟩
      dsimp only [modHub]
      rw [(frameOn_keeps ..).hub (by decide)]
  · obtain ⟨hbit, hport, hgroup⟩ := joinRefused_rd (s.frameOn k sc 0x11 q) s.tick result.toNat
    refine ⟨_, exec_joinAck_refused hst point pl id hjoin hpoint hup hresult, inBlock_mk .., ?_⟩
    dsimp only
    rw [hgroup, (frameOn_off ..).rd (by decide)]
    exact ⟨hbit, hport, rfl⟩
  · obtain ⟨hgroup, hrole, howner⟩ := memberNamed_rd (s.frameOn k sc 0x11 q) (k := k) g.isLt id.isLt
    refine ⟨_, exec_joinAck_accepted hst pl id hjoin hpoint hup hresult hvalid, inBlock_mk .., ?_, ?_, ?_, ?_, ?_, ?_⟩
    · dsimp only
      rw [(memberCaught_off ..).bit (by decide), bit, memberJoining_rd, memberNamed_rd_other _ _ _ _ (by decide), (frameOn_off ..).rd (by decide)]
      exact hjoin
    · dsimp only
      rw [memberCaught_joinPoint, memberJoining_joinPoint]
    · dsimp only
      rw [(memberCaught_off ..).rd (by decide), memberJoining_rd, hgroup]
    · dsimp only
      rw [(memberCaught_off ..).rd (by decide), memberJoining_rd, hrole]
    · dsimp only
      rw [(memberCaught_off ..).rd (by decide), memberJoining_rd, howner]
    · dsimp only
      rw [point_of_off (memberCaught_off ..), Block.point, memberJoining_rd, memberNamed_rd_other _ _ _ _ (by decide),
        (frameOn_off ..).rd (by decide), Block.point]
  · refine ⟨_, exec_step_invalid hst id pl pw x hvalid, inBlock_mk .., ?_, ?_⟩
    · dsimp only
      rw [(frameOn_keeps ..).hub (by decide)]
    · dsimp only
      rw [frameOn_tie]
  · have hhub := (frameOn_keeps s k sc 0x13 q).hub (by decide)
    refine ⟨_, exec_step hst hg hup id pl pw hvalid hn rfl, inBlock_mk .., ?_, ?_⟩
    · dsimp only
      rw [point_of_off (sendAll_regsOff ..), point_of_off (addStep_regsOff ..), point_of_off (frameOn_off ..)]
    · dsimp only
      rw [(sendAll_keeps ..).hub (by decide), addStep_hub_room (by rwa [hhub]), hhub]
  · have hstep : ((s.frameOn k sc 0x14 q).doneNoted id.toNat skew.toInt wid.toNat).rd HUB_LOCK.STEP_ID 0 = id.toNat := by
      rw [doneNoted, rd_modHub, (learn_keeps ..).rd (by decide), (frameOn_off ..).rd (by decide), hid]
    refine ⟨_, exec_stepDone_owner hst hg hrole id result skew wid, inBlock_mk .., ?_, ?_⟩
    · dsimp only
      rw [countDones_dones]
      exact mem_donesCounted (List.mem_append_right _ List.mem_cons_self) hstep.symm
    · dsimp only
      rw [countDones_members, hstep]
  · refine ⟨_, exec_stepDone_member hst hg hup hupst id result skew wid, inBlock_mk .., ?_, ?_⟩
    · dsimp only
      rw [sendFrame_tie_other fun h => hne (Fin.ext h.symm), (learn_keeps ..).tie (by decide), frameOn_tie]
    · dsimp only
      rw [sendFrame_tie, (learn_keeps ..).tie (by decide), State.frameOn, heard_tie_other fun h => hne (Fin.ext h)]
  · refine ⟨_, exec_freeze hst hg hne id, inBlock_mk .., ?_⟩
    dsimp only
    exact freezeGroup_bit ..
  · refine ⟨_, exec_thaw hst hg hne hup, inBlock_mk .., ?_⟩
    dsimp only
    rw [(sendAll_regsOff ..).bit (by decide), bit, rd_wr_same]
    rfl

end Sys2Proof.Machine
end

section
/-!
SUPPORT. Triggers by command, the stale sweep, and bursts to the host ring.
-/

namespace Sys2Proof.Machine

open Sys2Proof

namespace Block

/-! ### Triggers (R248, R249) -/

section Trigger

variable {b : Block} {now off k kind code parcel first : Nat}

theorem triggerTicked_bufPolicy (b : Block) (now j k : Nat) : (b.triggerTicked now j).bufPolicy k = b.bufPolicy k :=
  bufPolicy_of_rd (fun x hx i => triggerTicked_rd (by fin_cases hx <;> decide) ..) k

theorem trigger_trace_kept (h : b.bufOn k = false ∨ b.bufPolicy k ≠ 2) :
    (b.trigger now off k kind code parcel first).trace k = b.trace k := by
  cases hon : b.bufOn k
  · rw [trigger, cond_of_false hon]
  · have hpol : (b.triggerTicked now k).bufPolicy k ≠ 2 := by
      rw [triggerTicked_bufPolicy]
      exact h.resolve_left (by rw [hon]; decide)
    rw [trigger, cond_of_true hon, triggerOn_eq, if_pos hpol]
    split
    · rfl
    · exact triggerTicked_trace ..

theorem trigger_trace_frozen (hon : b.bufOn k = true) (hpol : b.bufPolicy k = 2) (h2 : (b.trace k).st ≠ 2) (h3 : (b.trace k).st ≠ 3) :
    (b.trigger now off k kind code parcel first).trace k = b.frozen now off k kind code parcel first := by
  rw [trigger, cond_of_true hon, triggerOn_eq, if_neg (by simp [h2, h3]), triggerTicked_bufPolicy, if_neg (not_not.2 hpol), putTrace_trace_same]

theorem lose_recs (t : TraceBuf) (n x : Nat) (r : TraceRec) : (t.lose n x r).recs = t.recs := by
  unfold TraceBuf.lose
  split <;> rfl

theorem frozen_recs (b : Block) (now off k kind code parcel first : Nat) : (b.frozen now off k kind code parcel first).recs.length ≤ bufPre k + 1 := by
  unfold frozen TraceBuf.store
  dsimp only
  rw [lose_recs, List.length_append, List.length_drop, List.length_singleton, TraceBuf.fill]
  omega

end Trigger

/-- A block whose buffers have the capture and the policy of `a`'s. -/
def SetAs (a b : Block) : Prop := ∀ k, b.bufOn k = a.bufOn k ∧ b.bufPolicy k = a.bufPolicy k

theorem SetAs.trigger {a b : Block} (h : SetAs a b) (now off j kind code parcel first : Nat) : SetAs a (b.trigger now off j kind code parcel first) :=
  fun k => ⟨(trigger_bufOn ..).trans (h k).1, (trigger_bufPolicy ..).trans (h k).2⟩

theorem count_allBufs {k : Nat} (h : k < 85) : allBufs.count k = 1 := List.count_eq_one_of_mem List.nodup_range (List.mem_range.2 h)

/-- TRIG_NOW at one buffer: the trigger of that buffer, under the settings that it had. -/
theorem trigNow_trace (b : Block) (now off : Nat) {k : Nat} (hk : k < 85) :
    ∃ c, SetAs b c ∧ c.trace k = b.trace k ∧ (b.trigNow now off).trace k = (c.trigger now off k 2 0 0 0x7F).trace k := by
  obtain ⟨c, hc, htrace, he⟩ := each_single (I := SetAs b) (p := fun c => c.trace k) (g := fun b k => b.trigger now off k 2 0 0 0x7F) (x := k)
    (fun c y hc => SetAs.trigger hc now off y 2 0 0 0x7F) (fun c y hy => trigger_trace_other hy.symm ..) (count_allBufs hk) (fun _ => ⟨rfl, rfl⟩)
  have hhub : (b.triggerAll now off 2 allBufs).Keeps [.regs] (b.trigNow now off) := (wr_keeps ..).trans (wr_keeps ..)
  exact ⟨c, hc, htrace, (hhub.trace (by decide) k).trans he⟩

theorem trigNow_field (b : Block) (now off : Nat) : (b.trigNow now off).rd HUB_TRACE.TRIG_FIELD 0 = 0x7F := rd_wr_same ..

theorem trigNow_keeps (b : Block) (now off : Nat) : b.Keeps [.regs, .traces] (b.trigNow now off) := by
  unfold trigNow hubTrigger triggerAll
  simp

/-! ### The stale sweep (R250) -/

theorem sweep_trace_other {j k : Nat} (h : j ≠ k) (b : Block) (now : Nat) : (b.sweep now k).trace j = b.trace j := by
  unfold sweep
  dsimp only
  split
  · rfl
  · split
    · exact putTrace_trace_other h ..
    · exact putTrace_trace_other h ..

theorem sweep_recs (b : Block) (now k : Nat) : ((b.sweep now k).trace k).recs = (b.trace k).recs.filter (fun r => !staleAt now r) := by
  unfold sweep
  dsimp only
  split
  · next hnone =>
    have hfresh := List.filter_eq_nil_iff.1 (List.getLast?_eq_none_iff.1 hnone)
    exact (List.filter_eq_self.2 fun r hr => by simpa using hfresh r hr).symm
  · next newest _ =>
    have hlose := lose_recs { b.trace k with recs := (b.trace k).recs.filter (fun r => !staleAt now r) }
      ((b.trace k).recs.filter (staleAt now)).length 3 newest
    split
    · exact (congrArg TraceBuf.recs (putTrace_trace_same ..)).trans hlose
    · exact (congrArg TraceBuf.recs (putTrace_trace_same ..)).trans hlose

theorem sweepAll_recs (b : Block) (now : Nat) {k : Nat} (hk : k < 85) :
    ((b.each allBufs (fun b k => b.sweep now k)).trace k).recs = (b.trace k).recs.filter (fun r => !staleAt now r) :=
  each_once (p := fun b => (b.trace k).recs) (h := fun l => l.filter (fun r => !staleAt now r)) (x := k) (fun b => sweep_recs b now k)
    (fun b _ hy => congrArg TraceBuf.recs (sweep_trace_other hy.symm b now)) List.nodup_range (List.mem_range.2 hk) b

theorem sweepAll_keeps (b : Block) (now : Nat) : b.Keeps [.regs, .traces] (b.each allBufs (fun b k => b.sweep now k)) := by simp

/-! ### Bursts (R251 to R254) -/

theorem burst_length (b : Block) (now off k : Nat) : (b.burst now off k).length = burstLen b now k := by
  unfold burst burstLen
  dsimp only
  split <;> simp <;> omega

theorem bytes_length (r : TraceRec) : r.bytes.length = 16 := by simp [TraceRec.bytes]

/-- A byte outside every record of a run stands. -/
theorem putRing_other (base n a : Nat) (l : List TraceRec) : ∀ (host : List Host.Cell) (k : Nat),
    (∀ i < l.length, outside (base + 16 * ((k + i) % n)) 16 a) → mget 0 (putRing host base n k l) a = mget 0 host a := by
  induction l with
  | nil => exact fun _ _ _ => rfl
  | cons r l ih =>
    intro host k h
    have hfirst := h 0 (Nat.succ_pos _)
    have hrest : ∀ i < l.length, outside (base + 16 * ((k + 1 + i) % n)) 16 a := fun i hi => by
      have := h (i + 1) (Nat.succ_lt_succ hi)
      rwa [show k + (i + 1) = k + 1 + i by omega] at this
    rw [putRing, ih _ _ hrest, putBytes_other _ _ _ _ (by rw [bytes_length]; exact hfirst)]

end Block

section Burst

variable (k : Nat) (l : List TraceRec) (s : State)

/-- The block after the buffer has given its records, and HEAD has moved. -/
def burstGiven : Block :=
  ((s.b.linkUse s.tick k (min (s.b.linkRoom s.tick k) (s.b.trace k).recs.length)).modTrace k (fun t => { t with
    recs := t.recs.drop (s.b.linkRoom s.tick k), lossCount := 0, lossAux := 0 })).wr HUB_TRACE.HEAD 0 (s.b.rd HUB_TRACE.HEAD 0 + l.length)

def burstTaken : Block := (burstGiven k l s).wr HUB_TRACE.RING_FULL 0 0

theorem drainBurst_frame : drainBurst k l s = { s with host := (drainBurst k l s).host, b := (drainBurst k l s).b } := by
  unfold drainBurst
  rfl

/-- The hub has then served the buffer, and the bucket paid for the burst. -/
theorem drainBurst_b : ∃ g : Hub → Hub, (∀ h, (g h).nextBuf = k) ∧ (drainBurst k l s).b = ((burstTaken k l s).modHub g).drainIrq s.b.ringUsed :=
  ⟨fun h => { h with
    nextBuf := k, bucket := h.bucket - ((burstGiven k l s).burstBytes l.length) }, fun _ => rfl, rfl⟩

theorem burstTaken_trace_same : (burstTaken k l s).trace k =
    { s.b.trace k with recs := (s.b.trace k).recs.drop (s.b.linkRoom s.tick k), lossCount := 0, lossAux := 0 } := by
  have hlink (n : Nat) : s.b.Keeps [.fields] (s.b.linkUse s.tick k n) := by simp
  rw [burstTaken, burstGiven, (Block.wr_keeps ..).trace (by decide), (Block.wr_keeps ..).trace (by decide), Block.trace_modTrace_same,
    (hlink _).trace (by decide)]

theorem burstTaken_trace_other {j : Nat} (hj : j ≠ k) : (burstTaken k l s).trace j = s.b.trace j := by
  have hlink (n : Nat) : s.b.Keeps [.fields] (s.b.linkUse s.tick k n) := by simp
  rw [burstTaken, burstGiven, (Block.wr_keeps ..).trace (by decide), (Block.wr_keeps ..).trace (by decide), Block.trace_modTrace_other _ _ hj,
    (hlink _).trace (by decide)]

theorem burstTaken_keeps : s.b.Keeps [.regs, .fields, .traces] (burstTaken k l s) := by
  unfold burstTaken burstGiven
  simp

theorem burstTaken_head : (burstTaken k l s).rd HUB_TRACE.HEAD 0 = (s.b.rd HUB_TRACE.HEAD 0 + l.length) % 2 ^ 32 := by
  rw [burstTaken, Block.rd_wr_apart (by decide)]
  exact Block.rd_wr_same ..

theorem burstTaken_rd {x : Fld} (hx : HUB_TRACE.HEAD.apart x = true ∧ HUB_TRACE.RING_FULL.apart x = true) (i : Nat) :
    (burstTaken k l s).rd x i = s.b.rd x i := by
  have hlink (n : Nat) : s.b.Keeps [.fields] (s.b.linkUse s.tick k n) := by simp
  rw [burstTaken, burstGiven, Block.rd_wr_apart hx.2, Block.rd_wr_apart hx.1, Block.rd_modTrace, (hlink _).rd (by decide)]

theorem burstTaken_wbAddr : (burstTaken k l s).wbAddr = s.b.wbAddr := by
  rw [Block.wbAddr, Block.wbAddr, burstTaken_rd _ _ _ (by decide), burstTaken_rd _ _ _ (by decide)]

theorem drainIrq_keeps (b : Block) (n : Nat) : b.Keeps [.regs] (b.drainIrq n) := by simp

theorem drainIrq_rd {x : Fld} (hx : HUB_STATE.DRAIN.apart x = true) (b : Block) (n i : Nat) : (b.drainIrq n).rd x i = b.rd x i :=
  Block.rd_cond fun _ => Block.rd_wr_apart hx ..

/-- The host memory after a burst. -/
theorem drainBurst_host : (drainBurst k l s).host =
    if (burstTaken k l s).wbAddr = 0 then putRing s.host s.b.ringBase s.b.ringRecs (s.b.rd HUB_TRACE.HEAD 0) l
    else putBytes (putRing s.host s.b.ringBase s.b.ringRecs (s.b.rd HUB_TRACE.HEAD 0) l) (burstTaken k l s).wbAddr
      (leBytes 4 ((burstTaken k l s).rd HUB_TRACE.HEAD 0) ++ leBytes 4 (lowBits 32 s.tick)) := rfl

theorem drainBurst_host_other {a : Nat} (hring : ∀ i < l.length, outside (s.b.ringBase + 16 * ((s.b.rd HUB_TRACE.HEAD 0 + i) % s.b.ringRecs)) 16 a)
    (hwb : s.b.wbAddr ≠ 0 → outside s.b.wbAddr 8 a) : mget 0 (drainBurst k l s).host a = mget 0 s.host a := by
  rw [drainBurst_host, burstTaken_wbAddr]
  split
  · exact Block.putRing_other _ _ _ _ _ _ hring
  · next hne =>
    rw [putBytes_other _ _ _ _ (by simpa [leBytes_length, outside] using hwb hne), Block.putRing_other _ _ _ _ _ _ hring]

end Burst

section Rows

variable {s : State}

theorem exec_trigNow (s : State) : exec .trigNow s = .next { s with b := s.b.trigNow s.tick 0 } := rfl

theorem exec_traceStaleSweep (h : s.tick % 2 ^ 23 = 0) :
    exec .traceStaleSweep s = .next { s with b := s.b.each allBufs (fun b k => b.sweep s.tick k) } :=
  next_block (s := s) rfl (Block.cond_of_true (by simpa using h) _)

theorem exec_traceStaleSweep_between (h : s.tick % 2 ^ 23 ≠ 0) : exec .traceStaleSweep s = .next s :=
  next_block (s := s) rfl (Block.cond_of_false (by simpa using h) _)

/-- The records of the next burst of buffer `k`; the free value is the OFFSET of its SYNC. -/
def nextBurst (s : State) (k : Nat) : List TraceRec := s.b.fresh.2.burst s.tick (s.b.fresh.1 % 2048) k

theorem nextBurst_length (s : State) (k : Nat) : (nextBurst s k).length = burstLen s.b s.tick k := Block.burst_length ..

theorem exec_traceDrainBurst {k : Nat} (hen : s.b.bit HUB_TRACE.DRAIN_EN 0 = true) (hnext : s.b.nextServed s.tick = some k)
    (hring : s.b.ringUsed + burstLen s.b s.tick k ≤ s.b.ringRecs) (hbucket : s.b.burstBytes (burstLen s.b s.tick k) ≤ s.b.hub.bucket) :
    exec .traceDrainBurst s = .next (drainBurst k (nextBurst s k) { s with b := s.b.fresh.2 }) := by
  show execTraceDrainBurst s = _
  unfold execTraceDrainBurst
  rw [if_neg (by rw [hen]; decide), hnext]
  dsimp only
  have hlen : (s.b.fresh.2.burst s.tick (s.b.fresh.1 % 2048) k).length = burstLen s.b s.tick k := nextBurst_length s k
  rw [hlen, if_neg (Nat.not_lt.2 hring), if_neg (Nat.not_lt.2 hbucket)]
  rfl

theorem exec_traceDrainBurst_off (h : s.b.bit HUB_TRACE.DRAIN_EN 0 = false) : exec .traceDrainBurst s = .next s := by
  show execTraceDrainBurst s = _
  unfold execTraceDrainBurst
  rw [if_pos (by rw [h]; rfl)]

end Rows

open Block in
/-- Settles O50. -/
theorem traceEvents : Obligations.TraceEvents := by
  unfold Obligations.TraceEvents
  refine ⟨fun s => ?_, fun s h => ?_, fun s h => exec_traceStaleSweep_between h, fun k s hen hnext hring hbucket => ?_,
    fun s h => exec_traceDrainBurst_off h⟩
  · refine ⟨_, exec_trigNow s, (trigNow_keeps ..).withBlock_eq_graft (S := [.regs, .traces]), fun k hk h2 h3 => ?_⟩
    obtain ⟨c, hset, htrace, he⟩ := trigNow_trace s.b s.tick 0 hk
    dsimp only
    rw [he]
    refine ⟨fun hon hpol => ?_, fun hkept => ?_, trigNow_field ..⟩
    · rw [trigger_trace_frozen (by rwa [(hset k).1]) (by rwa [(hset k).2]) (by rwa [htrace]) (by rwa [htrace])]
      exact ⟨rfl, rfl, frozen_recs ..⟩
    · rw [trigger_trace_kept (by rwa [(hset k).1, (hset k).2]), htrace]
  · refine ⟨_, exec_traceStaleSweep h, ?_, fun k hk => ?_⟩
    · exact (sweepAll_keeps ..).withBlock_eq_graft (S := [.regs, .traces])
    · dsimp only
      exact sweepAll_recs s.b s.tick hk
  · obtain ⟨g, hg, hb⟩ := drainBurst_b k (nextBurst s k) { s with b := s.b.fresh.2 }
    refine ⟨_, exec_traceDrainBurst hen hnext hring hbucket, drainBurst_frame .., ?_, ?_, fun j hj => ?_, ?_, ?_, ?_, ?_, fun a hout hwb => ?_⟩
    · rw [hb, (drainIrq_keeps ..).trace (by decide), (modHub_keeps ..).trace (by decide), burstTaken_trace_same]
      rfl
    · rw [hb, (drainIrq_keeps ..).trace (by decide), (modHub_keeps ..).trace (by decide), burstTaken_trace_same]
    · rw [hb, (drainIrq_keeps ..).trace (by decide), (modHub_keeps ..).trace (by decide), burstTaken_trace_other _ _ _ hj]
      rfl
    · rw [hb, (drainIrq_keeps ..).hub (by decide)]
      exact hg _
    · rw [hb, drainIrq_rd (by decide), rd_modHub, burstTaken_head, nextBurst_length]
      rfl
    · rw [hb, (drainIrq_keeps ..).same .agents (by decide), (modHub_keeps ..).same .agents (by decide),
        (burstTaken_keeps ..).same .agents (by decide)]
      rfl
    · rw [hb, (drainIrq_keeps ..).same .slots (by decide), (modHub_keeps ..).same .slots (by decide),
        (burstTaken_keeps ..).same .slots (by decide)]
      rfl
    · exact drainBurst_host_other _ _ _ (fun i hi => hout i (by rwa [nextBurst_length] at hi)) hwb

end Sys2Proof.Machine
end

section
/-!
SUPPORT. Answers to commands that wait: each port's step leaves the other ports, and the journal takes one entry at most.
-/

namespace Sys2Proof.Machine.Block

open Sys2Proof

variable {b : Block} {now pt j status detail : Nat} {data : List Nat} {fl : Flight} {g : Wait → Option (Nat × Nat × List Nat)}

/-! ### One answer -/

/-- What an answer on port `pt` leaves: the other ports, and the journal but for one entry. -/
structure OneAnswer (pt : Nat) (a b : Block) : Prop where
  other : ∀ j ≠ pt, b.port j = a.port j
  staged : b.hub.staged.length ≤ a.hub.staged.length + 1

theorem OneAnswer.refl (pt : Nat) (b : Block) : OneAnswer pt b b := ⟨fun _ _ => rfl, Nat.le_succ _⟩

theorem stagedBy_length (now pt : Nat) (fl : Flight) (status detail : Nat) : (stagedBy now pt fl status detail).length ≤ 1 := by
  unfold stagedBy
  split <;> simp

theorem status_one (b : Block) (now pt : Nat) (fl : Flight) (status detail : Nat) (data : List Nat) :
    OneAnswer pt b (b.status now pt fl status detail data) := by
  have hport (j : Nat) : (((b.writeResponse pt fl status detail data).setFlag HUB_STATE.CMP 0 pt true).reportStatus now pt fl status detail).port j =
      b.port j := by
    rw [reportStatus_port, (setFlag_keeps ..).port (by decide), writeResponse_port]
  have hstaged : (((b.writeResponse pt fl status detail data).setFlag HUB_STATE.CMP 0 pt true).reportStatus now pt fl status detail).hub.staged.length ≤
      b.hub.staged.length + 1 := by
    rw [reportStatus_staged, (setFlag_keeps ..).hub (by decide), writeResponse_hub, List.length_append]
    exact Nat.add_le_add_left (stagedBy_length ..) _
  by_cases h : status = stAccepted
  · subst h
    rw [status_accepted]
    refine ⟨fun j hj => ?_, by rwa [(modPort_keeps ..).hub (by decide), (wr_keeps ..).hub (by decide)]⟩
    rw [port_modPort_other _ _ hj, (wr_keeps ..).port (by decide), hport]
  · rw [status_of_final h]
    refine ⟨fun j hj => ?_, by rwa [freePort_hub]⟩
    rw [freePort, port_setPort_other _ _ hj, (wr_keeps ..).port (by decide), (wrB_keeps ..).port (by decide), (wr_keeps ..).port (by decide), hport]

theorem answer_one (b : Block) (now pt status detail : Nat) (data : List Nat) : OneAnswer pt b (b.answer now pt status detail data) := by
  unfold answer
  split
  · exact .refl ..
  · split
    · exact ⟨fun j hj => port_setPort_other _ _ hj, Nat.le_succ _⟩
    · exact status_one ..

/-! ### One port's command completed -/

/-- The command of port `pt` completes, where `g` answers what it waits for. -/
def completeAt (b : Block) (now : Nat) (g : Wait → Option (Nat × Nat × List Nat)) (pt : Nat) : Block :=
  match g (b.waitOf pt) with
  | some r => b.answer now pt r.1 r.2.1 r.2.2
  | none => b

theorem completeWhere_eq (b : Block) (now : Nat) (g : Wait → Option (Nat × Nat × List Nat)) :
    b.completeWhere now g = ((b.completeAt now g 0).completeAt now g 1).completeAt now g 2 := rfl

theorem completeAt_one (b : Block) (now : Nat) (g : Wait → Option (Nat × Nat × List Nat)) (pt : Nat) : OneAnswer pt b (b.completeAt now g pt) := by
  unfold completeAt
  split
  · exact answer_one ..
  · exact .refl ..

theorem completeAt_flight {r : Nat × Nat × List Nat} (hfl : (b.port pt).flight = some fl) (howed : fl.owed = []) (hroom : b.hub.staged.length < 16)
    (hg : g fl.wait = some r) (hr : r.1 ≠ stAccepted) : ((b.completeAt now g pt).port pt).flight = none := by
  have hwait : b.waitOf pt = fl.wait := by rw [waitOf, hfl]
  rw [completeAt, hwait, hg]
  dsimp only
  rw [answer_of_room hfl hroom howed, status_flight hr]

/-- A port that `g` does not answer stands, with all but two entries of the journal's room at most taken. -/
theorem completeWhere_other (now : Nat) (hpt : pt < 3) (hg : g (b.waitOf pt) = none) :
    (b.completeWhere now g).port pt = b.port pt ∧ (b.completeWhere now g).hub.staged.length ≤ b.hub.staged.length + 2 := by
  have hnone (c : Block) (h : c.port pt = b.port pt) : c.completeAt now g pt = c := by
    have hwait : c.waitOf pt = b.waitOf pt := by rw [waitOf, waitOf, h]
    rw [completeAt, hwait, hg]
  rw [completeWhere_eq]
  obtain ⟨h0, hs0⟩ := completeAt_one b now g 0
  obtain ⟨h1, hs1⟩ := completeAt_one (b.completeAt now g 0) now g 1
  obtain ⟨h2, hs2⟩ := completeAt_one ((b.completeAt now g 0).completeAt now g 1) now g 2
  obtain rfl | rfl | rfl : pt = 0 ∨ pt = 1 ∨ pt = 2 := by omega
  · rw [hnone b rfl] at h1 hs1 h2 hs2 ⊢
    exact ⟨(h2 0 (by decide)).trans (h1 0 (by decide)), by omega⟩
  · have hport := h0 1 (by decide)
    rw [hnone _ hport] at h2 hs2 ⊢
    exact ⟨(h2 1 (by decide)).trans hport, by omega⟩
  · have hport := (h1 2 (by decide)).trans (h0 2 (by decide))
    rw [hnone _ hport]
    exact ⟨hport, by omega⟩

/-- A port whose command `g` answers is free, where the journal has room for three entries. -/
theorem completeWhere_flight {r : Nat × Nat × List Nat} (hpt : pt < 3) (hfl : (b.port pt).flight = some fl) (howed : fl.owed = [])
    (hroom : b.hub.staged.length < 14) (hg : g fl.wait = some r) (hr : r.1 ≠ stAccepted) : ((b.completeWhere now g).port pt).flight = none := by
  rw [completeWhere_eq]
  obtain ⟨h0, hs0⟩ := completeAt_one b now g 0
  obtain ⟨h1, hs1⟩ := completeAt_one (b.completeAt now g 0) now g 1
  obtain ⟨h2, -⟩ := completeAt_one ((b.completeAt now g 0).completeAt now g 1) now g 2
  obtain rfl | rfl | rfl : pt = 0 ∨ pt = 1 ∨ pt = 2 := by omega
  · rw [h2 0 (by decide), h1 0 (by decide)]
    exact completeAt_flight hfl howed (by omega) hg hr
  · rw [h2 1 (by decide)]
    exact completeAt_flight (by rwa [h0 1 (by decide)]) howed (by omega) hg hr
  · exact completeAt_flight (by rwa [h1 2 (by decide), h0 2 (by decide)]) howed (by omega) hg hr

end Sys2Proof.Machine.Block

namespace Sys2Proof.Machine

open Sys2Proof

/-- Commands that wait for `w` complete, where the block before kept the ports and the journal of `s`. -/
theorem completes_of_completeWhere {s : State} {b : Block} {now : Nat} {g : Wait → Option (Nat × Nat × List Nat)} {r : Nat × Nat × List Nat} {w : Wait}
    (hports : ∀ k, b.port k = s.b.port k) (hstaged : b.hub.staged = s.b.hub.staged) (hw : w ≠ .none) (hg : g w = some r) (hr : r.1 ≠ stAccepted) :
    Completes w s { s with b := b.completeWhere now g } := by
  intro pt hpt hwait hroom howed
  cases hfl : (s.b.port pt).flight with
  | none => exact absurd (by rw [← hwait, Block.waitOf, hfl]) hw
  | some fl =>
    have hflw : fl.wait = w := by rw [← hwait, Block.waitOf, hfl]
    exact Block.completeWhere_flight hpt (by rw [hports, hfl]) (howed fl hfl) (by rwa [hstaged]) (by rw [hflw, hg]) hr

end Sys2Proof.Machine
end

section
/-!
SUPPORT. The wafer halt: its request, the cut, arrival, and the release.
-/

namespace Sys2Proof.Machine

open Sys2Proof

namespace Block

variable {b c : Block} {k now off : Nat}

/-! ### Every agent changed -/

theorem eachAgent_keeps (b : Block) (g : Agent → Agent) : b.Keeps [.agents] (b.eachAgent g) := by
  unfold eachAgent
  simp

theorem eachAgent_same {β : Type} {f : Agent → β} {g : Agent → Agent} (h : ∀ a, f (g a) = f a) (b : Block) (k : Nat) :
    f ((b.eachAgent g).agent k) = f (b.agent k) := by
  refine each_inv (I := fun c => f (c.agent k) = f (b.agent k)) (fun j _ c hc => ?_) rfl
  obtain rfl | hj := eq_or_ne k j
  · rw [agent_modAgent_same, h, hc]
  · rw [agent_modAgent_other _ _ hj, hc]

/-- What the change gives every agent, and an agent at reset has, every agent has. -/
theorem eachAgent_all {P : Agent → Prop} {g : Agent → Agent} (hg : ∀ a, P (g a)) (hreset : P Agent.reset) (b : Block) (k : Nat) :
    P ((b.eachAgent g).agent k) := by
  by_cases hk : k ∈ keysOf b.agents
  · refine of_eq_true (each_reaches (p := fun c => P (c.agent k)) (x := k) (fun c => ?_) (fun c j => ?_) hk b)
    · rw [agent_modAgent_same]
      exact eq_true (hg _)
    · obtain rfl | hj := eq_or_ne k j
      · rw [agent_modAgent_same]
        exact .inl (eq_true (hg _))
      · rw [agent_modAgent_other _ _ hj]
        exact .inr rfl
  · refine each_inv (I := fun c => P (c.agent k)) (fun j hj c hc => ?_) ?_
    · rw [agent_modAgent_other _ _ (by rintro rfl; exact hk hj)]
      exact hc
    · rw [agent, mget_of_notMem hk]
      exact hreset

/-! ### Registers of the halt -/

theorem haltSt_of_off {P : List Nat} (h : RegsOff P b c) (hP : 0x20 ∉ P) : c.haltSt = b.haltSt := h.rd ⟨by decide, hP⟩ 0

theorem haltSt_wr_same (b : Block) {v : Nat} (hv : v ≤ 4) : (b.wr HUB_HALT.STATE 0 v).haltSt = v :=
  (rd_wr_same ..).trans (Nat.mod_eq_of_lt (Nat.lt_of_le_of_lt hv (by decide : 4 < 2 ^ HUB_HALT.STATE.width)))

theorem begun_haltSt (b : Block) (now op : Nat) (c : Cmd) : (b.begun now op c).haltSt = b.haltSt := haltSt_of_off (begun_regsOff ..) (by decide)

theorem begun_lead (b : Block) (now op : Nat) (c : Cmd) : (b.begun now op c).rd HUB_HALT.HALT_LEAD 0 = b.rd HUB_HALT.HALT_LEAD 0 :=
  (begun_regsOff ..).rd (by decide) 0

/-! ### The cut (R257, R258) -/

/-- An agent agentStopped. -/
def agentStopped (a : Agent) : Agent := if a.halted then a else { a with halted := true, armed := false }

theorem agentStopped_halted (a : Agent) : (agentStopped a).halted = true := by
  unfold agentStopped
  split
  · assumption
  · rfl

theorem takeCut_keeps (b : Block) (now off source : Nat) (v : Bool) : b.Keeps [.regs, .hub] (b.takeCut now off source v) := by
  unfold takeCut
  simp

theorem takeCut_haltSt (b : Block) (now off source : Nat) (v : Bool) : (b.takeCut now off source v).haltSt = 2 := by
  unfold takeCut haltSt
  dsimp only
  rw [rd_modHub, rd_inc_apart (by decide), rd_wr_apart (by decide), rd_wr_apart (by decide), rd_wrB_apart (by decide), rd_wr_apart (by decide)]
  exact rd_wr_same ..

theorem takeCut_source (b : Block) (now off : Nat) {source : Nat} (hs : source < 8) (v : Bool) :
    (b.takeCut now off source v).rd HUB_HALT.SOURCE 0 = source := by
  unfold takeCut
  dsimp only
  rw [rd_modHub, rd_inc_apart (by decide), rd_wr_apart (by decide), rd_wr_apart (by decide), rd_wrB_apart (by decide), rd_wr_same]
  exact Nat.mod_eq_of_lt hs

theorem takeCut_consistent (b : Block) (now off source : Nat) (v : Bool) : (b.takeCut now off source v).bit HUB_HALT.CONSISTENT 0 = v := by
  unfold takeCut
  dsimp only
  rw [bit, rd_modHub, rd_inc_apart (by decide), rd_wr_apart (by decide), rd_wr_apart (by decide)]
  exact bit_wrB_same _ rfl ..

theorem takeCut_moment (b : Block) (now off source : Nat) (v : Bool) :
    (b.takeCut now off source v).rd HUB_HALT.CUT_TICK 0 = now % 2 ^ HUB_HALT.CUT_TICK.width ∧
      (b.takeCut now off source v).rd HUB_HALT.CUT_OFFSET 0 = off % 2 ^ HUB_HALT.CUT_OFFSET.width := by
  unfold takeCut
  dsimp only
  rw [rd_modHub, rd_modHub, rd_inc_apart (by decide), rd_wr_apart (by decide), rd_wr_same, rd_inc_apart (by decide), rd_wr_same]
  exact ⟨rfl, rfl⟩

theorem takeCut_hub (b : Block) (now off source : Nat) (v : Bool) : (b.takeCut now off source v).hub = { b.hub with sched := none, wires := true } := rfl

/-! ### Cancelled and immediate halts (R258, R262) -/

theorem cancelHalt_keeps (b : Block) (now : Nat) : b.Keeps [.regs, .agents, .ports, .hub] (b.cancelHalt now) := by
  unfold cancelHalt eachAgent
  simp

/-- The pending halt is cancelled, before its command is answered. -/
def haltCancelled (b : Block) : Block :=
  ((b.inc HUB_HALT.CANCELLED 0).modHub (fun h => { h with sched := none })).eachAgent (fun a => { a with armed := false })

theorem cancelHalt_eq (b : Block) (now : Nat) : b.cancelHalt now = b.haltCancelled.completeWhere now
    (fun w => if w = .halt then some (stConflict, 0, []) else none) := rfl

theorem haltCancelled_keeps (b : Block) : b.Keeps [.regs, .agents, .hub] b.haltCancelled := by
  unfold haltCancelled eachAgent
  simp

theorem cancelHalt_hub {α : Type} {g : Hub → α} (hs : ∀ (x : Hub) v, g { x with sched := v } = g x) (hst : ∀ (x : Hub) v, g { x with staged := v } = g x)
    (hi : ∀ (x : Hub) v, g { x with ibiPending := v } = g x) (b : Block) (now : Nat) : HubSame g b (b.cancelHalt now) := by
  rw [cancelHalt_eq]
  refine TabSame.trans ?_ (hubSame_completeWhere hst hi ..)
  exact HubSame.keeps (HubSame.modHub (Keeps.hubSame (inc_keeps ..) (by decide)) fun x => hs x _) (eachAgent_keeps ..) (by decide)

theorem cancelHalt_sched (b : Block) (now : Nat) : (b.cancelHalt now).hub.sched = none := by
  rw [cancelHalt_eq, (hubSame_completeWhere (g := Hub.sched) (fun _ _ => rfl) (fun _ _ => rfl) ..).eq, haltCancelled, (eachAgent_keeps ..).hub (by decide)]
  rfl

theorem sendSets_keeps (b : Block) (now off : Nat) (o : Option Nat) : b.Keeps [.regs, .fields, .traces, .ties] (b.sendSets now off o) := by
  unfold sendSets sendSet
  simp

theorem sendSets_regsOff (b : Block) (now off : Nat) (o : Option Nat) : RegsOff [0x1F, 0x4B] b (b.sendSets now off o) := by
  unfold sendSets
  dsimp only
  split
  · exact .refl ..
  · exact (regsOff_each fun c k => ((modTie_keeps ..).regsOff (by decide) _).trans (tieRecord_regsOff ..)).2 (.refl ..)

/-- The halt is no longer wanted. -/
def wantTaken (b : Block) : Block := b.modHub (fun h => { h with haltWanted := none })

/-- A halt that was scheduled has been cancelled. -/
def haltPreempted (b : Block) (now : Nat) : Block := b.wantTaken.cond (b.wantTaken.haltSt == haltPending) (fun b => b.cancelHalt now)

/-- Every agent stops, and the halt is in force. -/
def haltedAtOnce (b : Block) (now off code : Nat) : Block := ((b.haltPreempted now).eachAgent agentStopped).takeCut now off code false

theorem immediateHalt_running (h : b.haltSt ≤ 1) (now off code : Nat) :
    b.immediateHalt now off code = (b.haltedAtOnce now off code).cond (code != 5) (fun b => b.sendSets now off none) := by
  have hst : b.wantTaken.haltSt = b.haltSt := rfl
  show (if b.wantTaken.haltSt = haltStopping ∨ b.wantTaken.haltSt = haltHalted then b.wantTaken
    else if b.wantTaken.haltSt = haltReleasing then _ else (b.haltedAtOnce now off code).cond (code != 5) (fun b => b.sendSets now off none)) = _
  rw [hst, if_neg (by unfold haltStopping haltHalted; omega), if_neg (by unfold haltReleasing; omega)]

theorem sentSets_keeps (b : Block) (now off code : Nat) :
    b.Keeps [.regs, .fields, .traces, .ties] (b.cond (code != 5) (fun b => b.sendSets now off none)) := by
  unfold sendSets sendSet
  simp (maxDischargeDepth := 5)

theorem sentSets_regsOff (b : Block) (now off code : Nat) :
    RegsOff [0x1F, 0x4B] b (b.cond (code != 5) (fun b => b.sendSets now off none)) := (regsOff_cond fun _ => sendSets_regsOff ..).2 (.refl ..)

theorem haltPreempted_keeps (b : Block) (now : Nat) : b.Keeps [.regs, .agents, .ports, .hub] (b.haltPreempted now) := by
  unfold haltPreempted wantTaken cancelHalt eachAgent
  simp (maxDischargeDepth := 5)

theorem haltPreempted_wanted (b : Block) (now : Nat) : (b.haltPreempted now).hub.haltWanted = none := by
  unfold haltPreempted cond
  split
  · rw [(cancelHalt_hub (g := Hub.haltWanted) (fun _ _ => rfl) (fun _ _ => rfl) (fun _ _ => rfl) ..).eq]
    rfl
  · rfl

/-- A halt that is releasing goes back to HALTED. -/
def releaseStopped (b : Block) (code : Nat) : Block :=
  (((b.wantTaken.wr HUB_HALT.STATE 0 haltHalted).wr HUB_HALT.SOURCE 0 code).modHub (fun h => { h with release := none })).eachAgent
    (fun a => { a with releaseWord := false })

theorem immediateHalt_releasing (h : b.haltSt = 4) (now off code : Nat) : b.immediateHalt now off code =
    (b.releaseStopped code).completeWhere now (fun w => if w = .resume then some (stConflict, 0, []) else none) := by
  have hst : b.wantTaken.haltSt = 4 := h
  show (if b.wantTaken.haltSt = haltStopping ∨ b.wantTaken.haltSt = haltHalted then b.wantTaken
    else if b.wantTaken.haltSt = haltReleasing then (b.releaseStopped code).completeWhere now
      (fun w => if w = .resume then some (stConflict, 0, []) else none) else _) = _
  rw [hst, if_neg (by decide), if_pos (show 4 = haltReleasing from rfl)]

theorem releaseStopped_rd (b : Block) {code : Nat} (hc : code < 8) :
    (b.releaseStopped code).haltSt = 3 ∧ (b.releaseStopped code).rd HUB_HALT.SOURCE 0 = code := by
  unfold releaseStopped haltSt
  rw [(eachAgent_keeps ..).rd (by decide), (eachAgent_keeps ..).rd (by decide), rd_modHub, rd_modHub, rd_wr_apart (by decide), rd_wr_same, rd_wr_same]
  exact ⟨rfl, Nat.mod_eq_of_lt hc⟩

theorem releaseStopped_hub (b : Block) (code : Nat) : (b.releaseStopped code).hub = { b.hub with haltWanted := none, release := none } := by
  rw [releaseStopped, (eachAgent_keeps ..).hub (by decide)]
  rfl

/-- What the answers to commands that wait leave. -/
theorem completed_parts (b : Block) (now : Nat) (g : Wait → Option (Nat × Nat × List Nat)) : RegsOff windowPages b (b.completeWhere now g) ∧
    b.Keeps [.regs, .ports, .hub] (b.completeWhere now g) ∧ (b.completeWhere now g).hub.haltWanted = b.hub.haltWanted ∧
    (b.completeWhere now g).hub.release = b.hub.release :=
  ⟨(regsOff_completeWhere (List.Subset.refl _) ..).2 (.refl ..), by simp,
    (hubSame_completeWhere (g := Hub.haltWanted) (fun _ _ => rfl) (fun _ _ => rfl) ..).eq,
    (hubSame_completeWhere (g := Hub.release) (fun _ _ => rfl) (fun _ _ => rfl) ..).eq⟩

/-! ### Arrival (R257) -/

theorem putArrival_regsOff (b : Block) (x : FieldNo × BitVec 16 × BitVec 16) : RegsOff [0x1F, 0x4B] b (b.putArrival x) := by
  unfold putArrival
  simp (disch := decide)

theorem putArrival_keeps (b : Block) (x : FieldNo × BitVec 16 × BitVec 16) : b.Keeps [.regs, .fields, .traces] (b.putArrival x) := by simp

/-- The arrivals are kept, and the halt is HALTED with its smear. -/
def haltReached (b : Block) (l : List (FieldNo × BitVec 16 × BitVec 16)) : Block :=
  (((b.each l (fun b x => b.putArrival x)).wr HUB_HALT.STATE 0 haltHalted).wr HUB_HALT.SMEAR_EC 0 (smearOf l).1).wr HUB_HALT.SMEAR_FIELD 0 (smearOf l).2

/-- The second word of HALT's answer. -/
def haltWord (b : Block) (l : List (FieldNo × BitVec 16 × BitVec 16)) : Nat := b.rd HUB_HALT.CONSISTENT 0 * 2 ^ 16 + (smearOf l).1

/-- The halt's record is written. -/
def haltLogged (b : Block) (l : List (FieldNo × BitVec 16 × BitVec 16)) : Block :=
  (b.haltReached l).record 84 ((b.haltReached l).rd HUB_HALT.CUT_TICK 0) ((b.haltReached l).rd HUB_HALT.CUT_OFFSET 0) 0x28 srcHub
    ((b.haltReached l).rd HUB_HALT.SOURCE 0) ((b.haltReached l).rd HUB_HALT.HALTS 0) ((b.haltReached l).haltWord l)

/-- The manager's state follows. -/
def haltNoted (b : Block) (now : Nat) (l : List (FieldNo × BitVec 16 × BitVec 16)) : Block := (b.haltLogged l).evalMgr now

/-- HALT's answer. -/
def haltAnswer (halts word : Nat) (w : Wait) : Option (Nat × Nat × List Nat) := if w = .halt then some (stDone, 0, [halts, word]) else none

theorem haltNoted_keeps (b : Block) (now : Nat) (l : List (FieldNo × BitVec 16 × BitVec 16)) : b.Keeps [.regs, .fields, .traces] (b.haltNoted now l) := by
  unfold haltNoted haltLogged haltReached
  simp

theorem haltNoted_rd (b : Block) (now : Nat) (l : List (FieldNo × BitVec 16 × BitVec 16)) {x : Fld} (hx : x.Fits ∧ x.page = 0x20) (i : Nat) :
    (b.haltNoted now l).rd x i = (b.haltReached l).rd x i := by
  obtain ⟨hfits, hpage⟩ := hx
  rw [haltNoted, (evalMgr_regsOff ..).rd ⟨hfits, by rw [hpage]; decide⟩, haltLogged, rd_record ⟨hfits, by rw [hpage]; decide⟩]

theorem haltReached_rd (b : Block) (l : List (FieldNo × BitVec 16 × BitVec 16)) : (b.haltReached l).haltSt = 3 ∧
    (b.haltReached l).rd HUB_HALT.SMEAR_EC 0 = (smearOf l).1 % 2 ^ HUB_HALT.SMEAR_EC.width := by
  unfold haltReached haltSt
  rw [rd_wr_apart (by decide), rd_wr_apart (by decide), rd_wr_same, rd_wr_apart (by decide), rd_wr_same]
  exact ⟨rfl, rfl⟩

/-! ### Release (R261) -/

/-- Whether an agent is halted, and whether it holds a release word. -/
def stops (a : Agent) : Bool × Bool := (a.halted, a.releaseWord)

theorem release_stops (a : Agent) (v : Bool) : stops (a.release v) = stops a := by
  unfold Agent.release
  dsimp only
  split_ifs <;> rfl

theorem parcelStart_stops (b : Block) (f s cls : Nat) (crit : Bool) (k : Nat) :
    stops ((b.parcelStart f s cls crit false).agent k) = stops (b.agent k) := by
  unfold parcelStart
  dsimp only
  obtain rfl | hk := eq_or_ne k (pid f s)
  · rw [agent_modAgent_same]
    cases b.bit F_DROOP.STAGGER_ON f
    · exact (release_stops ..).trans rfl
    · rfl
  · rw [agent_modAgent_other _ _ hk]

theorem restartParcel_stops (b : Block) (j k : Nat) : stops ((b.restartParcel j).agent k) = stops (b.agent k) := by
  unfold restartParcel
  dsimp only
  split
  · rfl
  · exact parcelStart_stops ..

theorem halted_of_stops {a a' : Agent} (h : stops a = stops a') : a.halted = a'.halted ∧ a.releaseWord = a'.releaseWord := Prod.mk.inj h

/-- An agent that holds a release word restarts its cores. -/
def releaseAgent (b : Block) (k : Nat) : Block :=
  if (b.agent k).halted && (b.agent k).releaseWord && !b.dead k then
    (b.modAgent k (fun a => { a with halted := false, releaseWord := false, armed := false })).restartParcel k
  else b

theorem releaseAgents_eq (b : Block) : b.releaseAgents = b.each (keysOf b.agents) (fun b k => b.releaseAgent k) := rfl

theorem restartParcel_keeps (b : Block) (k : Nat) : b.Keeps [.agents] (b.restartParcel k) := by
  unfold restartParcel
  dsimp only
  split
  · exact .refl ..
  · simp

theorem releaseAgent_keeps (b : Block) (k : Nat) : b.Keeps [.agents] (b.releaseAgent k) := by
  unfold releaseAgent
  split
  · exact (modAgent_keeps ..).trans (restartParcel_keeps ..)
  · exact .refl ..

theorem releaseAgent_other {j : Nat} (hj : k ≠ j) (b : Block) :
    ((b.releaseAgent j).agent k).halted = (b.agent k).halted ∧ ((b.releaseAgent j).agent k).releaseWord = (b.agent k).releaseWord := by
  unfold releaseAgent
  split
  · exact halted_of_stops ((restartParcel_stops ..).trans (by rw [agent_modAgent_other _ _ hj]))
  · exact ⟨rfl, rfl⟩

/-- An agent that may restart: it has restarted, or holds its release word and is no dead slot's. -/
def MayRestart (k : Nat) (b : Block) : Prop := ((b.agent k).halted = true → (b.agent k).releaseWord = true) ∧ b.dead k = false

theorem releaseAgent_same (h : MayRestart k b) : ((b.releaseAgent k).agent k).halted = false := by
  obtain ⟨hword, hdead⟩ := h
  unfold releaseAgent
  cases hh : (b.agent k).halted
  · rw [if_neg (by simp)]
    exact hh
  · rw [hword hh, hdead, if_pos (by rfl), (halted_of_stops (restartParcel_stops ..)).1, agent_modAgent_same]

theorem MayRestart.releaseAgent (h : MayRestart k b) (j : Nat) : MayRestart k (b.releaseAgent j) := by
  have hdead : (b.releaseAgent j).dead k = false := by
    rw [dead, (releaseAgent_keeps ..).cadE (by decide)]
    exact h.2
  obtain rfl | hj := eq_or_ne k j
  · exact ⟨fun hh => absurd (hh.symm.trans (releaseAgent_same h)) (by decide), hdead⟩
  · obtain ⟨hhalted, hword⟩ := releaseAgent_other hj b
    exact ⟨by rw [hhalted, hword]; exact h.1, hdead⟩

theorem releaseAgents_keeps (b : Block) : b.Keeps [.agents] b.releaseAgents := by
  rw [releaseAgents_eq]
  exact each_inv (I := b.Keeps [.agents]) (fun k _ c hc => hc.trans (releaseAgent_keeps c k)) (.refl ..)

theorem releaseAgents_halted (hword : (b.agent k).releaseWord = true) (hdead : b.dead k = false) :
    (b.releaseAgents.agent k).halted = false := by
  have hk : k ∈ keysOf b.agents := by
    by_contra hk
    rw [agent, mget_of_notMem hk] at hword
    exact Bool.false_ne_true hword
  rw [releaseAgents_eq]
  have hmay : MayRestart k b := ⟨fun _ => hword, hdead⟩
  refine each_reaches_of (I := MayRestart k) (p := fun c => (c.agent k).halted) (x := k) (fun j _ c hc => hc.releaseAgent j)
    (fun c hc => releaseAgent_same hc) (fun j _ c hc => ?_) hk hmay
  obtain rfl | hj := eq_or_ne k j
  · exact .inl (releaseAgent_same hc)
  · exact .inr (releaseAgent_other hj c).1

/-- The wires fall, and the agents restart. -/
def wiresReleased (b : Block) : Block := (b.modHub (fun h => { h with release := none, wires := false })).releaseAgents

/-- The release is shown. -/
def releaseShown (b : Block) (now : Nat) : Block :=
  ((((b.wiresReleased.wr HUB_HALT.STATE 0 haltRunning).inc HUB_HALT.RESUMES 0).wr HUB_HALT.RELEASE_TICK 0 now).wr HUB_FAULT.RESTART_PENDING 0 0).modPins
    (fun p => { p with jobRestartReq := false })

def releaseNoted (b : Block) (now : Nat) : Block :=
  ((b.releaseShown now).record 84 now 0 0x2A srcHub 0 ((b.releaseShown now).rd HUB_HALT.HALTS 0) now).evalMgr now

/-- RESUME's answer. -/
def resumeAnswer (now : Nat) (w : Wait) : Option (Nat × Nat × List Nat) := if w = .resume then some (stDone, 0, [lowBits 32 now]) else none

theorem releaseShown_keeps (b : Block) (now : Nat) : b.wiresReleased.Keeps [.regs, .pins] (b.releaseShown now) := by
  unfold releaseShown
  simp

theorem releaseNoted_keeps (b : Block) (now : Nat) : (b.releaseShown now).Keeps [.regs, .fields, .traces] (b.releaseNoted now) := by
  unfold releaseNoted
  simp

theorem releaseNoted_hub (b : Block) (now : Nat) : (b.releaseNoted now).hub = { b.hub with release := none, wires := false } := by
  rw [(releaseNoted_keeps ..).hub (by decide), (releaseShown_keeps ..).hub (by decide), wiresReleased, (releaseAgents_keeps _).hub (by decide)]
  rfl

theorem releaseNoted_port (b : Block) (now k : Nat) : (b.releaseNoted now).port k = b.port k := by
  rw [(releaseNoted_keeps ..).port (by decide), (releaseShown_keeps ..).port (by decide), wiresReleased, (releaseAgents_keeps _).port (by decide)]
  rfl

theorem releaseNoted_rd (b : Block) (now : Nat) {x : Fld} (hx : x.Fits ∧ x.page ∉ [0x12, 0x1F, 0x4B]) (i : Nat) :
    (b.releaseNoted now).rd x i = (b.releaseShown now).rd x i := by
  obtain ⟨hfits, hpage⟩ := hx
  have hmgr : x.page ∉ [0x12] := fun h => hpage (by simp at h ⊢; omega)
  have hrecord : x.page ∉ [0x1F, 0x4B] := fun h => hpage (by simp at h ⊢; omega)
  rw [releaseNoted, (evalMgr_regsOff ..).rd ⟨hfits, hmgr⟩, rd_record ⟨hfits, hrecord⟩]

theorem releaseShown_rd (b : Block) (now : Nat) : (b.releaseShown now).haltSt = 0 ∧ (b.releaseShown now).rd HUB_FAULT.RESTART_PENDING 0 = 0 := by
  unfold releaseShown haltSt
  rw [rd_modPins, rd_modPins, rd_wr_apart (by decide), rd_wr_apart (by decide), rd_inc_apart (by decide), rd_wr_same, rd_wr_same]
  exact ⟨rfl, rfl⟩

theorem releaseNoted_pins (b : Block) (now : Nat) : (b.releaseNoted now).pins.jobRestartReq = false := by
  rw [(releaseNoted_keeps ..).pins (by decide)]
  rfl

end Block

section Rows

open Block

variable {c : Cmd} {s : State} {why : HaltCause} {sc : ScOff}

theorem exec_halt_scheduled (h : Passes 0x40 c s) (harg : c.arg 0 = 1) (hlead : s.tick + s.b.rd HUB_HALT.HALT_LEAD 0 ≤ c.tick48 1)
    (hfar : c.tick48 1 ≤ s.tick + 2 ^ 23) (hst : s.b.haltSt = 0) (hwanted : s.b.hub.haltWanted = none) :
    exec (.halt c) s = .next { s with
      b := ((((s.b.begun s.tick 0x40 c).wr HUB_HALT.STATE 0 haltPending).wr HUB_HALT.SCHED_TICK 0 (c.tick48 1)).modHub
        (fun h => { h with sched := some (c.tick48 1) })).await (portNo c.port) .halt } := by
  show execHalt c s = _
  rw [execHalt, h.runCmdB_eq]
  dsimp only
  rw [if_pos harg, begun_lead, begun_haltSt, begun_hub, if_neg (by omega), hst, hwanted, if_neg (by simp [haltRunning])]

theorem exec_halt_immediate (h : Passes 0x40 c s) (harg : c.arg 0 = 0) (hst : s.b.haltSt = 0) (hwanted : s.b.hub.haltWanted = none) :
    exec (.halt c) s = .next { s with
      b := ((s.b.begun s.tick 0x40 c).modHub (fun h => { h with haltWanted := some 2 })).await (portNo c.port) .halt } := by
  show execHalt c s = _
  rw [execHalt, h.runCmdB_eq]
  dsimp only
  rw [if_neg (by omega), begun_haltSt, begun_hub, hst, hwanted, if_neg (by simp [haltRunning])]

theorem exec_halt_early (h : Passes 0x40 c s) (harg : c.arg 0 = 1) (hearly : c.tick48 1 < s.tick + s.b.rd HUB_HALT.HALT_LEAD 0) :
    exec (.halt c) s = .next { s with
      b := (s.b.begun s.tick 0x40 c).answer s.tick (portNo c.port) stBadArg (badArgDetail 2 0) [] } := by
  show execHalt c s = _
  rw [execHalt, h.runCmdB_eq]
  dsimp only
  rw [if_pos harg, begun_lead, if_pos (.inl hearly)]
  rfl

theorem exec_haltCut {n : Nat} (hsched : s.b.hub.sched = some n) (hn : n ≤ s.tick) : exec .haltCut s = .next { s with
    b := (s.b.eachAgent agentStopped).takeCut s.tick 0 1 (!s.b.onWire) } := by
  show execHaltCut s = _
  unfold execHaltCut onB
  dsimp only
  rw [hsched]
  dsimp only
  rw [if_neg (Nat.not_lt.2 hn)]
  rfl

theorem exec_haltCut_none (h : s.b.hub.sched = none) : exec .haltCut s = .next s := by
  show execHaltCut s = _
  unfold execHaltCut onB
  dsimp only
  rw [h]

theorem exec_immediateHalt (h : s.b.hub.haltWanted = some (haltCode why)) :
    exec (.immediateHalt why sc) s = .next { s with b := s.b.immediateHalt s.tick sc (haltCode why) } :=
  next_block (s := s) rfl (cond_of_true (by rw [h]; exact beq_self_eq_true _) _)

theorem exec_immediateHalt_unwanted (h : s.b.hub.haltWanted ≠ some (haltCode why)) : exec (.immediateHalt why sc) s = .next s :=
  next_block (s := s) rfl (cond_of_false (beq_eq_false_iff_ne.2 h) _)

theorem exec_haltedEntry (l : List (FieldNo × BitVec 16 × BitVec 16)) (hst : s.b.haltSt = 2) (harrived : s.b.allArrived = true) :
    exec (.haltedEntry l) s = .next { s with
      b := (s.b.haltNoted s.tick l).completeWhere s.tick (haltAnswer ((s.b.haltLogged l).rd HUB_HALT.HALTS 0) ((s.b.haltReached l).haltWord l)) } := by
  show execHaltedEntry l s = _
  unfold execHaltedEntry onB
  dsimp only
  rw [hst, harrived, if_neg (by decide)]
  rfl

theorem exec_haltedEntry_other (l : List (FieldNo × BitVec 16 × BitVec 16)) (hst : s.b.haltSt ≠ 2) : exec (.haltedEntry l) s = .next s := by
  show execHaltedEntry l s = _
  unfold execHaltedEntry onB
  dsimp only
  rw [if_pos (.inl hst)]

theorem exec_haltTimeout (f : FieldNo) (p : SlotNo) (h : 2 ≤ s.b.haltSt) :
    exec (.haltTimeout f p) s = .next { s with b := (s.b.inc HUB_HALT.TIMEOUTS 0).fault 25 f p 0 } :=
  next_block (s := s) rfl (cond_of_true (decide_eq_true h) _)

theorem exec_haltTimeout_running (f : FieldNo) (p : SlotNo) (h : s.b.haltSt < 2) : exec (.haltTimeout f p) s = .next s :=
  next_block (s := s) rfl (cond_of_false (decide_eq_false (Nat.not_le.2 h)) _)

theorem exec_tieHaltSet {k : TieNo} {g kind : Byte} (hst : s.b.tieSt k = tieUp) (hg : g.toNat = s.b.rd HUB_LOCK.GROUP 0) (hne : g.toNat ≠ 0)
    (hkind : kind.toNat = 1) (hhalt : s.b.haltSt < 2) (hwanted : s.b.hub.haltWanted = none) :
    exec (.tieHaltSet k g kind sc) s = .next { s with
      b := (((s.b.inc HUB_HALT.TIE_RX 0).tieRecord s.tick sc 0x21 k 0xFF g.toNat).modHub (fun h => { h with haltWanted := some 5 })).sendSets s.tick sc
        (some k.val) } := by
  have hoff : RegsOff [0x20] s.b (s.b.inc HUB_HALT.TIE_RX 0) := (regsOff_inc (by decide) ..).2 (.refl ..)
  have htie : (s.b.inc HUB_HALT.TIE_RX 0).tieSt k = tieUp := by
    obtain ⟨hfits, hpage⟩ := tieFlds_fit k k.isLt (HUB_TIE.STATE k) (by simp [tieFlds])
    rw [← hst]
    exact hoff.rd ⟨hfits, by rw [hpage]; decide⟩ 0
  have hhalt' : (s.b.inc HUB_HALT.TIE_RX 0).haltSt = s.b.haltSt := rd_inc_apart (by decide) ..
  have hub : (s.b.inc HUB_HALT.TIE_RX 0).hub = s.b.hub := rfl
  show execTieHaltSet k g kind sc s = _
  unfold execTieHaltSet onB
  dsimp only
  rw [htie, hoff.rd (by decide), hhalt', hub, hwanted, if_neg (by simp [← hg, hne, hkind]), if_neg (by simp [haltStopping, hhalt])]

theorem exec_tieHaltSet_other {k : TieNo} {g : Byte} (kind : Byte) (hg : g.toNat ≠ s.b.rd HUB_LOCK.GROUP 0) :
    exec (.tieHaltSet k g kind sc) s = .next { s with b := s.b.inc HUB_HALT.TIE_RX 0 } := by
  show execTieHaltSet k g kind sc s = _
  unfold execTieHaltSet onB
  dsimp only
  rw [rd_inc_apart (by decide), if_pos (.inr (.inl hg))]

/-- The tick that RESUME names, or the earliest one. -/
def resumeTick (c : Cmd) (s : State) : Nat := if c.tick48 0 = 0 then s.tick + s.b.rd HUB_HALT.HALT_LEAD 0 else c.tick48 0

theorem exec_resume_halted (h : Passes 0x41 c s) (hlead : s.tick + s.b.rd HUB_HALT.HALT_LEAD 0 ≤ resumeTick c s) (hst : s.b.haltSt = 3) :
    exec (.resume c) s = .next { s with
      b := (((s.b.begun s.tick 0x41 c).wr HUB_HALT.STATE 0 haltReleasing).modHub (fun h => { h with release := some (resumeTick c s) })).await
        (portNo c.port) .resume } := by
  show execResume c s = _
  rw [execResume, h.runCmdB_eq]
  dsimp only
  rw [begun_lead, show (if c.tick48 0 = 0 then s.tick + s.b.rd HUB_HALT.HALT_LEAD 0 else c.tick48 0) = resumeTick c s from rfl, begun_haltSt, hst,
    if_neg (Nat.not_lt.2 hlead), if_neg (by decide), if_pos (show 3 = haltHalted from rfl)]

/-- The scheduled halt of RESUME is cancelled. -/
def resumeCancelled (c : Cmd) (s : State) : Block := ((s.b.begun s.tick 0x41 c).cancelHalt s.tick).wr HUB_HALT.STATE 0 haltRunning

theorem exec_resume_pending (h : Passes 0x41 c s) (hlead : s.tick + s.b.rd HUB_HALT.HALT_LEAD 0 ≤ resumeTick c s) (hst : s.b.haltSt = 1) :
    exec (.resume c) s = .next { s with
      b := (resumeCancelled c s).answer s.tick (portNo c.port) stDone 0 [lowBits 32 (resumeTick c s)] } := by
  show execResume c s = _
  rw [execResume, h.runCmdB_eq]
  dsimp only
  rw [begun_lead, show (if c.tick48 0 = 0 then s.tick + s.b.rd HUB_HALT.HALT_LEAD 0 else c.tick48 0) = resumeTick c s from rfl, begun_haltSt, hst,
    if_neg (Nat.not_lt.2 hlead), if_pos (show 1 = haltPending from rfl)]
  rfl

theorem portNo_lt (p : CmdPort) : portNo p < 3 := by cases p <;> decide

theorem resumeCancelled_taken (c : Cmd) (hroom : s.b.hub.staged.length < 14) : Taken 0x41 c s.tick (resumeCancelled c s) := by
  have hbegun := begun_taken 0x41 c s.tick (b := s.b) (by omega)
  have hkeeps := haltCancelled_keeps (s.b.begun s.tick 0x41 c)
  have hstaged : (s.b.begun s.tick 0x41 c).haltCancelled.hub.staged = s.b.hub.staged := by
    rw [haltCancelled, (eachAgent_keeps ..).hub (by decide)]
    show (s.b.begun s.tick 0x41 c).hub.staged = _
    rw [begun_hub]
  have hflight := hkeeps.port (by decide) (portNo c.port)
  obtain ⟨hport, hlen⟩ := completeWhere_other (b := (s.b.begun s.tick 0x41 c).haltCancelled) (pt := portNo c.port) s.tick (portNo_lt _)
    (g := fun w => if w = .halt then some (stConflict, 0, []) else none) (by rw [waitOf, hflight, hbegun.flight]; rfl)
  refine Ready.of_keeps (a := (s.b.begun s.tick 0x41 c).cancelHalt s.tick) ⟨?_, rfl, ?_⟩ (wr_keeps ..) (by decide) (by decide)
  · rw [cancelHalt_eq, hport, hflight, hbegun.flight]
  · exact Nat.lt_of_le_of_lt hlen (by rw [hstaged]; omega)

theorem exec_haltRelease {n : Nat} (hrelease : s.b.hub.release = some n) (hn : n ≤ s.tick) : exec .haltRelease s = .next { s with
    b := (s.b.releaseNoted s.tick).completeWhere s.tick (resumeAnswer s.tick) } := by
  show execHaltRelease s = _
  unfold execHaltRelease onB
  dsimp only
  rw [hrelease]
  dsimp only
  rw [if_neg (Nat.not_lt.2 hn)]
  rfl

theorem exec_haltRelease_none (h : s.b.hub.release = none) : exec .haltRelease s = .next s := by
  show execHaltRelease s = _
  unfold execHaltRelease onB
  dsimp only
  rw [h]

end Rows

section Requests

open Block

/-- A command that waits, where its row has left the ports as the command's start left them. -/
theorem waits_of_begun {op : Nat} {c : Cmd} {s : State} {d : Block} (hport : d.port (portNo c.port) = (s.b.begun s.tick op c).port (portNo c.port))
    (w : Wait) : Waits c w { s with b := d.await (portNo c.port) w } :=
  waits_of_flight (by rw [hport]; exact begun_flight ..) rfl w s

theorem begun_agents (b : Block) (now op : Nat) (c : Cmd) : (b.begun now op c).agents = b.agents :=
  (begun_keeps b now op c).same .agents (by decide)

end Requests

open Block in
/-- Settles O51. -/
theorem haltAndRelease : Obligations.HaltAndRelease := by
  unfold Obligations.HaltAndRelease
  refine ⟨fun c s hpass harg hlead hfar hst hwanted => ?_, fun c s hpass harg hst hwanted => ?_, fun c s hpass harg hearly hroom => ?_,
    fun n s hsched hn => ?_, fun s h => exec_haltCut_none h, fun why sc s hwanted hst => ?_, fun why sc s hwanted hst => ?_,
    fun why sc s h => exec_immediateHalt_unwanted h, fun l s hst harrived => ?_, fun l s hst => exec_haltedEntry_other l hst,
    fun f p s hst => ?_, fun f p s hst => exec_haltTimeout_running f p hst, fun k g kind sc s hst hg hne hkind hhalt hwanted => ?_,
    fun k g kind sc s hg => ?_, fun c u s hpass hu hlead => ⟨fun hst => ?_, fun hst hroom => ?_⟩, fun n s hrelease hn => ?_,
    fun s h => exec_haltRelease_none h⟩
  · refine ⟨_, exec_halt_scheduled hpass harg hlead hfar hst hwanted, inBlock_mk .., ?_, ?_, rfl, ?_⟩
    · refine waits_of_begun (op := 0x40) ?_ .halt
      rw [(modHub_keeps ..).port (by decide), (wr_keeps ..).port (by decide), (wr_keeps ..).port (by decide)]
    · dsimp only
      rw [haltSt, rd_await, rd_modHub, rd_wr_apart (by decide)]
      exact haltSt_wr_same _ (v := haltPending) (by decide)
    · show (s.b.begun s.tick 0x40 c).agents = s.b.agents
      rw [begun_agents]
  · refine ⟨_, exec_halt_immediate hpass harg hst hwanted, inBlock_mk .., ?_, ?_, rfl, ?_⟩
    · refine waits_of_begun (op := 0x40) ?_ .halt
      rw [(modHub_keeps ..).port (by decide)]
    · dsimp only
      rw [haltSt, rd_await, rd_modHub, (begun_regsOff ..).rd (by decide)]
      exact hst
    · show (s.b.begun s.tick 0x40 c).agents = s.b.agents
      rw [begun_agents]
  · refine ⟨_, exec_halt_early hpass harg hearly, inBlock_mk .., (begun_taken 0x40 c s.tick hroom).answered (by decide) (by decide) (by decide) s, ?_⟩
    dsimp only
    rw [haltSt, answer_rd (by decide)]
    exact begun_haltSt ..
  · refine ⟨_, exec_haltCut hsched hn, inBlock_mk .., takeCut_haltSt .., rfl, rfl, takeCut_source _ _ _ (by decide) _, (takeCut_moment ..).2,
      (takeCut_moment ..).1, ?_, fun k => ?_⟩
    · dsimp only
      rw [(takeCut_keeps ..).same .slots (by decide), (eachAgent_keeps ..).same .slots (by decide)]
    · dsimp only
      rw [(takeCut_keeps ..).agent (by decide)]
      exact eachAgent_all (P := fun a => a.halted = true) agentStopped_halted rfl s.b k
  · have hcode : haltCode why < 8 := by cases why <;> decide
    have hoff := sentSets_regsOff (s.b.haltedAtOnce s.tick sc (haltCode why)) s.tick sc (haltCode why)
    have hkeeps := sentSets_keeps (s.b.haltedAtOnce s.tick sc (haltCode why)) s.tick sc (haltCode why)
    refine ⟨_, next_block (exec_immediateHalt hwanted) (immediateHalt_running hst ..), inBlock_mk .., ?_, ?_, ?_, ?_, ?_, ?_, fun k => ?_⟩
    · dsimp only
      rw [haltSt_of_off hoff (by decide), haltedAtOnce, takeCut_haltSt]
    · dsimp only
      rw [hkeeps.hub (by decide), haltedAtOnce, takeCut_hub]
      dsimp only
      rw [(eachAgent_keeps ..).hub (by decide), haltPreempted_wanted]
    · dsimp only
      rw [hkeeps.hub (by decide), haltedAtOnce, takeCut_hub]
    · dsimp only
      rw [hoff.rd (by decide), haltedAtOnce, takeCut_source _ _ _ hcode]
    · dsimp only
      rw [hoff.bit (by decide), haltedAtOnce, takeCut_consistent]
    · dsimp only
      rw [hkeeps.same .slots (by decide), haltedAtOnce, (takeCut_keeps ..).same .slots (by decide), (eachAgent_keeps ..).same .slots (by decide),
        (haltPreempted_keeps ..).same .slots (by decide)]
    · dsimp only
      rw [hkeeps.agent (by decide), haltedAtOnce, (takeCut_keeps ..).agent (by decide)]
      exact eachAgent_all (P := fun a => a.halted = true) agentStopped_halted rfl _ k
  · have hcode : haltCode why < 8 := by cases why <;> decide
    obtain ⟨hhalt, hsource⟩ := releaseStopped_rd s.b hcode
    obtain ⟨hoff, hkeeps, hwant, hrel⟩ := completed_parts (s.b.releaseStopped (haltCode why)) s.tick (fun w => if w = .resume then some (stConflict, 0, []) else none)
    refine ⟨_, next_block (exec_immediateHalt hwanted) (immediateHalt_releasing hst ..), inBlock_mk .., ?_, ?_, ?_, ?_, fun k => ?_⟩
    · dsimp only
      rw [haltSt_of_off hoff (by decide), hhalt]
    · dsimp only
      rw [hwant, releaseStopped_hub]
    · dsimp only
      rw [hrel, releaseStopped_hub]
    · dsimp only
      rw [hoff.rd (by decide), hsource]
    · dsimp only
      rw [hkeeps.agent (by decide), releaseStopped]
      exact ⟨eachAgent_all (P := fun a => a.releaseWord = false) (fun _ => rfl) rfl _ k,
        eachAgent_same (f := Agent.halted) (g := fun a => { a with releaseWord := false }) (fun _ => rfl) _ k⟩
  · obtain ⟨hreached, hsmear⟩ := haltReached_rd s.b l
    obtain ⟨hoff, hkeeps, -, -⟩ := completed_parts (s.b.haltNoted s.tick l) s.tick
      (haltAnswer ((s.b.haltLogged l).rd HUB_HALT.HALTS 0) ((s.b.haltReached l).haltWord l))
    refine ⟨_, exec_haltedEntry l hst harrived, inBlock_mk .., ?_, ?_, ?_, ?_⟩
    · dsimp only
      rw [haltSt_of_off hoff (by decide), haltSt, haltNoted_rd _ _ _ (by decide)]
      exact hreached
    · dsimp only
      rw [hoff.rd (by decide), haltNoted_rd _ _ _ (by decide), hsmear]
    · dsimp only
      rw [hkeeps.same .agents (by decide), (haltNoted_keeps ..).same .agents (by decide)]
    · exact completes_of_completeWhere (r := (stDone, 0, [(s.b.haltLogged l).rd HUB_HALT.HALTS 0, (s.b.haltReached l).haltWord l]))
        (fun k => (haltNoted_keeps ..).port (by decide) k) (congrArg Hub.staged ((haltNoted_keeps ..).hub (by decide))) (by decide) (if_pos rfl)
        (show stDone ≠ stAccepted by decide)
  · refine ⟨_, exec_haltTimeout f p hst, ?_, ?_, ?_, ?_⟩
    · exact Keeps.withBlock_eq_graft (S := [.regs, .fields, .faults]) (by simp)
    · exact (regsBut_fault ..).2 ((regsBut_inc (by simp)).2 (.refl _ _))
    · dsimp only
      rw [rd_fault, rd_inc_same]
    · have hp : lowBits 16 p.val = p := Nat.mod_eq_of_lt (by have := p.isLt; omega)
      dsimp only
      rw [faults_fault, hp]
      rfl
  · have hoff := sendSets_regsOff (((s.b.inc HUB_HALT.TIE_RX 0).tieRecord s.tick sc 0x21 k 0xFF g.toNat).modHub (fun h => { h with haltWanted := some 5 }))
      s.tick sc (some k.val)
    have hkeeps := sendSets_keeps (((s.b.inc HUB_HALT.TIE_RX 0).tieRecord s.tick sc 0x21 k 0xFF g.toNat).modHub (fun h => { h with haltWanted := some 5 }))
      s.tick sc (some k.val)
    refine ⟨_, exec_tieHaltSet hst hg hne hkind hhalt hwanted, inBlock_mk .., ?_, ?_, ?_⟩
    · dsimp only
      rw [hkeeps.hub (by decide)]
      rfl
    · dsimp only
      rw [hkeeps.same .agents (by decide), (modHub_keeps ..).same .agents (by decide), (tieRecord_keeps ..).same .agents (by decide),
        (inc_keeps ..).same .agents (by decide)]
    · dsimp only
      rw [hoff.rd (by decide), rd_modHub, (tieRecord_regsOff ..).rd (by decide), rd_inc_same]
  · refine ⟨_, exec_tieHaltSet_other kind hg, ?_, ?_⟩
    · exact Keeps.withBlock_eq_graft (S := [.regs]) (by simp)
    · exact (regsBut_inc (by simp)).2 (.refl _ _)
  · subst hu
    refine ⟨_, exec_resume_halted hpass hlead hst, inBlock_mk .., ?_, ?_, rfl, ?_⟩
    · refine waits_of_begun (op := 0x41) ?_ .resume
      rw [(modHub_keeps ..).port (by decide), (wr_keeps ..).port (by decide)]
    · dsimp only
      rw [haltSt, rd_await, rd_modHub]
      exact haltSt_wr_same _ (v := haltReleasing) (by decide)
    · show (s.b.begun s.tick 0x41 c).agents = s.b.agents
      rw [begun_agents]
  · subst hu
    have htaken := resumeCancelled_taken c hroom
    refine ⟨_, exec_resume_pending hpass hlead hst, inBlock_mk .., htaken.answered (by decide) (by decide) (by decide) s, ?_, ?_, ?_⟩
    · dsimp only
      rw [haltSt, answer_rd (by decide)]
      exact haltSt_wr_same _ (v := haltRunning) (by decide)
    · dsimp only
      rw [(hubSame_answer (g := Hub.sched) (fun _ _ => rfl) (fun _ _ => rfl) ..).eq, resumeCancelled, (wr_keeps ..).hub (by decide), cancelHalt_sched]
    · rw [rspWord]
      dsimp only
      rw [htaken.answer_rspData (by decide) _ _ _ (by decide)]
      exact Nat.mod_mod_of_dvd _ (dvd_refl _)
  · obtain ⟨hhalt, hrestart⟩ := releaseShown_rd s.b s.tick
    obtain ⟨hoff, hkeeps, -, hrel⟩ := completed_parts (s.b.releaseNoted s.tick) s.tick (resumeAnswer s.tick)
    have hwires : ((s.b.releaseNoted s.tick).completeWhere s.tick (resumeAnswer s.tick)).hub.wires = (s.b.releaseNoted s.tick).hub.wires :=
      (hubSame_completeWhere (g := Hub.wires) (fun _ _ => rfl) (fun _ _ => rfl) ..).eq
    refine ⟨_, exec_haltRelease hrelease hn, inBlock_mk .., ?_, ?_, ?_, ?_, ?_, ?_, fun k _ hword hdead => ?_⟩
    · dsimp only
      rw [haltSt_of_off hoff (by decide), haltSt, releaseNoted_rd _ _ (by decide)]
      exact hhalt
    · dsimp only
      rw [hrel, releaseNoted_hub]
    · dsimp only
      rw [hwires, releaseNoted_hub]
    · dsimp only
      rw [hkeeps.pins (by decide), releaseNoted_pins]
    · dsimp only
      rw [hoff.rd (by decide), releaseNoted_rd _ _ (by decide), hrestart]
    · exact completes_of_completeWhere (r := (stDone, 0, [lowBits 32 s.tick])) (fun k => releaseNoted_port ..)
        (by rw [releaseNoted_hub]) (by decide) (if_pos rfl)
        (show stDone ≠ stAccepted by decide)
    · dsimp only
      rw [hkeeps.agent (by decide), (releaseNoted_keeps ..).agent (by decide), (releaseShown_keeps ..).agent (by decide)]
      exact releaseAgents_halted hword hdead

end Sys2Proof.Machine
end

section
/-!
SUPPORT. Processors: gates, violations, restarts, the loader's check, and the hold.
-/

namespace Sys2Proof.Machine

open Sys2Proof

namespace Block

variable {b c : Block} {p now off comp cause : Nat}

/-! ### Compartments and gates (R266 to R268) -/

theorem enterComp_keeps (b : Block) (p comp : Nat) : b.Keeps [.procs] (b.enterComp p comp) := by
  unfold enterComp
  simp

theorem enterComp_same (b : Block) (p comp : Nat) : (b.enterComp p comp).proc p = { b.proc p with comp := comp, mpu := b.mpuSet p comp } :=
  proc_modProc_same ..

theorem enterComp_other {q : Nat} (h : q ≠ p) (b : Block) (comp : Nat) : (b.enterComp p comp).proc q = b.proc q := proc_modProc_other _ _ h

/-- A gate call's outcome, and the caller's regions in force again. -/
def gateEnded (b : Block) (p caller v : Nat) : Block := (b.modProc p (fun q => { q with gate := v })).enterComp p caller

theorem gateEnded_keeps (b : Block) (p caller v : Nat) : b.Keeps [.procs] (b.gateEnded p caller v) := by
  unfold gateEnded enterComp
  simp

/-- Of a processor what a gate call's end leaves. -/
theorem gateEnded_proc (b : Block) (p caller v : Nat) : ((b.gateEnded p caller v).proc p).gate = v ∧ ((b.gateEnded p caller v).proc p).comp = caller ∧
    ((b.gateEnded p caller v).proc p).call = (b.proc p).call ∧ ((b.gateEnded p caller v).proc p).compFaults = (b.proc p).compFaults ∧
    ((b.gateEnded p caller v).proc p).lastComp = (b.proc p).lastComp := by
  rw [gateEnded, enterComp_same, proc_modProc_same]
  exact ⟨rfl, rfl, rfl, rfl, rfl⟩

/-- The ticks of a processor's violations within 4,096 ticks. -/
def recentTicks (q : Proc) (now : Nat) : List Nat := q.compTicks.filter (fun t => decide (now < t + 4096))

/-- A compartment is stopped and reinitialised. -/
def compStopped (b : Block) (now off p comp : Nat) : Block :=
  ((b.fault 7 (procField p) (p * 256 + comp) off).enterComp p 0).modProc p (fun q => { q with
    compFaults := lowBits 32 (q.compFaults + 1), lastComp := comp, compTicks := now :: recentTicks (b.proc p) now
    compDown := mput 0 q.compDown comp (now + 25) })

theorem compStopped_keeps (b : Block) (now off p comp : Nat) : b.Keeps [.fields, .faults, .procs] (b.compStopped now off p comp) := by
  unfold compStopped enterComp
  simp

theorem violation_below (hcomp : comp ≠ 0) (hlimit : (recentTicks (b.proc p) now).length < b.rd HUB_FW.COMP_LIMIT 0) :
    b.violation now off p comp = b.compStopped now off p comp := by
  have hstay : (b.compStopped now off p comp).rd HUB_FW.COMP_LIMIT 0 = b.rd HUB_FW.COMP_LIMIT 0 := (compStopped_keeps ..).rd (by decide) ..
  unfold violation
  rw [if_neg hcomp]
  show (b.compStopped now off p comp).cond (decide ((b.compStopped now off p comp).rd HUB_FW.COMP_LIMIT 0 < (now :: recentTicks (b.proc p) now).length)) _ = _
  rw [hstay]
  exact cond_of_false (decide_eq_false (by rw [List.length_cons]; omega)) _

theorem compStopped_same (b : Block) (now off p comp : Nat) : (b.compStopped now off p comp).proc p = { b.proc p with
    comp := 0, mpu := (b.fault 7 (procField p) (p * 256 + comp) off).mpuSet p 0, compFaults := lowBits 32 ((b.proc p).compFaults + 1), lastComp := comp
    compTicks := now :: recentTicks (b.proc p) now, compDown := mput 0 (b.proc p).compDown comp (now + 25) } := by
  rw [compStopped, proc_modProc_same, enterComp_same, (fault_keeps ..).proc (by decide)]

theorem compStopped_other {q : Nat} (h : q ≠ p) (b : Block) (now off comp : Nat) : (b.compStopped now off p comp).proc q = b.proc q := by
  rw [compStopped, proc_modProc_other _ _ h, enterComp_other h, (fault_keeps ..).proc (by decide)]

theorem compStopped_faults (b : Block) (now off p comp : Nat) : (b.compStopped now off p comp).faults =
    b.faults ++ [{ src := 7, field := procField p, detail := lowBits 16 (p * 256 + comp), off := off }] := by
  rw [compStopped, (modProc_keeps ..).faults (by decide), (enterComp_keeps ..).faults (by decide), faults_fault]

/-! ### Restarts (R269, R273) -/

theorem causeFault_keeps (b : Block) (off p cause : Nat) : b.Keeps [.fields, .faults, .free] (b.causeFault off p cause) := by
  unfold causeFault
  simp

theorem onTrial_of_keeps {S : List Part} (h : b.Keeps S c) (hregs : .regs ∉ S) (hprocs : .procs ∉ S) (p : Nat) : c.onTrial p = b.onTrial p := by
  rw [onTrial, onTrial, rollout, rollout, h.rd hregs, h.proc hprocs]

theorem restart_eq (h : b.onTrial p = false) (now off cause : Nat) : b.restart now off p cause = (b.causeFault off p cause).beginRestart now off p cause := by
  have htrial : ¬((b.causeFault off p cause).onTrial p = true ∧ cause ≠ causeUpdate) := by
    rw [onTrial_of_keeps (causeFault_keeps ..) (by decide) (by decide), h]
    exact fun hc => Bool.false_ne_true hc.1
  exact if_neg htrial

/-- Of a processor what no entry of its log changes. -/
def restartOf (q : Proc) : Nat × Nat × Nat × Bool × Nat × Nat × Bool := (q.st, q.cause, q.causeTick, q.holdOn, q.hold, q.restarts, q.imageB)

theorem logEntry_same (b : Block) (p now off level comp code : Nat) : restartOf ((b.logEntry p now off level comp code).proc p) = restartOf (b.proc p) := by
  unfold logEntry cond
  dsimp only
  split
  · rw [proc_modProc_same]
    rfl
  · rfl

theorem logEntry_other {q : Nat} (h : q ≠ p) (b : Block) (now off level comp code : Nat) : (b.logEntry p now off level comp code).proc q = b.proc q := by
  unfold logEntry cond
  dsimp only
  split
  · exact proc_modProc_other _ _ h
  · rfl

theorem restartBroken_keeps (b : Block) (now off p : Nat) :
    b.Keeps [.regs, .fields, .rails, .traces, .free] (b.restartBroken now off p) := by
  unfold restartBroken
  simp

theorem beginRestart_same (b : Block) (now off p cause : Nat) : restartOf ((b.beginRestart now off p cause).proc p) =
    (1, cause, now, true, b.rd HUB_FW.HOLD_TICKS 0, lowBits 32 ((b.proc p).restarts + 1), (b.proc p).imageB) := by
  rw [beginRestart_eq, restartNoted, (monEvent_keeps ..).proc (by decide), logEntry_same, (restartBroken_keeps ..).proc (by decide), restartBegun,
    proc_modProc_same]
  rfl

theorem beginRestart_other {q : Nat} (h : q ≠ p) (b : Block) (now off cause : Nat) : (b.beginRestart now off p cause).proc q = b.proc q := by
  rw [beginRestart_eq, restartNoted, (monEvent_keeps ..).proc (by decide), logEntry_other h, (restartBroken_keeps ..).proc (by decide), restartBegun,
    proc_modProc_other _ _ h]

end Block

open Block in
/-- A processor on no trial image restarts. -/
theorem restarted_of_restart {s : State} {p : Nat} (h : s.b.onTrial p = false) (off cause : Nat) :
    Restarted p cause s { s with b := s.b.restart s.tick off p cause } := by
  have hkeeps := causeFault_keeps s.b off p cause
  have hsame := beginRestart_same (s.b.causeFault off p cause) s.tick off p cause
  rw [hkeeps.rd (by decide), hkeeps.proc (by decide)] at hsame
  rw [restart_eq h]
  simp only [restartOf, Prod.mk.injEq] at hsame
  obtain ⟨hst, hcause, htick, hon, hhold, hcount, -⟩ := hsame
  exact ⟨hst, hcause, htick, hon, hhold, hcount, fun q hq => (beginRestart_other hq ..).trans (hkeeps.proc (by decide) q)⟩

namespace Block

variable {b c : Block} {p now off : Nat}

/-! ### The end of a restart (R272, R276) -/

/-- The pages of registers that frames which waited for H0 may change. -/
def heldPages : List Nat := [0x12, 0x13, 0x14, 0x15, 0x1D, 0x1F, 0x4B]

theorem sendFrame_off (b : Block) (now off k type : Nat) (payload : List Nat) : RegsOff heldPages b (b.sendFrame now off k type payload) :=
  (sendFrame_regsOff ..).mono (by decide)

theorem takeJoin_regsOff (b : Block) (now off k g id : Nat) : RegsOff heldPages b (b.takeJoin now off k g id) := by
  have hsteps (c d : Block) (l : List Step) : RegsOff heldPages c (c.each l (fun b x => b.sendFrame now off k 0x13 (b.stepBytes x))) :=
    (regsOff_each fun _ _ => sendFrame_off ..).2 (.refl ..)
  have htaken : RegsOff heldPages b ((b.setFlag HUB_LOCK.DOWN_PORTS 0 k true).learn id) :=
    ((regsOff_setFlag (by decide) ..).2 (.refl ..)).trans ((learn_keeps ..).regsOff (by decide) _)
  unfold takeJoin
  dsimp only
  generalize (if b.rd HUB_LOCK.GROUP 0 ≠ g ∨ g = 0 then 1 else if 4 ≤ b.rd HUB_LOCK.DEPTH 0 then 2
      else if 32 ≤ b.groupSize ∧ !b.hub.known.contains id then 3 else 0) = r
  by_cases hr : r = 0
  · simp only [hr, if_true]
    exact htaken.trans ((sendFrame_off ..).trans (hsteps _ b _))
  · simp only [hr, if_false]
    exact sendFrame_off ..

theorem outsideGroup_regsOff (b : Block) (now : Nat) : RegsOff heldPages b (b.outsideGroup now) := by
  have hcleared : RegsOff heldPages b b.groupCleared := by
    refine (regsOff_each_mem fun x hx c => (regsOff_wr ?_ ..).2 (.refl ..)).2 (.refl ..)
    revert x
    decide
  have hlost := (lostCleared_keeps b.groupCleared).regsOff (by decide) heldPages
  have hup : RegsOff heldPages b.groupCleared.lostCleared (b.groupCleared.lostCleared.wr HUB_LOCK.UP_PORT 0 7) :=
    (regsOff_wr (by decide) ..).2 (.refl ..)
  unfold outsideGroup
  dsimp only
  refine (regsOff_completeWhere (by decide) ..).2 ?_
  exact hcleared.trans (hlost.trans (hup.trans ((modHub_keeps ..).regsOff (by decide) _)))

theorem takeLeave_regsOff (b : Block) (now off k g cause id : Nat) : RegsOff heldPages b (b.takeLeave now off k g cause id) := by
  unfold takeLeave
  split_ifs
  · exact .refl ..
  · exact ((regsOff_setFlag (by decide) ..).2 (.refl ..)).trans
      (((modTie_keeps ..).regsOff (by decide) _).trans ((modHub_keeps ..).regsOff (by decide) _))
  · exact (sendAll_off (by decide) ..).trans (outsideGroup_regsOff ..)
  · exact .refl ..

theorem catchUp_regsOff (b : Block) (now off point : Nat) (plumb : Bool) (id kind : Nat) :
    RegsOff heldPages b (b.catchUp now off point plumb id kind) := by
  unfold catchUp
  dsimp only
  split
  · exact (addStep_regsOff ..).mono (by decide)
  · exact .refl ..

theorem takeSync_regsOff (b : Block) (now off k g point : Nat) (plumb : Bool) (id : Nat) :
    RegsOff heldPages b (b.takeSync now off k g point plumb id) := by
  unfold takeSync
  split_ifs
  · exact sendFrame_off ..
  · exact .refl ..
  · exact ((regsOff_inc (by decide) ..).2 (.refl ..)).trans (((fault_keeps ..).regsOff (by decide) _).trans (catchUp_regsOff ..))

theorem takeRequest_regsOff (b : Block) (now off g point id : Nat) : RegsOff heldPages b (b.takeRequest now off g point id) := by
  unfold takeRequest
  split_ifs
  · exact .refl ..
  · exact (modHub_keeps ..).regsOff (by decide) _
  · exact sendAll_off (by decide) ..

theorem takeHeld_regsOff (b : Block) (now off k : Nat) (x : HeldFrame) : RegsOff heldPages b (b.takeHeld now off k x) := by
  cases x with
  | join g d id => exact takeJoin_regsOff ..
  | leave g cause id => exact takeLeave_regsOff ..
  | sync g p pl id => exact takeSync_regsOff ..
  | request g p id => exact takeRequest_regsOff ..

theorem drainHeld_regsOff (b : Block) (now off : Nat) : RegsOff heldPages b (b.drainHeld now off) := by
  refine (regsOff_each fun c k => ?_).2 (.refl ..)
  dsimp only
  split
  · exact .refl ..
  · exact ((modTie_keeps ..).regsOff (by decide) _).trans ((regsOff_each fun _ _ => takeHeld_regsOff ..).2 (.refl ..))

theorem drainHeld_keeps (b : Block) (now off : Nat) :
    b.Keeps [.regs, .fields, .ports, .traces, .ties, .hub, .faults, .free] (b.drainHeld now off) := by simp

theorem monStart_keeps (b : Block) : b.Keeps [.mon] b.monStart := by simp

theorem newModel_keeps (b : Block) (now p : Nat) : b.Keeps [.regs, .models, .fields] (b.newModel now p) := by
  unfold newModel
  simp

theorem showImage_regsOff (b : Block) (now f : Nat) (img : List Nat) : RegsOff [0x42] b (b.showImage now f 0 img) := by
  have hbypass (c : Block) (l : List Int) : RegsOff [0x42] c (c.setBypass f 0 l) := by
    unfold setBypass
    refine (regsOff_each_mem fun k hk d => (regsOff_wr ?_ ..).2 (.refl ..)).2 (.refl ..)
    revert k
    decide
  unfold showImage resetRls
  exact RegsOff.trans ((regsOff_wr (by decide) ..).2 ((regsOff_wr (by decide) ..).2 ((regsOff_wr (by decide) ..).2 ((regsOff_wr (by decide) ..).2 (.refl ..)))))
    ((hbypass ..).trans ((modFu_keeps ..).regsOff (by decide) _))

theorem newModel_regsOff (b : Block) (now p : Nat) : RegsOff [0x42] b (b.newModel now p) := by
  refine (regsOff_cond fun c => ?_).2 (.refl ..)
  unfold loadDefault
  refine RegsOff.trans ?_ (showImage_regsOff ..)
  exact (regsOff_setFlag (by decide) ..).2 ((regsOff_setFlag (by decide) ..).2 ((regsOff_setModel ..).2 ((modFu_keeps ..).regsOff (by decide) _)))

/-- The processor runs. -/
def runBegun (b : Block) (now off p : Nat) : Block :=
  ((b.newModel now p).modProc p (fun q => { q with
    st := 0, failedStarts := 0, runTick := some now, lastUs := q.usSince now off, newImage := false, kick := now })).enterComp p 0

/-- What waited for the processor goes on. -/
def runResumed (b : Block) (now off p : Nat) : Block :=
  ((b.runBegun now off p).cond (p == 84) (fun b => b.drainHeld now off)).cond (p == 85) (fun b => b.monStart)

theorem runResumed_keeps (b : Block) (now off p : Nat) :
    (b.runBegun now off p).Keeps [.regs, .fields, .ports, .traces, .ties, .hub, .faults, .free, .mon] (b.runResumed now off p) := by
  unfold runResumed
  simp

theorem runBegun_same (b : Block) (now off p : Nat) : ((b.runBegun now off p).proc p).st = 0 ∧ ((b.runBegun now off p).proc p).failedStarts = 0 ∧
    ((b.runBegun now off p).proc p).runTick = some now ∧ ((b.runBegun now off p).proc p).kick = now ∧
    ((b.runBegun now off p).proc p).newImage = false := by
  rw [runBegun, enterComp_same, proc_modProc_same]
  exact ⟨rfl, rfl, rfl, rfl, rfl⟩

theorem runBegun_other {q : Nat} (h : q ≠ p) (b : Block) (now off : Nat) : (b.runBegun now off p).proc q = b.proc q := by
  rw [runBegun, enterComp_other h, proc_modProc_other _ _ h, (newModel_keeps ..).proc (by decide)]

theorem runResumed_rollout (b : Block) (now off p : Nat) : (b.runResumed now off p).rollout = b.rollout := by
  have hresumed : RegsOff heldPages (b.runBegun now off p) (b.runResumed now off p) := by
    refine (regsOff_cond fun c => (monStart_keeps _).regsOff (by decide) _).2 ?_
    exact (regsOff_cond fun c => drainHeld_regsOff ..).2 (.refl ..)
  have hproc : (b.newModel now p).Keeps [.procs] (b.runBegun now off p) := by
    unfold runBegun enterComp
    simp
  rw [rollout, hresumed.rd (by decide), hproc.rd (by decide), (newModel_regsOff ..).rd (by decide), rollout]

/-! ### The hold (R273, R274, R277) -/

/-- The event of a hold that has expired, and its count. -/
def holdNoted (b : Block) (p : Nat) : Block := (b.fault 6 (procField p) p 0).inc HUB_FW.EXPIRED 0

/-- The hardware is safe. -/
def holdSafe (b : Block) (p : Nat) : Block := (b.holdNoted p).modProc p (fun q => { q with st := if q.st = 1 then 2 else q.st, safe := true })

theorem holdNoted_keeps (b : Block) (p : Nat) : b.Keeps [.regs, .fields, .faults] (b.holdNoted p) := by
  unfold holdNoted
  simp

theorem busyHeld_keeps (b : Block) (now p : Nat) : b.Keeps [.regs, .ports, .hub] (b.busyHeld now p) := by simp

theorem busyHeld_regsOff (b : Block) (now p : Nat) : RegsOff windowPages b (b.busyHeld now p) := by
  refine (regsOff_each_mem fun pt hpt c => ?_).2 (.refl ..)
  have hport : pt < 3 := List.mem_range.1 hpt
  split
  · exact (regsOff_cond fun d => (regsOff_stop (List.Subset.refl _) now hport ..).2 (.refl ..)).2 (.refl ..)
  · exact .refl ..

theorem holdSafe_same (b : Block) (now p : Nat) (h : (b.proc p).st = 1) : ((b.holdSafe p).busyHeld now p).proc p = { b.proc p with st := 2, safe := true } := by
  rw [(busyHeld_keeps ..).proc (by decide), holdSafe, proc_modProc_same, (holdNoted_keeps ..).proc (by decide), h]
  rfl

theorem holdSafe_other {q : Nat} (hq : q ≠ p) (b : Block) (now : Nat) : ((b.holdSafe p).busyHeld now p).proc q = b.proc q := by
  rw [(busyHeld_keeps ..).proc (by decide), holdSafe, proc_modProc_other _ _ hq, (holdNoted_keeps ..).proc (by decide)]

theorem holdSafe_expired (b : Block) (now p : Nat) : ((b.holdSafe p).busyHeld now p).rd HUB_FW.EXPIRED 0 =
    (b.rd HUB_FW.EXPIRED 0 + 1) % 2 ^ HUB_FW.EXPIRED.width := by
  rw [(busyHeld_regsOff ..).rd (by decide), holdSafe, rd_modProc, holdNoted, rd_inc_same, rd_fault]

theorem holdSafe_onTrial (b : Block) (now p : Nat) (h : (b.proc p).st = 1) : ((b.holdSafe p).busyHeld now p).onTrial p = b.onTrial p := by
  have hrollout : ((b.holdSafe p).busyHeld now p).rollout = b.rollout := by
    rw [rollout, (busyHeld_regsOff ..).rd (by decide), holdSafe, rd_modProc, holdNoted, rd_inc_apart (by decide), rd_fault, rollout]
  rw [onTrial, onTrial, hrollout, holdSafe_same _ _ _ h]

/-- The loader's check of an image that fails, of a processor on no trial image. -/
theorem imageBad_trusted (h : b.onTrial p = false) (now off : Nat) :
    b.imageBad now off p = (b.causeFault off p causeImage).modProc p (fun q => { q with cause := causeImage }) := by
  have hbefore : (b.causeFault off p causeImage).onTrial p = false := (onTrial_of_keeps (causeFault_keeps ..) (by decide) (by decide) p).trans h
  have hsame : ((b.causeFault off p causeImage).modProc p (fun q => { q with cause := causeImage })).onTrial p =
      (b.causeFault off p causeImage).onTrial p := by
    rw [onTrial, rollout, proc_modProc_same, rd_modProc]
    rfl
  unfold imageBad
  dsimp only
  rw [hsame, hbefore]
  exact cond_of_false rfl _

/-- A processor whose loader has done its part. -/
def loadedOnce (b : Block) (p : Nat) : Block := b.modProc p (fun q => { q with loaded := true })

theorem loadedOnce_onTrial (b : Block) (p : Nat) : (b.loadedOnce p).onTrial p = b.onTrial p := by
  rw [onTrial, rollout, loadedOnce, proc_modProc_same, rd_modProc]
  rfl

theorem imageBad_same (h : b.onTrial p = false) (now off : Nat) :
    ((b.loadedOnce p).imageBad now off p).proc p = { b.proc p with loaded := true, cause := 4 } := by
  rw [imageBad_trusted ((loadedOnce_onTrial ..).trans h), proc_modProc_same, (causeFault_keeps ..).proc (by decide), loadedOnce, proc_modProc_same]
  rfl

theorem imageBad_other (h : b.onTrial p = false) {q : Nat} (hq : q ≠ p) (now off : Nat) :
    ((b.loadedOnce p).imageBad now off p).proc q = b.proc q := by
  rw [imageBad_trusted ((loadedOnce_onTrial ..).trans h), proc_modProc_other _ _ hq, (causeFault_keeps ..).proc (by decide), loadedOnce,
    proc_modProc_other _ _ hq]

end Block

section Rows

open Block

variable {p : ProcNo} {s : State} {sc : ScOff} {caller gate : Byte} {args : List Word} {sec : List Nat}

/-- A gate call is out of range: there is no such gate, or it does not take the arguments. -/
abbrev gateBad (sec : List Nat) (gate : Byte) (args : List Word) : Prop :=
  Config.gateCount sec ≤ gate.toNat ∨ 4 < args.length ∨ Config.gateArgs sec gate.toNat < args.length

/-- A processor with a call made through a gate. -/
def gatePassed (b : Block) (p : Nat) (sec : List Nat) (gate : Byte) (args : List Word) : Block := b.modProc p (fun q => { q with
  call := (Config.gateCallee sec gate.toNat, Config.gateEntry sec gate.toNat, args.map (fun a => a.toNat), Config.gateStack sec gate.toNat) })

section Gate

variable (hst : (s.b.proc p).st = 0) (hcaller : caller.toNat ≤ compCount p) (hsec : sec = s.b.secOf p)
include hst hcaller hsec

theorem exec_gateCall_bad (violates : Bool) (hbad : gateBad sec gate args) :
    exec (.gateCall p caller gate args violates sc) s = .next { s with b := s.b.violation s.tick sc p caller.toNat } := by
  subst hsec
  show execGateCall p caller gate args violates sc s = _
  unfold execGateCall onB
  dsimp only
  rw [if_neg (by omega), if_pos hbad]

variable (hgood : ¬gateBad sec gate args)
include hgood

theorem exec_gateCall_down (violates : Bool) (hdown : (s.b.proc p).down s.tick (Config.gateCallee sec gate.toNat) = true) :
    exec (.gateCall p caller gate args violates sc) s = .next { s with b := s.b.gateEnded p caller.toNat 1 } := by
  subst hsec
  show execGateCall p caller gate args violates sc s = _
  unfold execGateCall onB
  dsimp only
  rw [if_neg (by omega), if_neg hgood, if_pos hdown]
  rfl

variable (hup : (s.b.proc p).down s.tick (Config.gateCallee sec gate.toNat) = false)
include hup

theorem exec_gateCall_made :
    exec (.gateCall p caller gate args false sc) s = .next { s with b := (gatePassed s.b p sec gate args).gateEnded p caller.toNat 3 } := by
  subst hsec
  show execGateCall p caller gate args false sc s = _
  unfold execGateCall onB
  dsimp only
  rw [if_neg (by omega), if_neg hgood, if_neg (by rw [hup]; exact Bool.false_ne_true), if_neg Bool.false_ne_true]
  rfl

theorem exec_gateCall_violates : exec (.gateCall p caller gate args true sc) s = .next { s with
    b := ((gatePassed s.b p sec gate args).violation s.tick sc p (Config.gateCallee sec gate.toNat)).cond
      ((((gatePassed s.b p sec gate args).violation s.tick sc p (Config.gateCallee sec gate.toNat)).proc p).st == 0)
      (fun b => b.gateEnded p caller.toNat 2) } := by
  subst hsec
  show execGateCall p caller gate args true sc s = _
  unfold execGateCall onB
  dsimp only
  rw [if_neg (by omega), if_neg hgood, if_neg (by rw [hup]; exact Bool.false_ne_true), if_pos rfl]
  rfl

end Gate

theorem exec_mpuViolation {comp : Byte} (hst : (s.b.proc p).st = 0) (hcomp : comp.toNat ≤ compCount p) :
    exec (.mpuViolation p comp sc) s = .next { s with b := s.b.violation s.tick sc p comp.toNat } :=
  next_block (s := s) rfl (cond_of_true (by rw [hst, decide_eq_true hcomp]; rfl) _)

theorem exec_processorTrap (v : Bool) (hst : (s.b.proc p).st = 0) :
    exec (.processorTrap p v sc) s = .next { s with b := s.b.restart s.tick sc p (if v then causeSram else causeTrap) } :=
  next_block (s := s) rfl (cond_of_true (by rw [hst]; rfl) _)

theorem exec_watchdogExpiry {kick : BitVec 48} (hst : (s.b.proc p).st = 0) (hkick : kick.toNat ≤ s.tick) :
    exec (.watchdogExpiry p ⟨kick, sc⟩) s = .next { s with
      b := if s.tick < max (s.b.proc p).kick kick.toNat + s.b.rd HUB_FW.WDT_TICKS 0 then
          s.b.modProc p (fun q => { q with kick := max (s.b.proc p).kick kick.toNat })
        else s.b.restart s.tick sc p causeWatchdog } := by
  show execWatchdogExpiry p ⟨kick, sc⟩ s = _
  unfold execWatchdogExpiry onB
  dsimp only
  rw [if_neg (by omega)]

section Stopped

variable (hst : (s.b.proc p).st ≠ 0)
include hst

theorem exec_mpuViolation_stopped (c : Byte) : exec (.mpuViolation p c sc) s = .next s :=
  next_block (s := s) rfl (cond_of_false (by rw [beq_eq_false_iff_ne.2 hst]; rfl) _)

theorem exec_processorTrap_stopped (v : Bool) : exec (.processorTrap p v sc) s = .next s :=
  next_block (s := s) rfl (cond_of_false (beq_eq_false_iff_ne.2 hst) _)

theorem exec_watchdogExpiry_stopped (kick : BitVec 48) : exec (.watchdogExpiry p ⟨kick, sc⟩) s = .next s := by
  show execWatchdogExpiry p ⟨kick, sc⟩ s = _
  unfold execWatchdogExpiry onB
  dsimp only
  rw [if_pos (.inl hst)]

end Stopped

theorem exec_imageCheck (hrestart : (s.b.proc p).restarting = true) (hloaded : (s.b.proc p).loaded = false) : exec (.imageCheck p sc) s =
    if (s.b.proc p).newImage then .next { s with
      mem := placeSection (s.b.imgOf p) (zeroData (s.b.imgOf p) s.mem p) p, b := s.b.loadedOnce p }
    else if Config.sha384 (codeBytes (s.b.imgOf p) (zeroData (s.b.imgOf p) s.mem p) p) = secDigest (s.b.imgOf p) (classSection p) then .next { s with
      mem := zeroData (s.b.imgOf p) s.mem p, b := s.b.loadedOnce p }
    else .next { s with
      mem := placeSection (s.b.imgOf p) (zeroData (s.b.imgOf p) s.mem p) p
      b := (s.b.loadedOnce p).imageBad s.tick sc p } := by
  show execImageCheck p sc s = _
  unfold execImageCheck
  dsimp only
  rw [hrestart, hloaded, if_neg (by decide)]
  rfl

theorem exec_imageCheck_over (h : (s.b.proc p).restarting = false ∨ (s.b.proc p).loaded = true) : exec (.imageCheck p sc) s = .next s := by
  show execImageCheck p sc s = _
  unfold execImageCheck
  dsimp only
  rw [if_pos]
  rcases h with h | h <;> simp [h]

theorem exec_processorRun (hrestart : (s.b.proc p).restarting = true) (hloaded : (s.b.proc p).loaded = true) (hroll : s.b.rollout ≠ 4) :
    exec (.processorRun p sc) s = .next { s with b := s.b.runResumed s.tick sc p } := by
  have hnone : ((s.b.runResumed s.tick sc p).rollout == rollBack && (s.b.runResumed s.tick sc p).rd HUB_FW.ROLL_NEXT 0 == p.val) = false := by
    rw [runResumed_rollout, show (s.b.rollout == rollBack) = false from beq_eq_false_iff_ne.2 hroll]
    rfl
  show execProcessorRun p sc s = _
  unfold execProcessorRun onB
  dsimp only
  rw [hrestart, hloaded, if_neg (by decide)]
  exact next_block rfl (cond_of_false hnone _)

theorem exec_processorRun_none (h : (s.b.proc p).restarting = false ∨ (s.b.proc p).loaded = false) : exec (.processorRun p sc) s = .next s := by
  show execProcessorRun p sc s = _
  unfold execProcessorRun onB
  dsimp only
  rw [if_pos]
  rcases h with h | h <;> simp [h]

theorem exec_holdExpired (hon : (s.b.proc p).holdOn = true) (hhold : (s.b.proc p).hold = 0) (hst : (s.b.proc p).st = 1) (htrial : s.b.onTrial p = false) :
    exec (.holdExpired p) s = .next { s with b := (s.b.holdSafe p).busyHeld s.tick p } := by
  show execHoldExpired p s = _
  unfold execHoldExpired onB
  dsimp only
  rw [hon, hhold, hst, if_neg (by simp)]
  exact next_block rfl (cond_of_false ((holdSafe_onTrial _ _ _ hst).trans htrial) _)

theorem exec_holdExpired_off (h : (s.b.proc p).holdOn = false) : exec (.holdExpired p) s = .next s := by
  show execHoldExpired p s = _
  unfold execHoldExpired onB
  dsimp only
  rw [h, if_pos (by rfl)]

/-- A start that has failed. -/
def startFailed (q : Proc) : Proc := { q with failedStarts := q.failedStarts + 1, st := if 4 ≤ q.failedStarts + 1 then 3 else q.st }

theorem exec_startFail (hrestart : (s.b.proc p).restarting = true) (hroll : s.b.rollout ≠ 4) :
    exec (.startFail p) s = .next { s with b := s.b.modProc p startFailed } := by
  have hnone : ((s.b.modProc p startFailed).stopped p && (s.b.modProc p startFailed).rollout == rollBack &&
      (s.b.modProc p startFailed).rd HUB_FW.ROLL_NEXT 0 == p.val) = false := by
    have hrollout : ((s.b.modProc p startFailed).rollout == rollBack) = false := beq_eq_false_iff_ne.2 hroll
    rw [hrollout, Bool.and_false, Bool.false_and]
  exact next_block (next_block (s := s) rfl (cond_of_true hrestart _)) (cond_of_false hnone _)

/-- A gate call whose callee violates, below the limit of the callee's violations. -/
theorem gate_violated {b : Block} {now off p comp caller : Nat} (hst : (b.proc p).st = 0) (hcomp : comp ≠ 0)
    (hlimit : (recentTicks (b.proc p) now).length < b.rd HUB_FW.COMP_LIMIT 0) :
    (b.violation now off p comp).cond (((b.violation now off p comp).proc p).st == 0) (fun b => b.gateEnded p caller 2) =
      (b.compStopped now off p comp).gateEnded p caller 2 := by
  rw [violation_below hcomp hlimit]
  refine cond_of_true ?_ _
  rw [compStopped_same]
  exact beq_iff_eq.2 hst

theorem gatePassed_same (b : Block) (p : Nat) (sec : List Nat) (gate : Byte) (args : List Word) :
    ∃ call, (gatePassed b p sec gate args).proc p = { b.proc p with call := call } :=
  ⟨_, proc_modProc_same ..⟩

end Rows

open Block in
/-- Settles O52. -/
theorem processorEvents : Obligations.ProcessorEvents := by
  unfold Obligations.ProcessorEvents
  refine ⟨fun p caller gate args violates sc sec callee s hst hcaller hsec hcallee hgate hlen hargs => ?_,
    fun p caller gate args violates sc sec s hst hcaller hne hsec hbad hlimit => ?_, fun p comp sc s hst hne hcomp hlimit => ?_,
    fun p kick sc s hst htrial => ⟨?_, ?_, ?_, fun hkick hlate => ?_⟩, fun p kick sc s hst hkick hearly => ?_,
    fun p c v kick sc s hst => ⟨exec_mpuViolation_stopped hst c, exec_processorTrap_stopped hst v, exec_watchdogExpiry_stopped hst kick⟩,
    fun p sc s hrestart hloaded => ⟨fun hnew => ?_, fun hnew hdigest => ?_, fun hnew htrial hdigest => ?_⟩, fun p sc s h => exec_imageCheck_over h,
    fun p sc s hrestart hloaded hroll => ?_, fun p sc s h => exec_processorRun_none h, fun p s hon hhold hst htrial => ?_,
    fun p s h => exec_holdExpired_off h, fun p s hrestart hroll => ?_⟩
  · subst hcallee
    have hgood : ¬gateBad sec gate args := by omega
    refine ⟨fun hdown => ?_, fun hup => ?_, fun hup hne hlimit => ?_⟩
    · obtain ⟨hg, hc, hcall, -, -⟩ := gateEnded_proc s.b p caller.toNat 1
      exact ⟨_, exec_gateCall_down hst hcaller hsec hgood violates hdown, (gateEnded_keeps ..).withBlock_eq_graft (S := [.procs]), hg, hc, hcall⟩
    · obtain ⟨hg, hc, hcall, -, -⟩ := gateEnded_proc (gatePassed s.b p sec gate args) p caller.toNat 3
      refine ⟨_, exec_gateCall_made hst hcaller hsec hgood hup, ?_, hg, hc, ?_⟩
      · exact Keeps.withBlock_eq_graft (S := [.procs]) (by unfold gatePassed gateEnded enterComp; simp)
      · exact hcall.trans (congrArg Proc.call (proc_modProc_same ..))
    · obtain ⟨call, hpassed⟩ := gatePassed_same s.b p sec gate args
      have hregs : (gatePassed s.b p sec gate args).rd HUB_FW.COMP_LIMIT 0 = s.b.rd HUB_FW.COMP_LIMIT 0 := rd_modProc ..
      obtain ⟨hg, -, -, hfaults, hlast⟩ := gateEnded_proc ((gatePassed s.b p sec gate args).compStopped s.tick sc p (Config.gateCallee sec gate.toNat))
        p caller.toNat 2
      refine ⟨_, exec_gateCall_violates hst hcaller hsec hgood hup, inBlock_mk .., ?_⟩
      dsimp only
      rw [gate_violated (by rw [hpassed]; exact hst) hne (by rw [hpassed, hregs]; exact hlimit), hg, hfaults, hlast, compStopped_same, hpassed]
      exact ⟨rfl, rfl, rfl⟩
  · refine ⟨_, exec_gateCall_bad hst hcaller hsec violates hbad, inBlock_mk .., ?_⟩
    dsimp only
    rw [violation_below hne hlimit, compStopped_same]
    exact ⟨rfl, rfl, rfl⟩
  · refine ⟨_, exec_mpuViolation hst hcomp, ?_⟩
    dsimp only
    rw [violation_below hne hlimit]
    refine ⟨(compStopped_keeps ..).withBlock_eq_graft (S := [.fields, .faults, .procs]), ?_, ?_, ?_, ?_, ?_, fun q hq => compStopped_other hq ..⟩
    · rw [compStopped_same]; exact hst
    · rw [compStopped_same]
    · rw [compStopped_same]; rfl
    · rw [compStopped_same]
    · have hdetail : lowBits 16 (p.val * 256 + comp.toNat) = p.val * 256 + comp.toNat := by
        have hp := p.isLt
        have hc := comp.isLt
        exact Nat.mod_eq_of_lt (by omega)
      rw [compStopped_faults, hdetail]
  · exact ⟨_, exec_mpuViolation hst (Nat.zero_le _), inBlock_mk .., restarted_of_restart htrial ..⟩
  · exact ⟨_, exec_processorTrap false hst, inBlock_mk .., restarted_of_restart htrial ..⟩
  · exact ⟨_, exec_processorTrap true hst, inBlock_mk .., restarted_of_restart htrial ..⟩
  · refine ⟨_, exec_watchdogExpiry hst hkick, inBlock_mk .., ?_⟩
    rw [if_neg (by omega)]
    exact restarted_of_restart htrial ..
  · refine ⟨_, exec_watchdogExpiry hst hkick, ?_⟩
    dsimp only
    rw [if_pos hearly]
    exact ⟨(modProc_keeps ..).withBlock_eq_graft (S := [.procs]), proc_modProc_same .., fun q hq => proc_modProc_other _ _ hq⟩
  · refine ⟨_, (exec_imageCheck hrestart hloaded).trans (if_pos hnew), ?_, rfl, proc_modProc_same ..⟩
    exact congrArg (fun c => ({ s with mem := _, b := c } : State)) ((modProc_keeps ..).eq_graft (S := [.procs]))
  · refine ⟨_, (exec_imageCheck hrestart hloaded).trans ((if_neg (by rw [hnew]; exact Bool.false_ne_true)).trans (if_pos hdigest)), ?_, rfl, proc_modProc_same ..⟩
    exact congrArg (fun c => ({ s with mem := _, b := c } : State)) ((modProc_keeps ..).eq_graft (S := [.procs]))
  · refine ⟨_, (exec_imageCheck hrestart hloaded).trans ((if_neg (by rw [hnew]; exact Bool.false_ne_true)).trans (if_neg hdigest)), rfl, rfl, imageBad_same htrial _ _, fun q hq =>
      imageBad_other htrial hq _ _⟩
  · obtain ⟨h0, h1, h2, h3, h4⟩ := runBegun_same s.b s.tick sc p
    refine ⟨_, exec_processorRun hrestart hloaded hroll, inBlock_mk .., ?_⟩
    dsimp only
    simp only [(runResumed_keeps ..).proc (by decide)]
    exact ⟨h0, h1, h2, h3, h4, fun q hq => runBegun_other hq ..⟩
  · refine ⟨_, exec_holdExpired hon hhold hst htrial, inBlock_mk .., holdSafe_same _ _ _ hst, holdSafe_expired .., fun q hq => holdSafe_other hq ..⟩
  · exact ⟨_, exec_startFail hrestart hroll, (modProc_keeps ..).withBlock_eq_graft (S := [.procs]), proc_modProc_same .., fun q hq => proc_modProc_other _ _ hq⟩

end Sys2Proof.Machine
end

section
/-!
SUPPORT. Staging of firmware and quotes.
-/

namespace Sys2Proof.Machine

open Sys2Proof

/-! ### FW_STAGE (R279, R280, R380) -/

namespace Block

variable {b : Block} {c : Cmd} {now : Nat} {img : List Nat}

/-- Slot B holds an image, before it is judged. -/
def slotB (b : Block) (now pt : Nat) (img : List Nat) : Block := (b.accept now pt []).modMon (fun m => { m with imgB := img })

/-- Slot B holds a staged image. -/
def slotStaged (b : Block) (now pt : Nat) (img : List Nat) : Block :=
  ((((b.slotB now pt img).wr HUB_FW.SLOT_B_VALID 0 1).wr HUB_FW.ROLLOUT 0 rollStaged).wr HUB_FW.STAGED_VER 0 (imgVer img)).wr HUB_FW.STAGED_SVN 0 (imgSvn img)

/-- Slot B holds an image that is not accepted. -/
def slotInvalid (b : Block) (now pt : Nat) (img : List Nat) : Block :=
  ((b.slotB now pt img).wr HUB_FW.SLOT_B_VALID 0 0).wr HUB_FW.ROLLOUT 0 rollIdle

/-- The image is sound, and its interface is the one in force or accepted. -/
abbrev stageable (b : Block) (img : List Nat) (ifaceNew : Bool) : Bool :=
  b.imageOk img && (imgIface img == imgIface b.mon.inForce || ifaceNew)

theorem stageImage_eq (b : Block) (now pt : Nat) (img : List Nat) (ifaceNew : Bool) : b.stageImage now pt img ifaceNew =
    if b.stageable img ifaceNew then (b.slotStaged now pt img).done now pt [imgVer img, imgSvn img]
    else (b.slotInvalid now pt img).stop now pt stBadArg (badArgDetail 1 0) := by
  have hok : (b.slotB now pt img).imageOk img = b.imageOk img := by
    have hkeeps : b.Keeps [.regs, .ports, .hub, .mon] (b.slotB now pt img) := by
      unfold slotB
      simp
    rw [imageOk, imageOk, imageSound, imageSound, imageKey, imageKey, hkeeps.nv (by decide)]
  rw [stageable, ← hok]
  rfl

theorem slotStaged_keeps (b : Block) (now pt : Nat) (img : List Nat) : (b.slotB now pt img).Keeps [.regs] (b.slotStaged now pt img) := by
  unfold slotStaged
  simp

theorem slotInvalid_keeps (b : Block) (now pt : Nat) (img : List Nat) : (b.slotB now pt img).Keeps [.regs] (b.slotInvalid now pt img) := by
  unfold slotInvalid
  simp

end Block

section Stage

open Block

variable {c : Cmd} {s : State} {img : List Nat}

/-- The first checks of FW_STAGE. -/
structure StageChecked (c : Cmd) (s : State) : Prop where
  passes : Passes 0x70 c s
  allowed : stageDenied s c = none
  idle : s.b.activating = false
  alone : s.b.stagedElsewhere (portNo c.port) 0x70 0 = false
  buf : s.b.bufCheck c 0 0 = none
  room : s.b.hub.staged.length < 15

variable (h : StageChecked c s)
include h

theorem StageChecked.exec_eq : exec (.fwStage c) s = .next { s with
    b := let b := s.b.begun s.tick 0x70 c
      if !c.area then b.stageImage s.tick (portNo c.port) (readBuf s c 0) (c.opt 0)
      else if c.arg 3 ≠ (b.staged (portNo c.port) 0x70 0).length then
        (b.unstage (portNo c.port) 0x70 0).stop s.tick (portNo c.port) stBadArg (badArgDetail 4 0)
      else
        let b := (b.stage (portNo c.port) 0x70 0 [] (readBuf s c 0)).wr HUB_FW.ROLLOUT 0 rollStaging
        if c.opt 6 then (b.unstage (portNo c.port) 0x70 0).stageImage s.tick (portNo c.port) (b.staged (portNo c.port) 0x70 0) (c.opt 0)
        else b.done s.tick (portNo c.port) [] } := by
  have hidle : (s.b.begun s.tick 0x70 c).activating = false := by
    rw [activating, rollout, (begun_regsOff ..).rd (by decide)]
    exact h.idle
  have halone : (s.b.begun s.tick 0x70 c).stagedElsewhere (portNo c.port) 0x70 0 = false := h.alone
  show execFwStage c s = _
  rw [execFwStage, h.allowed, h.passes.runCmd_eq]
  simp only [hidle, halone, bufCheck_begun, h.buf, readBuf_begun, if_false, Bool.false_eq_true, Bool.or_self]
  split
  · rfl
  · split
    · rfl
    · split <;> rfl

/-- FW_STAGE with a piece in its block, before it is answered or joined. -/
def piecesStaged (c : Cmd) (s : State) : Block :=
  ((s.b.begun s.tick 0x70 c).stage (portNo c.port) 0x70 0 [] (readBuf s c 0)).wr HUB_FW.ROLLOUT 0 rollStaging

omit h in
theorem piecesStaged_keeps (c : Cmd) (s : State) : (s.b.begun s.tick 0x70 c).Keeps [.regs, .hub] (piecesStaged c s) := by
  unfold piecesStaged
  simp

omit h in
/-- The journal stands, and the piece has joined those staged. -/
theorem piecesStaged_hub (c : Cmd) (s : State) : (piecesStaged c s).hub.staged = s.b.hub.staged ∧
    (piecesStaged c s).staged (portNo c.port) 0x70 0 = s.b.staged (portNo c.port) 0x70 0 ++ readBuf s c 0 := by
  have hhub : (piecesStaged c s).hub = ((s.b.begun s.tick 0x70 c).stage (portNo c.port) 0x70 0 [] (readBuf s c 0)).hub := by
    rw [piecesStaged, (wr_keeps ..).hub (by decide)]
  refine ⟨?_, ?_⟩
  · rw [hhub]
    rfl
  · exact (staged_congr (congrArg Hub.staging hhub) ..).trans (staged_stage ..)

theorem StageChecked.exec_piece (harea : c.area = true) (hpos : c.arg 3 = (s.b.staged (portNo c.port) 0x70 0).length) (hlast : c.opt 6 = false) :
    exec (.fwStage c) s = .next { s with b := (piecesStaged c s).done s.tick (portNo c.port) [] } := by
  have hpos' : c.arg 3 = ((s.b.begun s.tick 0x70 c).staged (portNo c.port) 0x70 0).length := hpos
  rw [h.exec_eq]
  dsimp only
  rw [harea, hlast, ← hpos']
  simp
  rfl

/-- A block that FW_STAGE judges an image from. -/
structure StageBlock (c : Cmd) (s : State) (b : Block) : Prop where
  taken : Taken 0x70 c s.tick b
  staged : b.hub.staged = s.b.hub.staged
  nv : b.nv = s.b.nv
  mon : b.mon = s.b.mon

omit h in
theorem stageBlock_of_keeps {b : Block} (hroom : s.b.hub.staged.length < 16)
    (hk : (s.b.begun s.tick 0x70 c).Keeps [.regs, .hub] b) (hstaged : b.hub.staged = s.b.hub.staged) : StageBlock c s b :=
  have hbegun := begun_keeps s.b s.tick 0x70 c
  ⟨(begun_taken 0x70 c s.tick hroom).of_hubSame hk (by decide) ⟨fun _ => hstaged⟩, hstaged,
    (hk.nv (by decide)).trans (hbegun.nv (by decide)), (hk.mon (by decide)).trans (hbegun.mon (by decide))⟩

/-- A whole image is judged from a block that has taken the command. -/
theorem StageChecked.exec_image (himg : (c.area = false ∧ img = readBuf s c 0) ∨
    (c.area = true ∧ c.opt 6 = true ∧ c.arg 3 = (s.b.staged (portNo c.port) 0x70 0).length ∧
      img = s.b.staged (portNo c.port) 0x70 0 ++ readBuf s c 0)) :
    ∃ b, StageBlock c s b ∧ exec (.fwStage c) s = .next { s with b := b.stageImage s.tick (portNo c.port) img (c.opt 0) } := by
  have hroom := h.room
  obtain ⟨harea, rfl⟩ | ⟨harea, hlast, hpos, rfl⟩ := himg
  · refine ⟨_, stageBlock_of_keeps (by omega) (.refl ..) rfl, ?_⟩
    rw [h.exec_eq, harea]
    rfl
  · have hpos' : c.arg 3 = ((s.b.begun s.tick 0x70 c).staged (portNo c.port) 0x70 0).length := hpos
    have hkeeps : (s.b.begun s.tick 0x70 c).Keeps [.regs, .hub] ((piecesStaged c s).unstage (portNo c.port) 0x70 0) :=
      (keeps_modHub (by decide) ..).2 (piecesStaged_keeps c s)
    refine ⟨(piecesStaged c s).unstage (portNo c.port) 0x70 0, stageBlock_of_keeps (by omega) hkeeps (piecesStaged_hub c s).1, ?_⟩
    have hstaged := (piecesStaged_hub c s).2
    rw [h.exec_eq]
    dsimp only
    rw [harea, hlast, ← hpos']
    simp only [Bool.not_true, Bool.false_eq_true, if_false, ne_eq, not_true_eq_false, if_true]
    exact congrArg (fun l => Host.Outcome.next { s with b := ((piecesStaged c s).unstage (portNo c.port) 0x70 0).stageImage s.tick (portNo c.port) l (c.opt 0) })
      hstaged

end Stage

section StageImage

open Block

variable {c : Cmd} {s : State} {b : Block}

theorem StageBlock.ready (h : StageBlock c s b) (hroom : s.b.hub.staged.length < 15) (img : List Nat) :
    Ready c.port { flightOf s.tick 0x70 c with begun := true, accepted := true } (b.slotB s.tick (portNo c.port) img) :=
  (h.taken.accept_ready (by rwa [h.staged]) s.tick []).of_keeps (modMon_keeps ..) (by decide) (by decide)

/-- What FW_STAGE leaves of an image it accepts. -/
theorem StageBlock.staged_image (h : StageBlock c s b) (hroom : s.b.hub.staged.length < 15) {img : List Nat} (data : List Nat) :
    Answered 0x70 stDone c { s with b := (b.slotStaged s.tick (portNo c.port) img).done s.tick (portNo c.port) data } ∧
      ((b.slotStaged s.tick (portNo c.port) img).done s.tick (portNo c.port) data).mon.imgB = img ∧
      ((b.slotStaged s.tick (portNo c.port) img).done s.tick (portNo c.port) data).rollout = 2 ∧
      ((b.slotStaged s.tick (portNo c.port) img).done s.tick (portNo c.port) data).bit HUB_FW.SLOT_B_VALID 0 = true ∧
      ((b.slotStaged s.tick (portNo c.port) img).done s.tick (portNo c.port) data).rd HUB_FW.STAGED_VER 0 = imgVer img % 2 ^ 32 := by
  have hready := (h.ready hroom img).of_keeps (slotStaged_keeps ..) (by decide) (by decide)
  refine ⟨hready.answered rfl (by exact show 0x70 < 256 by decide) (by decide) (by decide) s, ?_, ?_, ?_, ?_⟩
  · exact congrArg Monument.imgB (((answer_keeps ..).mon (by decide)).trans ((slotStaged_keeps ..).mon (by decide)))
  · exact (answer_rd (by decide) ..).trans ((rd_wr_apart (by decide) ..).trans ((rd_wr_apart (by decide) ..).trans (rd_wr_same ..)))
  · rw [done, bit, answer_rd (by decide), slotStaged, rd_wr_apart (by decide), rd_wr_apart (by decide), rd_wr_apart (by decide), rd_wr_same]
    rfl
  · exact (answer_rd (by decide) ..).trans ((rd_wr_apart (by decide) ..).trans (rd_wr_same ..))

/-- What FW_STAGE leaves of an image it does not accept. -/
theorem StageBlock.invalid_image (h : StageBlock c s b) (hroom : s.b.hub.staged.length < 15) {img : List Nat} (detail : Nat) :
    Answered 0x70 stBadArg c { s with b := (b.slotInvalid s.tick (portNo c.port) img).stop s.tick (portNo c.port) stBadArg detail } ∧
      ((b.slotInvalid s.tick (portNo c.port) img).stop s.tick (portNo c.port) stBadArg detail).mon.imgB = img ∧
      ((b.slotInvalid s.tick (portNo c.port) img).stop s.tick (portNo c.port) stBadArg detail).rollout = 0 ∧
      ((b.slotInvalid s.tick (portNo c.port) img).stop s.tick (portNo c.port) stBadArg detail).bit HUB_FW.SLOT_B_VALID 0 = false := by
  have hready := (h.ready hroom img).of_keeps (slotInvalid_keeps ..) (by decide) (by decide)
  refine ⟨hready.answered rfl (by exact show 0x70 < 256 by decide) (by decide) (by decide) s, ?_, ?_, ?_⟩
  · exact congrArg Monument.imgB (((answer_keeps ..).mon (by decide)).trans ((slotInvalid_keeps ..).mon (by decide)))
  · exact (answer_rd (by decide) ..).trans (rd_wr_same ..)
  · rw [stop, bit, answer_rd (by decide), slotInvalid, rd_wr_apart (by decide), rd_wr_same]
    rfl

end StageImage

/-! ### QUOTE (R287, R341) -/

section Quote

open Block

variable {c : Cmd} {s : State} {k : List Nat}

theorem getD_leBytes {n i : Nat} (hi : i < n) (v : Nat) : (leBytes n v).getD i 0 = v / 2 ^ (8 * i) % 256 := by
  induction n generalizing v i with
  | zero => omega
  | succ n ih =>
    cases i with
    | zero => simp [leBytes]
    | succ i =>
      rw [leBytes, List.getD_cons_succ, ih (by omega), Nat.div_div_eq_div_mul, show 8 * (i + 1) = 8 + 8 * i by omega, pow_add,
        show (256 : Nat) = 2 ^ 8 by decide]

/-- The nonce of a quote. -/
def quoteNonce (c : Cmd) : List Nat := ((List.range 8).flatMap (fun k => leBytes 4 (c.arg (1 + k)))).take (c.arg 0)

/-- The bytes of a quote. -/
def quoteBytes (c : Cmd) (now : Nat) (key : List Nat) (b : Block) : List Nat :=
  b.quoteBody now (quoteNonce c) ++ sliceAt (Config.attSign key (b.quoteBody now (quoteNonce c))) 0 96

theorem length_sliceAt (l : List Nat) (off n : Nat) : (sliceAt l off n).length = n := by simp [sliceAt]

theorem length_quoteBody (b : Block) (now : Nat) (nonce : List Nat) : (b.quoteBody now nonce).length = 512 := by
  simp [quoteBody, length_sliceAt, List.length_flatMap]

theorem length_quoteBytes (c : Cmd) (now : Nat) (key : List Nat) (b : Block) : (quoteBytes c now key b).length = 608 := by
  rw [quoteBytes, List.length_append, length_quoteBody, length_sliceAt]

/-- The words of a flat list of four bytes each. -/
theorem getD_flatMap_leBytes (f : Nat → Nat) {n i : Nat} (hi : i < 4 * n) :
    ((List.range n).flatMap (fun k => leBytes 4 (f k))).getD i 0 = f (i / 4) / 2 ^ (8 * (i % 4)) % 256 := by
  induction n with
  | zero => omega
  | succ n ih =>
    have hlen : ((List.range n).flatMap (fun k => leBytes 4 (f k))).length = 4 * n := by
      simp [List.length_flatMap, Nat.mul_comm]
    rw [List.range_succ, List.flatMap_append, List.flatMap_singleton]
    by_cases h : i < 4 * n
    · rw [List.getD_append _ _ _ _ (by omega), ih h]
    · rw [List.getD_append_right _ _ _ _ (by omega), hlen, getD_leBytes (by omega), show i / 4 = n by omega, show i - 4 * n = i % 4 by omega]

/-- Byte `i` of the nonce. -/
theorem getD_quoteNonce (hn : c.arg 0 ≤ 32) {i : Nat} (hi : i < c.arg 0) : (quoteNonce c).getD i 0 = c.arg (1 + i / 4) / 2 ^ (8 * (i % 4)) % 256 := by
  rw [quoteNonce, List.getD_eq_getElem?_getD, List.getElem?_take_of_lt hi, ← List.getD_eq_getElem?_getD, getD_flatMap_leBytes _ (by omega)]

/-- The 32 bytes of a quote before its nonce. -/
def quoteHead (b : Block) (now : Nat) : List Nat :=
  leBytes 4 0x51574757 ++ leBytes 2 1 ++ [b.nv.lifecycle, 0] ++ leBytes 4 b.nv.waferId ++ leBytes 6 now ++ List.replicate 14 0

theorem length_quoteHead (b : Block) (now : Nat) : (quoteHead b now).length = 32 := by simp [quoteHead]

theorem quoteBytes_eq (c : Cmd) (now : Nat) (key : List Nat) (b : Block) :
    ∃ rest, quoteBytes c now key b = quoteHead b now ++ (sliceAt (quoteNonce c) 0 32 ++ rest) := by
  rw [quoteBytes, quoteBody, ← quoteHead]
  simp only [List.append_assoc]
  exact ⟨_, rfl⟩

theorem getD_sliceAt (l : List Nat) {n i : Nat} (hi : i < n) : (sliceAt l 0 n).getD i 0 = l.getD i 0 := by
  simp [sliceAt, hi]

/-- The nonce stands at byte 32 of a quote. -/
theorem getD_quoteBytes (now : Nat) (key : List Nat) (b : Block) {i : Nat} (hi : i < 32) :
    (quoteBytes c now key b).getD (32 + i) 0 = (quoteNonce c).getD i 0 := by
  obtain ⟨rest, hbytes⟩ := quoteBytes_eq c now key b
  rw [hbytes, List.getD_append_right _ _ _ _ (by rw [length_quoteHead]; omega), length_quoteHead, Nat.add_sub_cancel_left,
    List.getD_append _ _ _ _ (by rwa [length_sliceAt]), getD_sliceAt _ hi]

theorem exec_quote (h : Passes 0x78 c s) (hn : c.arg 0 ≤ 32) (hkey : s.b.hub.attKey = some k) (hbuf : s.b.bufCheck c 9 608 = none) (harea : c.area = false) :
    exec (.quote c) s = .next { s with
      host := putBytes s.host (c.bufAddr 9) (quoteBytes c s.tick k (s.b.begun s.tick 0x78 c))
      b := (s.b.begun s.tick 0x78 c).done s.tick (portNo c.port) [s.b.rd HUB_FW.ATT_KEY_ID 0] } := by
  have hkey' : (s.b.begun s.tick 0x78 c).hub.attKey = some k := hkey
  have hid : (s.b.begun s.tick 0x78 c).rd HUB_FW.ATT_KEY_ID 0 = s.b.rd HUB_FW.ATT_KEY_ID 0 := (begun_regsOff ..).rd (by decide) ..
  show execQuote c s = _
  rw [execQuote, h.runCmd_eq, ← hid]
  dsimp only
  rw [if_neg (by omega), hkey']
  dsimp only
  rw [bufCheck_begun, hbuf]
  dsimp only
  rw [writeBuf, harea, if_neg Bool.false_ne_true, quoteBytes, quoteNonce]

theorem exec_quote_keyless (h : Passes 0x78 c s) (hn : c.arg 0 ≤ 32) (hkey : s.b.hub.attKey = none) :
    exec (.quote c) s = .next { s with
      b := (s.b.begun s.tick 0x78 c).stop s.tick (portNo c.port) stStateReject (s.b.begun s.tick 0x78 c).mgr } := by
  have hkey' : (s.b.begun s.tick 0x78 c).hub.attKey = none := hkey
  show execQuote c s = _
  rw [execQuote, h.runCmd_eq]
  dsimp only
  rw [if_neg (by omega), hkey']

end Quote

end Sys2Proof.Machine
end

section
/-!
SUPPORT. Activations, rollbacks and restarts by command: the processors one after another, and the copy at the end.
-/

namespace Sys2Proof.Machine

open Sys2Proof

namespace Block

variable {b c : Block} {p now off cause : Nat}

/-! ### A start on another image (R281, R286) -/

/-- The pages of registers that a restart may change: the trace's, the log of measurements, and the monument's. -/
def startPages : List Nat := [0x19, 0x1F, 0x22, 0x4B]

theorem beginRestart_regsOff (b : Block) (now off p cause : Nat) : RegsOff startPages b (b.beginRestart now off p cause) := by
  have hbroken (c : Block) : RegsOff startPages c (c.restartBroken now off p) := by
    refine (regsOff_cond fun d => ?_).2 (.refl ..)
    have hloops : d.Keeps [.fields, .rails] (d.breakLoops p) := by simp
    refine (hloops.regsOff (by decide) _).trans ?_
    unfold restartRecord
    exact (regsOff_record (by decide) ..).2 (Keeps.regsOff (S := [.free]) (by simp) (by decide) _)
  rw [beginRestart_eq, restartNoted]
  have hbegun : RegsOff startPages b (b.restartBegun now off p cause) := (modProc_keeps ..).regsOff (by decide) _
  refine (hbegun.trans (hbroken _)).trans ?_
  exact (regsOff_monEvent (by decide) ..).2 ((logEntry_keeps ..).regsOff (by decide) _)

theorem measured_regsOff (b : Block) (now p : Nat) : RegsOff startPages b (b.measured now p) := by
  refine (regsOff_cond fun c => (modHub_keeps ..).regsOff (by decide) _).2 ?_
  refine (regsOff_cond fun c => ?_).2 (.refl ..)
  exact (regsOff_wr (by decide) ..).2 ((modHub_keeps ..).regsOff (by decide) _)

/-- What a start of processor `p` on the image of slot B leaves, where it is not stopped. -/
structure StartedOnB (p now : Nat) (a b : Block) : Prop where
  same : restartOf (b.proc p) = (1, 7, now, true, a.rd HUB_FW.HOLD_TICKS 0, lowBits 32 ((a.proc p).restarts + 1), true)
  other : ∀ q, q ≠ p → b.proc q = a.proc q
  regs : RegsOff startPages a b
  ports : ∀ k, b.port k = a.port k

theorem startOnB_started (h : (b.proc p).st ≠ 3) (now off : Nat) : StartedOnB p now b (b.startOnB now off p) := by
  have hset := setImage_keeps b p true
  have hproc : (b.setImage p true).proc p = { b.proc p with newImage := (b.proc p).newImage || (b.proc p).imageB != true, imageB := true } :=
    proc_modProc_same ..
  have hstopped : (b.setImage p true).stopped p = false := by
    rw [stopped, hproc]
    exact beq_eq_false_iff_ne.2 h
  have hstart : b.startOn now off p causeUpdate true = ((b.setImage p true).measured now p).beginRestart now off p causeUpdate := by
    rw [startOn_eq, if_neg (by rw [hstopped]; exact Bool.false_ne_true)]
  have hmeasured := measured_keeps (b.setImage p true) now p
  have hsame := beginRestart_same ((b.setImage p true).measured now p) now off p causeUpdate
  rw [hmeasured.proc (by decide), (measured_regsOff ..).rd (by decide), hset.rd (by decide), hproc] at hsame
  unfold startOnB
  rw [hstart]
  refine ⟨?_, fun q hq => ?_, ?_, fun k => ?_⟩
  · rw [(monEvent_keeps ..).proc (by decide)]
    exact hsame
  · rw [(monEvent_keeps ..).proc (by decide), beginRestart_other hq, hmeasured.proc (by decide), setImage, proc_modProc_other _ _ hq]
  · refine (regsOff_monEvent (by decide) ..).2 ?_
    exact ((hset.regsOff (by decide) _).trans (measured_regsOff ..)).trans (beginRestart_regsOff ..)
  · rw [(monEvent_keeps ..).port (by decide), (beginRestart_keeps ..).port (by decide), hmeasured.port (by decide), hset.port (by decide)]

theorem StartedOnB.restarted {s : State} {d : Block} (h : StartedOnB p s.tick d b) (hprocs : d.procs = s.b.procs)
    (hhold : d.rd HUB_FW.HOLD_TICKS 0 = s.b.rd HUB_FW.HOLD_TICKS 0) :
    Restarted p 7 s { s with b := b } ∧ (b.proc p).imageB = true := by
  have hproc (q : Nat) : d.proc q = s.b.proc q := congrArg (mget Proc.reset · q) hprocs
  have hsame := h.same
  rw [hproc, hhold] at hsame
  simp only [restartOf, Prod.mk.injEq] at hsame
  obtain ⟨hst, hcause, htick, hon, hticks, hcount, himage⟩ := hsame
  exact ⟨⟨hst, hcause, htick, hon, hticks, hcount, fun q hq => (h.other q hq).trans (hproc q)⟩, himage⟩

/-! ### The next step of an activation (R281) -/

theorem activateNext_nil (h : b.hub.order = []) (now off : Nat) : b.activateNext now off = b.wr HUB_FW.ROLLOUT 0 rollCopying := by
  unfold activateNext
  dsimp only
  rw [h]
  have hsame : { b.hub with order := [] } = b.hub := by rw [← h]
  exact congrArg (fun h => ({ b with hub := h } : Block).wr HUB_FW.ROLLOUT 0 rollCopying) hsame

/-- The next processor of an activation is due. -/
def nextDue (b : Block) (p : Nat) (rest : List Nat) : Block :=
  (b.modHub (fun h => { h with order := rest.filter (fun k => !([p].contains k)) })).wr HUB_FW.ROLL_NEXT 0 p

theorem activateNext_cons {rest : List Nat} (h : b.hub.order = p :: rest) (hst : (b.proc p).st ≠ 3) (hiface : b.ifaceNew = false) (now off : Nat) :
    b.activateNext now off = (b.nextDue p rest).startOnB now off p := by
  have hstopped : b.stopped p = false := beq_eq_false_iff_ne.2 hst
  unfold activateNext
  dsimp only
  rw [h, List.takeWhile_cons_of_neg (by rw [hstopped]; exact Bool.false_ne_true)]
  rw [show (b.each [] fun b p => b.setImage p true) = b from rfl, List.dropWhile_cons_of_neg (by rw [hstopped]; exact Bool.false_ne_true)]
  dsimp only
  rw [hiface, Bool.false_and, if_neg Bool.false_ne_true]
  rfl

theorem nextDue_regs (b : Block) (p : Nat) (rest : List Nat) {x : Fld} (hx : HUB_FW.ROLL_NEXT.apart x = true) (i : Nat) :
    (b.nextDue p rest).rd x i = b.rd x i := by
  rw [nextDue, rd_wr_apart hx, rd_modHub]

theorem nextDue_keeps (b : Block) (p : Nat) (rest : List Nat) : b.Keeps [.regs, .hub] (b.nextDue p rest) := by
  unfold nextDue
  simp

theorem nextDue_rollNext (hp : p < 87) (rest : List Nat) : (b.nextDue p rest).rd HUB_FW.ROLL_NEXT 0 = p := by
  rw [nextDue, rd_wr_same]
  exact Nat.mod_eq_of_lt (by show p < 2 ^ 7; omega)

/-! ### Images of the monument that a header leaves -/

/-- The slots of the monument and which of them count. -/
def images (m : Monument) : List Nat × List Nat × Bool × Bool := (m.imgA, m.imgB, m.forceB, m.bootSlotB)

theorem monStart_images (b : Block) : images b.monStart.mon = images b.mon := by
  unfold monStart
  dsimp only
  split
  · rfl
  · split
    · rfl
    · split
      · rfl
      · split <;> rfl

theorem headerWrite_images (b : Block) (now : Nat) : images (b.headerWrite now).mon = images b.mon := by
  unfold headerWrite monQueue
  dsimp only
  rw [monStart_images]
  rfl

theorem headerWrite_keeps (b : Block) (now : Nat) : b.Keeps [.mon] (b.headerWrite now) := by simp

theorem ifaceNew_congr (himgA : c.mon.imgA = b.mon.imgA) (himgB : c.mon.imgB = b.mon.imgB) (hforce : c.mon.forceB = b.mon.forceB) :
    c.ifaceNew = b.ifaceNew := by
  rw [ifaceNew, ifaceNew, Monument.inForce, Monument.inForce, Monument.slot, Monument.slot, himgA, himgB, hforce]

/-! ### Rollbacks: what they leave of the window (R282) -/

/-- What a rollback leaves of the window until its activation is answered: the ports and the journal. -/
structure WindowSame (a b : Block) : Prop where
  port : ∀ k, b.port k = a.port k
  staged : b.hub.staged = a.hub.staged

namespace WindowSame

theorem refl (b : Block) : WindowSame b b := ⟨fun _ => rfl, rfl⟩

theorem trans {a : Block} (h : WindowSame a b) (h' : WindowSame b c) : WindowSame a c :=
  ⟨fun k => (h'.port k).trans (h.port k), h'.staged.trans h.staged⟩

theorem of_keeps {S : List Part} (h : b.Keeps S c) (hports : .ports ∉ S) (hhub : .hub ∉ S) : WindowSame b c :=
  ⟨h.port hports, congrArg Hub.staged (h.hub hhub)⟩

end WindowSame

theorem extend_window (b : Block) (now k : Nat) (d : List Nat) : WindowSame b (b.extend now k d) :=
  ⟨fun k => Keeps.port (S := [.regs, .hub]) (by simp) (by decide) k, (extend_hub (g := Hub.staged) (fun _ _ _ _ _ => rfl) ..).eq⟩

theorem startOn_keeps (b : Block) (now off p cause : Nat) (slotB : Bool) :
    b.Keeps [.regs, .fields, .rails, .traces, .procs, .hub, .mon, .free] (b.startOn now off p cause slotB) := by simp

theorem startOn_window (b : Block) (now off p cause : Nat) (slotB : Bool) : WindowSame b (b.startOn now off p cause slotB) :=
  ⟨(startOn_keeps ..).port (by decide), (startOn_hub (g := Hub.staged) (fun _ _ _ _ _ => rfl) ..).eq⟩

/-- A rollback that is over, before its activation is answered. -/
def rolledBack (b : Block) (now : Nat) : Block :=
  ((b.modHub (fun h => { h with rollback := [] })).wr HUB_FW.ROLLOUT 0 rollStaged).extend now 7 (Config.sha384 (b.mon.imgB.take 0x200))

/-! ### Answers and room in the journal -/

/-- 1 for a port with a command in flight. -/
def portBusy (b : Block) (k : Nat) : Nat := if (b.port k).flight.isSome then 1 else 0

/-- The entries of the journal and the commands in flight: a final status moves one to the other. -/
def pledged (b : Block) : Nat := b.hub.staged.length + (b.portBusy 0 + b.portBusy 1 + b.portBusy 2)

/-- What other commands' answers leave: port `pt`, and the pledged. -/
structure Spared (pt : Nat) (a b : Block) : Prop where
  port : b.port pt = a.port pt
  pledged : b.pledged ≤ a.pledged

namespace Spared

variable {a : Block} {pt : Nat}

theorem refl (pt : Nat) (b : Block) : Spared pt b b := ⟨rfl, le_refl _⟩

theorem trans (h : Spared pt a b) (h' : Spared pt b c) : Spared pt a c := ⟨h'.port.trans h.port, h'.pledged.trans h.pledged⟩

theorem of_window (h : WindowSame b c) (pt : Nat) : Spared pt b c := by
  refine ⟨h.port pt, ?_⟩
  simp only [Block.pledged, portBusy, h.port, h.staged]
  exact le_refl _

theorem waitOf (h : Spared pt a b) : b.waitOf pt = a.waitOf pt := by rw [Block.waitOf, Block.waitOf, h.port]

end Spared

theorem pledged_of_freed {a : Block} {k : Nat} (hk : k < 3) (hother : ∀ j ≠ k, b.port j = a.port j) (hbusy : a.portBusy k = 1) (hfree : b.portBusy k = 0)
    (hstaged : b.hub.staged.length ≤ a.hub.staged.length + 1) : b.pledged ≤ a.pledged := by
  have hsame (j : Nat) (hj : j ≠ k) : b.portBusy j = a.portBusy j := by rw [portBusy, portBusy, hother j hj]
  obtain rfl | rfl | rfl : k = 0 ∨ k = 1 ∨ k = 2 := by omega
  · have h1 := hsame 1 (by decide)
    have h2 := hsame 2 (by decide)
    simp only [pledged]
    omega
  · have h0 := hsame 0 (by decide)
    have h2 := hsame 2 (by decide)
    simp only [pledged]
    omega
  · have h0 := hsame 0 (by decide)
    have h1 := hsame 1 (by decide)
    simp only [pledged]
    omega

theorem pledged_congr {a : Block} (hbusy : ∀ k, b.portBusy k = a.portBusy k) (hstaged : b.hub.staged = a.hub.staged) : b.pledged = a.pledged := by
  rw [pledged, pledged, hbusy, hbusy, hbusy, hstaged]

theorem answer_pledged {k status : Nat} (hk : k < 3) (hfinal : status ≠ stAccepted) (b : Block) (now detail : Nat) (data : List Nat) :
    (b.answer now k status detail data).pledged ≤ b.pledged := by
  unfold answer
  split
  next => exact le_refl _
  next fl hfl =>
    split
    · refine le_of_eq (pledged_congr (fun j => ?_) rfl)
      obtain rfl | hj := eq_or_ne j k
      · rw [portBusy, portBusy, port_setPort_same, hfl]
        rfl
      · rw [portBusy, portBusy, port_setPort_other _ _ hj]
    · have hone := status_one b now k fl status detail data
      refine pledged_of_freed hk hone.other ?_ ?_ hone.staged
      · rw [portBusy, hfl]
        rfl
      · rw [portBusy, status_flight hfinal]
        rfl

theorem answer_spared {pt k status : Nat} (hk : k < 3) (hkp : k ≠ pt) (hfinal : status ≠ stAccepted) (b : Block) (now detail : Nat) (data : List Nat) :
    Spared pt b (b.answer now k status detail data) :=
  ⟨(answer_one ..).other pt (Ne.symm hkp), answer_pledged hk hfinal ..⟩

/-- Answers to what port `pt` does not wait for. -/
theorem completeWhere_spared {pt : Nat} {g : Wait → Option (Nat × Nat × List Nat)} (hg : g (b.waitOf pt) = none) (hfinal : ∀ w r, g w = some r → r.1 ≠ stAccepted)
    (now : Nat) : Spared pt b (b.completeWhere now g) := by
  have hstep (c : Block) (h : Spared pt b c) (k : Nat) (hk : k < 3) : Spared pt b (c.completeAt now g k) := by
    unfold completeAt
    split
    next r hr =>
      refine h.trans (answer_spared hk (fun hkp => ?_) (hfinal _ r hr) ..)
      rw [hkp, h.waitOf, hg] at hr
      cases hr
    next => exact h
  rw [completeWhere_eq]
  exact hstep _ (hstep _ (hstep _ (.refl pt b) 0 (by decide)) 1 (by decide)) 2 (by decide)

/-! ### Restarts by command (R284) -/

theorem WindowSame.waitOf (h : WindowSame b c) (pt : Nat) : c.waitOf pt = b.waitOf pt := by rw [Block.waitOf, Block.waitOf, h.port]

theorem wr_window (b : Block) (x : Fld) (i v : Nat) : WindowSame b (b.wr x i v) := .of_keeps (wr_keeps ..) (by decide) (by decide)

/-- A change of what waits for a rollback. -/
theorem rollback_window (b : Block) (l : List Nat) : WindowSame b (b.modHub (fun h => { h with rollback := l })) := ⟨fun _ => rfl, rfl⟩

theorem rollNext_spared {pt : Nat} (h : b.waitOf pt ≠ .activation) (now off : Nat) : Spared pt b (b.rollNext now off) := by
  have hset : WindowSame b (b.each (b.hub.rollback.takeWhile b.stopped) (fun b p => b.setImage p false)) :=
    .of_keeps (S := [.procs]) (by simp) (by decide) (by decide)
  unfold rollNext
  dsimp only
  generalize b.each (b.hub.rollback.takeWhile b.stopped) (fun b p => b.setImage p false) = c at hset
  split
  · refine .of_window (hset.trans ?_) pt
    exact ((rollback_window ..).trans (wr_window ..)).trans (startOn_window ..)
  · refine Spared.trans (.of_window (hset.trans (((rollback_window ..).trans (wr_window ..)).trans (extend_window ..))) pt) (completeWhere_spared ?_ ?_ now)
    · refine if_neg fun hw => h ?_
      rw [← hw]
      exact ((hset.trans (((rollback_window ..).trans (wr_window ..)).trans (extend_window ..))).waitOf pt).symm
    · intro w r hr
      split at hr
      · cases hr
        show stUnmet ≠ stAccepted
        decide
      · cases hr

/-- A rollback is under way, from processor `p`. -/
def rollShown (b : Block) (p : Nat) : Block :=
  (((b.wr HUB_FW.ROLLOUT 0 rollBack).wr HUB_FW.BOOT_SLOT 0 0).wr HUB_FW.ROLL_NEXT 0 p).modMon (fun m => { m with bootSlotB := false })

/-- What a rollback does before the first processor starts on slot A. -/
def rollBegun (b : Block) (now off p : Nat) : Block :=
  let rest := (activationOrder.filter (fun k => k != p && (b.proc k).imageB)).reverse
  let b := (b.rollShown p).modHub (fun h => { h with order := [], rollback := rest, rollFail := p, rollField := false })
  (b.monEvent now off 0x32 srcHub [p]).headerWrite now

theorem rollBackFrom_eq (b : Block) (now off p : Nat) : b.rollBackFrom now off p =
    ((b.rollBegun now off p).startOn now off p causeRollback false).cond (((b.rollBegun now off p).startOn now off p causeRollback false).stopped p)
      (fun b => b.rollNext now off) := rfl

theorem rollBegun_window (b : Block) (now off p : Nat) : WindowSame b (b.rollBegun now off p) := by
  have hshown : b.Keeps [.regs, .mon] (b.rollShown p) := by
    unfold rollShown
    simp
  have hbefore (c : Block) (l : List Nat) : WindowSame c (c.modHub (fun h => { h with order := [], rollback := l, rollFail := p, rollField := false })) :=
    ⟨fun _ => rfl, rfl⟩
  have hnoted (c : Block) : c.Keeps [.regs, .mon] ((c.monEvent now off 0x32 srcHub [p]).headerWrite now) := by simp
  exact ((WindowSame.of_keeps hshown (by decide) (by decide)).trans (hbefore ..)).trans (.of_keeps (hnoted _) (by decide) (by decide))

theorem restart_spared {pt : Nat} (h : b.waitOf pt ≠ .activation) (now off p cause : Nat) : Spared pt b (b.restart now off p cause) := by
  have hfault : WindowSame b (b.causeFault off p cause) := .of_keeps (causeFault_keeps ..) (by decide) (by decide)
  unfold restart
  dsimp only
  split
  · have hstart := (hfault.trans (rollBegun_window _ now off p)).trans (startOn_window _ now off p causeRollback false)
    rw [rollBackFrom_eq]
    unfold cond
    split
    · exact Spared.trans (.of_window hstart pt) (rollNext_spared (by rwa [hstart.waitOf]) ..)
    · exact .of_window hstart pt
  · exact .of_window (hfault.trans (.of_keeps (beginRestart_keeps ..) (by decide) (by decide))) pt

/-- The restarts of the command of port `k` go on after processor `p`. -/
def nextRestartAt (b : Block) (now p k : Nat) : Block :=
  match b.waitOf k with
  | .restarts (j :: rest) =>
    if j ≠ p then b
    else match rest with
      | [] => b.done now k []
      | n :: _ => (b.await k (.restarts rest)).restart now 0 n causeCommand
  | _ => b

theorem nextRestart_eq (b : Block) (now p : Nat) :
    b.nextRestart now p = ((b.nextRestartAt now p 0).nextRestartAt now p 1).nextRestartAt now p 2 := rfl

theorem await_spared {pt k : Nat} (hkp : k ≠ pt) (b : Block) (w : Wait) : Spared pt b (b.await k w) := by
  refine ⟨port_modPort_other _ _ (Ne.symm hkp), le_of_eq (pledged_congr (fun j => ?_) rfl)⟩
  obtain rfl | hj := eq_or_ne j k
  · rw [portBusy, portBusy, await, port_modPort_same, Option.isSome_map]
  · rw [portBusy, portBusy, await, port_modPort_other _ _ hj]

theorem nextRestartAt_spared {pt k : Nat} (hk : k < 3) (hkp : k ≠ pt) (h : b.waitOf pt ≠ .activation) (now p : Nat) :
    Spared pt b (b.nextRestartAt now p k) := by
  unfold nextRestartAt
  split
  · split
    · exact .refl ..
    · split
      · exact answer_spared hk hkp (by decide) ..
      · have hawait := await_spared hkp b
        exact (hawait _).trans (restart_spared (by rwa [(hawait _).waitOf]) ..)
  · exact .refl ..

theorem nextRestartAt_done {pt : Nat} {fl : Flight} (hfl : (b.port pt).flight = some fl) (howed : fl.owed = []) (hroom : b.hub.staged.length < 16)
    (hwait : fl.wait = .restarts [p]) (now : Nat) : ((b.nextRestartAt now p pt).port pt).flight = none := by
  have hw : b.waitOf pt = .restarts [p] := by rw [waitOf, hfl]; exact hwait
  rw [nextRestartAt, hw]
  dsimp only
  rw [if_neg (by simp), done, answer_of_room hfl hroom howed, status_flight (by decide)]


end Block

open Block in
/-- The last restart of a command completes it. -/
theorem completes_nextRestart (s : State) (p : Nat) : Completes (.restarts [p]) s { s with b := s.b.nextRestart s.tick p } := by
  intro pt hpt hwait hroom howed
  cases hfl : (s.b.port pt).flight with
  | none => rw [waitOf, hfl] at hwait; cases hwait
  | some fl =>
    have hflw : fl.wait = .restarts [p] := by rw [← hwait, waitOf, hfl]
    have hno (c : Block) (h : Spared pt s.b c) : c.waitOf pt ≠ .activation := by
      rw [h.waitOf, hwait]
      exact nofun
    have hstep (c : Block) (h : Spared pt s.b c) (k : Nat) (hk : k < 3) (hkp : k ≠ pt) : Spared pt s.b (c.nextRestartAt s.tick p k) :=
      h.trans (nextRestartAt_spared hk hkp (hno c h) ..)
    have hdone (c : Block) (h : Spared pt s.b c) : ((c.nextRestartAt s.tick p pt).port pt).flight = none := by
      refine nextRestartAt_done (by rw [h.port, hfl]) (howed fl hfl) ?_ hflw _
      have hpledged := h.pledged
      have hbusy : c.portBusy pt = 1 := by
        rw [portBusy, h.port, hfl]
        rfl
      have hle (k : Nat) : s.b.portBusy k ≤ 1 := by
        unfold portBusy
        split <;> omega
      have h0 := hle 0
      have h1 := hle 1
      have h2 := hle 2
      obtain rfl | rfl | rfl : pt = 0 ∨ pt = 1 ∨ pt = 2 := by omega
      all_goals
        simp only [pledged] at hpledged
        omega
    have hafter (c : Block) (h : (c.port pt).flight = none) (k : Nat) (hk : k < 3) (hkp : k ≠ pt) :
        ((c.nextRestartAt s.tick p k).port pt).flight = none := by
      have hno : c.waitOf pt ≠ .activation := by
        rw [waitOf, h]
        exact nofun
      rw [(nextRestartAt_spared hk hkp hno ..).port, h]
    rw [nextRestart_eq]
    obtain rfl | rfl | rfl : pt = 0 ∨ pt = 1 ∨ pt = 2 := by omega
    · exact hafter _ (hafter _ (hdone _ (.refl ..)) 1 (by decide) (by decide)) 2 (by decide) (by decide)
    · exact hafter _ (hdone _ (hstep _ (.refl ..) 0 (by decide) (by decide))) 2 (by decide) (by decide)
    · exact hdone _ (hstep _ (hstep _ (.refl ..) 0 (by decide) (by decide)) 1 (by decide) (by decide))

end Sys2Proof.Machine
end

section
/-!
SUPPORT. The rows of activations and restarts by command, and the copy that ends an activation.
-/

namespace Sys2Proof.Machine

open Sys2Proof

section Rows

open Block

variable {c : Cmd} {s : State} {p : ProcNo}

/-! ### What a command finds when it is taken -/

theorem activating_begun (op : Nat) (c : Cmd) (s : State) : (s.b.begun s.tick op c).activating = s.b.activating := by
  rw [activating, activating, rollout, rollout, (begun_regsOff ..).rd (by decide)]

theorem waitOf_begun {op : Nat} (h : Passes op c s) (k : Nat) : (s.b.begun s.tick op c).waitOf k = s.b.waitOf k := by
  obtain rfl | hk := eq_or_ne k (portNo c.port)
  · rw [waitOf, waitOf, begun_flight, h.idle]
    rfl
  · rw [waitOf, waitOf, (begun_frame ..).ports k hk]

theorem restartsRun_begun {op : Nat} (h : Passes op c s) : (s.b.begun s.tick op c).restartsRun = s.b.restartsRun := by
  rw [restartsRun, restartsRun]
  simp only [waitOf_begun h]

theorem stopped_procs (op : Nat) (c : Cmd) (s : State) (status detail : Nat) :
    ((s.b.begun s.tick op c).stop s.tick (portNo c.port) status detail).procs = s.b.procs := by
  show ((s.b.begun s.tick op c).answer s.tick (portNo c.port) status detail []).procs = _
  rw [(answer_keeps ..).same .procs (by decide), (begun_keeps ..).same .procs (by decide)]

/-- A command that waits, also where its first status waits for room in the journal. -/
theorem waits_accepted {op : Nat} (w : Wait) {d : Block} (hport : d.port (portNo c.port) =
    ((((s.b.begun s.tick op c).accept s.tick (portNo c.port) []).await (portNo c.port) w).port (portNo c.port))) :
    Waits c w { s with b := d } := by
  have haccept : ∃ fl, (((s.b.begun s.tick op c).accept s.tick (portNo c.port) []).port (portNo c.port)).flight = some fl ∧ fl.seqNo = c.seq.toNat := by
    rw [accept, answer, begun_flight]
    dsimp only
    split
    · exact ⟨_, congrArg PortSt.flight (port_setPort_same ..), rfl⟩
    · refine ⟨{ flightOf s.tick op c with begun := true, accepted := true }, ?_, rfl⟩
      rw [status_accepted, port_modPort_same, (wr_keeps ..).port (by decide), reportStatus_port, (setFlag_keeps ..).port (by decide),
        writeResponse_port, begun_flight]
      rfl
  obtain ⟨fl, hfl, hseq⟩ := haccept
  obtain ⟨⟨x, hx, hxseq⟩, hwait⟩ := waits_of_flight hfl hseq w s
  exact ⟨⟨x, (congrArg PortSt.flight hport).trans hx, hxseq⟩, by rw [← hwait, waitOf, waitOf, hport]⟩

/-! ### FW_ACTIVATE (R281) -/

/-- FW_ACTIVATE is accepted and waits. -/
def activationTaken (c : Cmd) (s : State) : Block :=
  ((s.b.begun s.tick 0x71 c).accept s.tick (portNo c.port) []).await (portNo c.port) .activation

/-- An activation shown in the registers and the header. -/
def activationShown (c : Cmd) (s : State) : Block :=
  ((((activationTaken c s).wr HUB_FW.ROLLOUT 0 rollActivating).wr HUB_FW.BOOT_SLOT 0 1).modMon (fun m => { m with bootSlotB := true })).headerWrite s.tick

/-- An activation that is to start with the first processor. -/
def activationBegun (c : Cmd) (s : State) : Block :=
  (activationShown c s).modHub (fun h => { h with order := activationOrder, ratchet := c.opt 0, rollField := false })

theorem activationTaken_keeps (c : Cmd) (s : State) : s.b.Keeps [.regs, .ports, .hub] (activationTaken c s) := by
  unfold activationTaken begun submit
  simp

theorem activationShown_keeps (c : Cmd) (s : State) : (activationTaken c s).Keeps [.regs, .mon] (activationShown c s) := by
  unfold activationShown
  simp

theorem activationBegun_procs (c : Cmd) (s : State) : (activationBegun c s).procs = s.b.procs :=
  show (activationShown c s).procs = s.b.procs from
    Eq.trans ((activationShown_keeps c s).same .procs (by decide)) ((activationTaken_keeps c s).same .procs (by decide))

theorem activationBegun_ifaceNew (c : Cmd) (s : State) : (activationBegun c s).ifaceNew = s.b.ifaceNew := by
  have hmon : (activationTaken c s).mon = s.b.mon := (activationTaken_keeps c s).mon (by decide)
  have himages : images (activationShown c s).mon = (s.b.mon.imgA, s.b.mon.imgB, s.b.mon.forceB, true) := by
    rw [activationShown, headerWrite_images, ← hmon]
    rfl
  simp only [images, Prod.mk.injEq] at himages
  obtain ⟨himgA, himgB, hforce, -⟩ := himages
  exact ifaceNew_congr himgA himgB hforce

theorem activationTaken_rd {x : Fld} (hx : x.Fits ∧ x.page ∉ windowPages) (c : Cmd) (s : State) (i : Nat) :
    (activationTaken c s).rd x i = s.b.rd x i := by
  rw [activationTaken, rd_await, accept, answer_rd hx, (begun_regsOff ..).rd hx]

theorem activationBegun_rd {x : Fld} (hx : x.Fits ∧ x.page ∉ windowPages) (hroll : HUB_FW.ROLLOUT.apart x = true) (hboot : HUB_FW.BOOT_SLOT.apart x = true)
    (c : Cmd) (s : State) (i : Nat) : (activationBegun c s).rd x i = s.b.rd x i := by
  rw [activationBegun, rd_modHub, activationShown, (headerWrite_keeps ..).rd (by decide), rd_modMon, rd_wr_apart hboot, rd_wr_apart hroll,
    activationTaken_rd hx]

theorem activationBegun_shown (c : Cmd) (s : State) : (activationBegun c s).rollout = 3 ∧ (activationBegun c s).rd HUB_FW.BOOT_SLOT 0 = 1 := by
  rw [rollout, activationBegun, rd_modHub, rd_modHub, activationShown, (headerWrite_keeps ..).rd (by decide), (headerWrite_keeps ..).rd (by decide),
    rd_modMon, rd_modMon, rd_wr_apart (by decide), rd_wr_same, rd_wr_same]
  exact ⟨rfl, rfl⟩

section Activate

variable (h : Passes 0x71 c s) (hidle : s.b.activating = false) (hrun : s.b.restartsRun = false)
include h hidle hrun

theorem exec_fwActivate (hvalid : s.b.bit HUB_FW.SLOT_B_VALID 0 = true) (hiface : s.b.ifaceNew = false) (hst : (s.b.proc 0).st ≠ 3) :
    exec (.fwActivate c) s = .next { s with b := ((activationBegun c s).nextDue 0 activationOrder.tail).startOnB s.tick c.sc 0 } := by
  have hvalid' : (s.b.begun s.tick 0x71 c).bit HUB_FW.SLOT_B_VALID 0 = true := by
    rw [bit, (begun_regsOff ..).rd (by decide)]
    exact hvalid
  have hproc : ((activationBegun c s).proc 0).st ≠ 3 := by
    rw [proc, activationBegun_procs]
    exact hst
  have hcond (g : Block → Block) : (activationBegun c s).cond (activationBegun c s).ifaceNew g = activationBegun c s :=
    cond_of_false ((activationBegun_ifaceNew c s).trans hiface) _
  have horder : (activationBegun c s).hub.order = 0 :: activationOrder.tail := rfl
  rw [← activateNext_cons horder hproc ((activationBegun_ifaceNew c s).trans hiface)]
  show execFwActivate c s = _
  rw [execFwActivate, h.runCmdB_eq]
  dsimp only
  rw [activating_begun, hidle, restartsRun_begun h, hrun, hvalid', if_neg (by decide), if_neg (by decide)]
  exact congrArg (fun b => Host.Outcome.next { s with b := b.activateNext s.tick c.sc }) (hcond _)

/-- FW_ACTIVATE starts the first processor on slot B. -/
theorem fwActivate_started (hvalid : s.b.bit HUB_FW.SLOT_B_VALID 0 = true) (hiface : s.b.ifaceNew = false) (hst : (s.b.proc 0).st ≠ 3) :
    ∃ d, exec (.fwActivate c) s = .next { s with b := d } ∧ StartedOnB 0 s.tick ((activationBegun c s).nextDue 0 activationOrder.tail) d := by
  refine ⟨_, exec_fwActivate h hidle hrun hvalid hiface hst, startOnB_started ?_ ..⟩
  rw [(nextDue_keeps ..).proc (by decide), proc, activationBegun_procs]
  exact hst

theorem exec_fwActivate_invalid (hvalid : s.b.bit HUB_FW.SLOT_B_VALID 0 = false) :
    exec (.fwActivate c) s = .next { s with
      b := (s.b.begun s.tick 0x71 c).stop s.tick (portNo c.port) stStateReject (s.b.begun s.tick 0x71 c).mgr } := by
  have hvalid' : (s.b.begun s.tick 0x71 c).bit HUB_FW.SLOT_B_VALID 0 = false := by
    rw [bit, (begun_regsOff ..).rd (by decide)]
    exact hvalid
  show execFwActivate c s = _
  rw [execFwActivate, h.runCmdB_eq]
  dsimp only
  rw [activating_begun, hidle, restartsRun_begun h, hrun, hvalid', if_neg (by decide), if_pos (by decide)]

end Activate

/-! ### PROBATION_END -/

section Probation

variable (hover : s.b.probationOver s.tick p = true) (hiface : s.b.ifaceNew = false)
include hover hiface

theorem exec_probationEnd_activating (hroll : s.b.rollout = rollActivating) (hnext : s.b.rd HUB_FW.ROLL_NEXT 0 = p) :
    exec (.probationEnd p) s = .next { s with b := s.b.activateNext s.tick 0 } := by
  show execProbationEnd p s = _
  unfold execProbationEnd onB
  dsimp only
  rw [hover, hiface, if_neg (by simp), if_pos hroll]
  exact next_block rfl (cond_of_true (beq_iff_eq.2 hnext) _)

theorem exec_probationEnd_restarts (hroll : s.b.rollout ≠ rollActivating) :
    exec (.probationEnd p) s = .next { s with b := s.b.nextRestart s.tick p } := by
  show execProbationEnd p s = _
  unfold execProbationEnd onB
  dsimp only
  rw [hover, hiface, if_neg (by simp), if_neg hroll]

/-- PROBATION_END starts the next processor on slot B. -/
theorem probationEnd_started {q : Nat} {r : List Nat} (hroll : s.b.rollout = rollActivating) (hnext : s.b.rd HUB_FW.ROLL_NEXT 0 = p)
    (horder : s.b.hub.order = q :: r) (hst : (s.b.proc q).st ≠ 3) :
    ∃ d, exec (.probationEnd p) s = .next { s with b := d } ∧ StartedOnB q s.tick (s.b.nextDue q r) d := by
  refine ⟨_, exec_probationEnd_activating hover hiface hroll hnext, ?_⟩
  rw [activateNext_cons horder hst hiface]
  exact startOnB_started (by rwa [(nextDue_keeps ..).proc (by decide)]) ..

end Probation

theorem exec_probationEnd_early (h : s.b.probationOver s.tick p = false) : exec (.probationEnd p) s = .next s := by
  show execProbationEnd p s = _
  unfold execProbationEnd onB
  dsimp only
  rw [h, if_pos (by simp)]

/-! ### FW_RESTART (R284) -/

/-- A processor on no trial image, as far as any activation goes. -/
theorem onTrial_of_idle {b : Block} (h : b.activating = false) (p : Nat) : b.onTrial p = false := by
  have hroll : b.rollout < 3 := Nat.lt_of_not_le (of_decide_eq_false h)
  have h3 : (b.rollout == rollActivating) = false := beq_eq_false_iff_ne.2 (Nat.ne_of_lt hroll)
  have h5 : (b.rollout == rollCopying) = false := beq_eq_false_iff_ne.2 (Nat.ne_of_lt (by show _ < 5; omega))
  rw [onTrial, h3, h5]
  rfl

/-- FW_RESTART is accepted and waits. -/
def restartTaken (c : Cmd) (s : State) (l : List Nat) : Block :=
  ((s.b.begun s.tick 0x72 c).accept s.tick (portNo c.port) []).await (portNo c.port) (.restarts l)

theorem restartTaken_keeps (c : Cmd) (s : State) (l : List Nat) : s.b.Keeps [.regs, .ports, .hub] (restartTaken c s l) := by
  unfold restartTaken begun submit
  simp

theorem restartTaken_rd {x : Fld} (hx : x.Fits ∧ x.page ∉ windowPages) (c : Cmd) (s : State) (l : List Nat) (i : Nat) :
    (restartTaken c s l).rd x i = s.b.rd x i := by
  rw [restartTaken, rd_await, accept, answer_rd hx, (begun_regsOff ..).rd hx]

theorem restartTaken_idle (h : s.b.activating = false) (c : Cmd) (l : List Nat) : (restartTaken c s l).activating = false := by
  rw [activating, rollout, restartTaken_rd (by decide)]
  exact h

theorem exec_fwRestart {l : List Nat} (h : Passes 0x72 c s) (hidle : s.b.activating = false) (hrun : s.b.restartsRun = false)
    (hl : (c.arg 0 ≤ 86 ∧ l = [c.arg 0]) ∨ (c.arg 0 = 0xFF ∧ l = activationOrder)) :
    exec (.fwRestart c) s = .next { s with b := (restartTaken c s l).restart s.tick c.sc (l.headD 0) causeCommand } := by
  have hlist : (if c.arg 0 = 0xFF then activationOrder else [c.arg 0]) = l := by
    obtain ⟨harg, rfl⟩ | ⟨harg, rfl⟩ := hl
    · exact if_neg (by omega)
    · exact if_pos harg
  have harg : ¬(86 < c.arg 0 ∧ c.arg 0 ≠ 0xFF) := by omega
  show execFwRestart c s = _
  rw [execFwRestart, h.runCmdB_eq]
  dsimp only
  rw [hlist, if_neg harg, activating_begun, hidle, restartsRun_begun h, hrun, if_neg (by decide)]
  rfl

theorem exec_fwRestart_none (h : Passes 0x72 c s) (hlow : 86 < c.arg 0) (hall : c.arg 0 ≠ 0xFF) : exec (.fwRestart c) s = .next { s with
    b := (s.b.begun s.tick 0x72 c).stop s.tick (portNo c.port) stBadArg (badArgDetail 1 0) } := by
  show execFwRestart c s = _
  rw [execFwRestart, h.runCmdB_eq]
  dsimp only
  rw [if_pos ⟨hlow, hall⟩]

theorem restartTaken_restarted {l : List Nat} {k off : Nat} (h : (restartTaken c s l).onTrial k = false) :
    Restarted k causeCommand s { s with b := (restartTaken c s l).restart s.tick off k causeCommand } := by
  have hproc (q : Nat) : (restartTaken c s l).proc q = s.b.proc q := (restartTaken_keeps c s l).proc (by decide) q
  obtain ⟨hst, hcause, htick, hon, hhold, hcount, hother⟩ :=
    restarted_of_restart (s := { s with b := restartTaken c s l }) h off causeCommand
  refine ⟨hst, hcause, htick, hon, hhold.trans (restartTaken_rd (by decide) ..), ?_, fun q hq => (hother q hq).trans (hproc q)⟩
  rw [← hproc]
  exact hcount

/-! ### SLOT_COPY_DONE (R283) -/

/-- Slot A holds the image, and the registers show it. -/
def copyShown (b : Block) : Block :=
  ((((b.modMon (fun m => { m with bootSlotB := false, imgA := m.imgB, forceB := false })).wr HUB_FW.ROLLOUT 0 rollIdle).wr HUB_FW.BOOT_SLOT 0 0).wr
    HUB_FW.ACTIVE_VER 0 (imgVer b.mon.imgB)).wr HUB_FW.ACTIVE_SVN 0 (imgSvn b.mon.imgB)

/-- A processor runs the image of slot A. -/
def onSlotA (b : Block) (p : Nat) : Block := b.cond (b.proc p).imageB (fun b => b.modProc p (fun q => { q with imageB := false }))

/-- The least version that the fuses take. -/
def copyFused (b : Block) (svn : Nat) : Block := (b.modNv (fun n => { n with fusedSvn := svn })).wr HUB_FW.FUSED_SVN 0 svn

/-- Every processor runs the image of slot A, and a header says so. -/
def copyTaken (b : Block) (now : Nat) : Block := ((copyShown b).each (List.range 87) (fun b p => onSlotA b p)).headerWrite now

/-- A copy that is done, before its activation is answered. -/
def copyDone (b : Block) (now : Nat) : Block :=
  ((copyTaken b now).cond (copyTaken b now).hub.ratchet (fun d => copyFused d (max d.nv.fusedSvn (imgSvn b.mon.imgB)))).extend now 7
    (Config.sha384 (b.mon.imgB.take 0x200))

/-- What the end of an activation answers. -/
def copyAnswer (w : Wait) : Option (Nat × Nat × List Nat) := if w = .activation then some (stDone, 0, [0xFF]) else none

theorem exec_slotCopyDone (h : s.b.rollout = rollCopying) : exec .slotCopyDone s = .next { s with
    b := (copyDone s.b s.tick).completeWhere s.tick copyAnswer } := by
  show execSlotCopyDone s = _
  unfold execSlotCopyDone onB
  dsimp only
  rw [if_neg (not_not.2 h)]
  unfold copyDone copyTaken copyShown copyFused onSlotA
  rfl

theorem exec_slotCopyDone_none (h : s.b.rollout ≠ rollCopying) : exec .slotCopyDone s = .next s := by
  show execSlotCopyDone s = _
  unfold execSlotCopyDone onB
  dsimp only
  rw [if_pos h]

end Rows

section Copy

open Block

variable {b : Block} {now : Nat}

theorem onSlotA_keeps (b : Block) (p : Nat) : b.Keeps [.procs] (onSlotA b p) := by
  unfold onSlotA
  simp

theorem copyShown_keeps (b : Block) : b.Keeps [.regs, .mon] (copyShown b) := by
  unfold copyShown
  simp

theorem passed_keeps (b : Block) : b.Keeps [.procs] (b.each (List.range 87) (fun b p => onSlotA b p)) :=
  (keeps_each fun c p => onSlotA_keeps c p).2 (.refl ..)

theorem copyTaken_keeps (b : Block) (now : Nat) : (copyShown b).Keeps [.procs, .mon] (copyTaken b now) := by
  exact ((passed_keeps _).mono (by decide)).trans ((headerWrite_keeps ..).mono (by decide))

theorem onSlotA_image (b : Block) (p : Nat) : ((onSlotA b p).proc p).imageB = false := by
  unfold onSlotA Block.cond
  split
  · rw [proc_modProc_same]
  · next h => exact Bool.eq_false_iff.2 h

theorem onSlotA_other {p q : Nat} (h : q ≠ p) (b : Block) : (onSlotA b p).proc q = b.proc q := by
  unfold onSlotA Block.cond
  split
  · exact proc_modProc_other _ _ h
  · rfl

theorem copyTaken_image (b : Block) (now : Nat) {p : Nat} (hp : p < 87) : ((copyTaken b now).proc p).imageB = false := by
  rw [copyTaken, (headerWrite_keeps ..).proc (by decide)]
  refine each_reaches (p := fun c => (c.proc p).imageB) (fun c => onSlotA_image c p) (fun c q => ?_) (List.mem_range.2 hp) _
  obtain rfl | hq := eq_or_ne q p
  · exact .inl (onSlotA_image ..)
  · exact .inr (congrArg Proc.imageB (onSlotA_other (Ne.symm hq) c))

theorem copyTaken_images (b : Block) (now : Nat) : images (copyTaken b now).mon = (b.mon.imgB, b.mon.imgB, false, false) := by
  have hpassed := passed_keeps (copyShown b)
  rw [copyTaken, headerWrite_images, hpassed.mon (by decide)]
  rfl

theorem copyDone_keeps (b : Block) (now : Nat) : (copyTaken b now).Keeps [.regs, .nv, .hub] (copyDone b now) := by
  unfold copyDone copyFused
  simp

/-- What the copy leaves of the registers that it does not show the fuses in. -/
theorem copyDone_rd {x : Fld} (hx : x.Fits ∧ x.page ∉ startPages) (hfused : HUB_FW.FUSED_SVN.apart x = true) (b : Block) (now i : Nat) :
    (copyDone b now).rd x i = (copyShown b).rd x i := by
  have hextend (c : Block) (k : Nat) (d : List Nat) : RegsOff startPages c (c.extend now k d) :=
    (regsOff_wr (by decide) ..).2 ((modHub_keeps ..).regsOff (by decide) _)
  have hfuses (c : Block) : (copyFused c (max c.nv.fusedSvn (imgSvn b.mon.imgB))).rd x i = c.rd x i := by
    rw [copyFused, rd_wr_apart hfused, rd_modNv]
  rw [copyDone, (hextend ..).rd hx, rd_cond hfuses, (copyTaken_keeps ..).rd (by decide)]

theorem copyDone_nv (b : Block) (now : Nat) :
    (copyDone b now).nv.fusedSvn = if b.hub.ratchet then max b.nv.fusedSvn (imgSvn b.mon.imgB) else b.nv.fusedSvn := by
  have hhub : (copyTaken b now).hub = b.hub := ((copyTaken_keeps ..).hub (by decide)).trans ((copyShown_keeps b).hub (by decide))
  have hnv : (copyTaken b now).nv = b.nv := ((copyTaken_keeps ..).nv (by decide)).trans ((copyShown_keeps b).nv (by decide))
  have hextend (c : Block) (k : Nat) (d : List Nat) : c.Keeps [.regs, .hub] (c.extend now k d) := by simp
  rw [copyDone, (hextend ..).nv (by decide), hhub, ← hnv]
  unfold Block.cond
  split
  · dsimp only
    rw [copyFused, (wr_keeps ..).nv (by decide), modNv]
  · rfl

theorem copyDone_shown (b : Block) (now : Nat) : (copyDone b now).rollout = 0 ∧ (copyDone b now).rd HUB_FW.BOOT_SLOT 0 = 0 ∧
    (copyDone b now).rd HUB_FW.ACTIVE_VER 0 = imgVer b.mon.imgB % 2 ^ 32 := by
  rw [rollout, copyDone_rd (by decide) (by decide), copyDone_rd (by decide) (by decide), copyDone_rd (by decide) (by decide), copyShown,
    rd_wr_apart (by decide), rd_wr_apart (by decide), rd_wr_apart (by decide), rd_wr_same, rd_wr_apart (by decide), rd_wr_apart (by decide), rd_wr_same,
    rd_wr_apart (by decide), rd_wr_same]
  exact ⟨rfl, rfl, rfl⟩

theorem copyDone_window (b : Block) (now : Nat) : WindowSame b (copyDone b now) := by
  have htaken : WindowSame b (copyTaken b now) :=
    (WindowSame.of_keeps (copyShown_keeps b) (by decide) (by decide)).trans (.of_keeps (copyTaken_keeps ..) (by decide) (by decide))
  have hfused (c : Block) (svn : Nat) : c.Keeps [.regs, .nv] (copyFused c svn) := by
    unfold copyFused
    simp
  unfold copyDone Block.cond
  split
  · exact htaken.trans ((WindowSame.of_keeps (hfused ..) (by decide) (by decide)).trans (extend_window ..))
  · exact htaken.trans (extend_window ..)

theorem copyAnswered_keeps (b : Block) (now : Nat) : (copyDone b now).Keeps [.regs, .ports, .hub] ((copyDone b now).completeWhere now copyAnswer) := by
  simp

theorem copyAnswered_mon (b : Block) (now : Nat) : images ((copyDone b now).completeWhere now copyAnswer).mon = (b.mon.imgB, b.mon.imgB, false, false) := by
  rw [(copyAnswered_keeps ..).mon (by decide), (copyDone_keeps ..).mon (by decide), copyTaken_images]

theorem copyAnswered_rd {x : Fld} (hx : x.Fits ∧ x.page ∉ windowPages) (b : Block) (now i : Nat) :
    ((copyDone b now).completeWhere now copyAnswer).rd x i = (copyDone b now).rd x i :=
  ((regsOff_completeWhere (List.Subset.refl _) ..).2 (.refl ..)).rd hx i

theorem copyAnswered_completes (s : State) : Completes .activation s { s with b := (copyDone s.b s.tick).completeWhere s.tick copyAnswer } :=
  completes_of_completeWhere (r := (stDone, 0, [0xFF])) (copyDone_window ..).port (copyDone_window ..).staged nofun rfl
    (by exact show stDone ≠ stAccepted by decide)

end Copy


/-- A state with another host memory and block. -/
theorem hostAndBlock_mk (s : State) (host : List Host.Cell) (b : Block) :
    ({ s with host := host, b := b } : State) = { s with host := ({ s with host := host, b := b } : State).host, b := ({ s with host := host, b := b } : State).b } := rfl

open Block in
/-- QUOTE is answered, whatever host memory has become. -/
theorem quote_answered {c : Cmd} {s : State} (hroom : s.b.hub.staged.length < 16) (host : List Host.Cell) :
    Answered 0x78 stDone c { s with
      host := host, b := (s.b.begun s.tick 0x78 c).done s.tick (portNo c.port) [s.b.rd HUB_FW.ATT_KEY_ID 0] } ∧
    rspWord c { s with
      host := host, b := (s.b.begun s.tick 0x78 c).done s.tick (portNo c.port) [s.b.rd HUB_FW.ATT_KEY_ID 0] } 0 = s.b.rd HUB_FW.ATT_KEY_ID 0 := by
  have htaken := begun_taken 0x78 c s.tick hroom
  refine ⟨htaken.answered (by decide) (by decide) (by decide) { s with host := host }, ?_⟩
  exact (htaken.answer_rspData (by decide) _ _ _ (by decide)).trans (Nat.mod_eq_of_lt (rd_lt ..))

/-- The bytes that QUOTE writes. -/
theorem quote_host {c : Cmd} (m : List Host.Cell) (now : Nat) (key : List Nat) (b : Block) (hn : c.arg 0 ≤ 32) :
    (∀ a, outside (c.bufAddr 9) 608 a → mget 0 (putBytes m (c.bufAddr 9) (quoteBytes c now key b)) a = mget 0 m a) ∧
    ∀ i, i < c.arg 0 → (mget 0 (putBytes m (c.bufAddr 9) (quoteBytes c now key b)) (c.bufAddr 9 + 32 + i)).toNat =
      c.arg (1 + i / 4) / 2 ^ (8 * (i % 4)) % 256 := by
  refine ⟨fun a ha => putBytes_other _ _ _ _ (by rwa [length_quoteBytes]), fun i hi => ?_⟩
  rw [Nat.add_assoc, putBytes_at _ _ _ _ (by rw [length_quoteBytes]; omega), getD_quoteBytes _ _ _ (by omega), getD_quoteNonce hn hi, BitVec.toNat_ofNat]
  exact Nat.mod_mod ..

open Block in
/-- Settles O53. -/
theorem firmwareAndQuotes : Obligations.FirmwareAndQuotes := by
  unfold Obligations.FirmwareAndQuotes
  refine ⟨fun c s hpass hallowed hidle halone hbuf hroom => ⟨fun harea hpos hlast => ?_, fun img himg => ?_⟩,
    fun c s hpass hidle hrun hvalid hiface hst => ?_, fun c s hpass hidle hrun hvalid hroom => ?_,
    fun p s hover hiface => ⟨fun hroll hnext horder => ?_, fun q r hroll hnext horder hq hst => ?_, fun hroll => ?_⟩,
    fun p s h => exec_probationEnd_early h, fun s h => ?_, fun s h => exec_slotCopyDone_none h, fun c l s hpass hidle hrun hl => ?_,
    fun c s hpass hlow hall hroom => ?_, fun c k s hpass hn hkey hbuf harea hroom => ?_, fun c s hpass hn hkey hroom => ?_⟩
  · have hcheck : StageChecked c s := ⟨hpass, hallowed, hidle, halone, hbuf, hroom⟩
    obtain ⟨hjournal, hstaged⟩ := piecesStaged_hub c s
    have hready : Taken 0x70 c s.tick (piecesStaged c s) :=
      (begun_taken 0x70 c s.tick (by omega)).of_hubSame (piecesStaged_keeps c s) (by decide) ⟨fun _ => hjournal⟩
    refine ⟨_, hcheck.exec_piece harea hpos hlast, inBlock_mk .., hready.answered (by decide) (by decide) (by decide) s, ?_, ?_, ?_⟩
    · exact (answer_rd (by decide) ..).trans (rd_wr_same ..)
    · have hhub := congrArg Hub.staging (hready.answer_hub (status := stDone) (by decide) s.tick 0 [])
      exact (staged_congr hhub ..).trans hstaged
    · exact ((answer_keeps ..).mon (by decide)).trans (((piecesStaged_keeps c s).mon (by decide)).trans ((begun_keeps ..).mon (by decide)))
  · have hcheck : StageChecked c s := ⟨hpass, hallowed, hidle, halone, hbuf, hroom⟩
    obtain ⟨b, hb, hexec⟩ := hcheck.exec_image himg
    have hok : b.stageable img (c.opt 0) = (s.b.imageOk img && (imgIface img == imgIface s.b.mon.inForce || c.opt 0)) := by
      rw [stageable, imageOk, imageOk, imageSound, imageSound, imageKey, imageKey, hb.nv, hb.mon]
    refine ⟨_, hexec, inBlock_mk .., ?_⟩
    dsimp only
    rw [stageImage_eq, ← hok]
    split
    · obtain ⟨hanswer, himgB, hroll, hvalid, hver⟩ := hb.staged_image hroom (img := img) [imgVer img, imgSvn img]
      exact ⟨himgB, hanswer, hroll, hvalid, hver⟩
    · obtain ⟨hanswer, himgB, hroll, hvalid⟩ := hb.invalid_image hroom (img := img) (badArgDetail 1 0)
      exact ⟨himgB, hanswer, hroll, hvalid⟩
  · have hdue : (activationBegun c s).Keeps [.regs, .hub] ((activationBegun c s).nextDue 0 activationOrder.tail) := nextDue_keeps ..
    have hprocs : ((activationBegun c s).nextDue 0 activationOrder.tail).procs = s.b.procs := by
      rw [hdue.same .procs (by decide), activationBegun_procs]
    obtain ⟨d, hexec, hstarted⟩ := fwActivate_started hpass hidle hrun hvalid hiface hst
    obtain ⟨hroll, hboot⟩ := activationBegun_shown c s
    have hhold : ((activationBegun c s).nextDue 0 activationOrder.tail).rd HUB_FW.HOLD_TICKS 0 = s.b.rd HUB_FW.HOLD_TICKS 0 := by
      rw [nextDue_regs _ _ _ (by decide), activationBegun_rd (by decide) (by decide) (by decide)]
    refine ⟨_, hexec, inBlock_mk .., waits_accepted (op := 0x71) .activation ?_, ?_, ?_, ?_,
      hstarted.restarted hprocs hhold⟩
    · rw [hstarted.ports, hdue.port (by decide)]
      exact (activationShown_keeps c s).port (by decide) _
    · rw [rollout, hstarted.regs.rd (by decide), nextDue_regs _ _ _ (by decide)]
      exact hroll
    · dsimp only
      rw [hstarted.regs.rd (by decide), nextDue_regs _ _ _ (by decide), hboot]
    · dsimp only
      rw [hstarted.regs.rd (by decide), nextDue_rollNext (by decide)]
  · refine ⟨_, exec_fwActivate_invalid hpass hidle hrun hvalid, inBlock_mk .., (begun_taken 0x71 c s.tick hroom).answered (by decide) (by decide)
      (by decide) s, ?_⟩
    exact stopped_procs ..
  · refine ⟨_, exec_probationEnd_activating hover hiface hroll hnext, ?_⟩
    rw [activateNext_nil horder]
    exact ⟨⟨(wr_keeps ..).withBlock_eq_graft (S := [.regs]), (regsBut_wr (by simp) _).2 (RegsBut.refl _ _)⟩, rd_wr_same ..⟩
  · have hdue : s.b.Keeps [.regs, .hub] (s.b.nextDue q r) := nextDue_keeps ..
    obtain ⟨d, hexec, hstarted⟩ := probationEnd_started hover hiface hroll hnext horder hst
    refine ⟨_, hexec, inBlock_mk .., ?_, ?_, hstarted.restarted (hdue.same .procs (by decide)) (nextDue_regs _ _ _ (by decide) _)⟩
    · rw [rollout, hstarted.regs.rd (by decide), nextDue_regs _ _ _ (by decide)]
      exact hroll
    · dsimp only
      rw [hstarted.regs.rd (by decide), nextDue_rollNext hq]
  · exact ⟨_, exec_probationEnd_restarts hover hiface hroll, inBlock_mk .., completes_nextRestart s p⟩
  · obtain ⟨hroll, hboot, hver⟩ := copyDone_shown s.b s.tick
    have himages := copyAnswered_mon s.b s.tick
    simp only [images, Prod.mk.injEq] at himages
    obtain ⟨himgA, -, hforce, hslot⟩ := himages
    refine ⟨_, exec_slotCopyDone h, inBlock_mk .., ?_, ?_, ?_, ?_, ?_, ?_, fun p => ?_, ?_, copyAnswered_completes s⟩
    · rw [rollout, copyAnswered_rd (by decide)]
      exact hroll
    · dsimp only
      rw [copyAnswered_rd (by decide), hboot]
    · dsimp only
      rw [copyAnswered_rd (by decide), hver]
    · dsimp only
      rw [hslot]
    · dsimp only
      rw [hforce]
    · dsimp only
      rw [himgA]
    · dsimp only
      rw [(copyAnswered_keeps ..).proc (by decide), (copyDone_keeps ..).proc (by decide), copyTaken_image _ _ p.isLt]
    · dsimp only
      rw [(copyAnswered_keeps ..).nv (by decide), copyDone_nv]
  · have htrial := onTrial_of_idle (restartTaken_idle hidle c l) (l.headD 0)
    refine ⟨_, exec_fwRestart hpass hidle hrun hl, inBlock_mk .., waits_accepted (op := 0x72) (.restarts l) ?_, restartTaken_restarted htrial⟩
    rw [restart_eq htrial, (beginRestart_keeps ..).port (by decide), (causeFault_keeps ..).port (by decide)]
    rfl
  · refine ⟨_, exec_fwRestart_none hpass hlow hall, inBlock_mk .., (begun_taken 0x72 c s.tick hroom).answered (by decide) (by decide)
      (by decide) s, ?_⟩
    exact stopped_procs ..
  · have hexec := exec_quote hpass hn hkey hbuf harea
    obtain ⟨hother, hnonce⟩ := quote_host s.host s.tick k (s.b.begun s.tick 0x78 c) hn
    generalize putBytes s.host (c.bufAddr 9) (quoteBytes c s.tick k (s.b.begun s.tick 0x78 c)) = host at hexec hother hnonce
    obtain ⟨hanswered, hword⟩ := quote_answered (c := c) hroom host
    exact ⟨_, hexec, hostAndBlock_mk .., hanswered, hword, hother, hnonce⟩
  · exact ⟨_, exec_quote_keyless hpass hn hkey, inBlock_mk .., (begun_taken 0x78 c s.tick hroom).answered (by decide) (by decide) (by decide) s⟩

end Sys2Proof.Machine
end

section
/-!
SUPPORT. The fault collector: one event, the severe response, and the recovery.
-/

namespace Sys2Proof.Machine

open Sys2Proof

namespace Block

variable {b c : Block} {now off src fld st detail : Nat} {x : Fld}

/-! ### FAULT_N (R299) -/

theorem setFaultN_pins (b : Block) (v : Bool) : (b.setFaultN v).pins = { b.pins with faultN := v } := by
  unfold setFaultN
  split
  · next h => rw [← h]
  · rw [Keeps.pins (S := [.hub]) (a := (b.modPins (fun p => { p with faultN := v })).wrB HUB_FAULT.FAULT_N_ON 0 v) (by simp) (by decide),
      (wrB_keeps ..).pins (by decide)]
    rfl

theorem setFaultN_rd (hx : HUB_FAULT.FAULT_N_ON.apart x = true) (b : Block) (v : Bool) (i : Nat) : (b.setFaultN v).rd x i = b.rd x i := by
  unfold setFaultN
  split
  · rfl
  · rw [Keeps.rd (S := [.hub]) (a := (b.modPins (fun p => { p with faultN := v })).wrB HUB_FAULT.FAULT_N_ON 0 v) (by simp) (by decide),
      rd_wrB_apart hx, rd_modPins]

theorem ibi_hub {α : Type} {g : Hub → α} (hi : ∀ (x : Hub) v, g { x with ibiPending := v } = g x) (b : Block) (k : Nat) : HubSame g b (b.ibi k) := by
  obtain h | h := b.ibi_cases k
  · rw [h]
    exact .refl b
  · rw [h]
    exact HubSame.modHub (.refl b) fun x => hi x _

theorem setFaultN_hub {α : Type} {g : Hub → α} (hi : ∀ (x : Hub) v, g { x with ibiPending := v } = g x) (b : Block) (v : Bool) :
    HubSame g b (b.setFaultN v) := by
  unfold setFaultN
  refine .ite (.refl b) (TabSame.trans (Keeps.hubSame (S := [.regs, .pins]) (by simp) (by decide)) (ibi_hub hi ..))

/-! ### The severe response (R297) -/

/-- The registers of FAULT that a severe declaration writes. -/
def severeFlds : List Fld := [HUB_FAULT.SEVERE_SRC, HUB_FAULT.SEVERE_COUNT, HUB_FAULT.SEVERE_TICK, HUB_FAULT.SEVERE_FIELD, HUB_FAULT.SEVERE_SOURCE,
  HUB_FAULT.FAULT_N_ON, HUB_FAULT.RESTART_PENDING]

/-- A register that no severe declaration writes. -/
abbrev Unsevere (x : Fld) : Prop := (∀ y ∈ severeFlds, y.apart x = true) ∧ x.Fits ∧ x.page ∉ [0x19, 0x1F, 0x4B]

theorem severeResponse_rd (hx : Unsevere x) (b : Block) (now i : Nat) : (b.severeResponse now).rd x i = b.rd x i := by
  unfold severeResponse
  dsimp only
  rw [rd_modPins, rd_wr_apart (hx.1 _ (by simp [severeFlds])), rd_modHub, setFaultN_rd (hx.1 _ (by simp [severeFlds]))]

theorem severeResponse_pins (b : Block) (now : Nat) : (b.severeResponse now).pins = { b.pins with faultN := true, jobRestartReq := true } := by
  show ({ (((b.setFaultN true).modHub _).wr HUB_FAULT.RESTART_PENDING 0 1).pins with jobRestartReq := true } : Pins) = _
  rw [(wr_keeps ..).pins (by decide), (modHub_keeps ..).pins (by decide), setFaultN_pins]

theorem severeResponse_halt (b : Block) (now : Nat) :
    (b.severeResponse now).hub.haltWanted = some (if b.hub.haltWanted = some 4 then 4 else 3) := by
  have hwanted : (b.setFaultN true).hub.haltWanted = b.hub.haltWanted := (setFaultN_hub (g := Hub.haltWanted) (fun _ _ => rfl) b true).eq
  unfold severeResponse
  dsimp only
  rw [(modPins_keeps ..).hub (by decide), (wr_keeps ..).hub (by decide)]
  show (if (b.setFaultN true).hub.haltWanted = some 4 then some 4 else some 3) = _
  rw [hwanted]
  split <;> rfl

/-- A severe declaration in the registers, with its response. -/
def severeShown (b : Block) (now st src fld : Nat) : Block :=
  (((((b.setFlag HUB_FAULT.SEVERE_SRC 0 src true).inc HUB_FAULT.SEVERE_COUNT 0).wr HUB_FAULT.SEVERE_TICK 0 now).wr HUB_FAULT.SEVERE_FIELD 0 fld).wr
    HUB_FAULT.SEVERE_SOURCE 0 src).cond (st != colSevere) (fun b => b.severeResponse now)

/-- The triggers of a severe declaration. -/
def severeTriggered (b : Block) (now off fld : Nat) : Block := b.cond (b.bit HUB_TRACE.TRIG_ON_SEVERE 0)
  (fun b => (b.each allBufs (fun b k => b.trigger now off k 3 0 0 (min fld 0x7F))).hubTrigger now)

theorem declareSevere_eq (b : Block) (now off st src fld : Nat) : b.declareSevere now off st src fld =
    ((b.severeShown now st src fld).severeTriggered now off fld).monEvent now off 0x20 (faultSource fld)
      ([src, fld] ++ leBytes 4 (((b.severeShown now st src fld).severeTriggered now off fld).rd HUB_FAULT.SEVERE_SRC 0)) := rfl

theorem severeShown_rd (hx : Unsevere x) (b : Block) (now st src fld i : Nat) : (b.severeShown now st src fld).rd x i = b.rd x i := by
  unfold severeShown
  rw [rd_cond fun c => severeResponse_rd hx c now i, rd_wr_apart (hx.1 _ (by simp [severeFlds])), rd_wr_apart (hx.1 _ (by simp [severeFlds])),
    rd_wr_apart (hx.1 _ (by simp [severeFlds])), rd_inc_apart (hx.1 _ (by simp [severeFlds])), rd_setFlag_apart (hx.1 _ (by simp [severeFlds]))]

theorem severeTriggered_keeps (b : Block) (now off fld : Nat) : b.Keeps [.regs, .traces] (b.severeTriggered now off fld) := by
  unfold severeTriggered
  simp (maxDischargeDepth := 5)

theorem severeTriggered_regsOff (b : Block) (now off fld : Nat) : RegsOff [0x1F, 0x4B] b (b.severeTriggered now off fld) := by
  refine (regsOff_cond fun c => ?_).2 (.refl ..)
  refine (regsOff_wr (by decide) ..).2 ((regsOff_wr (by decide) ..).2 ((regsOff_each fun d k => ?_).2 (.refl ..)))
  exact (regsOff_cond fun e => (regsOff_triggerOn (List.Subset.refl _) ..).2 (.refl ..)).2 (.refl ..)

theorem declareSevere_rd (hx : Unsevere x) (b : Block) (now off st src fld i : Nat) : (b.declareSevere now off st src fld).rd x i = b.rd x i := by
  have hoff : RegsOff [0x19, 0x1F, 0x4B] (b.severeShown now st src fld) (b.declareSevere now off st src fld) := by
    rw [declareSevere_eq]
    exact (regsOff_monEvent (by decide) ..).2 ((severeTriggered_regsOff ..).mono (by decide))
  rw [hoff.rd hx.2, severeShown_rd hx]

theorem declareSevere_keeps (b : Block) (now off st src fld : Nat) :
    (b.severeShown now st src fld).Keeps [.regs, .traces, .mon] (b.declareSevere now off st src fld) := by
  rw [declareSevere_eq]
  exact ((severeTriggered_keeps ..).mono (by decide)).trans ((monEvent_keeps ..).mono (by decide))

/-- A severe declaration outside SEVERE, in the pins and in the halt asked for. -/
theorem declareSevere_response (hst : st ≠ 2) (b : Block) (now off src fld : Nat) :
    (b.declareSevere now off st src fld).pins = { b.pins with faultN := true, jobRestartReq := true } ∧
      (b.declareSevere now off st src fld).hub.haltWanted = some (if b.hub.haltWanted = some 4 then 4 else 3) := by
  have hshown (c : Block) : c.Keeps [.regs] (((((c.setFlag HUB_FAULT.SEVERE_SRC 0 src true).inc HUB_FAULT.SEVERE_COUNT 0).wr HUB_FAULT.SEVERE_TICK 0 now).wr
      HUB_FAULT.SEVERE_FIELD 0 fld).wr HUB_FAULT.SEVERE_SOURCE 0 src) := by simp
  have hsevere : (st != colSevere) = true := bne_iff_ne.2 hst
  rw [(declareSevere_keeps ..).pins (by decide), (declareSevere_keeps ..).hub (by decide), severeShown, cond_of_true hsevere, severeResponse_pins,
    severeResponse_halt, (hshown b).pins (by decide), (hshown b).hub (by decide)]
  exact ⟨rfl, rfl⟩

/-! ### One event (R292) -/

/-- The ticks kept of a source's events, this one among them. -/
def eventTicks (b : Block) (now src : Nat) : List Nat :=
  (mget [] b.hub.events src ++ [now]).drop ((mget [] b.hub.events src ++ [now]).length - 16)

/-- The class of an event. -/
def eventClass (b : Block) (now src detail : Nat) : Nat :=
  b.classify src detail ((b.eventTicks now src).filter (fun t => decide (now < t + b.window src))).length

/-- An event in the collector's registers. -/
def eventShown (b : Block) (src after : Nat) : Block :=
  ((b.setFlag HUB_FAULT.FAULT_STATUS 0 src true).inc (HUB_FAULT.EVT_COUNT src) 0).wr HUB_FAULT.STATE 0 after

/-- An event counted in the hub and recorded, before it is severe. -/
def eventNoted (b : Block) (now off src fld detail : Nat) : Block :=
  let cls := b.eventClass now src detail
  let after := stateAfter b.collector cls
  let all := b.eventTicks now src
  let st := b.collector
  let b := (b.eventShown src after).modHub (fun h => { h with
    events := mput [] h.events src (if cls = 0 then all else []), latest := mput 0 h.latest src now
    quietFrom := if st = colRecovering then now else h.quietFrom })
  let b := b.history now off src fld cls after detail
  let b := b.monEvent now off src (faultSource fld) (leBytes 2 detail ++ [cls, after, fld])
  b.cond (cls != 0 || b.bit HUB_FAULT.IRQ_MINOR_EN 0) (fun b => b.wr HUB_STATE.FAULT 0 1)

theorem collect_eq (b : Block) (now off src fld detail : Nat) : b.collect now off src fld detail =
    (b.eventNoted now off src fld detail).cond (b.eventClass now src detail != 0)
      (fun c => c.declareSevere now off b.collector src fld) := rfl

/-- A register that noting an event leaves as `eventShown` left it. -/
abbrev Uncollected (x : Fld) : Prop := HUB_FAULT.HIST_SEQ.apart x = true ∧ HUB_STATE.FAULT.apart x = true ∧ Unsevere x

theorem collect_rd (hx : Uncollected x) (b : Block) (now off src fld detail i : Nat) : (b.collect now off src fld detail).rd x i =
    (b.eventShown src (stateAfter b.collector (b.eventClass now src detail))).rd x i := by
  obtain ⟨hhist, hirq, hsevere⟩ := hx
  have hmon (c : Block) (e source : Nat) (data : List Nat) : (c.monEvent now off e source data).rd x i = c.rd x i := by
    refine ((regsOff_monEvent (P := [0x19]) (by decide) ..).2 (.refl ..)).rd ⟨hsevere.2.1, fun h => hsevere.2.2 ?_⟩ i
    simp only [List.mem_singleton] at h
    simp [h]
  rw [collect_eq, rd_cond fun c => declareSevere_rd hsevere c now off _ src fld i]
  unfold eventNoted
  dsimp only
  rw [rd_cond fun c => rd_wr_apart hirq .., hmon, history, rd_modHub, rd_wr_apart hhist, rd_modHub]

theorem eventNoted_keeps (b : Block) (now off src fld detail : Nat) : b.Keeps [.regs, .mon, .hub] (b.eventNoted now off src fld detail) := by
  unfold eventNoted eventShown
  simp

theorem eventNoted_halt (b : Block) (now off src fld detail : Nat) : (b.eventNoted now off src fld detail).hub.haltWanted = b.hub.haltWanted := by
  have hregs (c : Block) (q : Bool) : c.Keeps [.regs] (c.cond q (fun c => c.wr HUB_STATE.FAULT 0 1)) := by simp
  unfold eventNoted
  dsimp only
  rw [(hregs ..).hub (by decide), (monEvent_keeps ..).hub (by decide)]
  unfold history
  dsimp only
  show (Block.hub (Block.wr _ HUB_FAULT.HIST_SEQ 0 _)).haltWanted = _
  rw [(wr_keeps ..).hub (by decide)]
  show (b.eventShown src _).hub.haltWanted = _
  rw [eventShown, (wr_keeps ..).hub (by decide), (inc_keeps ..).hub (by decide), (setFlag_keeps ..).hub (by decide)]

/-! ### What an event leaves (R292 to R299) -/

theorem stateAfter_minor (st : Nat) : stateAfter st 0 = if st = 0 then 1 else st := by
  rfl

theorem stateAfter_severe {cls : Nat} (h : cls ≠ 0) (st : Nat) : stateAfter st cls = if st = 4 then 4 else 2 := if_pos h

/-- The registers of FAULT that every event writes are written by no later part of it. -/
theorem eventCount_uncollected : ∀ src < 32, Uncollected (HUB_FAULT.EVT_COUNT src) := by decide

theorem eventShown_flag (hsrc : src < 32) (b : Block) (after : Nat) : (b.eventShown src after).flag HUB_FAULT.FAULT_STATUS 0 src = true := by
  have happ : ∀ src < 32, (HUB_FAULT.EVT_COUNT src).apart HUB_FAULT.FAULT_STATUS = true := by decide
  have hset : (b.setFlag HUB_FAULT.FAULT_STATUS 0 src true).flag HUB_FAULT.FAULT_STATUS 0 src = true := by
    rw [flag_setFlag_true hsrc, decide_eq_true rfl, Bool.or_true]
  rw [flag, eventShown, rd_wr_apart (by decide), rd_inc_apart (happ src hsrc)]
  exact hset

theorem eventShown_count (hsrc : src < 32) (b : Block) (after : Nat) : (b.eventShown src after).rd (HUB_FAULT.EVT_COUNT src) 0 =
    (b.rd (HUB_FAULT.EVT_COUNT src) 0 + 1) % 2 ^ (HUB_FAULT.EVT_COUNT src).width := by
  have happ : ∀ src < 32, HUB_FAULT.STATE.apart (HUB_FAULT.EVT_COUNT src) = true ∧ HUB_FAULT.FAULT_STATUS.apart (HUB_FAULT.EVT_COUNT src) = true := by
    decide
  rw [eventShown, rd_wr_apart (happ src hsrc).1, rd_inc_same, rd_setFlag_apart (happ src hsrc).2]

theorem stateAfter_lt (b : Block) (cls : Nat) : stateAfter b.collector cls < 2 ^ HUB_FAULT.STATE.width := by
  have hlt := b.rd_lt HUB_FAULT.STATE 0
  unfold stateAfter
  split
  · split <;> decide
  · split
    · decide
    · exact hlt

theorem eventShown_collector (b : Block) (src cls : Nat) : (b.eventShown src (stateAfter b.collector cls)).collector = stateAfter b.collector cls := by
  rw [collector, eventShown, rd_wr_same]
  exact Nat.mod_eq_of_lt (stateAfter_lt ..)

theorem collect_collector (b : Block) (now off src fld detail : Nat) :
    (b.collect now off src fld detail).collector = stateAfter b.collector (b.eventClass now src detail) := by
  rw [collector, collect_rd (by decide), ← collector, eventShown_collector]

theorem collect_keeps (b : Block) (now off src fld detail : Nat) :
    b.Keeps [.regs, .traces, .mon, .hub, .pins] (b.collect now off src fld detail) := by simp

/-- A minor event asks for nothing. -/
theorem collect_minor (h : b.eventClass now src detail = 0) (off fld : Nat) :
    (b.collect now off src fld detail).hub.haltWanted = b.hub.haltWanted ∧ (b.collect now off src fld detail).pins = b.pins := by
  rw [collect_eq, cond_of_false (by rw [h]; rfl), eventNoted_halt, (eventNoted_keeps ..).pins (by decide)]
  exact ⟨rfl, rfl⟩

/-- A severe event outside SEVERE asks for a halt and for a restart of the job. -/
theorem collect_severe (h : b.eventClass now src detail ≠ 0) (hst : b.collector ≠ 2) (off fld : Nat) :
    (b.collect now off src fld detail).pins = { b.pins with faultN := true, jobRestartReq := true } ∧
      (b.collect now off src fld detail).hub.haltWanted = some (if b.hub.haltWanted = some 4 then 4 else 3) := by
  rw [collect_eq, cond_of_true (bne_iff_ne.2 h)]
  obtain ⟨hpins, hwanted⟩ := declareSevere_response hst (b.eventNoted now off src fld detail) now off src fld
  rw [hpins, hwanted, eventNoted_halt, (eventNoted_keeps ..).pins (by decide)]
  exact ⟨rfl, rfl⟩


theorem eventClass_of_keeps {S : List Part} (h : b.Keeps S c) (hregs : .regs ∉ S) (hhub : .hub ∉ S) (now src detail : Nat) :
    c.eventClass now src detail = b.eventClass now src detail := by
  rw [eventClass, eventClass, eventTicks, eventTicks, h.hub hhub, window, window, classify, classify, h.rd hregs, h.rd hregs]

theorem eventClass_first (h : severeAtFirst src detail = true) (b : Block) (now : Nat) : b.eventClass now src detail = 1 := if_pos h

theorem eventClass_never (h : severeAtFirst src detail = false) (hnever : neverSevere.contains src = true) (b : Block) (now : Nat) :
    b.eventClass now src detail = 0 := by
  rw [eventClass, classify, h, if_neg Bool.false_ne_true, if_pos hnever]

theorem eventClass_counted (h : severeAtFirst src detail = false) (hnever : neverSevere.contains src = false) (b : Block) (now : Nat) :
    b.eventClass now src detail = if b.rd (HUB_FAULT.N src) 0 ≤ ((b.eventTicks now src).filter (fun t => decide (now < t + b.window src))).length then 2
      else 0 := by
  rw [eventClass, classify, h, if_neg Bool.false_ne_true, hnever, if_neg Bool.false_ne_true]

/-- A fault word that arrives leaves its link, or is counted by its field. -/
def faultArrived (b : Block) (src fld detail : Nat) : Block :=
  let same (w : FaultWord) : Bool := w.src == src && w.field == fld && w.detail == detail
  if b.faults.any same then { b with faults := b.faults.eraseP same }
  else b.cond (decide (fld < 84)) (fun b => b.modFu fld (fun u => { u with faultNow := mmod 0 u.faultNow src (· + 1) }))

theorem faultArrived_keeps (b : Block) (src fld detail : Nat) : b.Keeps [.fields, .faults] (b.faultArrived src fld detail) := by
  unfold faultArrived
  dsimp only
  split
  · exact ⟨fun p hp => by cases p <;> simp_all [Part.SameIn]⟩
  · simp

/-! ### Recovery (R296, R300 to R302) -/

theorem endEpisode_rd (hstate : HUB_FAULT.STATE.apart x = true) (hsevere : HUB_FAULT.SEVERE_SRC.apart x = true)
    (hpin : HUB_FAULT.FAULT_N_ON.apart x = true) (b : Block) (i : Nat) : b.endEpisode.rd x i = b.rd x i := by
  unfold endEpisode
  dsimp only
  rw [setFaultN_rd hpin, rd_wr_apart hsevere, rd_wr_apart hstate]

theorem endEpisode_collector (b : Block) : b.endEpisode.collector = if b.rd HUB_FAULT.FAULT_STATUS 0 = 0 then 0 else 1 := by
  unfold endEpisode
  dsimp only
  rw [collector, setFaultN_rd (by decide), rd_wr_apart (by decide), rd_wr_same]
  split <;> rfl

theorem endEpisode_severe (b : Block) : b.endEpisode.rd HUB_FAULT.SEVERE_SRC 0 = 0 := by
  unfold endEpisode
  dsimp only
  rw [setFaultN_rd (by decide), rd_wr_same]
  rfl

theorem endEpisode_pins (b : Block) : b.endEpisode.pins = { b.pins with faultN := false } := by
  unfold endEpisode
  dsimp only
  rw [setFaultN_pins, (wr_keeps ..).pins (by decide), (wr_keeps ..).pins (by decide)]

theorem endEpisode_hub {α : Type} {g : Hub → α} (hi : ∀ (x : Hub) v, g { x with ibiPending := v } = g x) (b : Block) : HubSame g b b.endEpisode := by
  unfold endEpisode
  exact TabSame.trans (Keeps.hubSame (S := [.regs]) (by simp) (by decide)) (setFaultN_hub hi ..)

theorem endEpisode_keeps (b : Block) : b.Keeps [.regs, .hub, .pins] b.endEpisode := by
  unfold endEpisode
  simp

/-- The bits whose window has passed, cleared. -/
def lapsedCleared (b : Block) (now : Nat) : Block := b.each (b.lapsed now) (fun b k => b.setFlag HUB_FAULT.FAULT_STATUS 0 k false)

theorem lapsedCleared_keeps (b : Block) (now : Nat) : b.Keeps [.regs] (b.lapsedCleared now) := by
  unfold lapsedCleared
  simp

theorem lapsedCleared_flag (b : Block) (now : Nat) {k : Nat} (hk : k < 32) : (b.lapsedCleared now).flag HUB_FAULT.FAULT_STATUS 0 k =
    (b.flag HUB_FAULT.FAULT_STATUS 0 k && !decide (mget 0 b.hub.latest k + b.window k ≤ now)) := by
  have hlt : ∀ j ∈ b.lapsed now, j < 32 := fun j hj => List.mem_range.1 (List.mem_filter.1 hj).1
  have hclear (j : Nat) (hj : j ∈ b.lapsed now) (c : Block) : (c.setFlag HUB_FAULT.FAULT_STATUS 0 j false).flag HUB_FAULT.FAULT_STATUS 0 k =
      (c.flag HUB_FAULT.FAULT_STATUS 0 k && !decide (k = j)) := flag_setFlag_false (hlt j hj)
  by_cases hmem : k ∈ b.lapsed now
  · obtain ⟨hset, hpast⟩ := Bool.and_eq_true_iff.1 (List.mem_filter.1 hmem).2
    rw [hset, hpast]
    refine each_reaches_of (p := fun b => b.flag HUB_FAULT.FAULT_STATUS 0 k) (I := fun _ => True) (fun _ _ _ h => h)
      (fun c _ => by simp [hclear k hmem]) (fun j hj c _ => ?_) hmem trivial
    rw [hclear j hj]
    cases decide (k = j) <;> simp
  · have hsame : (b.flag HUB_FAULT.FAULT_STATUS 0 k && decide (mget 0 b.hub.latest k + b.window k ≤ now)) = false :=
      Bool.eq_false_iff.2 fun h => hmem (List.mem_filter.2 ⟨List.mem_range.2 hk, h⟩)
    have hkeep : (b.lapsedCleared now).flag HUB_FAULT.FAULT_STATUS 0 k = b.flag HUB_FAULT.FAULT_STATUS 0 k := by
      refine each_inv (I := fun c => c.flag HUB_FAULT.FAULT_STATUS 0 k = b.flag HUB_FAULT.FAULT_STATUS 0 k) (fun j hj c hc => ?_) rfl
      rw [hclear j hj, hc, decide_eq_false fun h : k = j => hmem (h ▸ hj), Bool.not_false, Bool.and_true]
    rw [hkeep]
    revert hsame
    cases b.flag HUB_FAULT.FAULT_STATUS 0 k <;> simp

/-- A recovery that is counted. -/
def recovered (b : Block) (now : Nat) : Block :=
  let last := b.hub.recoveries
  let b := (b.inc HUB_FAULT.RECOVERY_COUNT 0).modHub (fun h => { h with recoveries := (now :: last).take 9 })
  b.monEvent now 0 0x21 srcHub (leBytes 4 (b.rd HUB_FAULT.RECOVERY_COUNT 0))

theorem recovered_rd (hx : HUB_FAULT.RECOVERY_COUNT.apart x = true ∧ x.Fits ∧ x.page ∉ [0x19]) (b : Block) (now i : Nat) :
    (b.recovered now).rd x i = b.rd x i := by
  unfold recovered
  dsimp only
  rw [((regsOff_monEvent (List.Subset.refl _) ..).2 (.refl ..)).rd hx.2, rd_modHub, rd_inc_apart hx.1]

theorem window_uncounted : ∀ src < 32, HUB_FAULT.RECOVERY_COUNT.apart (HUB_FAULT.WINDOW src) = true ∧ (HUB_FAULT.WINDOW src).Fits ∧
    (HUB_FAULT.WINDOW src).page ∉ [0x19] := by decide

theorem rd_monEvent (hx : x.Fits ∧ x.page ∉ [0x19]) (b : Block) (now off e source : Nat) (data : List Nat) (i : Nat) :
    (b.monEvent now off e source data).rd x i = b.rd x i := ((regsOff_monEvent (List.Subset.refl _) ..).2 (.refl ..)).rd hx i

theorem lapsedCleared_rd (hx : HUB_FAULT.FAULT_STATUS.apart x = true) (b : Block) (now i : Nat) : (b.lapsedCleared now).rd x i = b.rd x i :=
  each_inv (I := fun c => c.rd x i = b.rd x i) (fun _ _ _ hc => (rd_setFlag_apart hx ..).trans hc) rfl

theorem recovered_count (b : Block) (now : Nat) : (b.recovered now).rd HUB_FAULT.RECOVERY_COUNT 0 =
    (b.rd HUB_FAULT.RECOVERY_COUNT 0 + 1) % 2 ^ HUB_FAULT.RECOVERY_COUNT.width := by
  unfold recovered
  dsimp only
  rw [((regsOff_monEvent (List.Subset.refl _) ..).2 (.refl ..)).rd (by decide), rd_modHub, rd_inc_same]

theorem recovered_keeps (b : Block) (now : Nat) : b.Keeps [.regs, .mon, .hub] (b.recovered now) := by
  unfold recovered
  simp

theorem recovered_latest (b : Block) (now : Nat) : (b.recovered now).hub.latest = b.hub.latest := by
  unfold recovered
  dsimp only
  rw [(monEvent_keeps ..).hub (by decide)]
  show (b.inc HUB_FAULT.RECOVERY_COUNT 0).hub.latest = _
  rw [(inc_keeps ..).hub (by decide)]

end Block

section Rows

open Block

variable {s : State}

theorem exec_faultEvent (src : SourceNo) (fld : Option FieldNo) (d : BitVec 16) (sc : ScOff) (s : State) : ∃ k,
    exec (.faultEvent src fld d sc) s = .next { s with b := (s.b.faultArrived src k d.toNat).collect s.tick sc src k d.toNat } := ⟨_, rfl⟩

theorem exec_collectorRecovering {n : Nat} (hsevere : s.b.hub.severeAt = some n) (hn : n < s.tick) (hst : s.b.collector = 2)
    (harrived : s.b.allArrived = true) : exec .collectorRecovering s = .next { s with
      b := ((s.b.wr HUB_FAULT.STATE 0 colRecovering).modHub (fun h => { h with quietFrom := s.tick })).evalMgr s.tick } := by
  show execCollectorRecovering s = _
  unfold execCollectorRecovering onB
  dsimp only
  rw [hsevere]
  exact next_block rfl (cond_of_true (by rw [hst, decide_eq_true hn, harrived]; rfl) _)

theorem exec_collectorRecovering_none (h : s.b.collector ≠ 2) : exec .collectorRecovering s = .next s := by
  have hcol : (s.b.collector == colSevere) = false := beq_eq_false_iff_ne.2 h
  show execCollectorRecovering s = _
  unfold execCollectorRecovering onB
  dsimp only
  split
  · rfl
  · exact next_block rfl (cond_of_false (by rw [hcol]; rfl) _)

section Complete

variable (hst : s.b.collector = 3) (hquiet : s.b.hub.quietFrom + 488281 ≤ s.tick)
include hst hquiet

theorem exec_recoveryComplete_ninth (h : ninthRecovery s.b.hub.recoveries s.tick = true) : exec .recoveryComplete s = .next { s with
    b := ((s.b.recovered s.tick).wr HUB_FAULT.STATE 0 colSticky).monEvent s.tick 0 0x22 srcHub
      (leBytes 4 (((s.b.inc HUB_FAULT.RECOVERY_COUNT 0).modHub (fun h => { h with recoveries := (s.tick :: s.b.hub.recoveries).take 9 })).rd
        HUB_FAULT.RECOVERY_COUNT 0)) } := by
  have hgo : ¬(s.b.collector ≠ colRecovering ∨ s.tick < s.b.hub.quietFrom + quietTicks) := by
    rw [hst]
    simp only [colRecovering, quietTicks]
    omega
  show execRecoveryComplete s = _
  unfold execRecoveryComplete onB
  dsimp only
  rw [if_neg hgo, h, if_pos rfl]
  rfl

theorem exec_recoveryComplete_done (h : ninthRecovery s.b.hub.recoveries s.tick = false) : exec .recoveryComplete s = .next { s with
    b := ((s.b.recovered s.tick).lapsedCleared s.tick).endEpisode } := by
  have hgo : ¬(s.b.collector ≠ colRecovering ∨ s.tick < s.b.hub.quietFrom + quietTicks) := by
    rw [hst]
    simp only [colRecovering, quietTicks]
    omega
  show execRecoveryComplete s = _
  unfold execRecoveryComplete onB
  dsimp only
  rw [if_neg hgo, h, if_neg Bool.false_ne_true]
  rfl

end Complete

theorem exec_recoveryComplete_early (h : s.tick < s.b.hub.quietFrom + 488281) : exec .recoveryComplete s = .next s := by
  show execRecoveryComplete s = _
  unfold execRecoveryComplete onB
  dsimp only
  rw [if_pos (.inr h)]

theorem exec_faultBitExpire {src : SourceNo} (hset : s.b.flag HUB_FAULT.FAULT_STATUS 0 src = true) (hbit : s.b.episodeBit src = false)
    (hpast : mget 0 s.b.hub.latest src + s.b.window src ≤ s.tick) :
    exec (.faultBitExpire src) s = .next { s with b := (s.b.setFlag HUB_FAULT.FAULT_STATUS 0 src false).bitsCleared } :=
  next_block (s := s) rfl (cond_of_true (by rw [hset, hbit, decide_eq_true hpast]; rfl) _)

theorem exec_faultBitExpire_none {src : SourceNo} (h : s.b.flag HUB_FAULT.FAULT_STATUS 0 src = false ∨ s.b.episodeBit src = true) :
    exec (.faultBitExpire src) s = .next s := by
  refine next_block (s := s) rfl (cond_of_false ?_ _)
  rcases h with h | h <;> simp [h]

variable {c : Cmd}

section Clear

variable (h : Passes 0x90 c s)
include h

omit h in
theorem begun_collector : (s.b.begun s.tick 0x90 c).collector = s.b.collector := (begun_regsOff ..).rd (by decide) ..

theorem exec_faultClear (hst : s.b.collector ≤ 1) : exec (.faultClear c) s = .next { s with
    b := ((((s.b.begun s.tick 0x90 c).wr HUB_FAULT.FAULT_STATUS 0 0).modHub (fun h => { h with events := [] })).wr HUB_FAULT.STATE 0 colNormal).done
      s.tick (portNo c.port) [] } := by
  show execFaultClear c s = _
  rw [execFaultClear, h.runCmdB_eq]
  dsimp only
  rw [begun_collector, if_neg (by simp only [colSticky]; omega), if_neg (by simp only [colSevere, colRecovering]; omega)]

theorem exec_faultClear_sticky (hst : s.b.collector = colSticky) : exec (.faultClear c) s = .next { s with
    b := (((s.b.begun s.tick 0x90 c).modHub (fun h => { h with recoveries := [] })).endEpisode.monEvent s.tick c.sc 0x23 srcHub [portNo c.port]).done
      s.tick (portNo c.port) [] } := by
  show execFaultClear c s = _
  rw [execFaultClear, h.runCmdB_eq]
  dsimp only
  rw [begun_collector, if_pos hst]

theorem exec_faultClear_open (hst : s.b.collector = colSevere ∨ s.b.collector = colRecovering) : exec (.faultClear c) s = .next { s with
    b := (s.b.begun s.tick 0x90 c).stop s.tick (portNo c.port) stStateReject (s.b.begun s.tick 0x90 c).mgr } := by
  show execFaultClear c s = _
  rw [execFaultClear, h.runCmdB_eq]
  dsimp only
  rw [begun_collector, if_neg (by simp only [colSticky, colSevere, colRecovering] at hst ⊢; omega), if_pos hst]

end Clear

end Rows

section Events

open Block

variable {b : Block} {now off src fld detail : Nat}

/-- What an event leaves of the collector, by its class. -/
theorem collect_shown (hsrc : src < 32) (b : Block) (now off fld detail : Nat) :
    (b.collect now off src fld detail).flag HUB_FAULT.FAULT_STATUS 0 src = true ∧
    (b.collect now off src fld detail).rd (HUB_FAULT.EVT_COUNT src) 0 = (b.rd (HUB_FAULT.EVT_COUNT src) 0 + 1) % 2 ^ (HUB_FAULT.EVT_COUNT src).width := by
  refine ⟨?_, ?_⟩
  · rw [flag, collect_rd (by decide), ← flag, eventShown_flag hsrc]
  · rw [collect_rd (eventCount_uncollected src hsrc), eventShown_count hsrc]

end Events

open Block in
/-- FAULT_EVENT. -/
theorem faultEvent_collected (src : SourceNo) (fld : Option FieldNo) (d : BitVec 16) (sc : ScOff) (s : State) : ∃ a k,
    s.b.Keeps [.fields, .faults] a ∧ exec (.faultEvent src fld d sc) s = .next { s with b := a.collect s.tick sc src k d.toNat } := by
  obtain ⟨k, hexec⟩ := exec_faultEvent src fld d sc s
  exact ⟨_, k, faultArrived_keeps .., hexec⟩

open Block in
theorem faultClear_normal {c : Cmd} {s : State} (hpass : Passes 0x90 c s) (hroom : s.b.hub.staged.length < 16) (hst : s.b.collector ≤ 1) :
    ∃ t, exec (.faultClear c) s = .next t ∧ InBlock s t ∧ Answered 0x90 stDone c t ∧ t.b.collector = 0 ∧
      t.b.rd HUB_FAULT.FAULT_STATUS 0 = 0 ∧ t.b.hub.events = [] := by
  have hcleared : Taken 0x90 c s.tick ((s.b.begun s.tick 0x90 c).wr HUB_FAULT.FAULT_STATUS 0 0) :=
    (begun_taken 0x90 c s.tick hroom).of_keeps (wr_keeps ..) (by decide) (by decide)
  have hforgot : Taken 0x90 c s.tick
      (((s.b.begun s.tick 0x90 c).wr HUB_FAULT.FAULT_STATUS 0 0).modHub (fun h => { h with events := [] })) :=
    hcleared.of_hubSame (modHub_keeps ..) (by decide) (HubSame.modHub (.refl _) fun _ => rfl)
  have htaken : Taken 0x90 c s.tick _ := hforgot.of_keeps (wr_keeps _ HUB_FAULT.STATE 0 colNormal) (by decide) (by decide)
  have hans := htaken.answered (status := stDone) (detail := 0) (data := []) (by decide) (by decide) (by decide) s
  refine ⟨_, exec_faultClear hpass hst, inBlock_mk .., hans, ?_, ?_, ?_⟩
  · rw [collector, done, answer_rd (by decide), rd_wr_same]
    rfl
  · dsimp only
    rw [done, answer_rd (by decide), rd_wr_apart (by decide), rd_modHub, rd_wr_same]
    rfl
  · dsimp only
    rw [done, htaken.answer_hub (status := stDone) (by decide), (wr_keeps ..).hub (by decide)]
    rfl

open Block in
theorem faultClear_sticky {c : Cmd} {s : State} (hpass : Passes 0x90 c s) (hroom : s.b.hub.staged.length < 16) (hst : s.b.collector = 4) :
    ∃ t, exec (.faultClear c) s = .next t ∧ InBlock s t ∧ Answered 0x90 stDone c t ∧ t.b.hub.recoveries = [] ∧
      t.b.collector = (if s.b.rd HUB_FAULT.FAULT_STATUS 0 = 0 then 0 else 1) ∧ t.b.pins.faultN = false := by
  have hforgot : Taken 0x90 c s.tick ((s.b.begun s.tick 0x90 c).modHub (fun h => { h with recoveries := [] })) :=
    (begun_taken 0x90 c s.tick hroom).of_hubSame (modHub_keeps ..) (by decide) ⟨fun _ => rfl⟩
  have hended := hforgot.of_hubSame (endEpisode_keeps _) (by decide) (endEpisode_hub (g := Hub.staged) (fun _ _ => rfl) _)
  have htaken : Taken 0x90 c s.tick _ := hended.of_keeps (monEvent_keeps _ s.tick c.sc 0x23 srcHub [portNo c.port]) (by decide) (by decide)
  have hhub := congrArg Hub.recoveries (htaken.answer_hub (status := stDone) (by decide) s.tick 0 [])
  refine ⟨_, exec_faultClear_sticky hpass hst, inBlock_mk .., htaken.answered (by decide) (by decide) (by decide) s, hhub.trans ?_, ?_, ?_⟩
  · dsimp only
    rw [(monEvent_keeps ..).hub (by decide), (endEpisode_hub (g := Hub.recoveries) (fun _ _ => rfl) _).eq]
    rfl
  · rw [collector, done, answer_rd (by decide), rd_monEvent (by decide), ← collector, endEpisode_collector, rd_modHub, (begun_regsOff ..).rd (by decide)]
  · dsimp only
    rw [done, (answer_keeps ..).pins (by decide), (monEvent_keeps ..).pins (by decide), endEpisode_pins]

open Block in
theorem faultClear_open {c : Cmd} {s : State} (hpass : Passes 0x90 c s) (hroom : s.b.hub.staged.length < 16)
    (hst : s.b.collector = 2 ∨ s.b.collector = 3) :
    ∃ t, exec (.faultClear c) s = .next t ∧ InBlock s t ∧ Answered 0x90 stStateReject c t ∧ t.b.collector = s.b.collector ∧
      t.b.rd HUB_FAULT.FAULT_STATUS 0 = s.b.rd HUB_FAULT.FAULT_STATUS 0 := by
  refine ⟨_, exec_faultClear_open hpass hst, inBlock_mk .., (begun_taken 0x90 c s.tick hroom).answered (by decide) (by decide) (by decide) s, ?_, ?_⟩
  · rw [collector, stop, answer_rd (by decide)]
    exact begun_collector
  · dsimp only
    rw [stop, answer_rd (by decide), (begun_regsOff ..).rd (by decide)]

open Block in
/-- Settles O54. -/
theorem faultCollector : Obligations.FaultCollector := by
  unfold Obligations.FaultCollector
  refine ⟨fun src fld d sc s => ?_, fun n s hsevere hn hst harrived => ?_, fun s h => exec_collectorRecovering_none h, fun s hst hquiet => ?_,
    fun s h => exec_recoveryComplete_early h, fun src s hset hbit hpast => ?_, fun src s h => exec_faultBitExpire_none h,
    fun c s hpass hroom => ⟨faultClear_normal hpass hroom, faultClear_sticky hpass hroom, faultClear_open hpass hroom⟩, fun sc s h => ?_, fun sc s h => ?_, fun s => rfl, fun w sc s => ?_⟩
  · obtain ⟨a, k, ha, hexec⟩ := faultEvent_collected src fld d sc s
    have hclass := eventClass_of_keeps ha (by decide) (by decide) s.tick src d.toNat
    have hcol : a.collector = s.b.collector := ha.rd (by decide) ..
    have hkeeps := collect_keeps a s.tick sc src k d.toNat
    obtain ⟨hflag, hcount⟩ := collect_shown src.isLt a s.tick sc k d.toNat
    have hafter := collect_collector a s.tick sc src k d.toNat
    rw [hclass, hcol] at hafter
    refine ⟨_, hexec, inBlock_mk .., ?_, ?_, hflag, ?_, fun hfirst => ?_, fun hfirst hst => ?_, fun hfirst hnever => ?_,
      fun l n hl hn hfirst hnever => ⟨fun hle => ?_, fun hlt => ?_⟩⟩
    · dsimp only
      rw [hkeeps.same .agents (by decide), ha.same .agents (by decide)]
    · dsimp only
      rw [hkeeps.same .slots (by decide), ha.same .slots (by decide)]
    · dsimp only
      rw [hcount, ha.rd (by decide)]
    · dsimp only
      rw [hafter, eventClass_first hfirst]
      rfl
    · have hne : a.eventClass s.tick src d.toNat ≠ 0 := by
        rw [eventClass_first hfirst]
        decide
      obtain ⟨hpins, hwanted⟩ := collect_severe hne (by rwa [hcol]) sc k
      dsimp only
      rw [hpins, hwanted, ha.hub (by decide)]
      exact ⟨rfl, rfl, rfl⟩
    · have hzero := eventClass_never hfirst hnever s.b s.tick
      obtain ⟨hwanted, hpins⟩ := collect_minor (hclass.trans hzero) sc k
      dsimp only
      rw [hafter, hzero, hwanted, hpins, ha.hub (by decide), ha.pins (by decide)]
      exact ⟨rfl, rfl, rfl⟩
    · subst hl hn
      dsimp only
      rw [hafter, eventClass_counted hfirst hnever, eventTicks, if_pos hle]
      rfl
    · subst hl hn
      dsimp only
      rw [hafter, eventClass_counted hfirst hnever, eventTicks, if_neg (by exact Nat.not_le_of_lt hlt)]
      rfl
  · refine ⟨_, exec_collectorRecovering hsevere hn hst harrived, Keeps.withBlock_eq_graft (S := [.regs, .hub]) (by simp), ?_, ?_⟩
    · rw [collector, (evalMgr_regsOff ..).rd (by decide), rd_modHub]
      exact rd_wr_same ..
    · dsimp only
      rw [(evalMgr_keeps ..).hub (by decide)]
      rfl
  · have hkeeps := recovered_keeps s.b s.tick
    have hclear := lapsedCleared_keeps (s.b.recovered s.tick) s.tick
    cases hninth : ninthRecovery s.b.hub.recoveries s.tick
    · refine ⟨_, exec_recoveryComplete_done hst hquiet hninth, inBlock_mk .., ?_, ?_, ?_, ?_, ?_, fun src => ?_⟩
      · dsimp only
        rw [(endEpisode_keeps ..).same .agents (by decide), hclear.same .agents (by decide), hkeeps.same .agents (by decide)]
      · dsimp only
        rw [endEpisode_rd (by decide) (by decide) (by decide), lapsedCleared_rd (by decide), recovered_count]
      · dsimp only
        rw [endEpisode_collector, endEpisode_rd (by decide) (by decide) (by decide)]
      · dsimp only
        rw [endEpisode_pins]
      · exact endEpisode_severe ..
      · dsimp only
        rw [flag, endEpisode_rd (by decide) (by decide) (by decide), ← flag, lapsedCleared_flag _ _ src.isLt, recovered_latest, window,
          recovered_rd (window_uncounted src src.isLt), flag, recovered_rd (by decide)]
        rfl
    · refine ⟨_, exec_recoveryComplete_ninth hst hquiet hninth, inBlock_mk .., ?_, ?_, ?_, ?_⟩
      · dsimp only
        rw [(monEvent_keeps ..).same .agents (by decide), (wr_keeps ..).same .agents (by decide), hkeeps.same .agents (by decide)]
      · dsimp only
        rw [rd_monEvent (by decide), rd_wr_apart (by decide), recovered_count]
      · dsimp only
        rw [collector, rd_monEvent (by decide), rd_wr_same]
        rfl
      · dsimp only
        rw [(monEvent_keeps ..).pins (by decide), (wr_keeps ..).pins (by decide), hkeeps.pins (by decide)]
  · have hclear : RegsBut [HUB_FAULT.FAULT_STATUS.key 0, HUB_FAULT.STATE.key 0] s.b (s.b.setFlag HUB_FAULT.FAULT_STATUS 0 src false) :=
      (regsBut_wr (by simp) _).2 (RegsBut.refl _ _)
    refine ⟨_, exec_faultBitExpire hset hbit hpast, ⟨Keeps.withBlock_eq_graft (S := [.regs]) (by unfold bitsCleared; simp), ?_⟩, ?_⟩
    · dsimp only
      unfold bitsCleared Block.cond
      split
      · exact (regsBut_wr (by simp) _).2 hclear
      · exact hclear
    · dsimp only
      rw [flag_bitsCleared, flag_setFlag_false src.isLt, decide_eq_true rfl, Bool.not_true, Bool.and_false]
  · refine next_block (s := s) rfl ((cond_of_true (by rw [h]; rfl) _).trans ?_)
    rfl
  · exact next_block (s := s) rfl (cond_of_false (by rw [h]; rfl) _)
  · cases w <;> rfl

end Sys2Proof.Machine
end

section
/-!
SUPPORT. The monument flash: what programs and erases that start or wait leave of its records, and the end of each.
-/

namespace Sys2Proof.Machine

open Sys2Proof

namespace Monument

variable {α : Type} {g : Monument → α}

/-- What `g` reads of the monument is no queue, no program or erase under way, and no bucket of tokens. -/
abbrev Stored (g : Monument → α) : Prop := ∀ (m : Monument) queue busy erasing suspended erases seqNo tokens wafer suppressed,
  g { m with
    queue := queue, busy := busy, erasing := erasing, suspended := suspended, eraseQueue := erases, hdrSeq := seqNo
    tokens := tokens, waferTokens := wafer, suppressed := suppressed } = g m

variable (hg : Stored g)
include hg

theorem wantErase_stored (m : Monument) (k : Nat) : g (m.wantErase k) = g m := by
  unfold wantErase
  split
  · rfl
  · exact hg m m.queue m.busy m.erasing m.suspended _ m.hdrSeq m.tokens m.waferTokens m.suppressed

theorem keepAhead_stored (m : Monument) : g m.keepAhead = g m := by
  unfold keepAhead
  split
  · exact wantErase_stored hg ..
  · rfl

end Monument

namespace Block

variable {α : Type} {g : Monument → α} {b c : Block} {now off : Nat}

/-- From block `a` to block `b` what `g` reads of the monument is as before. -/
abbrev MonSame (g : Monument → α) (a b : Block) : Prop := TabSame (fun b _ => b.mon) g a b

theorem MonSame.eq (h : MonSame g b c) : g c.mon = g b.mon := h.same 0

theorem Keeps.monSame {S : List Part} (h : b.Keeps S c) (hS : .mon ∉ S) : MonSame g b c := .of_eq fun _ => h.mon hS

section Starts

variable (hg : Monument.Stored g)
include hg

theorem monStart_same (b : Block) : MonSame g b b.monStart := by
  refine ⟨fun _ => ?_⟩
  unfold monStart
  dsimp only
  split
  · rfl
  · split
    · exact hg b.mon _ _ b.mon.erasing b.mon.suspended b.mon.eraseQueue b.mon.hdrSeq b.mon.tokens b.mon.waferTokens b.mon.suppressed
    · split
      · rfl
      · split
        · rfl
        · exact hg b.mon b.mon.queue b.mon.busy _ b.mon.suspended _ b.mon.hdrSeq b.mon.tokens b.mon.waferTokens b.mon.suppressed

theorem monNext_same (b : Block) : MonSame g b b.monNext := by
  have hresume : MonSame g b b.resumeErase := by
    unfold resumeErase
    refine .cond (.refl b) fun c => ⟨fun _ => ?_⟩
    exact hg c.mon c.mon.queue c.mon.busy c.mon.erasing false c.mon.eraseQueue c.mon.hdrSeq c.mon.tokens c.mon.waferTokens c.mon.suppressed
  exact hresume.trans (monStart_same hg _)

theorem monQueue_same (b : Block) (front : Bool) (r : MonRec) : MonSame g b (b.monQueue front r) := by
  refine TabSame.trans ⟨fun _ => ?_⟩ (monStart_same hg _)
  exact hg b.mon _ b.mon.busy b.mon.erasing b.mon.suspended b.mon.eraseQueue b.mon.hdrSeq b.mon.tokens b.mon.waferTokens b.mon.suppressed

theorem headerWrite_same (b : Block) (now : Nat) : MonSame g b (b.headerWrite now) := by
  refine TabSame.trans ⟨fun _ => ?_⟩ (monQueue_same hg ..)
  exact hg b.mon b.mon.queue b.mon.busy b.mon.erasing b.mon.suspended b.mon.eraseQueue _ b.mon.tokens b.mon.waferTokens b.mon.suppressed

theorem monEventAt_same (b : Block) (front : Bool) (now off e source : Nat) (data : List Nat) :
    MonSame g b (b.monEventAt front now off e source data) := by
  have hinc (c : Block) (x : Fld) : MonSame g c (c.inc x 0) := (inc_keeps ..).monSame (by decide)
  unfold monEventAt
  dsimp only
  split
  · refine TabSame.trans ⟨fun _ => ?_⟩ (hinc ..)
    exact hg b.mon b.mon.queue b.mon.busy b.mon.erasing b.mon.suspended b.mon.eraseQueue b.mon.hdrSeq b.mon.tokens b.mon.waferTokens _
  · split
    · exact hinc ..
    · refine TabSame.trans (TabSame.trans ⟨fun _ => ?_⟩ (hinc ..)) (monQueue_same hg ..)
      exact hg b.mon b.mon.queue b.mon.busy b.mon.erasing b.mon.suspended b.mon.eraseQueue b.mon.hdrSeq _ _ _

end Starts

theorem monNext_keeps (b : Block) : b.Keeps [.mon] b.monNext := by simp

/-! ### Programs that end (R312, R316, R317) -/

/-- A program is over. -/
def programOver (b : Block) : Block := b.modMon (fun m => { m with busy := none, retry := false })

/-- The program of an event record is over. -/
def eventStored (b : Block) (r : MonRec) : Block := (b.programOver.modMon (fun m => (m.storeEvent r).keepAhead)).inc HUB_MONUMENT.EVT_WRITTEN 0

theorem storeRecord_event {r : MonRec} (h : r.tier = 3) (b : Block) (now : Nat) : b.programOver.storeRecord now r =
    (b.eventStored r).cond ((b.eventStored r).mon.writePos % 1024 == 0) (fun b => b.headerWrite now) := by
  rw [storeRecord, h]
  rfl

/-- The write position moves alone. -/
theorem advance_same (m : Monument) : m.advance.pool = m.pool ∧ m.advance.busy = m.busy ∧ m.advance.retry = m.retry := by
  unfold Monument.advance
  dsimp only
  split <;> exact ⟨rfl, rfl, rfl⟩

theorem wantErase_busy (m : Monument) (k : Nat) : (m.wantErase k).busy = m.busy := by
  unfold Monument.wantErase
  split <;> rfl

theorem keepAhead_busy (m : Monument) : m.keepAhead.busy = m.busy := by
  unfold Monument.keepAhead
  split
  · exact wantErase_busy ..
  · rfl

/-- The event record as the pool holds it. -/
def eventRecord (m : Monument) (r : MonRec) : MonRec :=
  { r with flags := if m.firstN.length < 1024 then r.flags ||| 1 else r.flags, addr := flashPool + 64 * m.writePos }

theorem eventStored_pool (b : Block) (r : MonRec) : (b.eventStored r).mon.pool = (eventRecord b.mon r :: b.mon.pool).take 8192 := by
  rw [eventStored, (inc_keeps ..).mon (by decide)]
  show (b.programOver.mon.storeEvent r).keepAhead.pool = _
  rw [Monument.keepAhead_stored (g := Monument.pool) (fun _ _ _ _ _ _ _ _ _ _ => rfl), Monument.storeEvent, (advance_same _).1, eventRecord]
  by_cases h : b.mon.firstN.length < 1024
  · rw [show decide (b.programOver.mon.firstN.length < 1024) = true from decide_eq_true h, if_pos h]
    rfl
  · rw [show decide (b.programOver.mon.firstN.length < 1024) = false from decide_eq_false h, if_neg h]
    rfl

theorem eventStored_keeps (b : Block) (r : MonRec) : b.Keeps [.regs, .mon] (b.eventStored r) := by
  unfold eventStored programOver
  simp

theorem headerWritten_keeps (b : Block) (q : Bool) (now : Nat) : b.Keeps [.mon] (b.cond q (fun b => b.headerWrite now)) := by simp

theorem headerWritten_same (hg : Monument.Stored g) (b : Block) (q : Bool) (now : Nat) : MonSame g b (b.cond q (fun b => b.headerWrite now)) :=
  .cond (.refl b) fun c => headerWrite_same hg c now

/-- A mirror entry in its region. -/
theorem storeMirror_same (m : Monument) (r : MonRec) : (m.storeMirror r).mirror = ({ r with addr := flashMirror + 32 * (m.mirrorPos % 512) } :: m.mirror).take 512 ∧
    (m.storeMirror r).pool = m.pool := by
  unfold Monument.storeMirror
  dsimp only
  split
  · rw [Monument.wantErase_stored (g := Monument.mirror) (fun _ _ _ _ _ _ _ _ _ _ => rfl),
      Monument.wantErase_stored (g := Monument.pool) (fun _ _ _ _ _ _ _ _ _ _ => rfl)]
    exact ⟨rfl, rfl⟩
  · exact ⟨rfl, rfl⟩

theorem storeShutdown_same (m : Monument) (r : MonRec) : (m.storeShutdown r).shutdowns =
      ({ (if m.acked then r.acked else r) with addr := flashShutdown + 64 * (m.shutPos % 256) } :: m.shutdowns).take 256 ∧
    (m.storeShutdown r).pool = m.pool := by
  unfold Monument.storeShutdown
  dsimp only
  split
  · rw [Monument.wantErase_stored (g := Monument.shutdowns) (fun _ _ _ _ _ _ _ _ _ _ => rfl),
      Monument.wantErase_stored (g := Monument.pool) (fun _ _ _ _ _ _ _ _ _ _ => rfl)]
    exact ⟨rfl, rfl⟩
  · exact ⟨rfl, rfl⟩

theorem storeLastFault_same (m : Monument) (r : MonRec) : (m.storeLastFault r).lastFaults =
      (r.source, { r with addr := flashFault r.source (mget 0 m.lfPos r.source % 4) }) :: m.lastFaults ∧
    (m.storeLastFault r).pool = m.pool := by
  unfold Monument.storeLastFault
  dsimp only
  rw [Monument.wantErase_stored (g := Monument.lastFaults) (fun _ _ _ _ _ _ _ _ _ _ => rfl),
    Monument.wantErase_stored (g := Monument.pool) (fun _ _ _ _ _ _ _ _ _ _ => rfl)]
  exact ⟨rfl, rfl⟩

/-! ### Programs and erases that fail (R317) -/

theorem norError_keeps (b : Block) (detail : Nat) : b.Keeps [.regs, .fields, .faults] (b.norError detail) := by
  unfold norError
  simp

theorem norError_faults (b : Block) (detail : Nat) : (b.norError detail).faults =
    b.faults ++ [{ src := 2, field := 255, detail := lowBits 16 detail, off := 0 }] := by
  rw [norError, faults_fault, (inc_keeps ..).faults (by decide)]

/-- The monument after a failed program of a record: an event record goes on to the pool's next place. -/
def failMoved (m : Monument) (r : MonRec) : Monument := if r.tier = 3 then m.advance.keepAhead else m

theorem failMoved_same (m : Monument) (r : MonRec) : (failMoved m r).pool = m.pool ∧ (failMoved m r).busy = m.busy ∧ (failMoved m r).retry = m.retry := by
  obtain ⟨hpool, hbusy, hretry⟩ := advance_same m
  unfold failMoved
  split
  · rw [Monument.keepAhead_stored (g := Monument.pool) (fun _ _ _ _ _ _ _ _ _ _ => rfl), keepAhead_busy,
      Monument.keepAhead_stored (g := Monument.retry) (fun _ _ _ _ _ _ _ _ _ _ => rfl)]
    exact ⟨hpool, hbusy, hretry⟩
  · exact ⟨rfl, rfl, rfl⟩

/-- A program that has failed for the first time, before its retry. -/
def programFailed (b : Block) (detail : Nat) (r : MonRec) : Block :=
  ((b.norError detail).modMon (fun m => failMoved m r)).modMon (fun m => { m with retry := true })

theorem programFail_first {r : MonRec} (hbusy : b.mon.busy = some r) (hretry : b.mon.retry = false) (detail : Nat) :
    b.programFail detail = b.programFailed detail r := by
  have hkept : ((b.norError detail).modMon (fun m => failMoved m r)).mon.retry = false := by
    show (failMoved (b.norError detail).mon r).retry = false
    rw [(failMoved_same ..).2.2, (norError_keeps ..).mon (by decide), hretry]
  unfold programFail
  rw [hbusy]
  exact if_neg fun hc => Bool.false_ne_true (hkept.symm.trans hc)

theorem programFailed_mon (b : Block) (detail : Nat) (r : MonRec) : (b.programFailed detail r).mon.busy = b.mon.busy ∧
    (b.programFailed detail r).mon.retry = true ∧ (b.programFailed detail r).mon.pool = b.mon.pool := by
  have hmon : (b.programFailed detail r).mon = { failMoved b.mon r with retry := true } := by
    show ({ failMoved (b.norError detail).mon r with retry := true } : Monument) = _
    rw [(norError_keeps ..).mon (by decide)]
  obtain ⟨hpool, hbusy, -⟩ := failMoved_same b.mon r
  rw [hmon]
  exact ⟨hbusy, rfl, hpool⟩

theorem programFailed_faults (b : Block) (detail : Nat) (r : MonRec) : (b.programFailed detail r).faults =
    b.faults ++ [{ src := 2, field := 255, detail := lowBits 16 detail, off := 0 }] := by
  rw [programFailed, (modMon_keeps ..).faults (by decide), (modMon_keeps ..).faults (by decide), norError_faults]

/-- An erased pool block. -/
theorem erased_pool (m : Monument) (h : m.erasing = 1) : m.erased.ahead = m.ahead + 1 ∧ m.erased.badBlocks = m.badBlocks := by
  unfold Monument.erased
  dsimp only
  rw [if_pos h, Monument.keepAhead_stored (g := Monument.ahead) (fun _ _ _ _ _ _ _ _ _ _ => rfl),
    Monument.keepAhead_stored (g := Monument.badBlocks) (fun _ _ _ _ _ _ _ _ _ _ => rfl)]
  exact ⟨rfl, rfl⟩

/-- The block of a pool erase that has failed is bad. -/
def poolBad (b : Block) (detail : Nat) : Block :=
  ((b.norError detail).modMon (fun m => { m with erasing := 0, suspended := false })).modMon (fun m =>
    ({ m with badBlocks := m.eraseTarget :: m.badBlocks }).keepAhead)

theorem eraseFailed_pool (h : b.mon.erasing = 1) (now detail : Nat) : b.eraseFailed now detail = (b.poolBad detail).headerWrite now := by
  unfold eraseFailed
  dsimp only
  rw [if_pos h]
  rfl

theorem poolBad_mon (b : Block) (detail : Nat) : (b.poolBad detail).mon.badBlocks = b.mon.eraseTarget :: b.mon.badBlocks ∧
    (b.poolBad detail).mon.ahead = b.mon.ahead := by
  have hmon : (b.poolBad detail).mon =
      ({ b.mon with erasing := 0, suspended := false, badBlocks := b.mon.eraseTarget :: b.mon.badBlocks } : Monument).keepAhead := by
    show ({ (b.norError detail).mon with
      erasing := 0, suspended := false, badBlocks := (b.norError detail).mon.eraseTarget :: (b.norError detail).mon.badBlocks } : Monument).keepAhead = _
    rw [(norError_keeps ..).mon (by decide)]
  rw [hmon, Monument.keepAhead_stored (g := Monument.ahead) (fun _ _ _ _ _ _ _ _ _ _ => rfl),
    Monument.keepAhead_stored (g := Monument.badBlocks) (fun _ _ _ _ _ _ _ _ _ _ => rfl)]
  exact ⟨rfl, rfl⟩

theorem poolBad_faults (b : Block) (detail : Nat) : (b.poolBad detail).faults =
    b.faults ++ [{ src := 2, field := 255, detail := lowBits 16 detail, off := 0 }] := by
  rw [poolBad, (modMon_keeps ..).faults (by decide), (modMon_keeps ..).faults (by decide), norError_faults]

/-! ### Suspended erases and tokens (R314, R316, R318) -/

/-- While an erase is suspended only a program may start. -/
theorem monStart_suspended (h : b.mon.suspended = true) (hne : b.mon.erasing ≠ 0) : b.monStart.mon.suspended = true ∧
    b.monStart.mon.erasing = b.mon.erasing ∧ b.monStart.mon.noErase = b.mon.noErase := by
  have hbusy : (b.mon.erasing != 0) = true := bne_iff_ne.2 hne
  unfold monStart
  dsimp only
  split
  · exact ⟨h, rfl, rfl⟩
  · split
    · exact ⟨h, rfl, rfl⟩
    · split
      · exact ⟨h, rfl, rfl⟩
      · rw [hbusy, if_pos (by simp)]
        exact ⟨h, rfl, rfl⟩

/-- The buckets of the event codes, one token fuller. -/
def refilled (tokens : List (Nat × Nat)) : List (Nat × Nat) :=
  (keysOf tokens).foldl (fun t k => mput 8 t k (min 8 (mget 8 t k + 1))) tokens

theorem foldl_refill_other {l : List Nat} {e : Nat} (h : e ∉ l) (t : List (Nat × Nat)) :
    mget 8 (l.foldl (fun t k => mput 8 t k (min 8 (mget 8 t k + 1))) t) e = mget 8 t e := by
  induction l generalizing t with
  | nil => rfl
  | cons k l ih =>
    have hk : e ≠ k := fun hek => h (hek ▸ List.mem_cons_self)
    rw [List.foldl_cons, ih (fun hm => h (List.mem_cons_of_mem k hm)), mget_mput_other hk]

theorem foldl_refill {l : List Nat} (hn : l.Nodup) {e : Nat} (he : e ∈ l) (t : List (Nat × Nat)) :
    mget 8 (l.foldl (fun t k => mput 8 t k (min 8 (mget 8 t k + 1))) t) e = min 8 (mget 8 t e + 1) := by
  induction l generalizing t with
  | nil => cases he
  | cons k l ih =>
    obtain ⟨hk, hl⟩ := List.nodup_cons.1 hn
    rw [List.foldl_cons]
    rcases List.mem_cons.1 he with rfl | he
    · rw [foldl_refill_other hk, mget_mput_same]
    · rw [ih hl he, mget_mput_other fun hek : e = k => hk (hek ▸ he)]

theorem mget_refilled {tokens : List (Nat × Nat)} (hn : (keysOf tokens).Nodup) (e : Nat) :
    mget 8 (refilled tokens) e = min 8 (mget 8 tokens e + 1) := by
  by_cases he : e ∈ keysOf tokens
  · exact foldl_refill hn he tokens
  · rw [refilled, foldl_refill_other he, mget_of_notMem he]
    rfl

end Block

end Sys2Proof.Machine
end

section
/-!
SUPPORT. The rows of the monument flash, and the loss of input power.
-/

namespace Sys2Proof.Machine

open Sys2Proof

open Block in
/-- A command that passes every check and is denied. -/
theorem Passes.runCmd_denied {op : Nat} {c : Cmd} {s : State} (h : Passes op c s) (d : Nat) (body : Nat → State → State) :
    runCmd op c s (some d) body = { s with b := (s.b.begun s.tick op c).stop s.tick (portNo c.port) stDenied d } := by
  have howners : (s.b.submit s.tick (portNo c.port) (flightOf s.tick op c)).downOwner op c = none := h.owners
  have hcheck : (s.b.begun s.tick op c).check op c (some d) = some (stDenied, d) := by
    rw [check, begun_mgr, begun_hub, h.legal]
    rfl
  rw [begun] at hcheck
  simp only [runCmd, h.idle, howners, hcheck]
  rfl

section Monument

open Block

variable {s : State} {r : MonRec}

/-! ### Programs (R312, R317) -/

theorem exec_programDone_idle (h : s.b.mon.busy = none) (ok : Bool) : exec (.monumentProgramDone ok) s = .next s := by
  show execMonumentProgramDone ok s = _
  unfold execMonumentProgramDone onB
  dsimp only
  rw [h]

theorem exec_programDone (h : s.b.mon.busy = some r) : exec (.monumentProgramDone true) s =
    .next { s with b := (s.b.programOver.storeRecord s.tick r).monNext } := by
  show execMonumentProgramDone true s = _
  unfold execMonumentProgramDone onB
  dsimp only
  rw [h]
  rfl

theorem exec_programDone_failed (h : s.b.mon.busy = some r) (hretry : s.b.mon.retry = false) :
    exec (.monumentProgramDone false) s = .next { s with b := s.b.programFailed 1 r } := by
  rw [← programFail_first h hretry]
  show execMonumentProgramDone false s = _
  unfold execMonumentProgramDone onB
  dsimp only
  rw [h]
  rfl

theorem exec_norTimeout_program (h : s.b.mon.busy = some r) (hretry : s.b.mon.retry = false) :
    exec (.norTimeout false) s = .next { s with b := s.b.programFailed 3 r } := by
  rw [← programFail_first h hretry]
  rfl

/-! ### Erases (R313, R316, R317) -/

section Erase

variable (hpool : s.b.mon.erasing = 1) (hsusp : s.b.mon.suspended = false)
include hpool hsusp

theorem exec_eraseDone : exec (.monumentEraseDone true) s =
    .next { s with b := ((s.b.modMon Monument.erased).inc HUB_MONUMENT.ERASES 0).monNext } := by
  show execMonumentEraseDone true s = _
  unfold execMonumentEraseDone onB
  dsimp only
  rw [hpool, hsusp, if_neg (by decide), if_pos rfl]

theorem exec_eraseDone_failed : exec (.monumentEraseDone false) s = .next { s with b := ((s.b.poolBad 2).headerWrite s.tick).monNext } := by
  rw [← eraseFailed_pool hpool]
  show execMonumentEraseDone false s = _
  unfold execMonumentEraseDone onB
  dsimp only
  rw [hpool, hsusp, if_neg (by decide), if_neg Bool.false_ne_true]

theorem exec_norTimeout_erase : exec (.norTimeout true) s = .next { s with b := ((s.b.poolBad 3).headerWrite s.tick).monNext } := by
  rw [← eraseFailed_pool hpool]
  show execNorTimeout true s = _
  unfold execNorTimeout onB
  dsimp only
  rw [hpool, hsusp, if_neg (by decide), if_neg (by decide)]

end Erase

theorem exec_erase_none (h : s.b.mon.erasing = 0) (ok : Bool) :
    exec (.monumentEraseDone ok) s = .next s ∧ exec (.norTimeout true) s = .next s ∧ exec .eraseSuspend s = .next s := by
  refine ⟨?_, ?_, ?_⟩
  · show execMonumentEraseDone ok s = _
    unfold execMonumentEraseDone onB
    dsimp only
    rw [if_pos (.inl h)]
  · show execNorTimeout true s = _
    unfold execNorTimeout onB
    dsimp only
    rw [if_neg (by decide), if_pos (.inl h)]
  · show execEraseSuspend s = _
    unfold execEraseSuspend onB
    dsimp only
    rw [if_pos (.inl h)]

/-- An erase that is suspended. -/
def eraseHeld (b : Block) : Block := b.modMon (fun m => { m with suspended := true, noErase := b.holdup })

theorem exec_eraseSuspend (h : s.b.mon.erasing ≠ 0) (hsusp : s.b.mon.suspended = false) (hwhy : s.b.mon.upperEmpty = false ∨ s.b.holdup = true) :
    exec .eraseSuspend s = .next { s with b := (eraseHeld s.b).monStart } := by
  show execEraseSuspend s = _
  unfold execEraseSuspend onB
  dsimp only
  rw [if_neg]
  · rfl
  · rw [hsusp]
    rcases hwhy with hwhy | hwhy <;> simp [hwhy, h]

/-! ### Tokens (R314) -/

/-- The wafer's bucket, one token fuller. -/
def tokenAdded (b : Block) (now : Nat) : Block := b.modMon (fun m => { m with refillTick := now, waferTokens := min 64 (m.waferTokens + 1) })

theorem exec_tokenRefill (hnow : s.tick % 512 = 0) (hnew : s.b.mon.refillTick ≠ s.tick) : exec .tokenRefill s = .next { s with
    b := (tokenAdded s.b s.tick).cond (s.tick % 1024 == 0) (fun b => b.modMon (fun m => { m with tokens := refilled m.tokens })) } := by
  show execTokenRefill s = _
  unfold execTokenRefill onB
  dsimp only
  rw [if_neg (not_or.2 ⟨not_not.2 hnow, hnew⟩)]
  rfl

theorem exec_tokenRefill_none (h : s.tick % 512 ≠ 0 ∨ s.b.mon.refillTick = s.tick) : exec .tokenRefill s = .next s := by
  show execTokenRefill s = _
  unfold execTokenRefill onB
  dsimp only
  rw [if_pos h]

/-! ### Commands (R312, R319) -/

variable {c : Cmd}

/-- RECORD_READ once its buffer is written. -/
theorem exec_recordRead {x : List MonRec × Nat} (h : Passes 0x88 c s) (hlow : c.arg 0 % 8 ≠ 0) (hhigh : c.arg 0 % 8 ≤ 5)
    (hbuf : s.b.bufCheck c 3 0 = none) (harea : c.area = false)
    (hx : x = takeWhole (min (c.arg 2) (c.bufLen 3 / recSize (c.arg 0 % 8))) ((s.b.mon.region (c.arg 0 % 8)).drop (c.arg 1))) :
    exec (.recordRead c) s = .next { s with
      host := putBytes s.host (c.bufAddr 3) (x.1.flatMap MonRec.bytes)
      b := ((s.b.begun s.tick 0x88 c).crcSkipped (c.arg 0 % 8) x.2).done s.tick (portNo c.port) [x.1.length, x.2] } := by
  subst hx
  show execRecordRead c s = _
  rw [execRecordRead, h.runCmd_eq]
  dsimp only
  rw [if_neg (by omega), bufCheck_begun, hbuf]
  dsimp only
  rw [writeBuf, harea, if_neg Bool.false_ne_true]
  rfl

/-- The first-N region is blank, and the event of it waits. -/
def firstCleared (b : Block) (now off lc : Nat) : Block :=
  (((b.modMon (fun m => { m with firstN := [] })).inc HUB_MONUMENT.ERASES 0).headerWrite now).monEventAt true now off 0x43 srcHub [lc]

theorem exec_firstRegionClear (h : Passes 0x89 c s) (hlc : s.b.nv.lifecycle = 1 ∨ s.b.nv.lifecycle = 3) : exec (.firstRegionClear c) s = .next { s with
    b := (firstCleared (s.b.begun s.tick 0x89 c) s.tick c.sc s.b.nv.lifecycle).done s.tick (portNo c.port) [] } := by
  show execFirstRegionClear c s = _
  unfold execFirstRegionClear
  dsimp only
  rw [if_pos hlc, h.runCmdB_eq]
  rfl

theorem exec_firstRegionClear_denied (h : Passes 0x89 c s) (h1 : s.b.nv.lifecycle ≠ 1) (h3 : s.b.nv.lifecycle ≠ 3) :
    exec (.firstRegionClear c) s = .next { s with
      b := (s.b.begun s.tick 0x89 c).stop s.tick (portNo c.port) stDenied s.b.nv.lifecycle } := by
  have hlc : ¬(s.b.nv.lifecycle = 1 ∨ s.b.nv.lifecycle = 3) := not_or.2 ⟨h1, h3⟩
  show execFirstRegionClear c s = _
  unfold execFirstRegionClear runCmdB
  dsimp only
  rw [if_neg hlc, h.runCmd_denied]

/-! ### Loss of input power (R318, R370, R371) -/

/-- The fields whose pairs start. -/
def startingFields (b : Block) : List Nat := allFields.filter (fun f => (b.rail (railOf f 0)).run == 1)

/-- PWR_FAIL_N is asserted, before the soft starts stop. -/
def powerFailed (b : Block) (now : Nat) : Block :=
  let waiting := b.mon.queue.length + b.mon.busy.isSome.toNat
  ((b.modHub (fun h => { h with pfSince := some now, pfClear := 0, pfPin := true, pfAgain := false })).wr HUB_MONUMENT.HOLDUP_TICK 0 now).monEventAt
    true now 0 0x42 srcHub (leBytes 4 waiting)

theorem powerFailed_keeps (b : Block) (now : Nat) : b.Keeps [.regs, .hub, .mon] (powerFailed b now) := by
  unfold powerFailed
  simp

theorem exec_pwrFailNAssert (h : s.b.holdup = false ∨ s.b.hub.pfAgain = true) : exec .pwrFailNAssert s = .next { s with
    b := (powerFailed s.b s.tick).each (startingFields s.b) (fun b f => b.softStop s.tick f 7) } := by
  have hrails : startingFields (powerFailed s.b s.tick) = startingFields s.b := by
    unfold startingFields
    simp only [(powerFailed_keeps s.b s.tick).rail (by decide)]
  rw [← hrails]
  show execPwrFailNAssert s = _
  unfold execPwrFailNAssert onB
  dsimp only
  rw [if_neg]
  · rfl
  · rcases h with h | h <;> simp [h]

theorem exec_pwrFailNAssert_none (h : s.b.holdup = true) (hagain : s.b.hub.pfAgain = false) : exec .pwrFailNAssert s = .next s := by
  show execPwrFailNAssert s = _
  unfold execPwrFailNAssert onB
  dsimp only
  rw [h, hagain, if_pos (by decide)]

/-- The fields whose pairs regulate. -/
def regulatingFields (b : Block) : List (Fin 84) := (List.finRange 84).filter (fun f : Fin 84 => (b.rail (railOf f 0)).run == 2)

theorem exec_pwrFailStop {n : Nat} (hsince : s.b.hub.pfSince = some n) (hnow : s.tick = n + 1465) (hpin : s.b.hub.pfPin = true)
    (i : Vector LastFaultIn 84) : exec (.pwrFailStop i) s = .next { s with
      b := s.b.each (regulatingFields s.b) (fun b (f : Fin 84) => b.vinStop s.tick f.val (i.get f)) } := by
  show execPwrFailStop i s = _
  unfold execPwrFailStop onB
  dsimp only
  rw [hsince]
  dsimp only
  rw [if_neg (by rw [hpin]; simp [hnow])]
  rfl

theorem exec_pwrFailStop_early {n : Nat} (hsince : s.b.hub.pfSince = some n) (hnow : s.tick ≠ n + 1465) (i : Vector LastFaultIn 84) :
    exec (.pwrFailStop i) s = .next s := by
  show execPwrFailStop i s = _
  unfold execPwrFailStop onB
  dsimp only
  rw [hsince]
  dsimp only
  rw [if_pos (.inl hnow)]

/-- The sequence of a loss of power ends. -/
def powerBack (b : Block) : Block :=
  (b.modHub (fun h => { h with pfSince := none, pfClear := 0, pfAgain := false })).modMon (fun m => { m with
    noErase := false, suspended := m.suspended && !m.noErase })

theorem exec_pwrFailNDeassert (h : s.b.holdup = true) (hclear : 16 ≤ s.b.hub.pfClear) :
    exec .pwrFailNDeassert s = .next { s with b := (powerBack s.b).monNext } := by
  show execPwrFailNDeassert s = _
  unfold execPwrFailNDeassert onB
  dsimp only
  rw [h, decide_eq_false (by omega), if_neg (by decide)]
  rfl

theorem exec_pwrFailNDeassert_none (h : s.b.holdup = false) : exec .pwrFailNDeassert s = .next s := by
  show execPwrFailNDeassert s = _
  unfold execPwrFailNDeassert onB
  dsimp only
  rw [h, if_pos (by rfl)]

end Monument

section Power

open Block

variable {b : Block} {now f : Nat}

theorem startingFields_mem {f : FieldNo} (h : (b.rail (railOf f 0)).run = 1) : f.val ∈ startingFields b :=
  List.mem_filter.2 ⟨fieldNo_mem_allFields f, beq_iff_eq.2 h⟩

theorem startsStopped_keeps (b : Block) (now : Nat) (l : List Nat) : b.Keeps [.regs, .fields, .rails] (b.each l (fun b f => b.softStop now f 7)) := by
  simp

/-- Every field that starts is stopped softly. -/
theorem startsStopped_run {l : List Nat} (hf : f ∈ l) (h : (b.rail (railOf f 0)).run = 1) (now : Nat) :
    ((b.each l (fun b f => b.softStop now f 7)).rail (railOf f 0)).run = 3 := by
  refine each_reaches_of (p := fun c => (c.rail (railOf f 0)).run) (I := Up (railOf f 0)) (g := fun b f => b.softStop now f 7)
    (fun y _ c hc => hc.softStop now y 7) (fun c hc => softStop_stops (by decide) hc now 7) (fun y _ c hc => ?_) hf (.inl h)
  have hstep : ((c.softStop now y 7).rail (railOf f 0)).run = 3 ∨ ((c.softStop now y 7).rail (railOf f 0)).run = (c.rail (railOf f 0)).run := by
    rw [softStop_eq]
    exact softRails_cases (b := c.modFu y (fun u => { u with stopCause := 7, startQueued := false })) hc now y [0, 1]
  exact hstep

theorem regulatingFields_mem {f : FieldNo} (h : (b.rail (railOf f 0)).run = 2) : f ∈ regulatingFields b :=
  List.mem_filter.2 ⟨List.mem_finRange f, beq_iff_eq.2 h⟩

/-- Both rails of a field are off. -/
def PairOff (f : Nat) (b : Block) : Prop := (b.rail (railOf f 0)).run = 0 ∧ (b.rail (railOf f 1)).run = 0

theorem vinStop_rail (b : Block) (now f : Nat) (i : LastFaultIn) (k : Nat) :
    (((b.vinOff now f i).disableDone now f).startRundown now).rail k = ((b.lastFault now f 7 2 0xFF i).pairOff f).rail k := by
  rw [(startRundown_keeps ..).rail (by decide), (disableDone_keeps ..).rail (by decide), vinOff_rail]

theorem vinStop_off (b : Block) (now f : Nat) (i : LastFaultIn) : PairOff f (b.vinStop now f i) := by
  obtain ⟨hcore, hsram⟩ := pairOff_run (b.lastFault now f 7 2 0xFF i) f
  show PairOff f (if !b.pairUp f then b else ((b.vinOff now f i).disableDone now f).startRundown now)
  split
  · next h => simpa [PairOff, pairUp] using h
  · rw [PairOff, vinStop_rail, vinStop_rail]
    exact ⟨hcore, hsram⟩

theorem pairOff_other {k : Nat} (h : k ≠ f) (b : Block) {rl : Nat} (hrl : rl < 2) : (b.pairOff f).rail (railOf k rl) = b.rail (railOf k rl) := by
  have hne (j : Nat) (hj : j < 2) : railOf k rl ≠ railOf f j := by
    unfold railOf
    omega
  show (((b.railOff f 0).railOff f 1).agentsOff f |>.modFu f _).rail (railOf k rl) = _
  rw [(modFu_keeps ..).rail (by decide), (agentsOff_keeps ..).rail (by decide), railOff_rail_other _ (hne 1 (by decide)),
    railOff_rail_other _ (hne 0 (by decide))]

theorem vinStop_other {k : Nat} (h : k ≠ f) (b : Block) (now : Nat) (i : LastFaultIn) {rl : Nat} (hrl : rl < 2) :
    (b.vinStop now f i).rail (railOf k rl) = b.rail (railOf k rl) := by
  show (if !b.pairUp f then b else ((b.vinOff now f i).disableDone now f).startRundown now).rail (railOf k rl) = _
  split
  · rfl
  · rw [vinStop_rail, pairOff_other h _ hrl, (lastFault_keeps ..).rail (by decide)]

/-- Every field that regulates is off. -/
theorem regulatingStopped_off {l : List (Fin 84)} {f : Fin 84} (hf : f ∈ l) (b : Block) (now : Nat) (i : Vector LastFaultIn 84) :
    PairOff f (b.each l (fun b (f : Fin 84) => b.vinStop now f.val (i.get f))) := by
  have hoff (c : Block) (k : Fin 84) : ((c.vinStop now k (i.get k)).rail (railOf k 0)).run = 0 ∧ ((c.vinStop now k (i.get k)).rail (railOf k 1)).run = 0 :=
    vinStop_off ..
  have hpair := each_reaches (p := fun c => ((c.rail (railOf f 0)).run, (c.rail (railOf f 1)).run)) (v := (0, 0)) (x := f)
    (g := fun b (f : Fin 84) => b.vinStop now f.val (i.get f)) (fun c => Prod.mk.injEq .. ▸ hoff c f) (fun c k => ?_) hf b
  · exact ⟨congrArg Prod.fst hpair, congrArg Prod.snd hpair⟩
  · obtain rfl | hk := eq_or_ne k f
    · exact .inl (Prod.mk.injEq .. ▸ hoff c k)
    · have hne : f.val ≠ k.val := fun h => hk (Fin.ext h.symm)
      rw [vinStop_other hne _ _ _ (by decide), vinStop_other hne _ _ _ (by decide)]
      exact .inr rfl

end Power

section Outcomes

open Block

variable {b : Block} {r : MonRec} {c : Cmd} {s : State}

theorem storeRecord_mirror (h : r.tier = 4) (b : Block) (now : Nat) : b.programOver.storeRecord now r =
    ((b.programOver.modMon (fun m => m.storeMirror r)).inc HUB_JOURNAL.MIRROR_WR 0).wr HUB_JOURNAL.LAST_MIRRORED 0 r.seqNo := by
  rw [storeRecord, h]
  rfl

theorem storeRecord_shutdown (h : r.tier = 1) (b : Block) (now : Nat) :
    b.programOver.storeRecord now r = b.programOver.modMon (fun m => m.storeShutdown r) := by
  rw [storeRecord, h]
  rfl

theorem storeRecord_lastFault (h : r.tier = 2) (b : Block) (now : Nat) :
    b.programOver.storeRecord now r = b.programOver.modMon (fun m => m.storeLastFault r) := by
  rw [storeRecord, h]
  rfl

theorem poolBad_answered {α : Type} {g : Monument → α} (hg : Monument.Stored g) (b : Block) (detail now : Nat) :
    g ((b.poolBad detail).headerWrite now).monNext.mon = g (b.poolBad detail).mon :=
  ((headerWrite_same hg ..).trans (monNext_same hg _)).same 0

theorem crcSkipped_keeps (b : Block) (code n : Nat) : b.Keeps [.regs, .fields, .faults] (b.crcSkipped code n) := by simp

theorem recordRead_answered (hroom : s.b.hub.staged.length < 16) (host : List Host.Cell) (x : List MonRec × Nat) {k : Nat} :
    Answered 0x88 stDone c { s with
      host := host, b := ((s.b.begun s.tick 0x88 c).crcSkipped k x.2).done s.tick (portNo c.port) [x.1.length, x.2] } ∧
    rspWord c { s with
      host := host, b := ((s.b.begun s.tick 0x88 c).crcSkipped k x.2).done s.tick (portNo c.port) [x.1.length, x.2] } 0 = x.1.length % 2 ^ 32 ∧
    rspWord c { s with
      host := host, b := ((s.b.begun s.tick 0x88 c).crcSkipped k x.2).done s.tick (portNo c.port) [x.1.length, x.2] } 1 = x.2 % 2 ^ 32 := by
  have htaken : Taken 0x88 c s.tick _ := (begun_taken 0x88 c s.tick hroom).of_keeps (crcSkipped_keeps (s.b.begun s.tick 0x88 c) k x.2) (by decide)
    (by decide)
  exact ⟨htaken.answered (by decide) (by decide) (by decide) { s with host := host }, htaken.answer_rspData (by decide) _ _ _ (by decide),
    htaken.answer_rspData (by decide) _ _ _ (by decide)⟩

theorem firstCleared_keeps (b : Block) (now off lc : Nat) : b.Keeps [.regs, .mon] (firstCleared b now off lc) := by
  unfold firstCleared
  simp

theorem firstCleared_same {α : Type} {g : Monument → α} (hg : Monument.Stored g) (b : Block) (now off lc : Nat) :
    MonSame g (b.modMon (fun m => { m with firstN := [] })) (firstCleared b now off lc) := by
  unfold firstCleared
  exact (((inc_keeps ..).monSame (by decide)).trans (headerWrite_same hg ..)).trans (monEventAt_same hg ..)

theorem powerFailed_hub (b : Block) (now : Nat) :
    (powerFailed b now).hub = { b.hub with pfSince := some now, pfClear := 0, pfPin := true, pfAgain := false } := by
  have hnoted (c : Block) (data : List Nat) : c.Keeps [.regs, .mon] ((c.wr HUB_MONUMENT.HOLDUP_TICK 0 now).monEventAt true now 0 0x42 srcHub data) := by
    simp
  unfold powerFailed
  dsimp only
  rw [(hnoted ..).hub (by decide)]
  rfl

end Outcomes

open Block in
/-- Settles O55. -/
theorem monumentAndPowerLoss : Obligations.MonumentAndPowerLoss := by
  unfold Obligations.MonumentAndPowerLoss
  refine ⟨fun ok s h => exec_programDone_idle h ok, fun r s h htier => ?_, fun r s h htier => ?_, fun r s h => ⟨fun htier => ?_, fun htier => ?_⟩,
    fun r s h hretry => ⟨?_, ?_⟩, fun s hpool hsusp => ⟨?_, ?_, ?_⟩, fun ok s h => exec_erase_none h ok, fun s h hsusp hwhy => ?_,
    fun s hnow hnew hn => ?_, fun s h => exec_tokenRefill_none h, fun c s x hpass hlow hhigh hbuf harea hroom hx => ?_,
    fun c s hpass hroom => ⟨fun hlc => ?_, fun h1 h3 => ?_⟩, fun s h => ?_, fun s h hagain => exec_pwrFailNAssert_none h hagain,
    fun i n s hsince hnow hpin => ?_, fun i n s hsince hnow => exec_pwrFailStop_early hsince hnow i, fun s h hclear => ?_,
    fun s h => exec_pwrFailNDeassert_none h⟩
  · refine ⟨_, exec_programDone h, inBlock_mk .., ?_, ?_, ?_⟩
    · dsimp only
      rw [storeRecord_event htier, (monNext_same (g := Monument.pool) (fun _ _ _ _ _ _ _ _ _ _ => rfl) _).eq,
        (headerWritten_same (g := Monument.pool) (fun _ _ _ _ _ _ _ _ _ _ => rfl) ..).eq, eventStored_pool]
      rfl
    · dsimp only
      rw [storeRecord_event htier, (monNext_keeps ..).rd (by decide), (headerWritten_keeps ..).rd (by decide), eventStored, rd_inc_same]
      rfl
    · dsimp only
      rw [storeRecord_event htier, (monNext_keeps ..).same .agents (by decide), (headerWritten_keeps ..).same .agents (by decide),
        (eventStored_keeps ..).same .agents (by decide)]
  · obtain ⟨hmirror, hpool⟩ := storeMirror_same s.b.programOver.mon r
    refine ⟨_, exec_programDone h, inBlock_mk .., ?_, ?_, ?_⟩
    · dsimp only
      rw [(monNext_same (g := Monument.mirror) (fun _ _ _ _ _ _ _ _ _ _ => rfl) _).eq, storeRecord_mirror htier, (wr_keeps ..).mon (by decide),
        (inc_keeps ..).mon (by decide)]
      exact hmirror
    · dsimp only
      rw [(monNext_same (g := Monument.pool) (fun _ _ _ _ _ _ _ _ _ _ => rfl) _).eq, storeRecord_mirror htier, (wr_keeps ..).mon (by decide),
        (inc_keeps ..).mon (by decide)]
      exact hpool
    · dsimp only
      rw [(monNext_keeps ..).rd (by decide), storeRecord_mirror htier, rd_wr_same]
  · obtain ⟨hshutdown, hpool⟩ := storeShutdown_same s.b.programOver.mon r
    refine ⟨_, exec_programDone h, inBlock_mk .., ?_, ?_⟩
    · dsimp only
      rw [(monNext_same (g := Monument.pool) (fun _ _ _ _ _ _ _ _ _ _ => rfl) _).eq, storeRecord_shutdown htier]
      exact hpool
    · dsimp only
      rw [(monNext_same (g := Monument.shutdowns) (fun _ _ _ _ _ _ _ _ _ _ => rfl) _).eq, storeRecord_shutdown htier]
      exact hshutdown
  · obtain ⟨hlast, hpool⟩ := storeLastFault_same s.b.programOver.mon r
    refine ⟨_, exec_programDone h, inBlock_mk .., ?_, ?_⟩
    · dsimp only
      rw [(monNext_same (g := Monument.pool) (fun _ _ _ _ _ _ _ _ _ _ => rfl) _).eq, storeRecord_lastFault htier]
      exact hpool
    · dsimp only
      rw [(monNext_same (g := Monument.lastFaults) (fun _ _ _ _ _ _ _ _ _ _ => rfl) _).eq, storeRecord_lastFault htier]
      exact hlast
  · obtain ⟨hbusy, hagain, hpool⟩ := programFailed_mon s.b 1 r
    exact ⟨_, exec_programDone_failed h hretry, inBlock_mk .., hbusy.trans h, hagain, hpool, programFailed_faults ..⟩
  · obtain ⟨hbusy, hagain, hpool⟩ := programFailed_mon s.b 3 r
    exact ⟨_, exec_norTimeout_program h hretry, inBlock_mk .., hbusy.trans h, hagain, hpool, programFailed_faults ..⟩
  · obtain ⟨hahead, hbad⟩ := erased_pool s.b.mon hpool
    refine ⟨_, exec_eraseDone hpool hsusp, inBlock_mk .., ?_, ?_, ?_⟩
    · dsimp only
      rw [(monNext_same (g := Monument.ahead) (fun _ _ _ _ _ _ _ _ _ _ => rfl) _).eq, (inc_keeps ..).mon (by decide)]
      exact hahead
    · dsimp only
      rw [(monNext_same (g := Monument.badBlocks) (fun _ _ _ _ _ _ _ _ _ _ => rfl) _).eq, (inc_keeps ..).mon (by decide)]
      exact hbad
    · dsimp only
      rw [(monNext_keeps ..).rd (by decide), rd_inc_same]
      rfl
  · obtain ⟨hbad, hahead⟩ := poolBad_mon s.b 2
    refine ⟨_, exec_eraseDone_failed hpool hsusp, inBlock_mk .., ?_, ?_, ?_⟩
    · exact (poolBad_answered (g := Monument.badBlocks) (fun _ _ _ _ _ _ _ _ _ _ => rfl) _ 2 s.tick).trans hbad
    · exact (poolBad_answered (g := Monument.ahead) (fun _ _ _ _ _ _ _ _ _ _ => rfl) _ 2 s.tick).trans hahead
    · dsimp only
      rw [(monNext_keeps ..).faults (by decide), (headerWrite_keeps ..).faults (by decide), poolBad_faults]
      rfl
  · obtain ⟨hbad, hahead⟩ := poolBad_mon s.b 3
    refine ⟨_, exec_norTimeout_erase hpool hsusp, inBlock_mk .., ?_, ?_⟩
    · exact (poolBad_answered (g := Monument.badBlocks) (fun _ _ _ _ _ _ _ _ _ _ => rfl) _ 3 s.tick).trans hbad
    · dsimp only
      rw [(monNext_keeps ..).faults (by decide), (headerWrite_keeps ..).faults (by decide), poolBad_faults]
      rfl
  · obtain ⟨h1, h2, h3⟩ := monStart_suspended (b := eraseHeld s.b) rfl h
    exact ⟨_, exec_eraseSuspend h hsusp hwhy, Keeps.withBlock_eq_graft (S := [.mon]) (by unfold eraseHeld; simp), h1, h2, h3⟩
  · refine ⟨_, exec_tokenRefill hnow hnew, Keeps.withBlock_eq_graft (S := [.mon]) (by unfold tokenAdded; simp), ?_, fun h => ?_, fun h e => ?_⟩
    · dsimp only
      cases s.tick % 1024 == 0 <;> rfl
    · dsimp only
      rw [cond_of_false (beq_eq_false_iff_ne.2 h)]
      rfl
    · dsimp only
      rw [cond_of_true (beq_iff_eq.2 h)]
      exact mget_refilled hn e
  · have hexec := exec_recordRead hpass hlow hhigh hbuf harea hx
    have hother : ∀ a, outside (c.bufAddr 3) (x.1.flatMap MonRec.bytes).length a →
        mget 0 (putBytes s.host (c.bufAddr 3) (x.1.flatMap MonRec.bytes)) a = mget 0 s.host a := fun a ha => putBytes_other _ _ _ _ ha
    generalize putBytes s.host (c.bufAddr 3) (x.1.flatMap MonRec.bytes) = host at hexec hother
    obtain ⟨hanswered, hcount, hbroken⟩ := recordRead_answered (c := c) hroom host x
    refine ⟨_, hexec, hostAndBlock_mk .., hanswered, ?_, hcount, hbroken, hother⟩
    dsimp only
    rw [done, (answer_keeps ..).mon (by decide), (crcSkipped_keeps ..).mon (by decide), (begun_keeps ..).mon (by decide)]
  · have htaken : Taken 0x89 c s.tick _ := (begun_taken 0x89 c s.tick hroom).of_keeps
      (firstCleared_keeps (s.b.begun s.tick 0x89 c) s.tick c.sc s.b.nv.lifecycle) (by decide) (by decide)
    have hmon : (s.b.begun s.tick 0x89 c).mon = s.b.mon := (begun_keeps ..).mon (by decide)
    refine ⟨_, exec_firstRegionClear hpass hlc, inBlock_mk .., htaken.answered (by decide) (by decide) (by decide) s, ?_, ?_⟩
    · dsimp only
      rw [done, (answer_keeps ..).mon (by decide), (firstCleared_same (g := Monument.firstN) (fun _ _ _ _ _ _ _ _ _ _ => rfl) ..).eq]
      rfl
    · dsimp only
      rw [done, (answer_keeps ..).mon (by decide), (firstCleared_same (g := Monument.pool) (fun _ _ _ _ _ _ _ _ _ _ => rfl) ..).eq, ← hmon]
      rfl
  · refine ⟨_, exec_firstRegionClear_denied hpass h1 h3, inBlock_mk .., (begun_taken 0x89 c s.tick hroom).answered (by decide) (by decide) (by decide) s, ?_⟩
    dsimp only
    rw [stop, (answer_keeps ..).mon (by decide), (begun_keeps ..).mon (by decide)]
  · have hkeeps := startsStopped_keeps (powerFailed s.b s.tick) s.tick (startingFields s.b)
    refine ⟨_, exec_pwrFailNAssert h, inBlock_mk .., ?_, ?_, ?_, fun f hf => ?_⟩
    · dsimp only
      rw [hkeeps.hub (by decide), powerFailed_hub]
    · dsimp only
      rw [hkeeps.hub (by decide), powerFailed_hub]
    · dsimp only
      rw [hkeeps.same .agents (by decide), (powerFailed_keeps ..).same .agents (by decide)]
    · exact startsStopped_run (startingFields_mem hf) (by rw [(powerFailed_keeps ..).rail (by decide), hf]) _
  · exact ⟨_, exec_pwrFailStop hsince hnow hpin i, inBlock_mk .., fun f hf => regulatingStopped_off (regulatingFields_mem hf) ..⟩
  · refine ⟨_, exec_pwrFailNDeassert h hclear, Keeps.withBlock_eq_graft (S := [.hub, .mon]) (by unfold powerBack; simp), ?_, ?_, ?_⟩
    · dsimp only
      rw [holdup, (monNext_keeps ..).hub (by decide)]
      rfl
    · dsimp only
      rw [(monNext_same (g := Monument.noErase) (fun _ _ _ _ _ _ _ _ _ _ => rfl) _).eq]
      rfl
    · dsimp only
      rw [(monNext_keeps ..).hub (by decide)]
      rfl

end Sys2Proof.Machine
end

section
/-!
SUPPORT. The error-correcting code: one wrong bit has its own column, and two have an even syndrome.
-/

namespace Sys2Proof.Machine

open Sys2Proof

/-! ### The weight's parity -/

theorem countXor_mod_two {α : Type} (l : List α) (p q : α → Bool) :
    (l.filter (fun i => p i ^^ q i)).length % 2 = ((l.filter p).length + (l.filter q).length) % 2 := by
  induction l with
  | nil => rfl
  | cons x l ih => cases hp : p x <;> cases hq : q x <;> simp [hp, hq] <;> omega

theorem weight9_xor (a b : Nat) : weight9 (a ^^^ b) % 2 = (weight9 a + weight9 b) % 2 := by
  unfold weight9
  simp only [Nat.testBit_xor]
  exact countXor_mod_two ..

/-! ### The syndrome is linear (R322) -/

/-- One step of the syndrome: the column of a flipped bit joins. -/
def joinColumn (flips s : Nat) (x : Nat × Nat) : Nat := if flips.testBit x.1 then s ^^^ x.2 else s

theorem foldl_joinColumn_xor (f g : Nat) (l : List (Nat × Nat)) (a b : Nat) :
    l.foldl (joinColumn (f ^^^ g)) (a ^^^ b) = l.foldl (joinColumn f) a ^^^ l.foldl (joinColumn g) b := by
  induction l generalizing a b with
  | nil => rfl
  | cons x l ih =>
    have hstep : joinColumn (f ^^^ g) (a ^^^ b) x = joinColumn f a x ^^^ joinColumn g b x := by
      unfold joinColumn
      rw [Nat.testBit_xor]
      cases f.testBit x.1 <;> cases g.testBit x.1 <;> simp [Nat.xor_comm, Nat.xor_left_comm]
    rw [List.foldl_cons, hstep, ih, List.foldl_cons, List.foldl_cons]

theorem syndrome_xor (f g : Nat) : syndrome (f ^^^ g) = syndrome f ^^^ syndrome g := by
  exact foldl_joinColumn_xor f g (List.zip (List.range 137) eccColumns) 0 0

/-! ### One wrong bit, and two (R322) -/

theorem eccDecode_syndrome_two_pow : ∀ k : Fin 137, eccDecode (syndrome (2 ^ k.val)) = .single k.val := by
  decide +kernel

theorem weight9_odd_of_single {s k : Nat} (h : eccDecode s = .single k) : weight9 s % 2 = 1 := by
  unfold eccDecode at h
  split at h
  · cases h
  · split at h
    · cases h
    · omega

theorem eccDecode_of_even {s : Nat} (h0 : s ≠ 0) (he : weight9 s % 2 = 0) : eccDecode s = .uncorrectable := by
  unfold eccDecode
  rw [if_neg h0, if_pos he]

/-- Two different columns: their sum is not zero, and of even weight. -/
theorem eccDecode_xor {x y j k : Nat} (hx : eccDecode x = .single j) (hy : eccDecode y = .single k) (h : j ≠ k) :
    eccDecode (x ^^^ y) = .uncorrectable := by
  refine eccDecode_of_even (fun h0 => h ?_) ?_
  · rw [Nat.xor_eq_zero_iff.mp h0, hy] at hx
    injection hx with e
    exact e.symm
  · rw [weight9_xor]
    have := weight9_odd_of_single hx
    have := weight9_odd_of_single hy
    omega

theorem two_pow_add_eq_xor_of_lt {j k : Nat} (h : j < k) : 2 ^ k + 2 ^ j = 2 ^ k ^^^ 2 ^ j := by
  have hlt : 2 ^ j < 2 ^ k := Nat.pow_lt_pow_right (by decide) h
  have hor := Nat.two_pow_add_eq_or_of_lt hlt 1
  rw [Nat.mul_one] at hor
  rw [hor]
  refine Nat.eq_of_testBit_eq fun i => ?_
  rw [Nat.testBit_or, Nat.testBit_xor, Nat.testBit_two_pow, Nat.testBit_two_pow]
  by_cases hk : k = i <;> by_cases hj : j = i <;> simp [hk, hj]
  omega

theorem two_pow_add_eq_xor {j k : Nat} (h : j ≠ k) : 2 ^ j + 2 ^ k = 2 ^ j ^^^ 2 ^ k := by
  rcases Nat.lt_or_gt_of_ne h with hlt | hlt
  · rw [Nat.add_comm, Nat.xor_comm]
    exact two_pow_add_eq_xor_of_lt hlt
  · exact two_pow_add_eq_xor_of_lt hlt

theorem eccDecode_two_flips (j k : Fin 137) (h : j ≠ k) :
    eccDecode (syndrome (2 ^ j.val + 2 ^ k.val)) = .uncorrectable := by
  have hne : j.val ≠ k.val := fun e => h (Fin.ext e)
  rw [two_pow_add_eq_xor hne, syndrome_xor]
  exact eccDecode_xor (eccDecode_syndrome_two_pow j) (eccDecode_syndrome_two_pow k) hne

/-! ### What the flips leave of a word (R323) -/

theorem flipWord_zero (mem : List Host.Cell) (a : Nat) : flipWord mem a 0 = mem := by
  unfold flipWord
  have hb : ∀ j, bitsOf 0 (8 * j) 8 = 0 := fun j => by simp [bitsOf]
  simp only [hb, if_true]
  generalize List.range 16 = l
  induction l with
  | nil => rfl
  | cons x l ih => exact ih

end Sys2Proof.Machine
end

section
/-!
SUPPORT. The memories: scrub, repair, aliases, march and wipe; O56.
-/

namespace Sys2Proof.Machine

open Sys2Proof

theorem memNo_cases (m : MemId) : memNo m = 84 ∨ memNo m < 84 := by
  cases m with
  | hub => exact .inl rfl
  | field f => exact .inr f.isLt

namespace Block

variable {b : Block} {k : Nat}

/-! ### What corrections leave of a memory's record (R323, R328) -/

theorem scrubNext_ueWords (b : Block) (k : Nat) : TabSame memSt MemSt.ueWords b (b.scrubNext k) := by
  unfold scrubNext
  refine .ite ?_ ?_
  · exact .of_eq fun _ => (wr_keeps ..).memSt (by decide) _
  · exact .modMemSt (.of_eq fun _ => ((wr_keeps ..).trans (inc_keeps ..)).memSt (by decide) _) fun _ => rfl

theorem ceCount_ueWords (b : Block) (k : Nat) : TabSame memSt MemSt.ueWords b (b.ceCount k) := by
  unfold ceCount
  refine .cond ?_ fun c => ?_
  · refine .of_eq fun _ => Keeps.memSt (S := [.regs, .fields]) ?_ (by decide) _
    split <;> simp
  · exact .step (.modMemSt (u := fun x => { x with ceRaised := true }) (.refl c) fun _ => rfl) fun _ => (fault_keeps ..).memSt (by decide) _

theorem noteFixed_ueWords (b : Block) (k w : Nat) : TabSame memSt MemSt.ueWords b (b.noteFixed k w) := by
  unfold noteFixed
  exact .modMemSt (.refl b) fun _ => rfl

theorem ueRead_memSt (b : Block) (k w : Nat) (raise : Bool) (j : Nat) : (b.ueRead k w raise).memSt j = b.memSt j :=
  Keeps.memSt (S := [.regs, .fields, .faults]) (by simp) (by decide) j

/-! ### The next word of a sweep (R323) -/

theorem scrubNext_hub_pos (b : Block) : (b.scrubNext 84).rd HUB_MEM.SCRUB_POS 0 =
    if b.rd HUB_MEM.SCRUB_POS 0 + 1 < 262144 then b.rd HUB_MEM.SCRUB_POS 0 + 1 else 0 := by
  unfold scrubNext
  dsimp only [memFld, memInst, memWords]
  simp only [if_true]
  split
  next h => exact (rd_wr_same ..).trans (Nat.mod_eq_of_lt h)
  next =>
    rw [rd_modMemSt, rd_inc_apart (by decide), rd_wr_same]
    rfl

theorem scrubNext_field_pos (b : Block) {k : Nat} (hk : k < 84) : (b.scrubNext k).rd F_MEM.SCRUB_POS k =
    if b.rd F_MEM.SCRUB_POS k + 1 < 32768 then b.rd F_MEM.SCRUB_POS k + 1 else 0 := by
  unfold scrubNext
  dsimp only [memFld, memInst, memWords]
  simp only [if_neg (Nat.ne_of_lt hk)]
  split
  next h => exact (rd_wr_same ..).trans (Nat.mod_eq_of_lt h)
  next =>
    rw [rd_modMemSt, rd_inc_apart (by decide), rd_wr_same]
    rfl

theorem scrubNext_word (b : Block) (m : MemId) : scrubWord (b.scrubNext (memNo m)) (memNo m) =
    if scrubWord b (memNo m) + 1 < memWords (memNo m) then scrubWord b (memNo m) + 1 else 0 := by
  unfold scrubWord memFld memInst memWords
  obtain hk | hk := memNo_cases m
  · rw [hk]
    exact scrubNext_hub_pos b
  · simp only [if_neg (Nat.ne_of_lt hk)]
    exact scrubNext_field_pos b hk

end Block

open Block

/-! ### SCRUB_READ (R322, R323, R327) -/

section Scrub

variable {m : MemId} {flips : BitVec 137} {s : State}

theorem exec_scrubRead_clean (h : eccDecode (syndrome flips.toNat) = .clean) : exec (.scrubRead m flips) s = .next { s with
    mem := flipWord s.mem (wordAt (memNo m) (scrubWord s.b (memNo m))) (flips.toNat % 2 ^ 128)
    b := s.b.scrubNext (memNo m) } := by
  show execScrubRead m flips s = _
  unfold execScrubRead
  rw [h]
  rfl

theorem exec_scrubRead_single {k : Nat} (h : eccDecode (syndrome flips.toNat) = .single k) : exec (.scrubRead m flips) s = .next { s with
    mem := flipWord s.mem (wordAt (memNo m) (scrubWord s.b (memNo m))) (flips.toNat % 2 ^ 128 ^^^ if k < 128 then 2 ^ k else 0)
    b := ((s.b.scrubNext (memNo m)).ceCount (memNo m)).noteFixed (memNo m) (scrubWord s.b (memNo m)) } := by
  show execScrubRead m flips s = _
  unfold execScrubRead
  rw [h]
  rfl

/-- The word joins those known to be uncorrectable, unless it was known. -/
def ueNoted (known : Bool) (w : Nat) (x : MemSt) : MemSt := { x with ueWords := if known then x.ueWords else w :: x.ueWords }

theorem ueNoted_contains (w : Nat) (x : MemSt) : (ueNoted (x.ueWords.contains w) w x).ueWords.contains w = true := by
  cases h : x.ueWords.contains w
  · simp [ueNoted]
  · exact h

/-- An uncorrectable word is found. -/
def Block.ueFound (b : Block) (k w : Nat) : Block :=
  (b.ueRead k w (!(b.memSt k).ueWords.contains w)).modMemSt k (ueNoted ((b.memSt k).ueWords.contains w) w)

theorem ueFound_contains (b : Block) (k w : Nat) : ((b.ueFound k w).memSt k).ueWords.contains w = true := by
  unfold Block.ueFound
  rw [memSt_modMemSt_same, ueRead_memSt]
  exact ueNoted_contains ..

theorem exec_scrubRead_uncorrectable (h : eccDecode (syndrome flips.toNat) = .uncorrectable) : exec (.scrubRead m flips) s = .next { s with
    mem := flipWord s.mem (wordAt (memNo m) (scrubWord s.b (memNo m))) (flips.toNat % 2 ^ 128)
    b := (s.b.scrubNext (memNo m)).ueFound (memNo m) (scrubWord s.b (memNo m)) } := by
  show execScrubRead m flips s = _
  unfold execScrubRead
  rw [h]
  rfl

theorem two_pow_mod_left {k : Nat} : 2 ^ k % 2 ^ 128 ^^^ (if k < 128 then 2 ^ k else 0) = 0 := by
  split
  next h => rw [Nat.mod_eq_of_lt (Nat.pow_lt_pow_right (by decide) h), Nat.xor_self]
  next h => rw [Nat.mod_eq_zero_of_dvd (Nat.pow_dvd_pow 2 (Nat.le_of_not_lt h)), Nat.xor_self]

end Scrub

/-! ### Spare rows (R329 to R331) -/

section Repair

variable {m : MemId} {bank : Fin 64} {row : Fin 512} {s : State}

/-- The row is no longer due. -/
def rowTaken (bank row : Nat) (x : MemSt) : MemSt := { x with repairDue := x.repairDue.filter (· != (bank, row)) }

/-- A soft entry takes the row. -/
def rowRepaired (bank row : Nat) (x : MemSt) : MemSt := { x with repairs := x.repairs ++ [(bank, row, false)] }

/-- A due row of memory `k` is repaired. -/
def Block.rowFixed (b : Block) (now k bank row : Nat) : Block :=
  (((b.modMemSt k (rowTaken bank row)).modMemSt k (rowRepaired bank row)).modNv (fun n => { n with
    softRows := n.softRows ++ [(k, bank, row)] })).saveStore now true

theorem saveStore_keeps (b : Block) (now : Nat) (cal : Bool) : b.Keeps [.mon] (b.saveStore now cal) := by simp

theorem rowFixed_same (b : Block) (now k bank row : Nat) :
    (b.rowFixed now k bank row).memSt k = rowRepaired bank row (rowTaken bank row (b.memSt k)) := by
  unfold rowFixed
  rw [(saveStore_keeps ..).memSt (by decide), (modNv_keeps ..).memSt (by decide), memSt_modMemSt_same, memSt_modMemSt_same]

theorem rowFixed_other {j k : Nat} (h : j ≠ k) (b : Block) (now bank row : Nat) : (b.rowFixed now k bank row).memSt j = b.memSt j := by
  unfold rowFixed
  rw [(saveStore_keeps ..).memSt (by decide), (modNv_keeps ..).memSt (by decide), memSt_modMemSt_other _ _ h, memSt_modMemSt_other _ _ h]

theorem rowFixed_nv (b : Block) (now k bank row : Nat) :
    (b.rowFixed now k bank row).nv = { b.nv with softRows := b.nv.softRows ++ [(k, bank, row)] } := by
  unfold rowFixed
  rw [(saveStore_keeps ..).nv (by decide)]
  rfl

theorem exec_softRepair (hrun : (s.b.proc (memOwner (memNo m))).st = 0) (hdue : (s.b.memSt (memNo m)).repairDue.contains (bank.val, row.val) = true)
    (hbank : bank.val < memBanks (memNo m)) (hfree : ((s.b.memSt (memNo m)).inBank bank).length < 4)
    (hnew : ((s.b.memSt (memNo m)).inBank bank).any (fun e => e.2.1 == row.val) = false) :
    exec (.softRepair m bank row) s = .next { s with b := s.b.rowFixed s.tick (memNo m) bank row } := by
  have hrows : ((s.b.modMemSt (memNo m) (rowTaken bank row)).memSt (memNo m)).inBank bank = (s.b.memSt (memNo m)).inBank bank := by
    rw [memSt_modMemSt_same]
    rfl
  show execSoftRepair m bank row s = _
  unfold execSoftRepair onB
  dsimp only
  rw [if_neg (by rw [hrun, hdue]; decide)]
  show Host.Outcome.next { s with b := (s.b.modMemSt (memNo m) (rowTaken bank row)).repairRow s.tick (memNo m) bank row } = _
  unfold repairRow
  rw [hrows, if_neg (by simp only [hnew, or_false, Bool.false_eq_true]; omega), if_neg (by omega)]
  rfl

theorem exec_softRepair_none (hdue : (s.b.memSt (memNo m)).repairDue.contains (bank.val, row.val) = false) :
    exec (.softRepair m bank row) s = .next s := by
  show execSoftRepair m bank row s = _
  unfold execSoftRepair onB
  dsimp only
  rw [if_pos (.inr (by rw [hdue]; rfl))]

end Repair

/-! ### Aliases (R324, R326) -/

section Alias

theorem leNat_leBytes (n : Nat) : ∀ v, leNat (leBytes n v) = v % 256 ^ n := by
  induction n with
  | zero => exact fun v => (Nat.mod_one v).symm
  | succ n ih =>
    intro v
    rw [leBytes, leNat, ih, Nat.pow_succ', Nat.mod_mul]

theorem leNat_lt {l : List Nat} (h : ∀ x ∈ l, x < 256) : leNat l < 256 ^ l.length := by
  induction l with
  | nil => exact Nat.one_pos
  | cons x l ih =>
    have hx := h x List.mem_cons_self
    have hl := ih fun y hy => h y (List.mem_cons_of_mem x hy)
    rw [leNat, List.length_cons, Nat.pow_succ']
    omega

theorem leBytes_lt (n : Nat) : ∀ v, ∀ x ∈ leBytes n v, x < 256 := by
  induction n with
  | zero => exact fun _ _ h => absurd h List.not_mem_nil
  | succ n ih =>
    intro v x h
    obtain rfl | h := List.mem_cons.1 h
    · exact Nat.mod_lt _ (by decide)
    · exact ih _ _ h

theorem laneAt_lt (mem : List Host.Cell) (a : Nat) : laneAt mem a < 2 ^ 32 := by
  have h := leNat_lt (l := getBytes mem a 4) fun x hx => by
    obtain ⟨_, _, rfl⟩ := List.mem_map.1 hx
    exact BitVec.isLt _
  simpa [getBytes, laneAt] using h

theorem laneAt_putBytes (mem : List Host.Cell) (a v : Nat) (hv : v < 2 ^ 32) : laneAt (putBytes mem a (leBytes 4 v)) a = v := by
  have hget : getBytes (putBytes mem a (leBytes 4 v)) a 4 = leBytes 4 v := by
    simpa using getBytes_putBytes (leBytes 4 v) mem a (leBytes_lt 4 v)
  calc laneAt (putBytes mem a (leBytes 4 v)) a = leNat (getBytes (putBytes mem a (leBytes 4 v)) a 4) := rfl
    _ = v := by
      rw [hget, leNat_leBytes]
      exact Nat.mod_eq_of_lt hv

variable {p : ProcNo} {comp : Byte} {set : Bool} {addr : BitVec 22} {v : Word} {sc : ScOff} {s : State}

/-- What ALIAS_WRITE leaves in the lane. -/
def aliased (set : Bool) (old v : Nat) : Nat := if set then old ||| v else old &&& (0xFFFFFFFF - v)

theorem aliased_lt {old v : Nat} (ho : old < 2 ^ 32) (hv : v < 2 ^ 32) : aliased set old v < 2 ^ 32 := by
  unfold aliased
  split
  · exact Nat.or_lt_two_pow ho hv
  · exact Nat.lt_of_le_of_lt Nat.and_le_left ho

/-- The offset of a lane in the memory that processor `p` reaches. -/
def laneOff (p : ProcNo) (addr : BitVec 22) : Nat := (if min p.val 84 = 84 then addr.toNat else addr.toNat % 0x80000) / 4 * 4

theorem exec_aliasWrite (hrun : (s.b.proc p).st = 0) (hcomp : comp.toNat ≤ compCount p)
    (hsecure : secureOff (min p.val 84) (laneOff p addr) = true → p.val = 86 ∧ comp.toNat = compAttest)
    (hue : (s.b.memSt (min p.val 84)).ueWords.contains (laneOff p addr / 16) = false) :
    exec (.aliasWrite p set addr ⟨v, comp, sc⟩) s = .next { s with
      mem := putBytes s.mem (memBase (min p.val 84) + laneOff p addr)
        (leBytes 4 (aliased set (laneAt s.mem (memBase (min p.val 84) + laneOff p addr)) v.toNat)) } := by
  show execAliasWrite p set addr ⟨v, comp, sc⟩ s = _
  unfold execAliasWrite
  dsimp only
  rw [if_neg (by rw [hrun]; omega), if_neg (fun h => h.2 (hsecure h.1))]
  exact if_neg (fun h => Bool.false_ne_true (hue.symm.trans h))

theorem secureOff_high (hp : 84 ≤ p.val) (haddr : 0x3C0000 ≤ addr.toNat) : secureOff (min p.val 84) (laneOff p addr) = true := by
  have hk : min p.val 84 = 84 := by omega
  unfold secureOff laneOff
  rw [hk, if_pos rfl]
  simp
  omega

theorem exec_aliasWrite_violation (hrun : (s.b.proc p).st = 0) (hcomp : comp.toNat ≤ compCount p)
    (hsecure : secureOff (min p.val 84) (laneOff p addr) = true) (hother : ¬ (p.val = 86 ∧ comp.toNat = compAttest)) :
    exec (.aliasWrite p set addr ⟨v, comp, sc⟩) s = .next { s with b := s.b.violation s.tick sc p comp.toNat } := by
  show execAliasWrite p set addr ⟨v, comp, sc⟩ s = _
  unfold execAliasWrite
  dsimp only
  rw [if_neg (by rw [hrun]; omega)]
  exact if_pos ⟨hsecure, hother⟩

end Alias

/-! ### MARCH (R335) -/

section March

/-- What a march of a memory begins with. -/
def marchBegun (destructive : Bool) (m : MemSt) : MemSt :=
  { m with marching := true, destructive := destructive, failing := [], repaired := 0, unrepaired := 0, seg := 0, segDue := 0 }

theorem marchStart_memSt (b : Block) (k : Nat) (destructive : Bool) (j : Nat) :
    (b.marchStart k destructive).memSt j = (b.modMemSt k (marchBegun destructive)).memSt j := by
  unfold marchStart
  rw [(wr_keeps ..).memSt (by decide), (wr_keeps ..).memSt (by decide), (wr_keeps ..).memSt (by decide)]
  rfl

theorem marchStart_same (b : Block) (k : Nat) (destructive : Bool) : (b.marchStart k destructive).memSt k = marchBegun destructive (b.memSt k) := by
  rw [marchStart_memSt, memSt_modMemSt_same]

theorem marchStart_other {j k : Nat} (h : j ≠ k) (b : Block) (destructive : Bool) : (b.marchStart k destructive).memSt j = b.memSt j := by
  rw [marchStart_memSt, memSt_modMemSt_other _ _ h]

/-- The marks of a march in a memory's record. -/
def marchMarks (m : MemSt) : Bool × Nat × Bool := (m.marching, m.seg, m.destructive)

theorem marchStarts_marks {l : List Nat} {k : Nat} (hk : k ∈ l) (b : Block) (destructive : Bool) :
    marchMarks ((b.each l (fun b k => b.marchStart k destructive)).memSt k) = (true, 0, destructive) := by
  refine each_reaches (p := fun b => marchMarks (b.memSt k)) (fun b => ?_) (fun b y => ?_) hk b
  · rw [marchStart_same]
    rfl
  · obtain rfl | hy := eq_or_ne k y
    · rw [marchStart_same]
      exact .inl rfl
    · rw [marchStart_other hy]
      exact .inr rfl

variable {c : Cmd} {s : State}

theorem exec_march (h : Passes 0x80 c s) (hden : marchDenied s c = none) (hl : (marchNames c.words).isEmpty = false)
    (hidle : (marchNames c.words).any (fun k => (s.b.memSt k).marching) = false) : exec (.march c) s = .next { s with
      b := (((s.b.begun s.tick 0x80 c).accept s.tick (portNo c.port) []).each (marchNames c.words) (fun b k => b.marchStart k (c.opt 0))).await
        (portNo c.port) (.march (marchNames c.words) 0 0 0) } := by
  have hidle' : (marchNames c.words).any (fun k => ((s.b.begun s.tick 0x80 c).memSt k).marching) = false := by
    simpa only [(begun_keeps ..).memSt (show Part.mems ∉ [Part.regs, .ports] by decide)] using hidle
  show execMarch c s = _
  rw [execMarch, hden, h.runCmdB_eq]
  dsimp only
  rw [if_neg (fun e => Bool.false_ne_true (hl.symm.trans e)), if_neg (fun e => Bool.false_ne_true (hidle'.symm.trans e))]

theorem marchTaken_waits : Waits c (.march (marchNames c.words) 0 0 0) { s with
    b := (((s.b.begun s.tick 0x80 c).accept s.tick (portNo c.port) []).each (marchNames c.words) (fun b k => b.marchStart k (c.opt 0))).await
      (portNo c.port) (.march (marchNames c.words) 0 0 0) } := by
  have hstarts : ∀ (a : Block) (l : List Nat), a.Keeps [.regs, .mems] (a.each l (fun b k => b.marchStart k (c.opt 0))) := fun a l =>
    (keeps_each (fun _ _ => by simp)).2 (.refl _ a)
  refine waits_accepted (op := 0x80) _ ?_
  unfold await
  rw [port_modPort_same, port_modPort_same, (hstarts ..).port (by decide)]

end March

/-! ### MARCH_SEGMENT (R333 to R335) -/

section Segment

variable {m : MemId} {s : State}

/-- A segment of memory `k` has been tested without a failing row. -/
def Block.segPassed (b : Block) (now k : Nat) : Block :=
  (b.modMemSt k (fun y => { y with seg := y.seg + 1, segDue := now + b.segPeriod k })).wr (memFld k HUB_MEM.MARCH_SEG F_MEM.MARCH_SEG)
    (memInst k) (segOf k ((b.memSt k).seg + 1))

/-- The bytes after the test of a segment of a march that keeps them. -/
def segMem (k seg : Nat) (mem : List Host.Cell) : List Host.Cell :=
  if seg = shadowSeg k then clearBytes mem (memBase k + 4096 * seg) 4096 else copyToShadow k seg mem

theorem segMem_other {k seg a : Nat} (mem : List Host.Cell) (h : outside (memBase k + 4096 * shadowSeg k) 4096 a) :
    mget 0 (segMem k seg mem) a = mget 0 mem a := by
  unfold segMem
  split
  next hseg =>
    rw [hseg]
    exact clearBytes_other _ _ _ _ h
  next => exact copyToShadow_other _ _ _ _ h

theorem segPassed_keeps (b : Block) (now k : Nat) : b.Keeps [.regs, .mems] (b.segPassed now k) := by
  unfold segPassed
  simp

theorem segPassed_same (b : Block) (now k : Nat) : (b.segPassed now k).memSt k =
    { b.memSt k with seg := (b.memSt k).seg + 1, segDue := now + b.segPeriod k } := by
  unfold segPassed
  rw [(wr_keeps ..).memSt (by decide), memSt_modMemSt_same]

theorem exec_marchSegment_kept (hm : (s.b.memSt (memNo m)).marching = true) (hseg : (s.b.memSt (memNo m)).seg < memSegs (memNo m))
    (hkept : (s.b.memSt (memNo m)).destructive = false) (hdue : (s.b.memSt (memNo m)).segDue ≤ s.tick) :
    exec (.marchSegment m []) s = .next { s with
      mem := segMem (memNo m) (segOf (memNo m) (s.b.memSt (memNo m)).seg) s.mem, b := s.b.segPassed s.tick (memNo m) } := by
  have hrows : ∀ q : Nat → Bool, (List.range 512).filter (fun r => q r && ([] : List (Fin 512)).any (fun y => y.val == r)) = [] := fun q => by simp
  show execMarchSegment m [] s = _
  unfold execMarchSegment
  dsimp only
  rw [if_neg (by simp [hm]; omega), hrows, hkept]
  rfl

theorem exec_marchSegment_waits {l : List (Fin 512)} (h : (s.b.memSt (memNo m)).marching = false ∨ s.tick < (s.b.memSt (memNo m)).segDue) :
    exec (.marchSegment m l) s = .next s := by
  show execMarchSegment m l s = _
  unfold execMarchSegment
  dsimp only
  refine if_pos ?_
  obtain h | h := h
  · rw [h]
    rfl
  · rw [decide_eq_true h, Bool.or_true]

end Segment

/-! ### MARCH_DONE (R332, R335) -/

section Done

theorem fuseRows_marching (b : Block) (now k : Nat) (unread : List (Nat × Nat)) : TabSame memSt MemSt.marching b (b.fuseRows now k unread) := by
  unfold fuseRows
  dsimp only
  refine .cond (.modMemSt (.of_eq fun _ => Keeps.memSt (S := [.fields, .faults, .nv, .mon]) ?_ (by decide) _) fun _ => rfl) fun c => ?_
  · simp
  · exact .of_eq fun _ => Keeps.memSt (S := [.cad, .nv, .mon]) (by simp) (by decide) _

theorem marchReport_regsOff (b : Block) (now k : Nat) : b.RegsOff windowPages (b.marchReport now k) := by
  unfold marchReport
  refine (regsOff_each_mem fun pt hpt c => ?_).2 (.refl ..)
  split
  · dsimp only
    split
    · exact .refl ..
    · split
      · exact (regsOff_done (List.Subset.refl _) now (port_lt hpt) ..).2 (.refl ..)
      · exact (regsOff_await ..).2 (.refl ..)
  · exact .refl ..

theorem marchReport_keeps (b : Block) (now k : Nat) : b.Keeps [.regs, .ports, .hub] (b.marchReport now k) := by simp

variable {m : MemId} {u : List (Fin 64 × Fin 512)} {s : State}

/-- The march of memory `k` has ended, with its result shown. -/
def Block.marchEnded (b : Block) (k : Nat) : Block :=
  (b.modMemSt k (fun y => { y with marching := false })).wr (memFld k HUB_MEM.MARCH_STATE F_MEM.MARCH_STATE) (memInst k)
    (if (b.memSt k).failing.isEmpty then 2 else 3)

theorem exec_marchDone (hm : (s.b.memSt (memNo m)).marching = true) (hseg : memSegs (memNo m) ≤ (s.b.memSt (memNo m)).seg)
    (hkept : (s.b.memSt (memNo m)).destructive = false) : ∃ q l, exec (.marchDone ⟨m, u⟩) s = .next { s with
      b := ((((s.b.marchEnded (memNo m)).cond q (fun b => b.fuseRows s.tick (memNo m) l))).marchReport s.tick (memNo m)) } := by
  refine ⟨(s.b.marchEnded (memNo m)).marchFuses (memNo m), u.map (fun e => (e.1.val, e.2.val)), ?_⟩
  show execMarchDone ⟨m, u⟩ s = _
  unfold execMarchDone
  dsimp only
  rw [if_neg (by simp [hm]; omega), hkept]
  rfl

theorem exec_marchDone_none (hm : (s.b.memSt (memNo m)).marching = false) : exec (.marchDone ⟨m, u⟩) s = .next s := by
  show execMarchDone ⟨m, u⟩ s = _
  unfold execMarchDone
  dsimp only
  exact if_pos (by rw [hm]; rfl)

theorem marchEnded_same (b : Block) (k : Nat) : ((b.marchEnded k).memSt k).marching = false := by
  unfold marchEnded
  rw [(wr_keeps ..).memSt (by decide), memSt_modMemSt_same]

theorem marchState_fits : ∀ x ∈ [HUB_MEM.MARCH_STATE, F_MEM.MARCH_STATE], x.Fits ∧ x.page ∉ windowPages := by decide

theorem marchState_mem (k : Nat) : memFld k HUB_MEM.MARCH_STATE F_MEM.MARCH_STATE ∈ [HUB_MEM.MARCH_STATE, F_MEM.MARCH_STATE] := by
  unfold memFld
  split <;> simp

theorem marchEnded_state (b : Block) (k : Nat) : (b.marchEnded k).rd (memFld k HUB_MEM.MARCH_STATE F_MEM.MARCH_STATE) (memInst k) =
    if (b.memSt k).failing.isEmpty then 2 else 3 := by
  have hwidth : ∀ x ∈ [HUB_MEM.MARCH_STATE, F_MEM.MARCH_STATE], 2 % 2 ^ x.width = 2 ∧ 3 % 2 ^ x.width = 3 := by decide
  obtain ⟨h2, h3⟩ := hwidth _ (marchState_mem k)
  unfold marchEnded
  rw [rd_wr_same]
  split
  · exact h2
  · exact h3

end Done

/-! ### The secure region (R341) -/

section Tamper

variable {us : BitVec 16} {sc : ScOff} {s : State}

/-- The secure region's words, the key and the log are gone. -/
def Block.wiped (b : Block) (now us : Nat) : Block :=
  ((((((b.modHub (fun h => { h with attKey := none, mlog := [] })).wr HUB_SEC.KEY_VALID 0 0).wr HUB_SEC.MLOG_ENTRIES 0 0).inc HUB_SEC.WIPES 0).wr
    HUB_SEC.WIPE_TICK 0 now).wr HUB_SEC.WIPE_US 0 us).modMemSt 84 (fun m => { m with ueWords := m.ueWords.filter (fun w => decide (w < 0x3C000)) })

theorem wipe_eq (us : Nat) (s : State) :
    wipe us s = { s with mem := clearBytes s.mem (memBase 84 + 0x3C0000) 0x40000, b := s.b.wiped s.tick us } := rfl

theorem wiped_keeps (b : Block) (now us : Nat) : b.Keeps [.regs, .mems, .hub] (b.wiped now us) := by
  unfold wiped
  simp

theorem wiped_hub (b : Block) (now us : Nat) : (b.wiped now us).hub = { b.hub with attKey := none, mlog := [] } := by
  unfold wiped
  rw [(modMemSt_keeps ..).hub (by decide), (wr_keeps ..).hub (by decide), (wr_keeps ..).hub (by decide), (inc_keeps ..).hub (by decide),
    (wr_keeps ..).hub (by decide), (wr_keeps ..).hub (by decide)]
  rfl

theorem wiped_keyValid (b : Block) (now us : Nat) : (b.wiped now us).rd HUB_SEC.KEY_VALID 0 = 0 := by
  unfold wiped
  rw [rd_modMemSt, rd_wr_apart (by decide), rd_wr_apart (by decide), rd_inc_apart (by decide), rd_wr_apart (by decide), rd_wr_same]
  rfl

/-- Tampering is seen, counted and raised. -/
def Block.tampered (b : Block) (sc : Nat) : Block := ((b.wr HUB_SEC.TAMPER_SEEN 0 1).inc HUB_SEC.TAMPER_COUNT 0).fault 27 255 0 sc

theorem exec_tamperNAssert : exec (.tamperNAssert us sc) s = .next { s with
    mem := clearBytes s.mem (memBase 84 + 0x3C0000) 0x40000, b := (s.b.wiped s.tick us.toNat).tampered sc } := rfl

theorem tampered_keeps (b : Block) (sc : Nat) : b.Keeps [.regs, .fields, .faults] (b.tampered sc) := by
  unfold tampered
  simp

theorem tampered_rd {x : Fld} (hs : HUB_SEC.TAMPER_SEEN.apart x = true) (hc : HUB_SEC.TAMPER_COUNT.apart x = true) (b : Block) (sc i : Nat) :
    (b.tampered sc).rd x i = b.rd x i := by
  unfold tampered
  rw [(fault_keeps ..).rd (by decide), rd_inc_apart hc, rd_wr_apart hs]

theorem tampered_seen (b : Block) (sc : Nat) : (b.tampered sc).rd HUB_SEC.TAMPER_SEEN 0 = 1 := by
  unfold tampered
  rw [(fault_keeps ..).rd (by decide), rd_inc_apart (by decide), rd_wr_same]
  rfl

theorem tampered_faults (b : Block) (sc : Nat) :
    (b.tampered sc).faults = b.faults ++ [{ src := 27, field := 255, detail := 0, off := sc }] := by
  unfold tampered
  rw [faults_fault, (inc_keeps ..).faults (by decide), (wr_keeps ..).faults (by decide)]
  rfl

end Tamper

/-! ### Settling O56 -/

theorem flipsOne (k : Fin 137) : (BitVec.ofNat 137 (2 ^ k.val)).toNat = 2 ^ k.val := by
  rw [BitVec.toNat_ofNat, Nat.mod_eq_of_lt (Nat.pow_lt_pow_right (by decide) k.isLt)]

theorem flipsTwo (j k : Fin 137) (h : j ≠ k) : (BitVec.ofNat 137 (2 ^ j.val + 2 ^ k.val)).toNat = 2 ^ j.val + 2 ^ k.val := by
  have hne : j.val ≠ k.val := fun e => h (Fin.ext e)
  rw [BitVec.toNat_ofNat, two_pow_add_eq_xor hne]
  exact Nat.mod_eq_of_lt (Nat.xor_lt_two_pow (Nat.pow_lt_pow_right (by decide) j.isLt) (Nat.pow_lt_pow_right (by decide) k.isLt))

/-- SCRUB_READ of a word with no wrong bit, with one, and with two. -/
theorem scrubRead_clean (m : MemId) (s : State) :
    ∃ t, exec (.scrubRead m 0) s = .next t ∧ InBlock s t ∧ t.b.agents = s.b.agents ∧
      scrubWord t.b (memNo m) = if scrubWord s.b (memNo m) + 1 < memWords (memNo m) then scrubWord s.b (memNo m) + 1 else 0 := by
  have hclean : eccDecode (syndrome (0 : BitVec 137).toNat) = .clean := by decide +kernel
  have hexec := exec_scrubRead_clean (m := m) (s := s) hclean
  rw [show (0 : BitVec 137).toNat % 2 ^ 128 = 0 from rfl, flipWord_zero] at hexec
  refine ⟨_, hexec, inBlock_mk .., ?_, scrubNext_word s.b m⟩
  exact Keeps.same (S := [.regs, .mems]) (by simp) .agents (by decide)

theorem scrubRead_single (m : MemId) (k : Fin 137) (s : State) :
    ∃ t, exec (.scrubRead m (BitVec.ofNat 137 (2 ^ k.val))) s = .next t ∧ InBlock s t ∧ t.b.agents = s.b.agents ∧
      (t.b.memSt (memNo m)).ueWords = (s.b.memSt (memNo m)).ueWords := by
  have hdec := eccDecode_syndrome_two_pow k
  rw [← flipsOne] at hdec
  have hexec := exec_scrubRead_single (m := m) (s := s) hdec
  rw [flipsOne, two_pow_mod_left, flipWord_zero] at hexec
  refine ⟨_, hexec, inBlock_mk .., ?_, ?_⟩
  · exact Keeps.same (S := [.regs, .fields, .mems, .faults]) (by simp) .agents (by decide)
  · exact ((scrubNext_ueWords ..).trans ((ceCount_ueWords ..).trans (noteFixed_ueWords ..))).same _

theorem scrubRead_double (m : MemId) (j k : Fin 137) (s : State) (h : j ≠ k) :
    ∃ t, exec (.scrubRead m (BitVec.ofNat 137 (2 ^ j.val + 2 ^ k.val))) s = .next t ∧ t = { s with mem := t.mem, b := t.b } ∧
      (t.b.memSt (memNo m)).ueWords.contains (scrubWord s.b (memNo m)) = true ∧
      ∀ a, outside (wordAt (memNo m) (scrubWord s.b (memNo m))) 16 a → mget 0 t.mem a = mget 0 s.mem a := by
  have hdec := eccDecode_two_flips j k h
  rw [← flipsTwo j k h] at hdec
  exact ⟨_, exec_scrubRead_uncorrectable hdec, rfl, ueFound_contains .., fun a ha => flipWord_other _ _ _ _ ha⟩

/-- Settles O56. -/
theorem memories : Obligations.Memories := by
  unfold Obligations.Memories
  refine ⟨scrubRead_clean, scrubRead_single, scrubRead_double, fun m bank row s hrun hdue hbank hfree hnew => ?_,
    fun m bank row s hdue => exec_softRepair_none hdue, fun p comp set addr v sc k off a s hrun hcomp hk hoff ha hsecure hue => ?_,
    fun p comp set addr v sc s hrun hp hcomp hne haddr hother hlimit => ?_, fun c s hpass hden hl hidle => ?_,
    fun m s hm hseg hkept hdue => ?_, fun m l s h => exec_marchSegment_waits h, fun m u s hm hseg hkept => ?_,
    fun m u s hm => exec_marchDone_none hm, fun us sc s => ?_⟩
  · refine ⟨_, exec_softRepair hrun hdue hbank hfree hnew, ?_, rowFixed_nv .., rowFixed_same .., fun k hk => rowFixed_other hk ..⟩
    exact Keeps.withBlock_eq_graft (S := [.mems, .nv, .mon]) (by unfold rowFixed; simp)
  · subst hk hoff ha
    refine ⟨_, exec_aliasWrite hrun hcomp hsecure hue, rfl, ?_, fun x hx => putBytes_other _ _ _ _ (by rw [leBytes_length]; exact hx)⟩
    exact laneAt_putBytes _ _ _ (aliased_lt (laneAt_lt ..) v.isLt)
  · have hexec := exec_aliasWrite_violation (set := set) (v := v) (sc := sc) hrun hcomp (secureOff_high hp haddr) hother
    rw [violation_below hne hlimit] at hexec
    refine ⟨_, hexec, inBlock_mk .., ?_, ?_⟩
    · exact congrArg Proc.lastComp (compStopped_same ..)
    · exact congrArg Proc.compFaults (compStopped_same ..)
  · refine ⟨_, exec_march hpass hden hl hidle, inBlock_mk .., marchTaken_waits, fun k hk => ?_⟩
    have hmarks := marchStarts_marks hk ((s.b.begun s.tick 0x80 c).accept s.tick (portNo c.port) []) (c.opt 0)
    rw [← (await_keeps _ (portNo c.port) (.march (marchNames c.words) 0 0 0)).memSt (by decide)] at hmarks
    exact ⟨congrArg Prod.fst hmarks, congrArg (·.2.1) hmarks, congrArg (·.2.2) hmarks⟩
  · refine ⟨_, exec_marchSegment_kept hm hseg hkept hdue, ?_, segPassed_same .., fun a ha => segMem_other _ ha⟩
    exact congrArg (fun c => ({ s with mem := _, b := c } : State)) ((segPassed_keeps ..).eq_graft (S := [.regs, .mems]))
  · obtain ⟨q, l, hexec⟩ := exec_marchDone (u := u) hm hseg hkept
    refine ⟨_, hexec, inBlock_mk .., ?_, ?_⟩
    · dsimp only
      rw [(marchReport_keeps ..).memSt (by decide), (TabSame.cond (.refl _) fun c => fuseRows_marching c ..).same, marchEnded_same]
    · obtain ⟨hfits, hpage⟩ := marchState_fits _ (marchState_mem (memNo m))
      dsimp only
      rw [(marchReport_regsOff ..).rd ⟨hfits, hpage⟩, ← marchEnded_state]
      exact Keeps.rd (S := [.cad, .fields, .mems, .mon, .nv, .faults]) (by simp) (by decide) ..
  · have hw := wiped_keeps s.b s.tick us.toNat
    have ht := tampered_keeps (s.b.wiped s.tick us.toNat) sc
    refine ⟨_, exec_tamperNAssert, rfl, ?_, ?_, ?_, ?_, ?_, fun a ha => ?_, fun a ha => clearBytes_other _ _ _ _ ha⟩
    · dsimp only
      rw [ht.hub (by decide), wiped_hub]
    · dsimp only
      rw [bit, tampered_rd (by decide) (by decide), wiped_keyValid]
      rfl
    · dsimp only
      rw [bit, tampered_seen]
      rfl
    · dsimp only
      rw [ht.same .agents (by decide), hw.same .agents (by decide)]
    · dsimp only
      rw [tampered_faults, hw.faults (by decide)]
    · exact clearBytes_same _ _ _ _ ⟨by omega, by omega⟩

end Sys2Proof.Machine
end

section
/-!
SUPPORT. Self-test of a field.
-/

namespace Sys2Proof.Machine

open Sys2Proof

/-! ### Lists in rising order -/

theorem mem_insertBy {α : Type} {key : α → Int} {x y : α} {l : List α} (h : y ∈ insertBy key x l) : y = x ∨ y ∈ l := by
  induction l with
  | nil => exact .inl (List.mem_singleton.1 h)
  | cons z l ih =>
    unfold insertBy at h
    split at h
    · exact List.mem_cons.1 h
    · obtain rfl | h := List.mem_cons.1 h
      · exact .inr List.mem_cons_self
      · exact (ih h).imp id (List.mem_cons_of_mem z)

theorem mem_of_mem_sortBy {α : Type} {key : α → Int} {y : α} {l : List α} (h : y ∈ sortBy key l) : y ∈ l := by
  induction l with
  | nil => exact h
  | cons x l ih => exact (mem_insertBy h).elim (fun e => e ▸ List.mem_cons_self) (fun h => List.mem_cons_of_mem x (ih h))

namespace Block

variable {b : Block} {f : Nat}

/-- An item that fails is one of its code's. -/
theorem itemsFailed_index {l : List BistItem} {x : Nat × Nat} (h : x ∈ b.itemsFailed f l) : x.2 < itemCount x.1 := by
  have h := mem_of_mem_sortBy h
  rw [List.mem_eraseDups] at h
  obtain ⟨y, hy, rfl⟩ := List.mem_map.1 h
  have hy := (List.mem_filter.1 hy).2
  rw [Bool.and_eq_true] at hy
  have ht := hy.1
  rw [tested, Bool.and_eq_true, Bool.and_eq_true] at ht
  exact of_decide_eq_true ht.1.2

/-! ### What the outcome of items leaves: the registers of F_BIST (R343, R344) -/

/-- The pages that phases and channels write: F_EST and F_PHASE. -/
def phasePages : List Nat := [0x41, 0x49]

theorem phaseState_fits : ∀ p < 20, (F_PHASE.STATE p).Fits ∧ (F_PHASE.STATE p).page ∈ phasePages := by decide

theorem chanInvalid_fits : ∀ p < 20, (F_PHASE.CHAN_INVALID p).Fits ∧ (F_PHASE.CHAN_INVALID p).page ∈ phasePages := by decide

theorem setPhaseState_phasePages {p : Nat} (hp : p < 20) (b : Block) (now f st : Nat) : b.RegsOff phasePages (b.setPhaseState now f p st) := by
  unfold setPhaseState
  exact (regsOff_cond fun c => (regsOff_modRail ..).2 (.refl ..)).2 ((regsOff_cond fun c => (regsOff_modPhase ..).2 (.refl ..)).2
    ((regsOff_wr (phaseState_fits p hp) ..).2 (.refl ..)))

theorem chanLost_phasePages {p : Nat} (hp : p < 20) (b : Block) (f : Nat) : b.RegsOff phasePages (b.chanLost f p) := by
  unfold chanLost
  dsimp only
  split
  · exact (regsOff_modPhase ..).2 (.refl ..)
  · exact (regsOff_fault ..).2 ((regsOff_inc (by decide) _).2 ((regsOff_wr (chanInvalid_fits p hp) ..).2 ((regsOff_modPhase ..).2 (.refl ..))))

theorem putCad_regsOff (P : List Nat) (b : Block) (now f s : Nat) (g : Cad → Cad) : b.RegsOff P (b.putCad now f s g) :=
  Keeps.regsOff (S := [.cad, .mon, .nv]) (by simp) (by decide) P

theorem itemFailed_phasePages {x : Nat × Nat} (hx : x.2 < itemCount x.1) (b : Block) (now f : Nat) :
    b.RegsOff phasePages (b.itemFailed now f x) := by
  have hfault : b.RegsOff phasePages (b.fault 29 f (x.1 * 4096 + x.2) 0) := (regsOff_fault ..).2 (.refl ..)
  unfold itemFailed
  dsimp only
  split
  · refine hfault.trans ?_
    unfold Block.cond
    split
    · exact (regsOff_modSensor ..).2 ((regsOff_modSensor ..).2 (.refl ..))
    · exact (regsOff_modSensor ..).2 (.refl ..)
  · exact hfault.trans (putCad_regsOff ..)
  · exact hfault.trans (putCad_regsOff ..)
  · refine (regsOff_modFu ..).2 (hfault.trans ?_)
    unfold Block.cond
    split
    next h => exact chanLost_phasePages (of_decide_eq_true h) ..
    next => exact .refl ..
  next h6 =>
    rw [h6] at hx
    exact hfault.trans (setPhaseState_phasePages hx ..)
  · exact hfault

theorem itemsPassed_phasePages (b : Block) (now f : Nat) (failed : List (Nat × Nat)) : b.RegsOff phasePages (b.itemsPassed now f failed) := by
  unfold itemsPassed
  dsimp only
  refine (regsOff_modFu ..).2 ((regsOff_each fun k c => (regsOff_modSensor ..).2 (.refl ..)).2 ((regsOff_each_mem fun p hp c => ?_).2
    ((regsOff_each fun k c => putCad_regsOff ..).2 (.refl ..))))
  exact setPhaseState_phasePages (List.mem_range.1 (List.mem_filter.1 hp).1) ..

theorem putTrims_regsOff (P : List Nat) (b : Block) (now f : Nat) (failed : List (Nat × Nat)) (l : List BistItem) :
    b.RegsOff P (b.putTrims now f failed l) := Keeps.regsOff (S := [.cad, .mon, .nv]) (by simp) (by decide) P

/-! ### The registers of F_BIST after a run (R343) -/

theorem vec_apart : ∀ k < 72, (F_BIST.VEC k).apart F_BIST.RUNS = true := by decide

theorem putBist_runs (b : Block) (now f : Nat) (failed : List (Nat × Nat)) (untested : Nat) :
    (b.putBist now f failed untested).rd F_BIST.RUNS f = (b.rd F_BIST.RUNS f + 1) % 2 ^ F_BIST.RUNS.width := by
  unfold putBist
  dsimp only
  rw [rd_cond fun c => rd_fault .., rd_wr_apart (by decide), rd_inc_same, rd_wr_apart (by decide), rd_wr_apart (by decide), rd_wr_apart (by decide),
    rd_wr_apart (by decide), rd_wr_apart (by decide), rd_wr_apart (by decide), rd_wr_apart (by decide)]
  rw [each_inv (I := fun c => c.rd F_BIST.RUNS f = b.rd F_BIST.RUNS f) (fun k hk c hc => (rd_wr_apart (vec_apart k (List.mem_range.1 hk)) ..).trans hc) rfl]

theorem putBist_state (b : Block) (now f : Nat) (failed : List (Nat × Nat)) (untested : Nat) :
    (b.putBist now f failed untested).rd F_BIST.STATE f = if failed.isEmpty then 2 else 3 := by
  unfold putBist
  dsimp only
  rw [rd_cond fun c => rd_fault .., rd_wr_apart (by decide), rd_inc_apart (by decide), rd_wr_apart (by decide), rd_wr_apart (by decide),
    rd_wr_apart (by decide), rd_wr_same]
  split <;> rfl

theorem putBist_failed (b : Block) (now f : Nat) (failed : List (Nat × Nat)) (untested : Nat) :
    (b.putBist now f failed untested).rd F_BIST.FAILED f = failed.length % 2 ^ F_BIST.FAILED.width := by
  unfold putBist
  dsimp only
  rw [rd_cond fun c => rd_fault .., rd_wr_apart (by decide), rd_inc_apart (by decide), rd_wr_apart (by decide), rd_wr_same]

/-! ### A field's self-test ends (R343, R344) -/

/-- The outcome of the items, and the registers of the run. -/
def bistJudged (b : Block) (now f : Nat) (l : List BistItem) : Block :=
  (((b.putBist now f (b.itemsFailed f l) (b.untestedCount f)).putTrims now f (b.itemsFailed f l) l).itemsPassed now f (b.itemsFailed f l)).each
    (b.itemsFailed f l) (fun b x => b.itemFailed now f x)

/-- The run of the field is over. -/
def bistEnded (b : Block) (now f : Nat) (l : List BistItem) : Block :=
  (b.bistJudged now f l).modFu f (fun u => { u with bistRunning := false, bistItems := [], bistPhases := 0 })

theorem bistEnded_phasePages (b : Block) (now f : Nat) (l : List BistItem) :
    (b.putBist now f (b.itemsFailed f l) (b.untestedCount f)).RegsOff phasePages (b.bistEnded now f l) :=
  (regsOff_modFu ..).2 ((regsOff_each_mem fun _ hx c => itemFailed_phasePages (itemsFailed_index hx) c now f).2
    ((putTrims_regsOff ..).trans (itemsPassed_phasePages ..)))

theorem bistEnded_running (b : Block) (now f : Nat) (l : List BistItem) : ((b.bistEnded now f l).fu f).bistRunning = false := by
  unfold bistEnded
  rw [fu_modFu_same]

theorem bistEnded_keeps (b : Block) (now f : Nat) (l : List BistItem) :
    b.Keeps [.regs, .cad, .sensors, .fields, .rails, .phases, .mon, .nv, .faults] (b.bistEnded now f l) := by
  unfold bistEnded bistJudged
  simp

end Block

open Block

/-! ### Reports of self-tests (R343) -/

theorem bistReport_none {f pt : Nat} {s : State} (h : (s.b.port pt).flight = none) : bistReport f pt s = s := by
  unfold bistReport
  rw [h]

/-- What a report leaves: everything but host memory and the block, and of the block the registers off the window and the fields. -/
structure BistSaid (s t : State) : Prop where
  same : t = { s with host := t.host, b := t.b }
  regs : s.b.RegsOff windowPages t.b
  keeps : s.b.Keeps [.regs, .ports, .hub] t.b

theorem BistSaid.refl (s : State) : BistSaid s s := ⟨rfl, .refl .., .refl ..⟩

theorem BistSaid.trans {s t u : State} (h : BistSaid s t) (h' : BistSaid t u) : BistSaid s u :=
  ⟨by rw [h'.same, h.same], h.regs.trans h'.regs, h.keeps.trans h'.keeps⟩

theorem data_window (p : CmdPort) {k : Nat} (hk : k < 256) :
    (HUB_CMD.DATA (portNo p) k).Fits ∧ (HUB_CMD.DATA (portNo p) k).page ∈ windowPages := by
  have hpage : ∀ p : CmdPort, 0x13 + portNo p < 256 ∧ 0x13 + portNo p ∈ windowPages := fun p => by cases p <;> decide
  refine ⟨⟨(hpage p).1, ?_, show 0 < 32 by decide⟩, (hpage p).2⟩
  show 0x400 + 4 * k < 4096
  omega

theorem putArea_window (p : CmdPort) {l : List Nat} (hl : l.length ≤ 1024) (b : Block) : b.RegsOff windowPages (b.putArea (portNo p) l) := by
  unfold putArea
  refine (regsOff_each_mem fun k hk c => (regsOff_wr (data_window p ?_) ..).2 (.refl ..)).2 (.refl ..)
  have := List.mem_range.1 hk
  omega

theorem bistEntries_length (b : Block) (c : Cmd) : ((c.fset 0).flatMap b.bistEntry).length ≤ 1024 := by
  have hentry : ∀ f, (b.bistEntry f).length = 8 := fun f => by simp [bistEntry]
  have hfset : (c.fset 0).length ≤ 84 := by
    refine (List.length_filter_le ..).trans ?_
    simp [Machine.allFields]
  rw [List.length_flatMap]
  simp only [hentry, List.map_const', List.sum_replicate, smul_eq_mul]
  omega

theorem writeBuf_said {s : State} {c : Cmd} {l : List Nat} (hl : l.length ≤ 1024) (k : Nat) : BistSaid s (writeBuf s c k l) := by
  unfold writeBuf
  split
  · exact ⟨rfl, putArea_window c.port hl s.b, by simp⟩
  · exact ⟨rfl, .refl .., .refl ..⟩

/-- The entries of the named fields in the command's buffer, where it has one. -/
def bistWritten (c : Cmd) (s : State) : State := if c.bufLen 3 = 0 then s else writeBuf s c 3 ((c.fset 0).flatMap s.b.bistEntry)

theorem bistWritten_said (c : Cmd) (s : State) : BistSaid s (bistWritten c s) := by
  unfold bistWritten
  split
  · exact .refl s
  · exact writeBuf_said (bistEntries_length ..) 3

theorem BistSaid.done {s t : State} (h : BistSaid s t) {pt : Nat} (hpt : pt < 3) (now : Nat) (data : List Nat) :
    BistSaid s { t with b := t.b.done now pt data } := by
  refine h.trans ⟨rfl, ?_, ?_⟩
  · exact (regsOff_done (List.Subset.refl _) now hpt data).2 (.refl ..)
  · exact (keeps_done (List.Subset.refl _) ..).2 (.refl ..)

/-- A report writes and completes, waits for the other fields, or is not this command's. -/
theorem bistReport_cases (f pt : Nat) (s : State) : bistReport f pt s = s ∨ (∃ w, bistReport f pt s = { s with b := s.b.await pt w }) ∨
    ∃ c now data, bistReport f pt s = { bistWritten c s with b := (bistWritten c s).b.done now pt data } := by
  unfold bistReport
  split
  · exact .inl rfl
  · split
    · split
      · exact .inl rfl
      · dsimp only
        split
        · exact .inr (.inr ⟨_, _, _, rfl⟩)
        · exact .inr (.inl ⟨_, rfl⟩)
    · exact .inl rfl

theorem bistReport_said {pt : Nat} (hpt : pt < 3) (f : Nat) (s : State) : BistSaid s (bistReport f pt s) := by
  obtain h | ⟨w, h⟩ | ⟨c, now, data, h⟩ := bistReport_cases f pt s
  · rw [h]
    exact .refl s
  · rw [h]
    exact ⟨rfl, (regsOff_await ..).2 (.refl ..), by simp⟩
  · rw [h]
    exact (bistWritten_said c s).done hpt now data

/-- The reports on the three ports. -/
def bistReports (f : Nat) (s : State) : State := [0, 1, 2].foldl (fun s pt => bistReport f pt s) s

theorem bistReports_said (f : Nat) (s : State) : BistSaid s (bistReports f s) :=
  (bistReport_said (by decide) f s).trans ((bistReport_said (by decide) f _).trans (bistReport_said (by decide) f _))

theorem bistReports_none {s : State} (h : ∀ pt, pt < 3 → (s.b.port pt).flight = none) (f : Nat) : bistReports f s = s := by
  have hsame : ∀ pt < 3, bistReport f pt s = s := fun pt hpt => bistReport_none (h pt hpt)
  show bistReport f 2 (bistReport f 1 (bistReport f 0 s)) = s
  rw [hsame 0 (by decide), hsame 1 (by decide), hsame 2 (by decide)]

/-! ### BIST_RUN and BIST_COMPLETE (R342 to R344) -/

theorem bistStart_same (b : Block) (items : List Nat) (f : Nat) :
    ((b.bistStart items f).fu f).bistRunning = true ∧ (b.bistStart items f).rd F_BIST.STATE f = 1 := by
  unfold bistStart
  rw [(wr_keeps ..).fu (by decide), fu_modFu_same, rd_wr_same]
  exact ⟨rfl, rfl⟩

theorem bistStart_other {f g : Nat} (h : g ≠ f) (b : Block) (items : List Nat) :
    (b.bistStart items f).fu g = b.fu g ∧ (b.bistStart items f).rd F_BIST.STATE g = b.rd F_BIST.STATE g := by
  unfold bistStart
  rw [(wr_keeps ..).fu (by decide), fu_modFu_other _ _ h, rd_wr_instance h, rd_modFu]
  exact ⟨rfl, rfl⟩

/-- What BIST_RUN shows of a field. -/
def bistMarks (f : Nat) (b : Block) : Bool × Nat := ((b.fu f).bistRunning, b.rd F_BIST.STATE f)

theorem bistStarts_marks {l : List Nat} {f : Nat} (hf : f ∈ l) (b : Block) (items : List Nat) :
    bistMarks f (b.each l (fun b f => b.bistStart items f)) = (true, 1) := by
  refine each_reaches (p := bistMarks f) (fun b => ?_) (fun b y => ?_) hf b
  · obtain ⟨hrun, hstate⟩ := bistStart_same b items f
    rw [bistMarks, hrun, hstate]
  · obtain rfl | hy := eq_or_ne f y
    · obtain ⟨hrun, hstate⟩ := bistStart_same b items f
      rw [bistMarks, hrun, hstate]
      exact .inl rfl
    · obtain ⟨hfu, hstate⟩ := bistStart_other hy b items
      rw [bistMarks, hfu, hstate]
      exact .inr rfl

/-- The named fields' self-tests start, and the command waits for them. -/
def Block.bistTaken (b : Block) (now : Nat) (c : Cmd) : Block :=
  (((b.begun now 0x81 c).accept now (portNo c.port) []).each (c.fset 0) (fun b f => b.bistStart [1, 2, 3, 4, 5, 6] f)).await (portNo c.port)
    (.bist (c.fset 0) 0 0 0 0)

theorem exec_bistRun {c : Cmd} {s : State} (h : Passes 0x81 c s) (hidle : (c.fset 0).any (fun f => (s.b.fu f).bistRunning) = false)
    (hlen : c.bufLen 3 = 0) (hbuf : s.b.bufCheck c 3 0 = none) : exec (.bistRun c) s = .next { s with b := s.b.bistTaken s.tick c } := by
  have hidle' : (c.fset 0).any (fun f => ((s.b.begun s.tick 0x81 c).fu f).bistRunning) = false := by
    simpa only [(begun_keeps ..).fu (show Part.fields ∉ [Part.regs, .ports] by decide)] using hidle
  show execBistRun c s = _
  rw [execBistRun, h.runCmdB_eq]
  dsimp only
  rw [if_neg (fun e => Bool.false_ne_true (hidle'.symm.trans e)), if_pos hlen, bufCheck_begun, hbuf]
  rfl

theorem bistTaken_keeps (b : Block) (now : Nat) (c : Cmd) : b.Keeps [.regs, .ports, .hub, .fields] (b.bistTaken now c) := by
  unfold bistTaken begun submit
  simp

theorem bistTaken_waits (s : State) (c : Cmd) : Waits c (.bist (c.fset 0) 0 0 0 0) { s with b := s.b.bistTaken s.tick c } := by
  have hstarts : ∀ (a : Block) (l : List Nat), a.Keeps [.regs, .fields] (a.each l (fun b f => b.bistStart [1, 2, 3, 4, 5, 6] f)) :=
    fun a l => (keeps_each (fun _ _ => by simp)).2 (.refl _ a)
  refine waits_accepted (op := 0x81) _ ?_
  unfold bistTaken await
  rw [port_modPort_same, port_modPort_same, (hstarts ..).port (by decide)]

theorem exec_bistComplete {f : FieldNo} {i : BistIn} {s : State} (h : (s.b.fu f).bistRunning = true) :
    exec (.bistComplete f i) s = .next (bistReports f { s with b := s.b.bistEnded s.tick f i.items }) := by
  show execBistComplete f i s = _
  unfold execBistComplete
  rw [if_neg (by rw [h]; decide)]
  rfl

theorem exec_bistComplete_none {f : FieldNo} {i : BistIn} {s : State} (h : (s.b.fu f).bistRunning = false) :
    exec (.bistComplete f i) s = .next s := by
  show execBistComplete f i s = _
  unfold execBistComplete
  rw [if_pos (by rw [h]; rfl)]

end Sys2Proof.Machine
end

section
/-!
SUPPORT. The life cycle and its fusing record; O57.
-/

namespace Sys2Proof.Machine

open Sys2Proof Block

/-! ### An advance of the state (R339) -/

section Advance

/-- The block after an advance of the life cycle. -/
def Block.advanced (b : Block) (now want sc : Nat) : Block :=
  (((b.fresh.2.wiped now (b.fresh.1 % 1001)).modNv (fun n => { n with lifecycle := want })).wr HUB_SEC.LC_PENDING 0 1).monEvent now sc 0x41
    (srcHub + 3) [b.nv.lifecycle, want]

theorem advance_eq (want sc : Nat) (s : State) :
    advance want sc s = { s with mem := clearBytes s.mem (memBase 84 + 0x3C0000) 0x40000, b := s.b.advanced s.tick want sc } := rfl

theorem fresh_keeps (b : Block) : b.Keeps [.free] b.fresh.2 := by simp

theorem advanced_nv (b : Block) (now want sc : Nat) : (b.advanced now want sc).nv = { b.nv with lifecycle := want } := by
  unfold advanced
  rw [(monEvent_keeps ..).nv (by decide), (wr_keeps ..).nv (by decide)]
  show { (b.fresh.2.wiped now (b.fresh.1 % 1001)).nv with lifecycle := want } = _
  rw [(wiped_keeps ..).nv (by decide), (fresh_keeps b).nv (by decide)]

theorem advanced_hub (b : Block) (now want sc : Nat) : (b.advanced now want sc).hub = { b.hub with attKey := none, mlog := [] } := by
  unfold advanced
  rw [(monEvent_keeps ..).hub (by decide), (wr_keeps ..).hub (by decide), (modNv_keeps ..).hub (by decide), wiped_hub,
    (fresh_keeps b).hub (by decide)]

theorem advanced_keeps (b : Block) (now want sc : Nat) : b.Keeps [.regs, .mems, .mon, .nv, .hub, .free] (b.advanced now want sc) := by
  unfold advanced
  exact ((fresh_keeps b).mono (by simp)).trans (((wiped_keeps ..).mono (by simp)).trans (((modNv_keeps ..).mono (by simp)).trans
    (((wr_keeps ..).mono (by simp)).trans ((monEvent_keeps ..).mono (by simp)))))

end Advance

/-! ### The fusing record (R340) -/

theorem fieldAt_nil (off n : Nat) : fieldAt [] off n = 0 := by
  have hzero : ∀ k, leNat (List.replicate k 0) = 0 := fun k => by
    induction k with
    | zero => rfl
    | succ k ih => rw [List.replicate_succ, leNat, ih]
  have hslice : sliceAt [] off n = List.replicate n 0 := by simp [sliceAt]
  rw [fieldAt, hslice, hzero]

theorem fuseFails_nil (n : Nonvol) (u : Nat) : n.fuseFails [] u = [] := by
  unfold Nonvol.fuseFails
  rw [fieldAt_nil]
  simp

theorem nonempty_of_fuseBad {waferId : Nat} {r : List Nat} (h : fuseBad waferId r = none) : r.isEmpty = false := by
  cases r with
  | nil =>
    unfold fuseBad at h
    dsimp only at h
    rw [if_pos (.inl (by rw [fieldAt_nil]; decide))] at h
    cases h
  | cons x l => rfl

/-! ### LIFECYCLE_ADVANCE (R339, R340) -/

section Lifecycle

variable {c : Cmd} {u : BitVec 4} {s : State}

theorem readBuf_none (h : c.bufLen 1 = 0) : readBuf s c 1 = [] := by
  unfold readBuf
  rw [h]
  split <;> rfl

/-- The command taken. -/
def lcTaken (c : Cmd) (s : State) : State := { s with b := s.b.begun s.tick 0x79 c }

theorem lcTaken_nv (c : Cmd) (s : State) : (lcTaken c s).b.nv = s.b.nv := (begun_keeps ..).nv (by decide)

/-- The state named in place of the present one. -/
def lcMoved (want sc : Nat) (s : State) : State := if want = s.b.nv.lifecycle then s else advance want sc s

theorem exec_lifecycle_moved (h : Passes 0x79 c s) (hden : lcDenied s c = none) (hlen : c.bufLen 1 = 0) (hbuf : s.b.bufCheck c 1 0 = none)
    (h2 : c.arg 0 % 4 = 2 → (s.b.nv.vminFused && s.b.nv.keysFused) = true) (h3 : c.arg 0 % 4 ≠ 3) :
    exec (.lifecycleAdvance ⟨c, u⟩) s = .next { lcMoved (c.arg 0 % 4) c.sc (lcTaken c s) with
      b := (lcMoved (c.arg 0 % 4) c.sc (lcTaken c s)).b.done s.tick (portNo c.port) [] } := by
  have hnv := lcTaken_nv c s
  have hread : readBuf (lcTaken c s) c 1 = [] := readBuf_none hlen
  show execLifecycleAdvance ⟨c, u⟩ s = _
  unfold execLifecycleAdvance
  dsimp only
  rw [hden, h.runCmd_eq]
  have hgoal : (lcTaken c s).b.bufCheck c 1 0 = none := (bufCheck_begun ..).trans hbuf
  unfold lcTaken at hread hgoal hnv
  dsimp only at hread hgoal hnv ⊢
  rw [hgoal, hread, hnv]
  simp only [ite_self, List.isEmpty_nil, Bool.not_true, Bool.false_and, if_true, Bool.false_eq_true, if_false, fuseFails_nil, ne_eq,
    not_true_eq_false]
  rw [if_neg (fun e => e.2.1 hlen), if_neg (fun e => Bool.false_ne_true (e.2.symm.trans (h2 e.1))), if_neg (fun e => h3 e.1)]
  unfold lcMoved
  rw [lcTaken_nv]
  rfl

/-- What a fusing record leaves of the fuses, and the event that says so. -/
def Block.fused (b : Block) (now sc : Nat) (r : List Nat) : Block :=
  (b.modNv (fun n => n.fuse r (fieldAt r 6 2))).monEvent now sc 0x44 (srcHub + 3) (leBytes 2 (fieldAt r 6 2) ++ [b.nv.lifecycle])

/-- The outcome of a fusing record that passes its checks. -/
theorem exec_lifecycle_fuses {r : List Nat} (h : Passes 0x79 c s) (hden : lcDenied s c = none) (hlc : s.b.nv.lifecycle = 1)
    (hwant : c.arg 0 % 4 = 1) (hlen : c.bufLen 1 = 228) (hbuf : s.b.bufCheck c 1 0 = none) (hr : r = readBuf s c 1)
    (hbad : fuseBad s.b.nv.waferId r = none) (hclash : s.b.nv.fuseClash r = false) : exec (.lifecycleAdvance ⟨c, u⟩) s =
      if s.b.nv.fuseFails r u.toNat ≠ [] then
        .next { s with b := ((s.b.begun s.tick 0x79 c).fuseUnread r u.toNat).stop s.tick (portNo c.port) stUnmet 0 }
      else .next { s with b := ((s.b.begun s.tick 0x79 c).fused s.tick c.sc r).done s.tick (portNo c.port) [] } := by
  have hnv := lcTaken_nv c s
  have hread : readBuf (lcTaken c s) c 1 = r := (readBuf_begun ..).trans hr.symm
  have hgoal : (lcTaken c s).b.bufCheck c 1 0 = none := (bufCheck_begun ..).trans hbuf
  have hsome : r.isEmpty = false := nonempty_of_fuseBad hbad
  show execLifecycleAdvance ⟨c, u⟩ s = _
  unfold execLifecycleAdvance
  dsimp only
  rw [hden, h.runCmd_eq]
  unfold lcTaken at hread hgoal hnv
  dsimp only at hread hgoal hnv ⊢
  rw [hgoal, hread, hnv, hwant, hlc]
  simp only [if_true, hsome, hbad, hclash, Bool.not_false, Bool.and_false, Bool.false_eq_true, if_false, hlen]
  rw [if_neg (by decide), if_neg (fun e => absurd e.1 (by decide)), if_neg (fun e => absurd e.1 (by decide))]
  split
  next => rfl
  next =>
    unfold withFuses
    rw [hsome]
    rfl

theorem exec_lifecycle_denied {d : Nat} (h : Passes 0x79 c s) (hden : lcDenied s c = some d) : exec (.lifecycleAdvance ⟨c, u⟩) s =
    .next { s with b := (s.b.begun s.tick 0x79 c).stop s.tick (portNo c.port) stDenied d } := by
  show execLifecycleAdvance ⟨c, u⟩ s = _
  unfold execLifecycleAdvance
  dsimp only
  rw [hden, h.runCmd_denied]

end Lifecycle

/-! ### Settling O57 -/

/-- LIFECYCLE_ADVANCE without a record: the state named is there already, or it is taken with a wipe. -/
theorem lifecycle_moved {c : Cmd} {u : BitVec 4} {s : State} (h : Passes 0x79 c s) (hden : lcDenied s c = none) (hlen : c.bufLen 1 = 0)
    (hbuf : s.b.bufCheck c 1 0 = none) (h2 : c.arg 0 % 4 = 2 → (s.b.nv.vminFused && s.b.nv.keysFused) = true) (h3 : c.arg 0 % 4 ≠ 3)
    (hroom : s.b.hub.staged.length < 16) :
    ∃ t, exec (.lifecycleAdvance ⟨c, u⟩) s = .next t ∧ t = { s with mem := t.mem, b := t.b } ∧ Answered 0x79 stDone c t ∧
      t.b.nv = { s.b.nv with lifecycle := c.arg 0 % 4 } ∧
      (c.arg 0 % 4 ≠ s.b.nv.lifecycle → t.b.hub.attKey = none ∧ ∀ a, a < 0x40000 → mget 0 t.mem (memBase 84 + 0x3C0000 + a) = 0) ∧
      ∀ a, outside (memBase 84 + 0x3C0000) 0x40000 a → mget 0 t.mem a = mget 0 s.mem a := by
  have hexec := exec_lifecycle_moved (u := u) h hden hlen hbuf h2 h3
  have htaken := begun_taken 0x79 c s.tick hroom
  by_cases hsame : c.arg 0 % 4 = s.b.nv.lifecycle
  · rw [lcMoved, lcTaken_nv, if_pos hsame] at hexec
    refine ⟨_, hexec, rfl, htaken.answered (by decide) (by decide) (by decide) s, ?_, fun hne => absurd hsame hne, fun a _ => rfl⟩
    dsimp only
    rw [done, (answer_keeps ..).nv (by decide), lcTaken_nv, hsame]
  · rw [lcMoved, lcTaken_nv, if_neg hsame, advance_eq] at hexec
    have hadvanced : Taken 0x79 c s.tick ((lcTaken c s).b.advanced s.tick (c.arg 0 % 4) c.sc) :=
      htaken.of_hubSame (advanced_keeps ..) (by decide) ⟨fun _ => by rw [advanced_hub]; rfl⟩
    refine ⟨_, hexec, rfl, hadvanced.answered (by decide) (by decide) (by decide) _, ?_, fun _ => ⟨?_, fun a ha => ?_⟩,
      fun a ha => clearBytes_other _ _ _ _ ha⟩
    · dsimp only
      rw [done, (answer_keeps ..).nv (by decide)]
      exact (advanced_nv ..).trans (by rw [lcTaken_nv])
    · have hkey := congrArg Hub.attKey (hadvanced.answer_hub (status := stDone) (by decide) s.tick 0 [])
      exact hkey.trans (congrArg Hub.attKey (advanced_hub ..))
    · exact clearBytes_same _ _ _ _ ⟨by omega, by omega⟩

theorem fuseUnread_nv (b : Block) (r : List Nat) (u : Nat) : (b.fuseUnread r u).nv = b.nv.fuse r (fuseFlags r u) := by
  unfold fuseUnread
  have hfaults (l : List Nat) (a : Block) : a.Keeps [.fields, .faults] (a.each l (fun b k => b.fault 29 255 (0x9000 + k) 0)) :=
    (keeps_each fun _ _ => by simp).2 (.refl _ a)
  exact (hfaults ..).nv (by decide)

theorem fused_nv (b : Block) (now sc : Nat) (r : List Nat) : (b.fused now sc r).nv = b.nv.fuse r (fieldAt r 6 2) := by
  unfold fused
  exact (monEvent_keeps ..).nv (by decide)

theorem fused_keeps (b : Block) (now sc : Nat) (r : List Nat) : b.Keeps [.regs, .mon, .nv] (b.fused now sc r) := by
  unfold fused
  exact ((modNv_keeps ..).mono (by simp)).trans ((monEvent_keeps ..).mono (by simp))

/-- BIST_COMPLETE of a field whose test runs. -/
theorem bistComplete_shown {f : FieldNo} {i : BistIn} {s : State} (h : (s.b.fu f).bistRunning = true) :
    ∃ t, exec (.bistComplete f i) s = .next t ∧ t = { s with host := t.host, b := t.b } ∧ (t.b.fu f).bistRunning = false ∧
      t.b.rd F_BIST.STATE f = (if (s.b.itemsFailed f i.items).isEmpty then 2 else 3) ∧
      t.b.rd F_BIST.RUNS f = (s.b.rd F_BIST.RUNS f + 1) % 2 ^ F_BIST.RUNS.width ∧
      t.b.rd F_BIST.FAILED f = (s.b.itemsFailed f i.items).length % 2 ^ F_BIST.FAILED.width ∧
      ((∀ pt, pt < 3 → (s.b.port pt).flight = none) → t.host = s.host) := by
  obtain ⟨hsame, hregs, hkeeps⟩ := bistReports_said f { s with b := s.b.bistEnded s.tick f i.items }
  have hoff := bistEnded_phasePages s.b s.tick f i.items
  refine ⟨_, exec_bistComplete h, hsame.trans rfl, ?_, ?_, ?_, ?_, fun hidle => ?_⟩
  · rw [hkeeps.fu (by decide), bistEnded_running]
  · rw [hregs.rd (by decide), hoff.rd (by decide), putBist_state]
  · rw [hregs.rd (by decide), hoff.rd (by decide), putBist_runs]
  · rw [hregs.rd (by decide), hoff.rd (by decide), putBist_failed]
  · rw [bistReports_none (fun pt hpt => ?_)]
    rw [(bistEnded_keeps ..).port (by decide)]
    exact hidle pt hpt

/-- Settles O57. -/
theorem selfTestAndLifeCycle : Obligations.SelfTestAndLifeCycle := by
  unfold Obligations.SelfTestAndLifeCycle
  refine ⟨fun c s hpass hidle hlen hbuf => ?_, fun f i s h => bistComplete_shown h, fun f i s h => exec_bistComplete_none h,
    fun c u s hpass hden hlen hbuf h2 h3 hroom => lifecycle_moved hpass hden hlen hbuf h2 h3 hroom, fun c u d s hpass hden hroom => ?_,
    fun c u r s hpass hden hlc hwant hlen hbuf hr hbad hclash hroom => ⟨fun hnone => ?_, fun hsome => ?_⟩⟩
  · refine ⟨_, exec_bistRun hpass hidle hlen hbuf, inBlock_mk .., bistTaken_waits s c, (bistTaken_keeps ..).same .agents (by decide), fun f hf => ?_⟩
    have hmarks := bistStarts_marks hf ((s.b.begun s.tick 0x81 c).accept s.tick (portNo c.port) []) [1, 2, 3, 4, 5, 6]
    exact ⟨congrArg Prod.fst hmarks, congrArg Prod.snd hmarks⟩
  · refine ⟨_, exec_lifecycle_denied hpass hden, inBlock_mk .., (begun_taken 0x79 c s.tick hroom).answered (by decide) (by decide) (by decide) s, ?_⟩
    dsimp only
    rw [stop, (answer_keeps ..).nv (by decide), (begun_keeps ..).nv (by decide)]
  · have hexec := exec_lifecycle_fuses (u := u) hpass hden hlc hwant hlen hbuf hr hbad hclash
    rw [if_neg (not_not_intro hnone)] at hexec
    have htaken : Taken 0x79 c s.tick ((s.b.begun s.tick 0x79 c).fused s.tick c.sc r) :=
      (begun_taken 0x79 c s.tick hroom).of_keeps (fused_keeps ..) (by decide) (by decide)
    refine ⟨_, hexec, inBlock_mk .., htaken.answered (by decide) (by decide) (by decide) s, ?_⟩
    dsimp only
    rw [done, (answer_keeps ..).nv (by decide), fused_nv, (begun_keeps ..).nv (by decide)]
  · have hexec := exec_lifecycle_fuses (u := u) hpass hden hlc hwant hlen hbuf hr hbad hclash
    rw [if_pos hsome] at hexec
    have htaken : Taken 0x79 c s.tick ((s.b.begun s.tick 0x79 c).fuseUnread r u.toNat) :=
      (begun_taken 0x79 c s.tick hroom).of_keeps (S := [.fields, .nv, .faults]) (by simp) (by decide) (by decide)
    refine ⟨_, hexec, inBlock_mk .., htaken.answered (by decide) (by decide) (by decide) s, ?_⟩
    dsimp only
    rw [stop, (answer_keeps ..).nv (by decide), fuseUnread_nv, (begun_keeps ..).nv (by decide)]

end Sys2Proof.Machine
end

section
/-!
SUPPORT. The start: the boot image.
-/

namespace Sys2Proof.Machine

open Sys2Proof Block

/-! ### Phases and the manager state -/

theorem phaseNo_setPhaseNo (b : Block) {k : Nat} (hk : k < 16) : (b.setPhaseNo k).phaseNo = k := (rd_wr_same ..).trans (Nat.mod_eq_of_lt hk)

theorem setPhaseNo_keeps (b : Block) (k : Nat) : b.Keeps [.regs] (b.setPhaseNo k) := wr_keeps ..

theorem rd_setPhaseNo {x : Fld} (h : HUB_STATE.START_PHASE.apart x = true) (b : Block) (k i : Nat) : (b.setPhaseNo k).rd x i = b.rd x i :=
  rd_wr_apart h ..

theorem evalMgr_phaseNo (b : Block) (now : Nat) : (b.evalMgr now).phaseNo = b.phaseNo := by
  unfold evalMgr phaseNo
  dsimp only
  split
  · rfl
  · rw [rd_inc_apart (by decide), rd_wr_apart (by decide), rd_wr_apart (by decide), rd_wr_apart (by decide)]

theorem Block.mgrNow_lt (b : Block) : b.mgrNow < 16 := by
  unfold mgrNow
  dsimp only
  repeat' split
  all_goals decide

theorem evalMgr_mgr (b : Block) (now : Nat) : (b.evalMgr now).mgr = b.mgrNow := by
  unfold evalMgr
  dsimp only
  split
  next h => exact h
  next =>
    rw [mgr, rd_inc_apart (by decide), rd_wr_apart (by decide), rd_wr_same]
    exact Nat.mod_eq_of_lt b.mgrNow_lt

theorem mgrNow_selftest {b : Block} (h : b.phaseNo = 5) : b.mgrNow = 2 := by
  unfold phaseNo at h
  unfold mgrNow
  dsimp only
  rw [h]
  rfl

theorem mgrNow_shutdown {b : Block} (h : b.phaseNo = 6) (hold : b.hub.shutHold = true) : b.mgrNow = 8 := by
  unfold phaseNo at h
  unfold mgrNow
  dsimp only
  rw [h, hold, Bool.or_true]
  rfl

/-! ### The flash answers (R306, R308, R350) -/

/-- The two image slots. -/
def imageSlots (m : Monument) : List Nat × List Nat := (m.imgA, m.imgB)

theorem imageSlots_stored : Monument.Stored imageSlots := fun _ _ _ _ _ _ _ _ _ _ => rfl

theorem slot_of_imageSlots {m n : Monument} (h : imageSlots m = imageSlots n) (useB : Bool) : m.slot useB = n.slot useB := by
  cases useB
  · exact congrArg Prod.fst h
  · exact congrArg Prod.snd h

theorem openFlash_slots (b : Block) (now : Nat) (i : BootIn) : imageSlots (b.openFlash now i).mon = imageSlots b.mon := by
  have hkeep (m : Monument) : imageSlots m.readHeader.keepHeader.keepAhead = imageSlots m := by
    rw [Monument.keepAhead_stored imageSlots_stored]
    unfold Monument.keepHeader
    split
    · split
      · exact Monument.wantErase_stored imageSlots_stored ..
      · rfl
    · split
      · exact Monument.wantErase_stored imageSlots_stored ..
      · rfl
  unfold openFlash
  dsimp only
  rw [(headerWrite_same imageSlots_stored ..).eq, (wr_keeps ..).mon (by decide)]
  refine (hkeep _).trans (congrArg imageSlots (Keeps.mon (S := [.regs, .fields, .faults]) ?_ (by decide)))
  simp

theorem openFlash_ready (b : Block) (now : Nat) (i : BootIn) : (b.openFlash now i).bit HUB_MONUMENT.READY 0 = true := by
  unfold openFlash
  dsimp only
  have hcrc (c : Block) (n : Nat) : (c.crcSkipped 3 n).rd HUB_MONUMENT.READY 0 = c.rd HUB_MONUMENT.READY 0 := by
    unfold crcSkipped
    exact each_inv (I := fun d => d.rd HUB_MONUMENT.READY 0 = c.rd HUB_MONUMENT.READY 0)
      (fun _ _ d hd => (rd_fault ..).trans ((rd_inc_apart (by decide) ..).trans hd)) rfl
  have hslow (c : Block) : ((c.wr HUB_MONUMENT.SLOW_PART 0 1).fault 2 255 4 0).rd HUB_MONUMENT.READY 0 = c.rd HUB_MONUMENT.READY 0 :=
    (rd_fault ..).trans (rd_wr_apart (by decide) ..)
  rw [bit, (headerWrite_keeps ..).rd (by decide), rd_wr_apart (by decide), rd_modMon, hcrc, rd_cond hslow]
  unfold showHeaders
  rw [rd_wr_apart (by decide), rd_wr_apart (by decide), rd_wr_apart (by decide), rd_wr_apart (by decide), rd_wr_apart (by decide),
    rd_wr_apart (by decide), rd_wr_same]
  rfl

/-- The ROM has measured itself, and the flash has answered where it is present. -/
def Block.bootRead (b : Block) (now : Nat) (i : BootIn) : Block :=
  (b.extend now 0 b.nv.romDigest).cond i.present (fun b => b.openFlash now i)

theorem bootRead_keeps (b : Block) (now : Nat) (i : BootIn) : b.Keeps [.regs, .fields, .mon, .hub, .faults] (b.bootRead now i) := by
  unfold bootRead
  simp

theorem bootRead_present {i : BootIn} (h : i.present = true) (b : Block) (now : Nat) :
    b.bootRead now i = (b.extend now 0 b.nv.romDigest).openFlash now i := cond_of_true h _

theorem bootRead_absent {i : BootIn} (h : i.present = false) (b : Block) (now : Nat) : b.bootRead now i = b.extend now 0 b.nv.romDigest :=
  cond_of_false h _

theorem bootRead_slots (b : Block) (now : Nat) (i : BootIn) : imageSlots (b.bootRead now i).mon = imageSlots b.mon := by
  have hrom : imageSlots (b.extend now 0 b.nv.romDigest).mon = imageSlots b.mon :=
    congrArg imageSlots (Keeps.mon (S := [.regs, .hub]) (by simp) (by decide))
  cases h : i.present
  · rw [bootRead_absent h, hrom]
  · rw [bootRead_present h, openFlash_slots, hrom]

theorem bootRead_bootable (b : Block) (now : Nat) (i : BootIn) (img : List Nat) : (b.bootRead now i).bootable img = b.bootable img := by
  rw [bootable, bootable, imageSound, imageSound, imageKey, imageKey, (bootRead_keeps ..).nv (by decide)]

/-! ### The slot that boots (R350) -/

/-- The ROM has chosen: slot B is shown valid or not, and the start goes on or not. -/
def Block.bootChosen (b : Block) (valid failed : Bool) : Block :=
  ((b.showStaged valid).wr HUB_FW.BOOT_SLOT 0 b.mon.bootSlotB.toNat).modHub (fun h => { h with bootFailed := failed })

theorem bootChosen_keeps (b : Block) (valid failed : Bool) : b.Keeps [.regs, .hub] (b.bootChosen valid failed) := by
  unfold bootChosen
  simp

/-- The digests of the stores join their registers. -/
def Block.storesExtended (b : Block) (now : Nat) : Block := (b.extend now 5 b.nv.configDigest).extend now 6 b.nv.calDigest

/-- The loader has placed the image's sections and read the stores. -/
def Block.bootLoaded (b : Block) (now : Nat) (useB : Bool) : Block := ((b.bootOn now useB).readStores.storesExtended now).setPhaseNo 4

section Boot

variable {i : BootIn} {s : State}

/-- Is a slot's image present and bootable? -/
def slotOk (i : BootIn) (b : Block) (slotB : Bool) : Bool := i.present && b.bootable (b.mon.slot slotB)

/-- The slot that the ROM takes. -/
def bootSlot (i : BootIn) (b : Block) : Bool := if b.mon.bootSlotB then slotOk i b true else !slotOk i b false

/-- No slot boots. -/
def noSlot (i : BootIn) (b : Block) : Bool := !slotOk i b false && !slotOk i b true

theorem exec_bootImageLoad (hreset : s.b.pins.inReset = false) (h1 : 1 ≤ s.b.phaseNo) (h3 : s.b.phaseNo ≤ 3) {r : Block}
    (hr : r = s.b.bootRead s.tick i) : exec (.bootImageLoad i) s =
      if noSlot i r then .next { s with b := (r.bootChosen (slotOk i r true) (noSlot i r)).setPhaseNo 3 }
      else .next { s with
        mem := (List.range 87).foldl (placeSection ((r.bootChosen (slotOk i r true) (noSlot i r)).mon.slot (bootSlot i r))) s.mem
        b := (r.bootChosen (slotOk i r true) (noSlot i r)).bootLoaded s.tick (bootSlot i r) } := by
  subst hr
  show execBootImageLoad i s = _
  unfold execBootImageLoad
  dsimp only
  rw [if_neg (by rw [hreset]; simp; omega)]
  rfl

theorem exec_bootImageLoad_late (h3 : 3 < s.b.phaseNo) : exec (.bootImageLoad i) s = .next s := by
  show execBootImageLoad i s = _
  unfold execBootImageLoad
  dsimp only
  rw [if_pos (.inr (.inr h3))]

theorem slotOk_bootRead (i : BootIn) (b : Block) (now : Nat) (slotB : Bool) : slotOk i (b.bootRead now i) slotB = slotOk i b slotB := by
  unfold slotOk
  rw [bootRead_bootable, slot_of_imageSlots (bootRead_slots ..)]

/-- A slot boots, and then the one taken does. -/
theorem bootSlot_ok {b : Block} (h : noSlot i b = false) : slotOk i b (bootSlot i b) = true := by
  unfold bootSlot noSlot at *
  cases hA : slotOk i b false <;> cases hB : slotOk i b true <;> cases b.mon.bootSlotB <;> simp_all

end Boot

/-! ### What the loader leaves -/

theorem bootChosen_slots (b : Block) (valid failed : Bool) : (b.bootChosen valid failed).mon = b.mon := (bootChosen_keeps ..).mon (by decide)

theorem bootChosen_hub (b : Block) (valid failed : Bool) : (b.bootChosen valid failed).hub = { b.hub with bootFailed := failed } := by
  unfold bootChosen
  rw [modHub_same]
  have hregs : b.Keeps [.regs] ((b.showStaged valid).wr HUB_FW.BOOT_SLOT 0 b.mon.bootSlotB.toNat) := by simp
  rw [hregs.hub (by decide)]

theorem extend_regsOff (b : Block) (now k : Nat) (d : List Nat) : b.RegsOff [0x21, 0x22] (b.extend now k d) := by
  unfold extend
  exact (regsOff_wr (by decide) ..).2 ((regsOff_modHub ..).2 (.refl ..))

/-- The hub after a register has been extended. -/
def extendedHub (now k : Nat) (d : List Nat) (h : Hub) : Hub := { h with
  mr := h.mr.set k (lowBits 384 (leNat (Config.sha384 (leBytes 48 (h.mr.getD k 0) ++ d))))
  extends_ := h.extends_.set k (lowBits 32 (h.extends_.getD k 0 + 1)), mlog := h.mlog ++ [(k, leNat d, now)] }

theorem extend_bootFailed (b : Block) (now k : Nat) (d : List Nat) : HubSame Hub.bootFailed b (b.extend now k d) := by
  unfold extend
  exact HubSame.keeps (S := [.regs]) (HubSame.modHub (.refl b) (u := extendedHub now k d) fun _ => rfl) (wr_keeps ..) (by decide)

theorem showStaged_regsOff (b : Block) (valid : Bool) : b.RegsOff [0x21, 0x22] (b.showStaged valid) := by
  unfold showStaged
  exact (regsOff_cond fun c => (regsOff_wr (by decide) ..).2 ((regsOff_wr (by decide) ..).2 ((regsOff_wr (by decide) ..).2 (.refl ..)))).2
    ((regsOff_wr (by decide) ..).2 (.refl ..))

theorem bootChosen_regsOff (b : Block) (valid failed : Bool) : b.RegsOff [0x21, 0x22] (b.bootChosen valid failed) := by
  unfold bootChosen
  exact (regsOff_modHub ..).2 ((regsOff_wr (by decide) ..).2 (showStaged_regsOff ..))

/-- Every class of an image extends its register. -/
def classesExtended (b : Block) (now : Nat) (img : List Nat) : Block :=
  b.each (List.range 4) (fun b k => b.extend now (k + 1) (secDigest img k))

/-- Every processor takes its section of the slot. -/
def procsLoaded (b : Block) (useB : Bool) : Block :=
  (b.modMon (fun m => { m with forceB := useB })).each (List.range 87) (fun b p =>
    (b.modProc p (fun q => { q with imageB := useB, loaded := true })).enterComp p 0)

theorem bootOn_eq (b : Block) (now : Nat) (useB : Bool) : b.bootOn now useB =
    ((procsLoaded (classesExtended b now (b.mon.slot useB)) useB).wr HUB_FW.ACTIVE_VER 0 (imgVer (b.mon.slot useB))).wr HUB_FW.ACTIVE_SVN 0
      (imgSvn (b.mon.slot useB)) := rfl

theorem procsLoaded_keeps (b : Block) (useB : Bool) : b.Keeps [.mon, .procs] (procsLoaded b useB) := by
  unfold procsLoaded
  simp

theorem procsLoaded_forceB (b : Block) (useB : Bool) : (procsLoaded b useB).mon.forceB = useB := by
  unfold procsLoaded
  rw [Keeps.mon (S := [.procs]) ((keeps_each fun _ _ => by simp).2 (.refl ..)) (by decide)]
  rfl

theorem classesExtended_regsOff (b : Block) (now : Nat) (img : List Nat) : b.RegsOff [0x21, 0x22] (classesExtended b now img) :=
  (regsOff_each fun _ _ => extend_regsOff ..).2 (.refl ..)

theorem classesExtended_bootFailed (b : Block) (now : Nat) (img : List Nat) : HubSame Hub.bootFailed b (classesExtended b now img) :=
  .each (.refl b) fun _ _ => extend_bootFailed ..

theorem bootOn_forceB (b : Block) (now : Nat) (useB : Bool) : (b.bootOn now useB).mon.forceB = useB := by
  rw [bootOn_eq, (wr_keeps ..).mon (by decide), (wr_keeps ..).mon (by decide), procsLoaded_forceB]

theorem bootOn_regsOff (b : Block) (now : Nat) (useB : Bool) : b.RegsOff [0x21, 0x22] (b.bootOn now useB) := by
  rw [bootOn_eq]
  exact (regsOff_wr (by decide) ..).2 ((regsOff_wr (by decide) ..).2 ((classesExtended_regsOff ..).trans ((procsLoaded_keeps ..).regsOff (by decide) _)))

theorem bootOn_bootFailed (b : Block) (now : Nat) (useB : Bool) : HubSame Hub.bootFailed b (b.bootOn now useB) := by
  rw [bootOn_eq]
  exact (((classesExtended_bootFailed ..).keeps (procsLoaded_keeps ..) (by decide)).keeps (wr_keeps ..) (by decide)).keeps (wr_keeps ..) (by decide)

theorem bootOn_version (b : Block) (now : Nat) (useB : Bool) : (b.bootOn now useB).rd HUB_FW.ACTIVE_VER 0 = imgVer (b.mon.slot useB) % 2 ^ 32 := by
  rw [bootOn_eq, rd_wr_apart (by decide), rd_wr_same]
  rfl

theorem readStores_keeps (b : Block) : b.Keeps [.fields, .mon, .nv, .faults] b.readStores := by simp

theorem readStores_forceB (b : Block) : b.readStores.mon.forceB = b.mon.forceB := by
  unfold readStores
  dsimp only
  split <;> split <;> rfl

/-- The registers that the loader leaves alone are those off HUB_FW, HUB_SEC and the phase's page. -/
theorem bootLoaded_regsOff (b : Block) (now : Nat) (useB : Bool) : b.RegsOff [0x12, 0x21, 0x22] (b.bootLoaded now useB) := by
  unfold bootLoaded storesExtended
  have hoff : b.RegsOff [0x21, 0x22] ((b.bootOn now useB).readStores.storesExtended now) :=
    (bootOn_regsOff ..).trans (((readStores_keeps ..).regsOff (by decide) _).trans ((extend_regsOff ..).trans (extend_regsOff ..)))
  exact (regsOff_wr (by decide) ..).2 (hoff.mono (by decide))

theorem bootLoaded_version (b : Block) (now : Nat) (useB : Bool) :
    (b.bootLoaded now useB).rd HUB_FW.ACTIVE_VER 0 = imgVer (b.mon.slot useB) % 2 ^ 32 := by
  have hextend (c : Block) (k : Nat) (d : List Nat) : (c.extend now k d).rd HUB_FW.ACTIVE_VER 0 = c.rd HUB_FW.ACTIVE_VER 0 := by
    unfold extend
    rw [rd_wr_apart (by decide), rd_modHub]
  unfold bootLoaded storesExtended
  rw [rd_setPhaseNo (by decide), hextend, hextend, (readStores_keeps ..).rd (by decide), bootOn_version]

theorem bootLoaded_phaseNo (b : Block) (now : Nat) (useB : Bool) : (b.bootLoaded now useB).phaseNo = 4 := by
  unfold bootLoaded
  exact phaseNo_setPhaseNo _ (by decide)

theorem bootLoaded_forceB (b : Block) (now : Nat) (useB : Bool) : (b.bootLoaded now useB).mon.forceB = useB := by
  unfold bootLoaded storesExtended
  rw [Keeps.mon (S := [.regs, .hub]) (a := (b.bootOn now useB).readStores) (by unfold setPhaseNo; simp) (by decide), readStores_forceB, bootOn_forceB]

theorem bootLoaded_bootFailed (b : Block) (now : Nat) (useB : Bool) : HubSame Hub.bootFailed b (b.bootLoaded now useB) := by
  unfold bootLoaded storesExtended
  have hread : HubSame Hub.bootFailed b (b.bootOn now useB).readStores := (bootOn_bootFailed ..).keeps (readStores_keeps ..) (by decide)
  exact HubSame.keeps ((hread.trans (extend_bootFailed ..)).trans (extend_bootFailed ..)) (setPhaseNo_keeps ..) (by decide)

theorem bootLoaded_keeps (b : Block) (now : Nat) (useB : Bool) :
    b.Keeps [.regs, .fields, .procs, .mon, .nv, .hub, .faults] (b.bootLoaded now useB) := by
  unfold bootLoaded storesExtended setPhaseNo
  simp

/-! ### BOOT_IMAGE_LOAD (R350) -/

theorem memAndBlock_mk (s : State) (mem : List Host.Cell) (b : Block) : ({ s with mem := mem, b := b } : State) =
    { s with mem := ({ s with mem := mem, b := b } : State).mem, b := ({ s with mem := mem, b := b } : State).b } := rfl

section BootRow

variable {i : BootIn} {s : State}

theorem noSlot_bootRead (i : BootIn) (b : Block) (now : Nat) : noSlot i (b.bootRead now i) = noSlot i b := by
  unfold noSlot
  rw [slotOk_bootRead, slotOk_bootRead]

theorem bootImageLoad_none (hreset : s.b.pins.inReset = false) (h1 : 1 ≤ s.b.phaseNo) (h3 : s.b.phaseNo ≤ 3)
    (hnone : i.present = false ∨ (s.b.bootable s.b.mon.imgA = false ∧ s.b.bootable s.b.mon.imgB = false)) :
    ∃ t, exec (.bootImageLoad i) s = .next t ∧ InBlock s t ∧ t.b.hub.bootFailed = true ∧ t.b.phaseNo = 3 ∧ t.b.agents = s.b.agents := by
  have hno : noSlot i (s.b.bootRead s.tick i) = true := by
    rw [noSlot_bootRead]
    obtain h | ⟨hA, hB⟩ := hnone
    · simp [noSlot, slotOk, h]
    · simp [noSlot, slotOk, Monument.slot, hA, hB]
  have hexec := exec_bootImageLoad (i := i) hreset h1 h3 rfl
  rw [if_pos hno] at hexec
  refine ⟨_, hexec, inBlock_mk .., ?_, phaseNo_setPhaseNo _ (by decide), ?_⟩
  · dsimp only
    rw [(setPhaseNo_keeps ..).hub (by decide), bootChosen_hub, hno]
  · dsimp only
    rw [(setPhaseNo_keeps ..).same .agents (by decide), (bootChosen_keeps ..).same .agents (by decide), (bootRead_keeps ..).same .agents (by decide)]

theorem bootImageLoad_slot (hreset : s.b.pins.inReset = false) (h1 : 1 ≤ s.b.phaseNo) (h3 : s.b.phaseNo ≤ 3) (hpresent : i.present = true)
    (hsome : s.b.bootable s.b.mon.imgA = true ∨ s.b.bootable s.b.mon.imgB = true) :
    ∃ (useB : Bool) (t : State), exec (.bootImageLoad i) s = .next t ∧ t = { s with mem := t.mem, b := t.b } ∧ t.b.hub.bootFailed = false ∧
      t.b.phaseNo = 4 ∧ t.b.bit HUB_MONUMENT.READY 0 = true ∧ t.b.agents = s.b.agents ∧
      s.b.bootable (s.b.mon.slot useB) = true ∧ t.b.mon.forceB = useB ∧
      t.mem = (List.range 87).foldl (placeSection (s.b.mon.slot useB)) s.mem ∧
      t.b.rd HUB_FW.ACTIVE_VER 0 = imgVer (s.b.mon.slot useB) % 2 ^ 32 := by
  have hno : noSlot i (s.b.bootRead s.tick i) = false := by
    rw [noSlot_bootRead]
    obtain h | h := hsome
    · simp [noSlot, slotOk, Monument.slot, hpresent, h]
    · simp [noSlot, slotOk, Monument.slot, hpresent, h]
  have hready : (s.b.bootRead s.tick i).bit HUB_MONUMENT.READY 0 = true := by
    rw [bootRead_present hpresent, openFlash_ready]
  have hslot (useB : Bool) : (s.b.bootRead s.tick i).mon.slot useB = s.b.mon.slot useB := slot_of_imageSlots (bootRead_slots ..) useB
  have hok := bootSlot_ok hno
  rw [slotOk_bootRead, slotOk, hpresent, Bool.true_and] at hok
  have hexec := exec_bootImageLoad (i := i) hreset h1 h3 rfl
  rw [if_neg (by rw [hno]; decide)] at hexec
  refine ⟨bootSlot i (s.b.bootRead s.tick i), _, hexec, memAndBlock_mk .., ?_, bootLoaded_phaseNo .., ?_, ?_, hok, bootLoaded_forceB .., ?_, ?_⟩
  · dsimp only
    rw [(bootLoaded_bootFailed ..).eq, bootChosen_hub, hno]
  · dsimp only
    rw [(bootLoaded_regsOff ..).bit (by decide), (bootChosen_regsOff ..).bit (by decide), hready]
  · dsimp only
    rw [(bootLoaded_keeps ..).same .agents (by decide), (bootChosen_keeps ..).same .agents (by decide), (bootRead_keeps ..).same .agents (by decide)]
  · dsimp only
    rw [bootChosen_slots, hslot]
  · dsimp only
    rw [bootLoaded_version, bootChosen_slots, hslot]

end BootRow

end Sys2Proof.Machine
end

section
/-!
SUPPORT. The start: self-tests and the groups of fields.
-/

namespace Sys2Proof.Machine

open Sys2Proof Block

/-! ### BOOT_END (R351, R353) -/

section BootEnd

/-- The stores are in force. -/
def Block.storesLoaded (b : Block) (now : Nat) : Block :=
  ((b.buildContour.softEntries.load2 HUB_CAP.CEIL_ST 0 b.nv.ceilSt).each allFields (fun b f => (b.loadField now f).queueStart f)).fillCad now

/-- The attestation key is there. -/
def Block.keyMade (b : Block) (key : List Nat) : Block :=
  ((b.wr HUB_SEC.KEY_VALID 0 1).wr HUB_FW.ATT_KEY_ID 0 (attKeyId key)).modHub (fun h => { h with bootDone := true, attKey := some key })

/-- A march of every memory begins. -/
def Block.marchesStarted (b : Block) : Block := b.each (List.range 85) (fun b k => b.marchStart k false)

/-- A self-test of every field begins. -/
def Block.bistsStarted (b : Block) : Block := b.each allFields (fun b f => b.bistStart [3, 5] f)

/-- Every memory and every field is tested. -/
def Block.testsStarted (b : Block) (now : Nat) : Block := (b.marchesStarted.bistsStarted.setPhaseNo 5).evalMgr now

variable {s : State}

theorem exec_bootEnd (hph : s.b.phaseNo = 4) (hboot : s.b.hub.bootFailed = false) : ∃ d key data,
    exec .bootEnd s = .next { s with b := ((Block.keyMade d key).monEvent s.tick 0 0x40 (srcHub + 2) data).testsStarted s.tick } := by
  refine ⟨s.b.storesLoaded s.tick,
    Config.attKeyPair (s.b.storesLoaded s.tick).nv.deviceSecret (s.b.storesLoaded s.tick).nv.lifecycle,
    [((s.b.storesLoaded s.tick).keyMade (Config.attKeyPair (s.b.storesLoaded s.tick).nv.deviceSecret (s.b.storesLoaded s.tick).nv.lifecycle)).nv.lifecycle,
      s.b.mon.bootReason], ?_⟩
  show execBootEnd s = _
  unfold execBootEnd onB
  dsimp only
  rw [if_neg (by rw [hph, hboot]; decide)]
  unfold testsStarted bistsStarted marchesStarted keyMade storesLoaded
  dsimp only

theorem exec_bootEnd_none (hph : s.b.phaseNo ≠ 4) : exec .bootEnd s = .next s := by
  show execBootEnd s = _
  unfold execBootEnd onB
  dsimp only
  rw [if_pos (.inl hph)]

theorem keyMade_valid (b : Block) (key : List Nat) : (b.keyMade key).rd HUB_SEC.KEY_VALID 0 = 1 := by
  unfold keyMade
  rw [rd_modHub, rd_wr_apart (by decide), rd_wr_same]
  rfl

theorem marchStart_regsOff (b : Block) (k : Nat) (destructive : Bool) : b.RegsOff [0x23, 0x4D] (b.marchStart k destructive) := by
  have hfits : ∀ k, ∀ x ∈ [(HUB_MEM.MARCH_STATE, F_MEM.MARCH_STATE), (HUB_MEM.MARCH_FAILS, F_MEM.MARCH_FAILS), (HUB_MEM.MARCH_SEG, F_MEM.MARCH_SEG)],
      (memFld k x.1 x.2).Fits ∧ (memFld k x.1 x.2).page ∈ [0x23, 0x4D] := by
    intro k
    unfold memFld
    split <;> decide
  obtain ⟨hstate, hfails, hseg⟩ : _ ∧ _ ∧ _ := ⟨hfits k _ (List.mem_cons_self), hfits k _ (.tail _ (.head _)), hfits k _ (.tail _ (.tail _ (.head _)))⟩
  unfold marchStart
  exact (regsOff_wr hseg ..).2 ((regsOff_wr hfails ..).2 ((regsOff_wr hstate ..).2 ((regsOff_modMemSt ..).2 (.refl ..))))

theorem bistStart_regsOff (b : Block) (items : List Nat) (f : Nat) : b.RegsOff [0x4E] (b.bistStart items f) := by
  unfold bistStart
  exact (regsOff_wr (by decide) ..).2 ((regsOff_modFu ..).2 (.refl ..))

theorem marchesStarted_regsOff (b : Block) : b.RegsOff [0x23, 0x4D] b.marchesStarted :=
  (regsOff_each fun _ _ => marchStart_regsOff ..).2 (.refl ..)

theorem bistsStarted_regsOff (b : Block) : b.RegsOff [0x4E] b.bistsStarted :=
  (regsOff_each fun _ _ => bistStart_regsOff ..).2 (.refl ..)

theorem marchesStarted_keeps (b : Block) : b.Keeps [.regs, .mems] b.marchesStarted :=
  (keeps_each fun _ _ => by simp).2 (.refl _ b)

theorem bistsStarted_keeps (b : Block) : b.Keeps [.regs, .fields] b.bistsStarted :=
  (keeps_each fun _ _ => by simp).2 (.refl _ b)

theorem testsStarted_phaseNo (b : Block) (now : Nat) : (b.testsStarted now).phaseNo = 5 := by
  unfold testsStarted
  rw [evalMgr_phaseNo, phaseNo_setPhaseNo _ (by decide)]

theorem testsStarted_mgr (b : Block) (now : Nat) : (b.testsStarted now).mgr = 2 := by
  unfold testsStarted
  rw [evalMgr_mgr]
  exact mgrNow_selftest (phaseNo_setPhaseNo _ (by decide))

theorem testsStarted_keeps (b : Block) (now : Nat) : b.Keeps [.regs, .mems, .fields] (b.testsStarted now) := by
  unfold testsStarted
  exact ((marchesStarted_keeps b).mono (by simp)).trans (((bistsStarted_keeps ..).mono (by simp)).trans
    (((setPhaseNo_keeps ..).mono (by simp)).trans ((evalMgr_keeps ..).mono (by simp))))

theorem testsStarted_keyValid (b : Block) (now : Nat) : (b.testsStarted now).rd HUB_SEC.KEY_VALID 0 = b.rd HUB_SEC.KEY_VALID 0 := by
  unfold testsStarted
  rw [(evalMgr_regsOff ..).rd (by decide), rd_setPhaseNo (by decide), (bistsStarted_regsOff ..).rd (by decide), (marchesStarted_regsOff ..).rd (by decide)]

theorem marching_of_marks {m : MemSt} {d : Bool} (h : marchMarks m = (true, 0, d)) : m.marching = true := congrArg Prod.fst h

theorem testsStarted_marching (b : Block) (now : Nat) {k : Nat} (hk : k < 85) : ((b.testsStarted now).memSt k).marching = true := by
  have hmarks := marchStarts_marks (List.mem_range.2 hk) b false
  unfold testsStarted
  rw [(evalMgr_keeps ..).memSt (by decide), (setPhaseNo_keeps ..).memSt (by decide), (bistsStarted_keeps ..).memSt (by decide)]
  exact marching_of_marks hmarks

theorem running_of_marks {f : Nat} {b : Block} (h : bistMarks f b = (true, 1)) : (b.fu f).bistRunning = true := congrArg Prod.fst h

theorem testsStarted_bist (b : Block) (now : Nat) (f : FieldNo) : ((b.testsStarted now).fu f).bistRunning = true := by
  have hmarks := bistStarts_marks (fieldNo_mem_allFields f) b.marchesStarted [3, 5]
  unfold testsStarted
  rw [(evalMgr_keeps ..).fu (by decide), (setPhaseNo_keeps ..).fu (by decide)]
  exact running_of_marks hmarks

theorem bootEnd_tests (hph : s.b.phaseNo = 4) (hboot : s.b.hub.bootFailed = false) :
    ∃ t, exec .bootEnd s = .next t ∧ InBlock s t ∧ t.b.phaseNo = 5 ∧ t.b.mgr = 2 ∧ t.b.hub.bootDone = true ∧
      t.b.bit HUB_SEC.KEY_VALID 0 = true ∧ (∀ k, k < 85 → (t.b.memSt k).marching = true) ∧ ∀ f : FieldNo, (t.b.fu f).bistRunning = true := by
  obtain ⟨d, key, data, hexec⟩ := exec_bootEnd hph hboot
  refine ⟨_, hexec, inBlock_mk .., ?_, ?_, ?_, ?_, fun k hk => ?_, fun f => ?_⟩
  · dsimp only
    rw [testsStarted_phaseNo]
  · dsimp only
    rw [testsStarted_mgr]
  · dsimp only
    rw [(testsStarted_keeps ..).hub (by decide), (monEvent_keeps ..).hub (by decide)]
    rfl
  · dsimp only
    rw [bit, testsStarted_keyValid, rd_monEvent (by decide), keyMade_valid]
    rfl
  · dsimp only
    rw [testsStarted_marching _ _ hk]
  · dsimp only
    rw [testsStarted_bist]

end BootEnd

/-! ### SELFTEST_END (R353) -/

section SelftestEnd

variable {s : State}

theorem enterRamp_keeps (b : Block) (now : Nat) : b.Keeps [.regs, .hub] (b.enterRamp now) := by simp

theorem enterRamp_phaseNo (b : Block) (now : Nat) : (b.enterRamp now).phaseNo = 6 := by
  unfold enterRamp
  rw [evalMgr_phaseNo, phaseNo, rd_modHub, rd_wr_same]
  rfl

theorem enterRamp_hub (b : Block) (now : Nat) : (b.enterRamp now).hub = { b.hub with group := 0, groupTick := now, rampTick := now } := by
  unfold enterRamp
  rw [(evalMgr_keeps ..).hub (by decide), modHub_same, (wr_keeps ..).hub (by decide)]

/-- The rails are held off. -/
def Block.rampHeld (b : Block) (now : Nat) : Block :=
  (((b.setPhaseNo 6).modHub (fun h => { h with shutHold := true })).wr HUB_THERM.COOL_WAIT 0 1).evalMgr now

theorem rampHeld_phaseNo (b : Block) (now : Nat) : (b.rampHeld now).phaseNo = 6 := by
  unfold rampHeld
  rw [evalMgr_phaseNo, phaseNo, rd_wr_apart (by decide), rd_modHub, ← phaseNo, phaseNo_setPhaseNo _ (by decide)]

theorem rampHeld_shutHold (b : Block) (now : Nat) : (b.rampHeld now).hub.shutHold = true := by
  unfold rampHeld
  rw [(evalMgr_keeps ..).hub (by decide), (wr_keeps ..).hub (by decide)]
  rfl

theorem rampHeld_mgr (b : Block) (now : Nat) : (b.rampHeld now).mgr = 8 := by
  unfold rampHeld
  rw [evalMgr_mgr]
  refine mgrNow_shutdown ?_ ?_
  · rw [phaseNo, rd_wr_apart (by decide), rd_modHub, ← phaseNo, phaseNo_setPhaseNo _ (by decide)]
  · rw [(wr_keeps ..).hub (by decide)]
    rfl

theorem publishLevel_regsOff (b : Block) : b.RegsOff [0x25] b.publishLevel := by
  unfold publishLevel
  dsimp only
  split
  · exact .refl ..
  · have hibi (c : Block) : c.RegsOff [0x25] (c.ibi 0) := Keeps.regsOff (S := [.hub]) (by simp) (by decide) _
    exact ((regsOff_wr (x := HUB_COOL.DEMAND_LEVEL) (by decide) ..).2 (.refl ..)).trans (hibi _)

theorem publishLevel_shutHold (b : Block) : HubSame Hub.shutHold b b.publishLevel := by
  unfold publishLevel
  dsimp only
  split
  · exact .refl b
  · exact (Keeps.hubSame (wr_keeps ..) (by decide)).trans (ibi_hub (fun _ _ => rfl) ..)

theorem exec_selftestEnd (hph : s.b.phaseNo = 5) (hmem : s.b.mems.any (fun e => e.2.marching) = false)
    (hbist : s.b.fields.any (fun e => e.2.bistRunning) = false) : exec .selftestEnd s = .next { s with
      b := if (!s.b.mon.acked || (!s.b.mon.shutdownsRead.isEmpty && !s.b.exitReady)) = true then (s.b.rampHeld s.tick).publishLevel
        else s.b.enterRamp s.tick } := by
  show execSelftestEnd s = _
  unfold execSelftestEnd onB
  dsimp only
  rw [if_neg (by rw [hph, hmem, hbist]; decide)]
  rfl

theorem selftestEnd_ramp (hph : s.b.phaseNo = 5) (hmem : s.b.mems.any (fun e => e.2.marching) = false)
    (hbist : s.b.fields.any (fun e => e.2.bistRunning) = false) (hack : s.b.mon.acked = true)
    (hfree : s.b.mon.shutdownsRead = [] ∨ s.b.exitReady = true) : ∃ t, exec .selftestEnd s = .next t ∧
      t = { s with b := { s.b with regs := t.b.regs, hub := t.b.hub } } ∧ t.b.phaseNo = 6 ∧ t.b.hub.group = 0 ∧ t.b.hub.shutHold = s.b.hub.shutHold := by
  have hexec := exec_selftestEnd hph hmem hbist
  rw [if_neg (by obtain h | h := hfree <;> simp [hack, h])] at hexec
  refine ⟨_, hexec, Keeps.withBlock_eq_graft (S := [.regs, .hub]) (enterRamp_keeps ..), ?_, ?_, ?_⟩
  · dsimp only
    rw [enterRamp_phaseNo]
  · dsimp only
    rw [enterRamp_hub]
  · dsimp only
    rw [enterRamp_hub]

theorem selftestEnd_held (hph : s.b.phaseNo = 5) (hmem : s.b.mems.any (fun e => e.2.marching) = false)
    (hbist : s.b.fields.any (fun e => e.2.bistRunning) = false)
    (hheld : s.b.mon.acked = false ∨ (s.b.mon.shutdownsRead ≠ [] ∧ s.b.exitReady = false)) : ∃ t, exec .selftestEnd s = .next t ∧ InBlock s t ∧
      t.b.phaseNo = 6 ∧ t.b.hub.shutHold = true ∧ t.b.mgr = 8 := by
  have hexec := exec_selftestEnd hph hmem hbist
  rw [if_pos (by obtain h | ⟨h, h'⟩ := hheld <;> simp [*])] at hexec
  refine ⟨_, hexec, inBlock_mk .., ?_, ?_, ?_⟩
  · dsimp only
    rw [phaseNo, (publishLevel_regsOff ..).rd (by decide), ← phaseNo, rampHeld_phaseNo]
  · dsimp only
    rw [(publishLevel_shutHold ..).eq, rampHeld_shutHold]
  · dsimp only
    rw [mgr, (publishLevel_regsOff ..).rd (by decide), ← mgr, rampHeld_mgr]

end SelftestEnd

/-! ### Soft start of a field (R355, R357, R367) -/

section SoftStart

/-- A rail starts. -/
def Block.railStart (b : Block) (now f rl : Nat) : Block :=
  ((((b.wrB (F_RAIL.SOFTSTART rl) f true).wrB (F_RAIL.SLEWING rl) f true).wr (F_RAIL.TARGET rl) f (b.datumV f rl)).modRail (railOf f rl)
    (fun x => { x with run := 1, refv := 0, runFrom := (now, 0) })).allActive now f rl true

/-- COOL_RUNDOWN_N is asserted. -/
def Block.rundownShown (b : Block) : Block :=
  ((b.wr HUB_COOL.RUNDOWN 0 1).modPins (fun p => { p with coolRundownN := true })).modHub (fun h => { h with rundownFrom := none })

theorem each_pair {α : Type} (g : Block → α → Block) (b : Block) (x y : α) : b.each [x, y] g = g (g b x) y := rfl

theorem softStart_eq (b : Block) (now f : Nat) : b.softStart now f =
    (((b.rundownShown).railStart now f 0).railStart now f 1).modFu f (fun u => { u with
      started := true, startDone := false, startOver := false, startQueued := false, startTick := now }) := by
  rw [← each_pair (fun b rl => b.railStart now f rl)]
  unfold softStart rundownShown railStart
  dsimp only

theorem setPhaseState_run (b : Block) (now f p st : Nat) : TabSame Block.rail RailSt.run b (b.setPhaseState now f p st) := by
  unfold setPhaseState
  refine .cond ?_ fun c => .modRail (.refl c) fun _ => rfl
  exact .of_eq fun _ => Keeps.rail (S := [.regs, .phases]) (by simp) (by decide) _

theorem allActive_run (b : Block) (now f rl : Nat) (held : Bool) : TabSame Block.rail RailSt.run b (b.allActive now f rl held) :=
  .each (.refl b) fun _ _ => setPhaseState_run ..

theorem railStart_same (b : Block) (now f rl : Nat) : ((b.railStart now f rl).rail (railOf f rl)).run = 1 := by
  unfold railStart
  rw [(allActive_run ..).same, rail_modRail_same]

theorem railStart_other {k f rl : Nat} (h : k ≠ railOf f rl) (b : Block) (now : Nat) :
    ((b.railStart now f rl).rail k).run = (b.rail k).run := by
  unfold railStart
  rw [(allActive_run ..).same, rail_modRail_other _ _ h, (wr_keeps ..).rail (by decide), (wrB_keeps ..).rail (by decide), (wrB_keeps ..).rail (by decide)]

theorem railStart_keeps (b : Block) (now f rl : Nat) : b.Keeps [.regs, .rails, .phases] (b.railStart now f rl) := by
  unfold railStart
  simp

/-- What a soft start shows of a field: its rails start, and it has started. -/
def startMarks (f : Nat) (b : Block) : Nat × Nat × Bool := ((b.rail (railOf f 0)).run, (b.rail (railOf f 1)).run, (b.fu f).started)

theorem softStart_same (b : Block) (now f : Nat) : startMarks f (b.softStart now f) = (1, 1, true) := by
  rw [softStart_eq, startMarks, (modFu_keeps ..).rail (by decide), (modFu_keeps ..).rail (by decide), fu_modFu_same,
    railStart_other (railOf_zero_ne_one f), railStart_same, railStart_same]

theorem rundownShown_keeps (b : Block) : b.Keeps [.regs, .pins, .hub] b.rundownShown := by
  unfold rundownShown
  simp

theorem softStart_other {f g : Nat} (h : f ≠ g) (b : Block) (now : Nat) : startMarks f (b.softStart now g) = startMarks f b := by
  have hrail {rl rl' : Nat} (hrl : rl < 2) (hrl' : rl' < 2) : railOf f rl ≠ railOf g rl' := by
    unfold railOf
    omega
  rw [softStart_eq, startMarks, (modFu_keeps ..).rail (by decide), (modFu_keeps ..).rail (by decide), fu_modFu_other _ _ h,
    railStart_other (hrail (by decide) (by decide)), railStart_other (hrail (by decide) (by decide)),
    railStart_other (hrail (by decide) (by decide)), railStart_other (hrail (by decide) (by decide)),
    (railStart_keeps ..).fu (by decide), (railStart_keeps ..).fu (by decide), (rundownShown_keeps ..).fu (by decide),
    (rundownShown_keeps ..).rail (by decide), (rundownShown_keeps ..).rail (by decide), startMarks]

theorem softStarts_marks {l : List Nat} {f : Nat} (hf : f ∈ l) (b : Block) (now : Nat) :
    startMarks f (b.each l (fun b f => b.softStart now f)) = (1, 1, true) := by
  refine each_reaches (p := startMarks f) (fun b => softStart_same ..) (fun b y => ?_) hf b
  obtain rfl | hy := eq_or_ne f y
  · exact .inl (softStart_same ..)
  · exact .inr (softStart_other hy ..)

theorem started_of_marks {f : Nat} {b : Block} (h : startMarks f b = (1, 1, true)) :
    (b.rail (railOf f 0)).run = 1 ∧ (b.rail (railOf f 1)).run = 1 ∧ (b.fu f).started = true :=
  ⟨congrArg Prod.fst h, congrArg (·.2.1) h, congrArg (·.2.2) h⟩

end SoftStart

/-! ### GROUP_SOFT_START, FIELD_VIN_RESTART (R355, R356, R366, R367) -/

section Groups

variable {s : State}

/-- The next group starts. -/
def Block.groupStarted (b : Block) (now : Nat) : Block :=
  (b.each b.nextGroup (fun b f => b.softStart now f)).modHub (fun h => { h with group := b.hub.group + 1, groupTick := now })

theorem exec_groupSoftStart (hph : s.b.phaseNo = 6) (hhold : s.b.hub.shutHold = false) (htrip : s.b.hub.tripped = false)
    (hmore : 7 ≤ s.b.hub.group → s.b.nextGroup ≠ []) (hdue : s.b.hub.group = 0 ∨ (s.b.hub.groupTick + 256 ≤ s.tick ∧ s.b.startsEnded = true)) :
    exec .groupSoftStart s = .next { s with b := s.b.groupStarted s.tick } := by
  show execGroupSoftStart s = _
  unfold execGroupSoftStart onB
  dsimp only
  rw [if_neg ?_]
  · rfl
  · rw [hph, hhold, htrip]
    rintro (h | h | h | ⟨h, h'⟩ | ⟨h, h'⟩)
    · exact h rfl
    · exact Bool.false_ne_true h
    · exact Bool.false_ne_true h
    · exact hmore h h'
    · obtain h0 | ⟨htick, hend⟩ := hdue
      · exact h h0
      · rw [hend] at h'
        obtain h' | h' := h'
        · omega
        · exact Bool.false_ne_true h'.symm

theorem exec_groupSoftStart_none (hph : s.b.phaseNo ≠ 6) : exec .groupSoftStart s = .next s := by
  show execGroupSoftStart s = _
  unfold execGroupSoftStart onB
  dsimp only
  rw [if_pos (.inl hph)]

variable {f : FieldNo}

theorem exec_fieldVinRestart (hout : s.b.rd F_ID.OUT_CAUSE f = 7) (hmark : s.b.isOut f = true) (hvin : 1024 ≤ (s.b.fu f).vinGood)
    (hpower : s.b.powerOk = true) (hmgr : s.b.mgr ≠ 8) (htaken : s.b.hub.takenOver = true) (hpair : s.b.pairUp f = false) :
    exec (.fieldVinRestart f) s = .next { s with
      b := if s.b.starting.length < 12 then (s.b.retarget s.tick f).softStart s.tick f else s.b.modFu f (fun u => { u with startQueued := true }) } := by
  show execFieldVinRestart f s = _
  unfold execFieldVinRestart onB
  dsimp only
  rw [if_neg ?_]
  · rfl
  · rw [hout, hmark, hpower, htaken, hpair]
    rintro (h | h | h | h | h | h | h)
    · exact h rfl
    · exact Bool.false_ne_true h.symm
    · omega
    · exact Bool.false_ne_true h.symm
    · exact hmgr h
    · exact Bool.false_ne_true h.symm
    · exact Bool.false_ne_true h

theorem exec_fieldVinRestart_early (hvin : (s.b.fu f).vinGood < 1024) : exec (.fieldVinRestart f) s = .next s := by
  show execFieldVinRestart f s = _
  unfold execFieldVinRestart onB
  dsimp only
  rw [if_pos (.inr (.inr (.inl hvin)))]

end Groups

end Sys2Proof.Machine
end

section
/-!
SUPPORT. The start: takeover, calibration, and fields that enter service; O58.
-/

namespace Sys2Proof.Machine

open Sys2Proof Block

/-! ### What tickets presented again and announced steps leave of a field's unit (R135, R208) -/

/-- What `g` reads of a unit is neither its queues, nor its answers, nor the trigger's report. -/
abbrev OffQueues {α : Type} (g : FieldUnit → α) : Prop := ∀ (u : FieldUnit) queues outQ report,
  g { u with queues := queues, outQ := outQ, trigReport := report } = g u

section Queues

variable {α : Type} {g : FieldUnit → α} (hg : OffQueues g)
include hg

theorem record_fuSame (b : Block) (k now off code parcel aux dataA dataB : Nat) : FuSame g b (b.record k now off code parcel aux dataA dataB) :=
  (fuSame_record (fun u v => hg u u.queues u.outQ v) ..).2 (.refl g b)

theorem grant_fuSame (b : Block) (now off f k : Nat) (fast aged : Bool) : FuSame g b (b.grant now off f k fast aged) := by
  rw [grant_eq]
  refine FuSame.trans (FuSame.trans (Keeps.fuSame (S := [.agents, .hub, .slots]) ?_ (by decide)) ((grantCounted_keeps ..).fuSame (by decide))) (record_fuSame hg ..)
  exact ((grantDebited_keeps ..).mono (by decide)).trans ((modSlot_keeps ..).mono (by decide))

theorem granted_fuSame (b : Block) (now off f k : Nat) (fast aged : Bool) (o : TkOut) :
    FuSame g b (((b.dequeue f k).grant now off f k fast aged).send f o) := by
  unfold send dequeue modQueue
  refine (fuSame_modFu fun u => hg u u.queues _ u.trigReport).2 (FuSame.trans ?_ (grant_fuSame hg ..))
  exact (fuSame_modFu fun u => hg u _ u.outQ u.trigReport).2 (.refl g b)

theorem presentQueue_fuSame (now f : Nat) (l : List Nat) (i most : Nat) (b : Block) : FuSame g b (presentQueue now f l i most b).2 := by
  induction l generalizing i b with
  | nil => exact .refl g b
  | cons k l ih =>
    unfold presentQueue
    dsimp only
    split
    · exact ih ..
    · split
      · exact .refl g b
      · split
        · exact (granted_fuSame hg ..).trans (ih ..)
        · exact .refl g b

theorem represent_fuSame (b : Block) (now f : Nat) : FuSame g b (b.represent now f) := by
  unfold represent
  split
  · exact .refl g b
  · exact List.foldlRecOn (motive := fun ib : Nat × Block => FuSame g b ib.2) _ _ (.refl g b)
      fun _ hib _ _ => hib.trans (presentQueue_fuSame hg ..)

theorem announce_fuSame (b : Block) (now off point due : Nat) (plumb : Option Nat) (ends : Bool) :
    FuSame g b (b.announce now off point due plumb ends) := by
  have hadd (x : Step) : FuSame g b ((b.modHub (fun h => { h with stepIdNext := (h.stepIdNext + 1) % 256 })).addStep now off x) := by
    unfold addStep stepRecord
    exact ((Keeps.fuSame (S := [.hub]) (by simp) (by decide)).trans (record_fuSame hg ..))
  have hsend (c : Block) (k type : Nat) (payload : List Nat) : FuSame g c (c.sendFrame now off k type payload) := by
    unfold sendFrame tieRecord
    exact (Keeps.fuSame (modTie_keeps ..) (by decide)).trans (record_fuSame hg ..)
  unfold announce
  dsimp only
  split
  · exact (hadd _).trans ((fuSame_each fun c k => hsend c k ..).2 (.refl ..))
  · exact hadd _

end Queues

/-! ### What tickets presented again leave of the registers (R135) -/

theorem grant_regsOff (b : Block) (now off f k : Nat) (fast aged : Bool) : b.RegsOff [0x4A, 0x1F, 0x4B] (b.grant now off f k fast aged) := by
  have hkept : b.RegsOff [0x4A, 0x1F, 0x4B] (b.grantKept now f k aged) :=
    Keeps.regsOff (S := [.agents, .hub, .slots]) (((grantDebited_keeps ..).mono (by decide)).trans ((modSlot_keeps ..).mono (by decide))) (by decide) _
  rw [grant_eq]
  refine (regsOff_record (by decide) ..).2 ?_
  unfold grantCounted
  refine (regsOff_cond fun c => (regsOff_inc (by decide) _).2 (.refl ..)).2 ?_
  split
  · exact (regsOff_inc (by decide) _).2 hkept
  · exact (regsOff_inc (by decide) _).2 hkept

theorem presentQueue_regsOff (now f : Nat) (l : List Nat) (i most : Nat) (b : Block) :
    b.RegsOff [0x4A, 0x1F, 0x4B] (presentQueue now f l i most b).2 := by
  induction l generalizing i b with
  | nil => exact .refl ..
  | cons k l ih =>
    unfold presentQueue
    dsimp only
    split
    · exact ih ..
    · split
      · exact .refl ..
      · split
        · refine RegsOff.trans ?_ (ih ..)
          unfold send dequeue modQueue
          exact (regsOff_modFu ..).2 (((regsOff_modFu ..).2 (.refl ..)).trans (grant_regsOff ..))
        · exact .refl ..

theorem represent_regsOff (b : Block) (now f : Nat) : b.RegsOff [0x4A, 0x1F, 0x4B] (b.represent now f) := by
  unfold represent
  split
  · exact .refl ..
  · exact List.foldlRecOn (motive := fun ib : Nat × Block => b.RegsOff [0x4A, 0x1F, 0x4B] ib.2) _ _ (.refl ..)
      fun _ hib _ _ => hib.trans (presentQueue_regsOff ..)

/-! ### A field enters service (R434) -/

/-- The field's agents have their pools, and its cores run or are halted. -/
def Block.poolsFilled (b : Block) (f pool : Nat) (halt : Bool) : Block :=
  b.each (b.actives f) (fun b s => b.modAgent (pid f s) (fun a => { a with pool := pool, poolSnap := pool, halted := halt }))

/-- The field's marks are gone. -/
def Block.marksGone (b : Block) (f : Nat) : Block := (b.wr F_ID.MARKED_OUT f 0).wr F_ID.OUT_CAUSE f 0

theorem enterService_eq (b : Block) (now f : Nat) : b.enterService now f =
    ((b.marksGone f).poolsFilled f (b.rd F_TICKET.POOL_MAX f) (b.haltInForce || b.haltSt == haltStopping)).represent now f := rfl

theorem poolsFilled_keeps (b : Block) (f pool : Nat) (halt : Bool) : b.Keeps [.agents] (b.poolsFilled f pool halt) := by
  unfold poolsFilled
  simp

theorem enterService_rd {x : Fld} (hx : x.Fits ∧ x.page ∉ [0x4A, 0x1F, 0x4B]) (b : Block) (now f i : Nat) :
    (b.enterService now f).rd x i = (b.marksGone f).rd x i := by
  rw [enterService_eq, (represent_regsOff ..).rd hx, (poolsFilled_keeps ..).rd (by decide)]

theorem marksGone_keeps (b : Block) (f : Nat) : b.Keeps [.regs] (b.marksGone f) := by
  unfold marksGone
  simp

theorem enterService_in (b : Block) (now f : Nat) : (b.enterService now f).isOut f = false := by
  rw [isOut, bit, enterService_rd (by decide), marksGone, rd_wr_apart (by decide), rd_wr_same]
  rfl

theorem enterService_other {f g : Nat} (h : g ≠ f) (b : Block) (now : Nat) : (b.enterService now f).isOut g = b.isOut g := by
  rw [isOut, bit, enterService_rd (by decide), marksGone, rd_wr_apart (by decide), rd_wr_instance h, ← bit, ← isOut]

theorem enterService_fuSame {α : Type} {g : FieldUnit → α} (hg : OffQueues g) (b : Block) (now f : Nat) : FuSame g b (b.enterService now f) := by
  rw [enterService_eq]
  exact (Keeps.fuSame (S := [.regs, .agents]) (((marksGone_keeps ..).mono (by decide)).trans ((poolsFilled_keeps ..).mono (by decide)))
    (by decide)).trans (represent_fuSame hg ..)

theorem enterServices_isOut {l : List Nat} (b : Block) (now g : Nat) :
    (b.each l (fun b f => b.enterService now f)).isOut g = (b.isOut g && !decide (g ∈ l)) := by
  by_cases hg : g ∈ l
  · rw [each_reaches (p := fun b => b.isOut g) (v := false) (fun b => enterService_in ..) (fun b y => ?_) hg]
    · simp [hg]
    · obtain rfl | hy := eq_or_ne g y
      · exact .inl (enterService_in ..)
      · exact .inr (enterService_other hy ..)
  · rw [each_inv (I := fun c => c.isOut g = b.isOut g)
      (fun y hy c hc => (enterService_other (ne_of_mem_of_not_mem hy hg).symm c now).trans hc) rfl]
    simp [hg]

theorem enterServices_phaseNo {l : List Nat} (b : Block) (now : Nat) : (b.each l (fun b f => b.enterService now f)).phaseNo = b.phaseNo := by
  refine each_inv (I := fun c => c.phaseNo = b.phaseNo) (fun f _ c hc => ?_) rfl
  rw [← hc, phaseNo, enterService_rd (by decide), marksGone, rd_wr_apart (by decide), rd_wr_apart (by decide), ← phaseNo]

/-! ### TAKEOVER (R359) -/

section Takeover

variable {s : State}

/-- Fields that have not started are out, with their cause. -/
def Block.causesShown (b : Block) : Block :=
  b.each (allFields.filter (fun f => !(b.fu f).started)) (fun b f => b.wr F_ID.OUT_CAUSE f (if b.nv.outMap.contains f then 8 else 7))

/-- Point 0 is in force. -/
def Block.pointTaken (b : Block) : Block := ((b.wr HUB_LOCK.POINT 0 0).modHub (fun h => { h with takenOver := true })).setPhaseNo 7

/-- The sequencers take over. -/
def Block.takenOn (b : Block) (now : Nat) : Block :=
  b.each (allFields.filter b.railsOn) (fun b f => (b.retarget now f).shapeNumbers f)

theorem exec_takeover (hph : s.b.phaseNo = 6) (hover : s.b.groupsOver s.tick = true) :
    exec .takeover s = .next { s with b := s.b.causesShown.pointTaken.takenOn s.tick } := by
  show execTakeover s = _
  unfold execTakeover onB
  dsimp only
  rw [if_neg (by rw [hph, hover]; decide)]
  unfold takenOn pointTaken causesShown
  dsimp only

theorem exec_takeover_none (hph : s.b.phaseNo ≠ 6) : exec .takeover s = .next s := by
  show execTakeover s = _
  unfold execTakeover onB
  dsimp only
  rw [if_pos (.inl hph)]

theorem shapeNumbers_regsOff (b : Block) (f : Nat) : b.RegsOff [0x45] (b.shapeNumbers f) := by
  unfold shapeNumbers
  dsimp only
  exact (regsOff_wr (by decide) ..).2 ((regsOff_wr (by decide) ..).2 ((regsOff_wr (by decide) ..).2 ((regsOff_wr (by decide) ..).2
    ((regsOff_wr (by decide) ..).2 (.refl ..)))))

theorem takenOn_regsOff (b : Block) (now : Nat) : b.RegsOff [0x45, 0x47, 0x48, 0x1F, 0x4B] (b.takenOn now) :=
  (regsOff_each fun _ _ => ((retarget_regsOff ..).mono (by decide)).trans ((shapeNumbers_regsOff ..).mono (by decide))).2 (.refl ..)

theorem takenOn_keeps (b : Block) (now : Nat) : b.Keeps [.regs, .fields, .traces] (b.takenOn now) := by
  unfold takenOn
  simp

theorem pointTaken_keeps (b : Block) : b.Keeps [.regs, .hub] b.pointTaken := by
  unfold pointTaken setPhaseNo
  simp

theorem causesShown_keeps (b : Block) : b.Keeps [.regs] b.causesShown := by
  unfold causesShown
  simp

theorem takeover_shown (hph : s.b.phaseNo = 6) (hover : s.b.groupsOver s.tick = true) : ∃ t, exec .takeover s = .next t ∧ InBlock s t ∧
    t.b.phaseNo = 7 ∧ t.b.hub.takenOver = true ∧ t.b.point = 0 ∧ t.b.agents = s.b.agents := by
  refine ⟨_, exec_takeover hph hover, inBlock_mk .., ?_, ?_, ?_, ?_⟩
  · dsimp only
    rw [phaseNo, (takenOn_regsOff ..).rd (by decide), ← phaseNo, pointTaken, phaseNo_setPhaseNo _ (by decide)]
  · dsimp only
    rw [(takenOn_keeps ..).hub (by decide), pointTaken, (setPhaseNo_keeps ..).hub (by decide)]
    rfl
  · dsimp only
    rw [point, (takenOn_regsOff ..).rd (by decide), pointTaken, rd_setPhaseNo (by decide), rd_modHub, rd_wr_same]
    rfl
  · dsimp only
    rw [(takenOn_keeps ..).same .agents (by decide), (pointTaken_keeps ..).same .agents (by decide), (causesShown_keeps ..).same .agents (by decide)]

end Takeover

/-! ### ENGINE_CLOCK_START (R360) -/

section Clock

variable {s : State}

/-- What the start of a calibration shows of a field. -/
def calMarks (f : Nat) (b : Block) : Nat × Bool := ((b.fu f).calStep, (b.fu f).bistRunning)

theorem calibrate_same (b : Block) (now f : Nat) : calMarks f (b.calibrate now f) = (1, true) := by
  unfold calibrate bistStart calMarks
  rw [(wr_keeps ..).fu (by decide), fu_modFu_same, fu_modFu_same]

theorem calibrate_other {f g : Nat} (h : f ≠ g) (b : Block) (now : Nat) : calMarks f (b.calibrate now g) = calMarks f b := by
  unfold calibrate bistStart calMarks
  rw [(wr_keeps ..).fu (by decide), fu_modFu_other _ _ h, fu_modFu_other _ _ h]

/-- Every field whose rails are on is calibrated. -/
def Block.calibrating (b : Block) (now : Nat) (l : List Nat) : Block := b.each l (fun b f => b.calibrate now f)

theorem calibrating_marks {l : List Nat} {f : Nat} (hf : f ∈ l) (b : Block) (now : Nat) : calMarks f (b.calibrating now l) = (1, true) := by
  refine each_reaches (p := calMarks f) (fun b => calibrate_same ..) (fun b y => ?_) hf b
  obtain rfl | hy := eq_or_ne f y
  · exact .inl (calibrate_same ..)
  · exact .inr (calibrate_other hy ..)

theorem calibrating_regsOff (b : Block) (now : Nat) (l : List Nat) : b.RegsOff [0x4E] (b.calibrating now l) :=
  (regsOff_each fun c f => by
    unfold calibrate
    exact ((regsOff_modFu ..).2 (.refl ..)).trans (bistStart_regsOff ..)).2 (.refl ..)

theorem calibrating_keeps (b : Block) (now : Nat) (l : List Nat) : b.Keeps [.regs, .fields] (b.calibrating now l) := by
  unfold calibrating
  simp

theorem mem_of_mget_ne {α : Type} {d : α} {m : List (Nat × α)} {k : Nat} (h : mget d m k ≠ d) : (k, mget d m k) ∈ m := by
  induction m with
  | nil => exact absurd rfl h
  | cons e m ih =>
    obtain ⟨a, v⟩ := e
    unfold mget at h ⊢
    split
    next hk => exact hk ▸ List.mem_cons_self
    next hk =>
      rw [if_neg hk] at h
      exact List.mem_cons_of_mem _ (ih h)

/-- A unit in calibration is one of the table's. -/
theorem fields_calibrating {b : Block} {f : Nat} (h : (b.fu f).calStep = 1) : b.fields.any (fun e => e.2.calStep != 0) = true := by
  have hmem : (f, b.fu f) ∈ b.fields := mem_of_mget_ne fun e => by
    rw [Block.fu, e] at h
    cases h
  exact List.any_eq_true.2 ⟨_, hmem, by rw [h]; rfl⟩

theorem calibrationOver_waits {b : Block} (h : b.fields.any (fun e => e.2.calStep != 0) = true) (now : Nat) : b.calibrationOver now = b :=
  if_pos (.inr h)

/-- The engine's clock runs. -/
def Block.clockStarted (b : Block) : Block := (b.modHub (fun h => { h with clockOn := true })).setPhaseNo 8

theorem exec_engineClockStart (hph : s.b.phaseNo = 7)
    (hall : (allFields.filter s.b.railsOn).all (fun f => (s.b.repOf f).arrived && !s.b.hub.arrived.contains f) = true) :
    exec .engineClockStart s = .next { s with
      b := (s.b.clockStarted.calibrating s.tick (allFields.filter s.b.railsOn)).calibrationOver s.tick } := by
  have hany : (allFields.filter s.b.railsOn).any (fun f => !(s.b.repOf f).arrived || s.b.hub.arrived.contains f) = false := by
    rw [List.all_eq_true] at hall
    rw [List.any_eq_false]
    intro f hf h
    have := hall f hf
    simp_all
  show execEngineClockStart s = _
  unfold execEngineClockStart onB
  dsimp only
  rw [if_neg (by rw [hph, hany]; decide)]
  unfold calibrating clockStarted
  dsimp only

theorem exec_engineClockStart_none (hph : s.b.phaseNo ≠ 7) : exec .engineClockStart s = .next s := by
  show execEngineClockStart s = _
  unfold execEngineClockStart onB
  dsimp only
  rw [if_pos (.inl hph)]

theorem engineClockStart_shown {f : FieldNo} (hph : s.b.phaseNo = 7) (hon : s.b.railsOn f = true)
    (hall : (allFields.filter s.b.railsOn).all (fun f => (s.b.repOf f).arrived && !s.b.hub.arrived.contains f) = true) :
    ∃ t, exec .engineClockStart s = .next t ∧ InBlock s t ∧ t.b.hub.clockOn = true ∧ t.b.phaseNo = 8 ∧ (t.b.fu f).calStep = 1 ∧
      (t.b.fu f).bistRunning = true := by
  have hmarks := calibrating_marks (List.mem_filter.2 ⟨fieldNo_mem_allFields f, hon⟩) s.b.clockStarted s.tick
  have hstep := congrArg Prod.fst hmarks
  have hexec := exec_engineClockStart hph hall
  rw [calibrationOver_waits (fields_calibrating hstep)] at hexec
  refine ⟨_, hexec, inBlock_mk .., ?_, ?_, hstep, congrArg Prod.snd hmarks⟩
  · dsimp only
    rw [(calibrating_keeps ..).hub (by decide), clockStarted, (setPhaseNo_keeps ..).hub (by decide)]
    rfl
  · dsimp only
    rw [phaseNo, (calibrating_regsOff ..).rd (by decide), ← phaseNo, clockStarted, phaseNo_setPhaseNo _ (by decide)]

end Clock

/-! ### CALIBRATION_STEP and CALIBRATION_COMPLETE (R360, R361) -/

section Calibration

variable {f : FieldNo} {s : State}

/-- The next step of a field's calibration. -/
def Block.calGo (b : Block) (now f k idle : Nat) (bad : Bool) : Block := b.modFu f (fun u => { u with
  calStep := k, calFrom := now, calSum := 0, calTicks := 0, calBad := bad, calIdle := idle })

theorem exec_calStep_one (hstep : (s.b.fu f).calStep = 1) (hbist : (s.b.fu f).bistRunning = false)
    (htick : s.b.rd F_BIST.RUN_TICK f ≠ s.tick % 2 ^ 32) : exec (.calibrationStep f) s = .next { s with
      b := if s.b.phaseNo = 0 then s.b.modFu f (fun u => { u with calStep := 0, serviceDue := true }) else s.b.calGo s.tick f 2 0 false } := by
  have hnot : ¬ ((s.b.fu f).bistRunning || s.b.rd F_BIST.RUN_TICK f == lowBits 32 s.tick) = true := by
    rw [hbist, Bool.false_or, beq_iff_eq]
    exact htick
  show execCalibrationStep f s = _
  unfold execCalibrationStep onB
  dsimp only
  rw [hstep]
  exact congrArg (fun c : Block => Host.Outcome.next { s with b := c }) (if_neg hnot)

theorem exec_calStep_settled {k : Nat} (hstep : (s.b.fu f).calStep = k) (hk : k = 2 ∨ k = 4) (hdue : (s.b.fu f).calFrom + 64 ≤ s.tick) :
    ∃ idle bad, exec (.calibrationStep f) s = .next { s with b := s.b.calGo s.tick f (k + 1) idle bad } := by
  have hnot : ¬ s.tick < (s.b.fu f).calFrom + 64 := Nat.not_lt_of_le hdue
  obtain rfl | rfl := hk
  · refine ⟨0, false, ?_⟩
    show execCalibrationStep f s = _
    unfold execCalibrationStep onB
    dsimp only
    rw [hstep]
    exact congrArg (fun c : Block => Host.Outcome.next { s with b := c }) (if_neg hnot)
  · refine ⟨(s.b.fu f).calIdle, (s.b.fu f).calBad, ?_⟩
    show execCalibrationStep f s = _
    unfold execCalibrationStep onB
    dsimp only
    rw [hstep]
    exact congrArg (fun c : Block => Host.Outcome.next { s with b := c }) (if_neg hnot)

theorem exec_calStep_idle (hstep : (s.b.fu f).calStep = 3) (hdue : (s.b.fu f).calFrom + 256 ≤ s.tick) :
    exec (.calibrationStep f) s = .next { s with
      b := s.b.calGo s.tick f 4 ((s.b.fu f).calSum / max 1 (s.b.fu f).calTicks / 2000) ((s.b.fu f).calBad || decide ((s.b.fu f).calTicks < 256)) } := by
  show execCalibrationStep f s = _
  unfold execCalibrationStep onB
  dsimp only
  rw [hstep]
  exact congrArg (fun c : Block => Host.Outcome.next { s with b := c }) (if_neg (Nat.not_lt_of_le hdue))

theorem exec_calStep_none (hstep : (s.b.fu f).calStep = 0) : exec (.calibrationStep f) s = .next s := by
  show execCalibrationStep f s = _
  unfold execCalibrationStep onB
  dsimp only
  rw [hstep]
  rfl

theorem calGo_keeps (b : Block) (now f k idle : Nat) (bad : Bool) : b.Keeps [.fields] (b.calGo now f k idle bad) := modFu_keeps ..

theorem calGo_same (b : Block) (now f k idle : Nat) (bad : Bool) : (b.calGo now f k idle bad).fu f = { b.fu f with
    calStep := k, calFrom := now, calSum := 0, calTicks := 0, calBad := bad, calIdle := idle } := by
  unfold calGo
  rw [fu_modFu_same]

theorem calGo_other {f g : Nat} (h : g ≠ f) (b : Block) (now k idle : Nat) (bad : Bool) : (b.calGo now f k idle bad).fu g = b.fu g := by
  unfold calGo
  rw [fu_modFu_other _ _ h]

/-- The figures stand, and the field's calibration is over. -/
def Block.calKept (b : Block) (now f : Nat) (x : Nat × Nat) : Block :=
  (((b.putCalibration now f x).keepReference now f).modFu f (fun u => { u with calStep := 0, calibrated := true })).putFloor

theorem exec_calibrationComplete {x : Nat × Nat} (hstep : (s.b.fu f).calStep = 5) (hdue : (s.b.fu f).calFrom + 256 ≤ s.tick)
    (hx : x = (if (s.b.fu f).calBad || decide ((s.b.fu f).calTicks < 256) then s.b.gradeFigures f
      else ((s.b.fu f).calSum / (s.b.fu f).calTicks / 2000, (s.b.fu f).calIdle))) :
    exec (.calibrationComplete f) s = .next { s with b := (s.b.calKept s.tick f x).calibrationOver s.tick } := by
  subst hx
  show execCalibrationComplete f s = _
  unfold execCalibrationComplete onB
  dsimp only
  rw [if_neg (by rw [hstep]; simp; omega)]
  rfl

theorem exec_calibrationComplete_none (hstep : (s.b.fu f).calStep ≠ 5) : exec (.calibrationComplete f) s = .next s := by
  show execCalibrationComplete f s = _
  unfold execCalibrationComplete onB
  dsimp only
  rw [if_pos (.inl hstep)]

theorem calibrationOver_fuSame {α : Type} {g : FieldUnit → α} (hg : OffQueues g) (b : Block) (now : Nat) : FuSame g b (b.calibrationOver now) := by
  unfold calibrationOver
  dsimp only
  have hphase : FuSame g b (b.setPhaseNo 9) := (setPhaseNo_keeps ..).fuSame (by decide)
  split
  · exact .refl g b
  · split
    · exact hphase
    · exact hphase.trans (announce_fuSame hg ..)

theorem calibrationOver_regsOff (b : Block) (now : Nat) : b.RegsOff [0x12, 0x1F, 0x4B] (b.calibrationOver now) := by
  unfold calibrationOver
  dsimp only
  have hphase : b.RegsOff [0x12, 0x1F, 0x4B] (b.setPhaseNo 9) := (regsOff_wr (by decide) ..).2 (.refl ..)
  split
  · exact .refl ..
  · split
    · exact hphase
    · exact hphase.trans ((announce_regsOff ..).mono (by decide))

theorem putFloor_regsOff (b : Block) : b.RegsOff [0x1C] b.putFloor := by
  unfold putFloor
  dsimp only
  exact (regsOff_wr (by decide) ..).2 ((regsOff_wr (by decide) ..).2 ((regsOff_wr (by decide) ..).2 ((regsOff_wr (by decide) ..).2 (.refl ..))))

theorem putFloor_keeps (b : Block) : b.Keeps [.regs] b.putFloor := by simp

theorem keepReference_regsOff (b : Block) (now f : Nat) : b.RegsOff [0x4E] (b.keepReference now f) := by
  have hsave (c : Block) : c.RegsOff [0x4E] (c.saveStore now true) := (saveStore_keeps ..).regsOff (by decide) _
  unfold keepReference
  dsimp only
  split
  · exact .refl ..
  · exact RegsOff.trans ((regsOff_wr (by decide) ..).2 ((regsOff_wr (by decide) ..).2 ((regsOff_wr (by decide) ..).2 ((regsOff_modNv ..).2 (.refl ..)))))
      (hsave _)

theorem keepReference_keeps (b : Block) (now f : Nat) : b.Keeps [.regs, .mon, .nv] (b.keepReference now f) := by simp

theorem putCalibration_keeps (b : Block) (now f : Nat) (x : Nat × Nat) : b.Keeps [.regs, .mon, .nv] (b.putCalibration now f x) := by simp

theorem putCalibration_figures (b : Block) (now f : Nat) (x : Nat × Nat) :
    (b.putCalibration now f x).rd F_LIMIT.FLOOR0 f = x.1 % 2 ^ F_LIMIT.FLOOR0.width ∧
      (b.putCalibration now f x).rd F_LIMIT.IDLE0 f = x.2 % 2 ^ F_LIMIT.IDLE0.width := by
  unfold putCalibration
  dsimp only
  rw [(saveStore_keeps ..).rd (by decide), (saveStore_keeps ..).rd (by decide), rd_modNv, rd_modNv, rd_wr_apart (by decide), rd_wr_same, rd_wr_same]
  exact ⟨rfl, rfl⟩

theorem calKept_regs (b : Block) (now f : Nat) (x : Nat × Nat) : (b.putCalibration now f x).RegsOff [0x1C, 0x4E] (b.calKept now f x) := by
  unfold calKept
  exact (((keepReference_regsOff ..).mono (by decide)).trans ((regsOff_modFu ..).2 (.refl ..))).trans ((putFloor_regsOff ..).mono (by decide))

theorem calKept_fu (b : Block) (now f : Nat) (x : Nat × Nat) : ((b.calKept now f x).fu f).calStep = 0 ∧ ((b.calKept now f x).fu f).calibrated = true := by
  unfold calKept
  rw [(putFloor_keeps ..).fu (by decide), fu_modFu_same]
  exact ⟨rfl, rfl⟩

theorem calibrationComplete_kept {x : Nat × Nat} (hstep : (s.b.fu f).calStep = 5) (hdue : (s.b.fu f).calFrom + 256 ≤ s.tick)
    (hx : x = (if (s.b.fu f).calBad || decide ((s.b.fu f).calTicks < 256) then s.b.gradeFigures f
      else ((s.b.fu f).calSum / (s.b.fu f).calTicks / 2000, (s.b.fu f).calIdle))) :
    ∃ t, exec (.calibrationComplete f) s = .next t ∧ InBlock s t ∧ (t.b.fu f).calStep = 0 ∧ (t.b.fu f).calibrated = true ∧
      t.b.rd F_LIMIT.FLOOR0 f = x.1 % 2 ^ F_LIMIT.FLOOR0.width ∧ t.b.rd F_LIMIT.IDLE0 f = x.2 % 2 ^ F_LIMIT.IDLE0.width := by
  obtain ⟨hzero, hcal⟩ := calKept_fu s.b s.tick f x
  obtain ⟨hfloor, hidle⟩ := putCalibration_figures s.b s.tick f x
  refine ⟨_, exec_calibrationComplete hstep hdue hx, inBlock_mk .., ?_, ?_, ?_, ?_⟩
  · dsimp only
    rw [(calibrationOver_fuSame (g := FieldUnit.calStep) (fun _ _ _ _ => rfl) ..).same, hzero]
  · dsimp only
    rw [(calibrationOver_fuSame (g := FieldUnit.calibrated) (fun _ _ _ _ => rfl) ..).same, hcal]
  · dsimp only
    rw [(calibrationOver_regsOff ..).rd (by decide), (calKept_regs ..).rd (by decide), hfloor]
  · dsimp only
    rw [(calibrationOver_regsOff ..).rd (by decide), (calKept_regs ..).rd (by decide), hidle]

end Calibration

/-! ### READY_ENTRY and FIELD_BACK_IN_SERVICE (R362, R363, R365, R367) -/

section Ready

variable {f : FieldNo} {s : State}

/-- Calibrated fields whose rails are on enter service. -/
def Block.fieldsReady (b : Block) (now : Nat) : Block :=
  (b.setPhaseNo 0).each (allFields.filter (fun f => (b.fu f).calibrated && b.railsOn f)) (fun b f => b.enterService now f)

/-- The event of every field that stays out. -/
def Block.outsNamed (b : Block) (now : Nat) : Block :=
  b.each (allFields.filter b.isOut) (fun b f => b.monEvent now 0 0x48 (srcField f) [f, b.rd F_ID.OUT_CAUSE f])

theorem exec_readyEntry (hph : s.b.phaseNo = 9) (hpoint : s.b.point = s.b.rd HUB_CONTOUR.BOOT_POINT 0) (hsteps : s.b.hub.steps = []) :
    exec .readyEntry s = .next { s with
      b := ((((s.b.fieldsReady s.tick).modHub (fun h => { h with wires := s.b.haltInForce || s.b.haltSt == haltStopping })).outsNamed
        s.tick).putFloor).evalMgr s.tick } := by
  show execReadyEntry s = _
  unfold execReadyEntry onB
  dsimp only
  rw [if_neg (by rw [hph, hpoint, hsteps]; simp)]
  unfold outsNamed fieldsReady
  dsimp only

theorem exec_readyEntry_none (hph : s.b.phaseNo ≠ 9) : exec .readyEntry s = .next s := by
  show execReadyEntry s = _
  unfold execReadyEntry onB
  dsimp only
  rw [if_pos (.inl hph)]

theorem fieldsReady_phaseNo (b : Block) (now : Nat) : (b.fieldsReady now).phaseNo = 0 := by
  unfold fieldsReady
  rw [enterServices_phaseNo, phaseNo_setPhaseNo _ (by decide)]

theorem fieldsReady_isOut (b : Block) (now : Nat) (f : FieldNo) :
    (b.fieldsReady now).isOut f = (b.isOut f && !((b.fu f).calibrated && b.railsOn f)) := by
  unfold fieldsReady
  rw [enterServices_isOut, isOut, bit, rd_setPhaseNo (by decide), ← bit, ← isOut]
  congr 1
  simp [List.mem_filter, fieldNo_mem_allFields f]

theorem outsNamed_rd {x : Fld} (hx : x.Fits ∧ x.page ∉ [0x19]) (b : Block) (now i : Nat) : (b.outsNamed now).rd x i = b.rd x i := by
  unfold outsNamed
  exact each_inv (I := fun c => c.rd x i = b.rd x i) (fun _ _ c hc => (rd_monEvent hx ..).trans hc) rfl

theorem readyEntry_shown (hph : s.b.phaseNo = 9) (hpoint : s.b.point = s.b.rd HUB_CONTOUR.BOOT_POINT 0) (hsteps : s.b.hub.steps = []) :
    ∃ t, exec .readyEntry s = .next t ∧ InBlock s t ∧ t.b.phaseNo = 0 ∧
      ∀ f : FieldNo, t.b.isOut f = (s.b.isOut f && !((s.b.fu f).calibrated && s.b.railsOn f)) := by
  refine ⟨_, exec_readyEntry hph hpoint hsteps, inBlock_mk .., ?_, fun f => ?_⟩
  · dsimp only
    rw [evalMgr_phaseNo, phaseNo, (putFloor_regsOff ..).rd (by decide), outsNamed_rd (by decide), rd_modHub, ← phaseNo, fieldsReady_phaseNo]
  · dsimp only
    rw [isOut, bit, (evalMgr_regsOff ..).rd (by decide), (putFloor_regsOff ..).rd (by decide), outsNamed_rd (by decide), rd_modHub, ← bit, ← isOut,
      fieldsReady_isOut]

/-- The floor and idle figures of a field that comes back. -/
def Block.backFigures (b : Block) (f : Nat) : Nat × Nat := if b.nv.cal.any (fun e => e.1 == f) then mget (0, 0) b.nv.cal f else b.gradeFigures f

/-- The field is calibrated, and no longer due for service. -/
def Block.backMarked (b : Block) (f : Nat) : Block := b.modFu f (fun u => { u with serviceDue := false, calibrated := true })

/-- The field's figures stand. -/
def Block.backShown (b : Block) (f : Nat) (x : Nat × Nat) : Block := (b.wr F_LIMIT.FLOOR0 f x.1).wr F_LIMIT.IDLE0 f x.2

theorem exec_fieldBackInService (hdue : (s.b.fu f).serviceDue = true) (hon : s.b.railsOn f = true) : exec (.fieldBackInService f) s = .next { s with
    b := ((((((s.b.backMarked f).backShown f ((s.b.backMarked f).backFigures f)).enterService s.tick f).monEvent s.tick 0 0x49 (srcField f)
      [f]).putFloor).enableDone s.tick f true) } := by
  show execFieldBackInService f s = _
  unfold execFieldBackInService onB
  dsimp only
  rw [if_neg (by rw [hdue, hon]; decide)]
  rfl

theorem exec_fieldBackInService_none (hdue : (s.b.fu f).serviceDue = false) : exec (.fieldBackInService f) s = .next s := by
  show execFieldBackInService f s = _
  unfold execFieldBackInService onB
  dsimp only
  rw [if_pos (by rw [hdue]; rfl)]

theorem backShown_keeps (b : Block) (f : Nat) (x : Nat × Nat) : b.Keeps [.regs] (b.backShown f x) := by
  unfold backShown
  simp

theorem backShown_isOut (b : Block) (f : Nat) (x : Nat × Nat) (g : Nat) : (b.backShown f x).isOut g = b.isOut g := by
  unfold backShown
  rw [isOut, bit, rd_wr_apart (by decide), rd_wr_apart (by decide), ← bit, ← isOut]

theorem fieldBack_isOut (b : Block) (now : Nat) (f : FieldNo) (g : Nat) :
    (((b.monEvent now 0 0x49 (srcField f) [f]).putFloor).enableDone now f true).isOut g = b.isOut g := by
  have hdone (c : Block) : c.RegsOff windowPages (c.enableDone now f true) := (regsOff_enableDone (List.Subset.refl _) ..).2 (.refl ..)
  rw [isOut, bit, (hdone _).rd (by decide), (putFloor_regsOff ..).rd (by decide), rd_monEvent (by decide), ← bit, ← isOut]

theorem enableDone_keeps (b : Block) (now f : Nat) (back : Bool) : b.Keeps [.regs, .ports, .hub] (b.enableDone now f back) := by simp

theorem fieldBackInService_shown (hdue : (s.b.fu f).serviceDue = true) (hon : s.b.railsOn f = true) :
    ∃ t, exec (.fieldBackInService f) s = .next t ∧ InBlock s t ∧ t.b.isOut f = false ∧ (t.b.fu f).serviceDue = false ∧
      ∀ g : FieldNo, g ≠ f → t.b.isOut g = s.b.isOut g := by
  refine ⟨_, exec_fieldBackInService hdue hon, inBlock_mk .., ?_, ?_, fun g hg => ?_⟩
  · dsimp only
    rw [fieldBack_isOut, enterService_in]
  · dsimp only
    rw [(enableDone_keeps ..).fu (by decide), (putFloor_keeps ..).fu (by decide), (monEvent_keeps ..).fu (by decide),
      (enterService_fuSame (g := FieldUnit.serviceDue) (fun _ _ _ _ => rfl) ..).same, (backShown_keeps ..).fu (by decide), backMarked, fu_modFu_same]
  · dsimp only
    rw [fieldBack_isOut, enterService_other (fun e => hg (Fin.ext e)), backShown_isOut]
    rfl

end Ready

/-! ### Settling O58 -/

/-- Settles O58. -/
theorem startUp : Obligations.StartUp := by
  unfold Obligations.StartUp
  refine ⟨fun i s hreset h1 h3 => ⟨bootImageLoad_none hreset h1 h3, bootImageLoad_slot hreset h1 h3⟩, fun i s h => exec_bootImageLoad_late h,
    fun s hph hboot => bootEnd_tests hph hboot, fun s hph => exec_bootEnd_none hph,
    fun s hph hmem hbist => ⟨selftestEnd_ramp hph hmem hbist, selftestEnd_held hph hmem hbist⟩, fun s hph hhold htrip hmore hdue => ?_,
    fun s hph => ⟨exec_groupSoftStart_none hph, exec_takeover_none hph⟩, fun s hph hover => takeover_shown hph hover,
    fun f s hph hon hall => engineClockStart_shown hph hon hall, fun s hph => exec_engineClockStart_none hph,
    fun f s hstep hbist hph htick => ?_, fun f s hstep hbist hph htick => ?_, fun f k s hstep hk hdue => ?_, fun f s hstep hdue => ?_,
    fun f s hstep => exec_calStep_none hstep, fun f x s hstep hdue hx => calibrationComplete_kept hstep hdue hx,
    fun f s hstep => exec_calibrationComplete_none hstep, fun s hph hpoint hsteps => readyEntry_shown hph hpoint hsteps,
    fun s hph => exec_readyEntry_none hph, fun f s hdue hon => fieldBackInService_shown hdue hon,
    fun f s hdue => exec_fieldBackInService_none hdue, fun f s hout hmark hvin hpower hmgr htaken hpair => ⟨fun hroom => ?_, fun hfull => ?_⟩,
    fun f s hvin => exec_fieldVinRestart_early hvin⟩
  · refine ⟨_, exec_groupSoftStart hph hhold htrip hmore hdue, inBlock_mk .., rfl, rfl, fun f hf => ?_⟩
    exact started_of_marks (softStarts_marks hf s.b s.tick)
  · have hexec := exec_calStep_one hstep hbist htick
    rw [if_neg hph] at hexec
    refine ⟨_, hexec, Keeps.withBlock_eq_graft (S := [.fields]) (calGo_keeps ..), ?_, ?_, fun k hk => calGo_other hk ..⟩
    · dsimp only
      rw [calGo_same]
    · dsimp only
      rw [calGo_same]
  · have hexec := exec_calStep_one hstep hbist htick
    rw [if_pos hph] at hexec
    exact ⟨_, hexec, Keeps.withBlock_eq_graft (S := [.fields]) (modFu_keeps ..), fu_modFu_same ..⟩
  · obtain ⟨idle, bad, hexec⟩ := exec_calStep_settled hstep hk hdue
    refine ⟨_, hexec, Keeps.withBlock_eq_graft (S := [.fields]) (calGo_keeps ..), ?_, ?_, ?_⟩
    all_goals
      dsimp only
      rw [calGo_same]
  · refine ⟨_, exec_calStep_idle hstep hdue, Keeps.withBlock_eq_graft (S := [.fields]) (calGo_keeps ..), ?_, ?_⟩
    all_goals
      dsimp only
      rw [calGo_same]
  · have hexec := exec_fieldVinRestart hout hmark hvin hpower hmgr htaken hpair
    rw [if_pos hroom] at hexec
    exact ⟨_, hexec, inBlock_mk .., started_of_marks (softStart_same ..)⟩
  · have hexec := exec_fieldVinRestart hout hmark hvin hpower hmgr htaken hpair
    rw [if_neg (Nat.not_lt_of_le hfull)] at hexec
    exact hexec

end Sys2Proof.Machine
end

section
/-!
SUPPORT. The window's own commands, and the rails' commands; O59.
-/

namespace Sys2Proof.Machine

open Sys2Proof Block

/-! ### Answers that are not journaled (R389) -/

section Unjournaled

variable {b : Block} {fl : Flight} {status : Nat} {op now : Nat} {c : Cmd}

theorem answer_unjournaled {pt : Nat} (hfl : (b.port pt).flight = some fl) (hj : journaled fl.op status = false) (detail : Nat) (data : List Nat) :
    b.answer now pt status detail data = b.status now pt fl status detail data := by
  unfold answer
  rw [hfl]
  dsimp only
  rw [hj]
  rfl

theorem status_answered (hseq : fl.seqNo = c.seq.toNat) (hop : fl.op < 256) (hfinal : status ≠ stAccepted) (hstatus : status < 256) (detail : Nat)
    (data : List Nat) (s : State) : Answered fl.op status c { s with b := b.status now (portNo c.port) fl status detail data } :=
  ⟨status_flight hfinal, (status_rd_rspStatus _ _ _ _ _ _ hfinal).trans (Nat.mod_eq_of_lt hstatus),
    (status_rd_rspSeq _ _ _ _ _ _ hfinal).trans (by rw [hseq]; exact Nat.mod_eq_of_lt c.seq.isLt),
    (status_rd_rspOpcode _ _ _ _ _ _ hfinal).trans (Nat.mod_eq_of_lt hop)⟩

theorem status_staged (hfinal : status ≠ stAccepted) (hj : journaled fl.op status = false) (pt detail : Nat) (data : List Nat) :
    (b.status now pt fl status detail data).hub.staged = b.hub.staged := by
  rw [status_of_final hfinal, freePort_hub, reportStatus_staged, (setFlag_keeps ..).hub (by decide), writeResponse_hub, stagedBy, hj]
  exact List.append_nil _

/-- The command that a row has taken, also where the journal has no room. -/
abbrev Begun (op : Nat) (c : Cmd) (now : Nat) (b : Block) : Prop :=
  (b.port (portNo c.port)).flight = some { flightOf now op c with begun := true }

theorem Begun.of_keeps {S : List Part} {d : Block} (h : Begun op c now b) (hk : b.Keeps S d) (hS : .ports ∉ S) : Begun op c now d :=
  (congrArg PortSt.flight (hk.port hS _)).trans h

theorem Begun.done_eq (h : Begun op c now b) (hj : journaled op stDone = false) (data : List Nat) :
    b.done now (portNo c.port) data = b.status now (portNo c.port) { flightOf now op c with begun := true } stDone 0 data :=
  answer_unjournaled h hj 0 data

theorem Begun.answered (h : Begun op c now b) (hj : journaled op stDone = false) (hop : op < 256) (data : List Nat) (s : State) :
    Answered op stDone c { s with b := b.done now (portNo c.port) data } := by
  rw [h.done_eq hj]
  exact status_answered rfl hop (by decide) (by decide) 0 data s

theorem Begun.rspWord (h : Begun op c now b) (hj : journaled op stDone = false) (data : List Nat) (s : State) {k : Nat} (hk : k < 8) :
    rspWord c { s with b := b.done now (portNo c.port) data } k = data.getD k 0 % 2 ^ 32 := by
  rw [h.done_eq hj]
  exact (status_rd_response _ _ _ _ _ _ (by decide) (rspData_ofResponse c.port hk)).trans (writeResponse_rspData _ _ _ _ _ _ hk)

theorem Begun.staged (h : Begun op c now b) (hj : journaled op stDone = false) (data : List Nat) :
    (b.done now (portNo c.port) data).hub.staged = b.hub.staged := by
  rw [h.done_eq hj, status_staged (by decide) hj]

theorem begun_begun (op : Nat) (c : Cmd) (b : Block) (now : Nat) : Begun op c now (b.begun now op c) := b.begun_flight now op c

end Unjournaled

/-! ### PING, LEASE and QUERY_STATE (R381, R391) -/

section Own

variable {c : Cmd} {s : State}

theorem exec_ping (h : Passes 0x01 c s) : exec (.ping c) s = .next { s with
    b := (s.b.begun s.tick 0x01 c).done s.tick (portNo c.port) [s.tick % 2 ^ 32, s.tick / 2 ^ 32 % 2 ^ 16 + 2 ^ 16 * s.b.mgr] } := by
  show execPing c s = _
  rw [execPing, h.runCmdB_eq, begun_mgr]
  rfl

/-- The lease of a port is taken, renewed or released. -/
def Block.leased (b : Block) (now pt : Nat) (release : Bool) : Block :=
  if release then (b.modHub (fun h => { h with leaseExpired := h.leaseExpired.filter (· != pt) })).setLease now pt false
  else (b.modHub (fun h => { h with leaseExpired := h.leaseExpired.filter (· != pt) })).takeLease now pt

theorem exec_lease (h : Passes 0x02 c s) : ∃ x y, exec (.lease c) s = .next { s with
    b := ((s.b.begun s.tick 0x02 c).leased s.tick (portNo c.port) (c.opt 0)).done s.tick (portNo c.port)
      [((s.b.begun s.tick 0x02 c).leased s.tick (portNo c.port) (c.opt 0)).rd (HUB_LEASE.LEASE_EPOCH (portNo c.port)) 0, x, y] } := by
  refine ⟨((s.b.begun s.tick 0x02 c).leased s.tick (portNo c.port) (c.opt 0)).rd (HUB_LEASE.EXPIRY_TICK (portNo c.port)) 0,
    ((s.b.begun s.tick 0x02 c).hub.leaseExpired.contains (portNo c.port)).toNat, ?_⟩
  show execLease c s = _
  rw [execLease, h.runCmdB_eq]
  rfl

theorem setLease_flag (b : Block) (now : Nat) {p : Nat} (hp : p < 3) (v : Bool) : (b.setLease now p v).flag HUB_LEASE.HELD 0 p = v := by
  have hset : (b.setFlag HUB_LEASE.HELD 0 p v).flag HUB_LEASE.HELD 0 p = v := by
    cases v
    · rw [flag_setFlag_false hp, decide_eq_true rfl, Bool.not_true, Bool.and_false]
    · rw [flag_setFlag_true hp, decide_eq_true rfl, Bool.or_true]
  unfold setLease
  dsimp only
  rw [flag, rd_wrB_apart (by decide), rd_cond fun d => rd_wr_apart (by decide) .., ← flag, hset]

theorem setLease_attended (b : Block) (now : Nat) {p : Nat} (hp : p < 3) : (b.setLease now p true).bit HUB_LEASE.UNATTENDED 0 = false := by
  have hset : (b.setFlag HUB_LEASE.HELD 0 p true).flag HUB_LEASE.HELD 0 p = true := by
    rw [flag_setFlag_true hp, decide_eq_true rfl, Bool.or_true]
  have hheld : ((b.setFlag HUB_LEASE.HELD 0 p true).rd HUB_LEASE.HELD 0 == 0) = false := by
    rw [beq_eq_false_iff_ne]
    intro h
    rw [flag, h, Nat.zero_testBit] at hset
    cases hset
  unfold setLease
  dsimp only
  rw [bit_wrB_same _ rfl, hheld]

theorem leased_held (b : Block) (now : Nat) {p : Nat} (hp : p < 3) (release : Bool) : (b.leased now p release).flag HUB_LEASE.HELD 0 p = !release := by
  unfold leased
  cases release
  · exact setLease_flag _ now hp true
  · exact setLease_flag _ now hp false

theorem leased_attended (b : Block) (now : Nat) {p : Nat} (hp : p < 3) : (b.leased now p false).bit HUB_LEASE.UNATTENDED 0 = false :=
  setLease_attended _ now hp

theorem setLease_keeps (b : Block) (now p : Nat) (v : Bool) : b.Keeps [.regs] (b.setLease now p v) := by simp

theorem leased_keeps (b : Block) (now p : Nat) (release : Bool) : b.Keeps [.regs, .hub] (b.leased now p release) := by
  unfold leased
  split <;> simp

theorem exec_queryState (h : Passes 0x03 c s) : ∃ x y z, exec (.queryState c) s = .next { s with
    b := (s.b.begun s.tick 0x03 c).done s.tick (portNo c.port)
      [(s.b.begun s.tick 0x03 c).stateWord, s.tick % 2 ^ 32, x, y, (s.b.begun s.tick 0x03 c).openCount,
        (s.b.begun s.tick 0x03 c).rd HUB_FAULT.FAULT_STATUS 0, z, 84 - (s.b.begun s.tick 0x03 c).inService.length] } := by
  refine ⟨(s.b.begun s.tick 0x03 c).rd HUB_JOURNAL.JOURNAL_WR 0,
    (s.b.begun s.tick 0x03 c).rd HUB_LEASE.HELD 0 + 16 * (s.b.begun s.tick 0x03 c).inFlight, (s.b.begun s.tick 0x03 c).procsDown, ?_⟩
  show execQueryState c s = _
  rw [execQueryState, h.runCmdB_eq]
  rfl

theorem stateWord_begun (b : Block) (now op : Nat) (c : Cmd) : (b.begun now op c).stateWord = b.stateWord := by
  have hoff := begun_regsOff b now op c
  unfold stateWord
  rw [begun_mgr, collector, collector, haltSt, haltSt, point, point, hoff.rd (by decide), hoff.rd (by decide), hoff.rd (by decide),
    hoff.rd (by decide), hoff.rd (by decide), hoff.rd (by decide)]

theorem stateWord_lt (b : Block) : b.stateWord < 2 ^ 32 := by
  have hmgr : b.mgr < 2 ^ 4 := b.rd_lt ..
  have hcol : b.collector < 2 ^ 3 := b.rd_lt ..
  have hhalt : b.haltSt < 2 ^ 3 := b.rd_lt ..
  have hun : b.rd HUB_LEASE.UNATTENDED 0 < 2 ^ 1 := b.rd_lt ..
  have hpoint : b.point < 2 ^ 5 := b.rd_lt ..
  have hplumb : b.rd HUB_CONTOUR.PLUMB_ON 0 < 2 ^ 1 := b.rd_lt ..
  have hfrozen : b.rd HUB_LOCK.FROZEN 0 < 2 ^ 1 := b.rd_lt ..
  unfold stateWord
  omega

theorem inService_begun (b : Block) (now op : Nat) (c : Cmd) : (b.begun now op c).inService = b.inService := by
  unfold inService isOut
  simp only [(begun_regsOff b now op c).bit (show F_ID.MARKED_OUT.Fits ∧ F_ID.MARKED_OUT.page ∉ windowPages by decide)]

theorem openCount_begun (b : Block) (now op : Nat) (c : Cmd) : (b.begun now op c).openCount = b.openCount := by
  unfold openCount
  rw [(begun_keeps ..).same .accounts (by decide)]

end Own

end Sys2Proof.Machine
end

section
/-!
SUPPORT. The end of a lease, the journal, and the rails' commands; O59.
-/

namespace Sys2Proof.Machine

open Sys2Proof Block

/-! ### LEASE_EXPIRY (R391, R392) -/

section Expiry

variable {p : CmdPort} {s : State}

/-- The lease of port `p` is over, with its entry staged and its count. -/
def Block.leaseOver (b : Block) (now p : Nat) (e : JEntry) : Block :=
  (((b.setLease now p false).modHub (fun h => { h with
    leaseExpired := p :: h.leaseExpired.filter (· != p), staged := h.staged ++ [e] })).inc (HUB_LEASE.EXPIRIES p) 0).fault 30 255 p 0

theorem exec_leaseExpiry (hheld : s.b.flag HUB_LEASE.HELD 0 (portNo p) = true) (hdue : s.b.leaseFrom (portNo p) + s.b.leaseTicks ≤ s.tick) :
    ∃ e, exec (.leaseExpiry p) s = .next { s with b := (s.b.freshes 5).2.leaseOver s.tick (portNo p) e } := by
  refine ⟨leaseEntry s.tick (portNo p) (((s.b.freshes 5).2.setLease s.tick (portNo p) false).rd (HUB_LEASE.LEASE_EPOCH (portNo p)) 0)
    (s.b.freshes 5).1, ?_⟩
  show execLeaseExpiry p s = _
  unfold execLeaseExpiry onB
  dsimp only
  rw [if_neg (by rw [hheld]; simp; omega)]
  rfl

theorem exec_leaseExpiry_none (hheld : s.b.flag HUB_LEASE.HELD 0 (portNo p) = false) : exec (.leaseExpiry p) s = .next s := by
  show execLeaseExpiry p s = _
  unfold execLeaseExpiry onB
  dsimp only
  rw [if_pos (.inl hheld)]

theorem leaseOver_keeps (b : Block) (now p : Nat) (e : JEntry) : b.Keeps [.regs, .fields, .hub, .faults] (b.leaseOver now p e) := by
  unfold leaseOver
  simp

theorem leaseOver_held (b : Block) (now : Nat) (p : CmdPort) (e : JEntry) : (b.leaseOver now (portNo p) e).flag HUB_LEASE.HELD 0 (portNo p) = false := by
  have hcount : (HUB_LEASE.EXPIRIES (portNo p)).apart HUB_LEASE.HELD = true := by cases p <;> decide
  unfold leaseOver
  rw [flag, rd_fault, rd_inc_apart hcount, rd_modHub, ← flag, setLease_flag _ _ (portNo_lt p)]

theorem leaseOver_staged (b : Block) (now p : Nat) (e : JEntry) : (b.leaseOver now p e).hub.staged = b.hub.staged ++ [e] := by
  unfold leaseOver
  rw [(fault_keeps ..).hub (by decide), (inc_keeps ..).hub (by decide), modHub_same, (setLease_keeps ..).hub (by decide)]

theorem leaseOver_faults (b : Block) (now : Nat) (p : CmdPort) (e : JEntry) :
    (b.leaseOver now (portNo p) e).faults = b.faults ++ [{ src := 30, field := 255, detail := portNo p, off := 0 }] := by
  unfold leaseOver
  rw [faults_fault, (inc_keeps ..).faults (by decide), (modHub_keeps ..).faults (by decide), (setLease_keeps ..).faults (by decide)]
  cases p <;> rfl

end Expiry

/-! ### JOURNAL_APPEND (R389) -/

section Journal

variable {s : State}

/-- The staged entries are appended, and none is staged. -/
def Block.journalKept (b : Block) : Block := (b.modHub (fun h => { h with staged := [] })).each b.hub.staged (fun b e => b.append e)

/-- The journal takes an entry, and counts it. -/
def Block.entryKept (b : Block) (e : JEntry) : Block :=
  (b.modHub (fun h => { h with journal := (h.journal ++ [e]).drop (h.journal.length + 1 - 4096) })).inc HUB_JOURNAL.JOURNAL_WR 0

/-- An entry is kept, and perhaps queued for the mirror. -/
theorem append_cases (b : Block) (e : JEntry) :
    ∃ e', b.append e = b.entryKept e' ∨ ∃ r, b.append e = (b.entryKept e').monQueue false r := by
  unfold append
  dsimp only
  split
  · exact ⟨_, .inr ⟨_, rfl⟩⟩
  · exact ⟨_, .inl rfl⟩

theorem monQueue_keeps (b : Block) (front : Bool) (r : MonRec) : b.Keeps [.mon] (b.monQueue front r) := by simp

theorem entryKept_staged (b : Block) (e : JEntry) : (b.entryKept e).hub.staged = b.hub.staged := by
  unfold entryKept
  rw [(inc_keeps ..).hub (by decide), modHub_same]

theorem entryKept_wr (b : Block) (e : JEntry) :
    (b.entryKept e).rd HUB_JOURNAL.JOURNAL_WR 0 = (b.rd HUB_JOURNAL.JOURNAL_WR 0 + 1) % 2 ^ HUB_JOURNAL.JOURNAL_WR.width := by
  unfold entryKept
  rw [rd_inc_same, rd_modHub]

theorem append_staged (b : Block) (e : JEntry) : HubSame Hub.staged b (b.append e) := by
  refine ⟨fun _ => ?_⟩
  obtain ⟨e', h | ⟨r, h⟩⟩ := append_cases b e
  · rw [h, entryKept_staged]
  · rw [h, (monQueue_keeps ..).hub (by decide), entryKept_staged]

theorem append_wr (b : Block) (e : JEntry) :
    (b.append e).rd HUB_JOURNAL.JOURNAL_WR 0 = (b.rd HUB_JOURNAL.JOURNAL_WR 0 + 1) % 2 ^ HUB_JOURNAL.JOURNAL_WR.width := by
  obtain ⟨e', h | ⟨r, h⟩⟩ := append_cases b e
  · rw [h, entryKept_wr]
  · rw [h, (monQueue_keeps ..).rd (by decide), entryKept_wr]

theorem appends_wr (l : List JEntry) (b : Block) : (b.each l (fun b e => b.append e)).rd HUB_JOURNAL.JOURNAL_WR 0 =
    (b.rd HUB_JOURNAL.JOURNAL_WR 0 + l.length) % 2 ^ HUB_JOURNAL.JOURNAL_WR.width := by
  induction l generalizing b with
  | nil => exact (Nat.mod_eq_of_lt (b.rd_lt ..)).symm
  | cons e l ih =>
    have hcons : b.each (e :: l) (fun b e => b.append e) = (b.append e).each l (fun b e => b.append e) := rfl
    rw [hcons, ih, append_wr, Nat.mod_add_mod, List.length_cons, Nat.add_assoc, Nat.add_comm 1]

theorem journalKept_staged (b : Block) : b.journalKept.hub.staged = [] :=
  (TabSame.each (tab := fun b _ => b.hub) (g := Hub.staged) (.refl _) fun c e => append_staged c e).same 0

theorem journalKept_keeps (b : Block) : b.Keeps [.regs, .hub, .mon] b.journalKept := by
  unfold journalKept
  simp

theorem payOwed_none {b : Block} {pt : Nat} (h : (b.port pt).flight = none) (now : Nat) : b.payOwed now pt = b := by
  unfold payOwed
  rw [h]

theorem exec_journalAppend (hrun : (s.b.proc 85).st = 0) (hidle : ∀ pt, pt < 3 → (s.b.port pt).flight = none) :
    exec .journalAppend s = .next { s with b := s.b.journalKept } := by
  have hport : ∀ pt < 3, s.b.journalKept.payOwed s.tick pt = s.b.journalKept := fun pt hpt =>
    payOwed_none ((congrArg PortSt.flight ((journalKept_keeps ..).port (by decide) pt)).trans (hidle pt hpt)) _
  have hpay : s.b.journalKept.each [0, 1, 2] (fun b pt => b.payOwed s.tick pt) = s.b.journalKept := by
    show ((s.b.journalKept.payOwed s.tick 0).payOwed s.tick 1).payOwed s.tick 2 = _
    rw [hport 0 (by decide), hport 1 (by decide), hport 2 (by decide)]
  show execJournalAppend s = _
  unfold execJournalAppend onB
  dsimp only
  rw [if_neg (not_not_intro hrun)]
  exact congrArg (fun c : Block => Host.Outcome.next { s with b := c }) hpay

theorem exec_journalAppend_down (hrun : (s.b.proc 85).st ≠ 0) : exec .journalAppend s = .next s := by
  show execJournalAppend s = _
  unfold execJournalAppend onB
  dsimp only
  rw [if_pos hrun]

end Journal

/-! ### A command that works before it is accepted -/

section Accepted

variable {op : Nat} {c : Cmd} {s : State}

/-- The port after ACCEPTED depends on itself and on the entries that wait for the journal. -/
theorem accept_port {a b : Block} {p : CmdPort} (hport : b.port (portNo p) = a.port (portNo p)) (hstaged : b.hub.staged = a.hub.staged)
    (now : Nat) (data : List Nat) :
    (b.accept now (portNo p) data).port (portNo p) = (a.accept now (portNo p) data).port (portNo p) := by
  have hstatus (d : Block) (fl : Flight) : (d.status now (portNo p) fl stAccepted 0 data).port (portNo p) =
      { d.port (portNo p) with flight := (d.port (portNo p)).flight.map (fun x => { x with accepted := true }) } := by
    rw [status_accepted, port_modPort_same, (wr_keeps ..).port (by decide), reportStatus_port, (setFlag_keeps ..).port (by decide), writeResponse_port]
  unfold accept answer
  rw [hport]
  split
  next => exact hport
  next =>
    rw [hstaged]
    split
    · rw [port_setPort_same, port_setPort_same]
    · rw [hstatus, hstatus, hport]

theorem waits_worked {b : Block} (w : Wait) (hport : b.port (portNo c.port) = (s.b.begun s.tick op c).port (portNo c.port))
    (hstaged : b.hub.staged = (s.b.begun s.tick op c).hub.staged) :
    Waits c w { s with b := (b.accept s.tick (portNo c.port) []).await (portNo c.port) w } := by
  refine waits_accepted (op := op) w ?_
  rw [await, await, port_modPort_same, port_modPort_same, accept_port hport hstaged]

end Accepted

/-! ### RAIL_ENABLE (R198) -/

section Enable

variable {c : Cmd} {s : State}

/-- Neither rail of the field is latched off. -/
def Block.unlatched (b : Block) (f : Nat) : Block := (b.wrB (F_RAIL.LATCHED_OFF 0) f false).wrB (F_RAIL.LATCHED_OFF 1) f false

/-- The field leaves the out-of-service map. -/
def Block.unmapped (b : Block) (now f : Nat) : Block :=
  b.cond (b.nv.outMap.contains f) (fun b => (b.modNv (fun n => { n with outMap := n.outMap.filter (· != f) })).saveStore now false)

/-- The field takes its place in the queue of starts. -/
def Block.queuedToStart (b : Block) (f : Nat) : Block :=
  b.cond (!b.pairUp f || (b.fu f).latchAt.isSome) (fun b => b.modFu f (fun u => { u with startQueued := true, outNext := none }))

theorem enableField_eq (b : Block) (now f : Nat) : b.enableField now f = ((b.unlatched f).unmapped now f).queuedToStart f := rfl

theorem unmapped_keeps (b : Block) (now f : Nat) : b.Keeps [.nv, .mon] (b.unmapped now f) := by
  unfold unmapped
  simp

theorem unlatched_keeps (b : Block) (f : Nat) : b.Keeps [.regs] (b.unlatched f) := by
  unfold unlatched
  simp

theorem queuedToStart_keeps (b : Block) (f : Nat) : b.Keeps [.fields] (b.queuedToStart f) := by
  unfold queuedToStart
  simp

theorem enableField_keeps (b : Block) (now f : Nat) : b.Keeps [.regs, .nv, .mon, .fields] (b.enableField now f) := by
  rw [enableField_eq]
  exact ((unlatched_keeps ..).mono (by decide)).trans (((unmapped_keeps ..).mono (by decide)).trans ((queuedToStart_keeps ..).mono (by decide)))

/-- What RAIL_ENABLE shows of a field's latches. -/
def latchBits (f : Nat) (b : Block) : Bool × Bool := (b.bit (F_RAIL.LATCHED_OFF 0) f, b.bit (F_RAIL.LATCHED_OFF 1) f)

theorem enableField_latches (b : Block) (now f g : Nat) : latchBits g (b.enableField now f) = latchBits g (b.unlatched f) := by
  have hkeeps : (b.unlatched f).Keeps [.nv, .mon, .fields] (((b.unlatched f).unmapped now f).queuedToStart f) :=
    ((unmapped_keeps ..).mono (by decide)).trans ((queuedToStart_keeps ..).mono (by decide))
  rw [enableField_eq, latchBits, latchBits, hkeeps.bit (by decide), hkeeps.bit (by decide)]

theorem enableField_unlatched (b : Block) (now f : Nat) : latchBits f (b.enableField now f) = (false, false) := by
  rw [enableField_latches, latchBits, unlatched, bit_wrB_same _ rfl, bit_wrB_apart (by decide), bit_wrB_same _ rfl]

theorem enableField_latches_other {f g : Nat} (h : g ≠ f) (b : Block) (now : Nat) : latchBits g (b.enableField now f) = latchBits g b := by
  have hwrB (b : Block) (x : Fld) (v : Bool) : (b.wrB x f v).bit x g = b.bit x g := by
    rw [bit, bit, wrB, rd_wr_instance h]
  rw [enableField_latches, latchBits, latchBits, unlatched, bit_wrB_apart (x := F_RAIL.LATCHED_OFF 1) (by decide), hwrB, hwrB,
    bit_wrB_apart (by decide)]

theorem enableFields_unlatched {l : List Nat} {f : Nat} (hf : f ∈ l) (b : Block) (now : Nat) :
    latchBits f (b.each l (fun b f => b.enableField now f)) = (false, false) := by
  refine each_reaches (p := latchBits f) (fun b => enableField_unlatched ..) (fun b y => ?_) hf b
  obtain rfl | hy := eq_or_ne f y
  · exact .inl (enableField_unlatched ..)
  · exact .inr (enableField_latches_other hy ..)

theorem pairUp_congr {a b : Block} (h : b.rails = a.rails) (f : Nat) : b.pairUp f = a.pairUp f := by
  unfold pairUp Block.rail
  rw [h]

theorem enableField_queued {b : Block} {f : Nat} (h : b.pairUp f = false) (now : Nat) : ((b.enableField now f).fu f).startQueued = true := by
  have hup : ((b.unlatched f).unmapped now f).pairUp f = false := by
    rw [pairUp_congr ((unmapped_keeps ..).same .rails (by decide)), pairUp_congr ((unlatched_keeps ..).same .rails (by decide)), h]
  rw [enableField_eq, queuedToStart, cond_of_true (by rw [hup]; rfl), fu_modFu_same]

theorem enableField_fu_other {f g : Nat} (h : g ≠ f) (b : Block) (now : Nat) : (b.enableField now f).fu g = b.fu g := by
  have hqueued (d : Block) : (d.queuedToStart f).fu g = d.fu g := by
    unfold queuedToStart Block.cond
    split
    · rw [fu_modFu_other _ _ h]
    · rfl
  rw [enableField_eq, hqueued, (unmapped_keeps ..).fu (by decide), (unlatched_keeps ..).fu (by decide)]

theorem enableFields_queued {l : List Nat} {f : Nat} (hf : f ∈ l) {b : Block} (h : b.pairUp f = false) (now : Nat) :
    ((b.each l (fun b f => b.enableField now f)).fu f).startQueued = true := by
  refine each_reaches_of (p := fun b => (b.fu f).startQueued) (I := fun b => b.pairUp f = false) (g := fun b f => b.enableField now f)
    (fun y _ c hc => (pairUp_congr ((enableField_keeps ..).same .rails (by decide)) f).trans hc)
    (fun c hc => enableField_queued hc now) (fun y _ c hc => ?_) hf h
  obtain rfl | hy := eq_or_ne f y
  · exact .inl (enableField_queued hc now)
  · exact .inr (congrArg FieldUnit.startQueued (enableField_fu_other hy c now))

/-- The fields that RAIL_ENABLE names and that are out. -/
def enableNames (c : Cmd) (s : State) : List Nat := (c.fset 0).filter (fun f => s.b.isOut f)

/-- They are unlatched and queued. -/
def enableWorked (c : Cmd) (s : State) : Block := (s.b.begun s.tick 0xA0 c).each (enableNames c s) (fun b f => b.enableField s.tick f)

theorem exec_railEnable (h : Passes 0xA0 c s) : exec (.railEnable c) s = .next { s with
    b := if (enableNames c s).isEmpty then ((enableWorked c s).accept s.tick (portNo c.port) []).done s.tick (portNo c.port) [0, 0]
      else ((enableWorked c s).accept s.tick (portNo c.port) []).await (portNo c.port) (.enable (enableNames c s) 0 0) } := by
  have hnames : (c.fset 0).filter (fun f => (s.b.begun s.tick 0xA0 c).isOut f) = enableNames c s := by
    unfold isOut enableNames
    simp only [(begun_regsOff s.b s.tick 0xA0 c).bit (show F_ID.MARKED_OUT.Fits ∧ F_ID.MARKED_OUT.page ∉ windowPages by decide)]
    rfl
  show execRailEnable c s = _
  rw [execRailEnable, h.runCmdB_eq]
  dsimp only
  rw [hnames]
  rfl

theorem enableWorked_keeps (c : Cmd) (s : State) : (s.b.begun s.tick 0xA0 c).Keeps [.regs, .nv, .mon, .fields] (enableWorked c s) := by
  unfold enableWorked
  simp

/-- From the fields' work to the end of the row. -/
theorem worked_rails {S : List Part} {op : Nat} {b d : Block} (hb : (s.b.begun s.tick op c).Keeps S b) (hS : .rails ∉ S)
    (hd : b.Keeps [.regs, .ports, .hub] d) : d.rails = s.b.rails := by
  rw [hd.same .rails (by decide), hb.same .rails hS, (begun_keeps ..).same .rails (by decide)]

theorem railEnable_waits (h : Passes 0xA0 c s) (hl : (enableNames c s).isEmpty = false) : ∃ t, exec (.railEnable c) s = .next t ∧ InBlock s t ∧
    Waits c (.enable (enableNames c s) 0 0) t ∧ t.b.rails = s.b.rails ∧
    ∀ f ∈ enableNames c s, t.b.bit (F_RAIL.LATCHED_OFF 0) f = false ∧ t.b.bit (F_RAIL.LATCHED_OFF 1) f = false ∧
      (s.b.pairUp f = false → (t.b.fu f).startQueued = true) := by
  have hexec := exec_railEnable h
  rw [if_neg (fun e => Bool.false_ne_true (hl.symm.trans e))] at hexec
  have hwork := enableWorked_keeps c s
  have hoff : (enableWorked c s).RegsOff windowPages (((enableWorked c s).accept s.tick (portNo c.port) []).await (portNo c.port)
      (.enable (enableNames c s) 0 0)) :=
    (regsOff_await ..).2 ((regsOff_accept (List.Subset.refl _) s.tick (portNo_lt c.port) []).2 (.refl ..))
  refine ⟨_, hexec, inBlock_mk .., waits_worked _ (hwork.port (by decide) _) (congrArg Hub.staged (hwork.hub (by decide))),
    worked_rails hwork (by decide) (by simp), fun f hf => ?_⟩
  have hlatch := enableFields_unlatched hf (s.b.begun s.tick 0xA0 c) s.tick
  refine ⟨?_, ?_, fun hup => ?_⟩
  · dsimp only
    rw [hoff.bit (by decide)]
    exact congrArg Prod.fst hlatch
  · dsimp only
    rw [hoff.bit (by decide)]
    exact congrArg Prod.snd hlatch
  · have hqueued := enableFields_queued hf ((pairUp_congr ((begun_keeps s.b s.tick 0xA0 c).same .rails (by decide)) f).trans hup) s.tick
    dsimp only
    rw [(await_keeps ..).fu (by decide), (accept_keeps ..).fu (by decide)]
    exact hqueued

theorem railEnable_none (h : Passes 0xA0 c s) (hl : enableNames c s = []) (hroom : s.b.hub.staged.length < 15) :
    ∃ t, exec (.railEnable c) s = .next t ∧ InBlock s t ∧ Answered 0xA0 stDone c t ∧ t.b.rails = s.b.rails := by
  have hexec := exec_railEnable h
  rw [if_pos (by rw [hl]; rfl)] at hexec
  have hwork := enableWorked_keeps c s
  have htaken : Taken 0xA0 c s.tick (enableWorked c s) :=
    (begun_taken 0xA0 c s.tick (Nat.lt_succ_of_lt hroom)).of_keeps hwork (by decide) (by decide)
  have hready := htaken.accept_ready (by rw [hwork.hub (by decide)]; exact hroom) s.tick []
  exact ⟨_, hexec, inBlock_mk .., hready.answered rfl (show 0xA0 < 256 by decide) (by decide) (by decide) s,
    worked_rails hwork (by decide) (by unfold done; simp)⟩

end Enable

/-! ### RAIL_DISABLE (R198) -/

section Disable

variable {c : Cmd} {s : State}

/-- A field waits for no start. -/
def Block.unqueued (b : Block) (f : Nat) : Block := b.modFu f (fun u => { u with startQueued := false })

/-- A field that is down goes out with the command's cause at the boundary. -/
def Block.outDue (b : Block) (f : Nat) : Block :=
  b.cond (!b.bit (F_RAIL.LATCHED_OFF 0) f) (fun b => b.modFu f (fun u => { u with outNext := some 8 }))

/-- One field of RAIL_DISABLE. -/
def Block.disableField (b : Block) (now f : Nat) : Block :=
  if (b.unqueued f).pairUp f then (b.unqueued f).softStop now f 8 else (b.unqueued f).outDue f

/-- The named fields join the out-of-service map, where the command says so. -/
def Block.mapped (b : Block) (now : Nat) (keep : Bool) (l : List Nat) : Block :=
  b.cond keep (fun b => (b.modNv (fun n => { n with
    outMap := allFields.filter (fun f => n.outMap.contains f || l.contains f) })).saveStore now false)

theorem outDue_keeps (b : Block) (f : Nat) : b.Keeps [.fields] (b.outDue f) := by
  unfold outDue
  simp

theorem mapped_keeps (b : Block) (now : Nat) (keep : Bool) (l : List Nat) : b.Keeps [.nv, .mon] (b.mapped now keep l) := by
  unfold mapped
  simp

theorem unqueued_keeps (b : Block) (f : Nat) : b.Keeps [.fields] (b.unqueued f) := modFu_keeps ..

theorem softStop_keeps (b : Block) (now f cause : Nat) : b.Keeps [.regs, .fields, .rails] (b.softStop now f cause) := by simp

theorem disableField_keeps (b : Block) (now f : Nat) : b.Keeps [.regs, .fields, .rails] (b.disableField now f) := by
  unfold disableField
  split
  · exact ((unqueued_keeps ..).mono (by decide)).trans (softStop_keeps ..)
  · exact ((unqueued_keeps ..).mono (by decide)).trans ((outDue_keeps ..).mono (by decide))

theorem disableField_down {b : Block} {f : Nat} (h : b.pairUp f = false) (now : Nat) : (b.disableField now f).rails = b.rails := by
  have hup : (b.unqueued f).pairUp f = false := (pairUp_congr ((unqueued_keeps ..).same .rails (by decide)) f).trans h
  unfold disableField
  rw [if_neg (by rw [hup]; decide), (outDue_keeps ..).same .rails (by decide), (unqueued_keeps ..).same .rails (by decide)]

/-- A rail as it was, or one that was up and now stops. -/
def Stopped (a b : Block) (k : Nat) : Prop := (b.rail k).run = (a.rail k).run ∨ (((a.rail k).run = 1 ∨ (a.rail k).run = 2) ∧ (b.rail k).run = 3)

theorem Stopped.trans {a b d : Block} {k : Nat} (h : Stopped a b k) (h' : Stopped b d k) : Stopped a d k := by
  unfold Stopped at *
  omega

theorem Stopped.up {a b : Block} {k : Nat} (h : Stopped a b k) : ((b.rail k).run != 0) = ((a.rail k).run != 0) := by
  obtain h | ⟨h | h, h'⟩ := h
  · rw [h]
  · rw [h, h']
    rfl
  · rw [h, h']
    rfl

theorem softRail_stopped (b : Block) (now f rl k : Nat) : Stopped b (b.softRail now f rl) k := by
  obtain rfl | hk := eq_or_ne k (railOf f rl)
  · by_cases h : (b.rail (railOf f rl)).run = 1 ∨ (b.rail (railOf f rl)).run = 2
    · exact .inr ⟨h, softRail_same (h.imp id .inl) now⟩
    · refine .inl ?_
      unfold softRail
      rw [cond_of_false (by simpa using h)]
  · exact .inl (by rw [softRail_other hk])

theorem softStop_stopped (b : Block) (now f cause k : Nat) : Stopped b (b.softStop now f cause) k := by
  rw [softStop_eq]
  exact each_inv (I := fun d => Stopped b d k) (fun rl _ d hd => hd.trans (softRail_stopped d now f rl k)) (.inl rfl)

theorem disableField_stopped (b : Block) (now f k : Nat) : Stopped b (b.disableField now f) k := by
  have hqueue : Stopped b (b.unqueued f) k := .inl (by rw [(unqueued_keeps ..).rail (by decide)])
  unfold disableField
  split
  · exact hqueue.trans (softStop_stopped ..)
  · exact hqueue.trans (.inl (by rw [(outDue_keeps ..).rail (by decide)]))

theorem disableField_run {b : Block} {f : Nat} (h : (b.rail (railOf f 0)).run = 1 ∨ (b.rail (railOf f 0)).run = 2 ∨ (b.rail (railOf f 0)).run = 3)
    (now : Nat) : ((b.disableField now f).rail (railOf f 0)).run = 3 := by
  have hrail : (b.unqueued f).rail (railOf f 0) = b.rail (railOf f 0) := (unqueued_keeps ..).rail (by decide) _
  have hup : (b.unqueued f).pairUp f = true := by
    unfold pairUp
    rw [hrail]
    obtain h | h | h := h <;> rw [h] <;> rfl
  unfold disableField
  rw [if_pos hup]
  exact softStop_stops (by decide) (by rw [Up, hrail]; exact h) now 8

/-- The named fields stop. -/
def disableWorked (c : Cmd) (s : State) : Block :=
  ((s.b.begun s.tick 0xA1 c).each (c.fset 0) (fun b f => b.disableField s.tick f)).mapped s.tick (c.opt 0) (c.fset 0)

theorem disableFields_stopped (l : List Nat) (b : Block) (now k : Nat) : Stopped b (b.each l (fun b f => b.disableField now f)) k :=
  each_inv (I := fun d => Stopped b d k) (fun f _ d hd => hd.trans (disableField_stopped d now f k)) (.inl rfl)

theorem disableFields_run {l : List Nat} {f : Nat} (hf : f ∈ l) {b : Block} (h : (b.rail (railOf f 0)).run = 1 ∨ (b.rail (railOf f 0)).run = 2)
    (now : Nat) : ((b.each l (fun b f => b.disableField now f)).rail (railOf f 0)).run = 3 := by
  have hstay {d : Block} (g : Nat) (hd : Up (railOf f 0) d) : ((d.disableField now g).rail (railOf f 0)).run = 3 ∨
      ((d.disableField now g).rail (railOf f 0)).run = (d.rail (railOf f 0)).run :=
    (disableField_stopped d now g (railOf f 0)).elim .inr fun h => .inl h.2
  refine each_reaches_of (p := fun b => (b.rail (railOf f 0)).run) (I := Up (railOf f 0)) (g := fun b f => b.disableField now f)
    (fun g _ d hd => ?_) (fun d hd => disableField_run hd now) (fun g _ d hd => hstay g hd) hf (h.imp id .inl)
  obtain h3 | hsame := hstay g hd
  · exact .inr (.inr h3)
  · rwa [Up, hsame]

theorem disableFields_down {l : List Nat} {b : Block} (h : ∀ f ∈ l, b.pairUp f = false) (now : Nat) :
    (b.each l (fun b f => b.disableField now f)).rails = b.rails :=
  each_inv (I := fun d => d.rails = b.rails) (fun f hf _ hd => (disableField_down ((pairUp_congr hd f).trans (h f hf)) now).trans hd) rfl

theorem disableWorked_keeps (c : Cmd) (s : State) : (s.b.begun s.tick 0xA1 c).Keeps [.regs, .fields, .rails, .nv, .mon] (disableWorked c s) := by
  unfold disableWorked
  have hfields : (s.b.begun s.tick 0xA1 c).Keeps [.regs, .fields, .rails]
      ((s.b.begun s.tick 0xA1 c).each (c.fset 0) (fun b f => b.disableField s.tick f)) :=
    (keeps_each fun b f => disableField_keeps b s.tick f).2 (.refl ..)
  exact (hfields.mono (by decide)).trans ((mapped_keeps ..).mono (by decide))

theorem disableWorked_rail (c : Cmd) (s : State) (k : Nat) : (disableWorked c s).rail k =
    ((s.b.begun s.tick 0xA1 c).each (c.fset 0) (fun b f => b.disableField s.tick f)).rail k := (mapped_keeps ..).rail (by decide) k

theorem disableWorked_pairUp (c : Cmd) (s : State) (f : Nat) : (disableWorked c s).pairUp f = s.b.pairUp f := by
  have hup (k : Nat) : (((disableWorked c s).rail k).run != 0) = ((s.b.rail k).run != 0) := by
    rw [disableWorked_rail, (disableFields_stopped ..).up, (begun_keeps ..).rail (by decide)]
  rw [pairUp, hup, hup, pairUp]

/-- The named fields whose pair is up. -/
def disableNames (c : Cmd) (s : State) : List Nat := (c.fset 0).filter (fun f => s.b.pairUp f)

theorem exec_railDisable (h : Passes 0xA1 c s) (hfree : (c.fset 0).any (fun f => s.b.holdsTickets f) = false) :
    exec (.railDisable c) s = .next { s with
      b := if (disableNames c s).isEmpty then ((disableWorked c s).accept s.tick (portNo c.port) []).done s.tick (portNo c.port) []
        else ((disableWorked c s).accept s.tick (portNo c.port) []).await (portNo c.port) (.disable (disableNames c s) (c.opt 0)) } := by
  have hfree' : (c.fset 0).any (fun f => (s.b.begun s.tick 0xA1 c).holdsTickets f) = false := by
    unfold holdsTickets slotsOf at hfree ⊢
    rwa [(begun_keeps ..).same .slots (by decide)]
  have hnames : (c.fset 0).filter (fun f => (disableWorked c s).pairUp f) = disableNames c s := by
    simp only [disableWorked_pairUp]
    rfl
  rw [← hnames]
  show execRailDisable c s = _
  rw [execRailDisable, h.runCmdB_eq]
  dsimp only
  rw [if_neg (fun e => Bool.false_ne_true (hfree'.symm.trans e))]
  unfold disableWorked mapped disableField outDue unqueued
  dsimp only

theorem railDisable_waits (h : Passes 0xA1 c s) (hfree : (c.fset 0).any (fun f => s.b.holdsTickets f) = false)
    (hl : (disableNames c s).isEmpty = false) : ∃ t, exec (.railDisable c) s = .next t ∧ InBlock s t ∧
      Waits c (.disable (disableNames c s) (c.opt 0)) t ∧
      ∀ f ∈ c.fset 0, (s.b.rail (railOf f 0)).run = 1 ∨ (s.b.rail (railOf f 0)).run = 2 → (t.b.rail (railOf f 0)).run = 3 := by
  have hexec := exec_railDisable h hfree
  rw [if_neg (fun e => Bool.false_ne_true (hl.symm.trans e))] at hexec
  have hwork := disableWorked_keeps c s
  refine ⟨_, hexec, inBlock_mk .., waits_worked _ (hwork.port (by decide) _) (congrArg Hub.staged (hwork.hub (by decide))), fun f hf hrun => ?_⟩
  have hbegun : (s.b.begun s.tick 0xA1 c).rail (railOf f 0) = s.b.rail (railOf f 0) := (begun_keeps ..).rail (by decide) _
  have hstop := disableFields_run hf (b := s.b.begun s.tick 0xA1 c) (by rw [hbegun]; exact hrun) s.tick
  dsimp only
  rw [(await_keeps ..).rail (by decide), (accept_keeps ..).rail (by decide), disableWorked_rail]
  exact hstop

theorem railDisable_none (h : Passes 0xA1 c s) (hfree : (c.fset 0).any (fun f => s.b.holdsTickets f) = false)
    (hl : disableNames c s = []) (hroom : s.b.hub.staged.length < 15) :
    ∃ t, exec (.railDisable c) s = .next t ∧ InBlock s t ∧ Answered 0xA1 stDone c t ∧ t.b.rails = s.b.rails := by
  have hexec := exec_railDisable h hfree
  rw [if_pos (by rw [hl]; rfl)] at hexec
  have hwork := disableWorked_keeps c s
  have htaken : Taken 0xA1 c s.tick (disableWorked c s) :=
    (begun_taken 0xA1 c s.tick (Nat.lt_succ_of_lt hroom)).of_keeps hwork (by decide) (by decide)
  have hready := htaken.accept_ready (by rw [hwork.hub (by decide)]; exact hroom) s.tick []
  have hbegun : (s.b.begun s.tick 0xA1 c).rails = s.b.rails := (begun_keeps ..).same .rails (by decide)
  have hdown : ∀ f ∈ c.fset 0, (s.b.begun s.tick 0xA1 c).pairUp f = false := fun f hf => by
    rw [pairUp_congr hbegun]
    exact Bool.eq_false_iff.2 (List.filter_eq_nil_iff.1 hl f hf)
  refine ⟨_, hexec, inBlock_mk .., hready.answered rfl (show 0xA1 < 256 by decide) (by decide) (by decide) s, ?_⟩
  dsimp only
  rw [done, (answer_keeps ..).same .rails (by decide), (accept_keeps ..).same .rails (by decide), disableWorked,
    (mapped_keeps ..).same .rails (by decide), disableFields_down hdown, hbegun]

end Disable

/-! ### Settling O59 -/

/-- Settles O59. -/
theorem windowAndRails : Obligations.WindowAndRails := by
  unfold Obligations.WindowAndRails
  refine ⟨fun c s hpass => ?_, fun c s hpass => ?_, fun c s hpass => ?_, fun p s hheld hdue => ?_, fun p s hheld => exec_leaseExpiry_none hheld,
    fun s hrun hidle => ?_, fun s hrun => exec_journalAppend_down hrun, fun c l s hpass hl => ?_, fun c s hpass hfree =>
      ⟨fun hl => railDisable_waits hpass hfree hl, fun hl hroom => railDisable_none hpass hfree hl hroom⟩⟩
  · have hbegun := begun_begun 0x01 c s.b s.tick
    have hmgr : s.b.mgr < 2 ^ 4 := s.b.rd_lt ..
    refine ⟨_, exec_ping hpass, inBlock_mk .., hbegun.answered rfl (by decide) _ s, ?_, ?_, ?_⟩
    · exact (hbegun.rspWord rfl _ s (by decide)).trans (Nat.mod_mod _ _)
    · refine (hbegun.rspWord rfl _ s (by decide)).trans (Nat.mod_eq_of_lt ?_)
      show s.tick / 2 ^ 32 % 2 ^ 16 + 2 ^ 16 * s.b.mgr < 2 ^ 32
      omega
    · exact (hbegun.staged rfl _).trans (congrArg Hub.staged (begun_hub ..))
  · obtain ⟨x, y, hexec⟩ := exec_lease hpass
    have hp := portNo_lt c.port
    have hleased : Begun 0x02 c s.tick ((s.b.begun s.tick 0x02 c).leased s.tick (portNo c.port) (c.opt 0)) :=
      (begun_begun ..).of_keeps (leased_keeps ..) (by decide)
    refine ⟨_, hexec, inBlock_mk .., hleased.answered rfl (by decide) _ s, ?_, ?_, fun htake => ?_⟩
    · dsimp only
      rw [flag, done, answer_rd (by decide), ← flag, leased_held _ _ hp]
    · have hepoch : ∀ p : CmdPort, (HUB_LEASE.LEASE_EPOCH (portNo p)).Fits ∧ (HUB_LEASE.LEASE_EPOCH (portNo p)).page ∉ windowPages :=
        fun p => by cases p <;> decide
      refine (hleased.rspWord rfl _ s (by decide)).trans ?_
      dsimp only
      rw [done, answer_rd (hepoch c.port)]
      exact Nat.mod_eq_of_lt (rd_lt ..)
    · dsimp only
      rw [bit, done, answer_rd (by decide), ← bit, htake, leased_attended _ _ hp]
  · obtain ⟨x, y, z, hexec⟩ := exec_queryState hpass
    have hbegun := begun_begun 0x03 c s.b s.tick
    rw [stateWord_begun, openCount_begun, inService_begun, (begun_regsOff ..).rd (by decide)] at hexec
    refine ⟨_, hexec, inBlock_mk .., hbegun.answered rfl (by decide) _ s, ?_, ?_, ?_, ?_, ?_⟩
    · exact (hbegun.rspWord rfl _ s (by decide)).trans (Nat.mod_eq_of_lt (stateWord_lt _))
    · exact (hbegun.rspWord rfl _ s (by decide)).trans (Nat.mod_mod _ _)
    · exact hbegun.rspWord rfl _ s (by decide)
    · exact (hbegun.rspWord rfl _ s (by decide)).trans (Nat.mod_eq_of_lt (rd_lt ..))
    · refine (hbegun.rspWord rfl _ s (by decide)).trans (Nat.mod_eq_of_lt ?_)
      show 84 - s.b.inService.length < 2 ^ 32
      omega
  · obtain ⟨e, hexec⟩ := exec_leaseExpiry hheld hdue
    have hfree := freshes_keeps s.b 5
    refine ⟨_, hexec, inBlock_mk .., leaseOver_held .., ?_, ?_, ?_⟩
    · dsimp only
      rw [leaseOver_staged, hfree.hub (by decide), List.length_append, List.length_singleton]
    · dsimp only
      rw [(leaseOver_keeps ..).same .agents (by decide), hfree.same .agents (by decide)]
    · dsimp only
      rw [leaseOver_faults, hfree.faults (by decide)]
  · refine ⟨_, exec_journalAppend hrun hidle, inBlock_mk .., journalKept_staged .., ?_⟩
    dsimp only
    rw [journalKept, appends_wr, rd_modHub]
  · subst hl
    exact ⟨fun hsome => railEnable_waits hpass hsome, fun hnone hroom => railEnable_none hpass hnone hroom⟩

end Sys2Proof.Machine
end
